-- ==== Sys2Proof/Word.lean ====
section
/-!
DEFINITION. The word types of the module: bytes, 32-bit register words, and 64-bit profile entries, with the
plainest helpers over them.
-/

namespace Sys2Proof

/-- A byte of a frame, an image or the non-volatile store. -/
abbrev Byte := BitVec 8

/-- A 32-bit register word (R549). -/
abbrev Word := BitVec 32

/-- A 64-bit profile table entry (R228). -/
abbrev Entry := BitVec 64

/-- The unsigned value of bits `[hi:lo]` of a word. -/
def Word.bits (w : Word) (hi lo : Nat) : Nat := (w.toNat >>> lo) % 2 ^ (hi + 1 - lo)

/-- The unsigned value of bits `[hi:lo]` of a profile entry. -/
def Entry.bits (w : Entry) (hi lo : Nat) : Nat := (w.toNat >>> lo) % 2 ^ (hi + 1 - lo)

/-- Bit `i` of a word. -/
def Word.bit (w : Word) (i : Nat) : Bool := w.getLsbD i

/-- A natural number as the two's complement value of a field of `n` bits. -/
def signedOf (n v : Nat) : Int := if v < 2 ^ (n - 1) then (v : Int) else (v : Int) - 2 ^ n

end Sys2Proof
end

