-- ==== Sys2Proof/Syntax.lean ====
section
/-!
DEFINITION. The commands of the block: one constructor of `Instr` per row of spec/opcode_table.json, with the
operands that the row's rule names. A row is a register write (its operands are the requester and the fields
written), a frame on one of the buses, or an event at a connector, a comparator or a timer (its operands are what the
part observes: measured values in the units of R10 and, where a rule asks for persistence, how long they have held).
-/

namespace Sys2Proof

/-- Who makes a register access, with the codes of SYS_AERR.req (R559). -/
inductive Req where
  | sched | mgmt | host
  deriving DecidableEq, Repr

/-- The code of a requester in SYS_AERR.req (R559). -/
def Req.code : Req → Nat
  | .sched => 0
  | .mgmt => 1
  | .host => 2

/-- A source port P1-P4, numbered 0-3 (R574). -/
abbrev SPort := Fin 4
/-- A battery port B1-B3, numbered 0-2 (R574). -/
abbrev BPort := Fin 3
/-- Any port P1-P4, B1-B3, L1, L2, numbered 0-8 as DOM and CULM number them (R574). -/
abbrev Port := Fin 9
/-- A branch L1.1-L2.4, numbered 0-7 (R574). -/
abbrev Branch := Fin 8
/-- A cell: H0-H15 are 0-15 and L0-L23 are 16-39 (R105). -/
abbrev Cell := Fin 40
/-- A converter group G0-G6 (R77). -/
abbrev Group := Fin 7
/-- A flow context 0-159 (R187). -/
abbrev Ctx := Fin 160
/-- A temperature sensor T0-T47 (R284). -/
abbrev Sensor := Fin 48
/-- A sense channel (R353). -/
abbrev Chan := Fin 128
/-- A crossing x0-x4 (R356). -/
abbrev Xing := Fin 5
/-- A register block by its top address byte (R556). -/
abbrev Blk := Fin 21
/-- A fault source of a block (R432). -/
abbrev Src := Fin 8
/-- A ring hop side: 0 is A, 1 is B (R541). -/
abbrev Side := Fin 2
/-- A fan F0-F2 (R299). -/
abbrev Fan := Fin 3
/-- A BMS index (R533). -/
abbrev Bms := Fin 16

/-- One sample of a converter group's wave (R344, R353): the group's port, its cells, the culm and the branches.
Voltages in mV, currents in 10 mA (R10, R11). -/
structure Wave where
  /-- Iteration time of this wave, ns (R346). -/
  tIter : Nat
  /-- Wave latency, ns (R346). -/
  tLat : Nat
  /-- Terminal voltage of the group's port. -/
  vTerm : Int
  /-- Stage voltage of the group's port. -/
  vStage : Int
  /-- Current of the group's port, positive into the module. -/
  iPort : Int
  /-- Culm voltage (channel 109). -/
  vCulm : Int
  /-- Current and loss (W) of each sampled cell. -/
  cells : List (Cell × Int × Nat)
  /-- Branch currents, delivery negative (channels 110-117). -/
  branchI : Vector Int 8
  /-- Branch output voltages (channels 118-125). -/
  branchV : Vector Int 8
  /-- Return stud currents (channels 126, 127). -/
  ret : Vector Nat 2
  /-- Power that a class 0 source offers at its reference, W (R160 code 9). -/
  pAvail : Nat
  /-- Line frequency, 0.01 Hz, and power factor and distortion of an AC port (R184). -/
  freq : Nat
  pf : Nat
  thd : Nat
  /-- NTC resistance of a battery port, ohm, and its temperature, 1/16 degC (R48). -/
  ntcOhm : Nat
  ntcT : Int
  /-- Channels whose conversion failed in this wave (R355). -/
  failed : List Chan
  deriving DecidableEq, Repr

/-- What qualification observes at a source port (R155): voltages in 100 mV, frequency in 0.01 Hz, insulation in
kilohm, all as SRC fields hold them. -/
structure QualObs where
  /-- Signed mean voltage, + terminal above − terminal when positive. -/
  vMean : Int
  /-- Rms voltage. -/
  vRms : Nat
  /-- AC component, per cent of the mean. -/
  acPct : Nat
  /-- A zero crossing was seen. -/
  cross : Bool
  /-- Two zero crossings per period at half-period spacing within 5 %. -/
  acWave : Bool
  freq : Nat
  /-- The lower of the two pole readings. -/
  riso : Nat
  deriving DecidableEq, Repr

/-- What the loss comparators of R175 observe at a Supplying port. -/
structure LossObs where
  /-- Terminal current and the group's commanded instantaneous current, 10 mA. -/
  iTerm : Int
  iCmd : Int
  /-- Persistence of the current criteria, ns. -/
  heldNs : Nat
  /-- Stage voltage, and rms over the last half cycle, 100 mV. -/
  vStage : Nat
  vHalf : Nat
  /-- Lateness of a zero crossing, per cent of the period. -/
  lateP : Nat
  freq : Nat
  deriving DecidableEq, Repr

/-- A cell order of Thresher (R335): migration or add of a cell into a group. -/
structure Order where
  cell : Cell
  dest : Group
  deriving DecidableEq, Repr

/-- The readings of the start checks of R87. -/
structure StartObs where
  gateOk : Bool
  /-- Current sense offset, 10 mA. -/
  offset : Int
  selOk : Bool
  /-- Pre-bias voltage and port voltage, mV. -/
  vBias : Int
  vPort : Int
  deriving DecidableEq, Repr

/-- A Sheaf Link frame (R509), less its CRC and hop framing. -/
structure Frame where
  dst : Byte
  src : Byte
  stag : BitVec 16
  typ : Byte
  seq : Byte
  hops : Byte
  flags : Byte
  payload : List Byte
  /-- Counter and tag of the authentication trailer (R525). -/
  trailer : Option (BitVec 32 × BitVec 128)
  deriving DecidableEq, Repr

/-- The kinds of crossing item that are raised by name (R357). -/
inductive XItem where
  /-- Stook grant and lending allowance, x0, replace. -/
  | stook (grant lend : BitVec 16)
  /-- Frame notice for this module, x0 or x2, counted. -/
  | notice
  /-- Host register access or its reply, frame transmit request, processor write: back-pressured. -/
  | backPressured
  /-- Setpoint command, x1, counted: the slot keeps the newest command. -/
  | setpoint (cmd : Word)
  /-- Setpoint status, x1, replace. -/
  | setpointStatus (tag : Byte)
  /-- BMS limits of one index, x2, replace. -/
  | bms (k : Bms)
  /-- Real-time clock value, x3, replace. -/
  | rtc (sec : Nat)
  /-- Root tick, x3, counted. -/
  | tick
  /-- Log report, x3, counted, one slot per block and source. -/
  | report (b : Blk) (s : Src)
  /-- State saves into retained memory, x3, replace: the generation of a context, the estimator save, the thermal model save, and the
  energy checkpoint of a port. -/
  | saveGen (c : Ctx)
  | saveEst
  | saveThm
  | saveEnergy (p : Port)
  /-- Program or erase complete, x4, counted. -/
  | nvsDone
  deriving DecidableEq, Repr

/-- The answer of the estimator to a knee check (R246, R269). -/
inductive Knee where
  | confirmed | notConfirmed | unavailable
  deriving DecidableEq, Repr

/-- The commands of the block, one per row of spec/opcode_table.json. -/
inductive Instr where
  -- Flows (R187-R220)
  | flowCreate (r : Req) (h : BitVec 16)
  | flowModify (r : Req) (h : BitVec 16)
  | flowSuspend (r : Req) (h : BitVec 16)
  | flowResume (r : Req) (h : BitVec 16)
  | flowDestroy (r : Req) (h : BitVec 16)
  | flowOpInvalid (r : Req) (op : BitVec 4) (h : BitVec 16)
  | flowOpeningDone (c : Ctx)
  | flowClosingDone (c : Ctx) (cur : Int)
  | flowClosingTimeout (c : Ctx) (cur : Int)
  -- Image update and activation (R395-R431)
  | imgUpdOpen (r : Req)
  | imgUpdProgram (r : Req) (page : BitVec 9)
  | imgUpdClose (r : Req)
  | imgUpdAbort (r : Req)
  | updateSessionTimeout
  | imgActivate (r : Req) (bank drain dark : Bool)
  | activationQuiescentPoint (readErr prevReadErr : Bool) (testFailed : List Cell)
  | imgCancel (r : Req)
  | activationTimeout
  | bridgeHandback (v : Nat) (heldUs : Nat)
  | imgConfirm (r : Req)
  | trialExpiry
  | imgRaisesv (r : Req)
  | nvsProgramComplete (ok : Bool)
  | nvsEraseComplete (ok : Bool)
  | nvsOperationOvertime
  -- Power states (R479-R506)
  | domRun (r : Req) (testFailed : List Cell)
  | domStandby (r : Req)
  | domWatch (r : Req)
  | domDormant (r : Req)
  | idleToDormant
  | stubbleDomainOff
  | supplyStart (feed : Fin 8) (hv : Option SPort) (loopClosed : Bool)
  | hvWake (p : SPort) (ac : Bool) (mv : Nat) (heldMs : Nat)
  | wakeLoopRequest (ohm1 ohm2 : Nat)
  | watchAlarm
  | resetLoopClosed (ohm : Nat)
  | resetLoopOpened (ohm : Nat)
  | startup (cal : Bool × Bool) (errs : Fin 3) (testFailed : List Cell) (sensorsFailed : List Sensor)
  | powerFail (mv : Nat) (heldUs : Nat) (saveOk : Bool)
  | powerRestoredInHoldup (mv : Nat) (heldUs : Nat)
  | holdupSpent
  | holdupNotReady (lost : Bool)
  | retentionSave (ok : Bool)
  | energyCheckpoint
  | safeLineReleased (testFailed : List Cell)
  -- Faults (R432-R444)
  | faultOccurrence (b : Blk) (s : Src) (obj : Nat)
  | graceTimerExpiry (b : Blk) (s : Src) (obj : Nat)
  | retryDue (b : Blk) (s : Src) (obj : Nat) (ok : Bool)
  | faultLiveClear (b : Blk) (s : Src) (obj : Nat)
  | fstW1cWrite (r : Req) (b : Blk) (v : Word)
  | ffrcForce (r : Req) (b : Blk) (v : Word)
  | fsevWrite (r : Req) (b : Blk) (v : Word)
  | fmskWrite (r : Req) (b : Blk) (v : Word)
  | parityError (b : Blk)
  -- Event log (R445-R454)
  | logReportArrival (b : Blk) (s : Src)
  | logGroupClose
  | logCommit (ok : Bool)
  | logStartupScan (readable : Bool)
  | logRseqRead (r : Req) (seq : Word)
  | logClrfirst (r : Req)
  | logClrlost (r : Req)
  | logErase (r : Req)
  -- Watchdog and host contact (R455-R468)
  | wdgCfgEnable (r : Req) (v : Word)
  | wdgKeyWrite (r : Req) (key : BitVec 16)
  | wdgExpiry
  | wdgClockMonitorTrip
  | controlCoreRestartDone
  | wdgClrcnt (r : Req)
  | wdgHckick (r : Req)
  | wdgHctWrite (r : Req) (v : Word)
  | hostContactExpiry
  | hostContact (f : Frame)
  -- Thresher (R313-R343)
  | thrCommit (r : Req) (v : Word)
  | thrRoundLatch
  | thrRoundPublish (handedOver setOk : Bool)
  | forecastExpiry
  | gensetStartTimeout
  | deferralEnd
  | stookGrantLost
  -- Pipeline, core supply, crossings (R344-R366)
  | pipelineWave (g : Group) (w : Wave)
  | priorityWave (g : Group) (w : Wave)
  | groupStall (g : Group) (us : Nat)
  | pipelineStall (us : Nat)
  | driveCommandTimeout (c : Cell) (us : Nat)
  | coreSupplyAdjust (tslow : Nat)
  | coreSupplyFault (mv : Nat) (heldUs : Nat)
  | crossingItemRaised (x : Xing) (i : XItem)
  | crossingItemTaken (x : Xing) (i : XItem) (lat : Nat)
  | crossingPeerReset (x : Xing) (coreSide : Bool)
  -- Fabric (R73-R110)
  | cellTrip (c : Cell)
  | cellStartChecksDone (c : Cell) (o : StartObs)
  | cellStartRetry (c : Cell)
  | migrationLatch (o : Order)
  | migrationStepDone (c : Cell)
  | migrationStepOvertime (c : Cell)
  | shedOrder (c : Cell)
  | shedParked (c : Cell) (share : Int)
  | parkHoldExpiry (c : Cell)
  -- Culm, governor, stubble supply (R111-R139)
  | culmPrechargeDone (v : Nat) (heldUs : Nat)
  | shortfallShed (v : Nat) (heldUs : Nat)
  | culmUnderVoltage (v : Nat) (heldUs : Nat)
  | culmSurplusOpen (v : Nat) (heldUs : Nat)
  | governorUpdate (vStage : Vector Nat 7) (vCulm : Nat) (eInd : Vector Nat 9)
  | governorTrip (p : Port) (i : Nat) (fallPct : Nat) (outward : Bool) (lt : Nat)
  | culmPceilWrite (r : Req) (p : Port) (v : Word)
  | portDischargeEnd (p : Port) (v : Nat)
  | dischargeBoundMissed (p : Port) (v : Nat)
  | dischargeElementHoldEnd (p : Port)
  | stubbleOverloadShed (i : Nat)
  | stubbleSupplyTrip (i : Int)
  | stubbleWindowLost (v : Nat) (heldUs : Nat)
  -- Load branches (R119-R124)
  | branchInstantTrip (b : Branch) (i : Nat) (lt : Nat)
  | branchOverloadTrip (b : Branch)
  | branchBackfeedTrip (b : Branch) (rev : Nat) (heldUs : Nat)
  | branchPrechargeDone (b : Branch) (v : Nat)
  | branchPrechargeFailed (b : Branch) (v : Nat) (elapsedUs : Nat)
  | branchRetry (b : Branch)
  | branchRestore (b : Branch)
  | portSumOverload (q : Side) (sum : Nat) (heldUs : Nat)
  | branchSwitchFailed (b : Branch) (v : Nat) (heldUs : Nat)
  -- Source ports (R149-R186)
  | srcPresenceMet (p : SPort) (mv : Nat) (heldMs : Nat)
  | srcPresenceLost (p : SPort) (mv : Nat) (heldMs : Nat)
  | srcQualificationFail (p : SPort) (o : QualObs)
  | srcStabilityRestart (p : SPort) (dv : Nat) (df : Nat)
  | srcQualified (p : SPort) (o : QualObs)
  | arcSelfTest (p : SPort) (detected : Bool) (ms : Nat)
  | srcStartSupply (p : SPort) (avail : Nat)
  | srcOrderedStop (p : SPort)
  | srcPvIdle (p : SPort) (avail : Nat) (heldS : Nat)
  | srcPvVocMeasure (p : SPort) (voc : Nat) (est : Nat)
  | srcHoldTimeEnd (p : SPort) (present : Bool) (riso : Nat)
  | srcLoss (p : SPort) (o : LossObs)
  | handOverComplete (p : SPort) (durUs : Nat) (droop : Nat)
  | arcDetected (p : SPort) (metric : Nat)
  | srcOvercurrent (p : SPort) (i : Nat) (heldUs : Nat)
  | srcHaltReleased (p : SPort)
  | srcRearm (r : Req) (p : SPort)
  | srcRequal (r : Req) (p : SPort)
  | srcSweep (r : Req) (p : SPort)
  | mpptPerturb (p : SPort) (power : Nat)
  | mpptSweepStart (p : SPort) (fallPct : Nat)
  | mpptSweepDone (p : SPort) (best : Nat)
  | flapClear (p : SPort)
  -- Battery ports (R221-R227)
  | batTerminalInRange (p : BPort) (mv : Int)
  | batQualifyTimeEnd (p : BPort) (mv : Int) (varPct10 : Nat)
  | batPrechargeDone (p : BPort) (vStage vTerm : Int)
  | batPrechargeFailed (p : BPort) (vStage vTerm : Int)
  | batAbsenceDetected (p : BPort) (vTerm : Int) (cur cmd : Int) (heldNs : Nat) (clampE : Nat)
  | batProbe (p : BPort) (fall : Nat)
  | batHaltRelease (p : BPort)
  | batOutOfRange (p : BPort) (mv : Int) (heldMs : Nat)
  | batIsolate (r : Req) (p : BPort)
  | batIsolateSwitchOpen (p : BPort) (cur : Int) (heldUs : Nat)
  | batConnect (r : Req) (p : BPort)
  | batRearm (r : Req) (p : BPort)
  | batOvercurrent (p : BPort) (cur : Nat) (heldUs : Nat)
  | ntcFault (p : BPort) (ohm : Nat)
  -- Charging (R228-R249)
  | chgQualifyCheck (p : BPort) (ocv : Int)
  | chgPhaseTransition (p : BPort)
  | phaseTmax (p : BPort)
  | safetyTimerExpiry (p : BPort)
  | preconditionCeilingHeld (p : BPort) (mv : Int) (heldS : Nat)
  | absorbExit (p : BPort) (cur : Nat) (heldS : Nat)
  | finishExit (p : BPort) (rise01mV : Nat) (heldMin : Nat)
  | floatRebulk (p : BPort) (mv : Int) (cur : Nat) (heldS : Nat)
  | restRestartVoltage (p : BPort) (mv : Int) (heldS : Nat)
  | equalizeDue (p : BPort)
  | chgEq (r : Req) (p : BPort)
  | chgEqcancel (r : Req) (p : BPort)
  | chgRestart (r : Req) (p : BPort)
  | thermalHold (p : BPort) (tLow tHigh : Int)
  | dvSample (p : BPort) (vCell01 : Int) (cur : Nat)
  | dtdtSample (p : BPort) (t : Int) (slope : Int) (heldS : Nat)
  | nickelHoldoffEnd (p : BPort)
  | kneeAnswer (p : BPort) (a : Knee)
  | chgOverVoltage (p : BPort) (mv : Int) (heldMs : Nat)
  | bmsLivenessTimeout (p : BPort)
  | bmsVoltageExceeded (p : BPort) (mv : Int) (heldMs : Nat)
  | profEloWrite (r : Req) (n : Fin 6144) (v : Word)
  | profEhiWrite (r : Req) (n : Fin 6144) (v : Word)
  | profEloRead (r : Req) (n : Fin 6144)
  | profChkRequest (r : Req) (ref : BitVec 13)
  -- Estimation (R260-R277)
  | estPointDone (p : BPort) (k : Fin 15) (re im : Int) (iPert : Nat) (vPeak : Nat) (culmPk : Nat)
  | estSweepStart (p : BPort)
  | estSweepDone (p : BPort)
  | estSweepPauseExpiry (p : BPort)
  | kneeBaseline (p : BPort) (z1 z100 : Int)
  | kneeCheck (p : BPort) (z1 z100 : Int)
  | estSweep (r : Req) (p : BPort)
  | estAbort (r : Req) (p : BPort)
  | estNewbat (r : Req) (p : BPort)
  | socCorrection (p : BPort) (ev : Fin 5) (vCell01 : Int)
  | estSave
  -- Thermal (R284-R307)
  | thmSample (raw : Vector Int 48)
  | throttleTick
  | throttleRecovery
  | thermalShutdownReturn
  | sensorRetry (s : Sensor) (raw : Option Int)
  | sensorReturn (s : Sensor) (raw : Int)
  | throttleHoldEnd
  | dieOverTemperature (c : Cell) (heldMs : Nat)
  | fanFailed (f : Fan) (speedPct : Nat) (heldMs : Nat)
  | fanRetry (f : Fan) (reached : Bool) (rpm : Nat)
  | thmHistorySave
  | modelConverged
  | modelInvalid (bad : List Sensor) (heldS : Nat)
  -- Feeder (R367-R376)
  | feederStartRequest (p : SPort) (mv : Nat)
  | feederCheckPassed (p : SPort) (vTerm vStage : Nat) (heldMs : Nat)
  | feederPrebiasDone (p : SPort) (mv : Nat) (checksOk : Bool)
  | feederPrebiasTimeout (p : SPort)
  | feederLimiting (p : SPort) (vOut : Nat) (heldUs : Nat)
  | feederUnderVoltage (p : SPort) (vOut : Nat) (heldMs : Nat)
  | feederOverVoltage (p : SPort) (vOut : Nat) (heldUs : Nat)
  | feederReverseCurrent (p : SPort) (cur : Int) (heldUs : Nat)
  | feederStop (p : SPort)
  | feederStopped (p : SPort) (cur : Int)
  | feederYield (p : SPort) (vCulm : Nat) (heldUs : Nat)
  | feederHaltReleased (p : SPort) (vStage : Nat)
  -- Awn link (R377-R389)
  | awnSetpointFrame (w : Word)
  | awnQueryFrame (w : Word)
  | awnKeepaliveFrame (w : Word)
  | awnReservedOpFrame (w : Word)
  | awnFrameDiscarded
  | awnSetpointArbitrate
  | awnSettled (v : Nat) (heldUs : Nat)
  | awnUnsettled (v : Nat)
  | awnLinkUp (w : Word)
  | awnLinkDown (violations : Nat)
  | awnLossholdExpiry
  | awnStatusPeriod
  | awnReplyTransmit
  | awnCfgWrite (r : Req) (v : Word)
  -- Sheaf Link (R507-R529)
  | ringSideUp (s : Side) (aligned : Nat)
  | ringSideDown (s : Side) (violations : Nat) (silentUs : Nat)
  | ringFrameForward (s : Side) (f : Frame) (crcOk : Bool)
  | discover (s : Side) (f : Frame)
  | identPeriodic
  | assign (f : Frame)
  | ringRead (f : Frame)
  | ringWrite (f : Frame)
  | ringStatRequest (f : Frame)
  | ringRetransmission (f : Frame)
  | ringUnknownType (f : Frame)
  | ringRequestBusy (f : Frame) (us : Nat)
  | hello (f : Frame) (nm : BitVec 128)
  | stook (f : Frame)
  | exchSend
  | exchReceived (f : Frame)
  | exchEvaluation
  | stookMissing
  | peerSilent (c : Ctx)
  | positionConflict (f : Frame)
  | ringKeyprog (r : Req) (authed : Bool)
  | ringEndsess (r : Req)
  | ringClrcnt (r : Req)
  -- CAN FD (R530-R538)
  | canLimitsFrame (k : Bms) (data : List Byte)
  | canStateFrame (k : Bms) (data : List Byte)
  | moduleStatusSend (p : BPort)
  | canBusOff
  | canErrorPassive
  | canBusDominant (us : Nat)
  | canCfgWrite (r : Req) (v : Word)
  -- Remaining register commands (R485, R559, R561)
  | domRtcWrite (r : Req) (v : Word)
  | sysClraerr (r : Req)
  | registerWrite (r : Req) (addr : BitVec 24) (size : Nat) (v : Word)
  -- Further events
  | bmsDischargeLimitExpiry (p : BPort)
  | holdupStoreReady
  | canFrameSent
  | ringOwnFrameSent (s : Side)
  | canErrorActiveRegained (tec rec : Nat)
  deriving DecidableEq, Repr

end Sys2Proof
end

