-- ==== Sys2Proof/WellFormed.lean ====
section
/-!
DEFINITION. Well-formed commands: operands that the spec bounds and whose type is wider than the bound. Machine numbers, ports,
cells and register indexes are bounded by their types; every command of which only those are bounded is well-formed.
-/

namespace Sys2Proof

/-- A register access is 1, 2 or 4 bytes wide (R550). -/
def accessSizeOk (n : Nat) : Bool := n == 1 || n == 2 || n == 4

/-- A list of cells or sensors names each at most once. -/
def distinct {α : Type} [DecidableEq α] (l : List α) : Bool := decide l.Nodup

/-- A percentage of a whole. -/
def percentOk (n : Nat) : Bool := decide (n ≤ 100)

/-- Positions on the ring as a frame names its sender and its receiver: 0 the host, 1-64 modules (R509). -/
def dstOk (b : Byte) : Bool := decide (b.toNat ≤ 64) || b == 0xFE || b == 0xFF
def srcOk (b : Byte) : Bool := decide (b.toNat ≤ 64) || b == 0xFE

/-- A frame of the ring: 0-256 bytes of payload, a trailer exactly where flags bit 0 is set, flags bits 7:2 zero (R509). -/
def frameOk (f : Frame) : Bool :=
  dstOk f.dst && srcOk f.src && decide (f.payload.length ≤ 256) && (f.trailer.isSome == f.flags.getLsbD 0) &&
    decide (f.flags.toNat < 4)

/-- A CAN FD frame carries at most 64 bytes (R530). -/
def canDataOk (l : List Byte) : Bool := decide (l.length ≤ 64)

/-- A wave of the pipeline: an iteration time of 600-2400 ns (R346), each cell sampled once. -/
def waveOk (w : Wave) : Bool := decide (600 ≤ w.tIter) && decide (w.tIter ≤ 2400) && distinct (w.cells.map (·.1)) && distinct w.failed

/-- Whether a command is well-formed. -/
def Instr.wf : Instr → Bool
  | .flowCreate _ _ => true
  | .flowModify _ _ => true
  | .flowSuspend _ _ => true
  | .flowResume _ _ => true
  | .flowDestroy _ _ => true
  | .flowOpInvalid _ op _ => decide (6 ≤ op.toNat)
  | .flowOpeningDone _ => true
  | .flowClosingDone _ _ => true
  | .flowClosingTimeout _ _ => true
  | .imgUpdOpen _ => true
  | .imgUpdProgram _ _ => true
  | .imgUpdClose _ => true
  | .imgUpdAbort _ => true
  | .updateSessionTimeout => true
  | .imgActivate _ _ _ _ => true
  | .activationQuiescentPoint _ _ failed => distinct failed
  | .imgCancel _ => true
  | .activationTimeout => true
  | .bridgeHandback _ _ => true
  | .imgConfirm _ => true
  | .trialExpiry => true
  | .imgRaisesv _ => true
  | .nvsProgramComplete _ => true
  | .nvsEraseComplete _ => true
  | .nvsOperationOvertime => true
  | .domRun _ failed => distinct failed
  | .domStandby _ => true
  | .domWatch _ => true
  | .domDormant _ => true
  | .idleToDormant => true
  | .stubbleDomainOff => true
  | .supplyStart _ _ _ => true
  | .hvWake _ _ _ _ => true
  | .wakeLoopRequest _ _ => true
  | .watchAlarm => true
  | .resetLoopClosed _ => true
  | .resetLoopOpened _ => true
  | .startup _ _ failed sensors => distinct failed && distinct sensors
  | .powerFail _ _ _ => true
  | .powerRestoredInHoldup _ _ => true
  | .holdupSpent => true
  | .holdupNotReady _ => true
  | .retentionSave _ => true
  | .energyCheckpoint => true
  | .safeLineReleased failed => distinct failed
  | .faultOccurrence _ _ _ => true
  | .graceTimerExpiry _ _ _ => true
  | .retryDue _ _ _ _ => true
  | .faultLiveClear _ _ _ => true
  | .fstW1cWrite _ _ _ => true
  | .ffrcForce _ _ _ => true
  | .fsevWrite _ _ _ => true
  | .fmskWrite _ _ _ => true
  | .parityError _ => true
  | .logReportArrival _ _ => true
  | .logGroupClose => true
  | .logCommit _ => true
  | .logStartupScan _ => true
  | .logRseqRead _ _ => true
  | .logClrfirst _ => true
  | .logClrlost _ => true
  | .logErase _ => true
  | .wdgCfgEnable _ _ => true
  | .wdgKeyWrite _ _ => true
  | .wdgExpiry => true
  | .wdgClockMonitorTrip => true
  | .controlCoreRestartDone => true
  | .wdgClrcnt _ => true
  | .wdgHckick _ => true
  | .wdgHctWrite _ _ => true
  | .hostContactExpiry => true
  | .hostContact f => frameOk f
  | .thrCommit _ _ => true
  | .thrRoundLatch => true
  | .thrRoundPublish _ _ => true
  | .forecastExpiry => true
  | .gensetStartTimeout => true
  | .deferralEnd => true
  | .stookGrantLost => true
  | .pipelineWave _ w => waveOk w
  | .priorityWave _ w => waveOk w
  | .groupStall _ _ => true
  | .pipelineStall _ => true
  | .driveCommandTimeout _ _ => true
  | .coreSupplyAdjust _ => true
  | .coreSupplyFault _ _ => true
  | .crossingItemRaised _ _ => true
  | .crossingItemTaken _ _ _ => true
  | .crossingPeerReset _ _ => true
  | .cellTrip _ => true
  | .cellStartChecksDone _ _ => true
  | .cellStartRetry _ => true
  | .migrationLatch _ => true
  | .migrationStepDone _ => true
  | .migrationStepOvertime _ => true
  | .shedOrder _ => true
  | .shedParked _ _ => true
  | .parkHoldExpiry _ => true
  | .culmPrechargeDone _ _ => true
  | .shortfallShed _ _ => true
  | .culmUnderVoltage _ _ => true
  | .culmSurplusOpen _ _ => true
  | .governorUpdate _ _ _ => true
  | .governorTrip _ _ fall _ _ => percentOk fall
  | .culmPceilWrite _ _ _ => true
  | .portDischargeEnd _ _ => true
  | .dischargeBoundMissed _ _ => true
  | .dischargeElementHoldEnd _ => true
  | .stubbleOverloadShed _ => true
  | .stubbleSupplyTrip _ => true
  | .stubbleWindowLost _ _ => true
  | .branchInstantTrip _ _ _ => true
  | .branchOverloadTrip _ => true
  | .branchBackfeedTrip _ _ _ => true
  | .branchPrechargeDone _ _ => true
  | .branchPrechargeFailed _ _ _ => true
  | .branchRetry _ => true
  | .branchRestore _ => true
  | .portSumOverload _ _ _ => true
  | .branchSwitchFailed _ _ _ => true
  | .srcPresenceMet _ _ _ => true
  | .srcPresenceLost _ _ _ => true
  | .srcQualificationFail _ o => percentOk o.acPct
  | .srcStabilityRestart _ _ _ => true
  | .srcQualified _ o => percentOk o.acPct
  | .arcSelfTest _ _ _ => true
  | .srcStartSupply _ _ => true
  | .srcOrderedStop _ => true
  | .srcPvIdle _ _ _ => true
  | .srcPvVocMeasure _ _ _ => true
  | .srcHoldTimeEnd _ _ _ => true
  | .srcLoss _ o => percentOk o.lateP
  | .handOverComplete _ _ _ => true
  | .arcDetected _ _ => true
  | .srcOvercurrent _ _ _ => true
  | .srcHaltReleased _ => true
  | .srcRearm _ _ => true
  | .srcRequal _ _ => true
  | .srcSweep _ _ => true
  | .mpptPerturb _ _ => true
  | .mpptSweepStart _ fall => percentOk fall
  | .mpptSweepDone _ _ => true
  | .flapClear _ => true
  | .batTerminalInRange _ _ => true
  | .batQualifyTimeEnd _ _ _ => true
  | .batPrechargeDone _ _ _ => true
  | .batPrechargeFailed _ _ _ => true
  | .batAbsenceDetected _ _ _ _ _ _ => true
  | .batProbe _ _ => true
  | .batHaltRelease _ => true
  | .batOutOfRange _ _ _ => true
  | .batIsolate _ _ => true
  | .batIsolateSwitchOpen _ _ _ => true
  | .batConnect _ _ => true
  | .batRearm _ _ => true
  | .batOvercurrent _ _ _ => true
  | .ntcFault _ _ => true
  | .chgQualifyCheck _ _ => true
  | .chgPhaseTransition _ => true
  | .phaseTmax _ => true
  | .safetyTimerExpiry _ => true
  | .preconditionCeilingHeld _ _ _ => true
  | .absorbExit _ _ _ => true
  | .finishExit _ _ _ => true
  | .floatRebulk _ _ _ _ => true
  | .restRestartVoltage _ _ _ => true
  | .equalizeDue _ => true
  | .chgEq _ _ => true
  | .chgEqcancel _ _ => true
  | .chgRestart _ _ => true
  | .thermalHold _ _ _ => true
  | .dvSample _ _ _ => true
  | .dtdtSample _ _ _ _ => true
  | .nickelHoldoffEnd _ => true
  | .kneeAnswer _ _ => true
  | .chgOverVoltage _ _ _ => true
  | .bmsLivenessTimeout _ => true
  | .bmsVoltageExceeded _ _ _ => true
  | .profEloWrite _ _ _ => true
  | .profEhiWrite _ _ _ => true
  | .profEloRead _ _ => true
  | .profChkRequest _ _ => true
  | .estPointDone _ _ _ _ _ _ _ => true
  | .estSweepStart _ => true
  | .estSweepDone _ => true
  | .estSweepPauseExpiry _ => true
  | .kneeBaseline _ _ _ => true
  | .kneeCheck _ _ _ => true
  | .estSweep _ _ => true
  | .estAbort _ _ => true
  | .estNewbat _ _ => true
  | .socCorrection _ _ _ => true
  | .estSave => true
  | .thmSample _ => true
  | .throttleTick => true
  | .throttleRecovery => true
  | .thermalShutdownReturn => true
  | .sensorRetry _ _ => true
  | .sensorReturn _ _ => true
  | .throttleHoldEnd => true
  | .dieOverTemperature _ _ => true
  | .fanFailed _ _ _ => true
  | .fanRetry _ _ _ => true
  | .thmHistorySave => true
  | .modelConverged => true
  | .modelInvalid bad _ => distinct bad
  | .feederStartRequest _ _ => true
  | .feederCheckPassed _ _ _ _ => true
  | .feederPrebiasDone _ _ _ => true
  | .feederPrebiasTimeout _ => true
  | .feederLimiting _ _ _ => true
  | .feederUnderVoltage _ _ _ => true
  | .feederOverVoltage _ _ _ => true
  | .feederReverseCurrent _ _ _ => true
  | .feederStop _ => true
  | .feederStopped _ _ => true
  | .feederYield _ _ _ => true
  | .feederHaltReleased _ _ => true
  | .awnSetpointFrame _ => true
  | .awnQueryFrame _ => true
  | .awnKeepaliveFrame _ => true
  | .awnReservedOpFrame _ => true
  | .awnFrameDiscarded => true
  | .awnSetpointArbitrate => true
  | .awnSettled _ _ => true
  | .awnUnsettled _ => true
  | .awnLinkUp _ => true
  | .awnLinkDown _ => true
  | .awnLossholdExpiry => true
  | .awnStatusPeriod => true
  | .awnReplyTransmit => true
  | .awnCfgWrite _ _ => true
  | .ringSideUp _ _ => true
  | .ringSideDown _ _ _ => true
  | .ringFrameForward _ f _ => frameOk f
  | .discover _ f => frameOk f
  | .identPeriodic => true
  | .assign f => frameOk f
  | .ringRead f => frameOk f
  | .ringWrite f => frameOk f
  | .ringStatRequest f => frameOk f
  | .ringRetransmission f => frameOk f
  | .ringUnknownType f => frameOk f
  | .ringRequestBusy f _ => frameOk f
  | .hello f _ => frameOk f
  | .stook f => frameOk f
  | .exchSend => true
  | .exchReceived f => frameOk f
  | .exchEvaluation => true
  | .stookMissing => true
  | .peerSilent _ => true
  | .positionConflict f => frameOk f
  | .ringKeyprog _ _ => true
  | .ringEndsess _ => true
  | .ringClrcnt _ => true
  | .canLimitsFrame _ data => canDataOk data
  | .canStateFrame _ data => canDataOk data
  | .moduleStatusSend _ => true
  | .canBusOff => true
  | .canErrorPassive => true
  | .canBusDominant _ => true
  | .canCfgWrite _ _ => true
  | .domRtcWrite _ _ => true
  | .sysClraerr _ => true
  | .registerWrite _ _ size _ => accessSizeOk size
  | .bmsDischargeLimitExpiry _ => true
  | .holdupStoreReady => true
  | .canFrameSent => true
  | .ringOwnFrameSent _ => true
  | .canErrorActiveRegained tec recv => decide (tec ≤ 127) && decide (recv ≤ 127)

end Sys2Proof
end

