-- ==== Sys2Proof/Machine/Records.lean ====
section
/-!
DEFINITION. The records that the state of the module is built from, chapter by chapter: plain data, with the spec's
names for states and fields. Each docstring names the rules.
-/

namespace Sys2Proof.Machine

/-! ### Faults, the event log and the watchdog (R432-R478) -/

/-- A cause of one block, at the object that the block's FFRC index field encodes (R433). -/
structure Cause where
  src : Src
  obj : Nat
  deriving DecidableEq, Repr

/-- A running grace timer of a Degrade source (R439). -/
structure Grace where
  src : Src
  obj : Nat
  /-- The instant, in microseconds, at which the timer ends. -/
  due : Nat
  deriving DecidableEq, Repr

/-- A retry: running, or begun and still inside its window (R443, R444). -/
structure Retry where
  src : Src
  obj : Nat
  start : Nat
  deriving DecidableEq, Repr

/-- What waits for the next iteration (R23, R24, R434, R440). -/
inductive Deferred where
  /-- A write of a field that a meeting point carries: the register's address and the word (R22, R23). -/
  | write (addr : Nat) (v : Word)
  /-- The bits of FST that a write of 1 cleared while their live bits were set (R434). -/
  | relatch (b : Blk) (bits : BitVec 8)
  /-- A further occurrence that the present one causes. -/
  | occurs (b : Blk) (s : Src) (obj : Nat)
  /-- A whole entry of the profile table (R233, R250). -/
  | entry (n : Nat) (w : BitVec 64)
  /-- The limits of a BMS that have crossed into the flow context store (R535). -/
  | limits (k : Bms)
  /-- A severity that the image gives takes effect (R440). -/
  | severity (b : Blk)
  deriving DecidableEq, Repr

/-- The fault state of one block that its FSEV, FGRC and FMSK registers do not hold (R432-R444). -/
structure BlkFault where
  fst : BitVec 8
  /-- Sources that occurred in the present iteration (R469). -/
  occNow : BitVec 8
  /-- Causes present. -/
  live : List Cause
  /-- Occurrences of the last 1 ms, for which each holds the live bit (R433), with the end of that time. -/
  recent : List Grace
  /-- The severity word in effect (R440). -/
  sev : Word
  frty : BitVec 8
  /-- At most eight (R439). -/
  grace : List Grace
  retries : List Retry
  /-- Retries begun, for the retry window (R444). -/
  windows : List Retry
  /-- A parity error stands (R442). -/
  parity : Bool
  /-- A Warn reaction of the block has set the module's warning flag, which still stands (R438). -/
  warned : Bool
  deriving DecidableEq, Repr

/-- Who drives a fault reaction line: the block and source, and whether it is the reaction of R438 or the block's own
protection. -/
structure Driver where
  blk : Blk
  src : Src
  obj : Nat
  /-- The reaction of R438, released when the live bit is clear and the FST bit has been cleared. -/
  reaction : Bool
  deriving DecidableEq, Repr

/-- The kind of a report (R443, R446). -/
inductive Kind where
  | occurrence | transient | lasting | cancelled
  deriving DecidableEq, Repr

/-- The code of a report kind in a log record (R446). -/
def Kind.code : Kind → Nat
  | .occurrence => 0
  | .transient => 1
  | .lasting => 2
  | .cancelled => 3

/-- A report on its way to the log, or in an open coincidence group (R445, R447). -/
structure Report where
  blk : Blk
  src : Src
  kind : Kind
  forced : Bool
  idx : Nat
  count : Nat
  sev : Nat
  deriving DecidableEq, Repr

/-- A log record (R446). -/
structure LogRec where
  seq : Nat
  sec : Nat
  usec : Nat
  sev : Nat
  forced : Bool
  kind : Kind
  blk : Blk
  src : Src
  count : Nat
  idx : Nat
  deriving DecidableEq, Repr

/-- A staged record, whether its page program has begun, and whether its saturation has been reported (R448). -/
structure Staged where
  record : LogRec
  programming : Bool
  satSaid : Bool
  deriving DecidableEq, Repr

/-- An open coincidence group (R447). -/
structure LogGroup where
  openAt : Nat
  sec : Nat
  usec : Nat
  reports : List Report
  deriving DecidableEq, Repr

/-- The log block outside retained memory (R445-R454, R476). -/
structure LogRecState where
  group : Option LogGroup
  /-- Waiting for the start-up scan (R451). -/
  scan : Bool
  commit : Bool
  erase : Bool
  newest : Nat
  oldest : Nat
  rseq : Word
  rdone : Bool
  rok : Bool
  rw : Vector Word 4
  /-- The block is at its first commit after a restore (R495). -/
  restored : Bool
  /-- How many of the staged records the start-up found staged (R451). -/
  found : Nat
  deriving DecidableEq, Repr

/-- The system watchdog outside retained memory (R455-R464). -/
structure WdgState where
  cfg : Word
  lock : Bool
  /-- The clock in use is the core tick (R460). -/
  clkCore : Bool
  /-- The first key has been received. -/
  armed : Bool
  run : Bool
  /-- When the counter last started, and the count at which it stands still while it does not run. -/
  since : Nat
  stood : Nat
  /-- The first period after a ladder step: P plus 2 s and no window (R463). -/
  firstPeriod : Bool
  good : Nat
  /-- Clocks that have tripped since the last power-on reset: root, core (R460). -/
  rootTripped : Bool
  coreTripped : Bool
  /-- When the last step of the ladder began (R461, R469). -/
  stepAt : Option Nat
  deriving DecidableEq, Repr

/-- The host-contact timer (R465-R468). -/
structure HostTimer where
  run : Bool
  since : Nat
  exp : Bool
  nexp : Nat
  /-- The count has reached zero since it was last restarted (R467). -/
  zero : Bool
  deriving DecidableEq, Repr

/-- The watchdog part of retained memory (R461, R464, R493). -/
structure WdgKept where
  level : Nat
  tries : Nat
  hold : Bool
  ccr : Nat
  mr : Nat
  lastCause : Nat
  lastStep : Nat
  lastTries : Nat
  deriving DecidableEq, Repr

/-! ### Power states (R479-R506) -/

/-- The module states of R479, and the two conditions that are not module states. -/
inductive ModState where
  | dormant | watch | standby | run | degraded | stubble | unpowered | inReset
  deriving DecidableEq, Repr

/-- The code of DOM_STAT.state and DOM_STAT.prev (R479). -/
def ModState.code : ModState → Nat
  | .dormant => 0
  | .watch => 1
  | .standby => 2
  | .run => 3
  | .degraded => 4
  | .stubble => 5
  | .unpowered => 0
  | .inReset => 0

/-! ### The power fabric (R73-R110) -/

/-- The topologies of R78. -/
inductive Topo where
  | none | ibk | tpr | fbo | fsw | bck | bst
  deriving DecidableEq, Repr

/-- The code of a topology (R78). -/
def Topo.code : Topo → Nat
  | .none => 0
  | .ibk => 1
  | .tpr => 2
  | .fbo => 3
  | .fsw => 4
  | .bck => 5
  | .bst => 6

/-- The cell states of R86. -/
inductive CellState where
  | off | idle | starting | active | shedding | parked | migrating | fenced
  deriving DecidableEq, Repr

/-- The code of FAB_CELL.state (R86). -/
def CellState.code : CellState → Nat
  | .off => 0
  | .idle => 1
  | .starting => 2
  | .active => 3
  | .shedding => 4
  | .parked => 5
  | .migrating => 6
  | .fenced => 7

/-- A whole command for a cell's gate drive (R344): the current target, uA at the port, positive into the module; the duty in thousandths;
the frequency in kHz; the interleave slot as an angle of 0.01 degrees; the mode of its group; and when it was handed over. -/
structure Gate where
  target : Int
  duty : Nat
  freq : Nat
  slot : Nat
  mode : Nat
  at_ : Nat
  deriving DecidableEq, Repr

/-- One cell (R73-R110). -/
structure CellRec where
  st : CellState
  /-- FAB_CELL.grp: the group of a member, or the receiver while Migrating. -/
  grp : Option Group
  /-- The group whose FAB_GRP.cellmask holds the cell. -/
  inMask : Option Group
  /-- Selector position (R76), and whether it is fully open. -/
  sel : Bool
  selOpen : Bool
  fcause : Src
  fcount : Nat
  ext : Bool
  /-- Port-side current, 10 mA, positive into the module; estimated loss, W. -/
  cur : Int
  loss : Nat
  starts : Nat
  migs : Nat
  /-- When the present Parked or Starting phase began. -/
  since : Nat
  /-- The cell's present start is the retry of FAB source 2. -/
  startRetry : Bool
  /-- That retry is due at this moment, and has not begun (R86). -/
  retryAt : Option Nat
  /-- The cell has been fenced and has not returned by an order or an activation since (R31). -/
  barred : Bool
  /-- Stopped for want of commands (R352); when the cell's last migration or add ended (R336). -/
  dropped : Bool
  movedAt : Option Nat
  /-- Drivers of the cell's fence line (R98). -/
  fence : List Driver
  /-- The whole command last handed to its gate drive, while it switches (R344). -/
  gate : Option Gate
  deriving DecidableEq, Repr

/-- What the image gives a group (R77, R107). -/
structure GroupCfg where
  topo : Topo
  allow : BitVec 24
  init : BitVec 24
  minph : Nat
  maxph : Nat
  fmin : Nat
  fmax : Nat
  shedlvl : Nat
  abortpct : Nat
  hold : Nat
  delay : Nat
  deriving DecidableEq, Repr

/-- One converter group as it runs (R80, R81, R83, R100). -/
structure GroupRec where
  cfg : GroupCfg
  freq : Nat
  /-- The frequency that R83 sets, before the dither of R85. -/
  base : Nat
  /-- FSW mode: 0 buck, 1 buck-boost, 2 boost; 3 for any other topology (R81). -/
  mode : Nat
  range : Bool
  starved : Bool
  /-- The die-limited group current of Thresher's last round, 10 mA (R320, R582). -/
  dieLim : Option Nat
  /-- Since when the current has stayed below the shed level (R93). -/
  lowSince : Option Nat
  /-- When a cell was last added, and last shed (R336); since when the demand has stood at 90 % of the capacity, and the
  cell that left at the end of its hold time (R335). -/
  addAt : Option Nat
  shedAt : Option Nat
  fullSince : Option Nat
  leftCell : Option Cell
  deriving DecidableEq, Repr

/-- A cell of a migration or add: the group that gives it, the state it started from, and whether its start checks have
passed (R89, R90, R92). -/
structure Part where
  cell : Cell
  donor : Option Group
  start : CellState
  passed : Bool
  deriving DecidableEq, Repr

/-- A migration or add in progress (R90). -/
structure Migr where
  /-- The cell that the order names, its donor, and the receiver. -/
  cell : Cell
  donor : Option Group
  dest : Group
  /-- The cells that move: the named one, and the other of a TPR pair (R89). -/
  parts : List Part
  /-- The last step of R90 that has completed. -/
  step : Nat
  t0 : Nat
  stepAt : Nat
  /-- When the selector was fully open, where it had to open (R76). -/
  openAt : Option Nat
  deriving DecidableEq, Repr

/-- FAB_MLOG (R106). -/
structure MlogRec where
  cell : Nat
  donor : Nat
  dest : Nat
  result : Nat
  dur : Nat
  deriving DecidableEq, Repr

/-- The fabric (R73-R110). -/
structure FabRec where
  maxmig : Nat
  dither : Bool
  mlog : MlogRec
  migs : List Migr
  deriving DecidableEq, Repr

/-! ### The culm, the load path and the governor (R111-R148) -/

/-- CULM_STAT.mode (R142). -/
inductive CulmMode where
  | off | precharge | regulating | shortfall | underVoltage | stubble
  deriving DecidableEq, Repr

/-- The code of CULM_STAT.mode (R142). -/
def CulmMode.code : CulmMode → Nat
  | .off => 0
  | .precharge => 1
  | .regulating => 2
  | .shortfall => 3
  | .underVoltage => 4
  | .stubble => 5

/-- The culm and its stubble supply (R111-R118, R136-R138). -/
structure CulmRec where
  mode : CulmMode
  /-- Culm voltage, and the active setpoint, mV. -/
  vmeas : Nat
  vset : Nat
  /-- Where the setpoint is slewing to, when, and at how many mV per ms (R113, R383). -/
  target : Nat
  slewFrom : Nat
  slewAt : Nat
  /-- A window edge on the way, mV, and the slew beyond it (R389). -/
  edge : Option (Nat × Nat)
  slew : Nat
  ild : Int
  msv : Nat
  uv : Nat
  ceilrej : Nat
  /-- Since when the culm has held within 2 % of the setpoint. -/
  within2 : Option Nat
  /-- Since when it has held within 0.5 V of the setpoint, and when a branch was last restored (R123). -/
  near : Option Nat
  restoredAt : Option Nat
  /-- Priority levels shed in the present shortfall (R115). -/
  shedLevels : Nat
  supPort : Option BPort
  supOn : Bool
  supCur : Int
  /-- Since when the stubble supply has carried more than 250 A (R137). -/
  supOver : Option Nat
  /-- Since when the switched element drains the culm (R135). -/
  drain : Option Nat
  deriving DecidableEq, Repr

/-- The governor's figures of a port (R125-R131). -/
structure GovRec where
  est : Nat
  ilim : Nat
  lt : Nat
  count : Nat
  /-- When the governor last tripped the port and began to drive its halt line (R128). -/
  tripAt : Option Nat
  /-- The stage voltage as the governor last measured it, mV, and when (R125, R134). -/
  vst : Nat
  vstAt : Nat
  deriving DecidableEq, Repr

/-- The discharge elements of P1-P4 and B1-B3 (R65, R133, R134). -/
structure StageRec where
  /-- When the drain in progress began, and when the last one did. -/
  drainAt : Option Nat
  lastAt : Nat
  /-- The port was in the feeder role at its last stop (R65). -/
  feeder : Bool
  /-- That drain is the retry of R134. -/
  again : Bool
  /-- The retry missed the bound too. -/
  stuck : Bool
  /-- When the elements absorbed their last events, and whether ten of them fell within 60 s. -/
  events : List Nat
  hold : Bool
  ext : Bool
  deriving DecidableEq, Repr

/-- The branch states of R120. -/
inductive BranchState where
  | opened | precharge | closed | tripped | shed | locked
  deriving DecidableEq, Repr

/-- The code of LOAD_BSTAT.state (R146). -/
def BranchState.code : BranchState → Nat
  | .opened => 0
  | .precharge => 1
  | .closed => 2
  | .tripped => 3
  | .shed => 4
  | .locked => 5

/-- One load branch (R119-R124). -/
structure BranchRec where
  st : BranchState
  /-- LOAD_BSTAT.cause: 0 none, 1 instant, 2 overload, 3 backfeed, 4 precharge failed, 5 shed, 6 port halt, 7 close refused. -/
  cause : Nat
  vout : Nat
  cur : Int
  /-- The overload integral S, in (10 mA)² ns, at the moment that follows. -/
  s : Nat
  sAt : Nat
  /-- Energy delivered since activation, in 10⁻¹⁴ J. -/
  energy : Nat
  inst : Nat
  /-- When the present state began. -/
  since : Nat
  /-- When the last retry of source 0 or 3 began (R146). -/
  retryAt : Option Nat
  /-- The present Precharge is a retry of this source. -/
  retrying : Option Src
  /-- A retry waits from this trip (R120). -/
  retryDue : Option Nat
  /-- The source of the last trip. -/
  trip : Src
  /-- The last current measured while Closed, for R123. -/
  lastCur : Nat
  /-- Opened by R116, and awaiting the restore order. -/
  await : Bool
  /-- Since when the spare culm capacity has exceeded 110 % of the last current (R123). -/
  spareSince : Option Nat
  /-- en was written 0 after the status bit of the lock had been cleared (R120). -/
  unlocking : Bool
  /-- Opened by a port halt line, and returning through Precharge (R120). -/
  byHalt : Bool
  /-- Locked by a Degrade reaction (R147, R441). -/
  degraded : Bool
  deriving DecidableEq, Repr

/-- A load port L1 or L2 (R122, R146). -/
structure LoadPort where
  cur : Int
  ret : Nat
  /-- When a branch of the port was last shed for the sum of its currents (R122). -/
  shedAt : Option Nat
  deriving DecidableEq, Repr

/-! ### Source ports (R149-R186) -/

/-- The roles of P1-P4 (R149, R184). -/
inductive Role where
  | unused | dc | ac | feeder
  deriving DecidableEq, Repr

/-- The code of SRC_PCFG.role (R184). -/
def Role.code : Role → Nat
  | .unused => 0
  | .dc => 1
  | .ac => 2
  | .feeder => 3

/-- The source port states of R152. -/
inductive SrcState where
  | unused | absent | qualifying | ready | supplying | lost | held | halted | locked | feeder
  deriving DecidableEq, Repr

/-- The code of SRC_PSTAT.state (R152). -/
def SrcState.code : SrcState → Nat
  | .unused => 0
  | .absent => 1
  | .qualifying => 2
  | .ready => 3
  | .supplying => 4
  | .lost => 5
  | .held => 6
  | .halted => 7
  | .locked => 8
  | .feeder => 9

/-- A sweep of the tracker (R168, R169). -/
structure Sweep where
  start : Nat
  /-- A partial sweep descends no lower than 0.8 of the voltage it started from. -/
  half : Bool
  /-- The reference at the start, the best reference found so far, in mV, and its power. -/
  from_ : Nat
  best : Nat
  bestP : Int
  /-- A wave has measured a point of the sweep. -/
  seen : Bool
  deriving DecidableEq, Repr

/-- The maximum power point tracker (R166-R170). -/
structure Mppt where
  /-- The reference, and the held reference of a Draw flow (R166), mV. -/
  vref : Nat
  heldRef : Nat
  up : Bool
  /-- The present step, 0.01 % of the port voltage. -/
  step : Nat
  /-- Moves made in the present direction. -/
  same : Nat
  lastPower : Nat
  /-- The power available at the tracked or held reference, W, the last found while the source is curtailed (R160, R326). -/
  avail : Nat
  movedAt : Nat
  sweep : Option Sweep
  /-- When the last sweep ended; since when a sweep has been deferred (R168, R169). -/
  sweptAt : Option Nat
  deferAt : Option Nat
  deriving DecidableEq, Repr

/-- A source port P1-P4 (R149-R186). -/
structure SrcRec where
  role : Role
  cls : Nat
  rbuf : BitVec 3
  arcen : Bool
  st : SrcState
  /-- SRC_PSTAT.cause (R184). -/
  cause : Nat
  lim : Nat
  flap : Bool
  riso : Nat
  /-- Voltages in 100 mV, currents in 10 mA, power in W, frequency in 0.01 Hz. -/
  v : Nat
  voc : Nat
  cur : Int
  pwr : Int
  freq : Nat
  pf : Nat
  thd : Nat
  metric : Nat
  arcs : Nat
  losses : Nat
  qfails : Nat
  /-- When the present state began, or the qualification timer last started. -/
  since : Nat
  /-- SRC_QV, SRC_QF and SRC_PROT as they stood when Qualifying was entered (R155). -/
  qv : Word
  qf : Word
  qprot : Word
  /-- Latched at entry to Ready (R157). -/
  nomV : Nat
  nomF : Nat
  lossV : Nat
  /-- Times of the losses of the last 10 min (R158). -/
  lossAt : List Nat
  /-- The arc self-test of this qualification has passed, or failed once (R155). -/
  arcPassed : Bool
  arcFailed : Bool
  /-- The insulation is measured again at the end of the hold time, and that retry has failed already (R152, R159). -/
  isoTry : Bool
  isoFailed : Bool
  /-- Presence is judged from this moment on (R180). -/
  judgeAt : Nat
  /-- An ordered stop is ramping the draw down (R165). -/
  stopping : Bool
  /-- A hand-over in progress: its t0 and the state that follows it (R176, R179). -/
  hov : Option (Nat × SrcState)
  /-- Source 7 waits for its retry from this moment (R185). -/
  ocAt : Option Nat
  /-- Stopped by R170, and when the open-circuit voltage was last measured. -/
  idle : Bool
  vocAt : Nat
  /-- The frequency foldback limit in force, W (R161). -/
  foldW : Nat
  mppt : Mppt
  /-- A reaction halted the port, and it has not requalified since (R441). -/
  reacted : Bool
  stage : StageRec
  deriving DecidableEq, Repr

/-- SRC_HOV (R184). -/
structure HovRec where
  port : Nat
  full : Bool
  dur : Nat
  droop : Nat
  /-- When it began. -/
  t0 : Nat
  deriving DecidableEq, Repr

/-! ### Flows (R187-R220) -/

/-- A flow definition: the four words of R217. -/
structure FlowDef where
  d0 : Word
  d1 : Word
  d2 : Word
  d3 : Word
  deriving DecidableEq, Repr

/-- The lifecycle states of R196. -/
inductive FlowSt where
  | free | opening | live | suspended | closing | fenced
  deriving DecidableEq, Repr

/-- The code of FLOW_CSTAT.state (R196). -/
def FlowSt.code : FlowSt → Nat
  | .free => 0
  | .opening => 1
  | .live => 2
  | .suspended => 3
  | .closing => 4
  | .fenced => 5

/-- A flow context (R187, R218), with Thresher's result for it (R341) and its pairing (R207). -/
structure FlowCtx where
  st : FlowSt
  gen : Nat
  d : FlowDef
  scause : BitVec 6
  safe : Bool
  fblk : Nat
  fsrc : Nat
  /-- Current, 10 mA (R11), and current grant magnitude. -/
  cur : Int
  grant : Nat
  /-- The current times its time since Thresher's last latch, 10 mA times ns, and that time, ns (R313). -/
  curSum : Nat
  curNs : Nat
  /-- Energy moved since creation, in 10⁻¹⁴ J; time Live and Suspended before `since`, in microseconds. -/
  energy : Nat
  liveUs : Nat
  suspUs : Nat
  /-- When the present state began. -/
  since : Nat
  /-- Magnitude of the current when DESTROY was executed (R205). -/
  closeI : Nat
  /-- The time of the last hardware event or fence that took the flow (R26, R199 code 10). -/
  evAt : Option Nat
  /-- Since when the grant has been zero (R152). -/
  zeroAt : Option Nat
  /-- A profile reference waits for the next phase transition (R201). -/
  newProf : Bool
  /-- The flow's own limit as it is ramped, uA, and whether it still rises from zero after a return to Live (R201, R203). -/
  lim : Nat
  rising : Bool
  /-- Since when the current has exceeded the bound of FLOW source 5 (R219). -/
  overAt : Option Nat
  /-- The current that the Regulate stage commands, uA (R112); a Discharge flow is below its cut-off (R194). -/
  cmd : Nat
  cut : Bool
  /-- Freed at the next iteration (R205, R206). -/
  leaving : Bool
  pgrant : Nat
  heat : Nat
  /-- THR_FG.st: 0 not granted, 1 granted, 2 deferred, 3 surplus wait, 4 late entrant, 5 held. -/
  gst : Nat
  paired : Bool
  peer : Nat
  peerGrant : Nat
  /-- The stag of the paired peer (R527). -/
  pstag : Nat
  deriving DecidableEq, Repr

/-- The block-wide FLOW registers that status drives (R216). -/
structure FlowBlk where
  result : Nat
  done : Bool
  /-- A command waits for its iteration (R200). -/
  busy : Bool
  seq : Nat
  handle : BitVec 16
  stale : Nat
  other : Nat
  gensrc : Bool
  deriving DecidableEq, Repr

/-! ### The configuration image and the non-volatile store (R395-R431) -/

/-- What the image gives P1-P4 (R396 type 2). -/
structure PortCfg where
  role : Role
  cls : Nat
  rbuf : BitVec 3
  arcen : Bool
  deriving DecidableEq, Repr

/-- A safe profile of a flow kind (R396 type 6): limits in 10 mA and W, and for Charge a reference for each port. -/
structure SafeProf where
  ilim : Nat
  plim : Nat
  prof : Vector Nat 3
  deriving DecidableEq, Repr

/-- The content of an image's sections (R396). The registers that the image sets stand in `regs`, by address. -/
structure ImageData where
  groups : Vector GroupCfg 7
  maxmig : Nat
  dither : Bool
  ports : Vector PortCfg 4
  stub : Option BPort
  inst : Vector Nat 8
  /-- Image-set RW registers of the SRC, BAT, CHG, EST, AWN, CULM and THR blocks and FSEV, FGRC and FMSK of every
  block: address and value. One that is not listed takes its reset value. -/
  regs : List (Nat × Word)
  frty : Vector (BitVec 8) 21
  /-- Profile table entries: index and value; the rest are Empty. -/
  profiles : List (Nat × Entry)
  safe : Vector SafeProf 6
  safeCount : Nat
  /-- The Routing section's loop coefficients of each group and of the culm, and the comparator windows of the priority waves of each group
  (R349, R396): numbers whose layout the manual does not give. -/
  loops : Vector (List Nat) 8
  windows : Vector (List Nat) 7
  hcPeriod : Nat
  startFlows : List FlowDef
  thrCfg : Word
  thrCimg : Word
  thmThr : Nat
  thmWarn : Nat
  thmCfg : Word
  senseCfg : Word
  msv : Nat
  uv : Nat
  calLevel : Nat
  /-- The thermal model's numbers of the Calibration section, and whether they pass their check (R287, R292). -/
  cal : List Int
  calOk : Bool
  deriving DecidableEq, Repr

/-- The bank states of R405. -/
inductive BankSt where
  | empty | writing | valid | invalid | active
  deriving DecidableEq, Repr

/-- The code of IMG_BANK.state (R405). -/
def BankSt.code : BankSt → Nat
  | .empty => 0
  | .writing => 1
  | .valid => 2
  | .invalid => 3
  | .active => 4

/-- One bank as the boot record and IMG_BANK show it (R405, R425). -/
structure BankRec where
  st : BankSt
  cause : Nat
  seq : Nat
  deriving DecidableEq, Repr

/-- One copy of the boot record (R406). -/
structure BootRec where
  number : Nat
  active : Side
  banks : Vector BankRec 2
  trial : Bool
  trialStarts : Nat
  deriving DecidableEq, Repr

/-- The update session (R409, R425): IMG_STAT.sess. -/
inductive Session where
  | closed | erasing | opened | checking
  deriving DecidableEq, Repr

/-- The code of IMG_STAT.sess. -/
def Session.code : Session → Nat
  | .closed => 0
  | .erasing => 1
  | .opened => 2
  | .checking => 3

/-- The activation in progress (R412-R417): IMG_STAT.asta. -/
inductive ActSt where
  | none | checking | draining | waiting | applying
  deriving DecidableEq, Repr

/-- The code of IMG_STAT.asta. -/
def ActSt.code : ActSt → Nat
  | .none => 0
  | .checking => 1
  | .draining => 2
  | .waiting => 3
  | .applying => 4

/-- A pending activation (R412). -/
structure ActReq where
  bank : Side
  drain : Bool
  dark : Bool
  /-- When it was accepted (R414). -/
  at_ : Nat
  /-- Requested by the loader at a trial's expiry (R419). -/
  byTrial : Bool
  /-- Accepted while the return of R491 is held. -/
  heldReturn : Bool
  /-- The setpoint still slews to the bridge level, after which the drain begins (R413). -/
  plan : Bool
  deriving DecidableEq, Repr

/-- The image loader (R395-R427). -/
structure ImgRec where
  /-- The image in force. -/
  image : Option ImageData
  act : Side
  boot : Vector (Option BootRec) 2
  banks : Vector BankRec 2
  trial : Bool
  trialStarts : Nat
  /-- The trial's time in Run or Degraded before `trialAt`, microseconds, and when it last began to count (R419). -/
  trialUs : Nat
  trialAt : Option Nat
  /-- A trial expiry has been reported and the reversion runs (R422). -/
  trialOver : Bool
  sess : Session
  /-- Pages programmed in this session (R409). -/
  pages : List (Fin 512)
  lastOp : Nat
  asta : ActSt
  req : Option ActReq
  bridge : Bool
  nsfl : Nat
  build : Nat
  fmt : Nat
  secver : Nat
  keysel : Nat
  uresult : Nat
  udone : Bool
  useq : Nat
  upage : Nat
  aresult : Nat
  adone : Bool
  aseq : Nat
  acause : Nat
  pbuf : Vector Word 64
  /-- The boot record is to be written once the store takes page programs again (R298). -/
  bootDue : Bool
  /-- The copy of the boot record last written, and when its page program began (R406). -/
  bootAt : Option (Side × Nat)
  /-- The copy of the factory calibration in use; both copies failed their check, so that no image is activated (R403). -/
  calCopy : Side
  calBad : Bool
  /-- The profile table must be written to the backing after Run entry (R404). -/
  backing : Bool
  deriving DecidableEq, Repr

/-- What the store is doing (R401, R410). -/
inductive NvOp where
  /-- The erase of a bank at Open. -/
  | eraseBank (b : Side)
  /-- The program of a page of the inactive bank, with IMG_PBUF as it stood at the order. -/
  | program (b : Side) (page : Fin 512) (data : Vector Word 64)
  /-- The erase of the log region. -/
  | logErase
  deriving DecidableEq, Repr

/-- The non-volatile store beside its bytes (R400-R404, R429). -/
structure NvsRec where
  /-- Operations in the order they were asked for; the first is in progress. -/
  ops : List NvOp
  since : Nat
  /-- The operation has begun: it does not wait for the write hold of R298. -/
  started : Bool
  /-- Since when the write hold has lasted. -/
  holdAt : Option Nat
  /-- The operation is the retry of NVS source 2 or 3. -/
  retry : Bool
  /-- Of an erase in progress, how many of its sectors are erased: one erase cycle takes one sector (R401). -/
  sector : Nat
  corr : Nat
  uncorr : Nat
  /-- Pages of the log region whose program did not end or was not verified: unreadable (R495). -/
  torn : List Nat
  /-- Erase cycles of each 4 KiB sector. -/
  wear : Vector Nat 128
  deriving DecidableEq, Repr

/-- The fuses (R3, R397, R456, R524, R566). -/
structure Fuses where
  /-- KN-NW30L (R3). -/
  variantL : Bool
  minsv : Nat
  k1 : Bool
  win : Nat
  nmax : Nat
  sn : BitVec 48
  /-- Ring key slots programmed, in order (R524). -/
  keys : List (Vector Word 8)
  deriving DecidableEq, Repr

/-- The SYS block (R559). -/
structure SysRec where
  cause : Nat
  req : Nat
  count : Nat
  addr : Nat
  deriving DecidableEq, Repr

/-! ### Retained memory and the domain controller (R479-R506) -/

/-- The wake causes of DOM_STAT.wake (R504). -/
inductive Wake where
  | none | hv | loop | alarm | reset | restored | watchdog | powerOn
  deriving DecidableEq, Repr

/-- The code of DOM_STAT.wake (R504). -/
def Wake.code : Wake → Nat
  | .none => 0
  | .hv => 1
  | .loop => 2
  | .alarm => 3
  | .reset => 4
  | .restored => 5
  | .watchdog => 6
  | .powerOn => 7

/-- The estimator save of one port (R277): state of charge in 0.01 %, uncertainty in 0.1 %, the capacity estimate, the
reference and its temperature, and the terminal voltage in mV. -/
structure EstSave where
  valid : Bool
  soc : Nat
  unc : Nat
  qest : Nat
  rref : Nat
  tref : Nat
  v : Nat
  deriving DecidableEq, Repr

/-- The thermal model save (R291): plate and reference nodes, and the clock's own count at the save, which a setting of the clock
does not move. -/
structure ThmSave where
  valid : Bool
  plate : List Int
  ref : Int
  at_ : Nat
  deriving DecidableEq, Repr

/-- Retained memory (R493). -/
structure Retained where
  saveCount : Nat
  rtcSec : Nat
  wdg : WdgKept
  gens : Vector Nat 160
  /-- LOG_FIRST, and whether it is armed for the next record (R453). -/
  first : Option LogRec
  armed : Bool
  lost : Nat
  tally : Nat
  nextSeq : Nat
  /-- The staging buffer (R445-R450): at most 16 records. -/
  staged : List Staged
  est : Vector EstSave 3
  thm : ThmSave
  /-- The energy checkpoint (R496), Wh. -/
  ein : Vector Nat 9
  eout : Vector Nat 9
  /-- The branch record (R488). -/
  bctl : Vector Word 8
  domCfg : Word
  domAlarm : Word
  /-- The wake record: previous state, wake cause and port, last hold-up in 0.1 ms. -/
  prev : ModState
  wake : Wake
  wport : SPort
  holdLast : Nat
  /-- The record shows a power fail (R500). -/
  powerFail : Bool
  deriving DecidableEq, Repr

/-- The limits of a LIMITS frame with its time, as they cross x2 (R533, R535). -/
structure BmsLims where
  at_ : Option Nat
  cvl : Nat
  ccl : Nat
  dcl : Nat
  dvl : Nat
  cp : Bool
  dp : Bool
  full : Bool
  ncell : Nat
  deriving DecidableEq, Repr

/-- The value that a replace item carries as it is raised (R357). -/
inductive XData where
  /-- The item holds its own value. -/
  | own
  | limits (l : BmsLims)
  | gen (g : Nat)
  /-- A save for each port that has a history to save. -/
  | est (v : Vector (Option EstSave) 3)
  | thm (t : ThmSave)
  /-- Wh into and out of the module. -/
  | energy (ein eout : Nat)
  deriving DecidableEq, Repr

/-- An occupied slot of a crossing: the item, how many items it holds, and its value (R357, R359). -/
structure XSlot where
  x : Xing
  item : XItem
  count : Nat
  data : XData
  deriving DecidableEq, Repr

/-- The domain controller (R479-R506). -/
structure DomRec where
  st : ModState
  on : BitVec 12
  req : BitVec 12
  rtcv : Bool
  rmv : Bool
  /-- The clock reads `rtcSec` seconds at `rtcAt` microseconds. -/
  rtcSec : Nat
  rtcAt : Nat
  startAt : Nat
  refDom : Nat
  refCause : Nat
  refCount : Nat
  /-- When the housekeeping supply started; none while there is none. -/
  supplyAt : Option Nat
  holdReady : Bool
  holdV : Nat
  slot : Side
  rsrc : Nat
  saves : Nat
  pwrPort : Nat
  pwrW : Nat
  /-- The RESET loop is closed (R50); the WAKE loop is closed (R49); an HV port that has held its wake level (R62). -/
  resetLoop : Bool
  wakeLoop : Bool
  hvWake : Option SPort
  /-- The HV ports above their wake level with the last voltage known of each, mV, and the battery port that would feed, by the code of
  R191 (R67). -/
  hvs : List (SPort × Nat)
  batFeed : Nat
  /-- DOM_STAT.prev, wake and wport. -/
  prev : ModState
  wake : Wake
  wport : SPort
  /-- The start-up that has begun is a power-on reset (R569). -/
  cold : Bool
  /-- When Stubble was entered, and whether from Run or Degraded. -/
  stubAt : Nat
  stubFromRun : Bool
  /-- D4-D8 were switched off in this Stubble. -/
  stubOff : Bool
  /-- Since when both conditions of R490 have held. -/
  idleSince : Option Nat
  /-- A power fail in progress: when it began, and whether the save has completed (R497). -/
  failAt : Option Nat
  failSaved : Bool
  /-- When the last save ran, and the last energy checkpoint (R494, R496). -/
  savedAt : Nat
  /-- A start-up has begun and awaits its steps (R486). -/
  boot : Bool
  /-- A control-core restart runs, and since when (R41, R42). -/
  coreRestart : Option Nat
  deriving DecidableEq, Repr

/-! ### Battery ports (R221-R227, R256) -/

/-- The battery port states of R221. -/
inductive BatState where
  | unused | absent | qualifying | present | isolated | halted | locked
  deriving DecidableEq, Repr

/-- The code of BAT_PSTAT.state (R221). -/
def BatState.code : BatState → Nat
  | .unused => 0
  | .absent => 1
  | .qualifying => 2
  | .present => 3
  | .isolated => 4
  | .halted => 5
  | .locked => 6

/-- A battery port B1-B3 (R221-R227). -/
structure BatRec where
  st : BatState
  cause : Nat
  /-- 0 valid, 1 open, 2 shorted, 3 not used (R227). -/
  ntc : Nat
  sw : Bool
  clamp : Bool
  reversed : Bool
  vterm : Int
  vstage : Int
  cur : Int
  tntc : Int
  removals : Nat
  qfails : Nat
  clampE : Nat
  clamps : Nat
  /-- When the qualification timer started, or the present state began. -/
  since : Nat
  /-- Precharge runs since this moment (R222). -/
  pre : Option Nat
  /-- A precharge has failed once and repeats from this moment (R222). -/
  preRetry : Option Nat
  preFailed : Bool
  /-- The port is ramping down to Isolated (R226). -/
  isolating : Bool
  /-- The absence halt line of R223 is released at this moment. -/
  absentAt : Option Nat
  /-- Source 7 waits for its retry from this moment. -/
  ocAt : Option Nat
  /-- A reaction halted the port, and it has not requalified since (R441). -/
  reacted : Bool
  stage : StageRec
  deriving DecidableEq, Repr

/-! ### Feeder ports (R367-R376, R392) -/

/-- The feeder states of R371. -/
inductive FdrState where
  | unused | idle | checking | prebias | ramping | running | limiting | stopping | halted
  deriving DecidableEq, Repr

/-- The code of AWN_FSTAT.state (R392). -/
def FdrState.code : FdrState → Nat
  | .unused => 0
  | .idle => 1
  | .checking => 2
  | .prebias => 3
  | .ramping => 4
  | .running => 5
  | .limiting => 6
  | .stopping => 7
  | .halted => 8

/-- A feeder port (R367-R376). -/
structure FdrRec where
  st : FdrState
  cause : Nat
  lim : Nat
  /-- Reference, uV; output, 100 mV; current and limit, 10 mA. -/
  vref : Nat
  vout : Nat
  cur : Int
  ilim : Nat
  starts : Nat
  fstops : Nat
  since : Nat
  /-- Source 4 has been reported in this Checking (R371). -/
  extSaid : Bool
  /-- Yielding under R373; the limit that a yield or a stop ramps, uA. -/
  yield : Bool
  cap : Nat
  /-- Source 5 waits for its restart from this moment. -/
  retryAt : Option Nat
  /-- A reaction halted the port, and it has not passed its check since (R441). -/
  reacted : Bool
  deriving DecidableEq, Repr

/-! ### Crossings (R356-R366) -/

/-- One crossing (R356-R360, R364). -/
structure XingRec where
  presets : Nat
  merged : Nat
  drops : Nat
  last : Nat
  max : Nat
  /-- When it was last emptied, and the start of a side's own reset with its domain on. -/
  emptyAt : Option Nat
  ownAt : Option Nat
  /-- The last whole values that the receiving side's replace slots hold. -/
  kept : List XSlot
  deriving DecidableEq, Repr

/-! ### Profiles, the charge engine and the BMS (R228-R259, R533-R536) -/

/-- A phase entry of a profile (R229). -/
structure PhaseEntry where
  code : Nat
  /-- 0.1 mV per cell; 0.1 A; 0.25 A; minutes. -/
  vcell : Nat
  ilim : Nat
  iexit : Nat
  ontmax : Nat
  tmax : Nat
  deriving DecidableEq, Repr

/-- A nickel termination entry (R229). -/
structure NickelEntry where
  dv : Nat
  dtdt : Nat
  holdoff : Nat
  knee : Bool
  tabs : Nat
  deriving DecidableEq, Repr

/-- A temperature entry (R229), in degC and 0.01 mV/degC. -/
structure TempEntry where
  tcmin : Int
  tcmax : Int
  tdmin : Int
  tdmax : Int
  tcomp : Int
  teqmax : Int
  deriving DecidableEq, Repr

/-- A lithium entry (R229). -/
structure LithEntry where
  bms : Bms
  btmo : Nat
  vmargin : Nat
  deriving DecidableEq, Repr

/-- A profile as its entries spell it (R228, R229). -/
structure Profile where
  chem : Nat
  ncell : Nat
  nodis : Bool
  timer : Nat
  eqdays : Nat
  vrest : Nat
  temp : TempEntry
  nickel : Option NickelEntry
  lith : Option LithEntry
  phases : List PhaseEntry
  deriving DecidableEq, Repr

/-- The charge engine of a battery port (R232-R249, R252). -/
structure ChgRec where
  phase : Nat
  cause : Nat
  frest : Bool
  hold : Bool
  eqdue : Bool
  safe : Bool
  wait : Nat
  /-- The working copy (R232). -/
  wc : Option Profile
  /-- When the phase was entered. -/
  since : Nat
  /-- Phase time counted, microseconds, and the safety timer, half microseconds, both up to `acctAt`. -/
  tphase : Nat
  tsafe : Nat
  acctAt : Nat
  /-- Whether the phase timer counts now, and the speed of the safety timer: 0, 1 half, 2 full (R238, R247). -/
  counts : Bool
  rate : Nat
  /-- The safety timer runs: from the first entry into Precondition or Bulk (R247). -/
  timing : Bool
  /-- The phase to resume after Qualify, and whether the port has left Present in this suspension (R240). -/
  left : Option Nat
  portLeft : Bool
  /-- CHG_PVT and CHG_PIT. -/
  vtgt : Nat
  /-- The compensation applied, mV, and the wiring resistance that it uses, 10⁻¹⁵ ohm (R239, R270). -/
  rcomp : Nat
  rused : Option Nat
  itgt : Nat
  iprog : Nat
  /-- The −ΔV tracker (R243): peak, its current, the samples still blocked, and the count of samples below. -/
  vpk : Int
  ipk : Nat
  block : Nat
  n : Nat
  dvobs : Nat
  /-- The present sample and its current (R243). -/
  smp : Int × Nat
  nrej : Nat
  /-- When the hold-offs end, and whether the detections are armed (R245). -/
  dvFrom : Nat
  dtFrom : Nat
  dvArmed : Bool
  dtArmed : Bool
  /-- A candidate that awaits the knee answer: cause 3 or 4, and when it was raised (R246). -/
  cand : Option (Nat × Nat)
  dtdt : Int
  /-- Battery temperature in use, 1/16 degC. -/
  tbat : Int
  /-- Charge since Qualify, 10⁻¹¹ C, and cycles. -/
  ah : Nat
  cycles : Nat
  /-- When Equalize last completed, and Thresher's admission (R238, R329). -/
  eqAt : Nat
  eqOk : Bool
  /-- Source 7 holds the current at zero (R242). -/
  bmsOver : Bool
  /-- The last discharge limit of a BMS that is not live has lapsed: the Discharge flow is held at zero (R242). -/
  disHold : Bool
  /-- The Discharge flow is held by the discharge voltage limit of the BMS (R194, R535). -/
  dvHold : Bool
  /-- Source 6 waits for its retry from this moment. -/
  ovAt : Option Nat
  deriving DecidableEq, Repr

/-- The profile table's ports (R230, R233, R259). -/
structure ProfRec where
  /-- The unpaired PROF_ELO write: entry and word. -/
  lo : Option (Nat × Word)
  /-- The high word latched by a read of PROF_ELO. -/
  hi : Option (Nat × Word)
  torn : Nat
  cres : Nat
  cdone : Bool
  deriving DecidableEq, Repr

/-- What the module holds of a BMS (R533-R536, R545). -/
structure BmsRec where
  /-- When the last LIMITS and STATE frames were accepted. -/
  limAt : Option Nat
  stAt : Option Nat
  /-- Counters of the last valid frames. -/
  limCtr : Option Nat
  stCtr : Option Nat
  /-- Frames in a row whose counter did not advance. -/
  staleRow : Nat
  cvl : Nat
  ccl : Nat
  dcl : Nat
  dvl : Nat
  cp : Bool
  dp : Bool
  full : Bool
  alarm : Bool
  ncell : Nat
  /-- Cell temperatures, degC. -/
  tmin : Int
  tmax : Int
  /-- The limits that have crossed x2, and those in the flow context store, which act (R535). -/
  came : BmsLims
  act : BmsLims
  deriving DecidableEq, Repr

/-! ### The estimator (R260-R283) -/

/-- EST_PSTAT.state while the channel is on (R281). -/
inductive EstState where
  | waiting | sweeping | knee | paused
  deriving DecidableEq, Repr

/-- The code of a channel state; 0 is Off. -/
def EstState.code : EstState → Nat
  | .waiting => 1
  | .sweeping => 2
  | .knee => 3
  | .paused => 4

/-- One channel of the estimator (R260-R277). Resistances are in 0.01 milliohm. -/
structure EstRec where
  st : EstState
  /-- Points of the sweep still to be measured, the one in progress first. -/
  todo : List (Fin 15)
  /-- The point in progress is a repeat after source 0, or at half amplitude after source 5. -/
  again : Bool
  half : Bool
  /-- EST_PCTL.sweep awaits R260. -/
  ordered : Bool
  nsweep : Nat
  ndisc : Nat
  /-- EST_PZ, and its valid bits; the points of the present sweep that are valid. -/
  pz : Vector (Int × Int) 15
  valid : BitVec 15
  fresh : BitVec 15
  rhf : Nat
  rpol : Nat
  /-- Whether the last sweep published rhf, and the battery temperature then; none where it was invalid. -/
  last : Bool
  lastT : Option Int
  rconv : Bool
  /-- newbat awaits its first rconv (R276). -/
  newbat : Bool
  /-- When the last sweep ended, and when the present pause began. -/
  sweptAt : Option Nat
  pausedAt : Nat
  /-- When the point in progress starts or started (R263), and since when the current has held before a repeat (R266). -/
  ptAt : Nat
  waitAt : Option Nat
  /-- How long the current must have held, microseconds, before the discarded point is repeated (R266). -/
  waitUs : Nat
  /-- When the knee measurement in progress started (R268, R269). -/
  kneeAt : Nat
  /-- Stopped by a source of severity Degrade (R282). -/
  stopped : BitVec 8
  /-- Since when the charge current has met R260, and the window mean at the start of the point, 10 mA. -/
  okSince : Option Nat
  startI : Nat
  /-- How many cells of the port's group were Active when the point started (R266). -/
  cells : Nat
  /-- ΔR of the last knee measurement; the baseline's ΔR and Re Z(100 Hz). -/
  dr : Int
  base : Option (Int × Int)
  /-- The last 15 min mark of this Bulk at which a baseline measurement began or was skipped (R268). -/
  mark : Option Nat
  /-- Charge counted, in 10⁻¹⁴ C; formed is whether there is a history (R274, R277). -/
  formed : Bool
  q : Nat
  /-- Uncertainty at the last correction, 0.1 %; charge counted since, 10⁻¹¹ C; and when. -/
  unc : Nat
  uncQ : Nat
  uncAt : Nat
  src : Nat
  /-- Charge discharged since the last full charge, 10⁻¹¹ C (R276). -/
  count : Option Nat
  qest : Nat
  /-- rhf of the last sweep within 5 degC of tref, 0 none, and its battery temperature (R276). -/
  rsoh : Nat
  rsohT : Option Int
  /-- The last save into retained memory (R277). -/
  savedAt : Nat
  /-- Since when the port current has been below 1 A (R275). -/
  quietAt : Option Nat
  /-- A full charge or a cut-off that awaits its correction at the next iteration: the events of SOC_CORRECTION (R275). -/
  due : Option (Fin 5)
  /-- The port awaits its first qualification since start-up (R277). -/
  first : Bool
  deriving DecidableEq, Repr

/-! ### The thermal manager (R284-R312) -/

/-- The sensor states of R302. -/
inductive SensorSt where
  | off | valid | retry | failed | fenced
  deriving DecidableEq, Repr

/-- The code of THM_SST.state. -/
def SensorSt.code : SensorSt → Nat
  | .off => 0
  | .valid => 1
  | .retry => 2
  | .failed => 3
  | .fenced => 4

/-- A temperature sensor (R286, R301-R303), in 1/16 degC. -/
structure SensorRec where
  st : SensorSt
  cause : Nat
  nfail : Nat
  /-- Reported value, last measured reading, predicted reading, and the model's sensor-point node. -/
  t : Int
  raw : Int
  pred : Int
  node : Int
  /-- A reading has been taken since D10 switched on. -/
  seen : Bool
  /-- When the self-test failed that is to be repeated (R301, R302). -/
  testAt : Option Nat
  /-- The criterion that awaits its repeat; the self-test of this D10 session has failed (R301, R302). -/
  trying : Nat
  selfBad : Bool
  /-- The remainder of the draw of the node towards the reading, in 200ths (R287). -/
  nodeAcc : Int
  /-- Since when criterion 3 has been met, and since when a failed sensor has passed (R302). -/
  farSince : Option Nat
  passSince : Option Nat
  /-- Criterion 4: since when the reading has stood at `stuckRaw`, and the least and greatest loss since, W. -/
  stuckAt : Nat
  stuckRaw : Int
  lossLo : Nat
  lossHi : Nat
  deriving DecidableEq, Repr

/-- A fan (R299, R300): 0 stopped or not fitted, 1 running, 2 retry, 3 failed. -/
structure FanRec where
  st : Nat
  cmd : Nat
  rpm : Nat
  since : Nat
  deriving DecidableEq, Repr

/-- The thermal condition (R295). -/
inductive Cond where
  | normal | descending | holding | recovering | shutdown
  deriving DecidableEq, Repr

/-- The code of THM_STAT.cond. -/
def Cond.code : Cond → Nat
  | .normal => 0
  | .descending => 1
  | .holding => 2
  | .recovering => 3
  | .shutdown => 4

/-- The thermal manager (R284-R307). -/
structure ThmRec where
  cond : Cond
  warn : Bool
  nvhold : Bool
  mconv : Bool
  hist : Bool
  nsd : Nat
  tmax : Int
  tmaxIdx : Nat
  tmaxSub : Bool
  tctl : Int
  tctlIdx : Nat
  tctlPred : Bool
  step : Nat
  floor : Nat
  /-- When the 60 s hold ends (R304). -/
  hold : Option Nat
  /-- The last throttle tick, and T_ctl then (R295). -/
  tickAt : Nat
  tickT : Int
  /-- Since when T_ctl has been below thr − 5 degC, and T_max below the restart threshold. -/
  coolSince : Option Nat
  rsSince : Option Nat
  tref : Int
  /-- The part of the reference correction below one step of tref, in 1/96000 degC (R287). -/
  refAcc : Int
  refSrc : Bool
  /-- The model has started since D10 switched on (R291). -/
  started : Bool
  /-- Since when every Valid sensor's residual has stayed within 4 degC, and since when the module has been in Run (R291). -/
  okAt : Option Nat
  runAt : Option Nat
  /-- The model is invalid (R292), and since when the residual condition has been clear. -/
  invalid : Bool
  clearAt : Option Nat
  plate : Vector Int 48
  /-- The die nodes. -/
  dieNode : Vector Int 40
  /-- Die estimates and predictions. -/
  die : Vector (Int × Int) 40
  sensors : Vector SensorRec 48
  fans : Vector FanRec 3
  deriving DecidableEq, Repr

/-! ### Thresher (R313-R341) -/

/-- The states of Thresher (R316). -/
inductive ThrSt where
  | stopped | running | held | zeroed
  deriving DecidableEq, Repr

/-- The code of THR_STAT.state. -/
def ThrSt.code : ThrSt → Nat
  | .stopped => 0
  | .running => 1
  | .held => 2
  | .zeroed => 3

/-- A set of shadowed budget registers as a COMMIT takes it (R33, R339). -/
structure ThrSet where
  budp : Word
  budh : Word
  cset : Word
  cwin : Word
  gen : Word
  fc : Vector Word 8
  plim : Vector Word 7
  deriving DecidableEq, Repr

/-- The grant of one flow (R341): 10 mA, W, grains, THR_FG.st. -/
structure Grant where
  cur : Nat
  pw : Nat
  heat : Nat
  st : Nat
  deriving DecidableEq, Repr

/-- A round computed from its latch (R313, R324). -/
structure Round where
  grants : Vector Grant 160
  /-- The flows latched, and those that were Live, late entrants among them once it is published (R314). -/
  flows : List Ctx
  live : List Ctx
  /-- Power remainders for flows into the culm, out of it, and out of the surplus, W, and the heat remainder, grains (R314, R329). -/
  remIn : Nat
  remOut : Nat
  remSur : Nat
  remHeat : Nat
  thru : Nat
  pcap : Nat
  budget : Nat
  used : Nat
  bind : Nat
  dieLim : Vector (Option Nat) 7
  orders : List Order
  sheds : List Cell
  /-- The set that the round latched; whether its forecast is new, when its slot 0 begins, and whether it is valid (R33, R331). -/
  set : ThrSet
  fcNew : Bool
  fcStart : Nat
  fcValid : Bool
  /-- The lending left, W, and the headroom left of the Feeder flow of each port, W (R208, R334, R374). -/
  lend : Nat
  head : Vector Nat 4
  deriving DecidableEq, Repr

/-- Thresher (R313-R338). -/
structure ThrRec where
  st : ThrSt
  /-- t_0, and the round that t_k names next. -/
  t0 : Nat
  k : Nat
  /-- The committed set, and the set in force since the last round began (R33). -/
  committed : ThrSet
  inForce : ThrSet
  /-- A THR_FC register has been written since the last COMMIT; a taken forecast awaits its first round. -/
  fcTouched : Bool
  fcNew : Bool
  /-- Slot 0 began at this moment; the forecast is valid (R331). -/
  fcStart : Nat
  fcValid : Bool
  cres : Nat
  ccause : Nat
  cseq : Nat
  /-- The round latched and not yet published, and the last published. -/
  round : Option Round
  last : Option Round
  late : Nat
  /-- The last published set failed the budget check (THR source 5). -/
  failed : Bool
  /-- Peak and recovery timers, microseconds (R322). -/
  tpk : Nat
  trec : Nat
  peakx : Bool
  /-- The last latch; culm-side energy since then, in 10⁻¹⁴ J, the culm load current times its time, 10 mA times ns, and the time over
  which the load was measured, ns (R313, R325). -/
  lastAt : Nat
  eIn : Nat
  eLoad : Int
  nsLoad : Nat
  /-- Class 3 admission (R332, R333). -/
  adm : Bool
  reason : Nat
  admAt : Nat
  req : Bool
  reqAt : Nat
  instSince : Option Nat
  ebat : Nat
  eneed : Nat
  /-- Since when the surplus has sufficed for an Equalize of each battery port (R329). -/
  eqSince : Vector (Option Nat) 3
  /-- Deferral (R330): the condition, since when it has been cool, and for each battery port the phase entry that the
  deferred time belongs to and that time, microseconds. -/
  defer : Bool
  coolAt : Option Nat
  deferUs : Vector (Nat × Nat) 3
  /-- THR_STK (R334). -/
  stk : Nat
  lend : Nat
  stklost : Bool
  /-- First use (R319): in force, ended in this start, the time of Run counted up to `firstAt`, microseconds. -/
  first : Bool
  firstDone : Bool
  firstUs : Nat
  firstAt : Nat
  /-- Orders published and not yet latched by the fabric (R90, R313). -/
  orders : List Order
  sheds : List Cell
  /-- The start of the round that issued them (R90, R106). -/
  ordersAt : Nat
  deriving DecidableEq, Repr

/-! ### The sense array and the pipeline (R344-R355) -/

/-- Figures of a group's waves (R364): iteration time and latency, ns, and the count. -/
structure WaveRec where
  itLast : Nat
  itMax : Nat
  latLast : Nat
  latMax : Nat
  waves : Nat
  deriving DecidableEq, Repr

/-- The SENSE block (R344-R364). -/
structure SenseRec where
  gstall : Vector Bool 7
  vcore : Nat
  tslow : Nat
  groups : Vector WaveRec 7
  /-- SENSE_CH: value and status. -/
  ch : Vector (Int × Nat) 128
  /-- Channels whose failed conversion awaits its repeat (R355). -/
  again : List Nat
  /-- The demand of each group has stood above its abort level in the last wave (R95). -/
  above : Vector Bool 7
  /-- The group whose turn it is in the order G0 to G6 (R345). -/
  turn : Group
  /-- The sample instant of the last priority wave of each group, ns (R349). -/
  prioAt : Vector (Option Nat) 7
  /-- Normal waves that priority waves overtake, oldest first, and priority waves that wait for each other (R349). -/
  waiting : List (Group × Wave)
  prio : List (Group × Wave)
  deriving DecidableEq, Repr

/-! ### The Awn link (R377-R389) -/

/-- AWN_STAT.link (R379). -/
inductive AwnLink where
  | disabled | training | up | down
  deriving DecidableEq, Repr

/-- The code of AWN_STAT.link. -/
def AwnLink.code : AwnLink → Nat
  | .disabled => 0
  | .training => 1
  | .up => 2
  | .down => 3

/-- The classes of reply frames in the transmit queue (R386). -/
inductive TxKind where
  | received | status | settled | other
  deriving DecidableEq, Repr

/-- The Awn link. -/
structure AwnRec where
  link : AwnLink
  /-- When the last valid frame ended. -/
  validAt : Nat
  tagexp : Nat
  taglast : Option Nat
  /-- AWN_STAT.src. -/
  src : Nat
  /-- The pending command: its tag; none once it gets no further reply (R383, R387). -/
  pend : Option Nat
  /-- The slew of the last accepted command, mV/ms, and the voltage that it asked for, mV. -/
  slew : Nat
  asked : Nat
  /-- The latest reply sent for taglast (R382). -/
  reply : Option Word
  cmd : Word
  rx : Nat
  sup : Nat
  crc : Nat
  seq : Nat
  sync : Nat
  txdrop : Nat
  /-- When the link went Down, while the setpoint is held (R387). -/
  lostAt : Option Nat
  txq : List (TxKind × Word)
  /-- When the last Status frame of AWN_CFG2.stper was queued. -/
  statAt : Nat
  /-- When the last frame was discarded, and its tag (R393). -/
  badTag : Option (Nat × Nat)
  deriving DecidableEq, Repr

/-! ### Sheaf Link and CAN FD (R507-R538) -/

/-- A hop side (R508, R542). -/
structure SideRec where
  /-- 0 Down, 1 Training, 2 Up. -/
  st : Nat
  downs : Nat
  cv : Nat
  /-- hops of the last DISCOVER received here. -/
  hop : Nat
  /-- One frame of forwarding buffer, and up to 8 own frames (R514). -/
  fwd : Option Frame
  own : List Frame
  /-- The forwarded copy ends with K30.7, so that every receiver discards it (R512). -/
  spoilt : Bool
  deriving DecidableEq, Repr

/-- A session (R525): the session key, and the last counter accepted. -/
structure RingSession where
  key : Vector Word 8
  c : Option Nat
  deriving DecidableEq, Repr

/-- What is remembered of one sender (R513, R527): its position and stag, the last four seq values, and when it was last
heard. -/
structure PeerRec where
  src : Nat
  stag : Nat
  seqs : List Nat
  heard : Nat
  deriving DecidableEq, Repr

/-- The ring framer and the RING block (R508-R542). -/
structure RingRec where
  pos : Nat
  sides : Vector SideRec 2
  sess : Option RingSession
  /-- RING_KEY (R524). -/
  key : Vector Word 8
  rx : Nat
  tx : Nat
  crc : Nat
  auth : Nat
  drop : Nat
  hop : Nat
  /-- The last STOOK: its seq, when it came, and whether its evaluation and its report are still to come (R526, R527). -/
  xseq : Nat
  stookAt : Option Nat
  evalDue : Bool
  sendDue : Bool
  nrep : Nat
  lost : Bool
  ownSeq : Nat
  peers : List PeerRec
  /-- Replies stored for retransmitted requests (R513): the request's type and seq, and the reply. -/
  replies : List (Nat × Nat × Frame)
  /-- EXCH frames since the broadcast: position, stag and payload. -/
  exch : List (Nat × Nat × List Byte)
  identAt : Nat
  /-- DOM_STAT and LOG_FSUM as last mirrored into D1 (R520). -/
  mirror : Word × Word
  /-- The last frame discarded for its CRC: side, src, stag, seq, and when (R512). -/
  bad : Option (Side × Nat × Nat × Nat × Nat)
  deriving DecidableEq, Repr

/-- The CAN FD controller and the CAN block (R530-R546). -/
structure CanRec where
  /-- CAN_STAT.bus: 0 error active, 1 error passive, 2 bus-off, 3 off. -/
  bus : Nat
  tec : Nat
  recv : Nat
  rx : Nat
  tx : Nat
  rej : Nat
  stale : Nat
  drop : Nat
  /-- Frames queued, oldest first: identifier and data. -/
  txq : List (Nat × List Byte)
  /-- The counter of MODULE STATUS and the time of the last one, for each battery port. -/
  ctr : Vector Nat 3
  sentAt : Vector Nat 3
  deriving DecidableEq, Repr

end Sys2Proof.Machine
end

