-- ==== Sys2Proof/Config.lean ====
section
/-!
DEFINITION. What the spec leaves to the part, and the named external algorithms: opaque constants, of which no proof
can see a value. Each has a row in notes/assumptions.
-/

namespace Sys2Proof.Config

open Sys2Proof.Machine

/-- A value that the spec leaves open, fresh for every count of `State.freeN` (assumption 2). -/
opaque freeNat : Nat → Nat

/-- SHA-256 of a byte string, as eight words, most significant first (R397, R404). -/
opaque sha256 : List Byte → Vector Word 8

/-- HMAC-SHA-256 under a 256-bit key, as eight words, most significant first (R525). -/
opaque hmac : Vector Word 8 → List Byte → Vector Word 8

/-- The model's loss relation (R320, R323): the loss in mW of a number of cells of a group that carry a current, in 10 mA,
at a port voltage in mV. Calibration data that the manual does not give. -/
opaque loss : Nat → Nat → Nat → Nat → Nat

/-- Whether the ECDSA signature verifies over a digest with the key of a slot (R397). -/
opaque signatureOk : Nat → Vector Word 8 → List Byte → Bool

/-- The content of the sections of an image (R396): the spec gives no layout within a section. -/
opaque sections : List Byte → Option ImageData

/-- The update of the thermal model over 10 ms (R287): from the numbers of the Calibration section and the present nodes, losses and
airflow, the new value of a node, 1/16 degC; plates are 0-47, sensor points 48-95, dies 96-135 (assumption 20). -/
opaque thmNode : List Int → List Int → Nat → Int

/-- The prediction of R288 from the same inputs, held constant over the horizon, in 0.5 s: of a sensor's reading (0-47) or of the
temperature of a die (48-87). -/
opaque thmAhead : List Int → List Int → Nat → Nat → Int

/-- How long a side of a crossing stays in its own reset, microseconds (R360, assumption 91). -/
opaque peerReturn : Nat → Nat

/-- Where in its period of 500 us the dither of a group's frequency stands at time 0, microseconds (R85, assumption 31). -/
opaque ditherPhase : Nat → Nat

end Sys2Proof.Config
end

