-- ==== Sys2Proof/Machine/Sparse.lean ====
section
/-!
DEFINITION. Sparse maps in one canonical form, and the memory of the non-volatile store as one of them: keys strictly
rising, and no entry equal to what an unlisted key reads as.
-/

namespace Sys2Proof.Machine

/-- The value at a key; an unlisted key reads as the default. -/
def sget {α : Type} (d : Nat → α) : List (Nat × α) → Nat → α
  | [], k => d k
  | (k', v) :: m, k => if k = k' then v else sget d m k

/-- The map with a value written at a key. Writing the default removes the entry. -/
def sput {α : Type} [DecidableEq α] (d : Nat → α) : List (Nat × α) → Nat → α → List (Nat × α)
  | [], k, v => if v = d k then [] else [(k, v)]
  | (k', v') :: m, k, v =>
    if k < k' then (if v = d k then (k', v') :: m else (k, v) :: (k', v') :: m)
    else if k = k' then (if v = d k then m else (k, v) :: m)
    else (k', v') :: sput d m k v

/-- The canonical form: every key above the bound `lo`, keys strictly rising, no default entries. -/
def swfFrom {α : Type} [DecidableEq α] (d : Nat → α) : Nat → List (Nat × α) → Bool
  | _, [] => true
  | lo, (k, v) :: m => decide (lo ≤ k) && decide (v ≠ d k) && swfFrom d (k + 1) m

/-- The canonical form of a sparse map. -/
def swf {α : Type} [DecidableEq α] (d : Nat → α) (m : List (Nat × α)) : Bool := swfFrom d 0 m

/-- What a byte of the store reads as where nothing is listed: an erased byte, 0xFF (R400, R409). -/
def Memory.unlisted (_ : Nat) : Byte := 0xFF

/-- The byte of the store at an address. -/
def Memory.read (m : List Host.Cell) (a : Nat) : Byte := sget Memory.unlisted m a

/-- The store with a byte written at an address. -/
def Memory.write (m : List Host.Cell) (a : Nat) (v : Byte) : List Host.Cell := sput Memory.unlisted m a v

/-- The canonical form of the store. -/
def Memory.wf (m : List Host.Cell) : Bool := swf Memory.unlisted m

/-- The store with the bytes of a list written from an address on. -/
def Memory.writeAll (m : List Host.Cell) (a : Nat) : List Byte → List Host.Cell
  | [] => m
  | b :: bs => Memory.writeAll (Memory.write m a b) (a + 1) bs

/-- `n` bytes of the store from an address on. -/
def Memory.readAll (m : List Host.Cell) (a : Nat) : Nat → List Byte
  | 0 => []
  | n + 1 => Memory.read m a :: Memory.readAll m (a + 1) n

/-- The store with `n` bytes from an address on erased. -/
def Memory.erase (m : List Host.Cell) (a n : Nat) : List Host.Cell :=
  m.filter fun e => !(decide (a ≤ e.1) && decide (e.1 < a + n))

/-- The entries that bytes from an address on need. -/
def Memory.entries (a : Nat) : List Byte → List Host.Cell
  | [] => []
  | b :: bs => if b = Memory.unlisted a then Memory.entries (a + 1) bs else (a, b) :: Memory.entries (a + 1) bs

/-- The store with the bytes of a long list put from an address on, as `writeAll` does, in one pass. -/
def Memory.fill (m : List Host.Cell) (a : Nat) (l : List Byte) : List Host.Cell :=
  (m.filter fun e => decide (e.1 < a)) ++ (Memory.entries a l ++ m.filter fun e => decide (a + l.length ≤ e.1))

end Sys2Proof.Machine
end

