-- ==== Sys2Proof/Machine/State.lean ====
section
/-!
DEFINITION. The state of the module, as plain data, and the state after reset: unpowered, with every domain off and
every register at the reset value that the spec gives. Faults and refusals of the model are declared here.
-/

namespace Sys2Proof.Machine

/-- Reasons for which a command stops the machine. No rule of the spec stops the module on a command, so no meaning
raises one. Safe: a stop proves nothing about what the hardware does next. -/
inductive Fault where
  /-- Raised by no meaning: kept so that the type of outcomes has a fault. Safe. -/
  | never
  deriving DecidableEq, Repr

/-- Refusals of the model. -/
inductive Refusal where
  /-- Raised by an arm of `exec` whose command has no meaning yet, with the mnemonic of the opcode table. Safe. -/
  | notModelled (mnemonic : String)
  deriving DecidableEq, Repr

/-- The module. -/
structure State where
  /-- Commands that wait, first in first out. -/
  pending : List Instr
  /-- Microseconds since the model's start (assumption 1). -/
  now : Nat
  /-- How many free values have been drawn (assumption 2). The model's own field. -/
  freeN : Nat
  /-- What blocks do at their next iteration. -/
  deferred : List Deferred
  /-- The fault state of the blocks, by top address byte. -/
  flt : Vector BlkFault 21
  /-- Drivers of the Safe line, and of the halt line of each port. -/
  safeLine : List Driver
  halt : Vector (List Driver) 9
  /-- Occupied report slots of crossing x3. -/
  x3 : List Report
  xing : Vector XingRec 5
  /-- Occupied item slots of the crossings, the reports of x3 apart. -/
  xslots : List XSlot
  /-- RW registers whose value differs from their reset value, by address. -/
  rw : List (Nat × Word)
  /-- Bytes of the non-volatile store that differ from 0xFF, by store address. -/
  nv : List Host.Cell
  /-- Profile table entries that are not 0, by index. -/
  prof : List (Nat × Entry)
  log : LogRecState
  wdg : WdgState
  host : HostTimer
  ret : Retained
  /-- The two slots of the retention copy (R494); none is an invalid slot. -/
  slots : Vector (Option Retained) 2
  dom : DomRec
  img : ImgRec
  nvs : NvsRec
  sys : SysRec
  fuse : Fuses
  fab : FabRec
  groups : Vector GroupRec 7
  cells : Vector CellRec 40
  culm : CulmRec
  gov : Vector GovRec 9
  branches : Vector BranchRec 8
  loads : Vector LoadPort 2
  src : Vector SrcRec 4
  hov : HovRec
  flow : FlowBlk
  ctx : Vector FlowCtx 160
  bat : Vector BatRec 3
  fdr : Vector FdrRec 4
  chg : Vector ChgRec 3
  profIO : ProfRec
  bms : Vector BmsRec 16
  est : Vector EstRec 3
  thm : ThmRec
  thr : ThrRec
  sense : SenseRec
  awn : AwnRec
  ring : RingRec
  can : CanRec
  /-- Energy into and out of the module at each port, in 10⁻¹⁴ J (R496). -/
  energy : Vector (Nat × Nat) 9
  deriving DecidableEq, Repr

/-! ### Values after reset -/

/-- A fault block after reset, with the severity word and the retryable sources of R556. -/
def BlkFault.reset (sev : Word) (frty : BitVec 8) : BlkFault :=
  { fst := 0, occNow := 0, live := [], recent := [], sev := sev, frty := frty, grace := [],
    retries := [], windows := [], parity := false, warned := false }

/-- FSEV after reset, by top address byte (R556); 0 for SYS and PROF, which have no fault registers. -/
def fsevReset : Vector Word 21 :=
  #v[0, 0x00208244, 0x0000C249, 0x00004049, 0x00109209, 0x00289892, 0x0030B8CC, 0x00118249, 0x00641641, 0x00619801,
    0x002C1209, 0x00009040, 0x00409851, 0x00009041, 0x00011212, 0x006D9201, 0x00001248, 0x00048048, 0x0020C621, 0,
    0x00040248]

/-- FRTY after reset, by top address byte (R556). -/
def frtyReset : Vector (BitVec 8) 21 :=
  #v[0, 0x80, 0x00, 0x02, 0x01, 0x05, 0x14, 0x09, 0x94, 0x90, 0x50, 0x21, 0x11, 0x20, 0x02, 0x22, 0x01, 0x02, 0x01, 0,
    0x0C]

/-- A cell after reset (R105, R108). -/
def CellRec.reset : CellRec :=
  { st := .off, grp := none, inMask := none, sel := false, selOpen := true, fcause := 0, fcount := 0, ext := false,
    cur := 0, loss := 0, starts := 0, migs := 0, since := 0, startRetry := false, retryAt := none, barred := false,
    dropped := false, movedAt := none, fence := [], gate := none }

/-- A group without an image (R107). -/
def GroupCfg.unused : GroupCfg :=
  { topo := .none, allow := 0, init := 0, minph := 0, maxph := 0, fmin := 0, fmax := 0, shedlvl := 0, abortpct := 0,
    hold := 0, delay := 0 }

/-- A group after reset (R107). -/
def GroupRec.reset : GroupRec :=
  { cfg := .unused, freq := 0, base := 0, mode := 3, range := false, starved := false, dieLim := none, lowSince := none,
    addAt := none, shedAt := none, fullSince := none, leftCell := none }

/-- The governor's record of a port after reset (R142). -/
def GovRec.reset : GovRec :=
  { est := 0, ilim := 0, lt := 0, count := 0, tripAt := none, vst := 0, vstAt := 0 }

/-- Discharge elements after reset (R142). -/
def StageRec.reset : StageRec :=
  { drainAt := none, lastAt := 0, feeder := false, again := false, stuck := false, events := [], hold := false, ext := false }

/-- A branch after reset (R146). -/
def BranchRec.reset : BranchRec :=
  { st := .opened, cause := 0, vout := 0, cur := 0, s := 0, sAt := 0, energy := 0, inst := 300, since := 0, retryAt := none,
    retrying := none, retryDue := none, trip := 0, lastCur := 0, await := false, spareSince := none, unlocking := false, byHalt := false,
    degraded := false }

/-- The tracker after reset. -/
def Mppt.reset : Mppt :=
  { vref := 0, heldRef := 0, up := true, step := 0, same := 0, lastPower := 0, avail := 0, movedAt := 0, sweep := none,
    sweptAt := none, deferAt := none }

/-- A source port after reset (R184). -/
def SrcRec.reset : SrcRec :=
  { role := .unused, cls := 0, rbuf := 0, arcen := false, st := .unused, cause := 0, lim := 0, flap := false, riso := 0,
    v := 0, voc := 0, cur := 0, pwr := 0, freq := 0, pf := 0, thd := 0, metric := 0, arcs := 0, losses := 0,
    qfails := 0, since := 0, qv := 0, qf := 0, qprot := 0, nomV := 0, nomF := 0, lossV := 0, lossAt := [],
    arcPassed := false, arcFailed := false, isoTry := false, isoFailed := false, judgeAt := 0, stopping := false, hov := none, ocAt := none, idle := false,
    vocAt := 0, foldW := 0, mppt := .reset, reacted := false, stage := .reset }

/-- A Free context whose generation is `g` (R578). -/
def FlowCtx.freed (g : Nat) : FlowCtx :=
  { st := .free, gen := g, d := ⟨0, 0, 0, 0⟩, scause := 0, safe := false, fblk := 0, fsrc := 0, cur := 0, grant := 0,
    curSum := 0, curNs := 0, energy := 0, liveUs := 0, suspUs := 0, since := 0, closeI := 0, evAt := none, zeroAt := none, newProf := false, lim := 0, rising := false,
    overAt := none, cmd := 0, cut := false,
    leaving := false,
    pgrant := 0, heat := 0, gst := 0, paired := false, peer := 0, peerGrant := 0, pstag := 0 }

/-- A battery port after reset (R256). -/
def BatRec.reset : BatRec :=
  { st := .unused, cause := 0, ntc := 0, sw := false, clamp := false, reversed := false, vterm := 0, vstage := 0,
    cur := 0, tntc := 0, removals := 0, qfails := 0, clampE := 0, clamps := 0, since := 0, pre := none,
    preRetry := none, preFailed := false, isolating := false, absentAt := none, ocAt := none,
    reacted := false, stage := .reset }

/-- A feeder port after reset (R392). -/
def FdrRec.reset : FdrRec :=
  { st := .unused, cause := 0, lim := 0, vref := 0, vout := 0, cur := 0, ilim := 0, starts := 0, fstops := 0,
    since := 0, extSaid := false, yield := false, cap := 0, retryAt := none, reacted := false }

/-- A crossing after reset (R364). -/
def XingRec.reset : XingRec := { presets := 0, merged := 0, drops := 0, last := 0, max := 0, emptyAt := none, ownAt := none, kept := [] }

/-- The watchdog ladder after a power-on reset (R461). -/
def WdgKept.reset : WdgKept :=
  { level := 0, tries := 0, hold := false, ccr := 0, mr := 0, lastCause := 0, lastStep := 0, lastTries := 0 }

/-- No estimator save. -/
def EstSave.none : EstSave := { valid := false, soc := 0, unc := 0, qest := 0, rref := 0, tref := 0, v := 0 }

/-- Retained memory found invalid (R486, R494, R567): generations at 1, the ladder at level 0, LOG_FIRST armed, and the
registers it holds at their reset values. -/
def Retained.invalid : Retained :=
  { saveCount := 0, rtcSec := 0, wdg := .reset, gens := Vector.replicate 160 1, first := none, armed := true, lost := 0,
    tally := 0, nextSeq := 1, staged := [], est := Vector.replicate 3 .none, thm := ⟨false, [], 0, 0⟩,
    ein := Vector.replicate 9 0, eout := Vector.replicate 9 0, bctl := Vector.replicate 8 0, domCfg := 0x1E03,
    domAlarm := 0, prev := .dormant, wake := .none, wport := 0, holdLast := 0, powerFail := false }

/-- The log block after reset (R476). -/
def LogRecState.reset : LogRecState :=
  { group := none, scan := false, commit := false, erase := false, newest := 0, oldest := 0, rseq := 0, rdone := false,
    rok := false, rw := Vector.replicate 4 0, restored := false, found := 0 }

/-- The watchdog after a power-on reset (R455, R472). -/
def WdgState.reset : WdgState :=
  { cfg := 0, lock := false, clkCore := false, armed := false, run := false, since := 0, stood := 0, firstPeriod := false, good := 0,
    rootTripped := false, coreTripped := false, stepAt := none }

/-- The domain controller of an unpowered module. -/
def DomRec.reset : DomRec :=
  { st := .unpowered, on := 0, req := 0, rtcv := false, rmv := false, rtcSec := 0, rtcAt := 0, startAt := 0, refDom := 0,
    refCause := 0, refCount := 0, supplyAt := none, holdReady := false, holdV := 0, slot := 0, rsrc := 0, saves := 0,
    pwrPort := 0, pwrW := 0, resetLoop := false, wakeLoop := false, hvWake := none, hvs := [], batFeed := 0, prev := .dormant, wake := .none, wport := 0,
    cold := false, stubAt := 0, stubFromRun := false, stubOff := false, idleSince := none,
    failAt := none, failSaved := false, savedAt := 0, boot := false, coreRestart := none }

/-- A bank that has never been written. -/
def BankRec.reset : BankRec := { st := .empty, cause := 0, seq := 0 }

/-- The image loader after reset (R425). -/
def ImgRec.reset : ImgRec :=
  { image := none, act := 0, boot := Vector.replicate 2 none, banks := Vector.replicate 2 .reset, trial := false,
    trialStarts := 0, trialUs := 0, trialAt := none, trialOver := false, sess := .closed, pages := [], lastOp := 0,
    asta := .none, req := none, bridge := false, nsfl := 0, build := 0, fmt := 0, secver := 0, keysel := 0,
    uresult := 0, udone := false, useq := 0, upage := 0, aresult := 0, adone := false, aseq := 0, acause := 0,
    pbuf := Vector.replicate 64 0, bootDue := false, bootAt := none, calCopy := 0, calBad := false, backing := false }

/-- The store after reset (R429). -/
def NvsRec.reset : NvsRec :=
  { ops := [], since := 0, started := false, holdAt := none, retry := false, sector := 0, corr := 0, uncorr := 0, torn := [], wear := Vector.replicate 128 0 }

/-- Fuses as delivered (R397, R456, R524). -/
def Fuses.delivered : Fuses :=
  { variantL := false, minsv := 0, k1 := false, win := 2, nmax := 3, sn := 0, keys := [] }

/-- The culm after reset (R142). -/
def CulmRec.reset : CulmRec :=
  { mode := .off, vmeas := 0, vset := 0, target := 0, slewFrom := 0, slewAt := 0, edge := none, slew := 0, ild := 0, msv := 0, uv := 0,
    ceilrej := 0, within2 := none, near := none, restoredAt := none, shedLevels := 0, supPort := none, supOn := false, supCur := 0,
    supOver := none, drain := none }

/-- The fabric after reset (R106). -/
def FabRec.reset : FabRec :=
  { maxmig := 0, dither := false, mlog := ⟨0, 0, 0, 0, 0⟩, migs := [] }

/-- The block-wide FLOW registers after reset (R216). -/
def FlowBlk.reset : FlowBlk :=
  { result := 0, done := false, busy := false, seq := 0, handle := 0, stale := 0, other := 0, gensrc := false }

/-- A charge engine without a flow (R252). -/
def ChgRec.reset : ChgRec :=
  { phase := 15, cause := 0, frest := false, hold := false, eqdue := false, safe := false, wait := 0, wc := none,
    since := 0, tphase := 0, tsafe := 0, acctAt := 0, counts := false, rate := 0, timing := false, left := none,
    portLeft := false, vtgt := 0, rcomp := 0, rused := none, itgt := 0, iprog := 0, vpk := 0, ipk := 0, block := 0,
    n := 0, dvobs := 0, smp := (0, 0), nrej := 0, dvFrom := 0, dtFrom := 0, dvArmed := false, dtArmed := false, cand := none, dtdt := 0,
    tbat := 0, ah := 0, cycles := 0, eqAt := 0, eqOk := false, bmsOver := false, disHold := false, dvHold := false, ovAt := none }

/-- The profile table's ports after reset (R259). -/
def ProfRec.reset : ProfRec := { lo := none, hi := none, torn := 0, cres := 0, cdone := false }

/-- A BMS that has never been heard (R545). -/
def BmsLims.reset : BmsLims := { at_ := none, cvl := 0, ccl := 0, dcl := 0, dvl := 0, cp := false, dp := false, full := false, ncell := 0 }
def BmsRec.reset : BmsRec :=
  { limAt := none, stAt := none, limCtr := none, stCtr := none, staleRow := 0, cvl := 0, ccl := 0, dcl := 0, dvl := 0,
    cp := false, dp := false, full := false, alarm := false, ncell := 0, tmin := 0, tmax := 0, came := .reset, act := .reset }

/-- An estimator channel after reset (R281). -/
def EstRec.reset : EstRec :=
  { st := .waiting, todo := [], again := false, half := false, ordered := false, nsweep := 0, ndisc := 0,
    pz := Vector.replicate 15 (0, 0), valid := 0, fresh := 0, rhf := 0, rpol := 0, last := false, lastT := none,
    rconv := false, newbat := false, sweptAt := none, pausedAt := 0, ptAt := 0, waitAt := none, waitUs := 0, kneeAt := 0, stopped := 0, okSince := none, startI := 0, cells := 0, dr := 0,
    base := none, mark := none, formed := false, q := 0, unc := 255, uncQ := 0, uncAt := 0, src := 0, count := none, qest := 0,
    rsoh := 0, rsohT := none, savedAt := 0, quietAt := none, due := none, first := true }

/-- A sensor after reset (R310). -/
def SensorRec.reset : SensorRec :=
  { st := .off, cause := 0, nfail := 0, t := 0, raw := 0, pred := 0, node := 0, seen := false, testAt := none, trying := 0, selfBad := false, nodeAcc := 0, farSince := none,
    passSince := none, stuckAt := 0, stuckRaw := 0, lossLo := 0, lossHi := 0 }

/-- The thermal manager after reset (R310). -/
def ThmRec.reset : ThmRec :=
  { cond := .normal, warn := false, nvhold := false, mconv := false, hist := false, nsd := 0, tmax := 0, tmaxIdx := 0,
    tmaxSub := false, tctl := 0, tctlIdx := 0, tctlPred := false, step := 0, floor := 0, hold := none, tickAt := 0,
    tickT := 0, coolSince := none, rsSince := none, tref := 0, refAcc := 0, refSrc := false, started := false,
    okAt := none, runAt := none, invalid := false, clearAt := none,
    plate := Vector.replicate 48 0, dieNode := Vector.replicate 40 0, die := Vector.replicate 40 (0, 0), sensors := Vector.replicate 48 .reset,
    fans := Vector.replicate 3 ⟨0, 0, 0, 0⟩ }

/-- The budget registers after reset (R340). -/
def ThrSet.reset : ThrSet :=
  { budp := 0x02718CA0, budh := 0x3B6, cset := 0xBB80, cwin := 0xEA609C40, gen := 0x00781E28,
    fc := Vector.replicate 8 0, plim := Vector.replicate 7 0 }

/-- Thresher after reset (R341). -/
def ThrRec.reset : ThrRec :=
  { st := .stopped, t0 := 0, k := 0, committed := .reset, inForce := .reset, fcTouched := false, fcNew := false,
    fcStart := 0, fcValid := false, cres := 0, ccause := 0, cseq := 0, round := none, last := none, late := 0,
    failed := false, tpk := 0, trec := 0, peakx := false, lastAt := 0, eIn := 0, eLoad := 0, nsLoad := 0, adm := false,
    reason := 0, admAt := 0, req := false, reqAt := 0, instSince := none, ebat := 0, eneed := 0,
    eqSince := Vector.replicate 3 none, defer := false, coolAt := none, deferUs := Vector.replicate 3 (0, 0),
    stk := 0xFFFF, lend := 0, stklost := false, first := false, firstDone := false, firstUs := 0, firstAt := 0, orders := [],
    sheds := [], ordersAt := 0 }

/-- The SENSE block after reset (R364). -/
def SenseRec.reset : SenseRec :=
  { gstall := Vector.replicate 7 false, vcore := 900, tslow := 0, groups := Vector.replicate 7 ⟨0, 0, 0, 0, 0⟩,
    ch := Vector.replicate 128 (0, 3), again := [], above := Vector.replicate 7 false
    turn := 0, prioAt := Vector.replicate 7 none, waiting := [], prio := [] }

/-- The Awn link after reset (R392). -/
def AwnRec.reset : AwnRec :=
  { link := .disabled, validAt := 0, tagexp := 0, taglast := none, src := 0, pend := none, slew := 0, asked := 0, reply := none,
    cmd := 0, rx := 0, sup := 0, crc := 0, seq := 0, sync := 0, txdrop := 0, lostAt := none, txq := [], statAt := 0, badTag := none }

/-- The ring framer after reset (R513, R542). -/
def RingRec.reset : RingRec :=
  { pos := 0, sides := Vector.replicate 2 ⟨0, 0, 0, 0, none, [], false⟩, sess := none, key := Vector.replicate 8 0, rx := 0,
    tx := 0, crc := 0, auth := 0, drop := 0, hop := 0, xseq := 0, stookAt := none, evalDue := false, sendDue := false,
    nrep := 0, lost := false, ownSeq := 0, peers := [], replies := [], exch := [], identAt := 0, mirror := (0, 0), bad := none }

/-- The CAN controller after reset (R546). -/
def CanRec.reset : CanRec :=
  { bus := 3, tec := 0, recv := 0, rx := 0, tx := 0, rej := 0, stale := 0, drop := 0, txq := [],
    ctr := Vector.replicate 3 0, sentAt := Vector.replicate 3 0 }

/-- The module right after reset: without power, every domain off, every register at its reset value, the queue empty
(assumption 3). -/
def State.reset : State :=
  { pending := [], now := 0, freeN := 0, deferred := [],
    flt := Vector.ofFn fun b => BlkFault.reset fsevReset[b] frtyReset[b],
    safeLine := [], halt := Vector.replicate 9 [], x3 := [], xing := Vector.replicate 5 .reset, xslots := [],
    rw := [], nv := [], prof := [], log := .reset, wdg := .reset,
    host := { run := false, since := 0, exp := false, nexp := 0, zero := false },
    ret := .invalid, slots := Vector.replicate 2 none, dom := .reset, img := .reset, nvs := .reset,
    sys := { cause := 0, req := 0, count := 0, addr := 0 }, fuse := .delivered,
    fab := .reset, groups := Vector.replicate 7 .reset, cells := Vector.replicate 40 .reset, culm := .reset,
    gov := Vector.replicate 9 .reset, branches := Vector.replicate 8 .reset, loads := Vector.replicate 2 ⟨0, 0, none⟩,
    src := Vector.replicate 4 .reset, hov := { port := 0, full := false, dur := 0, droop := 0, t0 := 0 },
    flow := .reset, ctx := Vector.replicate 160 (.freed 1),
    bat := Vector.replicate 3 .reset, fdr := Vector.replicate 4 .reset,
    chg := Vector.replicate 3 .reset, profIO := .reset, bms := Vector.replicate 16 .reset,
    est := Vector.replicate 3 .reset, thm := .reset, thr := .reset, sense := .reset, awn := .reset, ring := .reset,
    can := .reset, energy := Vector.replicate 9 (0, 0) }

end Sys2Proof.Machine
end

