-- ==== Sys2Proof/Machine/Regs.lean ====
section
/-!
DEFINITION. The RW configuration registers: where they lie (R560, R575), what they hold after reset, which bits and
ranges they accept (R561 and the field tables), and the store of their values.
-/

namespace Sys2Proof.Machine

/-- One field of a register: its bits, and the range to which a written value is clamped (R561). -/
structure RegField where
  hi : Nat
  lo : Nat
  least : Nat
  most : Nat
  deriving DecidableEq, Repr

/-- A register, or an array of them (R575). -/
structure RegSpec where
  base : Nat
  stride : Nat
  count : Nat
  reset : Word
  fields : List RegField
  deriving DecidableEq, Repr

/-- IMG_CFG (R425). -/
def imgCfgSpec : RegSpec := ⟨0x040020, 0x4, 1, 0xA3C1E, [⟨7, 0, 1, 255⟩, ⟨15, 8, 1, 255⟩, ⟨23, 16, 1, 255⟩]⟩
/-- CULM_PCEIL (R142). -/
def culmPceilSpec : RegSpec := ⟨0x060100, 0x10, 9, 0x7D0, [⟨13, 0, 250, 10000⟩]⟩
/-- LOAD_BCTL (R146). -/
def loadBctlSpec : RegSpec := ⟨0x070100, 0x20, 8, 0x0, [⟨0, 0, 0, 1⟩, ⟨5, 4, 0, 3⟩, ⟨8, 8, 0, 1⟩]⟩
/-- LOAD_BLIM (R146). -/
def loadBlimSpec : RegSpec := ⟨0x070104, 0x20, 8, 0x14011770, [⟨12, 0, 0, 6000⟩, ⟨17, 16, 0, 3⟩, ⟨29, 24, 5, 40⟩]⟩
/-- SRC_PCFG (R184). -/
def srcPcfgSpec : RegSpec := ⟨0x080100, 0x40, 4, 0x0, [⟨0, 0, 0, 1⟩, ⟨6, 4, 0, 7⟩]⟩
/-- SRC_QV (R184). -/
def srcQvSpec : RegSpec := ⟨0x080104, 0x40, 4, 0x17700258, [⟨15, 0, 600, 6000⟩, ⟨31, 16, 600, 6000⟩]⟩
/-- SRC_QF (R184). -/
def srcQfSpec : RegSpec := ⟨0x080108, 0x40, 4, 0x19641194, [⟨12, 0, 4500, 6500⟩, ⟨28, 16, 4500, 6500⟩]⟩
/-- SRC_QT (R184). -/
def srcQtSpec : RegSpec := ⟨0x08010C, 0x40, 4, 0x40A0019, [⟨15, 0, 5, 60000⟩, ⟨23, 16, 1, 255⟩, ⟨27, 24, 0, 15⟩]⟩
/-- SRC_PLIM (R184). -/
def srcPlimSpec : RegSpec := ⟨0x080110, 0x40, 4, 0x3E800C80, [⟨11, 0, 0, 3200⟩, ⟨31, 16, 0, 16000⟩]⟩
/-- SRC_PFLD (R184). -/
def srcPfldSpec : RegSpec := ⟨0x080114, 0x40, 4, 0x0, [⟨15, 0, 0, 65535⟩, ⟨23, 16, 0, 255⟩, ⟨31, 24, 0, 255⟩]⟩
/-- SRC_MPPT (R184). -/
def srcMpptSpec : RegSpec := ⟨0x080118, 0x40, 4, 0x20F0A0A, [⟨7, 0, 1, 100⟩, ⟨15, 8, 2, 40⟩, ⟨23, 16, 0, 255⟩, ⟨31, 24, 1, 255⟩]⟩
/-- SRC_PROT (R184). -/
def srcProtSpec : RegSpec := ⟨0x08011C, 0x40, 4, 0x114, [⟨7, 0, 0, 255⟩, ⟨9, 8, 0, 3⟩]⟩
/-- BAT_PCFG (R256). -/
def batPcfgSpec : RegSpec := ⟨0x090100, 0x40, 3, 0x114, [⟨7, 0, 5, 255⟩, ⟨8, 8, 0, 1⟩]⟩
/-- CHG_PCFG (R252). -/
def chgPcfgSpec : RegSpec := ⟨0x0A0120, 0x40, 3, 0x3, [⟨0, 0, 0, 1⟩, ⟨1, 1, 0, 1⟩]⟩
/-- EST_PCFG (R281). -/
def estPcfgSpec : RegSpec := ⟨0x0B0100, 0x40, 3, 0x3C7FFF21, [⟨0, 0, 0, 1⟩, ⟨6, 4, 1, 5⟩, ⟨22, 8, 0, 32767⟩, ⟨31, 24, 0, 255⟩]⟩
/-- EST_PBAT (R281). -/
def estPbatSpec : RegSpec := ⟨0x0B0104, 0x40, 3, 0x0, [⟨15, 0, 0, 65535⟩, ⟨31, 16, 0, 65535⟩]⟩
/-- EST_PKCF (R281). -/
def estPkcfSpec : RegSpec := ⟨0x0B0108, 0x40, 3, 0x140F, [⟨7, 0, 5, 100⟩, ⟨15, 8, 5, 50⟩]⟩
/-- EST_PREF (R281). -/
def estPrefSpec : RegSpec := ⟨0x0B010C, 0x40, 3, 0x0, [⟨15, 0, 0, 65535⟩, ⟨23, 16, 0, 255⟩]⟩
/-- THR_BUDP (R341). -/
def thrBudpSpec : RegSpec := ⟨0x0D0010, 0x4, 1, 0x2718CA0, [⟨15, 0, 0, 36000⟩, ⟨25, 16, 0, 625⟩]⟩
/-- THR_BUDH (R341). -/
def thrBudhSpec : RegSpec := ⟨0x0D0014, 0x4, 1, 0x3B6, [⟨9, 0, 0, 950⟩]⟩
/-- THR_CSET (R341). -/
def thrCsetSpec : RegSpec := ⟨0x0D0018, 0x4, 1, 0xBB80, [⟨15, 0, 0, 65535⟩]⟩
/-- THR_CWIN (R341). -/
def thrCwinSpec : RegSpec := ⟨0x0D001C, 0x4, 1, 0xEA609C40, [⟨15, 0, 0, 65535⟩, ⟨31, 16, 0, 65535⟩]⟩
/-- THR_GEN (R341). -/
def thrGenSpec : RegSpec := ⟨0x0D0020, 0x4, 1, 0x781E28, [⟨7, 0, 0, 100⟩, ⟨15, 8, 0, 255⟩, ⟨23, 16, 0, 255⟩, ⟨25, 24, 0, 3⟩]⟩
/-- THR_FC (R341). -/
def thrFcSpec : RegSpec := ⟨0x0D0040, 0x4, 8, 0x0, [⟨15, 0, 0, 65535⟩, ⟨31, 16, 0, 65535⟩]⟩
/-- THR_PLIM (R341). -/
def thrPlimSpec : RegSpec := ⟨0x0D0100, 0x4, 7, 0x0, [⟨15, 0, 0, 65535⟩, ⟨31, 16, 0, 65535⟩]⟩
/-- FLOW_CFG (R216). -/
def flowCfgSpec : RegSpec := ⟨0x0E0004, 0x4, 1, 0x64, [⟨7, 0, 10, 255⟩]⟩
/-- AWN_CFG (R392). -/
def awnCfgSpec : RegSpec := ⟨0x0F0004, 0x4, 1, 0xA0A3200, [⟨0, 0, 0, 1⟩, ⟨15, 8, 0, 255⟩, ⟨23, 16, 1, 255⟩, ⟨29, 24, 1, 50⟩]⟩
/-- AWN_CFG2 (R392). -/
def awnCfg2Spec : RegSpec := ⟨0x0F0008, 0x4, 1, 0x1405, [⟨7, 0, 1, 255⟩, ⟨15, 8, 1, 255⟩, ⟨23, 16, 0, 255⟩]⟩
/-- AWN_FCFG (R392). -/
def awnFcfgSpec : RegSpec := ⟨0x0F0100, 0x20, 4, 0x500A1400, [⟨0, 0, 0, 1⟩, ⟨15, 8, 1, 100⟩, ⟨23, 16, 1, 100⟩, ⟨31, 24, 50, 95⟩]⟩
/-- RING_PSTK (R542). -/
def ringPstkSpec : RegSpec := ⟨0x100100, 0x4, 4, 0x0, [⟨3, 0, 0, 15⟩]⟩
/-- CAN_CFG (R546). -/
def canCfgSpec : RegSpec := ⟨0x110004, 0x4, 1, 0xA180501, [⟨0, 0, 0, 1⟩, ⟨1, 1, 0, 1⟩, ⟨10, 8, 0, 7⟩, ⟨21, 16, 0, 31⟩, ⟨31, 24, 1, 255⟩]⟩
/-- WDG_HCT (R472). -/
def wdgHctSpec : RegSpec := ⟨0x020030, 0x4, 1, 0x1001E, [⟨9, 0, 1, 600⟩, ⟨17, 16, 0, 3⟩]⟩
/-- FLOW_SDEF0 (R217). -/
def flowSdef0Spec : RegSpec := ⟨0x0E0020, 0x4, 1, 0x0, [⟨2, 0, 0, 7⟩, ⟨7, 4, 0, 15⟩, ⟨11, 8, 0, 15⟩, ⟨14, 12, 0, 7⟩, ⟨19, 16, 0, 15⟩, ⟨23, 20, 0, 15⟩, ⟨29, 24, 0, 63⟩]⟩
/-- FLOW_SDEF1 (R217). -/
def flowSdef1Spec : RegSpec := ⟨0x0E0024, 0x4, 1, 0x0, [⟨15, 0, 0, 65535⟩, ⟨23, 16, 0, 255⟩]⟩
/-- FLOW_SDEF2 (R217). -/
def flowSdef2Spec : RegSpec := ⟨0x0E0028, 0x4, 1, 0x0, [⟨15, 0, 0, 65535⟩, ⟨28, 16, 0, 8191⟩]⟩
/-- FLOW_SDEF3 (R217). -/
def flowSdef3Spec : RegSpec := ⟨0x0E002C, 0x4, 1, 0x0, [⟨15, 0, 0, 65535⟩, ⟨16, 16, 0, 1⟩, ⟨17, 17, 0, 1⟩]⟩

/-- The configuration registers outside the fault registers. -/
def regSpecs : List RegSpec :=
  [imgCfgSpec, culmPceilSpec, loadBctlSpec, loadBlimSpec, srcPcfgSpec, srcQvSpec,
   srcQfSpec, srcQtSpec, srcPlimSpec, srcPfldSpec, srcMpptSpec, srcProtSpec,
   batPcfgSpec, chgPcfgSpec, estPcfgSpec, estPbatSpec, estPkcfSpec, estPrefSpec,
   thrBudpSpec, thrBudhSpec, thrCsetSpec, thrCwinSpec, thrGenSpec, thrFcSpec,
   thrPlimSpec, flowCfgSpec, awnCfgSpec, awnCfg2Spec, awnFcfgSpec, ringPstkSpec,
   canCfgSpec, wdgHctSpec, flowSdef0Spec, flowSdef1Spec, flowSdef2Spec, flowSdef3Spec]

/-- The fields of FSEV: eight severities of three bits (R110). -/
def fsevFields : List RegField :=
  [⟨2, 0, 0, 7⟩, ⟨5, 3, 0, 7⟩, ⟨8, 6, 0, 7⟩, ⟨11, 9, 0, 7⟩, ⟨14, 12, 0, 7⟩, ⟨17, 15, 0, 7⟩, ⟨20, 18, 0, 7⟩,
    ⟨23, 21, 0, 7⟩]

/-- Whether a block has fault registers: every block but SYS and PROF (R432). -/
def hasFaults (b : Nat) : Bool := b < 21 && b != 0 && b != 0x13

/-- The severities that a block fixes, reserved sources among them: source and code (R110, R144, R148, R186, R220,
R254, R258, R283, R312, R343, R366, R394, R427, R431, R474, R478, R506, R544, R548). -/
def fixedSev : Nat → List (Nat × Nat)
  | 0x01 => [(0, 4)]
  | 0x02 => [(4, 4), (7, 0)]
  | 0x03 => [(4, 4), (6, 0), (7, 0)]
  | 0x04 => [(6, 4)]
  | 0x05 => [(3, 4)]
  | 0x06 => [(6, 4)]
  | 0x07 => [(6, 4)]
  | 0x08 => [(3, 3)]
  | 0x09 => [(3, 4)]
  | 0x0B => [(6, 0), (7, 0)]
  | 0x0C => [(3, 4)]
  | 0x0D => [(7, 0)]
  | 0x0E => [(6, 0), (7, 0)]
  | 0x0F => [(6, 3)]
  | 0x10 => [(7, 0)]
  | 0x11 => [(7, 0)]
  | 0x12 => [(1, 4), (4, 4)]
  | 0x14 => [(7, 0)]
  | _ => []

/-- The mask bits that read 0 and ignore writes. -/
def fixedMask : Nat → List Nat
  | 0x01 => [0]
  | 0x02 => [4]
  | 0x03 => [4]
  | 0x04 => [6]
  | 0x05 => [3]
  | 0x06 => [6]
  | 0x07 => [6]
  | 0x08 => [3]
  | 0x09 => [3]
  | 0x0C => [3]
  | 0x0F => [6]
  | 0x12 => [1, 4]
  | _ => []

/-- The sources that a block has: reserved sources never occur. -/
def hasSource (b s : Nat) : Bool :=
  hasFaults b && match b with
    | 0x02 => s != 7
    | 0x03 => s < 6
    | 0x0B => s < 6
    | 0x0D => s != 7
    | 0x0E => s < 6
    | 0x10 => s != 7
    | 0x11 => s != 7
    | 0x14 => s != 7
    | _ => true

/-- The address of FSEV, FGRC and FMSK of a block (R557). -/
def fsevAddr (b : Blk) : Nat := 0x10000 * b.val + 0x0F08
def fgrcAddr (b : Blk) : Nat := 0x10000 * b.val + 0x0F10
def fmskAddr (b : Blk) : Nat := 0x10000 * b.val + 0x0F14

/-- The register that a register specification has at an address, if any (R575). -/
def RegSpec.covers (r : RegSpec) (a : Nat) : Bool :=
  r.base ≤ a && a < r.base + r.stride * r.count && (a - r.base) % r.stride == 0

/-- The specification of the RW configuration register at an address. -/
def regSpecAt (a : Nat) : Option RegSpec :=
  if a % 0x10000 = 0x0F08 ∧ hasFaults (a / 0x10000) = true then
    some ⟨a, 4, 1, if h : a / 0x10000 < 21 then fsevReset[a / 0x10000] else 0, fsevFields⟩
  else if a % 0x10000 = 0x0F10 ∧ hasFaults (a / 0x10000) = true then some ⟨a, 4, 1, 0x14, [⟨7, 0, 0, 255⟩]⟩
  else if a % 0x10000 = 0x0F14 ∧ hasFaults (a / 0x10000) = true then some ⟨a, 4, 1, 0, [⟨7, 0, 0, 255⟩]⟩
  else regSpecs.find? (·.covers a)

/-- The reset value of the RW configuration register at an address; 0 where there is none. -/
def regReset (a : Nat) : Word := match regSpecAt a with
  | some r => r.reset
  | none => 0

/-- The stored value of a written field, clamped to its range (R561). -/
def RegField.clamp (f : RegField) (v : Word) : Nat := max f.least (min f.most (v.bits f.hi f.lo))

/-- What a register stores of a written word: each field clamped, reserved bits 0 (R551, R561). -/
def RegSpec.accept (r : RegSpec) (v : Word) : Word :=
  r.fields.foldl (fun w f => w ||| BitVec.ofNat 32 (f.clamp v * 2 ^ f.lo)) 0

/-- Fixed severities enforced on a written FSEV word (R568). -/
def enforceSev (b : Nat) (v : Word) : Word :=
  (fixedSev b).foldl (fun w (s, c) => (w &&& ~~~(BitVec.ofNat 32 (7 * 2 ^ (3 * s)))) ||| BitVec.ofNat 32 (c * 2 ^ (3 * s))) v

/-- Fixed mask bits enforced on a written FMSK word. -/
def enforceMask (b : Nat) (v : Word) : Word :=
  (fixedMask b).foldl (fun w s => w &&& ~~~(BitVec.ofNat 32 (2 ^ s))) v

/-- Addresses of the configuration registers (R560, R575). -/
def imgCfgAt : Nat := 0x040020
def culmPceilAt (p : Port) : Nat := 0x060100 + 0x10 * p.val
def loadBctlAt (b : Branch) : Nat := 0x070100 + 0x20 * b.val
def loadBlimAt (b : Branch) : Nat := 0x070104 + 0x20 * b.val
def srcPcfgAt (p : SPort) : Nat := 0x080100 + 0x40 * p.val
def srcQvAt (p : SPort) : Nat := 0x080104 + 0x40 * p.val
def srcQfAt (p : SPort) : Nat := 0x080108 + 0x40 * p.val
def srcQtAt (p : SPort) : Nat := 0x08010C + 0x40 * p.val
def srcPlimAt (p : SPort) : Nat := 0x080110 + 0x40 * p.val
def srcPfldAt (p : SPort) : Nat := 0x080114 + 0x40 * p.val
def srcMpptAt (p : SPort) : Nat := 0x080118 + 0x40 * p.val
def srcProtAt (p : SPort) : Nat := 0x08011C + 0x40 * p.val
def batPcfgAt (p : BPort) : Nat := 0x090100 + 0x40 * p.val
def chgPcfgAt (p : BPort) : Nat := 0x0A0120 + 0x40 * p.val
def estPcfgAt (p : BPort) : Nat := 0x0B0100 + 0x40 * p.val
def estPbatAt (p : BPort) : Nat := 0x0B0104 + 0x40 * p.val
def estPkcfAt (p : BPort) : Nat := 0x0B0108 + 0x40 * p.val
def estPrefAt (p : BPort) : Nat := 0x0B010C + 0x40 * p.val
def thrBudpAt : Nat := 0x0D0010
def thrBudhAt : Nat := 0x0D0014
def thrCsetAt : Nat := 0x0D0018
def thrCwinAt : Nat := 0x0D001C
def thrGenAt : Nat := 0x0D0020
def thrFcAt (k : Fin 8) : Nat := 0x0D0040 + 0x4 * k.val
def thrPlimAt (g : Group) : Nat := 0x0D0100 + 0x4 * g.val
def flowCfgAt : Nat := 0x0E0004
def flowSdefAt (k : Fin 4) : Nat := 0x0E0020 + 0x4 * k.val
def awnCfgAt : Nat := 0x0F0004
def awnCfg2At : Nat := 0x0F0008
def awnFcfgAt (p : SPort) : Nat := 0x0F0100 + 0x20 * p.val
def ringPstkAt (p : SPort) : Nat := 0x100100 + 0x4 * p.val
def canCfgAt : Nat := 0x110004
def wdgHctAt : Nat := 0x020030

/-- The value of the RW configuration register at an address. -/
def State.reg (s : State) (a : Nat) : Word := sget regReset s.rw a

/-- The register store with a value written as it stands. -/
def State.putReg (s : State) (a : Nat) (v : Word) : State := { s with rw := sput regReset s.rw a v }

/-- A write of a word to the RW configuration register at an address: fields clamped, reserved bits ignored (R561). -/
def State.setReg (s : State) (a : Nat) (v : Word) : State := match regSpecAt a with
  | some r => s.putReg a (r.accept v)
  | none => s

end Sys2Proof.Machine
end

