-- ==== Sys2Proof/Machine/Ops.lean ====
section
/-!
DEFINITION. Named operations over the state: one accessor and one update for each array, time, domains, the numbering
of ports and groups, and the answer of a command.
-/

namespace Sys2Proof

/-! ### Ports, groups and domains (R77, R107, R191, R574) -/

/-- The port numbers of P1-P4, B1-B3 and L1-L2 in DOM and CULM numbering. -/
def SPort.port (p : SPort) : Port := ⟨p.val, by omega⟩
def BPort.port (p : BPort) : Port := ⟨4 + p.val, by omega⟩
def Side.loadPort (q : Side) : Port := ⟨7 + q.val, by omega⟩

/-- The group of a port, and the port of a group (R77). -/
def SPort.group (p : SPort) : Group := ⟨p.val, by omega⟩
def BPort.group (p : BPort) : Group := ⟨4 + p.val, by omega⟩
def Group.port (g : Group) : Port := ⟨g.val, by omega⟩

/-- The source port and the battery port with a port number, if any. -/
def Port.src? (p : Port) : Option SPort := if h : p.val < 4 then some ⟨p.val, h⟩ else none
def Port.bat? (p : Port) : Option BPort :=
  if h : 4 ≤ p.val ∧ p.val < 7 then some ⟨p.val - 4, by omega⟩ else none
def Port.load? (p : Port) : Option Side := if h : 7 ≤ p.val then some ⟨p.val - 7, by omega⟩ else none
def Port.group? (p : Port) : Option Group := if h : p.val < 7 then some ⟨p.val, h⟩ else none

/-- The port that an endpoint code of R191 names. -/
def endpointPort (e : Nat) : Option Port := if h : 1 ≤ e ∧ e ≤ 7 then some ⟨e - 1, by omega⟩ else none

/-- The load port of a branch. -/
def Branch.side (b : Branch) : Side := ⟨b.val / 4, by omega⟩

/-- The source port and the battery port of a number, if any. -/
def sport? (n : Nat) : Option SPort := if h : n < 4 then some ⟨n, h⟩ else none
def bport? (n : Nat) : Option BPort := if h : n < 3 then some ⟨n, h⟩ else none

/-- Whether a cell is an L-cell, and the domain that powers it (R18, R19). -/
def Cell.isL (c : Cell) : Bool := 16 ≤ c.val
def Cell.domain (c : Cell) : Nat :=
  if c.val < 8 then 4 else if c.val < 16 then 5 else 6 + (c.val - 16) / 8

/-- The cell's bit in FAB_GRP.cellmask and FAB_GALW.allow (R574). -/
def Cell.maskBit (c : Cell) : Nat := if c.val < 16 then c.val else c.val - 16

end Sys2Proof

namespace Sys2Proof.Machine

/-- The answer of every command: the next state (assumption 4). -/
abbrev Ans := Host.Outcome State Fault Refusal

/-- A vector with one element replaced. -/
def vset {α : Type} {n : Nat} (v : Vector α n) (i : Fin n) (x : α) : Vector α n := v.set i.val x i.isLt

/-- A value that saturates at `m` (R12). -/
def sat (m v : Nat) : Nat := min m v

/-- A measured value saturated into a signed field of `n` bits (R12). -/
def satInt (n : Nat) (v : Int) : Int := max (-(2 ^ (n - 1) : Int)) (min v (2 ^ (n - 1) - 1))

/-! ### Arrays -/

def State.setCell (s : State) (c : Cell) (x : CellRec) : State := { s with cells := vset s.cells c x }
def State.setGroup (s : State) (g : Group) (x : GroupRec) : State := { s with groups := vset s.groups g x }
def State.setGov (s : State) (p : Port) (x : GovRec) : State := { s with gov := vset s.gov p x }
def State.setBranch (s : State) (b : Branch) (x : BranchRec) : State := { s with branches := vset s.branches b x }
def State.setSrc (s : State) (p : SPort) (x : SrcRec) : State := { s with src := vset s.src p x }
def State.setCtx (s : State) (c : Ctx) (x : FlowCtx) : State := { s with ctx := vset s.ctx c x }
def State.setBat (s : State) (p : BPort) (x : BatRec) : State := { s with bat := vset s.bat p x }
def State.setFdr (s : State) (p : SPort) (x : FdrRec) : State := { s with fdr := vset s.fdr p x }
def State.setChg (s : State) (p : BPort) (x : ChgRec) : State := { s with chg := vset s.chg p x }
def State.setEst (s : State) (p : BPort) (x : EstRec) : State := { s with est := vset s.est p x }
def State.setSensor (s : State) (k : Sensor) (x : SensorRec) : State :=
  { s with thm := { s.thm with sensors := vset s.thm.sensors k x } }
def State.setFan (s : State) (f : Fan) (x : FanRec) : State :=
  { s with thm := { s.thm with fans := vset s.thm.fans f x } }
def State.setBms (s : State) (k : Bms) (x : BmsRec) : State := { s with bms := vset s.bms k x }
def State.setFlt (s : State) (b : Blk) (x : BlkFault) : State := { s with flt := vset s.flt b x }
def State.setHalt (s : State) (p : Port) (x : List Driver) : State := { s with halt := vset s.halt p x }
def State.setXing (s : State) (x : Xing) (r : XingRec) : State := { s with xing := vset s.xing x r }

/-- Whether a domain is on. -/
def State.domOn (s : State) (d : Nat) : Bool := s.dom.on.getLsbD d

/-- The home domain of a block (R556). -/
def homeDomain : Nat → Nat
  | 0x00 => 0 | 0x01 => 0 | 0x02 => 0 | 0x03 => 0 | 0x04 => 11
  | 0x0C => 10 | 0x10 => 1 | 0x11 => 1 | 0x12 => 10 | 0x14 => 11
  | _ => 3

/-- Blocks by name. -/
abbrev bDOM : Blk := 0x01
abbrev bWDG : Blk := 0x02
abbrev bLOG : Blk := 0x03
abbrev bIMG : Blk := 0x04
abbrev bFAB : Blk := 0x05
abbrev bCULM : Blk := 0x06
abbrev bLOAD : Blk := 0x07
abbrev bSRC : Blk := 0x08
abbrev bBAT : Blk := 0x09
abbrev bCHG : Blk := 0x0A
abbrev bEST : Blk := 0x0B
abbrev bTHM : Blk := 0x0C
abbrev bTHR : Blk := 0x0D
abbrev bFLOW : Blk := 0x0E
abbrev bAWN : Blk := 0x0F
abbrev bRING : Blk := 0x10
abbrev bCAN : Blk := 0x11
abbrev bSENSE : Blk := 0x12
abbrev bNVS : Blk := 0x14

/-! ### Time -/

/-- Microseconds since an instant. -/
def State.since (s : State) (t : Nat) : Nat := s.now - t

/-- The real-time clock: seconds, and microseconds within the second (R446, R485). -/
def State.rtc (s : State) : Nat := (s.dom.rtcSec + (s.now - s.dom.rtcAt) / 1000000) % 2 ^ 32
def State.rtcUs (s : State) : Nat := (s.now - s.dom.rtcAt) % 1000000

/-- A word of fields: least bit, width, value; reserved bits read 0. -/
def pack (l : List (Nat × Nat × Nat)) : Word := BitVec.ofNat 32 (l.foldl (fun n (lo, w, v) => n + v % 2 ^ w * 2 ^ lo) 0)

/-- An offset within an array of registers: the instance and the offset within its stride (R575). -/
def slot? (base stride n off : Nat) : Option (Fin n × Nat) :=
  if h : base ≤ off ∧ (off - base) / stride < n then some (⟨(off - base) / stride, h.2⟩, (off - base) % stride) else none

/-- Whether the module is in Run or Degraded (R479). -/
def State.inRun (s : State) : Bool := s.dom.st == .run || s.dom.st == .degraded

/-- THR_CFG, and the round period T_r in microseconds (R313). -/
def State.thrCfg (s : State) : Word := match s.img.image with
  | some i => i.thrCfg
  | none => 0x4A8701F4
def State.roundUs (s : State) : Nat := (s.thrCfg).bits 9 0

/-- The image's limits of the culm setpoint, mV (R340). -/
def State.cimg (s : State) : Word := match s.img.image with
  | some i => i.thrCimg
  | none => 0xEA609C40

/-- THM_LIM.thr and warn, degC, and THM_CFG (R293, R310). -/
def State.thmThr (s : State) : Nat := (s.img.image.map (·.thmThr)).getD 105
def State.thmWarn (s : State) : Nat := (s.img.image.map (·.thmWarn)).getD 115
def State.thmCfg (s : State) : Word := match s.img.image with
  | some i => i.thmCfg
  | none => 0x1404

/-- The cell sensors next to a sensor in its row (R284). -/
def neighbours (k : Sensor) : List Sensor :=
  (List.finRange 48).filter fun j => decide (j.val < 40) && decide (k.val < 40) && j.val / 8 == k.val / 8 &&
    (j.val + 1 == k.val || k.val + 1 == j.val)

/-- A fresh free value, with the counter advanced (assumption 2). -/
def State.free (s : State) : Nat := Config.freeNat s.freeN
def State.drew (s : State) : State := { s with freeN := s.freeN + 1 }

/-- The i-th of several fresh free values drawn together, and as a signed 16-bit value. -/
def State.freeAt (s : State) (i : Nat) : Nat := Config.freeNat (s.freeN + i)
def State.freeInt (s : State) (i : Nat) : Int := signedOf 16 (s.freeAt i % 65536)
def State.drewMany (s : State) (n : Nat) : State := { s with freeN := s.freeN + n }

/-! ### Discharge elements (R65, R133, R134) -/

/-- Whether an element holds its port: ten events within 60 s, until 60 s pass without one. -/
def StageRec.holds (x : StageRec) (now : Nat) : Bool := x.hold && x.events.any fun e => decide (now < e + 60000000)

/-- The events of the last 60 s. -/
def StageRec.recent (x : StageRec) (now : Nat) : List Nat := x.events.filter fun e => decide (now < e + 60000000)

/-- One more drain: the elements absorb an event. -/
def StageRec.drain (x : StageRec) (now : Nat) (again : Bool) : StageRec :=
  { x with drainAt := some now, lastAt := now, again := again, stuck := false, events := x.recent now ++ [now],
           hold := x.holds now || decide (9 ≤ (x.recent now).length) }

/-- A stop of the port: the elements are enabled (R133). -/
def StageRec.stop (x : StageRec) (now : Nat) : StageRec := { x.drain now false with ext := false, feeder := false }

/-- Whether the elements work: 200 ms after the stop. -/
def StageRec.drains (x : StageRec) (now : Nat) : Bool := x.drainAt.any fun t => decide (now < t + 200000)

/-- The discharge elements of a port; L1 and L2 have none. -/
def State.stage? (s : State) (p : Port) : Option StageRec :=
  match p.src?, p.bat? with
  | some k, _ => some s.src[k].stage
  | none, some k => some s.bat[k].stage
  | none, none => none

/-- The discharge elements of a port replaced. -/
def State.setStage (s : State) (p : Port) (x : StageRec) : State :=
  match p.src?, p.bat? with
  | some k, _ => s.setSrc k { s.src[k] with stage := x }
  | none, some k => s.setBat k { s.bat[k] with stage := x }
  | none, none => s

/-- The bound of R65 on a drain of a port, mV, and the time by which it is met, microseconds: 30 V and 200 ms where the port stopped in
the feeder role, which a reset takes away, else 60 V and 100 ms. -/
def State.feederDrain (s : State) (p : Port) : Bool := (s.stage? p).any (·.feeder)
def State.drainBound (s : State) (p : Port) : Nat := if s.feederDrain p then 30000 else 60000
def State.drainTime (s : State) (p : Port) : Nat := if s.feederDrain p then 200000 else 100000

/-- The stage voltage above which a port does not restart, mV (R134). -/
def State.restartBound (s : State) (p : Port) : Nat := if p.src?.any (fun k => s.src[k].role == .feeder) then 30000 else 60000

/-- Whether the stage of a port keeps it from a restart (R134): an element holds it, or the stage voltage is above the bound. The last
measured voltage tells this while the drain has time, once the drain has missed its bound twice, and where it was measured after the
drain had ended. -/
def State.stageBars (s : State) (p : Port) : Bool :=
  match s.stage? p with
  | some x => x.holds s.now ||
      (decide (s.restartBound p ≤ s.gov[p].vst) &&
        (x.stuck || decide (s.now < x.lastAt + s.drainTime p) || decide (x.lastAt + s.drainTime p ≤ s.gov[p].vstAt)))
  | none => false

/-! ### Flow definitions (R217) -/

def FlowDef.kind (d : FlowDef) : Nat := d.d0.bits 2 0
def FlowDef.from_ (d : FlowDef) : Nat := d.d0.bits 7 4
def FlowDef.dst (d : FlowDef) : Nat := d.d0.bits 11 8
def FlowDef.policy (d : FlowDef) : Nat := d.d0.bits 14 12
def FlowDef.prio (d : FlowDef) : Nat := d.d0.bits 19 16
def FlowDef.via (d : FlowDef) : Nat := d.d0.bits 23 20
def FlowDef.remote (d : FlowDef) : Nat := d.d0.bits 29 24
def FlowDef.ilim (d : FlowDef) : Nat := d.d1.bits 15 0
def FlowDef.rampField (d : FlowDef) : Nat := d.d1.bits 23 16
def FlowDef.plim (d : FlowDef) : Nat := d.d2.bits 15 0
def FlowDef.prof (d : FlowDef) : Nat := d.d2.bits 28 16
def FlowDef.param (d : FlowDef) : Nat := d.d3.bits 15 0
def FlowDef.defer (d : FlowDef) : Bool := d.d3.bit 16
def FlowDef.surplus (d : FlowDef) : Bool := d.d3.bit 17

/-- The ramp rate, A/ms: 20 where the field is 0 (R205). -/
def FlowDef.ramp (d : FlowDef) : Nat := if d.rampField = 0 then 20 else d.rampField

/-- The local port of a flow: its port endpoint, or its via port (R192). -/
def FlowDef.port (d : FlowDef) : Option Port :=
  match d.kind with
  | 1 => endpointPort d.from_
  | 2 => endpointPort d.dst
  | 3 => endpointPort d.from_
  | 4 => endpointPort d.dst
  | 5 => endpointPort d.via
  | 6 => endpointPort d.via
  | _ => none

/-- The contexts in ascending order. -/
def allCtx : List Ctx := List.finRange 160
def allCells : List Cell := List.finRange 40
def allGroups : List Group := List.finRange 7
def allBranches : List Branch := List.finRange 8
def allPorts : List Port := List.finRange 9
def allSrc : List SPort := List.finRange 4
def allBat : List BPort := List.finRange 3
def allBlk : List Blk := List.finRange 21

/-- The state after an update for each element of a list, in order. -/
def forEach {α : Type} (l : List α) (f : State → α → State) (s : State) : State := l.foldl f s

/-- Whether two items share a slot: replaced values and merged commands of one kind do (R357). -/
def sameSlot : XItem → XItem → Bool
  | .stook _ _, .stook _ _ => true
  | .setpoint _, .setpoint _ => true
  | .setpointStatus _, .setpointStatus _ => true
  | .rtc _, .rtc _ => true
  | a, b => a == b

/-- A replace item raised: a new value takes the place of one not yet taken (R357). -/
def State.putValue (s : State) (q : XSlot) : State :=
  if s.xslots.any fun r => r.x == q.x && sameSlot r.item q.item then
    { s with xslots := s.xslots.map fun r => if r.x == q.x && sameSlot r.item q.item then q else r }
  else { s with xslots := s.xslots ++ [q] }

/-- The generation of a context raised towards retained memory (R190, R357). -/
def State.saveGen (s : State) (c : Ctx) : State := s.putValue ⟨3, .saveGen c, 1, .gen s.ctx[c].gen⟩

/-- The trial's time so far in Run or Degraded, microseconds (R419). -/
def State.trialUsed (s : State) : Nat := s.img.trialUs + (match s.img.trialAt with
  | some t => s.now - t
  | none => 0)

end Sys2Proof.Machine
end

