-- ==== Sys2Proof/Machine/Profile.lean ====
section
/-!
DEFINITION. Charge profiles: the entries of the profile table, the checks of R230 in the order of their codes, and the
profile that a valid run of entries spells (R228-R231).
-/

namespace Sys2Proof.Machine

/-- The profile table entry of an index. -/
def State.entry (s : State) (n : Nat) : Entry := sget (fun _ => 0) s.prof n

/-- The nent entries from a reference. -/
def State.profileEntries (s : State) (ref : Nat) : List Entry :=
  (List.range ((s.entry ref).bits 49 45)).map fun i => s.entry (ref + i)

/-- The type of an entry (R228). -/
def Entry.type (e : Entry) : Nat := Entry.bits e 63 60

/-- One byte of the CRC of R229: polynomial 0x1021, most significant bit first. -/
def crc16Byte (c b : Nat) : Nat :=
  (List.range 8).foldl (fun c _ => if c < 0x8000 then 2 * c else (2 * c % 0x10000) ^^^ 0x1021) (c ^^^ (b * 256))

/-- CRC-16 of R229, initial value 0xFFFF. -/
def crc16 (l : List Nat) : Nat := l.foldl crc16Byte 0xFFFF

/-- The eight bytes of an entry, most significant first. -/
def entryBytes (n : Nat) : List Nat := (List.range 8).map fun i => n >>> (8 * (7 - i)) % 256

/-- The check code of the entries of a profile (R229): over all of them, the header's check field taken as 0. -/
def profileCrc : List Entry → Nat
  | [] => crc16 []
  | h :: l => crc16 (entryBytes (h.toNat - h.toNat % 0x10000) ++ l.flatMap fun e => entryBytes e.toNat)

/-- The bits of an entry that R229 assigns, by type; every other bit is reserved. -/
def usedBits : Nat → Entry
  | 1 => 0xFFFFFFFF8FFFFFFF
  | 2 => 0xFFFFFFFFFFFFFFFF
  | 3 => 0xFFFFFFFFE0000000
  | 4 => 0xFFFFFFFFFFFFFF00
  | 5 => 0xFFFFFFFFF0000000
  | _ => 0

/-- The fields of R229. -/
def phaseOf (e : Entry) : PhaseEntry :=
  { code := e.bits 59 56, vcell := e.bits 55 40, ilim := e.bits 39 26, iexit := e.bits 25 18, ontmax := e.bits 17 16,
    tmax := e.bits 15 0 }
def nickelOf (e : Entry) : NickelEntry :=
  { dv := e.bits 59 52, dtdt := e.bits 51 44, holdoff := e.bits 43 38, knee := e.bits 37 37 == 1, tabs := e.bits 36 29 }
def tempOf (e : Entry) : TempEntry :=
  { tcmin := signedOf 8 (e.bits 59 52), tcmax := signedOf 8 (e.bits 51 44), tdmin := signedOf 8 (e.bits 43 36),
    tdmax := signedOf 8 (e.bits 35 28), tcomp := signedOf 12 (e.bits 27 16), teqmax := signedOf 8 (e.bits 15 8) }
def lithOf (e : Entry) : LithEntry :=
  { bms := ⟨e.bits 59 52 % 16, Nat.mod_lt _ (by decide)⟩, btmo := e.bits 51 40, vmargin := e.bits 39 28 }

/-- The profile that a header and its further entries spell. -/
def profileOf (h : Entry) (l : List Entry) : Profile :=
  { chem := h.bits 59 56, ncell := h.bits 55 50, nodis := h.bits 44 44 == 1, timer := h.bits 43 39,
    eqdays := h.bits 38 31, vrest := h.bits 27 16,
    temp := tempOf ((l.find? (fun e => Entry.type e == 4)).getD 0),
    nickel := (l.find? (fun e => Entry.type e == 3)).map nickelOf,
    lith := (l.find? (fun e => Entry.type e == 5)).map lithOf,
    phases := (l.filter (fun e => Entry.type e == 2)).map phaseOf }

/-- The phases that a chemistry allows, and its range of vcell in 0.1 mV (R231). -/
def chemPhases (c : Nat) : List Nat :=
  match c with
  | 0 => [1, 2, 3, 4, 6, 7]
  | 1 => [1, 2, 3, 4, 6]
  | 2 => [1, 2, 5, 6]
  | 3 => [1, 2, 5, 6]
  | 4 => [1, 2, 5, 6]
  | 5 => [1, 2, 3, 6]
  | _ => []
def chemVcell (c : Nat) : Nat × Nat :=
  match c with
  | 0 => (18000, 27000)
  | 1 => (18000, 26000)
  | 2 => (10000, 18500)
  | 3 => (10000, 18000)
  | 4 => (10000, 18500)
  | 5 => (25000, 44000)
  | _ => (0, 0)

/-- The plausible open-circuit voltage per cell, 0.1 mV (R231); lithium is judged by its cell count. -/
def chemPlausible (c : Nat) : Nat × Nat :=
  match c with
  | 0 => (16000, 24000)
  | 1 => (16000, 24000)
  | 2 => (8000, 16000)
  | 3 => (8000, 16000)
  | 4 => (8000, 17500)
  | _ => (0, 65535)

/-- Whether a chemistry is nickel, or lead. -/
def isNickel (c : Nat) : Bool := 2 ≤ c && c ≤ 4
def isLead (c : Nat) : Bool := c ≤ 1

/-- Whether the entries after the header stand in the order of R228: non-phase entries, then phase entries. -/
def inOrder : List Entry → Bool
  | [] => true
  | e :: l => if Entry.type e = 2 then l.all (fun k => Entry.type k == 2) else Entry.type e != 1 && inOrder l

/-- Whether a list of numbers rises strictly. -/
def rising : List Nat → Bool
  | a :: b :: l => decide (a < b) && rising (b :: l)
  | _ => true

/-- Check 5 of R230: order, count and the chemistry rules of R231. -/
def orderOk (p : Profile) (l : List Entry) : Bool :=
  let n (t : Nat) : Nat := (l.filter fun e => Entry.type e == t).length
  let codes := p.phases.map (·.code)
  inOrder l && !codes.isEmpty && rising codes && n 4 == 1 && (n 3 == if isNickel p.chem then 1 else 0) &&
    (n 5 == if p.chem == 5 then 1 else 0) && codes.all (chemPhases p.chem).contains && codes.contains 2 &&
    (!codes.contains 7 || codes.contains 6) &&
    p.phases.all fun e => decide ((chemVcell p.chem).1 ≤ e.vcell) && decide (e.vcell ≤ (chemVcell p.chem).2)

/-- A temperature limit within −40 to 85 degC (R229). -/
def tempRange (t : Int) : Bool := decide (-40 ≤ t) && decide (t ≤ 85)

/-- Check 6 of R230: every field in its range, and string voltages within 20.0-72.0 V. -/
def rangeOk (p : Profile) (l : List Entry) : Bool :=
  (isLead p.chem || p.temp.tcomp == 0) && decide (1 ≤ p.ncell) && decide (p.ncell ≤ 60) && decide (p.timer ≤ 24) &&
    [p.temp.tcmin, p.temp.tcmax, p.temp.tdmin, p.temp.tdmax, p.temp.teqmax].all tempRange &&
    (p.phases.all fun e => decide (e.ontmax ≤ 1) && decide (200000 ≤ p.ncell * e.vcell) &&
      decide (p.ncell * e.vcell ≤ 720000)) &&
    (match p.nickel with
     | some k => decide (20 ≤ k.dv) && decide (k.dv ≤ 100) && decide (50 ≤ k.dtdt) && decide (k.dtdt ≤ 200) &&
         decide (5 ≤ k.holdoff) && decide (k.holdoff ≤ 60) && decide (30 ≤ k.tabs) && decide (k.tabs ≤ 70)
     | none => true) &&
    (match l.find? (fun e => Entry.type e == 5) with
     | some e => decide (Entry.bits e 59 52 ≤ 15) && decide (100 ≤ Entry.bits e 51 40) && decide (Entry.bits e 51 40 ≤ 4000)
     | none => true)

/-- The result of the checks of R230 on a reference: 0 valid, else the code of the first that fails. -/
def State.profileCheck (s : State) (ref : Nat) : Nat :=
  let h := s.entry ref
  if 6143 < ref ∨ Entry.type h ≠ 1 then 1
  else if h.bits 49 45 < 3 ∨ 24 < h.bits 49 45 ∨ 6144 < ref + h.bits 49 45 then 2
  else
    let es := s.profileEntries ref
    let p := profileOf h es.tail
    if es.any (fun e => decide (e &&& ~~~(usedBits (Entry.type e)) ≠ 0) || !(decide (1 ≤ Entry.type e) && decide (Entry.type e ≤ 5))) then 3
    else if profileCrc es ≠ h.bits 15 0 then 4
    else if orderOk p es.tail = false then 5
    else if rangeOk p es.tail = false then 6
    else 0

/-- The profile at a reference, where it is valid. -/
def State.profile? (s : State) (ref : Nat) : Option Profile :=
  if s.profileCheck ref = 0 then some (profileOf (s.entry ref) (s.profileEntries ref).tail) else none

/-- The phase entry of a code, if the profile has one. -/
def Profile.phase? (p : Profile) (code : Nat) : Option PhaseEntry := p.phases.find? (·.code == code)

/-- The next phase entry in ascending code, Equalize left out; Rest where there is none (R235). -/
def Profile.next (p : Profile) (code : Nat) : Nat :=
  match p.phases.find? fun e => decide (code < e.code) && e.code != 7 with
  | some e => e.code
  | none => 8

/-- The string voltage of a phase entry, mV. -/
def Profile.volts (p : Profile) (e : PhaseEntry) : Nat := p.ncell * e.vcell / 10

/-! ### The BMS (R242, R535, R536) -/

/-- Whether the BMS of a lithium working copy is live (R242). -/
def State.bmsLive (s : State) (l : LithEntry) : Bool :=
  match s.bms[l.bms].act.at_ with
  | some t => decide (s.now < t + 1000 * l.btmo)
  | none => false

/-- The lithium entry of a port's working copy. -/
def State.lithium (s : State) (p : BPort) : Option LithEntry := s.chg[p].wc.bind (·.lith)

/-- Whether a port that needs a BMS has none live (R197, R204). -/
def State.bmsMissing (s : State) (p : BPort) : Bool :=
  match s.lithium p with
  | some l => !s.bmsLive l
  | none => false

/-- The ports that use a BMS (R535). -/
def State.bmsUsers (s : State) (k : Bms) : List BPort := allBat.filter fun p => (s.lithium p).any (·.bms == k)

/-- A BMS current limit shared among its ports, in 10 mA (R535): currents above 200 A act as 200 A. -/
def State.bmsShare (s : State) (k : Bms) (limit : Nat) : Nat := 10 * min 2000 limit / max 1 (s.bmsUsers k).length

/-- Whether the NTC input of a port is used and reads valid (R227). -/
def State.ntcUsed (s : State) (p : BPort) : Bool := (s.reg (batPcfgAt p)).bit 8
def State.ntcValid (s : State) (p : BPort) : Bool := s.ntcUsed p && s.bat[p].ntc == 0

/-- The lowest and highest battery temperature in use, 1/16 degC: from the STATE frame while it is no older than btmo,
else from the NTC where it is valid (R227, R536). -/
def State.batTemp (s : State) (p : BPort) : Option (Int × Int) :=
  let ntc := if s.ntcValid p then some (s.bat[p].tntc, s.bat[p].tntc) else none
  match s.lithium p with
  | some l => match s.bms[l.bms].stAt with
    | some t => if s.now ≤ t + 1000 * l.btmo then some (16 * s.bms[l.bms].tmin, 16 * s.bms[l.bms].tmax) else ntc
    | none => ntc
  | none => ntc

/-! ### The charge engine follows its flow (R203, R235, R240) -/

/-- The Charge flow of a battery port: the one that is not Free (R195). -/
def State.chgFlow (s : State) (p : BPort) : Option Ctx :=
  allCtx.find? fun c => s.ctx[c].st != .free && s.ctx[c].d.kind == 2 && s.ctx[c].d.port == some p.port

/-- The timers brought up to a moment (R238, R247). -/
def ChgRec.acct (x : ChgRec) (now : Nat) : ChgRec :=
  { x with tphase := if x.counts then x.tphase + (now - x.acctAt) else x.tphase,
           tsafe := if x.timing then x.tsafe + x.rate * (now - x.acctAt) else x.tsafe, acctAt := now }

/-- A new cycle: Qualify is entered, and the safety timer starts afresh (R235, R247). -/
def ChgRec.newCycle (x : ChgRec) (now cause : Nat) : ChgRec :=
  { x with phase := 0, cause := cause, frest := false, hold := false, wait := 0, since := now, tphase := 0, tsafe := 0,
           acctAt := now, counts := false, rate := 0, timing := false, left := none, portLeft := false, nrej := 0,
           cand := none, itgt := 0, dvArmed := false, dtArmed := false, bmsOver := false }

/-- No flow: phase 15 (R234). The cycle count and the Equalize record stay. -/
def ChgRec.idle (x : ChgRec) : ChgRec :=
  { ChgRec.reset with cause := x.cause, eqdue := x.eqdue, cycles := x.cycles, eqAt := x.eqAt, ah := x.ah, tbat := x.tbat,
                      dtdt := x.dtdt, cand := x.cand }

/-- The engine of a port after its flow has moved: a flow that turns Live for the first time starts at Qualify, one that
returns after its port left Present qualifies and then resumes, and a flow that is not Live stands still. -/
def State.settleChg (s : State) (p : BPort) : State :=
  let x := s.chg[p]
  match s.chgFlow p with
  | none => if x.phase = 15 ∧ x.wc = none then s else s.setChg p x.idle
  | some c =>
    if s.ctx[c].st = .live then
      if x.phase = 15 then s.setChg p { x.newCycle s.now 0 with ah := 0 }
      else if x.portLeft then
        let y := x.acct s.now
        s.setChg p { y with phase := 0, since := s.now, portLeft := false, counts := false, rate := 0, wait := 0,
                            left := if x.phase = 0 then x.left else some x.phase, itgt := 0 }
      else s
    else
      let y := x.acct s.now
      s.setChg p { y with counts := false, rate := 0, itgt := 0,
                          portLeft := x.phase != 15 && (x.portLeft || s.bat[p].st != .present) }

/-- Whether the BMS holds a Discharge flow at zero current, and its discharge limit (R242, R535): none without a BMS. -/
def State.disLimit (s : State) (p : BPort) : Option Nat :=
  match s.lithium p with
  | some l =>
    if s.chg[p].disHold then some 0
    else if s.bmsLive l && s.chg[p].dvHold then some 0
    else if s.bmsLive l && !s.bms[l.bms].act.dp then some 0
    else some (s.bmsShare l.bms s.bms[l.bms].act.dcl)
  | none => none

end Sys2Proof.Machine
end

