-- ==== Sys2Proof/Machine/Lines.lean ====
section
/-!
DEFINITION. What an asserted fault reaction line does to the power plane (R28), the hardware events that flows follow
(R196-R204), and the starving of groups (R100).
-/

namespace Sys2Proof.Machine

/-! ### Cells and migrations -/

/-- Whether a cell switches, or would with its group (R86, R92). -/
def CellState.running : CellState → Bool
  | .starting => true
  | .active => true
  | .shedding => true
  | .parked => true
  | .migrating => true
  | _ => false

/-- Whether a cell counts in its group's capacity (R82). -/
def CellState.counts : CellState → Bool
  | .active => true
  | .shedding => true
  | .parked => true
  | _ => false

/-- Whether a group is of TPR topology. -/
def State.paired (s : State) (g : Group) : Bool := s.groups[g].cfg.topo == .tpr

/-- The group that gives the cell of an order: the group of a cell that is Active or Parked in it (R89). -/
def State.donorOf (s : State) (c : Cell) : Option Group :=
  if s.cells[c].st = .active ∨ s.cells[c].st = .parked then s.cells[c].inMask else none

/-- The cells that an order of a cell into a group, or a shed in it, moves: the cell, and with it the other cell of its pair where the group
or the cell's donor is a TPR group (R89, R93). A partner that already runs in the receiver stays there, and one that is no member of the
donor of a pair does not leave with it (assumption 88). -/
def State.orderCells (s : State) (g : Group) (c : Cell) : List Cell :=
  let d := s.donorOf c
  allCells.filter fun k => k == c || (decide (c.val < 16) && k.val / 2 == c.val / 2 &&
    if s.paired g then d == some g || s.donorOf k != some g else d.any fun h => s.paired h && s.cells[k].inMask == some h)

/-- The cells that a migration moves, and the groups that give them (R89). -/
def Migr.cells (m : Migr) : List Cell := m.parts.map (·.cell)
def Migr.gives (m : Migr) (g : Group) : Bool := m.parts.any (·.donor == some g)

/-- The migration that a cell takes part in, if any. -/
def State.migrOf (s : State) (c : Cell) : Option Migr := s.fab.migs.find? fun m => m.cells.contains c

/-- The group whose port a cell serves: while it moves the donor, until it has left the donor's mask, then the receiver (R86, R90). -/
def State.served (s : State) (c : Cell) : Option Group :=
  match s.migrOf c with
  | some m => if s.cells[c].st = .migrating then s.cells[c].inMask.or (some m.dest) else some m.dest
  | none => s.cells[c].grp

/-- The port that a cell of a number serves, if any (R109). -/
def State.servedPort (s : State) (n : Nat) : List Port :=
  if h : n < 40 then ((s.served ⟨n, h⟩).map Group.port).toList else []

/-- FAB_MLOG written at the end of a migration or add, and the migration forgotten (R92); FAB_CELL.grp names the group of which a
cell is then a member (R108). -/
def State.endMigr (s : State) (m : Migr) (result : Nat) : State :=
  let s := forEach m.cells (fun s c => s.setCell c { s.cells[c] with movedAt := some s.now, grp := s.cells[c].inMask }) s
  let s := if result = 0 then s.setGroup m.dest { s.groups[m.dest] with addAt := some s.now } else s
  { s with fab := { s.fab with
      migs := s.fab.migs.filter (fun k => k.cell != m.cell)
      mlog := { cell := m.cell.val, donor := (m.donor.map (·.val)).getD 7, dest := m.dest.val, result := result,
                dur := sat 4095 (s.since m.t0) } } }

/-- A cell stopped into Idle, a member still (R86). -/
def State.idleCell (s : State) (c : Cell) : State :=
  s.setCell c { s.cells[c] with st := .idle, cur := 0, startRetry := false, retryAt := none, gate := none }

/-- A cell of a migration that ends before its selector opens (R86, R92): Active in the donor at its next switching event; one that
had no donor is Idle and keeps the membership that it had. -/
def State.giveBack (s : State) (q : Part) : State :=
  match q.donor with
  | some g => s.setCell q.cell { s.cells[q.cell] with st := .active, inMask := some g }
  | none => s.idleCell q.cell

/-- The cells of a migration put back into their donors, and stopped into Idle. -/
def State.backToDonor (s : State) (m : Migr) : State := forEach m.parts State.giveBack s
def State.idleParts (s : State) (m : Migr) : State := forEach m.cells State.idleCell s

/-- The partner of a cell in a migration that ends for the cell alone: back in the donor before step 3, Idle from then on, and left
alone where a fence holds it (R86, R89, R92). -/
def State.freePartners (s : State) (m : Migr) (c : Cell) : State :=
  forEach (m.parts.filter fun q => q.cell != c && s.cells[q.cell].st != .fenced)
    (if m.step < 3 then State.giveBack else fun s q => s.idleCell q.cell) s

/-- A cell of a migration that the halt line of a donor port meets before step 3: a cell of that donor is Idle as its member, its
partner goes back (R92). -/
def State.haltPart (g : Group) (s : State) (q : Part) : State := if q.donor = some g then s.idleCell q.cell else s.giveBack q

/-- A port halt line meets a migration that touches its group (R92). -/
def State.haltMigr (g : Group) (s : State) (m : Migr) : State :=
  if m.gives g = true ∧ m.step < 3 then (forEach m.parts (State.haltPart g) s).endMigr m 1
  else if m.dest = g ∧ m.step < 3 then (s.backToDonor m).endMigr m 1
  else if m.dest = g then (s.idleParts m).endMigr m 1
  else s

/-- A member that had stopped for want of commands waits for its port's qualification, since a line or a stop has met the port (R352). -/
def State.undrop (s : State) (c : Cell) : State := s.setCell c { s.cells[c] with dropped := false }

/-- The cells that serve a group stop within 3 us and stay members (R86). A cell that moves follows its migration. -/
def State.stopGroup (s : State) (g : Group) : State :=
  forEach allCells (fun s c =>
    if s.cells[c].grp = some g ∧ (s.migrOf c).isNone = true then
      (if s.cells[c].st.running then s.idleCell c else s).undrop c
    else s)
    (s.fab.migs.foldl (State.haltMigr g) s)

/-- The cells of a group at rest after an ordered stop: those that switch stop, the Parked ones end their hold time (R152). -/
def State.restGroup (s : State) (g : Group) : State :=
  forEach allCells (fun s c =>
    if s.cells[c].grp = some g ∧ (s.migrOf c).isNone = true then
      (if s.cells[c].st ≠ .parked ∧ s.cells[c].st.running = true then s.idleCell c else s).undrop c
    else s)
    (s.fab.migs.foldl (State.haltMigr g) s)

/-- Every cell of the module stops (R86, Safe line); a migrating cell belongs to the donor until step 6, and one that had no donor to
the group whose member it was. -/
def State.stopAll (s : State) : State :=
  let s := s.fab.migs.foldl (fun s m =>
    (if m.step < 6 then forEach m.parts (fun s q =>
      if q.donor.isSome then s.setCell q.cell { s.cells[q.cell] with inMask := q.donor } else s) s else s).endMigr m 1) s
  forEach allCells (fun s c => (if s.cells[c].st.running then s.idleCell c else s).undrop c) s

/-- A cell fence line (R86, R98, R102): the cell is Fenced from every state but Off, its selector opens, its fences are
counted, and every migration that moves it ends, for its partner too. The partner of a TPR pair that does not move goes on switching
(assumption 88). -/
def State.fenceCell (s : State) (c : Cell) (d : Driver) : State :=
  if s.cells[c].st = .off then s
  else
    let x := s.cells[c]
    let s := s.setCell c { x with
      st := .fenced, cur := 0, selOpen := true, startRetry := false, retryAt := none, barred := true, dropped := false, gate := none, fence := x.fence ++ [d],
      fcount := if x.st = .fenced then x.fcount else sat 3 (x.fcount + 1),
      fcause := if d.blk = bFAB then d.src else x.fcause, ext := d.blk != bFAB }
    (s.fab.migs.filter fun m => m.cells.contains c).foldl (fun s m => (s.freePartners m c).endMigr m 2) s

/-! ### Flows and hardware events -/

/-- The ports that use the BMS of a number (R535, R548). -/
def State.bmsPorts (s : State) (k : Nat) : List Port := if h : k < 16 then (s.bmsUsers ⟨k, h⟩).map BPort.port else []

/-- A channel of the estimator stopped by a source of severity Degrade until its FST bit is cleared (R282). -/
def State.estStopped (s : State) (p : Nat) : Bool := if h : p < 3 then s.est[p].stopped != 0 else false
def State.stopEst (s : State) (p : Nat) (src : Src) : State :=
  if h : p < 3 then
    s.setEst ⟨p, h⟩ { s.est[p] with stopped := s.est[p].stopped ||| BitVec.ofNat 8 (2 ^ src.val), st := .waiting, todo := [] }
  else s

/-- Both cells of a pair of neighbouring sensors fenced, the pair named by its lower sensor (R305). -/
def State.fencePair (s : State) (k : Nat) (d : Driver) : State :=
  if h : k + 1 < 40 then (s.fenceCell ⟨k, by omega⟩ d).fenceCell ⟨k + 1, h⟩ d else s

/-- A grant written to a flow (R341): since when it has been zero is kept for R152. -/
def FlowCtx.granted (f : FlowCtx) (now : Nat) (g : Grant) : FlowCtx :=
  { f with grant := g.cur, pgrant := g.pw, heat := g.heat, gst := g.st,
           zeroAt := if g.cur = 0 then some (f.zeroAt.getD now) else none }

/-- Whether a forecast taken by a COMMIT has yet to begin (R331): its round may be latched and be dropped before t_k. -/
def ThrRec.fcPending (x : ThrRec) : Bool := x.fcNew || x.round.any (·.fcNew)

/-- The time of Run counted up to a moment (R319): Running, and Held while the control core restarts. -/
def ThrRec.countRun (x : ThrRec) (now : Nat) : ThrRec :=
  if x.st = .running ∨ x.st = .held then { x with firstUs := x.firstUs + (now - x.firstAt), firstAt := now } else x

/-- Every grant zero, no round and no orders (R316). -/
def State.zeroGrants (s : State) : State :=
  { s with ctx := s.ctx.map fun f => f.granted s.now ⟨0, 0, 0, 0⟩
           thr := { s.thr with fcNew := s.thr.fcPending, round := none, last := none, orders := [], sheds := [] } }

/-- The Safe line or Stubble: Thresher is Zeroed from Running and Held (R316). -/
def State.zeroThresher (s : State) : State :=
  if s.thr.st = .running ∨ s.thr.st = .held then { s with thr := { s.thr.countRun s.now with st := .zeroed } }.zeroGrants else s

/-- The ports of a sense channel (R353, R366): the port that it measures, or the port of its cell's group. -/
def State.channelPorts (s : State) (n : Nat) : List Port :=
  if n < 40 then s.servedPort n
  else if n < 48 then []
  else if n < 88 then s.servedPort (n - 48)
  else if n < 100 then [⟨(n - 88) % 4, by omega⟩]
  else if n < 109 then [⟨4 + (n - 100) % 3, by omega⟩]
  else if n < 110 then []
  else if n < 126 then [⟨7 + (n - 110) % 8 / 4, by omega⟩]
  else [⟨7 + n % 2, by omega⟩]

/-- The cell of a sense channel (R353). -/
def channelCell (n : Nat) : Option Cell :=
  if h : n < 40 then some ⟨n, h⟩ else if h : 48 ≤ n ∧ n < 88 then some ⟨n - 48, by omega⟩ else none

/-- Whether the endpoint of a flow is ready (R197; assumption 85), its group not Starved and its pairing apart. -/
def State.endpointReady (s : State) (d : FlowDef) : Bool :=
  match d.kind, d.port with
  | 1, some p => match p.src? with
    | some k => s.src[k].st == .ready || s.src[k].st == .supplying
    | none => false
  | 2, some p => match p.bat? with
    | some k => s.bat[k].st == .present && !s.bat[k].isolating
    | none => false
  | 3, some p => match p.bat? with
    | some k => s.bat[k].st == .present && !s.bat[k].isolating
    | none => false
  | 4, some p => match p.src? with
    | some k => s.fdr[k].st == .ramping || s.fdr[k].st == .running || s.fdr[k].st == .limiting
    | none => false
  | 5, some p => allCtx.any fun c =>
      s.ctx[c].st == .live && s.ctx[c].d.kind == 4 && s.ctx[c].d.port == some p
  | 6, some p => match p.src? with
    | some k => s.src[k].st == .ready || s.src[k].st == .supplying
    | none => false
  | _, _ => false

/-- Whether the group that serves a flow is Starved (R100). -/
def State.flowStarved (s : State) (d : FlowDef) : Bool :=
  match d.port with
  | some p => match p.group? with
    | some g => s.groups[g].starved
    | none => false
  | none => false

/-- A Live Feeder flow stays Live while its port is Stopping, and a Closing one goes on closing (R205, R371). -/
def State.staysLive (s : State) (f : FlowCtx) : Bool :=
  (f.st == .live || f.st == .closing) && f.d.kind == 4 && (f.d.port.bind Port.src?).any fun p => s.fdr[p].st == .stopping

/-- Whether the module holds a flow (cause bit 4): the Safe line, Stubble, and after them until the module is in Run (R204, R210). -/
def State.moduleHolds (s : State) (f : FlowCtx) : Bool :=
  s.dom.st == .stubble || !s.safeLine.isEmpty || (f.st == .suspended && f.scause.getLsbD 4 && !s.inRun)

/-- The hardware suspension causes of a flow that hold now (R204). -/
def State.hwCauses (s : State) (f : FlowCtx) : BitVec 6 :=
  (if s.endpointReady f.d || s.staysLive f then 0 else 0b000010) |||
  (if s.flowStarved f.d then 0b000100 else 0) |||
  (if f.d.kind = 2 ∧ ((f.d.port.bind Port.bat?).any s.bmsMissing) = true then 0b001000 else 0) |||
  (if s.moduleHolds f then 0b010000 else 0) |||
  (if (f.d.kind = 5 ∨ f.d.kind = 6) ∧ f.paired = false then 0b100000 else 0)

/-- A flow changed to Suspended by a hardware event (R196): current to zero, time Live kept. -/
def FlowCtx.suspended (f : FlowCtx) (now : Nat) (causes : BitVec 6) : FlowCtx :=
  { f with st := .suspended, scause := causes, cur := 0, cmd := 0, liveUs := f.liveUs + (now - f.since), since := now,
           evAt := some now }

/-- A flow that turns Live (R196, R203): its current rises from zero. -/
def FlowCtx.toLive (f : FlowCtx) (now : Nat) : FlowCtx :=
  { f with st := .live, scause := 0, since := now, lim := 0, rising := true, overAt := none }

/-- A flow returned to Live in the moment its last cause clears (R203, R204). -/
def FlowCtx.resumed (f : FlowCtx) (now : Nat) : FlowCtx := { f.toLive now with suspUs := f.suspUs + (now - f.since) }

/-- A flow after the hardware events of the moment (R196, R204, R206). -/
def State.settleFlow (s : State) (f : FlowCtx) : FlowCtx :=
  let hw := s.hwCauses f
  match f.st with
  | .opening => if hw.getLsbD 4 then { f.suspended s.now ((f.scause &&& 1) ||| hw) with liveUs := f.liveUs } else f
  | .live => if hw = 0 then f else f.suspended s.now hw
  | .suspended =>
    let all := (f.scause &&& 1) ||| hw
    if all = 0 then f.resumed s.now else { f with scause := all }
  | .closing => if hw = 0 then f else { f with cur := 0, cmd := 0, leaving := true }
  | .free => f
  | .fenced => f

/-- A group starves when every member is Fenced (assumption 86), and recovers when a cell of it is Active again (R100). -/
def State.settleGroup (s : State) (g : Group) : State :=
  let members := allCells.filter fun c => s.cells[c].inMask == some g
  let starved := s.groups[g].cfg.topo != .none &&
    (if s.groups[g].starved then !(members.any fun c => s.cells[c].st == .active)
     else members.all fun c => s.cells[c].st == .fenced)
  s.setGroup g { s.groups[g] with starved := starved }

/-- Flows after the hardware events of the moment, all at once. -/
def State.settleFlows (s : State) : State := { s with ctx := s.ctx.map s.settleFlow }

/-- The hardware events of the moment: groups starve or recover, then flows follow. Lend flows follow the Feeder flow of
their port, so flows settle twice. -/
def State.settle (s : State) : State :=
  forEach allBat State.settleChg (forEach allGroups State.settleGroup s).settleFlows.settleFlows

/-- A context Free again (R189, R578): the next generation, the fence record kept until the next CREATE (R206). -/
def FlowCtx.release (f : FlowCtx) : FlowCtx :=
  { FlowCtx.freed (if f.gen = 255 then 1 else f.gen + 1) with fblk := f.fblk, fsrc := f.fsrc }

/-- A context becomes Free; its new generation is raised towards retained memory (R190, R357). -/
def State.freeCtx (s : State) (c : Ctx) : State := (s.setCtx c s.ctx[c].release).saveGen c

/-- The time Live and the time Suspended of a flow up to a moment (R218). -/
def FlowCtx.liveTime (f : FlowCtx) (now : Nat) : Nat := f.liveUs + if f.st = .live then now - f.since else 0
def FlowCtx.suspTime (f : FlowCtx) (now : Nat) : Nat := f.suspUs + if f.st = .suspended then now - f.since else 0

/-- The flow fence strobe (R28, R196, R206): the flow is Fenced with zero current; its group's cells stop unless another
Live flow keeps them switching; a flow fenced while Closing is freed at the next iteration. -/
def State.fenceFlow (s : State) (c : Ctx) (b : Blk) (src : Src) : State :=
  let f := s.ctx[c]
  if f.st = .free then s
  else
    let s := s.setCtx c { f with
      st := .fenced, cur := 0, cmd := 0, fblk := b.val, fsrc := src.val, leaving := f.st == .closing, evAt := some s.now,
      liveUs := f.liveTime s.now, suspUs := f.suspTime s.now, since := s.now }
    let others := allCtx.any fun k => k != c && s.ctx[k].st == .live && s.ctx[k].d.port == f.d.port
    match f.d.port with
    | some p => match p.group? with
      | some g => if others then s else s.stopGroup g
      | none => s
    | none => s

/-! ### Port halt lines and the Safe line -/

/-- A source port halted (R152, R179, R181): a hand-over runs where it was supplying, and one in progress completes; over a loss of the
same iteration the halt line wins. -/
def SrcRec.halted (x : SrcRec) (now cause : Nat) (handOver : Bool) : SrcRec :=
  match x.st with
  | .lost =>
    if handOver then
      (if x.hov.any (·.1 == now) then { x with st := .halted, cause := cause, since := now, hov := some (now, .halted) }
       else { x with hov := x.hov.map fun (t, _) => (t, .halted) })
    else { x with st := .halted, cause := cause, hov := none, since := now, cur := 0, pwr := 0, lim := 0 }
  | .supplying =>
    { x with st := .halted, cause := cause, since := now, stopping := false, stage := x.stage.stop now, cur := 0, pwr := 0, lim := 0,
             hov := if handOver then some (now, .halted) else none, mppt := { x.mppt with sweep := none } }
  | .absent => { x with st := .halted, cause := cause, since := now }
  | .qualifying => { x with st := .halted, cause := cause, since := now }
  | .ready => { x with st := .halted, cause := cause, since := now }
  | .held => { x with st := .halted, cause := cause, since := now }
  | .unused => x
  | .halted => x
  | .locked => x
  | .feeder => x

/-- Whether a feeder has its switches closed (R371). -/
def FdrState.charged : FdrState → Bool
  | .prebias => true
  | .ramping => true
  | .running => true
  | .limiting => true
  | .stopping => true
  | _ => false

/-- The stage of a port whose feeder stops (R65). -/
def SrcRec.feederStop (x : SrcRec) (f : FdrRec) (now : Nat) : SrcRec :=
  if f.st.charged then { x with stage := { x.stage.stop now with feeder := true } } else x

/-- A feeder port halted (R371). -/
def FdrRec.haltedBy (x : FdrRec) (now cause : Nat) : FdrRec :=
  if x.st = .unused ∨ x.st = .halted then x
  else { x with st := .halted, cause := cause, since := now, fstops := sat 65535 (x.fstops + 1), cur := 0, lim := 0,
                ilim := 0, vref := 0, yield := false }

/-- A battery port's switch opened, and its stage drained where it is charged (R65). -/
def BatRec.opened (x : BatRec) (now : Nat) : BatRec :=
  { x with sw := false, pre := none, preRetry := none, isolating := false, cur := 0,
           stage := if x.sw || x.pre.isSome then x.stage.stop now else x.stage }

/-- A battery port halted (R221): its switch opens. -/
def BatRec.haltedBy (x : BatRec) (now cause : Nat) : BatRec := { x.opened now with st := .halted, cause := cause, since := now }

/-- A branch opened by its port's halt line (R120). -/
def BranchRec.haltedBy (x : BranchRec) (now : Nat) : BranchRec :=
  if x.st = .locked then x
  else { x with st := .opened, cause := 6, since := now, cur := 0, retryDue := none, retrying := none, byHalt := true }

/-- The parts of a port's halt: its cells, its source or feeder, its battery port, its branches. -/
def State.haltGroup (s : State) (p : Port) : State := match p.group? with
  | some g => s.stopGroup g
  | none => s
def State.haltSource (s : State) (p : Port) : State := match p.src? with
  | some k => (s.setSrc k ((s.src[k].halted s.now 9 true).feederStop s.fdr[k] s.now)).setFdr k (s.fdr[k].haltedBy s.now 6)
  | none => s
def State.haltBattery (s : State) (p : Port) : State := match p.bat? with
  | some k => match s.bat[k].st with
    | .qualifying => s.setBat k (s.bat[k].haltedBy s.now 6)
    | .present => s.setBat k (s.bat[k].haltedBy s.now 6)
    | .isolated => s.setBat k (s.bat[k].haltedBy s.now 6)
    | _ => s
  | none => s
def State.haltBranches (s : State) (p : Port) : State := match p.load? with
  | some q => forEach (allBranches.filter fun b => b.side == q) (fun s b => s.setBranch b (s.branches[b].haltedBy s.now)) s
  | none => s

/-- The action of a halt line on its port (R28, R120, R152, R221, R371). -/
def State.haltPort (s : State) (p : Port) : State := (((s.haltGroup p).haltSource p).haltBattery p).haltBranches p

/-- A halted port marked as held by a reaction until it has requalified (R441). -/
def State.holdSource (s : State) (p : Port) : State := match p.src? with
  | some k =>
    (s.setSrc k { s.src[k] with reacted := s.src[k].reacted || s.src[k].st == .halted || s.src[k].st == .lost }).setFdr k
      { s.fdr[k] with reacted := s.fdr[k].reacted || s.fdr[k].st == .halted }
  | none => s
def State.holdBattery (s : State) (p : Port) : State := match p.bat? with
  | some k => s.setBat k { s.bat[k] with reacted := s.bat[k].reacted || s.bat[k].st == .halted }
  | none => s
def State.holdPort (s : State) (p : Port) : State := (s.holdSource p).holdBattery p

/-- Whether a reaction that halted the port still holds it: it has not requalified (R441). -/
def State.awaitsReturn (s : State) (p : Port) : Bool :=
  (match p.src? with
   | some k => s.src[k].reacted || s.fdr[k].reacted
   | none => false) ||
  (match p.bat? with
   | some k => s.bat[k].reacted
   | none => false)

/-- A halt line asserted by one more driver: its action, then the flows follow. A reaction's line holds the port. -/
def State.assertHalt (s : State) (p : Port) (d : Driver) : State :=
  let t := (s.setHalt p (if s.halt[p].contains d then s.halt[p] else s.halt[p] ++ [d])).haltPort p
  (if d.reaction then t.holdPort p else t).settle

/-- Closed branches, lowest priority first and highest index first among equals (R122, R136, R137). -/
def State.shedOrder (s : State) (bs : List Branch) : List Branch :=
  (List.range 4).flatMap fun k =>
    (bs.filter fun b => s.branches[b].st == .closed && (s.reg (loadBctlAt b)).bits 5 4 == k).reverse

/-- The sum of the last measured currents of the Closed branches, 10 mA. -/
def State.closedSum (s : State) : Nat :=
  (allBranches.filter fun b => s.branches[b].st == .closed).foldl (fun n b => n + s.branches[b].cur.natAbs) 0

/-- A Closed branch goes to Shed (R120). -/
def State.shedBranch (s : State) (b : Branch) : State :=
  s.setBranch b { s.branches[b] with st := .shed, cause := 5, since := s.now, lastCur := s.branches[b].cur.natAbs, cur := 0 }

/-- A branch opened without a trip. -/
def State.openBranch (s : State) (b : Branch) : State :=
  s.setBranch b { s.branches[b] with st := .opened, since := s.now, cur := 0, retryDue := none, retrying := none }

/-- Every branch opens (R114, R138): one in Precharge or Closed; the others are open in the states that they keep (R120). -/
def State.openAll (s : State) : State :=
  forEach allBranches (fun s b => if s.branches[b].st = .closed ∨ s.branches[b].st = .precharge then s.openBranch b else s) s

/-- The stubble supply stopped, with every branch open (R137, R138). -/
def State.stopSupply (s : State) : State :=
  { s.openAll with culm := { s.culm with supOn := false, supCur := 0, supOver := none, mode := .off, within2 := none, near := none },
                   img := { s.img with bridge := false } }

/-- Whether the stubble supply can start (R136). -/
def State.stubbleCan (s : State) : Bool :=
  match s.culm.supPort with
  | some p => s.domOn 9 && decide (40000 ≤ s.bat[p].vterm) && decide (s.bat[p].vterm ≤ 60000)
  | none => false

/-- The branches shed until the remaining Closed ones carry no more than 250 A (R136): LOAD source 7 follows each. -/
def State.shedTo250 (s : State) : List Branch → State
  | [] => s
  | b :: bs =>
    if s.closedSum ≤ 25000 then s
    else State.shedTo250 { s.shedBranch b with deferred := s.deferred ++ [.occurs bLOAD 7 b.val] } bs

/-- A branch in Precharge opens. -/
def State.openUnsettled (s : State) (b : Branch) : State := match s.branches[b].st with
  | .precharge => s.openBranch b
  | _ => s

/-- What the Safe line does to the load path and the culm (R120, R136). -/
def State.safeLoads (s : State) : State :=
  let s := forEach allBranches State.openUnsettled s
  if s.stubbleCan then
    let s := s.shedTo250 (s.shedOrder allBranches)
    { s with culm := { s.culm with mode := .stubble, supOn := true, within2 := none, supOver := none } }
  else
    let s := forEach allBranches (fun s b => if s.branches[b].st = .closed then s.openBranch b else s) s
    { s with culm := { s.culm with mode := .off, supOn := false, within2 := none } }

/-- Whether the presence logic of a battery port runs: its home domain D6-D8 is on (R221). -/
def State.presenceRuns (s : State) (p : BPort) : Bool := s.domOn (6 + p.val)

/-- What the Safe line does to the ports (R152, R221, R371). -/
def State.safePorts (s : State) : State :=
  let s := forEach allSrc (fun s p =>
    (s.setSrc p ((s.src[p].halted s.now 13 false).feederStop s.fdr[p] s.now)).setFdr p (s.fdr[p].haltedBy s.now 8)) s
  forEach allBat (fun s p =>
    if s.bat[p].st = .unused ∨ s.presenceRuns p = false then s else s.setBat p (s.bat[p].haltedBy s.now 9)) s

/-- An activation whose drain the Safe line meets is cancelled (R414, R422). -/
def State.safeActivation (s : State) : State :=
  match s.img.req with
  | some r =>
    if s.img.asta = .draining ∨ s.img.asta = .waiting then
      { s with img := { s.img with asta := .none, req := none, bridge := false,
                                   aresult := if r.byTrial then s.img.aresult else 10, adone := true } }
    else s
  | none => s

/-- The module enters Stubble (R483): Thresher is Zeroed (R316). -/
def State.enterStubble (s : State) : State :=
  if s.dom.st = .standby ∨ s.dom.st = .run ∨ s.dom.st = .degraded then
    { s with
      dom := { s.dom with st := .stubble, stubAt := s.now, stubFromRun := s.dom.st != ModState.standby, stubOff := false,
                          idleSince := none },
      img := { s.img with trialUs := s.trialUsed, trialAt := none } }.zeroThresher
  else s

/-! ### Awn replies (R381, R386, R389) -/

/-- A reply word (R381). -/
def awnReply (code tag detail value : Nat) : Word :=
  BitVec.ofNat 32 (code * 2 ^ 28 + tag % 256 * 2 ^ 20 + detail % 16 * 2 ^ 16 + value % 65536)

/-- The first frame of a class removed from the queue. -/
def dropFirst (k : TxKind) : List (TxKind × Word) → Option (List (TxKind × Word))
  | [] => none
  | q :: l => if q.1 = k then some l else (dropFirst k l).map (q :: ·)

/-- A reply queued (R386): where the queue holds 16 frames, the oldest Status frame goes, else the oldest Settled frame,
else the new frame unless it is a Received frame. -/
def AwnRec.queue (x : AwnRec) (k : TxKind) (w : Word) : AwnRec :=
  let l := x.txq ++ [(k, w)]
  if l.length ≤ 16 then { x with txq := l }
  else
    let y := { x with txdrop := sat 255 (x.txdrop + 1) }
    match dropFirst .status l with
    | some m => { y with txq := m }
    | none => match dropFirst .settled l with
      | some m => { y with txq := m }
      | none => if k = .received then { x with txq := l } else y

/-- A reply to the command of a tag: queued, and kept for a duplicate (R382). -/
def AwnRec.answer (x : AwnRec) (k : TxKind) (tag : Nat) (w : Word) : AwnRec :=
  let y := x.queue k w
  if x.taglast = some tag then { y with reply := some w } else y

/-- A pending command is answered with Unsettled and AWN source 3 (R384, R389). -/
def State.unsettle (s : State) (v : Nat) : State :=
  match s.awn.pend with
  | some tag =>
    { s with awn := { s.awn.answer .other tag (awnReply 5 tag 0 v) with pend := none }
             deferred := s.deferred ++ [.occurs bAWN 3 0] }
  | none => s

/-- The Safe line asserted by one more driver (R28): every cell stops, ports halt, the stubble supply takes the loads or
the branches open, and the module goes to Stubble. A further driver changes nothing more. -/
def State.assertSafe (s : State) (d : Driver) : State :=
  let first := s.safeLine.isEmpty
  let s := { s with safeLine := if s.safeLine.contains d then s.safeLine else s.safeLine ++ [d] }
  if first then (s.unsettle s.culm.vmeas).stopAll.safeLoads.safePorts.safeActivation.enterStubble.settle else s

/-! ### A domain that loses its power (R30, R38, R196, R210) -/

/-- Every context Free, each with the next generation (R196, R210). -/
def State.freeAll (s : State) : State := forEach allCtx State.saveGen { s with ctx := s.ctx.map FlowCtx.release }

/-- The cells and the ports whose lines the blocks of a domain drive. -/
def linedCells (dom : Nat) : List Cell := if dom = 3 ∨ dom = 10 then allCells else allCells.filter fun c => c.domain == dom
def linedPorts (dom : Nat) : List Port :=
  if dom = 3 ∨ dom = 10 then allPorts
  else if dom = 1 then [4, 5, 6]
  else if dom = 4 then [0, 1]
  else if dom = 5 then [2, 3]
  else if h : 6 ≤ dom ∧ dom < 9 then [⟨dom - 2, by omega⟩]
  else if dom = 9 then [7, 8]
  else []

/-- The lines that the loss of a domain leaves reading as asserted (R30): the halt and fence lines of its blocks, the flow fence strobe
of D3 for every flow, and the Safe line. With D3 the flow contexts are lost (R196, R210). -/
def State.loseLines (s : State) (dom : Nat) (d : Driver) : State :=
  let s := forEach (linedPorts dom) (fun s p => s.assertHalt p d) s
  let s := forEach (linedCells dom) (fun s c => s.fenceCell c d) s
  let s := if dom = 3 then (forEach allCtx (fun s c => s.fenceFlow c d.blk d.src) s).freeAll else s
  s.settle.assertSafe d

/-! ### Thermal shutdown and forced thermal sources (R295, R307, R312) -/

/-- The thermal manager's own contribution to the Safe line. -/
def thermalDriver : Driver := { blk := bTHM, src := 3, obj := 0, reaction := false }

/-- The thermal condition Shutdown is entered: counted, and the Safe line asserted (R295, R297). -/
def State.shutdown (s : State) : State :=
  if s.thm.cond = .shutdown then s
  else { s with thm := { s.thm with cond := .shutdown, nsd := sat 255 (s.thm.nsd + 1), rsSince := none } }.assertSafe thermalDriver

/-- Whether a sensor is Failed or Fenced. -/
def SensorRec.bad (x : SensorRec) : Bool := x.st == .failed || x.st == .fenced

/-- A sensor enters Failed (R302, R304, R305): counted, but for a failed self-test, with the neighbours that are Failed too both are Fenced and source
1 names the pair; the sensor that gave T_ctl holds the throttle step for 60 s. -/
def State.failSensor (s : State) (k : Sensor) (cause : Nat) (count : Bool := true) : State :=
  let x := s.thm.sensors[k]
  let holds := s.thm.tctlIdx = k.val ∧ 0 < s.thm.step ∧ s.thm.hold = none
  let s := s.setSensor k { x with
    st := .failed, cause := cause, nfail := if count then sat 3 (x.nfail + 1) else x.nfail, passSince := none, farSince := none, testAt := none
    selfBad := x.selfBad || !count }
  let s := if holds then { s with thm := { s.thm with hold := some (s.now + 60000000) } } else s
  forEach ((neighbours k).filter fun j => s.thm.sensors[j].bad) (fun s j =>
    let s := s.setSensor k { s.thm.sensors[k] with st := .fenced }
    let s := s.setSensor j { s.thm.sensors[j] with st := .fenced }
    { s with deferred := s.deferred ++ [.occurs bTHM 1 (min j.val k.val)] }) s

/-! ### Sense channels (R355, R366) -/

/-- A channel marked Failed: a cell without its current channel is fenced, a temperature channel fails its sensor with
cause 5 (R355). -/
def State.failChannel (s : State) (n : Nat) : State :=
  if h : n < 128 then
    let s := { s with sense := { s.sense with ch := vset s.sense.ch ⟨n, h⟩ (s.sense.ch[n].1, 2) } }
    if hn : n < 48 then s.failSensor ⟨n, hn⟩ 5
    else match channelCell n with
      | some c => s.fenceCell c { blk := bSENSE, src := 0, obj := n, reaction := false }
      | none => s
  else s

/-- The Degrade action of SENSE source 0 on a cell's channel: the cell is fenced (R366). -/
def State.degradeSense (s : State) (src : Src) (n : Nat) : State :=
  match channelCell n with
  | some c => (s.fenceCell c { blk := bSENSE, src := src, obj := n, reaction := true }).settle
  | none => s

/-- What clearing FST bits releases: estimator channels stopped by a source (R282), and channels Failed until then (R366). -/
def State.clearHolds (s : State) (b : Blk) (v : BitVec 8) : State :=
  if b = bEST then { s with est := s.est.map fun x => { x with stopped := x.stopped &&& ~~~v } }
  else if b = bSENSE ∧ v.getLsbD 0 = true then
    { s with sense := { s.sense with ch := s.sense.ch.map fun (x, st) => (x, if st = 2 then 3 else st) } }
  else s

/-- What a forced source does in place of its reaction: a forced THM 0 fails the sensor with cause 1, a forced THM 3 is
Shutdown (R307, R312). -/
def State.forcedSpecial (s : State) (b : Blk) (src : Src) (obj : Nat) : Option State :=
  if b = bTHM ∧ src = 0 then (if h : obj < 48 then some (s.failSensor ⟨obj, h⟩ 1) else none)
  else if b = bTHM ∧ src = 3 then some s.shutdown
  else if b = bLOG ∧ src = 4 then some (s.assertSafe { blk := bLOG, src := 4, obj := obj, reaction := false })
  else none

end Sys2Proof.Machine
end

