-- ==== Sys2Proof/Machine/Flags.lean ====
section
/-!
DEFINITION. The fault flags of every block and what follows from them: the event log's staging, occurrences, retries,
severities, grace times and reactions (R432-R449).
-/

namespace Sys2Proof.Machine

/-! ### Fault registers -/

/-- The mask bit of a source (R436). -/
def State.masked (s : State) (b : Blk) (src : Src) : Bool := (s.reg (fmskAddr b)).bit src.val

/-- The three-bit severity code of a source, as the register in effect holds it (R110, R440). -/
def sevField (w : Word) (src : Src) : Nat := w.bits (3 * src.val + 2) (3 * src.val)

/-- The severity in effect of a source, as its register holds it. -/
def State.sevRaw (s : State) (b : Blk) (src : Src) : Nat := sevField s.flt[b].sev src

/-- How a block acts on a severity code: codes 5-7 act as Safe (R110), and each block says what Degrade and Halt-port
mean for its objects (R109, R144, R148, R186, R258, R311, R343, R366, R394, R427, R431, R474, R478, R506, R544,
R548). What Degrade does on a sense channel depends on the channel: `sevFor`. -/
def actSev (b : Blk) (src : Src) (code : Nat) : Nat :=
  let c := if code ≥ 5 then 4 else code
  if c = 2 ∨ c = 3 then
    match b.val with
    | 0x01 => 1 | 0x02 => 1 | 0x03 => 1 | 0x04 => 1 | 0x0D => 1 | 0x10 => 1 | 0x14 => 1
    | 0x05 => if src.val = 7 ∧ c = 2 then 1 else c
    | 0x06 => if src.val = 2 ∨ src.val = 3 ∨ src.val = 4 then 3 else if c = 2 then 1 else c
    | 0x07 => if src.val = 4 ∨ src.val = 5 then 3 else c
    | 0x08 => 3
    | 0x09 => 3
    | 0x0C => if src.val = 1 ∨ src.val = 7 then c else 1
    | 0x0F => if src.val ≥ 4 then 3 else if c = 2 then 1 else c
    | 0x11 => if src.val = 2 ∨ src.val = 3 ∨ src.val = 5 then 3 else 1
    | 0x12 => if src.val = 3 then 3 else if src.val = 0 then c else 1
    | _ => c
  else c

/-- How the severity in effect of a source acts on an object. On a sense channel Degrade fences the channel's cell, or acts as
Halt-port on its port; a channel with neither takes it, and Halt-port, as Warn (R366). -/
def State.sevFor (s : State) (b : Blk) (src : Src) (obj : Nat) : Nat :=
  let c := actSev b src (s.sevRaw b src)
  if b = bSENSE ∧ src = 0 ∧ (c = 2 ∨ c = 3) then
    (if c = 2 ∧ (channelCell obj).isSome = true then 2
     else if (40 ≤ obj ∧ obj < 48) ∨ obj = 109 then 1 else 3)
  else c

/-- Whether the live bit of a source is set: its cause is present on some object, or occurred within the last 1 ms (R433), or its
retry runs (R443). -/
def State.liveBit (s : State) (b : Blk) (src : Src) : Bool :=
  (s.flt[b].live.any fun c => c.src == src) || (s.flt[b].recent.any fun g => g.src == src && decide (s.now < g.due)) ||
    (s.flt[b].retries.any fun r => r.src == src)

/-- The objects for which the live bit of a source stands (R433). -/
def State.liveObjs (s : State) (b : Blk) (src : Src) : List Nat :=
  ((s.flt[b].live.filter (·.src == src)).map (·.obj)) ++
    ((s.flt[b].recent.filter fun g => g.src == src && decide (s.now < g.due)).map (·.obj))

/-- xxx_FLIVE (R110). -/
def State.flive (s : State) (b : Blk) : BitVec 8 :=
  (List.finRange 8).foldl (fun w (i : Src) => if s.liveBit b i then w ||| BitVec.ofNat 8 (2 ^ i.val) else w) 0

/-- The bit of a source in an eight-bit register. -/
def srcBit (src : Src) : BitVec 8 := BitVec.ofNat 8 (2 ^ src.val)

/-- Whether the live bit of any Warn source is set (R438). -/
def State.warnLive (s : State) : Bool :=
  allBlk.any fun b => (List.finRange 8).any fun i => s.liveBit b i && actSev b i (s.sevRaw b i) == 1

/-- The module warning flag that Sheaf Link carries: set by a Warn reaction, until every Warn source's live bit is clear (R438). -/
def State.warning (s : State) : Bool := (allBlk.any fun b => s.flt[b].warned) && s.warnLive

/-- A Warn reaction sets the flag; it is forgotten once it has ended, before another cause appears. -/
def State.warn (s : State) (b : Blk) : State := s.setFlt b { s.flt[b] with warned := true }
def State.endWarn (s : State) : State :=
  if s.warnLive then s else { s with flt := s.flt.map fun x => { x with warned := false } }

/-! ### The staging of reports (R445-R449) -/

/-- A staged record that a report adds its count to (R448). -/
def Staged.matches (q : Staged) (r : Report) : Bool :=
  q.record.blk == r.blk && q.record.src == r.src && q.record.kind == r.kind && !q.programming &&
    decide (q.record.count < 255)

/-- The staging buffer after a report adds to the record that it matches. -/
def addTo (r : Report) : List Staged → List Staged
  | [] => []
  | q :: qs =>
    if q.matches r then
      { q with record := { q.record with count := sat 255 (q.record.count + r.count) },
               satSaid := q.satSaid || decide (255 ≤ q.record.count + r.count) } :: qs
    else q :: addTo r qs

/-- The next record number: it advances by one and is never 0 (R446). -/
def nextSeq (n : Nat) : Nat := if n + 1 = 2 ^ 32 then 1 else n + 1

/-- A report staged with the time of its group (R446, R448, R449, R453). A report lost is an occurrence of LOG source 0. -/
def State.stage (s : State) (sec usec : Nat) (r : Report) : State :=
  match s.ret.staged.find? (·.matches r) with
  | some q =>
    let s := { s with ret := { s.ret with staged := addTo r s.ret.staged } }
    if 255 ≤ q.record.count + r.count ∧ q.satSaid = false then
      { s with deferred := s.deferred ++ [.occurs bLOG 3 0] }
    else s
  | none =>
    if 16 ≤ s.ret.staged.length then
      { s with
        ret := { s.ret with lost := sat (2 ^ 32 - 1) (s.ret.lost + r.count), tally := s.ret.tally + r.count }
        deferred := s.deferred ++ [.occurs bLOG 0 0] }
    else
      let q : LogRec := { seq := s.ret.nextSeq, sec := sec, usec := usec, sev := r.sev, forced := r.forced,
                          kind := r.kind, blk := r.blk, src := r.src, count := sat 255 r.count, idx := r.idx }
      { s with ret := { s.ret with
          staged := s.ret.staged ++ [⟨q, false, false⟩]
          nextSeq := nextSeq s.ret.nextSeq
          first := if s.ret.armed then some q else s.ret.first
          armed := false } }

/-- Reports lost, staged as the record of LOG source 0 as soon as a slot is free, where the source is not masked (R436, R449). -/
def State.stageLost (s : State) : State :=
  if s.ret.tally = 0 ∨ 16 ≤ s.ret.staged.length then s
  else
    let n := s.ret.tally
    let s := { s with ret := { s.ret with tally := 0 } }
    if s.masked bLOG 0 then s
    else s.stage s.rtc s.rtcUs
      { blk := bLOG, src := 0, kind := .occurrence, forced := false, idx := 0, count := min n 255, sev := s.sevRaw bLOG 0 }

/-- Whether a report goes before another in its group: higher severity first, then the lower module-wide number (R447). -/
def Report.before (a b : Report) : Bool :=
  decide (b.sev < a.sev) || (a.sev == b.sev && decide (8 * a.blk.val + a.src.val ≤ 8 * b.blk.val + b.src.val))

/-- A report put into its place in a sorted group. -/
def insertReport (r : Report) : List Report → List Report
  | [] => [r]
  | q :: qs => if q.before r then q :: insertReport r qs else r :: q :: qs

/-- A coincidence group closed: its records are staged in the order of R447. -/
def State.closeGroup (s : State) : State :=
  match s.log.group with
  | none => s
  | some g =>
    (g.reports.foldl (fun l r => insertReport r l) []).foldl (fun s r => s.stage g.sec g.usec r)
      { s with log := { s.log with group := none } }

/-- A report at the staging buffer: it joins the open group within 1 us of its opening, or opens one (R447). Its record
holds the present severity of the source (R446). -/
def State.arrive (s : State) (r : Report) : State :=
  let r := { r with sev := s.sevRaw r.blk r.src }
  let join := match s.log.group with
    | some g => decide (s.now ≤ g.openAt + 1)
    | none => false
  if join then
    { s with log := { s.log with group := s.log.group.map fun g => { g with reports := g.reports ++ [r] } } }
  else
    let s := s.closeGroup
    { s with log := { s.log with group := some { openAt := s.now, sec := s.rtc, usec := s.rtcUs, reports := [r] } } }

/-- A report merged into the occupied slot of its source (R359, R445): the first report's content, one more in count. -/
def mergeReport (r : Report) : List Report → List Report
  | [] => [r]
  | q :: qs =>
    if q.blk = r.blk ∧ q.src = r.src then { q with count := sat 255 (q.count + 1) } :: qs else q :: mergeReport r qs

/-- A report raised (R434, R445): those of DOM, WDG and LOG enter the staging buffer; the others cross x3. The record of LOG
source 0 is the one that R449 stages when a slot frees, unless it is forced. -/
def State.report (s : State) (b : Blk) (src : Src) (kind : Kind) (forced : Bool) (idx : Nat) : State :=
  let r : Report := { blk := b, src := src, kind := kind, forced := forced, idx := idx, count := 1, sev := 0 }
  if b = bLOG ∧ src = 0 ∧ forced = false then s
  else if b = bDOM ∨ b = bWDG ∨ b = bLOG then s.arrive r
  else
    let x := s.xing[(3 : Xing)]
    let dup := s.x3.any fun q => q.blk == b && q.src == src
    let full := s.x3.any fun q => q.blk == b && q.src == src && q.count == 254
    let s := { s with x3 := mergeReport r s.x3 }
    let s := if dup then s.setXing 3 { x with merged := sat 255 (x.merged + 1) } else s
    if full then { s with deferred := s.deferred ++ [.occurs bSENSE 6 3] } else s

/-! ### Named objects -/

/-- The ports that a source's object names or is served by (R109, R143, R147, R185, R219, R253, R257, R282, R366, R393,
R548): the ports whose halt lines a Halt-port reaction asserts. -/
def State.objPorts (s : State) (b : Blk) (src : Src) (obj : Nat) : List Port :=
  match b.val with
  | 0x05 => if src.val = 7 then (if h : obj < 7 then [⟨obj, by omega⟩] else []) else s.servedPort obj
  | 0x06 => if src.val = 2 ∨ src.val = 3 ∨ src.val = 4 then (if h : obj < 9 then [⟨obj, h⟩] else []) else []
  | 0x07 =>
    if src.val = 4 ∨ src.val = 5 then (if h : obj < 2 then [⟨7 + obj, by omega⟩] else [])
    else if h : obj < 8 then [⟨7 + obj / 4, by omega⟩] else []
  | 0x08 => if h : obj < 4 then [⟨obj, by omega⟩] else []
  | 0x09 => if h : obj < 3 then [⟨4 + obj, by omega⟩] else []
  | 0x0A => if h : obj < 3 then [⟨4 + obj, by omega⟩] else []
  | 0x0B => if h : obj < 3 then [⟨4 + obj, by omega⟩] else []
  | 0x0C =>
    if src.val = 7 then s.servedPort obj
    else if src.val = 1 then s.servedPort obj ++ s.servedPort (obj + 1)
    else []
  | 0x0E => if h : obj < 160 then s.ctx[obj].d.port.toList else []
  | 0x0F => if src.val ≥ 4 then (if h : obj < 4 then [⟨obj, by omega⟩] else []) else []
  | 0x11 => if src.val = 2 ∨ src.val = 3 ∨ src.val = 5 then s.bmsPorts obj else []
  | 0x12 =>
    if src.val = 3 then (if h : obj < 7 then [⟨obj, by omega⟩] else [])
    else if src.val = 0 then s.channelPorts obj else []
  | _ => []

/-- Whether a port is halted, or awaits its return: a halted port is held until it has requalified (R441). -/
def State.portHeld (s : State) (p : Port) : Bool := s.halt[p].any (·.reaction) || s.awaitsReturn p

/-- Whether the halt of a port falls into the present iteration: both reactions of one iteration are taken (R469). -/
def State.haltsNow (s : State) (p : Port) : Bool :=
  if h : p.val < 4 then decide (s.src[(⟨p.val, h⟩ : SPort)].since = s.now)
  else if h : p.val < 7 then decide (s.bat[(⟨p.val - 4, by omega⟩ : BPort)].since = s.now)
  else false

/-- Whether a reaction holds the named object itself (R441): a fenced cell or flow, a locked branch, a stopped channel of the
estimator; `none` where the object of the source is a port or the module. -/
def State.objHeld (s : State) (b : Blk) (src : Src) (obj : Nat) : Option Bool :=
  let cellHeld (n : Nat) : Bool := if h : n < 40 then s.cells[n].st == .fenced else false
  match b.val with
  | 0x05 => if src.val = 7 then none else some (cellHeld obj)
  | 0x07 => if src.val = 4 ∨ src.val = 5 then none else some (if h : obj < 8 then s.branches[obj].degraded else false)
  | 0x0C => some (if src.val = 7 then cellHeld obj else if src.val = 1 then cellHeld obj && cellHeld (obj + 1) else false)
  | 0x0E => some (if h : obj < 160 then s.ctx[obj].st == .fenced else false)
  | _ => none

/-- Whether a Degrade action already holds the channel that a port's source names: its Charge flow fenced, its estimator stopped. -/
def State.channelHeld (s : State) (b : Blk) (obj : Nat) : Bool :=
  if b = bCHG then
    (if h : obj < 3 then (s.chgFlow ⟨obj, h⟩).any (fun c => s.ctx[c].st == .fenced) else false)
  else b == bEST && s.estStopped obj

/-- The sources that name the module (R143, R257, R311, R343, R366, R393, R427, R473, R477, R491, R544, R548). -/
def namesModule (b : Blk) (src : Src) : Bool :=
  match b.val with
  | 0x01 => decide (2 ≤ src.val)
  | 0x02 => true
  | 0x03 => src.val != 4
  | 0x04 => true
  | 0x06 => src.val == 6
  | 0x0C => decide (2 ≤ src.val) && src.val != 7
  | 0x0D => true
  | 0x0F => decide (src.val < 4)
  | 0x10 => src.val != 1
  | 0x11 => src.val == 0 || src.val == 1 || src.val == 4 || src.val == 6
  | 0x12 => src.val == 1 || src.val == 4 || src.val == 7
  | _ => false

/-- Whether a reaction already holds the named object, so that an occurrence takes none (R441): Stubble holds the module. The reaction of Halt-port acts on the
object's port too. A halt of the present iteration leaves a Degrade action of the same iteration (R469). -/
def State.held (s : State) (b : Blk) (src : Src) (obj : Nat) : Bool :=
  let code := s.sevFor b src obj
  let ports := s.objPorts b src obj
  (s.dom.st == .stubble && namesModule b src) || match s.objHeld b src obj with
    | some held => held || (code == 3 && ports.any fun p => s.portHeld p)
    | none => s.channelHeld b obj || ports.any fun p => s.portHeld p && !(code == 2 && s.haltsNow p)

/-! ### Reactions (R438, R439) -/

/-- The Degrade action of a block on a named object, at the end of its grace time (R109, R147, R219, R282, R305, R306,
R366). -/
def State.degrade (s : State) (b : Blk) (src : Src) (obj : Nat) : State :=
  let d : Driver := { blk := b, src := src, obj := obj, reaction := true }
  match b.val with
  | 0x05 => if h : obj < 40 then (s.fenceCell ⟨obj, h⟩ d).settle else s
  | 0x07 =>
    if h : obj < 8 then
      s.setBranch ⟨obj, h⟩ { s.branches[obj] with st := .locked, since := s.now, cur := 0, retryDue := none, retrying := none,
                                                  unlocking := false, byHalt := false, trip := src, degraded := true }
    else s
  | 0x0A =>
    if h : obj < 3 then
      match s.chgFlow ⟨obj, h⟩ with
      | some c => (s.fenceFlow c b src).settle
      | none => s
    else s
  | 0x0B => s.stopEst obj src
  | 0x0C =>
    if src.val = 7 then (if h : obj < 40 then (s.fenceCell ⟨obj, h⟩ d).settle else s)
    else if src.val = 1 then s.fencePair obj d
    else s
  | 0x0E => if h : obj < 160 then (s.fenceFlow ⟨obj, h⟩ b src).settle else s
  | 0x12 => s.degradeSense src obj
  | _ => s

/-- The lines that a reaction of Halt-port or Safe asserts on an object (R438, R440). -/
def State.reactLines (s : State) (b : Blk) (src : Src) (obj : Nat) : State :=
  match s.sevFor b src obj with
  | 3 => (s.objPorts b src obj).foldl (fun s p => s.assertHalt p { blk := b, src := src, obj := obj, reaction := true }) s
  | 4 => s.assertSafe { blk := b, src := src, obj := obj, reaction := true }
  | _ => s

/-- The reaction of the severity in effect (R438, R439, R441): an object already held takes none. -/
def State.react (s : State) (b : Blk) (src : Src) (obj : Nat) : State :=
  if s.held b src obj then s
  else
    match s.sevFor b src obj with
    | 1 => s.warn b
    | 2 =>
      let x := s.flt[b]
      if 8 ≤ x.grace.length then s.degrade b src obj
      else s.setFlt b { x with grace := x.grace ++ [⟨src, obj, s.now + 1000 * (s.reg (fgrcAddr b)).bits 7 0⟩] }
    | _ => s.reactLines b src obj

/-! ### Occurrences and retries (R433-R437, R443, R444) -/

/-- The retry window of a source, microseconds (R109, R147, R444). -/
def retryWindow (b : Blk) (src : Src) : Nat :=
  if b = bFAB ∧ src = 0 then 10000
  else if b = bLOAD ∧ (src = 0 ∨ src = 3) then 60000000
  else 1000000

/-- Whether two sources share one retry on an object: sources 0 and 3 of a branch do (R147). -/
def sameRetry (b : Blk) (x y : Src) : Bool := x == y || (b == bLOAD && (x == 0 || x == 3) && (y == 0 || y == 3))

/-- A retry that ends as lasting: that of SRC source 2 sends its Held port to Locked at the end of the hold time (R152, R159). -/
def State.retryLost (s : State) (b : Blk) (src : Src) (obj : Nat) : State :=
  if b = bSRC ∧ src = 2 then
    match sport? obj with
    | some p => if s.src[p].st = .held then s.setSrc p { s.src[p] with isoFailed := true } else s
    | none => s
  else s

/-- The cause of a source marked present on an object, its live bit held for 1 ms (R433). -/
def State.markLive (s₀ : State) (b : Blk) (src : Src) (obj : Nat) (stays : Bool) : State :=
  let s := s₀.endWarn
  let x := s.flt[b]
  s.setFlt b { x with
    live := if stays && !x.live.contains ⟨src, obj⟩ then x.live ++ [⟨src, obj⟩] else x.live
    recent := (x.recent.filter fun g => decide (s.now < g.due) && !(g.src == src && g.obj == obj)) ++ [⟨src, obj, s.now + 1000⟩] }

/-- The FST bit of a source set (R434, R469). -/
def State.latch (s : State) (b : Blk) (src : Src) : State :=
  s.setFlt b { s.flt[b] with fst := s.flt[b].fst ||| srcBit src, occNow := s.flt[b].occNow ||| srcBit src }

/-- Whether a retry of a source runs on an object, and whether the last one's window has yet to pass (R444). -/
def State.retryRuns (s : State) (b : Blk) (src : Src) (obj : Nat) : Bool :=
  s.flt[b].retries.any fun r => sameRetry b r.src src && r.obj == obj
def State.inWindow (s : State) (b : Blk) (src : Src) (obj : Nat) : Bool :=
  s.flt[b].windows.any fun r => sameRetry b r.src src && r.obj == obj && decide (s.now < r.start + retryWindow b src)

/-- Whether an occurrence of a source on an object will be retried (R436, R443, R444): the source is retryable and not masked, the
cause was absent, and no retry runs or has its window open. -/
def State.willRetry (s : State) (b : Blk) (src : Src) (obj : Nat) : Bool :=
  s.flt[b].frty.getLsbD src.val && !s.masked b src && !s.flt[b].live.contains ⟨src, obj⟩ && !s.retryRuns b src obj &&
    !s.inWindow b src obj

/-- The repeated action of a retry begins, and with it the retry window (R444). -/
def State.beginRetry (s : State) (b : Blk) (src : Src) (obj : Nat) : State :=
  s.setFlt b { s.flt[b] with
    windows := s.flt[b].windows.map fun r => if sameRetry b r.src src && r.obj == obj then { r with start := s.now } else r }

/-- An occurrence of a source that is not masked (R434, R438, R441, R443, R444): FST, the report, then the retry or the
reaction. -/
def State.occurred (s : State) (b : Blk) (src : Src) (obj : Nat) : State :=
  let s := s.latch b src
  let x := s.flt[b]
  let running := s.retryRuns b src obj
  let inWindow := s.inWindow b src obj
  if x.frty.getLsbD src.val then
    if running then
      (((s.setFlt b { x with retries := x.retries.filter fun r => !(sameRetry b r.src src && r.obj == obj) }).retryLost b src obj).report
        b src .lasting false obj).react b src obj
    else if inWindow then (s.report b src .lasting false obj).react b src obj
    else
      (s.setFlt b { x with
        retries := x.retries ++ [⟨src, obj, s.now⟩]
        windows := x.windows.filter (fun r => !(sameRetry b r.src src && r.obj == obj)) ++ [⟨src, obj, s.now⟩] }).report
        b src .occurrence false obj
  else (s.report b src .occurrence false obj).react b src obj

/-- An occurrence of a source on an object (R433, R436). `stays` says that its cause stays present until it is cleared;
a cause already present on the object is no occurrence. A reserved source never occurs. -/
def State.occur (s : State) (b : Blk) (src : Src) (obj : Nat) (stays : Bool := false) : State :=
  if hasSource b.val src.val = false then s
  else if s.flt[b].live.contains ⟨src, obj⟩ then s
  else
    let s := s.markLive b src obj stays
    if s.masked b src then s else s.occurred b src obj

/-- An occurrence that the spec calls not retryable although its source may be (R147, R301): reported and reacted to at once. -/
def State.occurHard (s : State) (b : Blk) (src : Src) (obj : Nat) (stays : Bool := true) : State :=
  if s.flt[b].live.contains ⟨src, obj⟩ then s
  else
    let s := s.markLive b src obj stays
    if s.masked b src then s else ((s.latch b src).report b src .occurrence false obj).react b src obj

/-- A cause that has ended on an object (R433). -/
def State.endCause (s : State) (b : Blk) (src : Src) (obj : Nat) : State :=
  s.setFlt b { s.flt[b] with live := s.flt[b].live.filter (· != ⟨src, obj⟩) }

/-- Lines that a reaction asserted are released once the live bit is clear and the FST bit has been cleared (R438). -/
def State.releaseLines (s : State) (b : Blk) : State :=
  let ended (d : Driver) : Bool :=
    d.blk == b && d.reaction && !s.flt[b].fst.getLsbD d.src.val && !s.liveBit b d.src
  { s with safeLine := s.safeLine.filter (!ended ·), halt := s.halt.map fun l => l.filter (!ended ·) }

/-- The report of a forced occurrence: lasting, and the end of the retry, where one runs on the object (R437, R443). -/
def State.forcedReport (s : State) (b : Blk) (src : Src) (obj : Nat) : State :=
  let x := s.flt[b]
  if x.retries.any (fun r => sameRetry b r.src src && r.obj == obj) then
    ((s.setFlt b { x with retries := x.retries.filter fun r => !(sameRetry b r.src src && r.obj == obj) }).retryLost b src obj).report
      b src .lasting true obj
  else s.report b src .occurrence true obj

/-- A report of EST source 2 clears rconv (R271). -/
def State.unconverge (s : State) (b : Blk) (src : Src) (obj : Nat) : State :=
  if b = bEST ∧ src = 2 then
    match bport? obj with
    | some p => s.setEst p { s.est[p] with rconv := false }
    | none => s
  else s

/-- An injected occurrence (R437): the live bit for 1 ms, the FST bit, a forced report, and the reaction without a
retry. Where a retry of the source runs on the object, the occurrence ends it as lasting (R443). A masked source is not
forced. -/
def State.forced (s : State) (b : Blk) (src : Src) (obj : Nat) : State :=
  if hasSource b.val src.val = false ∨ s.masked b src = true then s
  else
    let s := ((s.markLive b src obj false).latch b src).forcedReport b src obj
    let s := (if b = bSENSE ∧ src = 0 then (s.failChannel obj).settle else s).unconverge b src obj
    match s.forcedSpecial b src obj with
    | some t => t
    | none => s.react b src obj

/-- Whether another source's line holds an object or its port when a retry is due (R443). -/
def State.otherLine (s : State) (b : Blk) (src : Src) (obj : Nat) : Bool :=
  let other (d : Driver) : Bool := !(d.blk == b && d.src == src)
  s.safeLine.any other || ((s.objPorts b src obj).any fun p => s.halt[p].any other) ||
    ((b == bFAB && src != 7) && (if h : obj < 40 then s.cells[obj].fence.any other else false))

/-- A running retry forgotten. -/
def State.dropRetry (s : State) (b : Blk) (src : Src) (obj : Nat) : State :=
  s.setFlt b { s.flt[b] with retries := s.flt[b].retries.filter fun r => !(r.src == src && r.obj == obj) }

/-- Whether a retry of a source runs on an object. -/
def State.retrying (s : State) (b : Blk) (src : Src) (obj : Nat) : Bool :=
  s.flt[b].retries.any fun r => r.src == src && r.obj == obj

/-- The outcome of a retry (R443): success is reported as transient; failure as lasting, with the reaction. -/
def State.retryOutcome (s : State) (b : Blk) (src : Src) (obj : Nat) (ok : Bool) : State :=
  if s.retrying b src obj then
    let s := s.dropRetry b src obj
    if ok then s.report b src .transient false obj else (s.report b src .lasting false obj).react b src obj
  else s

/-- A retry cancelled because another source's line holds the object (R443). -/
def State.cancelRetry (s : State) (b : Blk) (src : Src) (obj : Nat) : State :=
  if s.retrying b src obj then (s.dropRetry b src obj).report b src .cancelled false obj else s

end Sys2Proof.Machine
end

