-- ==== Sys2Proof/Machine/Access.lean ====
section
/-!
DEFINITION. The checks that the register service makes on every access before it acts (R549-R555), and the record of an
access that it could not carry out (R559).
-/

namespace Sys2Proof.Machine

/-- SYS_AERR and SYS_AADR after an access error (R559): the last error and the count. -/
def State.accessError (s : State) (cause : Nat) (r : Req) (addr : Nat) : State :=
  { s with sys := { cause := cause, req := r.code, count := sat 65535 (s.sys.count + 1), addr := addr } }

/-- Whether the register service runs: D2 on, not held by the watchdog and not restarting (R41, R461). -/
def State.serviceRuns (s : State) : Bool := s.domOn 2 && s.dom.coreRestart.isNone && !s.ret.wdg.hold

/-- The access error of an address, if any: 1 unmapped top byte, 2 home domain off, 5 block held during image apply
(R549, R551, R552, R555). -/
def State.accessCause (s : State) (addr : Nat) : Option Nat :=
  let b := addr / 0x10000
  if 21 ≤ b then some 1
  else if s.domOn (homeDomain b) = false then some 2
  else if s.img.asta = .applying ∧ (homeDomain b = 3 ∨ homeDomain b = 10) then some 5
  else none

/-- An access to an address through the register service: no service, no access; an access error is recorded; else the
access has its effect (R551-R555). -/
def State.viaService (s : State) (r : Req) (addr : Nat) (f : State → State) : State :=
  if s.serviceRuns then
    match s.accessCause addr with
    | some c => s.accessError c r addr
    | none => f s
  else s

/-- A write of a field that a meeting point carries: it waits for the next iteration (R22-R24). -/
def State.carry (s : State) (addr : Nat) (v : Word) : State := { s with deferred := s.deferred ++ [.write addr v] }

/-- FST and FFRC of a block (R557). -/
def fstAddr (b : Blk) : Nat := 0x10000 * b.val + 0x0F00
def ffrcAddr (b : Blk) : Nat := 0x10000 * b.val + 0x0F0C

/-- A write of a fault register of a block, where the block has fault registers. -/
def State.carryFault (s : State) (b : Blk) (addr : Nat) (v : Word) : State := if hasFaults b.val then s.carry addr v else s

end Sys2Proof.Machine
end

