-- ==== Sys2Proof/Machine/Faults.lean ====
section
/-!
DEFINITION. The commands on fault registers and fault sources (R432-R444, R579).
-/

namespace Sys2Proof.Machine

/-! ### Occurrences, and the loss of a domain (R30, R38, R360, R433) -/

/-- Which items of a crossing a reset of one side empties (R360): a control-core restart only empties the back-pressured
and frame items of x0, x2 and x3. -/
def emptied (x : Xing) (coreSide restartOnly : Bool) (i : XItem) : Bool :=
  if coreSide && restartOnly && x.val != 1 && x.val != 4 then
    match i with
    | .backPressured => true
    | .notice => true
    | _ => false
  else true

/-- What goes with the items of x3, x1 and x0 (R360): reports count as lost, tags start at 0, sequences start afresh. -/
def State.dropReports (s : State) : State :=
  let n := s.x3.foldl (fun n q => n + q.count) 0
  let t : State := { s with
    x3 := [], deferred := s.deferred ++ (if n = 0 then [] else [.occurs bLOG 0 0])
    ret := { s.ret with lost := sat (2 ^ 32 - 1) (s.ret.lost + n), tally := s.ret.tally + n } }
  t.stageLost
def State.newTags (s : State) : State := { s with awn := { s.awn with tagexp := 0, taglast := none, reply := none } }
def State.newSeqs (s : State) : State :=
  { s with ring := { s.ring with peers := s.ring.peers.map fun q => { q with seqs := [] }, ownSeq := 0 } }

/-- The items of a crossing that its emptying takes (R360): back-pressured items in flight are dropped and counted, and so is the
absence of the peer. -/
def State.emptySlots (s : State) (x : Xing) (coreSide restartOnly : Bool) : State :=
  let gone := s.xslots.filter fun q => q.x == x && emptied x coreSide restartOnly q.item
  let bp := (gone.filter fun q => q.item == .backPressured).length
  let r := s.xing[x]
  { s.setXing x { r with presets := sat 255 (r.presets + 1), drops := sat 255 (r.drops + bp), emptyAt := some s.now } with
    xslots := s.xslots.filter fun q => !(q.x == x && emptied x coreSide restartOnly q.item) }

/-- A crossing emptied (R360): its items are taken, dropped log reports add to the lost records, sequence numbers start again, and SENSE
source 2 is reported. -/
def State.emptyXing (s : State) (x : Xing) (coreSide restartOnly : Bool) : State :=
  let s := s.emptySlots x coreSide restartOnly
  let s := if x = 3 ∧ restartOnly = false then s.dropReports else if x = 1 then s.newTags else if x = 0 then s.newSeqs else s
  s.occur bSENSE 2 x.val

/-- A domain whose rail fails while it is on (R30, R360, R505): its blocks' lines read as asserted, with D3 the items of x0-x3
are lost, and with D9 those of x1, and the stubble supply stops with every branch open (R138). -/
def State.loseDomain (s : State) (dom : Nat) (d : Driver) : State :=
  let t := (if dom = 3 then forEach [(0 : Xing), 1, 2, 3] (fun s x => s.emptyXing x true false) s
    else if dom = 9 then s.emptyXing 1 false false else s).loseLines dom d
  if dom = 9 then t.stopSupply else t

/-- The words corrected and the words beyond correction, counted with every cause of NVS sources 0 and 1, masked or not (R429, R430). -/
def State.countEcc (s : State) (b : Blk) (src : Src) : State :=
  let x := s.nvs
  if b = bNVS ∧ src = 0 then { s with nvs := { x with corr := sat 65535 (x.corr + 1) } }
  else if b = bNVS ∧ src = 1 then { s with nvs := { x with uncorr := sat 65535 (x.uncorr + 1) } }
  else s

/-- FAULT_OCCURRENCE: a source's cause appears on an object (R433, R434); DOM source 0 is the loss of a domain's power, EST source 2
clears rconv (R271), and NVS sources 0 and 1 are counted (R429). -/
def execFaultOccurrence (b : Blk) (src : Src) (obj : Nat) (s : State) : Ans :=
  let t := s.occur b src obj true
  let t := (if s.flt[b].live.contains ⟨src, obj⟩ = true ∨ s.masked b src = true then t else t.unconverge b src obj).countEcc b src
  .next (if b = bDOM ∧ src = 0 ∧ s.domOn obj = true then t.loseDomain obj { blk := bDOM, src := 0, obj := obj, reaction := true } else t)

/-- A grace timer of a source on an object whose time has come, taken off (R439). -/
def State.dueGrace (s : State) (b : Blk) (src : Src) (obj : Nat) : Bool :=
  s.flt[b].grace.any fun g => g.src == src && g.obj == obj && decide (g.due ≤ s.now)

/-- The grace timers of a source on an object removed. -/
def State.dropGrace (s : State) (b : Blk) (p : Grace → Bool) : State :=
  s.setFlt b { s.flt[b] with grace := s.flt[b].grace.filter fun g => !p g }

/-- GRACE_TIMER_EXPIRY: the Degrade action, provided the severity is still Degrade (R439). -/
def execGraceTimerExpiry (b : Blk) (src : Src) (obj : Nat) (s : State) : Ans :=
  if s.dueGrace b src obj then
    let t := s.dropGrace b fun g => g.src == src && g.obj == obj
    .next (if s.sevFor b src obj = 2 then t.degrade b src obj else t)
  else .next s

/-- A conversion repeated without success marks its channel Failed (R355). -/
def State.failedRepeat (s : State) (b : Blk) (src : Src) (obj : Nat) (ok : Bool) : State :=
  if b = bSENSE ∧ src = 0 ∧ ok = false ∧ s.retrying b src obj = true then
    (({ s with sense := { s.sense with again := s.sense.again.erase obj } }.retryOutcome b src obj ok).failChannel obj).settle
  else s.retryOutcome b src obj ok

/-- A tripped cell restarted once (R109): a member that stands Idle starts again where no line holds its port. -/
def State.restartTripped (s : State) (n : Nat) : State :=
  if h : n < 40 then
    match s.cells[n].inMask with
    | some g =>
      if s.cells[n].st = .idle ∧ s.cells[n].barred = false ∧ s.halt[g.port] = [] ∧ s.safeLine = [] then
        s.setCell ⟨n, h⟩ { s.cells[n] with st := .starting, since := s.now, startRetry := false, retryAt := none }
      else s
    | none => s
  else s

/-- What the repeated action of a retry does beside its outcome: the restart of a tripped cell that holds. -/
def State.repeatAction (s : State) (b : Blk) (src : Src) (obj : Nat) (ok : Bool) : State :=
  if b = bFAB ∧ src = 0 ∧ ok = true ∧ s.retrying b src obj = true then (s.failedRepeat b src obj ok).restartTripped obj
  else s.failedRepeat b src obj ok

/-- How long after its start a retry is due, microseconds, as the source tables state it (R109, R143, R147, R185, R253, R257, R311, R355,
R393): at the end of the hold time for the insulation of a source port. -/
def State.retryDelay (s : State) (b : Blk) (src : Src) (obj : Nat) : Nat :=
  match b.val, src.val with
  | 0x05, 0 => 50
  | 0x05, 2 => 5000
  | 0x06, 2 => 1000000
  | 0x07, 0 => 1000000
  | 0x07, 3 => 1000000
  | 0x08, 2 => match sport? obj with
    | some p => 1000000 * (s.reg (srcQtAt p)).bits 23 16
    | none => 0
  | 0x08, 7 => 1000000
  | 0x09, 4 => 1000000
  | 0x09, 7 => 1000000
  | 0x0A, 6 => 1000000
  | 0x0C, 0 => 10000
  | 0x0F, 1 => 100
  | 0x0F, 5 => 1000000
  | 0x10, 0 => 1000
  | 0x11, 1 => 1000000
  | 0x12, 0 => if 40 ≤ obj ∧ obj < 48 then 10000 else 0
  | _, _ => 0

/-- Whether the retry of a source on an object has yet to be due. -/
def State.tooSoon (s : State) (b : Blk) (src : Src) (obj : Nat) : Bool :=
  s.flt[b].retries.any fun r => r.src == src && r.obj == obj && decide (s.now < r.start + s.retryDelay b src obj)

/-- Whether the repeated action of a retry is one of the object's own that has yet to end: its own event then decides the retry, and not
the moment at which it is due: a cell start, a requalification, a branch's or a port's precharge, a drain, a measurement or a page. -/
def State.awaits (s : State) (b : Blk) (src : Src) (obj : Nat) : Bool :=
  let unqualified : Bool := match sport? obj with
    | some p => s.src[p].st == .absent || s.src[p].st == .qualifying || s.src[p].st == .halted || s.src[p].st == .lost || s.fdr[p].st == .halted
    | none => false
  let away : Bool := match bport? obj with
    | some p => s.bat[p].st == .absent || s.bat[p].st == .qualifying || s.bat[p].st == .halted
    | none => false
  match b.val, src.val with
  | 0x01, 7 => true
  | 0x03, 1 => s.log.commit
  | 0x05, 2 => if h : obj < 40 then s.cells[obj].startRetry else false
  | 0x06, 2 => unqualified || (match bport? (obj - 4) with
    | some p => decide (4 ≤ obj) && (s.bat[p].st == .absent || s.bat[p].st == .qualifying || s.bat[p].st == .halted)
    | none => false)
  | 0x06, 4 => if h : obj < 9 then (s.stage? ⟨obj, h⟩).any fun x => x.again && x.drainAt.isSome else false
  | 0x07, 0 => if h : obj < 8 then s.branches[obj].retryDue.isSome || s.branches[obj].retrying.isSome else false
  | 0x07, 3 => if h : obj < 8 then s.branches[obj].retryDue.isSome || s.branches[obj].retrying.isSome else false
  | 0x08, 2 => (sport? obj).any fun p => s.src[p].st == .held && s.src[p].isoTry
  | 0x08, 4 => (sport? obj).any fun p => s.src[p].st == .qualifying && s.src[p].arcFailed && !s.src[p].arcPassed
  | 0x08, 7 => unqualified
  | 0x09, 4 => (bport? obj).any fun p => s.bat[p].st == .qualifying && s.bat[p].preFailed
  | 0x09, 7 => away
  | 0x0A, 6 => away
  | 0x0B, 0 => (bport? obj).any fun p => s.est[p].again
  | 0x0B, 5 => (bport? obj).any fun p => s.est[p].half
  | 0x0C, 0 => if h : obj < 48 then s.thm.sensors[obj].st == .retry || s.thm.sensors[obj].testAt.isSome else false
  | 0x0C, 4 => s.thm.fans.any (·.st == 2)
  | 0x0D, 5 => s.thr.failed
  | 0x0F, 5 => (sport? obj).any fun p => s.fdr[p].retryAt.isSome
  | 0x12, 0 => s.sense.again.contains obj
  | 0x14, 2 => s.nvs.retry
  | 0x14, 3 => s.nvs.retry
  | _, _ => false

/-- The outcome of a retry at the moment it is due: a discarded Awn or ring frame for which no other copy came in time, and a controller
still bus-off, are lasting (R393, R512, R538). -/
def dueOutcome (b : Blk) (src : Src) (ok : Bool) : Bool :=
  ok && !((b == bAWN && src == 1) || (b == bRING && src == 0) || (b == bCAN && src == 1))

/-- RETRY_DUE: from the moment it is due, the retry is cancelled where another source's line holds the object, else judged by the repeated
action (R443): by its own event where that has yet to come, else by the outcome that the command brings. -/
def execRetryDue (b : Blk) (src : Src) (obj : Nat) (ok : Bool) (s : State) : Ans :=
  .next (if s.tooSoon b src obj then s
    else if s.otherLine b src obj then s.cancelRetry b src obj
    else if s.awaits b src obj then s
    else s.repeatAction b src obj (dueOutcome b src ok))

/-- FAULT_LIVE_CLEAR: a source's cause ends on an object (R433, R435, R438). -/
def execFaultLiveClear (b : Blk) (src : Src) (obj : Nat) (s : State) : Ans :=
  .next ((s.endCause b src obj).releaseLines b)

/-- What clearing FST bits does beside the bits: grace timers end (R439), channels stopped or failed until then return
(R282, R366), and reaction lines are released (R438). -/
def State.afterClear (s : State) (b : Blk) (cleared : BitVec 8) : State :=
  ((s.dropGrace b fun g => cleared.getLsbD g.src.val).clearHolds b cleared).releaseLines b

/-- The effect of a write to FST (R434, R469, R564): bits of sources neither live nor occurring in the iteration of the write
clear; those of live sources clear for one iteration. -/
def State.w1c (s : State) (b : Blk) (v : Word) : State :=
  let x := s.flt[b]
  let w : BitVec 8 := BitVec.ofNat 8 (v.bits 7 0) &&& ~~~x.occNow
  let live := s.flive b
  if v.bits 7 0 = 0 then s
  else
    let s := s.setFlt b { x with fst := x.fst &&& ~~~w }
    let s := s.afterClear b (w &&& ~~~live)
    if w &&& live &&& x.fst = 0 then s else { s with deferred := s.deferred ++ [.relatch b (w &&& live &&& x.fst)] }

/-- FST_W1C_WRITE: the write is carried to the block's next iteration (R23). -/
def execFstW1cWrite (r : Req) (b : Blk) (v : Word) (s : State) : Ans :=
  .next (s.viaService r (fstAddr b) fun s => s.carryFault b (fstAddr b) v)

/-- The object that an FFRC word names for a source; none where its index lies outside the range of R579, or the context
is Free (R220). -/
def State.ffrcObj (s : State) (b : Blk) (src : Src) (v : Word) : Option Nat :=
  let upto (n i : Nat) : Option Nat := if i < n then some i else none
  match b.val with
  | 0x01 => (upto 12 (v.bits 19 16)).map fun d => if src.val ≤ 1 then d else 0
  | 0x03 => let k := v.bits 20 16; if hasFaults k then some (if src = 4 then k else 0) else none
  | 0x05 =>
    let c := v.bits 21 16
    if h : c < 40 then (if src = 7 then s.cells[c].grp.map (·.val) else some c) else none
  | 0x06 => (upto 9 (v.bits 19 16)).map fun p => if src = 2 ∨ src = 3 ∨ src = 4 then p else 0
  | 0x07 => let k := v.bits 18 16; some (if src = 4 ∨ src = 5 then k / 4 else k)
  | 0x08 => some (v.bits 17 16)
  | 0x09 => upto 3 (v.bits 17 16)
  | 0x0A => upto 3 (v.bits 17 16)
  | 0x0B => upto 3 (v.bits 17 16)
  | 0x0C =>
    let k := v.bits 21 16
    if src = 0 then upto 48 k
    else if src = 1 then (upto 40 k).map fun k => if k % 8 = 7 then k - 1 else k
    else if src = 7 then upto 40 k
    else some 0
  | 0x0E => let c := v.bits 23 16; if h : c < 160 then (if s.ctx[c].st = .free then none else some c) else none
  | 0x0F => some (if src.val ≥ 4 then v.bits 17 16 else 0)
  | 0x10 => some (if src = 1 then v.bits 16 16 else 0)
  | 0x11 => some (if src = 2 ∨ src = 3 ∨ src = 5 then v.bits 19 16 else 0)
  | 0x12 =>
    if src = 0 then upto 128 (v.bits 22 16) else if src = 3 then upto 7 (v.bits 22 16)
    else if src = 2 ∨ src = 5 ∨ src = 6 then upto 5 (v.bits 22 16) else some 0
  | 0x14 => upto 7 (v.bits 18 16)
  | _ => some 0

/-- The injections that an FFRC word asks for (R437). -/
def State.force (s : State) (b : Blk) (v : Word) : State :=
  (List.finRange 8).foldl (fun s (i : Src) =>
    if v.bit i.val then
      match s.ffrcObj b i v with
      | some obj => s.forced b i obj
      | none => s
    else s) s

/-- FFRC_FORCE: the occurrence comes at the block's next iteration (R437). -/
def execFfrcForce (r : Req) (b : Blk) (v : Word) (s : State) : Ans :=
  .next (s.viaService r (ffrcAddr b) fun s => s.carryFault b (ffrcAddr b) v)

/-- A severity word takes effect (R439, R440): a source raised to Halt-port or Safe reacts on the objects for which its live bit is set
or its grace timer runs, held by another reaction or not; none while its retry runs (R443). -/
def State.applySeverity (s₀ : State) (b : Blk) : State :=
  let old := s₀.flt[b].sev
  let s := s₀.endWarn
  let s := s.setFlt b { s.flt[b] with sev := s.reg (fsevAddr b) }
  (List.finRange 8).foldl (fun s (i : Src) =>
    let was := actSev b i (sevField old i)
    let is := actSev b i (s.sevRaw b i)
    if is < 2 then s.dropGrace b (·.src == i)
    else if was < is ∧ 3 ≤ is ∧ s.masked b i = false then
      let objs := (((s.flt[b].grace.filter (·.src == i)).map (·.obj)) ++ s.liveObjs b i).filter fun o => !s.retrying b i o
      objs.dedup.foldl (fun s o => s.reactLines b i o) (s.dropGrace b (·.src == i))
    else s) s

/-- The effect of a write to FSEV (R440, R561): stored with the fixed severities, and in effect. -/
def State.writeSev (s : State) (b : Blk) (v : Word) : State :=
  (s.putReg (fsevAddr b) (enforceSev b.val (v &&& 0x00FFFFFF))).applySeverity b

/-- FSEV_WRITE: carried to the block's next iteration (R23, R440). -/
def execFsevWrite (r : Req) (b : Blk) (v : Word) (s : State) : Ans :=
  .next (s.viaService r (fsevAddr b) fun s => s.carryFault b (fsevAddr b) v)

/-- The effect of a write to FMSK (R436, R439): newly masked sources lose their grace timers and retries; sources unmasked while
their cause is present occur. -/
def State.writeMask (s : State) (b : Blk) (v : Word) : State :=
  let old := s.reg (fmskAddr b)
  let new := enforceMask b.val (v &&& 0xFF)
  let s := s.putReg (fmskAddr b) new
  let s := s.dropGrace b fun g => new.bit g.src.val
  let s := s.setFlt b { s.flt[b] with retries := s.flt[b].retries.filter fun q => !new.bit q.src.val }
  (List.finRange 8).foldl (fun s (i : Src) =>
    if old.bit i.val && !new.bit i.val then
      ((s.flt[b].live.filter (·.src == i)).map (·.obj)).foldl (fun s o => s.occurred b i o) s
    else s) s

/-- FMSK_WRITE: carried to the block's next iteration (R23, R436). -/
def execFmskWrite (r : Req) (b : Blk) (v : Word) (s : State) : Ans :=
  .next (s.viaService r (fmskAddr b) fun s => s.carryFault b (fmskAddr b) v)

/-- The effect of a write of a fault register of a block (R110, R557). -/
def State.writeFault (s : State) (b : Blk) (off : Nat) (v : Word) : State :=
  match off with
  | 0x0F00 => s.w1c b v
  | 0x0F08 => s.writeSev b v
  | 0x0F0C => s.force b v
  | 0x0F10 => s.setReg (fgrcAddr b) v
  | 0x0F14 => s.writeMask b v
  | _ => s

/-- PARITY_ERROR in a block's fault registers (R442): the Safe line until a restart, the block's grace timers stopped,
LOG source 4 naming the block. -/
def execParityError (b : Blk) (s : State) : Ans :=
  if hasFaults b.val then
    let s := s.setFlt b { s.flt[b] with grace := [], parity := true }
    .next ((s.assertSafe { blk := bLOG, src := 4, obj := b.val, reaction := false }).occur bLOG 4 b.val)
  else .next s

end Sys2Proof.Machine
end

