-- ==== Sys2Proof/Machine/Store.lean ====
section
/-!
DEFINITION. The non-volatile store: its regions (R400), what may write where (R402), and the queue of its operations
(R401, R429).
-/

namespace Sys2Proof.Machine

/-- Base and size of a region, and its access code (R400): bytes, and NVS_RGN.acc. -/
def regionBase : Nat → Nat
  | 0 => 0x00000 | 1 => 0x20000 | 2 => 0x40000 | 3 => 0x50000 | 4 => 0x58000 | 5 => 0x65000 | _ => 0x67000
def regionSize : Nat → Nat
  | 0 => 0x20000 | 1 => 0x20000 | 2 => 0x10000 | 3 => 0x08000 | 4 => 0x0D000 | 5 => 0x02000 | _ => 0x19000
def regionAcc : Nat → Nat
  | 0 => 0 | 1 => 0 | 2 => 1 | 3 => 2 | 4 => 3 | 5 => 3 | _ => 4

/-- The first byte of a bank. -/
def bankBase (b : Side) : Nat := 0x20000 * b.val

/-- The inactive bank: the one that is not Active, by the boot record where no image is in force (R395, R405). -/
def State.inactive (s : State) : Side :=
  if s.img.banks[(0 : Side)].st = .active then 1 else if s.img.banks[(1 : Side)].st = .active then 0
  else if s.img.act = 0 then 1 else 0

/-- Whether writes are held because of the store's temperature (R298). -/
def State.writeHold (s : State) : Bool := s.thm.nvhold

/-- The region of an operation (NVS_STAT.region). -/
def NvOp.region : NvOp → Nat
  | .eraseBank b => b.val
  | .program b _ _ => b.val
  | .logErase => 2

/-- Whether an operation is an erase. -/
def NvOp.isErase : NvOp → Bool
  | .eraseBank _ => true
  | .program _ _ _ => false
  | .logErase => true

/-- Whether the controller refuses an operation (R402): one on the active bank; the log's erase lies in the log's own region. -/
def State.refusesOp (s : State) : NvOp → Bool
  | .eraseBank b => s.img.banks[b].st == .active
  | .program b _ _ => s.img.banks[b].st == .active
  | .logErase => false

/-- An operation asked of the store: refused with NVS source 5 (R402), or started when those before it have ended, and not during a write
hold. -/
def State.askStore (s : State) (o : NvOp) : State :=
  if s.refusesOp o then s.occur bNVS 5 o.region
  else if s.nvs.ops = [] then
    { s with nvs := { s.nvs with ops := [o], since := s.now, started := !s.writeHold, retry := false, sector := 0 } }
  else { s with nvs := { s.nvs with ops := s.nvs.ops ++ [o] } }

/-- The operation in progress ended, and its overtime with it; the next one starts. -/
def State.nextOp (s : State) : State :=
  let t := { s with nvs := { s.nvs with ops := s.nvs.ops.tail, since := s.now, started := !s.writeHold, retry := false, sector := 0 } }
  match s.nvs.ops with
  | o :: _ => t.endCause bNVS 6 o.region
  | [] => t

/-- A sector of the erase in progress is erased: the next one starts, not during a write hold (R298). -/
def State.nextSector (s : State) : State :=
  { s with nvs := { s.nvs with since := s.now, started := !s.writeHold, retry := false, sector := s.nvs.sector + 1 } }

/-- The operation in progress is done once more, as a retry. -/
def State.repeatOp (s : State) : State :=
  { s with nvs := { s.nvs with since := s.now, started := !s.writeHold, retry := true } }

/-- The first sector of an erase, and how many it has (R400, R409, R454). -/
def NvOp.sectors : NvOp → Nat × Nat
  | .eraseBank b => (32 * b.val, 32)
  | .logErase => (0x40, 16)
  | .program _ _ _ => (0, 0)

/-- One more erase cycle on each 4 KiB sector of a range; a sector above 90,000 cycles is reported (R430 source 4). -/
def State.wearSectors (s : State) (first n : Nat) : State :=
  let w := Vector.ofFn fun i : Fin 128 =>
    if first ≤ i.val ∧ i.val < first + n then sat (2 ^ 24 - 1) (s.nvs.wear[i] + 1) else s.nvs.wear[i]
  let s' := { s with nvs := { s.nvs with wear := w } }
  let worn := (List.finRange 128).filter fun i => decide (90000 < w[i]) && decide (s.nvs.wear[i] ≤ 90000)
  worn.foldl (fun s i =>
    let r := (List.range 7).findIdx fun r => decide (regionBase r ≤ 4096 * i.val) && decide (4096 * i.val < regionBase r + regionSize r)
    s.occur bNVS 4 r) s'

/-- Erased bytes of a range of the store. -/
def State.eraseBytes (s : State) (a n : Nat) : State :=
  { s with nv := Memory.erase s.nv a n
           nvs := { s.nvs with torn := s.nvs.torn.filter fun p => !(decide (a ≤ 256 * p) && decide (256 * p < a + n)) } }

/-- Free bytes in a range of the store: an erase or a program that did not end, or was not verified, leaves what the manual does not
state; the pages of the log among them are unreadable (R495). -/
def State.spoil (s : State) (a n : Nat) : State :=
  let pages := ((List.range 256).map (0x400 + ·)).filter fun p =>
    decide (a / 256 ≤ p) && decide (256 * p < a + n) && !s.nvs.torn.contains p
  { s with nv := Memory.fill s.nv a ((List.range n).map fun i => BitVec.ofNat 8 (s.freeAt i))
           nvs := { s.nvs with torn := s.nvs.torn ++ pages } }.drewMany n

/-- What an erase that did not verify, or was broken off, leaves of the sector under way. -/
def State.spoilErase (s : State) (o : NvOp) : State :=
  if o.isErase then s.spoil (4096 * (o.sectors.1 + s.nvs.sector)) 4096 else s

/-- A 32-bit word as four bytes, most significant first (R395, R446). -/
def wordBytes (v : Nat) : List Byte :=
  [BitVec.ofNat 8 (v / 2 ^ 24), BitVec.ofNat 8 (v / 2 ^ 16), BitVec.ofNat 8 (v / 2 ^ 8), BitVec.ofNat 8 v]

/-- A number from bytes, most significant first. -/
def beNat (l : List Byte) : Nat := l.foldl (fun n b => 256 * n + b.toNat) 0

/-- A number read from the store, most significant byte first. -/
def State.nvNat (s : State) (a n : Nat) : Nat := beNat (Memory.readAll s.nv a n)

/-- One step of the reflected CRC-32 of IEEE 802.3. -/
def crcBit (c : BitVec 32) : BitVec 32 := if c.getLsbD 0 then (c >>> 1) ^^^ 0xEDB88320 else c >>> 1

/-- The CRC-32 of IEEE 802.3 over bytes (R395). -/
def crc32 (l : List Byte) : BitVec 32 :=
  ~~~(l.foldl (fun c b => crcBit (crcBit (crcBit (crcBit (crcBit (crcBit (crcBit (crcBit (c ^^^ b.zeroExtend 32)))))))))
    0xFFFFFFFF)

end Sys2Proof.Machine
end

