-- ==== Sys2Proof/Machine/Log.lean ====
section
/-!
DEFINITION. The event log: arrival, groups, commit to the store, the start-up scan, record reads, and the log's commands
(R445-R454, R495). A committed record lies in slot (seq - 1) mod 4,096 of the log region (assumption 6).
-/

namespace Sys2Proof.Machine

/-- The four words of a record (R446). -/
def LogRec.words (q : LogRec) : List Nat :=
  [q.seq, q.sec, q.usec * 4096 + (q.sev % 8) * 512 + q.forced.toNat * 256 + q.kind.code * 64,
    q.blk.val * 2 ^ 24 + q.src.val * 2 ^ 20 + (q.count % 256) * 4096 + (q.idx % 256) * 16]

/-- The store address of a record. -/
def logAddr (seq : Nat) : Nat := 0x40000 + 16 * ((seq + 4095) % 4096)

/-- LOG_REPORT_ARRIVAL: the slot's first report, with its count, reaches the staging buffer (R445, R359). -/
def execLogReportArrival (b : Blk) (src : Src) (s : State) : Ans :=
  match s.x3.find? (fun q => q.blk == b && q.src == src) with
  | some q => .next ({ s with x3 := s.x3.filter fun q => !(q.blk == b && q.src == src) }.arrive q)
  | none => .next s

/-- Whether a report stands in the queue that leaves its slot of x3 in this same microsecond. -/
def State.arrivalWaits (s : State) : Bool :=
  s.pending.any fun c => match c with
    | .logReportArrival b src => s.x3.any fun q => q.blk == b && q.src == src
    | _ => false

/-- LOG_GROUP_CLOSE: the group closes 1 us after its opening, behind the reports that arrive exactly then (R447, assumption 16). -/
def execLogGroupClose (s : State) : Ans :=
  match s.log.group with
  | some g => .next (if g.openAt + 1 < s.now ∨ (g.openAt + 1 = s.now ∧ s.arrivalWaits = false) then s.closeGroup else s)
  | none => .next s

/-- How many of the staged records the next page program takes: those that fit in the rest of the present page (R450). -/
def pageTake : List Staged → Nat
  | [] => 0
  | q :: qs => min (qs.length + 1) (16 - ((q.record.seq + 4095) % 4096) % 16)

/-- The sector erased before a record that begins one (R450): its 256 oldest records are lost. -/
def State.eraseFor (s : State) (seq : Nat) : State :=
  let slot := (seq + 4095) % 4096
  if slot % 256 = 0 then
    let s := (s.eraseBytes (0x40000 + 16 * slot) 4096).wearSectors (0x40 + slot / 256) 1
    { s with log := { s.log with oldest := if s.log.oldest = 0 then 0 else max s.log.oldest (seq - 3840) } }
  else s

/-- A record programmed into its slot. -/
def State.programRec (s : State) (q : Staged) : State :=
  let s := s.eraseFor q.record.seq
  { s with nv := Memory.writeAll s.nv (logAddr q.record.seq) (q.record.words.flatMap wordBytes)
           nvs := { s.nvs with torn := s.nvs.torn.filter (· != logAddr q.record.seq / 256) }
           log := { s.log with newest := q.record.seq
                               oldest := if s.log.oldest = 0 then q.record.seq else s.log.oldest } }

/-- Restored records that the store already holds, discarded at the first commit after a restore (R495). -/
def State.discardKnown (s : State) : State :=
  if s.log.restored then
    { s with log := { s.log with restored := false }
             ret := { s.ret with staged := s.ret.staged.filter fun q => decide (s.log.newest < q.record.seq) } }
  else s

/-- Whether staged records can be committed: D11 on and scanned, the management processor running, writes not held and
no erase of the log under way (R450, R451, R454). -/
def State.canCommit (s : State) : Bool :=
  s.domOn 11 && s.serviceRuns && !s.log.scan && !s.log.erase && !s.writeHold

/-- The first staged records with their page program begun: they take no further counts (R448). -/
def beginProgram : Nat → List Staged → List Staged
  | 0, l => l
  | _, [] => []
  | n + 1, q :: l => { q with programming := true } :: beginProgram n l

/-- A commit that did not verify: the sector is erased where the first record begins one, the slots of the records hold free
bytes, and the records stay staged (R448, R450, R495). -/
def State.failCommit (s : State) (n : Nat) : State :=
  match s.ret.staged with
  | q :: _ =>
    let s := s.eraseFor q.record.seq
    { s with ret := { s.ret with staged := beginProgram n s.ret.staged } }.spoil (logAddr q.record.seq) (16 * n)
  | [] => s

/-- LOG_COMMIT: one page program of every staged record that fits in the page; the records leave the buffer when it has
been verified (R450, R495). Where it fails, they stay staged: LOG source 1 (R477)
and NVS source 2 (R430). -/
def execLogCommit (ok : Bool) (s : State) : Ans :=
  if s.canCommit then
    let s := s.discardKnown
    let n := pageTake s.ret.staged
    if n = 0 then .next s.stageLost
    else if ok then
      let t := (s.ret.staged.take n).foldl State.programRec s
      let t := { t with ret := { t.ret with staged := t.ret.staged.drop n }, log := { t.log with commit := false } }
      .next ((t.retryOutcome bLOG 1 0 true).retryOutcome bNVS 2 2 true).stageLost
    else
      let t := s.failCommit n
      .next (({ t with log := { t.log with commit := true } }.occur bNVS 2 2).occur bLOG 1 0)
  else .next s

/-- The record numbers in the log region, erased slots and unreadable pages apart (R451, R495). -/
def State.logSeqs (s : State) : List Nat :=
  (((List.range 4096).filter fun i => !s.nvs.torn.contains (logAddr (i + 1) / 256)).map fun i => s.nvNat (0x40000 + 16 * i) 4).filter
    (· != 2 ^ 32 - 1)

/-- Records with their numbers counted on from one. -/
def renumber (n : Nat) : List Staged → List Staged
  | [] => []
  | q :: qs => { q with record := { q.record with seq := nextSeq n } } :: renumber (nextSeq n) qs

/-- The staged records once the highest record number is known (R451, R453, R495): those staged since the start-up take the numbers after
it and after those that the start-up found staged. -/
def State.renumbered (s : State) (high : Nat) : State :=
  let old := s.ret.staged.take s.log.found
  let new := s.ret.staged.drop s.log.found
  let top := (old.map (·.record.seq)).foldl max high
  let now_ := renumber top new
  { s with ret := { s.ret with
      staged := old ++ now_
      nextSeq := nextSeq ((now_.getLast?.map (·.record.seq)).getD top)
      first := s.ret.first.map fun q => (((new.zip now_).find? fun (r, _) => r.record.seq == q.seq && r.record.blk == q.blk && r.record.src == q.src).map
        fun (_, r) => r.record).getD q } }

/-- LOG_STARTUP_SCAN: the highest seq found fixes the next one (R451); a region that cannot be read is LOG source 2, and NVS
source 1 (R430). -/
def execLogStartupScan (readable : Bool) (s : State) : Ans :=
  if s.log.scan ∧ s.domOn 11 = true then
    let s := { s with log := { s.log with scan := false } }
    if readable then
      let l := s.logSeqs
      let high := l.foldl max 0
      .next ({ s with log := { s.log with newest := high, oldest := l.foldl min high, restored := true } }.renumbered high)
    else .next (((s.occur bNVS 1 2).countEcc bNVS 1).occur bLOG 2 0)
  else .next s

/-- The effect of a write to LOG_RSEQ (R452). -/
def State.readRecord (s : State) (seq : Word) : State :=
  let a := logAddr seq.toNat
  let found := !s.log.erase && !s.log.scan && seq != 0 && !s.nvs.torn.contains (a / 256) && s.nvNat a 4 == seq.toNat
  { s with log := { s.log with
      rseq := seq, rdone := true, rok := found
      rw := Vector.ofFn fun i : Fin 4 => if found then BitVec.ofNat 32 (s.nvNat (a + 4 * i.val) 4) else 0 } }

/-- LOG_RSEQ_READ. -/
def execLogRseqRead (r : Req) (seq : Word) (s : State) : Ans :=
  .next (s.viaService r 0x030014 fun s => s.readRecord seq)

/-- LOG_CLRFIRST: LOG_FIRST is armed for the next record staged (R453). -/
def execLogClrfirst (r : Req) (s : State) : Ans :=
  .next (s.viaService r 0x030010 fun s => { s with ret := { s.ret with armed := true } })

/-- LOG_CLRLOST (R476). -/
def execLogClrlost (r : Req) (s : State) : Ans :=
  .next (s.viaService r 0x030010 fun s => { s with ret := { s.ret with lost := 0 } })

/-- The effect of LOG_CTL.erase: the log region is erased, one sector after another (R454). -/
def State.startLogErase (s : State) : State :=
  if s.log.erase then s else { s with log := { s.log with erase := true } }.askStore .logErase

/-- LOG_ERASE. -/
def execLogErase (r : Req) (s : State) : Ans := .next (s.viaService r 0x030010 State.startLogErase)

end Sys2Proof.Machine
end

