-- ==== Sys2Proof/Machine/Fabric.lean ====
section
/-!
DEFINITION. The power fabric: ratings and capacities, cell starts and trips, migrations and adds, and phase shedding
(R73-R110, R582).
-/

namespace Sys2Proof.Machine

/-! ### Ratings (R73, R82, R582) -/

/-- The limit of R73 of a cell at a port voltage in mV, 10 mA: its current limit, or its power limit over the voltage. -/
def cellLimit (c : Cell) (mv : Nat) : Nat :=
  let amps := if c.isL then 3000 else 1000
  let watts := if c.isL then 1500 else 2000
  if mv = 0 then amps else min amps (watts * 100000 / mv)

/-- The voltage at a group's port, mV: the port voltage, or the battery voltage. -/
def State.groupVolts (s : State) (g : Group) : Nat :=
  match g.port.src?, g.port.bat? with
  | some p, _ => if s.src[p].role = .feeder then 100 * s.fdr[p].vout else 100 * s.src[p].v
  | _, some p => s.bat[p].vterm.toNat
  | _, _ => 0

/-- The members of a group. -/
def State.members (s : State) (g : Group) : List Cell := allCells.filter fun c => s.cells[c].inMask == some g

/-- Whether a Migrating cell still carries a share in its donor: it switches there and counts there until step 2 (R86, R90). -/
def State.yielding (s : State) (c : Cell) : Bool :=
  s.cells[c].st == .migrating && (s.migrOf c).any fun m => decide (m.step < 2)

/-- The members that switch (R86). -/
def State.switching (s : State) (g : Group) : List Cell :=
  (s.members g).filter fun c => s.cells[c].st == .active || s.cells[c].st == .shedding || s.yielding c

/-- The rated current of a cell in a group (R582), 10 mA. -/
def State.rated (s : State) (g : Group) (c : Cell) : Nat :=
  let r := cellLimit c (s.groupVolts g)
  match s.groups[g].dieLim with
  | some d => let n := (s.switching g).length; if n = 0 then r else min r (d / n)
  | none => r

/-- The rated current of a set of cells of a group. -/
def State.ratedSum (s : State) (g : Group) (l : List Cell) : Nat := l.foldl (fun n c => n + s.rated g c) 0

/-- The limits of R73 summed over cells of a group, 10 mA at its port: an H group at most 32 A; none while R80 holds it. -/
def State.limitSum (s : State) (g : Group) (l : List Cell) : Nat :=
  let sum := l.foldl (fun n c => n + cellLimit c (s.groupVolts g)) 0
  if s.groups[g].range then 0 else if g.val < 4 then min sum 3200 else sum

/-- A group's capacity (R82), 10 mA at its port: over the cells that count. -/
def State.capacity (s : State) (g : Group) : Nat :=
  s.limitSum g ((s.members g).filter fun c => s.cells[c].st.counts || s.yielding c)

/-- Whether a group's port is Ready, or runs with members that are Idle or Starting while they wait for their start (R82). -/
def State.awaitsStart (s : State) (g : Group) : Bool :=
  let waits := (s.members g).any fun c => s.cells[c].st == .idle || s.cells[c].st == .starting
  match g.port.src?, g.port.bat? with
  | some p, _ =>
    if s.src[p].role = .feeder then waits && s.fdr[p].st != .halted && s.fdr[p].st != .unused
    else s.src[p].st == .ready || (waits && s.src[p].st == .supplying)
  | none, some p => waits && s.bat[p].st == .present
  | none, none => false

/-- The capacity that R317 and R326 take: that of R82, or the prospective one of a group none of whose members switches yet, over
its members that are not Fenced as if they ran (R82). -/
def State.prospect (s : State) (g : Group) : Nat :=
  if s.switching g = [] ∧ s.awaitsStart g = true then s.limitSum g ((s.members g).filter fun c => s.cells[c].st != .fenced)
  else s.capacity g

/-- The group's present current, 10 mA. -/
def State.groupCur (s : State) (g : Group) : Nat := (s.members g).foldl (fun n c => n + s.cells[c].cur.natAbs) 0

/-! ### Starts and trips (R74, R86, R87) -/

/-- Whether the start checks of R87 hold. -/
def startPass (o : StartObs) : Bool :=
  o.gateOk && decide (o.offset.natAbs ≤ 30) && o.selOk && decide (50 * (o.vBias - o.vPort).natAbs ≤ o.vPort.natAbs)

/-- A cell becomes Active (R86): its starts are counted. -/
def State.activate (s : State) (c : Cell) : State :=
  s.setCell c { s.cells[c] with st := .active, since := s.now, startRetry := false, retryAt := none, starts := sat 65535 (s.cells[c].starts + 1) }

/-- CELL_TRIP: the cell stops by its own gate drive, whatever the mask; FAB source 0 (R74, R109). -/
def execCellTrip (c : Cell) (s : State) : Ans :=
  if s.cells[c].st.running then
    let t := match s.migrOf c with
      | some m => ((s.idleCell c).freePartners m c).endMigr m 1
      | none => s.idleCell c
    .next (t.occur bFAB 0 c.val).settle
  else .next s

/-- A migration with one more step completed. -/
def State.stepMigr (s : State) (m : Migr) (step : Nat) : State :=
  { s with fab := { s.fab with migs := s.fab.migs.map fun k =>
      if k.cell = m.cell then { k with step := step, stepAt := s.now } else k } }

/-- The start checks of a cell of a migration noted as passed; step 5 completes once those of every cell have (R89, R90). -/
def State.passPart (s : State) (m : Migr) (c : Cell) : State :=
  let parts := m.parts.map fun q => if q.cell = c then { q with passed := true } else q
  { s with fab := { s.fab with migs := s.fab.migs.map fun k =>
      if k.cell = m.cell then
        (if parts.all (·.passed) then { k with parts := parts, step := 5, stepAt := s.now } else { k with parts := parts })
      else k } }

/-- Whether a cell's start checks run: it is Starting without a migration, or its migration is at step 4 and its checks have not passed; the
5 ms before a retry are over (R86, R90). -/
def State.checksRun (s : State) (c : Cell) : Bool :=
  s.cells[c].retryAt.isNone && match s.migrOf c with
    | some m => m.step == 4 && m.parts.any fun q => q.cell == c && !q.passed
    | none => s.cells[c].st == .starting

/-- A cell whose start is retried waits 5 ms (R86, R109). -/
def State.awaitRetry (s : State) (c : Cell) : State :=
  s.setCell c { s.cells[c] with startRetry := true, retryAt := some (s.now + 5000), since := s.now }

/-- CELL_START_CHECKS_DONE: a pass makes the cell Active, or counts for step 5 of its migration; a failure is FAB
source 2, retried once, then the cell is Idle and its migration ends (R86, R87, R92). -/
def execCellStartChecksDone (c : Cell) (o : StartObs) (s : State) : Ans :=
  if s.checksRun c = false then .next s
  else match s.migrOf c with
    | some m =>
      if startPass o then .next ((s.retryOutcome bFAB 2 c.val true).passPart m c)
      else if s.willRetry bFAB 2 c.val then .next ((s.awaitRetry c).occur bFAB 2 c.val)
      else .next (((s.idleParts m).endMigr m 2).occur bFAB 2 c.val).settle
    | none =>
      if startPass o then .next ((s.retryOutcome bFAB 2 c.val true).activate c).settle
      else if s.willRetry bFAB 2 c.val then .next ((s.awaitRetry c).occur bFAB 2 c.val)
      else .next ((s.idleCell c).occur bFAB 2 c.val).settle

/-- CELL_START_RETRY: 5 ms after a failed start it is tried again (R86, R109); where another source's line holds the
cell or its port, the retry is cancelled and the cell is Idle (R443). -/
def execCellStartRetry (c : Cell) (s : State) : Ans :=
  if s.cells[c].retryAt.any (fun t => decide (t ≤ s.now)) = true then
    if s.otherLine bFAB 2 c.val then
      let t := (s.cancelRetry bFAB 2 c.val).idleCell c
      .next (match s.migrOf c with
        | some m => (t.idleParts m).endMigr m 2
        | none => t)
    else .next ((s.setCell c { s.cells[c] with retryAt := none, since := s.now }).beginRetry bFAB 2 c.val)
  else .next s

/-! ### Migrations and adds (R89, R90, R92, R101) -/

/-- Whether a Fenced cell meets its return conditions (R101). -/
def State.mayReturn (s : State) (c : Cell) : Bool :=
  let x := s.cells[c]
  decide (x.fcount < 3) && (x.ext || (!s.liveBit bFAB x.fcause && !s.flt[bFAB].fst.getLsbD x.fcause.val)) && x.fence.all fun d =>
    !s.liveBit d.blk d.src && (d.blk != bFAB || !s.flt[bFAB].fst.getLsbD d.src.val)

/-- Whether a cell lies in the allowed set of a group of its own bank (R78, R107). -/
def State.allows (s : State) (g : Group) (c : Cell) : Bool :=
  (decide (g.val < 4) == !c.isL) && s.groups[g].cfg.topo != .none && s.groups[g].cfg.allow.getLsbD c.maskBit

/-- Whether a group is free of halt lines and of other migrations, and its source port has not just been lost (R89,
R181). -/
def State.groupClear (s : State) (g : Group) : Bool :=
  s.halt[g.port].isEmpty && (s.fab.migs.all fun m => !m.gives g && m.dest != g) &&
    (match g.port.src? with
     | some p => s.src[p].hov.all fun (t, _) => t != s.now
     | none => true)

/-- What R89 asks of the donor: its minimum phase count, and 90 % of the rated current of what remains. -/
def State.donorKeeps (s : State) (g : Group) (out : List Cell) : Bool :=
  let rest := (s.members g).filter fun c => !out.contains c && s.cells[c].st.counts
  decide (s.groups[g].cfg.minph ≤ rest.length) && !s.groups[g].starved && decide (10 * s.groupCur g ≤ 9 * s.ratedSum g rest)

/-- Whether the fabric accepts an order (R89), judged for each cell that it moves and for each group that gives one. A cell that is
Idle after a fence meets the return conditions of R101 too (R31). -/
def State.acceptsOrder (s : State) (o : Order) : Bool :=
  let unit := s.orderCells o.dest o.cell
  (unit.all fun c => s.allows o.dest c &&
    match s.cells[c].st with
    | .active => s.cells[c].inMask != some o.dest && s.cells[c].fence.isEmpty
    | .parked => s.cells[c].inMask != some o.dest && s.cells[c].fence.isEmpty
    | .idle => if s.cells[c].barred then s.mayReturn c else s.cells[c].fence.isEmpty
    | .fenced => s.mayReturn c
    | _ => false) &&
  (unit.all fun c => match s.donorOf c with
    | some d => s.groupClear d && s.donorKeeps d unit
    | none => true) &&
  s.groupClear o.dest && s.safeLine.isEmpty && decide (s.fab.migs.length < s.fab.maxmig)

/-- The selector position that joins a cell to a group's port (R76). -/
def selFor (c : Cell) (g : Group) : Bool :=
  if c.isL then g.val != 4 + (c.val - 16) / 8 else g.val % 2 == 1

/-- The step of R90 that a cell of an accepted order starts after: an Active cell has step 1 done, a Parked one steps 1 and 2, and
an Idle or Fenced one step 3 too where its selector is open or already closed onto the receiving port. -/
def State.stepOf (s : State) (g : Group) (c : Cell) : Nat :=
  let x := s.cells[c]
  match x.st with
  | .active => 1
  | .parked => 2
  | _ => if x.selOpen || x.sel == selFor c g then 3 else 2

/-- The step that an accepted order starts after: a pair goes through the steps that either of its cells needs. -/
def State.firstStep (s : State) (o : Order) : Nat := (s.orderCells o.dest o.cell).foldl (fun n c => min n (s.stepOf o.dest c)) 3

/-- A cell of an accepted order: Migrating from its donor, its group the receiver; else Starting, a member as it was (R86, R90, R108). -/
def State.joinOrder (g : Group) (s : State) (q : Part) : State :=
  let x := s.cells[q.cell]
  s.setCell q.cell { x with st := if q.donor.isSome then .migrating else .starting
                            grp := if q.donor.isSome then some g else x.grp
                            fence := [], barred := false, dropped := false, since := s.now, startRetry := false, retryAt := none }

/-- MIGRATION_LATCH: an order that Thresher has published is accepted, and the migration is at its first step; or it is refused and recorded in
FAB_MLOG (R89, R90). -/
def execMigrationLatch (o : Order) (s : State) : Ans :=
  if s.thr.orders.contains o = false then .next s
  else
  let s := { s with thr := { s.thr with orders := s.thr.orders.filter (· != o) } }
  if s.acceptsOrder o then
    let m : Migr := { cell := o.cell, donor := s.donorOf o.cell, dest := o.dest,
                      parts := (s.orderCells o.dest o.cell).map fun c => ⟨c, s.donorOf c, s.cells[c].st, false⟩,
                      step := s.firstStep o, t0 := s.thr.ordersAt, stepAt := s.now, openAt := none }
    let t := forEach m.parts (State.joinOrder o.dest) s
    .next { t with fab := { t.fab with migs := t.fab.migs ++ [m] } }
  else
    .next { s with fab := { s.fab with mlog := { cell := o.cell.val, donor := ((s.donorOf o.cell).map (·.val)).getD 7,
                                                 dest := o.dest.val, result := 3, dur := sat 4095 (s.since s.thr.ordersAt) } } }

/-- What the completion of a step of R90 does to a cell. A selector that is already closed onto the receiving port stays closed. -/
def State.stepCell (g : Group) (step : Nat) (s : State) (q : Part) : State :=
  let c := q.cell
  let x := s.cells[c]
  match step with
  | 2 => s.setCell c { x with cur := 0 }
  | 3 => s.setCell c { x with inMask := if q.donor.isSome then none else x.inMask, cur := 0
                              selOpen := x.selOpen || q.donor.isSome || x.sel != selFor c g }
  | 6 => s.setCell c { x with inMask := some g, grp := some g, sel := selFor c g, selOpen := false }
  | 7 => s.setCell c { x with st := .active, since := s.now, startRetry := false, starts := sat 65535 (x.starts + 1),
                              migs := sat 65535 (x.migs + 1) }
  | _ => s

/-- MIGRATION_STEP_DONE: the next step of R90 completes. Step 5 completes through the start checks; step 6 waits until
the selector has been fully open for 20 us (R76); step 7 ends the migration. -/
def execMigrationStepDone (c : Cell) (s : State) : Ans :=
  match s.migrOf c with
  | none => .next s
  | some m =>
    let step := m.step + 1
    let waits : Bool := step == 5 || (step == 6 && (match m.openAt with
      | some t => decide (s.now < t + 20)
      | none => false))
    if waits then .next s
    else
      let t := forEach m.parts (State.stepCell m.dest step) s
      let t := t.stepMigr m step
      let t := if step = 4 ∧ (m.cells.any fun k => s.cells[k].selOpen) = true then
          { t with fab := { t.fab with migs := t.fab.migs.map fun k =>
            if k.cell = m.cell then { k with openAt := some s.now } else k } } else t
      .next (if step = 7 then (t.endMigr m 0).settle else t)

/-- The bound of each step of R90, microseconds. -/
def stepBound : Nat → Nat
  | 1 => 3 | 2 => 500 | 3 => 5 | 4 => 50 | 5 => 400 | 6 => 50 | 7 => 490 | _ => 0

/-- A cell of a migration that is aborted because a step exceeds its bound: a donor member back to Active, any other cell in the state
that it started from (R92). -/
def State.returnPart (s : State) (q : Part) : State :=
  if q.donor.isSome then s.giveBack q
  else s.setCell q.cell { s.cells[q.cell] with st := q.start, barred := q.start == .fenced, startRetry := false, retryAt := none }

/-- MIGRATION_STEP_OVERTIME: FAB source 4; before step 3 the migration is aborted, each cell back to where it started; from step 3 on the
cell goes to Idle (R92). -/
def execMigrationStepOvertime (c : Cell) (s : State) : Ans :=
  match s.migrOf c with
  | none => .next s
  | some m =>
    if m.stepAt + stepBound (m.step + 1) < s.now then
      let t := if m.step < 3 then forEach m.parts State.returnPart s else s.idleParts m
      .next ((t.endMigr m 1).occur bFAB 4 m.cell.val).settle
    else .next s

/-! ### Phase shedding (R93-R97) -/

/-- SHED_ORDER: an Active cell, or a TPR pair, that Thresher has ordered out sheds, where the group keeps its minimum phase count and no line holds
it (R32, R93, R94). -/
def execShedOrder (c : Cell) (s : State) : Ans :=
  match s.cells[c].inMask with
  | none => .next s
  | some g =>
    let unit := s.orderCells g c
    let rest := (s.members g).filter fun k => s.cells[k].st == .active && !unit.contains k
    if (unit.all fun k => s.cells[k].st == .active) = true ∧ s.groups[g].cfg.minph ≤ rest.length ∧ rest ≠ [] ∧
        s.halt[g.port] = [] ∧ s.safeLine = [] ∧ s.thr.sheds.contains c = true then
      let s := { s with thr := { s.thr with sheds := s.thr.sheds.filter (· != c) } }
      let s := s.setGroup g { s.groups[g] with shedAt := some s.now }
      .next (forEach unit (fun s k => s.setCell k { s.cells[k] with st := .shedding, since := s.now }) s)
    else .next s

/-- SHED_PARKED: a Shedding cell whose share is below 0.3 A is Parked and its hold time starts (R86, R94). -/
def execShedParked (c : Cell) (share : Int) (s : State) : Ans :=
  if s.cells[c].st = .shedding ∧ share.natAbs < 30 then
    .next (s.setCell c { s.cells[c] with st := .parked, since := s.now, cur := 0 })
  else .next s

/-- PARK_HOLD_EXPIRY: at the end of the hold time the cell is Idle and leaves the group, its selector at its port (R86,
R94). -/
def execParkHoldExpiry (c : Cell) (s : State) : Ans :=
  match s.cells[c].inMask with
  | none => .next s
  | some g =>
    if s.cells[c].st = .parked ∧ s.cells[c].since + 1000 * s.groups[g].cfg.hold ≤ s.now then
      let s := s.setGroup g { s.groups[g] with leftCell := some c }
      .next (s.setCell c { s.cells[c] with st := .idle, grp := none, inMask := none, since := s.now })
    else .next s

/-- Every Shedding and Parked cell of a group switches again (R95). -/
def State.abortShed (s : State) (g : Group) : State :=
  forEach (s.members g) (fun s c =>
    if s.cells[c].st = .shedding ∨ s.cells[c].st = .parked then s.setCell c { s.cells[c] with st := .active } else s) s

/-- The mode of an FSW group by its ratio of battery to culm voltage, with the hysteresis of R81. -/
def fswMode (old v c : Nat) : Nat :=
  if 100 * v ≤ 90 * c then 0
  else if 110 * c ≤ 100 * v then 2
  else if old = 0 ∧ 100 * v ≤ 92 * c then 0
  else if old = 2 ∧ 108 * c ≤ 100 * v then 2
  else 1

/-- The members of a group start: their port has requalified (R86). Selectors of members stay at their port. A member that has been
fenced waits for an order (R31), and a Parked one for R94 or R95. -/
def State.startMembers (s : State) (g : Group) : State :=
  forEach (s.members g) (fun s c =>
    let x := s.cells[c]
    if x.st = .idle ∧ x.barred = false ∧ (s.migrOf c).isNone = true then
      s.setCell c { x with st := .starting, since := s.now, startRetry := false, retryAt := none, dropped := false, sel := selFor c g,
                           selOpen := false }
    else s) s

end Sys2Proof.Machine
end

