-- ==== Sys2Proof/Machine/Load.lean ====
section
/-!
DEFINITION. The culm's own events, the load branches, the energy governor, active discharge and the stubble supply
(R111-R148). Currents are in 10 mA and voltages in mV.
-/

namespace Sys2Proof.Machine

/-! ### Branches (R119-R124) -/

/-- The fields of LOAD_BCTL and LOAD_BLIM of a branch (R146). -/
def State.branchEn (s : State) (b : Branch) : Bool := (s.reg (loadBctlAt b)).bit 0
def State.branchPrio (s : State) (b : Branch) : Nat := (s.reg (loadBctlAt b)).bits 5 4
def State.branchRegen (s : State) (b : Branch) : Bool := (s.reg (loadBctlAt b)).bit 8
def State.branchTrip (s : State) (b : Branch) : Nat := (s.reg (loadBlimAt b)).bits 12 0

/-- The class constant K of R119, in (10 mA)² ns. -/
def State.branchK (s : State) (b : Branch) : Nat :=
  let t := match (s.reg (loadBlimAt b)).bits 17 16 with
    | 0 => 500000000
    | 1 => 2000000000
    | 2 => 8000000000
    | _ => 30000000000
  t * s.branchTrip b * s.branchTrip b

/-- The effective instant level of a branch, A (R119): the lower of the image's and the governor's. -/
def State.branchEff (s : State) (b : Branch) : Nat := min s.branches[b].inst s.gov[b.side.loadPort].ilim

/-- A branch enters Precharge. -/
def State.startPrecharge (s : State) (b : Branch) : State :=
  s.setBranch b { s.branches[b] with st := .precharge, since := s.now, await := false, byHalt := false }

/-- Whether a branch's voltage lies more than 1 V above the culm: an external source (R68). -/
def State.fedFromOutside (s : State) (b : Branch) : Bool := decide (s.culm.vmeas + 1000 < s.branches[b].vout)

/-- A branch about to close goes to Precharge; it refuses, with cause 7, where its voltage is more than 1 V above the culm (R68,
R120). -/
def State.tryPrecharge (s : State) (b : Branch) : State :=
  if s.fedFromOutside b then s.setBranch b { s.branches[b] with cause := 7 } else s.startPrecharge b

/-- An Open branch with en 1 (R120): refused where its voltage is more than 1 V above the culm, whatever the culm's mode, else
Precharge while the culm is Regulating. One opened by a halt line or by R116 waits for its own return. -/
def State.closeBranch (s : State) (b : Branch) : State :=
  let x := s.branches[b]
  if x.st = .opened ∧ s.branchEn b = true ∧ x.byHalt = false ∧ x.await = false ∧ s.halt[b.side.loadPort] = [] ∧ s.safeLine = [] ∧
      (s.culm.mode = .regulating ∨ s.fedFromOutside b = true) then s.tryPrecharge b
  else s

/-- Whether a tripped branch has a retry left (R120, R147): its source retryable and not masked, and none of its retries begun in the
last 60 s, which is the window of R444. -/
def State.retryLeft (s : State) (b : Branch) (src : Src) : Bool := s.willRetry bLOAD src b.val

/-- A branch trips by its own protection (R119, R120, R147): it opens; it waits for its retry, or under Degrade for the end of the
grace time, or is Locked; then its source occurs, and the severity adds its reaction. -/
def State.tripBranch (s : State) (b : Branch) (cause : Nat) (src : Src) : State :=
  let retry := s.retryLeft b src && s.branches[b].retrying.isNone
  let degrade := decide (actSev bLOAD src (s.sevRaw bLOAD src) = 2)
  let t := s.setBranch b { s.branches[b] with
    st := if retry then .tripped else .locked, cause := cause, since := s.now, trip := src, cur := 0, retrying := none,
    retryDue := if retry && !degrade then some s.now else none, unlocking := false, degraded := false }
  if retry && degrade then t.occurHard bLOAD src b.val false else t.occur bLOAD src b.val

/-- Whether a branch can trip: Closed, or shed in the present iteration (R124). -/
def BranchRec.tripable (x : BranchRec) (now : Nat) : Bool := x.st == .closed || (x.st == .shed && x.since == now)

/-- The overload integral of a branch at the present moment (R119): the last measured current counts until the next one. -/
def State.branchS (s : State) (b : Branch) : Nat :=
  let x := s.branches[b]
  let ns := 1000 * (s.now - x.sAt)
  x.s + x.cur.natAbs * x.cur.natAbs * ns - s.branchTrip b * s.branchTrip b * ns

/-- Whether the overload integral of a branch can have reached K (R119): with the last measured current, or, where no current has been
measured since, with any below the instant level, since the branch protects itself without the pipeline (assumption 89). -/
def State.overloaded (s : State) (b : Branch) : Bool :=
  let x := s.branches[b]
  let ns := 1000 * (s.now - x.sAt)
  let most := 100 * s.branchEff b
  decide (s.branchK b ≤ s.branchS b) || decide (s.branchK b ≤ x.s + most * most * ns - s.branchTrip b * s.branchTrip b * ns)

/-- The let-through of a fault that the governor or a branch detected (R131): CULM source 3 where it exceeds the
ceiling. -/
def State.letThrough (s : State) (p : Port) (lt : Nat) : State :=
  let s := s.setGov p { s.gov[p] with lt := sat 65535 lt, count := sat 65535 (s.gov[p].count + 1) }
  if (s.reg (culmPceilAt p)).bits 13 0 < lt then s.occur bCULM 3 p.val else s

/-- BRANCH_INSTANT_TRIP: the current reaches the effective instant level (R119, R126, R128). -/
def execBranchInstantTrip (b : Branch) (i : Nat) (lt : Nat) (s : State) : Ans :=
  if (s.branches[b].tripable s.now = true ∨ s.branches[b].st = .precharge) ∧ 100 * s.branchEff b ≤ i then
    .next ((s.tripBranch b 1 0).letThrough b.side.loadPort lt)
  else .next s

/-- BRANCH_OVERLOAD_TRIP: the overload integral reaches K (R119). -/
def execBranchOverloadTrip (b : Branch) (s : State) : Ans :=
  if s.branches[b].tripable s.now = true ∧ s.overloaded b = true then .next (s.tripBranch b 2 1) else .next s

/-- BRANCH_BACKFEED_TRIP: reverse current above 5 A for 100 us with regen 0, or above I_t with regen 1 (R120). -/
def execBranchBackfeedTrip (b : Branch) (rev heldUs : Nat) (s : State) : Ans :=
  if s.branches[b].tripable s.now = true ∧
      (if s.branchRegen b then s.branchTrip b < rev else 500 < rev ∧ 100 ≤ heldUs) then
    .next (s.tripBranch b 3 2)
  else .next s

/-- BRANCH_PRECHARGE_DONE: a precharging branch within 1 V of the culm closes; a retry so ended is transient (R120). -/
def execBranchPrechargeDone (b : Branch) (v : Nat) (s : State) : Ans :=
  let x := s.branches[b]
  if x.st = .precharge ∧ v ≤ s.culm.vmeas + 1000 ∧ s.culm.vmeas ≤ v + 1000 then
    let t := s.setBranch b { x with st := .closed, since := s.now, vout := sat 65535 v, s := 0, sAt := s.now, retrying := none }
    .next (match x.retrying with
      | some q => t.retryOutcome bLOAD q b.val true
      | none => t)
  else .next s

/-- BRANCH_PRECHARGE_FAILED: below 10 % of the culm after 1 ms, or not within 1 V after 50 ms (R120): LOAD source 3. -/
def execBranchPrechargeFailed (b : Branch) (v elapsedUs : Nat) (s : State) : Ans :=
  if s.branches[b].st = .precharge ∧
      ((1000 ≤ elapsedUs ∧ 10 * v < s.culm.vmeas) ∨
       (50000 ≤ elapsedUs ∧ ¬(v ≤ s.culm.vmeas + 1000 ∧ s.culm.vmeas ≤ v + 1000))) then
    .next (s.tripBranch b 4 3)
  else .next s

/-- BRANCH_RETRY: 1 s after its trip, once the culm is Regulating, a tripped branch precharges again; where another
source's line holds its port, or en is 0, the retry is cancelled and it stays Open (R120, R443); it refuses an external source
(R68). -/
def execBranchRetry (b : Branch) (s : State) : Ans :=
  let x := s.branches[b]
  match x.retryDue with
  | none => .next s
  | some t =>
    if x.st = .tripped ∧ t + 1000000 ≤ s.now then
      if s.otherLine bLOAD x.trip b.val = true ∨ s.branchEn b = false then .next ((s.cancelRetry bLOAD x.trip b.val).openBranch b)
      else if s.fedFromOutside b then .next (s.setBranch b { x with cause := 7 })
      else if s.culm.mode = .regulating then
        .next ((s.setBranch b { x with st := .precharge, since := s.now, retryDue := none, retryAt := some s.now,
                                       retrying := some x.trip }).beginRetry bLOAD x.trip b.val)
      else .next s
    else .next s

/-- Whether a branch waits for the restore order: Shed, or opened by R116 (R116, R123). -/
def State.waits (s : State) (b : Branch) : Bool :=
  s.branches[b].st == .shed || (s.branches[b].st == .opened && s.branches[b].await && s.branchEn b)

/-- Whether a branch comes before every other that waits: highest priority first, lowest index first (R123). -/
def State.firstToReturn (s : State) (b : Branch) : Bool :=
  allBranches.all fun k => k == b || !s.waits k || decide (s.branchPrio k < s.branchPrio b) ||
    (s.branchPrio k == s.branchPrio b && decide (b < k))

/-- BRANCH_RESTORE: one branch per 100 ms, when the culm has been within 0.5 V of the setpoint and the spare capacity
above 110 % of its last current for 1 s; never in Stubble (R123). -/
def execBranchRestore (b : Branch) (s : State) : Ans :=
  let near := match s.culm.near with
    | some t => decide (t + 1000000 ≤ s.now)
    | none => false
  let spare := match s.branches[b].spareSince with
    | some t => decide (t + 1000000 ≤ s.now)
    | none => false
  let apart := match s.culm.restoredAt with
    | some t => decide (t + 100000 ≤ s.now)
    | none => true
  if s.waits b && s.firstToReturn b && near && spare && apart && s.dom.st != .stubble &&
      s.halt[b.side.loadPort].isEmpty && s.safeLine.isEmpty then
    let t := s.tryPrecharge b
    .next (if s.fedFromOutside b then t else { t with culm := { t.culm with restoredAt := some s.now } })
  else .next s

/-- The first branch of a list shed, with a report of a LOAD source on an object (R122, R137). -/
def State.shedFirst (s : State) (bs : List Branch) (src : Src) (obj : Branch → Nat) : State :=
  match s.shedOrder bs with
  | b :: _ => (s.shedBranch b).occur bLOAD src (obj b)
  | [] => s

/-- PORT_SUM_OVERLOAD: above 240 A for 10 ms, the lowest-priority Closed branch of the port is shed, source 4, and the next no sooner
than 10 ms later (R122). -/
def execPortSumOverload (q : Side) (sum heldUs : Nat) (s : State) : Ans :=
  if 24000 < sum ∧ 10000 ≤ heldUs ∧ (s.loads[q].shedAt.all fun t => decide (t + 10000 ≤ s.now)) = true then
    let t := { s with loads := vset s.loads q { s.loads[q] with shedAt := some s.now } }
    .next (t.shedFirst (allBranches.filter fun b => b.side == q) 4 fun _ => q.val)
  else .next s

/-- Whether a branch is commanded Open (R147): in no state but Precharge and Closed is its switch on. -/
def BranchState.isOpen : BranchState → Bool
  | .precharge => false
  | .closed => false
  | _ => true

/-- BRANCH_SWITCH_FAILED: the output of a branch commanded Open within 1 V of the culm for 1 ms, LOAD source 6 (R147). -/
def execBranchSwitchFailed (b : Branch) (v heldUs : Nat) (s : State) : Ans :=
  if s.branches[b].st.isOpen = true ∧ v ≤ s.culm.vmeas + 1000 ∧ s.culm.vmeas ≤ v + 1000 ∧ 1000 ≤ heldUs then
    .next (s.occur bLOAD 6 b.val true)
  else .next s

/-! ### Writes of LOAD_BCTL (R120, R124, R140) -/

/-- The status bit of a Locked branch: that of the source of its last trip (R120). -/
def State.lockBit (s : State) (b : Branch) : Bool := s.flt[bLOAD].fst.getLsbD s.branches[b].trip.val

/-- A branch opened by en 0: a retry that waits is cancelled (R120). -/
def State.releaseBranch (s : State) (b : Branch) : State :=
  let x := s.branches[b]
  let t := (if x.retryDue.isSome then s.cancelRetry bLOAD x.trip b.val else s).openBranch b
  t.setBranch b { t.branches[b] with await := false, byHalt := false }

/-- What en does to a branch (R120, R124): 0 opens any but a Locked one and one that tripped in this iteration; a Locked one leaves
once its status bit is clear, en has been written 0 and then 1; 1 closes an Open one while the culm is Regulating. -/
def State.switchBranch (s : State) (b : Branch) : State :=
  let x := s.branches[b]
  let en := s.branchEn b
  if x.st = .locked then
    if s.lockBit b then s.setBranch b { x with unlocking := false }
    else if en = false then s.setBranch b { x with unlocking := true }
    else if x.unlocking then
      ((s.openBranch b).setBranch b { (s.openBranch b).branches[b] with unlocking := false, degraded := false }).closeBranch b
    else s
  else if en then s.closeBranch b
  else if x.st = .tripped ∧ x.since = s.now then s
  else s.releaseBranch b

/-- The effect of a write of LOAD_BCTL: the value stands, the branch record keeps it, and the branch follows (R120, R488). -/
def State.writeBctl (s : State) (b : Branch) (v : Word) : State :=
  let t := s.setReg (loadBctlAt b) v
  ({ t with ret := { t.ret with bctl := vset t.ret.bctl b (t.reg (loadBctlAt b)) } }.switchBranch b)

/-! ### The culm (R111-R118) -/

/-- Whether a Live Discharge flow may give current: above its cut-off, its profile and the BMS allow it (R114, R118, R194, R241,
R242). -/
def State.mayDischarge (s : State) (f : FlowCtx) : Bool :=
  !f.cut && (f.d.port.bind Port.bat?).any fun p => !(s.chg[p].wc.any (·.nodis)) && s.disLimit p != some 0

/-- Whether a source, borrow or discharge flow can supply the culm (R114). -/
def State.canSupply (s : State) : Bool :=
  allCtx.any fun c => s.ctx[c].st == .live &&
    (s.ctx[c].d.kind == 1 || (s.ctx[c].d.kind == 3 && s.mayDischarge s.ctx[c]) || s.ctx[c].d.kind == 6) &&
    match s.ctx[c].d.port.bind Port.group? with
    | some g => (s.members g).any fun k => s.cells[k].st != .fenced && s.cells[k].st != .off
    | none => false

/-- The culm Off: no flow can supply it, so every branch opens (R114). -/
def State.culmOff (s : State) : State :=
  { s.openAll with culm := { s.culm with mode := .off, within2 := none, near := none, shedLevels := 0 } }

/-- CULM_PRECHARGE_DONE: within 2 % of the setpoint for 10 ms the precharge ends, the culm is Regulating and enabled
branches close; with no flow able to supply it, the culm is Off (R114, R120). -/
def execCulmPrechargeDone (v heldUs : Nat) (s : State) : Ans :=
  if s.culm.mode = .precharge then
    if s.canSupply = false then .next s.culmOff
    else if 50 * v ≤ 51 * s.culm.vset ∧ 49 * s.culm.vset ≤ 50 * v ∧ 10000 ≤ heldUs then
      let t := { s with culm := { s.culm with mode := .regulating, vmeas := sat 65535 v, within2 := some (s.now - heldUs),
                                              shedLevels := 0 } }
      .next (forEach allBranches State.closeBranch t)
    else .next s
  else .next s

/-- SHORTFALL_SHED: below V_msv for 1 ms, then for each further 5 ms, the next priority level is shed, up to level 2;
each shed is LOAD source 7 (R115). -/
def execShortfallShed (v heldUs : Nat) (s : State) : Ans :=
  if (s.culm.mode = .regulating ∨ s.culm.mode = .shortfall) ∧ v < s.culm.msv ∧ s.culm.shedLevels < 3 ∧
      1000 + 5000 * s.culm.shedLevels ≤ heldUs then
    let k := s.culm.shedLevels
    let t := { s with culm := { s.culm with mode := .shortfall, vmeas := sat 65535 v, shedLevels := k + 1 } }
    .next (forEach allBranches (fun s b =>
      if s.branches[b].st = .closed ∧ s.branchPrio b = k then (s.shedBranch b).occur bLOAD 7 b.val else s) t)
  else .next s

/-- CULM_UNDER_VOLTAGE: below V_uv for 2 ms every branch that is Closed or in Precharge opens, and CULM source 1 occurs, its cause present
while the culm stays so; the branches wait for the restore order (R116). -/
def execCulmUnderVoltage (v heldUs : Nat) (s : State) : Ans :=
  if s.culm.mode ≠ .off ∧ s.culm.mode ≠ .stubble ∧ s.culm.mode ≠ .precharge ∧ v < s.culm.uv ∧ 2000 ≤ heldUs then
    let t := forEach allBranches (fun s b =>
      if s.branches[b].st = .closed ∨ s.branches[b].st = .precharge then
        let t := s.openBranch b
        t.setBranch b { t.branches[b] with await := true }
      else s) s
    .next ({ t with culm := { t.culm with mode := .underVoltage, vmeas := sat 65535 v, within2 := none, near := none } }.occur
      bCULM 1 0 true)
  else .next s

/-- CULM_SURPLUS_OPEN: at 61.0 V for 100 us every branch that carries reverse current opens with cause backfeed; at
62.0 V CULM source 0 occurs (R117). -/
def execCulmSurplusOpen (v heldUs : Nat) (s : State) : Ans :=
  if 61000 ≤ v ∧ 100 ≤ heldUs then
    let t := forEach allBranches (fun s b =>
      if s.branches[b].st = .closed ∧ 0 < s.branches[b].cur then s.tripBranch b 3 2 else s)
      { s with culm := { s.culm with vmeas := sat 65535 v } }
    .next (if 62000 ≤ v then t.occur bCULM 0 0 else t)
  else .next s

/-! ### The governor (R125-R132) -/

/-- The stored energy of a port, nJ (R125): capacitances behind the switch, the inductive energy (mJ) of its cells, and
for battery ports what its cells can carry from the culm in 3 us. -/
def State.stored (s : State) (p : Port) (vStage vCulm eInd : Nat) : Nat :=
  let culm := 75 * vCulm * vCulm / 100
  if p.val < 4 then vStage * vStage / 100 + 1000000 * eInd
  else if h : p.val < 7 then
    let n := ((s.members ⟨p.val, h⟩).filter fun c => s.cells[c].st.counts).length
    3 * vStage * vStage / 100 + 1000000 * eInd + min culm (4500000 * n)
  else culm + 1000000 * eInd

/-- The number of Closed branches of a load port. -/
def State.closedOf (s : State) (p : Port) : Nat :=
  (allBranches.filter fun b => b.side.loadPort == p && s.branches[b].st == .closed).length

/-- The terminal energy of a port, nJ (R125, R127). -/
def State.terminal (s : State) (p : Port) (vStage vCulm : Nat) : Nat :=
  if p.val < 4 then 235 * vStage * vStage / 1000000
  else if p.val < 7 then 5 * vStage * vStage / 1000
  else 2350 * vCulm * vCulm * s.closedOf p / 1000000

/-- The governor's current limits, A (R127). -/
def iSat (p : Port) : Nat := if p.val < 4 then 150 else if p.val < 7 then 1200 else 400
def iFloor (p : Port) : Nat := if p.val < 4 then 40 else if p.val < 7 then 250 else 75

/-- I_lim of a port, A (R127, R139): in Stubble the energy behind L1 and L2 counts as unbounded. -/
def State.govLimit (s : State) (p : Port) (vStage vCulm eInd : Nat) : Nat :=
  let ceil := 1000000 * (s.reg (culmPceilAt p)).bits 13 0
  let e := s.terminal p vStage vCulm
  let unbounded := 7 ≤ p.val ∧ s.dom.st = .stubble
  let n := if p.val < 7 then 1 else max 1 (s.closedOf p)
  let v := if p.val < 7 then vStage else vCulm
  if s.stored p vStage vCulm eInd + e ≤ ceil ∧ ¬ unbounded then iSat p
  else max (iFloor p) (min (iSat p) (if v = 0 then iSat p else (ceil - e) / (3 * n * v)))

/-- GOVERNOR_UPDATE: stored energy and I_lim of every port (R125, R127); the governor runs in D3. -/
def execGovernorUpdate (vStage : Vector Nat 7) (vCulm : Nat) (eInd : Vector Nat 9) (s : State) : Ans :=
  if s.domOn 3 then
    .next { s with gov := Vector.ofFn fun p : Port =>
      let v := if h : p.val < 7 then vStage[p.val] else vCulm
      let unbounded := 7 ≤ p.val ∧ s.dom.st = .stubble
      { s.gov[p] with est := if unbounded then 65535 else sat 65535 (s.stored p v vCulm eInd[p] / 1000000)
                      ilim := s.govLimit p v vCulm eInd[p], vst := v, vstAt := s.now } }
  else .next s

/-- GOVERNOR_TRIP on P1-P4 or B1-B3: the current at I_lim, or a voltage fall of more than 20 % while current flows
outward; the switches open, the governor drives the halt line, and CULM source 2 occurs; a let-through above the ceiling
is CULM source 3 (R128, R131). -/
def execGovernorTrip (p : Port) (i fallPct : Nat) (outward : Bool) (lt : Nat) (s : State) : Ans :=
  if p.val < 7 ∧ (100 * s.gov[p].ilim ≤ i ∨ (20 < fallPct ∧ outward = true)) then
    let t := (s.setGov p { s.gov[p] with tripAt := some s.now }).assertHalt p { blk := bCULM, src := 2, obj := p.val, reaction := false }
    .next ((t.occur bCULM 2 p.val).letThrough p lt)
  else .next s

/-- The effect of a write to CULM_PCEIL (R130): at the next iteration (R140) a lower ceiling is taken, at least 250 mJ; a higher one is refused and
counted. -/
def State.writeCeiling (s : State) (p : Port) (v : Word) : State :=
  let old := (s.reg (culmPceilAt p)).bits 13 0
  let new := max 250 (v.bits 13 0)
  if old < new then { s with culm := { s.culm with ceilrej := sat 255 (s.culm.ceilrej + 1) } }
  else s.putReg (culmPceilAt p) (BitVec.ofNat 32 new)

/-- CULM_PCEIL_WRITE: carried to the next iteration (R23, R140). -/
def execCulmPceilWrite (r : Req) (p : Port) (v : Word) (s : State) : Ans :=
  .next (s.viaService r (culmPceilAt p) fun s => s.carry (culmPceilAt p) v)

/-! ### Active discharge (R65, R133, R134) -/

/-- The end of a drain that was the retry of CULM source 4 and met its bound: transient (R134, R443). -/
def State.drainMet (s : State) (p : Port) (x : StageRec) : State :=
  if x.again && !x.stuck then s.retryOutcome bCULM 4 p.val true else s

/-- PORT_DISCHARGE_END: 200 ms after a stop the terminal element ends; a terminal still above the bound is held by an external
voltage (R133). -/
def execPortDischargeEnd (p : Port) (v : Nat) (s : State) : Ans :=
  match s.stage? p with
  | some x =>
    if (x.drainAt.any fun t => decide (t + 200000 ≤ s.now)) = true then
      .next ((s.setStage p { x with drainAt := none, again := false, ext := decide (s.drainBound p ≤ v) }).drainMet p x)
    else .next s
  | none => .next s

/-- DISCHARGE_BOUND_MISSED: a stage above its bound at the end of its time is CULM source 4; the drain is repeated once, and a stage that
misses it again keeps its port from a restart until it lies below the bound (R134, R143). -/
def execDischargeBoundMissed (p : Port) (v : Nat) (s : State) : Ans :=
  match s.stage? p with
  | some x =>
    if s.drainBound p ≤ v ∧ (x.drainAt.any fun t => decide (t + s.drainTime p ≤ s.now)) = true ∧ x.stuck = false then
      let again := s.willRetry bCULM 4 p.val
      let y := if again then x.drain s.now true else { x with stuck := true }
      let t := s.setStage p y
      .next ((t.setGov p { t.gov[p] with vst := v, vstAt := s.now }).occur bCULM 4 p.val)
    else .next s
  | none => .next s

/-- DISCHARGE_ELEMENT_HOLD_END: 60 s without an event release the hold (R134). -/
def execDischargeElementHoldEnd (p : Port) (s : State) : Ans :=
  match s.stage? p with
  | some x => if (x.events.all fun e => decide (e + 60000000 ≤ s.now)) = true then .next (s.setStage p { x with events := [], hold := false }) else .next s
  | none => .next s

/-! ### The stubble supply (R136-R138) -/

/-- The switched element of R135: while D9 is off and no stubble supply runs it drains the culm, which stands below 12 V, at a free
value, from 2 s on (assumption 87). -/
def State.drainCulm (s : State) : State :=
  if s.domOn 9 || s.culm.supOn then { s with culm := { s.culm with drain := none } }
  else match s.culm.drain with
    | none => { s with culm := { s.culm with drain := some s.now } }
    | some t =>
      if t + 2000000 ≤ s.now ∧ 12000 ≤ s.culm.vmeas then { s with culm := { s.culm with vmeas := s.free % 12000 } }.drew else s

/-- STUBBLE_OVERLOAD_SHED: above 250 A the lowest-priority Closed branch is shed, the next every 10 ms; LOAD source 7
(R137). -/
def execStubbleOverloadShed (i : Nat) (s : State) : Ans :=
  let due := match s.culm.supOver with
    | some t => decide (t + 10000 ≤ s.now)
    | none => true
  if s.culm.supOn = true ∧ 25000 < i ∧ due = true then
    let t := s.shedFirst allBranches 7 (·.val)
    .next { t with culm := { t.culm with supOver := some s.now, supCur := i } }
  else .next s

/-- STUBBLE_SUPPLY_TRIP: at 400 A or at reverse current the supply stops, every branch opens, CULM source 5 (R137). -/
def execStubbleSupplyTrip (i : Int) (s : State) : Ans :=
  if s.culm.supOn = true ∧ (40000 ≤ i ∨ i < 0) then .next (s.stopSupply.occur bCULM 5 0) else .next s

/-- STUBBLE_WINDOW_LOST: the designated port outside 40-60 V by the hysteresis of 0.5 V for 1 ms; the supply stops and
every branch opens (R138). -/
def execStubbleWindowLost (v heldUs : Nat) (s : State) : Ans :=
  if s.culm.supOn = true ∧ (v < 39500 ∨ 60500 < v) ∧ 1000 ≤ heldUs then .next s.stopSupply else .next s

end Sys2Proof.Machine
end

