-- ==== Sys2Proof/Machine/Source.lean ====
section
/-!
DEFINITION. The source ports: presence, qualification, supply, tracking, loss and hand-over (R149-R186). Voltages of the
records are in 100 mV, currents in 10 mA and frequencies in 0.01 Hz; presence is judged in mV rms.
-/

namespace Sys2Proof.Machine

/-! ### Fields of the port registers (R184) -/

def State.srcEn (s : State) (p : SPort) : Bool := (s.reg (srcPcfgAt p)).bit 0
def State.srcPrio (s : State) (p : SPort) : Nat := (s.reg (srcPcfgAt p)).bits 6 4
/-- The qualification time, microseconds, eightfold while flap is set (R156, R158). -/
def State.srcTq (s : State) (p : SPort) : Nat :=
  10000 * (s.reg (srcQtAt p)).bits 15 0 * (if s.src[p].flap then 8 else 1)
/-- The hold time, microseconds. -/
def State.srcHold (s : State) (p : SPort) : Nat := 1000000 * (s.reg (srcQtAt p)).bits 23 16
def State.srcFlapn (s : State) (p : SPort) : Nat := (s.reg (srcQtAt p)).bits 27 24
def State.srcIlim (s : State) (p : SPort) : Nat := (s.reg (srcPlimAt p)).bits 11 0
def State.srcPlim (s : State) (p : SPort) : Nat := (s.reg (srcPlimAt p)).bits 31 16
/-- The idle power p_min, W. -/
def State.srcPmin (s : State) (p : SPort) : Nat := 10 * (s.reg (srcMpptAt p)).bits 31 24
/-- The programmed step, 0.01 % of the port voltage, and the sweep interval, microseconds; 0 is off. -/
def State.srcStep (s : State) (p : SPort) : Nat := 5 * (s.reg (srcMpptAt p)).bits 15 8
def State.srcSweep (s : State) (p : SPort) : Nat := 60000000 * (s.reg (srcMpptAt p)).bits 23 16

/-- Whether no fault reaction line holds a port (R32). -/
def State.portFree (s : State) (p : Port) : Bool := s.halt[p].isEmpty && s.safeLine.isEmpty

/-- The Live flow that draws on a source port: a Source flow, or a Borrow flow through it. -/
def State.srcFlow (s : State) (p : SPort) : Option Ctx :=
  allCtx.find? fun c => s.ctx[c].st == .live && (s.ctx[c].d.kind == 1 || s.ctx[c].d.kind == 6) &&
    s.ctx[c].d.port == some p.port

/-! ### Presence (R153) -/

/-- The wake level and the level of presence lost, mV rms. -/
def wakeLevel (r : Role) : Nat := if r = .ac then 70000 else 50000
def loseLevel (r : Role) : Nat := if r = .ac then 60000 else 45000

/-- A port enters Qualifying with the settings in force (R152, R155). -/
def State.startQualify (s : State) (p : SPort) : State :=
  s.setSrc p { s.src[p] with
    st := .qualifying, since := s.now, qv := s.reg (srcQvAt p), qf := s.reg (srcQfAt p), qprot := s.reg (srcProtAt p),
    arcPassed := false, arcFailed := false, isoTry := false, isoFailed := false, idle := false }

/-- SRC_PRESENCE_MET: the wake level for 100 ms takes an Absent port to Qualifying; after a hand-over presence is judged afresh
from its completion (R180). -/
def execSrcPresenceMet (p : SPort) (mv heldMs : Nat) (s : State) : Ans :=
  if s.src[p].st = .absent ∧ wakeLevel s.src[p].role ≤ mv ∧ 100 ≤ heldMs ∧ s.src[p].judgeAt + 100000 ≤ s.now then
    let t := s.startQualify p
    .next (t.setSrc p { t.src[p] with v := sat 65535 (mv / 100) })
  else .next s

/-- SRC_PRESENCE_LOST: below the lower level for 100 ms a Qualifying or Ready port is Absent, cause 10. -/
def execSrcPresenceLost (p : SPort) (mv heldMs : Nat) (s : State) : Ans :=
  if (s.src[p].st = .qualifying ∨ s.src[p].st = .ready) ∧ mv < loseLevel s.src[p].role ∧ 100 ≤ heldMs then
    .next (s.setSrc p { s.src[p] with st := .absent, cause := 10, since := s.now, v := sat 65535 (mv / 100),
                                      idle := false }).settle
  else .next s

/-! ### Qualification (R155-R159) -/

/-- The first check of R155 that an observation fails, the stability check apart: the fault source and the cause of
SRC_PSTAT. Waveform comes before polarity and range, which mean nothing on the wrong waveform. -/
def SrcRec.failedCheck (x : SrcRec) (o : QualObs) : Option (Src × Nat) :=
  let vmin := x.qv.bits 15 0
  let vmax := x.qv.bits 31 16
  let riso := x.qprot.bits 7 0
  if x.role = .ac then
    if o.acWave = false then some (1, 12)
    else if o.vRms < vmin ∨ vmax < o.vRms then some (1, 2)
    else if o.freq < x.qf.bits 12 0 ∨ x.qf.bits 28 16 < o.freq then some (1, 3)
    else none
  else if o.cross = true ∨ 10 ≤ o.acPct then some (1, 12)
  else if o.vMean ≤ 0 then some (0, 1)
  else if o.vMean < vmin ∨ (vmax : Int) < o.vMean then some (1, 2)
  else if x.cls ≤ 1 ∧ riso ≠ 0 ∧ o.riso < riso then some (2, 5)
  else none

/-- SRC_PSTAT.riso after the checks: the insulation check reports it, where it applies and is not disabled (R155, R159). -/
def SrcRec.risoAfter (x : SrcRec) (o : QualObs) : Nat :=
  if x.role = .dc ∧ x.cls ≤ 1 ∧ x.qprot.bits 7 0 ≠ 0 then sat 65535 o.riso else x.riso

/-- SRC_QUALIFICATION_FAIL: the port is Held and the check's source occurs; failures of sources 0 and 1 are counted
(R152). A requalification after source 7 or a governor trip has failed with it (R143, R185). -/
def execSrcQualificationFail (p : SPort) (o : QualObs) (s : State) : Ans :=
  match s.src[p].st, s.src[p].failedCheck o with
  | .qualifying, some (src, cause) =>
    let x := s.src[p]
    let t := s.setSrc p { x with
      st := .held, cause := cause, since := s.now, riso := x.risoAfter o,
      isoTry := src == 2 && s.flt[bSRC].frty.getLsbD 2, isoFailed := false
      qfails := if src = 2 then x.qfails else sat 65535 (x.qfails + 1) }
    .next (((t.occur bSRC src p.val).retryOutcome bSRC 7 p.val false).retryOutcome bCULM 2 p.val false)
  | _, _ => .next s

/-- SRC_STABILITY_RESTART: the mean or rms varies by more than 5 % (`dv`, 0.01 %) or the frequency by more than 0.5 Hz
(`df`, 0.01 Hz) over the last 1 s; the timer restarts, cause 4 (R155, R156). -/
def execSrcStabilityRestart (p : SPort) (dv df : Nat) (s : State) : Ans :=
  if s.src[p].st = .qualifying ∧ (500 < dv ∨ (s.src[p].role = .ac ∧ 50 < df)) then
    .next (s.setSrc p { s.src[p] with since := s.now, cause := 4 })
  else .next s

/-- SRC_QUALIFIED: every check held for the qualification time; nominal values and the loss threshold are latched, the
port is Ready, and its flows return to Live (R154, R157). -/
def execSrcQualified (p : SPort) (o : QualObs) (s : State) : Ans :=
  let x := s.src[p]
  let arcDone := x.cls != 0 || !x.arcen || x.role == .ac || x.arcPassed
  if x.st = .qualifying ∧ x.failedCheck o = none ∧ arcDone = true ∧ x.since + s.srcTq p ≤ s.now ∧
      s.portFree p.port = true then
    let v := if x.role = .ac then o.vRms else o.vMean.toNat
    let t := s.setSrc p { x with
      st := .ready, reacted := false, since := s.now, v := v, nomV := v, nomF := o.freq, lossV := x.qv.bits 15 0,
      riso := x.risoAfter o, freq := if x.role = .ac then o.freq else x.freq, vocAt := s.now,
      voc := if x.cls = 0 ∧ x.role = .dc then v else x.voc }
    .next ((t.retryOutcome bSRC 7 p.val true).retryOutcome bCULM 2 p.val true).settle
  else .next s

/-- ARC_SELF_TEST: the synthetic signature must be detected within 200 ms; a failure is source 4, repeated at once, and a
second failure locks the port, as the first does where the image leaves source 4 without its retry (R152, R155, R173, R185;
assumption 70). -/
def execArcSelfTest (p : SPort) (detected : Bool) (ms : Nat) (s : State) : Ans :=
  let x := s.src[p]
  if x.st = .qualifying ∧ x.cls = 0 ∧ x.arcen = true ∧ x.arcPassed = false then
    if detected = true ∧ ms ≤ 200 then
      .next ((s.setSrc p { x with arcPassed := true }).retryOutcome bSRC 4 p.val true)
    else if x.arcFailed = false ∧ s.willRetry bSRC 4 p.val = true then
      .next ((s.setSrc p { x with arcFailed := true }).occur bSRC 4 p.val)
    else
      .next ((s.setSrc p { x with st := .locked, cause := 6, since := s.now }).occur bSRC 4 p.val)
  else .next s

/-- SRC_HOLD_TIME_END: where source 2 held the port the insulation is measured again, whatever the mask; a failure, or a retry that has
ended as lasting before, locks the port, else it qualifies or is Absent by presence (R152, R159, R185). -/
def execSrcHoldTimeEnd (p : SPort) (present : Bool) (riso : Nat) (s : State) : Ans :=
  let x := s.src[p]
  if x.st = .held ∧ x.since + s.srcHold p ≤ s.now then
    let again := x.isoTry && !x.isoFailed
    let bad := x.isoFailed || (again && decide (riso < x.qprot.bits 7 0))
    let t := if again then (s.setSrc p { x with riso := sat 65535 riso }).retryOutcome bSRC 2 p.val (!bad) else s
    if bad then .next (t.setSrc p { t.src[p] with st := .locked, cause := 5, since := s.now })
    else if t.src[p].st ≠ .held then .next t
    else if present then .next (t.startQualify p)
    else .next (t.setSrc p { t.src[p] with st := .absent, since := s.now })
  else .next s

/-- FLAP_CLEAR: 10 min without a loss clear the flag (R158). -/
def execFlapClear (p : SPort) (s : State) : Ans :=
  if s.src[p].flap = true ∧ s.src[p].lossAt.all (fun t => decide (t + 600000000 ≤ s.now)) = true then
    .next (s.setSrc p { s.src[p] with flap := false, lossAt := [] })
  else .next s

/-! ### Supplying (R152, R160, R165, R170) -/

/-- The reference that the tracker starts from, mV (R166): 0.8 of the nominal voltage for a Draw flow; the manual names none
for an MPPT flow, so that a free value within the window stands there. -/
def State.startRef (s : State) (p : SPort) : Nat :=
  let x := s.src[p]
  match s.srcFlow p with
  | some c =>
    if s.ctx[c].d.policy = 1 then 100 * max x.lossV (min s.free ((s.reg (srcQvAt p)).bits 31 16)) else 80 * x.nomV
  | none => 0

/-- The conditions of R152 for Ready to Supplying; a class 0 port stopped by R170 waits for R170's restart, and no port starts while
its stage is charged or its discharge element holds it (R134). -/
def State.maySupply (s : State) (p : SPort) (avail : Nat) : Bool :=
  s.src[p].st == .ready && s.srcEn p && s.portFree p.port && s.inRun && !s.stageBars p.port &&
    (match s.srcFlow p with
     | some c => decide (0 < s.ctx[c].grant)
     | none => false) &&
    (s.src[p].cls != 0 || s.src[p].role == .ac || decide (s.srcPmin p < avail))

/-- A port begins to supply (R152): the cells of its group start, the switches close and the draw rises from zero; a class 0
port takes its reference (R166). -/
def State.supply (s : State) (p : SPort) (avail : Nat) : State :=
  let x := s.src[p]
  let ref := s.startRef p
  let s := s.setSrc p { x with
    st := .supplying, since := s.now, cur := 0, pwr := 0, lim := 8, stopping := false, idle := false,
    mppt := if x.cls = 0 ∧ x.role = .dc then
        { x.mppt with vref := ref, heldRef := ref, up := true, step := s.srcStep p, same := 0, lastPower := 0, avail := avail,
                      movedAt := s.now, sweep := none, deferAt := none }
      else x.mppt }
  (s.drew.startMembers p.group).settle

/-- SRC_START_SUPPLY. -/
def execSrcStartSupply (p : SPort) (avail : Nat) (s : State) : Ans :=
  if s.maySupply p avail = true ∧ s.src[p].idle = false then .next (s.supply p avail) else .next s

/-- A Supplying port returned to Ready (R65, R152): its cells stop, the Parked ones at the end of their hold time, its switches open and
its stage is drained. -/
def State.toReady (s : State) (p : SPort) : State :=
  let s := s.restGroup p.group
  (s.setSrc p { s.src[p] with
    st := .ready, since := s.now, cur := 0, pwr := 0, lim := 0, stopping := false, vocAt := s.now, stage := s.src[p].stage.stop s.now,
    mppt := { s.src[p].mppt with sweep := none, deferAt := none } }).settle

/-- Whether an ordered stop is due (R152, R165): no Live flow, a grant of zero for a whole round, or en 0. -/
def State.stopDue (s : State) (p : SPort) : Bool :=
  !s.srcEn p || (match s.srcFlow p with
    | none => true
    | some c => match s.ctx[c].zeroAt with
      | some t => decide (t + s.roundUs ≤ s.now)
      | none => false)

/-- SRC_ORDERED_STOP: the draw ramps down at the flow's ramp rate, and once it is zero the port is Ready. -/
def execSrcOrderedStop (p : SPort) (s : State) : Ans :=
  let x := s.src[p]
  if x.st = .supplying ∧ (x.stopping = true ∨ s.stopDue p = true) then
    if x.cur = 0 then .next (s.toReady p) else .next (s.setSrc p { x with stopping := true })
  else .next s

/-- SRC_PV_IDLE: available power below p_min for 60 s stops a class 0 port: what it still draws ramps down, and it is Ready
(R152, R170). -/
def execSrcPvIdle (p : SPort) (avail heldS : Nat) (s : State) : Ans :=
  if s.src[p].st = .supplying ∧ s.src[p].cls = 0 ∧ s.src[p].role = .dc ∧ avail < s.srcPmin p ∧ 60 ≤ heldS then
    let t := if s.src[p].cur = 0 then s.toReady p else s.setSrc p { s.src[p] with stopping := true }
    .next (t.setSrc p { t.src[p] with idle := true })
  else .next s

/-- SRC_PV_VOC_MEASURE: every 60 s in Ready the open-circuit voltage is measured; an estimate at 0.8 of it above twice
p_min starts the port again (R170). -/
def execSrcPvVocMeasure (p : SPort) (voc est : Nat) (s : State) : Ans :=
  let x := s.src[p]
  if x.st = .ready ∧ x.cls = 0 ∧ x.role = .dc ∧ x.vocAt + 60000000 ≤ s.now then
    let t := s.setSrc p { x with voc := sat 65535 voc, vocAt := s.now, idle := x.idle && decide (est ≤ 2 * s.srcPmin p) }
    .next (if x.idle = true ∧ 2 * s.srcPmin p < est ∧ t.maySupply p est = true then t.supply p est else t)
  else .next s

/-! ### Loss and hand-over (R175-R181) -/

/-- A loss criterion of R175. -/
def SrcRec.lossMet (x : SrcRec) (o : LossObs) : Bool :=
  (decide (200 ≤ o.iCmd) && decide (2 * o.iTerm < o.iCmd) && decide (1000 ≤ o.heldNs)) ||
  (decide (o.iTerm < -100) && decide (1000 ≤ o.heldNs)) ||
  (if x.role = .ac then
     decide (10 * o.vHalf < 9 * x.qv.bits 15 0) || decide (11 * x.qv.bits 31 16 < 10 * o.vHalf) ||
     decide (25 < o.lateP) || decide (o.freq < x.qf.bits 12 0) || decide (x.qf.bits 28 16 < o.freq)
   else decide (o.vStage < x.lossV))

/-- A sweep in progress aborted (R169): the reference returns to the best point found so far. -/
def SrcRec.abortSweep (x : SrcRec) : SrcRec :=
  match x.mppt.sweep with
  | some w => { x with mppt := { x.mppt with sweep := none, vref := w.best, heldRef := w.best } }
  | none => x

/-- A loss counted, with the flap flag (R158, R184). -/
def State.countLoss (s : State) (p : SPort) : State :=
  let x := s.src[p]
  let l := (x.lossAt.filter fun t => decide (s.now < t + 600000000)) ++ [s.now]
  s.setSrc p { x with
    losses := sat 65535 (x.losses + 1), lossAt := l,
    flap := x.flap || (s.srcFlapn p != 0 && decide (s.srcFlapn p ≤ l.length)) }

/-- SRC_LOSS: the port is Lost, its group's cells stop, its flows are Suspended, sweeps abort and the hand-over begins
(R152, R169, R175, R176); a group in migration acts as at a halt line (R181). -/
def execSrcLoss (p : SPort) (o : LossObs) (s : State) : Ans :=
  let x := s.src[p]
  if x.st = .supplying ∧ x.lossMet o = true then
    let t := { s with src := s.src.map SrcRec.abortSweep }.stopGroup p.group
    let t := (t.setSrc p { t.src[p] with
      st := .lost, cause := 7, since := s.now, cur := 0, pwr := 0, lim := 0, stopping := false,
      stage := t.src[p].stage.stop s.now, hov := some (s.now, .absent) }).countLoss p
    .next (t.occur bSRC 5 p.val).settle
  else .next s

/-- Whether an arc finds the port supplying (R152, R181): it is, or it was until a loss or a halt line of this iteration. -/
def SrcRec.arcMeets (x : SrcRec) (now : Nat) : Bool :=
  x.st == .supplying || ((x.st == .lost || x.st == .halted) && x.hov.map (·.1) == some now)

/-- ARC_DETECTED on a class 0 port with detection enabled: the port is Locked, its halt line asserted and the culm handed
over (R152, R173, R181); SRC source 3. -/
def execArcDetected (p : SPort) (metric : Nat) (s : State) : Ans :=
  let x := s.src[p]
  if x.arcMeets s.now = true ∧ x.cls = 0 ∧ x.arcen = true then
    let t := s.stopGroup p.group
    let t := t.setSrc p { t.src[p].abortSweep with
      st := .locked, cause := 8, since := s.now, cur := 0, pwr := 0, lim := 0, stopping := false,
      hov := some (s.now, .locked), arcs := sat 65535 (x.arcs + 1), metric := sat 255 metric,
      stage := if x.st = .supplying then x.stage.stop s.now else x.stage }
    .next (t.occur bSRC 3 p.val).settle
  else .next s

/-- SRC_OVERCURRENT: above 110 % of ilim, or 35.2 A, for 100 us the port stops with a hand-over and cause 11, its halt
line held for 1 s until it requalifies; SRC source 7 (R179, R185). -/
def execSrcOvercurrent (p : SPort) (i heldUs : Nat) (s : State) : Ans :=
  if s.src[p].st = .supplying ∧ (11 * s.srcIlim p < 10 * i ∨ 3520 < i) ∧ 100 ≤ heldUs then
    let t := s.assertHalt p.port { blk := bSRC, src := 7, obj := p.val, reaction := false }
    let t := t.setSrc p { t.src[p] with cause := 11, ocAt := some s.now }
    .next (t.occur bSRC 7 p.val)
  else .next s

/-- Whether a driver of a port's own protection has ended: 1 s after source 7 or a governor trip (R143, R185). -/
def State.ownEnded (s : State) (p : SPort) (d : Driver) : Bool :=
  !d.reaction &&
    ((d.blk == bSRC && d.src == 7 && (match s.src[p].ocAt with
       | some t => decide (t + 1000000 ≤ s.now)
       | none => true)) ||
     (d.blk == bCULM && d.src == 2 && (match s.gov[p.port].tripAt with
       | some t => decide (t + 1000000 ≤ s.now)
       | none => true)))

/-- The halt line of a port without the own drivers that have ended. -/
def State.dropOwn (s : State) (p : SPort) : State :=
  s.setHalt p.port (s.halt[p.port].filter fun d => !s.ownEnded p d)

/-- SRC_HALT_RELEASED: with the halt line and the Safe line both released a Halted port is Absent (R31, R152). -/
def execSrcHaltReleased (p : SPort) (s : State) : Ans :=
  let t := s.dropOwn p
  if t.src[p].st = .halted ∧ t.portFree p.port = true ∧ t.src[p].hov = none then
    .next (t.setSrc p { t.src[p] with st := .absent, since := s.now, ocAt := none })
  else .next t

/-! ### SRC_PCTL (R168, R174, R181) -/

/-- The SRC source whose FST bit a Locked port's cause matches (R152). -/
def SrcRec.lockSrc (x : SrcRec) : Nat := if x.cause = 8 then 3 else if x.cause = 6 then 4 else 2

/-- rearm: a Locked port whose FST bit has been cleared is Absent (R174, R181). -/
def State.rearmSrc (s : State) (p : SPort) : State :=
  let x := s.src[p]
  if x.st = .locked ∧ s.flt[bSRC].fst.getLsbD x.lockSrc = false ∧ s.portFree p.port = true then
    s.setSrc p { x with st := .absent, since := s.now }
  else s

/-- requal: a Ready port qualifies again; its flows are Suspended meanwhile (R152, R154). -/
def State.requalSrc (s : State) (p : SPort) : State :=
  if s.src[p].st = .ready ∧ s.portFree p.port = true then (s.startQualify p).settle else s

/-- SRC_PCTL of a port (R183). -/
def srcPctlAt (p : SPort) : Nat := 0x080120 + 0x40 * p.val

/-- SRC_REARM, carried to the next iteration (R23, R182). -/
def execSrcRearm (r : Req) (p : SPort) (s : State) : Ans := .next (s.viaService r (srcPctlAt p) fun s => s.carry (srcPctlAt p) 1)

/-- SRC_REQUAL, carried to the next iteration (R23, R182). -/
def execSrcRequal (r : Req) (p : SPort) (s : State) : Ans := .next (s.viaService r (srcPctlAt p) fun s => s.carry (srcPctlAt p) 2)

end Sys2Proof.Machine
end

