-- ==== Sys2Proof/Machine/Flow.lean ====
section
/-!
DEFINITION. The commands on flows and what ends their opening and closing (R187-R220).
-/

namespace Sys2Proof.Machine

/-! ### Checks of a definition (R191-R195, R199, R209) -/

/-- FLOW_CMD (R215). -/
def flowCmdAt : Nat := 0x0E0010

/-- The staged definition (R217). -/
def State.staged (s : State) : FlowDef :=
  ⟨s.reg (flowSdefAt 0), s.reg (flowSdefAt 1), s.reg (flowSdefAt 2), s.reg (flowSdefAt 3)⟩

/-- The contexts that are not Free. -/
def State.usedCtx (s : State) : List Ctx := allCtx.filter fun c => s.ctx[c].st != .free

/-- Whether the limits of R195 leave no room for a flow of this definition (code 6). -/
def State.conflicts (s : State) (d : FlowDef) : Bool :=
  let onPort (k : Nat) : List Ctx := s.usedCtx.filter fun c => s.ctx[c].d.kind == k && s.ctx[c].d.port == d.port
  match d.kind with
  | 1 => !(onPort 1).isEmpty || !(onPort 6).isEmpty
  | 2 => !(onPort 2).isEmpty
  | 3 => !(onPort 3).isEmpty
  | 4 => !(onPort 4).isEmpty
  | 5 => decide (63 ≤ (onPort 5).length) || (onPort 5).any fun c => s.ctx[c].d.remote == d.remote
  | 6 => !(onPort 1).isEmpty || !(onPort 6).isEmpty
  | _ => false

/-- An endpoint code that R191 refuses. -/
def reservedEndpoint (e : Nat) : Bool := e == 8 || e == 9 || 11 ≤ e

/-- The topology of the group of a battery port admits charging (R192). -/
def State.converts (s : State) (p : BPort) : Bool :=
  s.groups[p.group].cfg.topo == .fsw || s.groups[p.group].cfg.topo == .bck || s.groups[p.group].cfg.topo == .bst

/-- Whether a Feeder flow that can carry Lend flows stands on a port (R209). -/
def State.feederUp (s : State) (p : Option Port) : Bool :=
  s.usedCtx.any fun c => s.ctx[c].d.kind == 4 && s.ctx[c].d.port == p && s.ctx[c].st != .closing && s.ctx[c].st != .fenced

/-- Whether endpoints, via port and roles accord with R191 and R192 (else code 7). A reserved kind is judged by its
endpoint codes alone. -/
def State.endpointsOk (s : State) (d : FlowDef) : Bool :=
  let src := d.port.bind Port.src?
  let bat := d.port.bind Port.bat?
  !reservedEndpoint d.from_ && !reservedEndpoint d.dst && decide (d.via ≤ 4) &&
  match d.kind with
  | 1 => d.dst == 0 && d.via == 0 && src.any fun p => s.src[p].role == .dc || s.src[p].role == .ac
  | 2 => d.from_ == 0 && d.via == 0 && bat.any s.converts
  | 3 => d.dst == 0 && d.via == 0 && bat.any s.converts
  | 4 => d.from_ == 0 && d.via == 0 && src.any fun p => s.src[p].role == .feeder
  | 5 => d.from_ == 0 && d.dst == 10 && (src.any fun p => s.src[p].role == .feeder) && s.feederUp d.port
  | 6 => d.from_ == 10 && d.dst == 0 && src.any fun p => s.src[p].role == .dc && s.src[p].cls == 1
  | _ => true

/-- Whether kind, policy and param accord with R192 and R193 (else code 8). -/
def State.policyOk (s : State) (d : FlowDef) : Bool :=
  match d.kind with
  | 1 => d.param == 0 && (d.policy == 0 || (d.policy == 1 && (d.port.bind Port.src?).any fun p => s.src[p].cls == 0 && s.src[p].role == .dc))
  | 2 => d.policy == 2 && d.param == 0
  | 3 => d.policy == 3 && decide (200 ≤ d.param) && decide (d.param ≤ 720)
  | 4 => d.policy == 4 && decide (1200 ≤ d.param) && decide (d.param ≤ 4200)
  | 5 => d.policy == 5 && d.param == 0
  | 6 => d.policy == 6 && d.param == 0
  | _ => false

/-- Whether a profile keeps the margin of R79 on a battery port: 2 V from the image's culm setpoints. -/
def State.marginOk (s : State) (p : BPort) (q : Profile) : Bool :=
  match s.groups[p.group].cfg.topo with
  | .bck => q.phases.all fun e => decide (q.volts e + 2000 ≤ s.cimg.bits 15 0)
  | .bst => q.phases.all fun e => decide (s.cimg.bits 31 16 + 2000 ≤ q.volts e)
  | _ => true

/-- Whether the profile reference is valid (else code 9): a valid profile that keeps the margin for a Charge flow, 0 for
any other (R199, R217). -/
def State.profOk (s : State) (d : FlowDef) : Bool :=
  if d.kind = 2 then
    match s.profile? d.prof, d.port.bind Port.bat? with
    | some q, some p => s.marginOk p q
    | _, _ => false
  else d.prof == 0

/-- Whether the halt line of a flow's port is asserted (code 12, R32). -/
def State.portHalted (s : State) (d : FlowDef) : Bool := d.port.any fun p => !s.halt[p].isEmpty

/-! ### Results (R199, R200) -/

/-- A write of FLOW_CMD (R198, R200, R202): discarded while a command executes and without effect for op 0; else the command executes
from now until the next iteration. -/
def State.carryFlow (s : State) (op : Nat) (h : BitVec 16) : State :=
  if s.flow.busy ∨ op = 0 then s
  else { s with flow := { s.flow with busy := true, done := false } }.carry flowCmdAt (BitVec.ofNat 32 (op + 65536 * h.toNat))

/-- A command's result stands: FLOW_RES, the refusal counts and, for a refusal, FLOW source 2 (R200, R216, R219). -/
def State.flowResult (s : State) (code idx : Nat) (h : BitVec 16) : State :=
  let x := s.flow
  let s := { s with flow := { x with
    result := code, done := true, busy := false, seq := (x.seq + 1) % 256, handle := h,
    stale := if code = 2 then sat 65535 (x.stale + 1) else x.stale,
    other := if code ≠ 0 ∧ code ≠ 2 then sat 65535 (x.other + 1) else x.other } }
  if code = 0 then s else s.occur bFLOW 2 idx

/-- The first refusal code of a list of checks, or 0. -/
def firstCode : List (Bool × Nat) → Nat
  | [] => 0
  | (bad, code) :: l => if bad then code else firstCode l

/-- A handle for a context (R188). -/
def handleOf (gen : Nat) (c : Ctx) : BitVec 16 := BitVec.ofNat 16 (256 * gen + c.val)

/-! ### CREATE -/

/-- Codes 6-9 and 12 on a definition. -/
def State.createCode (s : State) (d : FlowDef) : Nat :=
  firstCode [(s.conflicts d, 6), (!s.endpointsOk d, 7), (!s.policyOk d, 8), (!s.profOk d, 9), (s.portHalted d, 12)]

/-- A flow of a definition put into a Free context (R196): Opening, integrators and timers zero, on the safe profile
while the host-contact timer is expired (R212); a Charge flow's working copy is made (R232). -/
def State.openFlow (s : State) (c : Ctx) (d : FlowDef) : State :=
  let s := s.setCtx c { FlowCtx.freed s.ctx[c].gen with
    st := .opening, d := d, since := s.now, safe := s.host.exp, zeroAt := some s.now }
  let s := match d.port.bind Port.bat? with
    | some p => if d.kind = 2 then s.setChg p { s.chg[p].idle with wc := s.profile? d.prof, safe := s.host.exp } else s
    | none => s
  if s.host.exp then s.occur bFLOW 3 c.val else s

/-- The context that a CREATE takes: the wanted one, or the lowest Free one for 0xFF. -/
def State.wanted (s : State) (idx : Nat) : Option Ctx :=
  if idx = 255 then allCtx.find? fun c => s.ctx[c].st == .free
  else if h : idx < 160 then (if s.ctx[idx].st = .free then some ⟨idx, h⟩ else none) else none

/-- Op 1 on a definition (R198, R199): codes 4, 13, 5, then 6-9 and 12. -/
def State.createWith (s : State) (h : BitVec 16) (d : FlowDef) : State :=
  let idx := h.toNat % 256
  if 160 ≤ idx ∧ idx ≠ 255 then s.flowResult 4 idx h
  else if s.img.image.isNone ∨ s.img.req.isSome = true then s.flowResult 13 idx h
  else match s.wanted idx with
    | none => s.flowResult 5 idx h
    | some c =>
      let code := s.createCode d
      if code = 0 then (s.openFlow c d).flowResult 0 c.val (handleOf s.ctx[c].gen c) else s.flowResult code c.val h

/-- FLOW_CREATE, of the definition staged when it executes. -/
def execFlowCreate (r : Req) (h : BitVec 16) (s : State) : Ans :=
  .next (s.viaService r flowCmdAt fun s => s.carryFlow 1 h)

/-! ### MODIFY, SUSPEND, RESUME, DESTROY -/

/-- Codes 4, 2 and 3 on a handle; else the context (R189, R199). -/
def State.named (s : State) (h : BitVec 16) : Nat ⊕ Ctx :=
  let idx := h.toNat % 256
  let gen := h.toNat / 256
  if hi : idx < 160 then
    if gen = 0 ∨ gen ≠ s.ctx[idx].gen then .inl 2
    else if s.ctx[idx].st = .free then .inl 3
    else .inr ⟨idx, hi⟩
  else .inl 4

/-- Code 10: a hardware event or a fence took the flow in this iteration (R26). -/
def State.lost (s : State) (c : Ctx) : Bool := s.ctx[c].evAt == some s.now

/-- Code 13 of MODIFY, SUSPEND and RESUME: no image is active, or an activation is pending; and of DESTROY, for which an activation
itself waits: no image is active (R199, R413; assumption 24). -/
def State.noChange (s : State) : Bool := s.img.image.isNone || s.img.req.isSome
def State.noImage (s : State) : Bool := s.img.image.isNone

/-- An immutable field of R201 differs, or a Feeder param lies outside R193 (code 8). -/
def badModify (old new : FlowDef) : Bool :=
  old.kind != new.kind || old.from_ != new.from_ || old.dst != new.dst || old.via != new.via ||
  old.remote != new.remote || old.policy != new.policy ||
  (if old.kind = 4 then decide (new.param < 1200) || decide (4200 < new.param) else old.param != new.param)

/-- Whether a new definition names another profile that is invalid (code 9). -/
def State.badNewProf (s : State) (old new : FlowDef) : Bool := old.prof != new.prof && !s.profOk new

/-- Op 2 (R198, R201, R212). -/
def State.modifyFlow (s : State) (h : BitVec 16) (d : FlowDef) : State :=
  match s.named h with
  | .inl code => s.flowResult code (h.toNat % 256) h
  | .inr c =>
    let f := s.ctx[c]
    let code := firstCode [
      (badModify f.d d, 8), (s.badNewProf f.d d, 9), (s.lost c, 10),
      (f.st != .opening && f.st != .live && f.st != .suspended, 11), (s.portHalted f.d, 12), (s.noChange, 13),
      (s.host.exp, 14)]
    if code = 0 then
      let t := s.setCtx c { f with d := d, safe := false, newProf := f.newProf || f.d.prof != d.prof }
      (match d.port.bind Port.bat? with
       | some p => if d.kind = 2 then t.setChg p { t.chg[p] with safe := false } else t
       | none => t).flowResult 0 c.val h
    else s.flowResult code c.val h

/-- FLOW_MODIFY, to the definition staged when it executes. -/
def execFlowModify (r : Req) (h : BitVec 16) (s : State) : Ans :=
  .next (s.viaService r flowCmdAt fun s => s.carryFlow 2 h)

/-- Op 3 (R198): cause bit 0; a Live flow is Suspended, its current ramping to zero. -/
def State.suspendFlow (s : State) (h : BitVec 16) : State :=
  match s.named h with
  | .inl code => s.flowResult code (h.toNat % 256) h
  | .inr c =>
    let f := s.ctx[c]
    let code := firstCode [(s.lost c, 10), (f.st != .opening && f.st != .live, 11), (s.portHalted f.d, 12), (s.noChange, 13)]
    if code = 0 then
      let t := if f.st = .live then
          s.setCtx c { f.suspended s.now (f.scause ||| 1) with cur := f.cur, cmd := f.cmd, evAt := f.evAt }
        else s.setCtx c { f with scause := f.scause ||| 1 }
      t.settle.flowResult 0 c.val h
    else s.flowResult code c.val h

/-- FLOW_SUSPEND. -/
def execFlowSuspend (r : Req) (h : BitVec 16) (s : State) : Ans :=
  .next (s.viaService r flowCmdAt fun s => s.carryFlow 3 h)

/-- Op 4 (R198): cause bit 0 clears; the flow is Live again once no cause is left (R204). -/
def State.resumeFlow (s : State) (h : BitVec 16) : State :=
  match s.named h with
  | .inl code => s.flowResult code (h.toNat % 256) h
  | .inr c =>
    let f := s.ctx[c]
    let code := firstCode [
      (s.lost c, 10), (f.st != .suspended || !f.scause.getLsbD 0, 11), (s.portHalted f.d, 12), (s.noChange, 13)]
    if code = 0 then (s.setCtx c { f with scause := f.scause &&& 0b111110 }).settle.flowResult 0 c.val h
    else s.flowResult code c.val h

/-- FLOW_RESUME. -/
def execFlowResume (r : Req) (h : BitVec 16) (s : State) : Ans :=
  .next (s.viaService r flowCmdAt fun s => s.carryFlow 4 h)

/-- Whether a Lend flow that names a Feeder flow's port is not Free (code 6, R209). -/
def State.lendsOn (s : State) (c : Ctx) : Bool :=
  s.ctx[c].d.kind == 4 && s.usedCtx.any fun k => s.ctx[k].d.kind == 5 && s.ctx[k].d.port == s.ctx[c].d.port

/-- A flow destroyed (R196, R198): Closing, Free at the next iteration from Fenced, unchanged in Closing. -/
def State.closeFlow (s : State) (c : Ctx) : State :=
  let f := s.ctx[c]
  match f.st with
  | .fenced => s.setCtx c { f with leaving := true }
  | .opening => (s.setCtx c { f with st := .closing, closeI := f.cur.natAbs, since := s.now }).settle
  | .live =>
    (s.setCtx c { f with st := .closing, closeI := f.cur.natAbs, liveUs := f.liveUs + (s.now - f.since), since := s.now }).settle
  | .suspended =>
    (s.setCtx c { f with st := .closing, closeI := f.cur.natAbs, suspUs := f.suspUs + (s.now - f.since), since := s.now,
                         scause := 0 }).settle
  | .closing => s
  | .free => s

/-- Whether a DESTROY of a context is accepted: the code of its refusal, or 0. -/
def State.destroyCode (s : State) (c : Ctx) : Nat :=
  firstCode [(s.lendsOn c, 6), (s.lost c, 10), (s.portHalted s.ctx[c].d, 12), (s.noImage, 13)]

/-- Op 5 (R198). -/
def State.destroyFlow (s : State) (h : BitVec 16) : State :=
  match s.named h with
  | .inl code => s.flowResult code (h.toNat % 256) h
  | .inr c =>
    let code := s.destroyCode c
    if code = 0 then (s.closeFlow c).flowResult 0 c.val h else s.flowResult code c.val h

/-- FLOW_DESTROY. -/
def execFlowDestroy (r : Req) (h : BitVec 16) (s : State) : Ans :=
  .next (s.viaService r flowCmdAt fun s => s.carryFlow 5 h)

/-- FLOW_OP_INVALID: ops 6-15 are refused with code 15 and no other check (R199); op 0 has no effect. -/
def execFlowOpInvalid (r : Req) (op : BitVec 4) (h : BitVec 16) (s : State) : Ans :=
  .next (s.viaService r flowCmdAt fun s => if 1 ≤ op.toNat ∧ op.toNat ≤ 5 then s else s.carryFlow op.toNat h)

/-- A command of FLOW_CMD executes (R198). -/
def State.writeFlowCmd (s : State) (v : Word) : State :=
  let h := BitVec.ofNat 16 (v.bits 31 16)
  match v.bits 3 0 with
  | 0 => s
  | 1 => s.createWith h s.staged
  | 2 => s.modifyFlow h s.staged
  | 3 => s.suspendFlow h
  | 4 => s.resumeFlow h
  | 5 => s.destroyFlow h
  | _ => s.flowResult 15 (h.toNat % 256) h

/-! ### The drain of an activation (R413) -/

/-- Whether an activation drains, or waits for contexts to be freed. -/
def State.draining (s : State) : Bool := s.img.req.isSome && (s.img.asta == .draining || s.img.asta == .waiting)

/-- Whether a Lend flow that names a Feeder flow's port is still held. -/
def State.lendHeld (s : State) (c : Ctx) : Bool := s.ctx[c].d.kind == 4 && s.lendsOn c

/-- One context of the drain (R413): destroyed where drain is 1, Feeder flows after their Lend flows; a Fenced context is
destroyed again in either case. -/
def State.drainOne (drain : Bool) (s : State) (c : Ctx) : State :=
  let f := s.ctx[c]
  if f.st = .free ∨ f.st = .closing ∨ f.leaving = true then s
  else if drain = false ∧ f.st ≠ .fenced then s
  else if s.lendHeld c ∨ s.destroyCode c ≠ 0 then s
  else s.closeFlow c

/-- The drain's DESTROY commands at this iteration; it begins once the bridge stands, and rests while the control core restarts (R41). -/
def State.drain (s : State) : State :=
  match s.img.req with
  | some q =>
    if s.draining = true ∧ q.plan = false ∧ s.dom.coreRestart = none then
      let feeders := allCtx.filter fun c => s.ctx[c].d.kind == 4
      let others := allCtx.filter fun c => s.ctx[c].d.kind != 4
      forEach feeders (State.drainOne q.drain) (forEach others (State.drainOne q.drain) s)
    else s
  | none => s

/-! ### Opening and closing (R196, R202, R205) -/

/-- FLOW_OPENING_DONE: an Opening flow is Live, or Suspended with its cause bits. -/
def execFlowOpeningDone (c : Ctx) (s : State) : Ans :=
  let f := s.ctx[c]
  if f.st = .opening then
    let causes := (f.scause &&& 1) ||| s.hwCauses f
    .next (s.setCtx c (if causes = 0 then f.toLive s.now else { f with st := .suspended, scause := causes, since := s.now })).settle
  else .next s

/-- FLOW_CLOSING_DONE: below 0.5 A for one iteration a Closing flow's context is Free (R205). -/
def execFlowClosingDone (c : Ctx) (cur : Int) (s : State) : Ans :=
  if s.ctx[c].st = .closing ∧ cur.natAbs < 50 then .next ((s.freeCtx c).settle).drain else .next s

/-- The closing time of R205, microseconds: |I_d| / ramp + ctmo. -/
def State.closingBound (s : State) (c : Ctx) : Nat :=
  10 * s.ctx[c].closeI / s.ctx[c].d.ramp + 1000 * (s.reg flowCfgAt).bits 7 0

/-- FLOW_CLOSING_TIMEOUT: the flow is Fenced, FLOW source 0 occurs, and it is Free at the next iteration (R205). -/
def execFlowClosingTimeout (c : Ctx) (cur : Int) (s : State) : Ans :=
  if s.ctx[c].st = .closing ∧ 50 ≤ cur.natAbs ∧ s.ctx[c].since + s.closingBound c < s.now then
    .next ((s.fenceFlow c bFLOW 0).settle.occur bFLOW 0 c.val)
  else .next s

/-- Contexts that become Free at the next iteration (R205, R206). -/
def State.freeLeaving (s : State) : State :=
  if s.ctx.toList.any (·.leaving) then
    ((forEach allCtx (fun s c => if s.ctx[c].leaving then s.freeCtx c else s) s).settle).drain
  else s

end Sys2Proof.Machine
end

