-- ==== Sys2Proof/Machine/Sweep.lean ====
section
/-!
DEFINITION. The estimator's channels: when a port may be perturbed, the points of a sweep and their times, and the charge that is
counted (R260-R266, R274, R275). Currents are in 10 mA; charges in 10⁻¹¹ C (10 mA times ns) or 10⁻¹⁴ C (the same, credited in per
mille).
-/

namespace Sys2Proof.Machine

/-! ### The charge that the estimator follows -/

/-- Whether the Charge flow of a port is Live: the phase machine runs only then. -/
def State.chgLive (s : State) (p : BPort) : Bool := (s.chgFlow p).any fun c => s.ctx[c].st == .live

/-- Whether a charge is held with its current ramped to zero: by R237, or by a withheld permit (R242). -/
def State.chgHeld (s : State) (p : BPort) : Bool :=
  s.chg[p].hold || (s.lithium p).any fun l => s.bmsLive l && !s.bms[l.bms].act.cp

/-- Whether the terminal is in voltage regulation: within 0.5 % of the target (R238). -/
def State.inReg (s : State) (p : BPort) : Bool :=
  s.chg[p].vtgt != 0 && decide (200 * (s.bat[p].vterm - s.chg[p].vtgt).natAbs ≤ s.chg[p].vtgt)

/-- Whether the port is in a nickel Bulk with its flow Live. -/
def State.nickelBulk (s : State) (p : BPort) : Bool :=
  s.chgLive p && s.chg[p].phase == 2 && s.chg[p].wc.any fun w => isNickel w.chem

/-- The mean charge current of a port, 10 mA: that of the last wave (assumption 74). -/
def State.chargeCur (s : State) (p : BPort) : Nat := (-s.bat[p].cur).toNat

/-- Whether a port is charging: a phase 1-7 with a current above 0.5 A (R252, R273). -/
def State.charges (s : State) (p : BPort) : Bool :=
  decide (1 ≤ s.chg[p].phase) && decide (s.chg[p].phase ≤ 7) && decide (50 < s.chargeCur p)

/-! ### Fields of the EST registers (R281) -/

def State.estEn (s : State) (p : BPort) : Bool := (s.reg (estPcfgAt p)).bit 0
def State.estAmpPct (s : State) (p : BPort) : Nat := (s.reg (estPcfgAt p)).bits 6 4
def State.estMask (s : State) (p : BPort) : Nat := (s.reg (estPcfgAt p)).bits 22 8
def State.estInterval (s : State) (p : BPort) : Nat := 60000000 * (s.reg (estPcfgAt p)).bits 31 24
def State.estCap (s : State) (p : BPort) : Nat := (s.reg (estPbatAt p)).bits 15 0
def State.estRcell (s : State) (p : BPort) : Nat := (s.reg (estPbatAt p)).bits 31 16
def State.estRref (s : State) (p : BPort) : Nat := (s.reg (estPrefAt p)).bits 15 0
def State.estTref (s : State) (p : BPort) : Int := signedOf 8 ((s.reg (estPrefAt p)).bits 23 16)

/-- The battery temperature in use, 1/16 degC, where it is valid. -/
def State.batT (s : State) (p : BPort) : Option Int := (s.batTemp p).map (·.2)

/-! ### Perturbation (R260-R263) -/

/-- Whether R260 holds on a port. -/
def State.allowsPerturb (s : State) (p : BPort) : Bool :=
  s.estEn p && s.bat[p].st == .present && s.chgLive p && decide (1 ≤ s.chg[p].phase) && decide (s.chg[p].phase ≤ 7) &&
    !s.chgHeld p && (match s.est[p].okSince with
      | some t => decide (t + 1000000 ≤ s.now)
      | none => false)

/-- Whether a channel may perturb: R260 holds, and no source of severity Degrade has stopped it (R282). -/
def State.mayPerturb (s : State) (p : BPort) : Bool := s.allowsPerturb p && s.est[p].stopped == 0

/-- Whether R263 allows a point now: 10 Hz and above in voltage regulation, and not k = 14 in a nickel Bulk. -/
def State.pointAllowed (s : State) (p : BPort) (k : Fin 15) : Bool :=
  (!s.inReg p || decide (k.val ≤ 7)) && !(s.nickelBulk p && k.val == 14)

/-- The points of a list from the first one that R263 allows now: the condition is judged at the start of each point. -/
def State.pointsNow (s : State) (p : BPort) (l : List (Fin 15)) : List (Fin 15) := l.dropWhile fun k => !s.pointAllowed p k

/-- The points of a new sweep (R262, R265): the masked grid, or k = 0-7 while rconv is not set. -/
def State.sweepPoints (s : State) (p : BPort) : List (Fin 15) :=
  (List.finRange 15).filter fun k => (s.estMask p).testBit k.val && (s.est[p].rconv || decide (k.val ≤ 7))

/-- The time of each point, microseconds (R262). -/
def pointUs (k : Fin 15) : Nat :=
  [1000500, 1001000, 1002000, 1005000, 1010000, 1020000, 1050000, 1100000, 1200000, 1500000, 3000000, 6000000, 15000000, 30000000,
    60000000].getD k.val 0

/-- A time rounded up to a multiple of a unit. -/
def upTo (unit n : Nat) : Nat := (n + unit - 1) / unit * unit

/-- In a nickel Bulk points of 1 Hz and above keep to whole seconds, and those below to the 10 s windows (R263). -/
def pointUnit (k : Fin 15) : Nat := if k.val ≤ 10 then 1000000 else 10000000

/-- How long a point lasts, and when it may start: in a nickel Bulk on the clock of the −ΔV samples, which starts with the phase
(assumption 81). -/
def State.pointTime (s : State) (p : BPort) (k : Fin 15) : Nat := if s.nickelBulk p then upTo (pointUnit k) (pointUs k) else pointUs k
def State.pointStart (s : State) (p : BPort) (k : Fin 15) : Nat :=
  if s.nickelBulk p then s.chg[p].since + upTo (pointUnit k) (s.now - s.chg[p].since) else s.now

/-- The next point of a channel aimed at: the first that is allowed now, its start, and the current from which it starts. -/
def State.aimed (s : State) (p : BPort) (x : EstRec) : EstRec :=
  { x with
    todo := s.pointsNow p x.todo, startI := s.chargeCur p, waitAt := none
    ptAt := match s.pointsNow p x.todo with
      | k :: _ => s.pointStart p k
      | [] => s.now }

/-- The peak amplitude of the perturbation, mA: EST_PCFG.amp per cent of the mean at the point's start, or half of that (R261). -/
def State.estAmp (s : State) (p : BPort) : Nat :=
  let a := s.est[p].startI * s.estAmpPct p / 10
  if s.est[p].half then a / 2 else a

/-- Whether the perturbation stands on the charge current now. -/
def State.perturbs (s : State) (p : BPort) : Bool :=
  let x := s.est[p]
  (x.st == .knee && decide (x.kneeAt ≤ s.now)) || (x.st == .sweeping && !x.todo.isEmpty && x.waitAt.isNone && decide (x.ptAt ≤ s.now))

/-- A point discarded under R266: it is counted in ndisc, and repeated once the current has held for a time. -/
def State.discardPoint (s : State) (p : BPort) (us : Nat) : State :=
  if s.est[p].st = .sweeping ∧ s.est[p].todo ≠ [] then
    s.setEst p { s.est[p] with ndisc := sat 255 (s.est[p].ndisc + 1), startI := s.chargeCur p, waitAt := some s.now, waitUs := us }
  else s

/-- The point in progress discarded because its phase no longer allows it (R263, R266): the sweep goes on with those allowed. -/
def State.skipPoint (s : State) (p : BPort) : State :=
  s.setEst p { s.aimed p s.est[p] with ndisc := sat 255 (s.est[p].ndisc + 1), again := false, half := false }

/-- A sweep paused where R260 ceases to hold (R266). -/
def State.pauseSweep (s : State) (p : BPort) : State :=
  if s.est[p].st = .sweeping then s.setEst p { s.est[p] with st := .paused, pausedAt := s.now } else s

/-! ### The knee check on the estimator's side (R266, R269) -/

/-- Whether a knee check can run at its request: a baseline in this Bulk, R260, and a channel that no source has stopped. -/
def State.kneeReady (s : State) (p : BPort) : Bool := s.est[p].base.isSome && s.mayPerturb p

/-- A knee measurement begins, for a knee check or as a baseline, at a moment: the point in progress is cut and discarded. -/
def State.startKnee (s : State) (p : BPort) (at_ : Nat) : State :=
  s.setEst p { s.est[p] with
    st := .knee, kneeAt := at_, startI := s.chargeCur p, half := false, again := false
    ndisc := if s.est[p].st = .sweeping ∧ s.est[p].todo ≠ [] then sat 255 (s.est[p].ndisc + 1) else s.est[p].ndisc }

/-- Whether the knee measurement in progress has lasted its time: its answer comes 18 s to 19.1 s after its start (R264, R268, R269). -/
def State.kneeOver (s : State) (p : BPort) : Bool :=
  s.est[p].st == .knee && decide (s.est[p].kneeAt + 18000000 ≤ s.now) && decide (s.now ≤ s.est[p].kneeAt + 19100000)

/-- A knee measurement is over: the sweep resumes with the cut point. -/
def State.endKnee (s : State) (p : BPort) : State :=
  if s.est[p].st = .knee then
    s.setEst p { s.aimed p s.est[p] with st := if s.est[p].todo = [] then .waiting else .sweeping }
  else s

/-! ### State of charge (R274, R275) -/

/-- The rated charge of a port, 10⁻¹¹ C: 1 Ah is 3600 C. -/
def State.estFull (s : State) (p : BPort) : Nat := 360000000000000 * s.estCap p

/-- The state of charge, 0.01 %; 0xFFFF while none is formed (R274, R281). A new EST_PBAT.cap rescales the charge counted (assumption
75). -/
def State.soc (s : State) (p : BPort) : Nat :=
  if s.est[p].formed = false ∨ s.estCap p = 0 then 0xFFFF else min 10000 (10 * s.est[p].q / s.estFull p)

/-- The uncertainty, 0.1 %: 2 % of the counted charge over cap, and 1 % a day, up to 25.5 % (R275). -/
def State.socUnc (s : State) (p : BPort) : Nat :=
  let x := s.est[p]
  if x.formed = false ∨ s.estCap p = 0 then 255
  else sat 255 (x.unc + 20 * x.uncQ / s.estFull p + 10 * (s.now - x.uncAt) / 86400000000)

/-- The efficiency at which charge is credited, per mille (R274): none in Float, where the state of charge is held. -/
def efficiency (chem phase : Nat) : Nat :=
  if phase = 6 then 0
  else if chem ≤ 1 then (if phase ≤ 2 then 970 else 850)
  else if chem ≤ 4 then (if phase ≤ 2 then 900 else 700)
  else 995

/-- Charge counted over an iteration of `ns` at a port current (R274): charging is negative, and discharge is debited in full. -/
def State.countCharge (s : State) (p : BPort) (cur : Int) (ns : Nat) : State :=
  let x := s.est[p]
  let d := cur.natAbs * ns
  let chem := (s.chg[p].wc.map (·.chem)).getD 0
  let q := if cur < 0 then (if s.chg[p].phase = 15 then x.q else x.q + efficiency chem s.chg[p].phase * d) else x.q - 1000 * d
  s.setEst p { x with q := min q (1000 * s.estFull p), uncQ := x.uncQ + d,
                      count := if 0 < cur then x.count.map (· + d) else x.count }

/-- A state of charge set by a correction (R275), in per mille of cap, with its uncertainty. -/
def State.setSoc (s : State) (p : BPort) (perMille unc src : Nat) : State :=
  s.setEst p { s.est[p] with formed := true, q := perMille * s.estFull p, unc := unc, uncQ := 0, uncAt := s.now, src := src }

/-- The lead formula of R275, per mille, from a cell voltage in 0.1 mV. -/
def leadSoc (chem : Nat) (v : Int) : Nat :=
  let x := if chem = 0 then (v - 19500) * 1000 / 1750 else (v - 19800) * 1000 / 1700
  min 1000 x.toNat

/-- The correction at the first Qualify with no history (R275), from a cell voltage in 0.1 mV. -/
def State.correctFirst (s : State) (p : BPort) (chem : Nat) (vCell01 : Int) : State :=
  if s.est[p].formed = true ∨ s.estCap p = 0 then s
  else if isLead chem then s.setSoc p (leadSoc chem vCell01) 150 1
  else s.setSoc p 500 255 1

/-- A full charge or a cut-off marked for its correction at the next iteration. -/
def State.markDue (s : State) (p : BPort) (ev : Fin 5) : State := s.setEst p { s.est[p] with due := some ev }

end Sys2Proof.Machine
end

