-- ==== Sys2Proof/Machine/Charge.lean ====
section
/-!
DEFINITION. The charge engine's phase machine, its terminations and the ports of the profile table (R228-R259). String
voltages are in mV, cell voltages in 0.1 mV, currents in 10 mA and temperatures in 1/16 degC.
-/

namespace Sys2Proof.Machine

/-! ### Phases (R234, R235, R245, R247) -/

/-- Whether a phase lies in the cycle's charging part, and whether the safety timer runs in it. -/
def charging (phase : Nat) : Bool := 1 ≤ phase && phase ≤ 5
def timed (phase : Nat) : Bool := 1 ≤ phase && phase ≤ 4

/-- The nickel hold-off of a working copy, microseconds (R245). -/
def Profile.holdoffUs (w : Profile) : Nat := (w.nickel.map fun k => 60000000 * k.holdoff).getD 0

/-- A phase entered (R235, R238, R243, R245, R247). The phase timer starts; the safety timer starts at Precondition or
Bulk and stops after the last phase that it covers; a nickel Bulk starts its hold-offs. A hold ends with the temperature, or in Rest (R237). -/
def ChgRec.enter (x : ChgRec) (w : Profile) (now phase cause : Nat) (frest : Bool) : ChgRec :=
  { x with
    phase := phase, cause := cause, frest := frest, hold := x.hold && 1 ≤ phase && phase ≤ 7, wait := 0, wc := some w, since := now, tphase := 0,
    acctAt := now, counts := false, rate := 0, timing := timed phase && w.timer != 0, cand := none, left := none, itgt := 0,
    iprog := match w.phase? phase with
      | some e => 10 * min 2000 e.ilim
      | none => 0
    cycles := if charging x.phase && (phase == 6 || phase == 8) then sat 65535 (x.cycles + 1) else x.cycles
    vpk := if phase = 2 then 0 else x.vpk, ipk := if phase = 2 then 0 else x.ipk, n := 0, dvobs := 0, block := 0,
    dvFrom := if phase = 2 then now + w.holdoffUs else x.dvFrom, dtFrom := if phase = 2 then now + w.holdoffUs else x.dtFrom,
    dvArmed := false, dtArmed := false, eqOk := phase == 7 && x.eqOk }

/-- A phase resumed after the port had left Present (R240): its timers go on; a nickel Bulk resets the peak and waits
5 min for −ΔV alone. -/
def ChgRec.resume (x : ChgRec) (w : Profile) (now phase : Nat) : ChgRec :=
  { x with
    phase := phase, hold := false, wait := 0, wc := some w, since := now, acctAt := now, cand := none, left := none,
    timing := timed phase && w.timer != 0, cause := 1,
    vpk := 0, ipk := 0, n := 0, dvobs := 0, block := 0, dvFrom := now + 300000000, dvArmed := false }

/-- The profile copied afresh at a transition (R232): the old working copy and CHG source 4 where it has become invalid,
read once more before that. The third part says that the chemistry has changed (R249). -/
def State.recopy (s : State) (p : BPort) : State × Option Profile × Bool :=
  match s.chgFlow p with
  | none => (s, none, false)
  | some c =>
    let s1 := s.setCtx c { s.ctx[c] with newProf := false }
    match s.profile? s.ctx[c].d.prof with
    | some w => (s1, some w, (s.chg[p].wc.map (·.chem)) != some w.chem)
    | none => ((s1.occur bCHG 4 p.val).retryOutcome bCHG 4 p.val false, s.chg[p].wc, false)

/-- Whether a transition is a full-charge event of R275: Bulk ended by −ΔV or dT/dt, Absorb or Finish by their exit, a full BMS. -/
def fullCharge (phase cause : Nat) : Bool :=
  phase == 2 && (cause == 3 || cause == 4) || (phase == 3 || phase == 4) && cause == 1 || cause == 8

/-- The estimator's part in a transition: a full charge is marked (R275), Bulk starts without a baseline (R268), and a knee measurement
ends with its phase (R266). -/
def State.estTransit (s : State) (p : BPort) (phase cause : Nat) : State :=
  let s := (if fullCharge phase cause then s.markDue p 2 else s).endKnee p
  if s.chg[p].phase = 2 then s.setEst p { s.est[p] with base := none, mark := none } else s

/-- A transition to the phase that the new working copy gives (R235): a change of chemistry goes to Qualify. -/
def State.transit (s : State) (p : BPort) (to_ : Profile → Nat) (cause : Nat) (frest : Bool := false) : State :=
  match s.recopy p with
  | (t, some w, false) => (t.setChg p ((t.chg[p].acct t.now).enter w t.now (to_ w) cause frest)).estTransit p s.chg[p].phase cause
  | (t, some w, true) => (t.setChg p { t.chg[p].newCycle t.now cause with wc := some w }).estTransit p s.chg[p].phase cause
  | (t, none, _) => t

/-- Qualify entered at the start of a new cycle (R235). -/
def State.requalify (s : State) (p : BPort) (cause : Nat) : State :=
  match s.recopy p with
  | (t, some w, _) => t.setChg p { t.chg[p].newCycle t.now cause with wc := some w }
  | (t, none, _) => t

/-- Float where the profile has it, else Rest. -/
def Profile.floatOrRest (w : Profile) : Nat := if (w.phase? 6).isSome then 6 else 8

/-! ### Qualify (R236, R240) -/

/-- Whether the open-circuit voltage, or for lithium the cell count that the BMS reports, is plausible (R231, R236). -/
def State.plausible (s : State) (w : Profile) (ocv : Int) : Bool :=
  match w.lith with
  | some l => s.bms[l.bms].act.ncell == w.ncell
  | none => decide ((w.ncell * (chemPlausible w.chem).1 : Int) ≤ 10 * ocv) &&
      decide (10 * ocv ≤ (w.ncell * (chemPlausible w.chem).2 : Int))

/-- What holds a flow in Qualify (R236, R252): 1 temperature, 2 NTC, 3 BMS, 0 nothing. -/
def State.qualifyWait (s : State) (p : BPort) (w : Profile) : Nat :=
  let temp := match s.batTemp p with
    | some (lo, hi) => decide (lo < 16 * w.temp.tcmin) || decide (16 * w.temp.tcmax < hi)
    | none => false
  if temp then 1
  else if isNickel w.chem = true ∧ s.ntcValid p = false then 2
  else match w.lith with
    | some l => if s.bmsLive l && s.bms[l.bms].act.cp then 0 else 3
    | none => 0

/-- Qualify passed (R235): to Precondition below its vcell, to the phase that was left (R240), or to Bulk, with the cause of a normal
exit (assumption 80). -/
def State.qualified (s : State) (p : BPort) (w : Profile) (ocv : Int) : State :=
  let low := (w.phase? 1).any fun e => decide (10 * ocv < (w.ncell * e.vcell : Int))
  if low then s.transit p (fun _ => 1) 1
  else match s.chg[p].left with
    | some k => match s.recopy p with
      | (t, some v, false) => (t.setChg p (t.chg[p].resume v t.now k)).estTransit p 0 1
      | (t, some v, true) => t.setChg p { t.chg[p].newCycle t.now 1 with wc := some v }
      | (t, none, _) => t
    | none => s.transit p (fun _ => 2) 1

/-- The checks of R236 on an open-circuit voltage; the first without a history sets the state of charge (R275). -/
def State.qualifyWith (s : State) (p : BPort) (w : Profile) (ocv : Int) : State :=
  let t := s.correctFirst p w.chem (10 * ocv / max 1 w.ncell)
  if s.plausible w ocv = false then (t.transit p (fun _ => 8) 12 true).occur bCHG 1 p.val
  else if s.qualifyWait p w ≠ 0 then t.setChg p { s.chg[p] with wait := s.qualifyWait p w }
  else t.qualified p w ocv

/-- CHG_QUALIFY_CHECK: after 2 s of zero current, once per second (R236). -/
def execChgQualifyCheck (p : BPort) (ocv : Int) (s : State) : Ans :=
  let x := s.chg[p]
  match x.wc with
  | none => .next s
  | some w =>
    if s.chgLive p = true ∧ x.phase = 0 ∧ x.since + 2000000 ≤ s.now then
      .next (s.qualifyWith p w ocv)
    else .next s

/-! ### Transitions (R235, R238, R242, R248) -/

/-- The safe profile of a port while the host-contact timer governs its flow (R212, R248). -/
def State.safeProfile (s : State) (p : BPort) : Option Profile :=
  if s.chg[p].safe then s.img.image.bind fun i => s.profile? i.safe[(1 : Fin 6)].prof[p] else none

/-- A phase that the safe profile does not have is left at once (R248). -/
def State.leavesForSafe (s : State) (p : BPort) : Bool :=
  let x := s.chg[p]
  x.safe && 1 ≤ x.phase && x.phase ≤ 7 &&
    (x.phase == 7 || match s.safeProfile p with
      | some w => (w.phase? x.phase).isNone
      | none => true)

/-- The safe profile's Float, or Rest. -/
def State.safeFloat (s : State) (p : BPort) : Nat :=
  if s.chg[p].phase = 7 then 6
  else match s.safeProfile p with
    | some w => w.floatOrRest
    | none => 8

/-- CHG_PHASE_TRANSITION: the transitions that the state alone decides (R235, R242, R248): the safe profile, the ceiling
of Bulk, a full BMS, and the entry to Equalize and its end by temperature; but for the safe profile's, none while the phase is held
(R237, R242). -/
def execChgPhaseTransition (p : BPort) (s : State) : Ans :=
  let x := s.chg[p]
  match x.wc with
  | none => .next s
  | some w =>
    if s.chgLive p = false then .next s
    else if s.leavesForSafe p then let k := s.safeFloat p; .next (s.transit p (fun _ => k) 13)
    else if s.chgHeld p then .next s
    else match x.phase with
      | 2 =>
        if isNickel w.chem = false ∧ 0 < x.vtgt ∧ (x.vtgt : Int) ≤ s.bat[p].vterm then
          .next (s.transit p (·.next 2) 1)
        else .next s
      | 3 => match w.lith with
        | some l => if s.bmsLive l && s.bms[l.bms].act.full then .next (s.transit p (fun _ => 8) 8) else .next s
        | none => .next s
      | 6 =>
        let cool := match s.batTemp p with
          | some (_, hi) => decide (hi ≤ 16 * w.temp.teqmax)
          | none => false
        if x.eqdue && x.eqOk && !x.safe && cool && (w.phase? 7).isSome then
          .next (s.transit p (fun v => if (v.phase? 7).isSome then 7 else 6) 10)
        else .next s
      | 7 =>
        let cool := match s.batTemp p with
          | some (_, hi) => decide (hi ≤ 16 * w.temp.teqmax)
          | none => false
        if cool then .next s else .next (s.transit p (fun _ => 6) 11)
      | _ => .next s

/-- tmax of the present phase, minutes: the lower of the two where the safe profile governs (R248); 0 is none. -/
def State.phaseMax (s : State) (p : BPort) : Nat :=
  let own := ((s.chg[p].wc.bind (·.phase? s.chg[p].phase)).map (·.tmax)).getD 0
  let safe := (((s.safeProfile p).bind (·.phase? s.chg[p].phase)).map (·.tmax)).getD 0
  if own = 0 then safe else if safe = 0 then own else min own safe

/-- PHASE_TMAX: the phase timer reaches tmax (R235). -/
def execPhaseTmax (p : BPort) (s : State) : Ans :=
  let x := s.chg[p].acct s.now
  match x.wc.bind (·.phase? x.phase) with
  | none => .next s
  | some e =>
    if s.chgLive p = true ∧ s.phaseMax p ≠ 0 ∧ x.phase ≠ 6 ∧ s.chgHeld p = false ∧ 60000000 * s.phaseMax p ≤ x.tphase then
      if x.phase = 7 then
        let t := s.transit p (fun _ => 6) 2
        .next (t.setChg p { t.chg[p] with eqdue := false, eqAt := t.now })
      else if e.ontmax = 0 then let k := x.phase; .next (s.transit p (·.next k) 2)
      else .next ((s.transit p (fun _ => 8) 12 true).occur bCHG 1 p.val)
    else .next (s.setChg p x)

/-- SAFETY_TIMER_EXPIRY: Precondition to Finish end in Float or Rest, CHG source 0, cause 6 (R235, R247). -/
def execSafetyTimerExpiry (p : BPort) (s : State) : Ans :=
  let x := s.chg[p].acct s.now
  match x.wc with
  | none => .next s
  | some w =>
    if s.chgLive p = true ∧ w.timer ≠ 0 ∧ timed x.phase = true ∧ 7200000000 * w.timer ≤ x.tsafe then
      .next ((s.transit p Profile.floatOrRest 6).occur bCHG 0 p.val)
    else .next (s.setChg p x)

/-- PRECONDITION_CEILING_HELD: the ceiling held for 10 s ends Precondition (R234, R235). -/
def execPreconditionCeilingHeld (p : BPort) (mv : Int) (heldS : Nat) (s : State) : Ans :=
  let x := s.chg[p]
  if s.chgLive p = true ∧ s.chgHeld p = false ∧ x.phase = 1 ∧ 0 < x.vtgt ∧ (x.vtgt : Int) ≤ mv ∧ 10 ≤ heldS then .next (s.transit p (·.next 1) 1)
  else .next s

/-- ABSORB_EXIT: the exit current for 60 s in voltage regulation (R234, R238). -/
def execAbsorbExit (p : BPort) (cur heldS : Nat) (s : State) : Ans :=
  let x := s.chg[p]
  match x.wc.bind (·.phase? 3) with
  | none => .next s
  | some e =>
    if s.chgLive p = true ∧ x.phase = 3 ∧ e.iexit ≠ 0 ∧ cur ≤ 25 * e.iexit ∧ 60 ≤ heldS ∧ s.inReg p = true ∧
        s.chgHeld p = false then
      .next (s.transit p (·.next 3) 1)
    else .next s

/-- FINISH_EXIT: a rise below 1 mV per cell in 30 min (R234); `rise01mV` in 0.1 mV. -/
def execFinishExit (p : BPort) (rise01mV heldMin : Nat) (s : State) : Ans :=
  if s.chgLive p = true ∧ s.chgHeld p = false ∧ s.chg[p].phase = 4 ∧ rise01mV < 10 ∧ 30 ≤ heldMin then .next (s.transit p (·.next 4) 1)
  else .next s

/-- FLOAT_REBULK: full current for 60 s more than 1 % below the target; the safety timer restarts (R235, R238). -/
def execFloatRebulk (p : BPort) (mv : Int) (cur heldS : Nat) (s : State) : Ans :=
  let x := s.chg[p]
  if s.chgLive p = true ∧ s.chgHeld p = false ∧ x.phase = 6 ∧ 100 * mv < (99 * x.vtgt : Int) ∧ 0 < x.itgt ∧ x.itgt ≤ cur ∧ 60 ≤ heldS then
    let t := s.transit p (fun _ => 2) 9
    .next (t.setChg p { t.chg[p] with tsafe := 0 })
  else .next s

/-- REST_RESTART_VOLTAGE: the open-circuit voltage below ncell × vrest for 60 s (R235); not from fault rest. -/
def execRestRestartVoltage (p : BPort) (mv : Int) (heldS : Nat) (s : State) : Ans :=
  let x := s.chg[p]
  match x.wc with
  | none => .next s
  | some w =>
    if s.chgLive p = true ∧ x.phase = 8 ∧ x.frest = false ∧ mv < (w.ncell * w.vrest : Int) ∧ 60 ≤ heldS then
      .next ((s.setChg p { x with ah := 0 }).requalify p 15)
    else .next s

/-! ### Equalize and restart (R235, R238) -/

/-- EQUALIZE_DUE: eqdays after the last completed Equalize, where eqauto is 1; where none has been completed, from time 0 (assumption
83). -/
def execEqualizeDue (p : BPort) (s : State) : Ans :=
  let x := s.chg[p]
  match x.wc with
  | none => .next s
  | some w =>
    if (s.reg (chgPcfgAt p)).bit 1 = true ∧ w.eqdays ≠ 0 ∧ x.eqAt + 86400000000 * w.eqdays ≤ s.now then
      .next (s.setChg p { x with eqdue := true })
    else .next s

/-- CHG_PCTL of a port (R251). -/
def chgPctlAt (p : BPort) : Nat := 0x0A0124 + 0x40 * p.val

/-- eq: Equalize is due. -/
def State.markEq (s : State) (p : BPort) : State := s.setChg p { s.chg[p] with eqdue := true }

/-- eqcancel: no longer due; from Equalize to Float. -/
def State.cancelEq (s : State) (p : BPort) : State :=
  let s := s.setChg p { s.chg[p] with eqdue := false, eqOk := false }
  if s.chg[p].phase = 7 ∧ s.chgLive p = true then s.transit p (fun _ => 6) 1 else s

/-- restart: fault rest to Qualify, cause 14 (R235). -/
def State.restartChg (s : State) (p : BPort) : State :=
  if s.chg[p].phase = 8 ∧ s.chg[p].frest = true ∧ s.chgLive p = true then s.requalify p 14 else s

/-- A write of CHG_PCTL: no effect while a line holds the port (R32). -/
def State.writeChgPctl (s : State) (p : BPort) (v : Word) : State :=
  if s.portFree p.port then
    let s := if v.bit 0 then s.markEq p else s
    let s := if v.bit 1 then s.cancelEq p else s
    if v.bit 2 then s.restartChg p else s
  else s

/-- CHG_EQ, carried to the next iteration (R22, R23). -/
def execChgEq (r : Req) (p : BPort) (s : State) : Ans :=
  .next (s.viaService r (chgPctlAt p) fun s => s.carry (chgPctlAt p) 1)

/-- CHG_EQCANCEL, carried to the next iteration. -/
def execChgEqcancel (r : Req) (p : BPort) (s : State) : Ans :=
  .next (s.viaService r (chgPctlAt p) fun s => s.carry (chgPctlAt p) 2)

/-- CHG_RESTART, carried to the next iteration. -/
def execChgRestart (r : Req) (p : BPort) (s : State) : Ans :=
  .next (s.viaService r (chgPctlAt p) fun s => s.carry (chgPctlAt p) 4)

/-! ### Temperature (R237, R244) -/

/-- THERMAL_HOLD: the temperature leaves the charge window: the timers stand still, the current goes to zero and CHG
source 2 occurs; 3 degC inside the window the hold ends (R237). -/
def execThermalHold (p : BPort) (tLow tHigh : Int) (s : State) : Ans :=
  let x := s.chg[p].acct s.now
  match x.wc with
  | none => .next s
  | some w =>
    if x.phase = 0 ∨ 8 ≤ x.phase then .next (s.setChg p { x with tbat := satInt 16 tHigh })
    else if x.hold = false ∧ (tLow < 16 * w.temp.tcmin ∨ 16 * w.temp.tcmax < tHigh) then
      .next ((s.setChg p { x with hold := true, counts := false, rate := 0, itgt := 0, tbat := satInt 16 tHigh }).occur
        bCHG 2 p.val true)
    else if x.hold = true ∧ 16 * (w.temp.tcmin + 3) ≤ tLow ∧ tHigh ≤ 16 * (w.temp.tcmax - 3) then
      .next ((s.setChg p { x with hold := false, tbat := satInt 16 tHigh }).endCause bCHG 2 p.val)
    else .next (s.setChg p { x with tbat := satInt 16 tHigh })

/-- The battery temperature of a charging port has become invalid: a nickel charge ends in Rest, cause 5; CHG source 3
(R237, R244). -/
def State.tempLost (s : State) (p : BPort) : State :=
  match s.chg[p].wc with
  | none => s
  | some w =>
    if s.chgLive p = true ∧ 1 ≤ s.chg[p].phase ∧ s.chg[p].phase ≤ 7 ∧ s.batTemp p = none then
      let t := if isNickel w.chem then s.transit p (fun _ => 8) 5 else s
      t.occur bCHG 3 p.val true
    else s

/-! ### Nickel end of charge (R243-R246) -/

/-- The engine's action on the knee answer: the candidate confirmed, rejected, or left unconfirmed; an answer after 30 s
counts for none, and one that meets a phase that is left or held is discarded (R237, R246, R249). -/
def State.kneeAnswer (s : State) (p : BPort) (a : Knee) : State :=
  let x := s.chg[p]
  match x.cand with
  | none => s
  | some (cause, at_) =>
    let t := s.endKnee p
    if s.nickelBulk p = false ∨ s.bat[p].st ≠ .present ∨ s.chgHeld p = true then t.setChg p { x with cand := none }
    else
      let late := decide (at_ + 30000000 < s.now)
      if a = .confirmed ∧ late = false then t.transit p (·.next 2) cause
      else if a = .notConfirmed ∧ late = false ∧ x.nrej < 3 then
        t.setChg p { x with cand := none, nrej := x.nrej + 1, vpk := x.smp.1, ipk := x.smp.2, dvobs := 0, block := 6, n := 0 }
      else (t.transit p (·.next 2) 7).occur bCHG 5 p.val

/-- A candidate (R246): where the profile asks for a knee check the estimator makes it, or answers Unavailable at once, EST source 3
(R269); else Bulk ends at once. None while the phase is held (R237). -/
def State.candidate (s : State) (p : BPort) (cause : Nat) : State :=
  match s.chg[p].wc.bind (·.nickel) with
  | none => s
  | some k =>
    if s.chgHeld p then s
    else if k.knee then
      if s.chg[p].cand.isSome then s
      else
        let t := s.setChg p { s.chg[p] with cand := some (cause, s.now) }
        if s.kneeReady p then t.startKnee p s.now else (t.kneeAnswer p .unavailable).occur bEST 3 p.val
    else s.transit p (·.next 2) cause

/-- DV_SAMPLE: the mean of a 10 s window, in 0.1 mV per cell, with the charge current (R243). -/
def execDvSample (p : BPort) (vCell01 : Int) (cur : Nat) (s : State) : Ans :=
  let x := { s.chg[p] with smp := (vCell01, cur) }
  match x.wc.bind (·.nickel) with
  | none => .next s
  | some k =>
    if s.nickelBulk p = false then .next s
    else if x.ipk < 10 * (max cur x.ipk - min cur x.ipk) then
      .next (s.setChg p { x with vpk := vCell01, ipk := cur, block := 6, n := 0, dvobs := 0 })
    else
      let y := if x.vpk < vCell01 then { x with vpk := vCell01, ipk := cur, n := 0, dvobs := 0 }
               else { x with dvobs := sat 255 (x.vpk - vCell01).toNat }
      if 0 < y.block then .next (s.setChg p { y with block := y.block - 1 })
      else
        let n := if (k.dv : Int) ≤ y.vpk - vCell01 then y.n + 1 else 0
        let t := s.setChg p { y with n := n }
        .next (if 3 ≤ n ∧ x.dvArmed = true then t.candidate p 3 else t)

/-- DTDT_SAMPLE: temperature and slope (0.01 degC/min); tabs or a lost temperature ends Bulk in Rest with cause 5, else a
slope at or above dtdt for 60 s is a candidate (R244, R249). -/
def execDtdtSample (p : BPort) (t slope : Int) (heldS : Nat) (s : State) : Ans :=
  let u := s.setChg p { s.chg[p] with tbat := satInt 16 t, dtdt := satInt 16 slope }
  match s.chg[p].wc.bind (·.nickel) with
  | none => .next u
  | some k =>
    if s.nickelBulk p = false then .next u
    else if u.batTemp p = none then .next (u.tempLost p)
    else if (16 * k.tabs : Int) ≤ t then .next (u.transit p (fun _ => 8) 5)
    else if (k.dtdt : Int) ≤ slope ∧ 60 ≤ heldS ∧ u.chg[p].dtArmed = true then .next (u.candidate p 4)
    else .next u

/-- NICKEL_HOLDOFF_END: the detections whose hold-off has ended are armed (R245). -/
def execNickelHoldoffEnd (p : BPort) (s : State) : Ans :=
  let x := s.chg[p]
  if s.nickelBulk p then
    .next (s.setChg p { x with dvArmed := x.dvArmed || decide (x.dvFrom ≤ s.now)
                               dtArmed := x.dtArmed || decide (x.dtFrom ≤ s.now) })
  else .next s

/-! ### Over-voltage and the BMS (R241, R242) -/

/-- CHG_OVER_VOLTAGE: above the target by more than 2 % for 10 ms; CHG source 6, whose retry requalifies the port after
1 s; an absence in the same iteration wins (R241, R249). -/
def execChgOverVoltage (p : BPort) (mv : Int) (heldMs : Nat) (s : State) : Ans :=
  let x := s.chg[p]
  if s.chgLive p = true ∧ 0 < x.vtgt ∧ (102 * x.vtgt : Int) < 100 * mv ∧ 10 ≤ heldMs ∧ s.bat[p].st = .present then
    let t := (s.setChg p { x with ovAt := some s.now }).occur bCHG 6 p.val
    .next (if t.retrying bCHG 6 p.val then t.assertHalt p.port { blk := bCHG, src := 6, obj := p.val, reaction := false }
           else t)
  else .next s

/-- BMS_LIVENESS_TIMEOUT: no LIMITS frame within btmo; the Charge flow is Suspended with bit 3, CHG source 7 (R242). -/
def execBmsLivenessTimeout (p : BPort) (s : State) : Ans :=
  if (s.chgFlow p).isSome = true ∧ s.bmsMissing p = true then .next (s.settle.occur bCHG 7 p.val true) else .next s

/-- BMS_VOLTAGE_EXCEEDED: above the BMS charge voltage limit for 100 ms; CHG source 7, and the current held at zero until
the voltage is below the limit (R242). -/
def execBmsVoltageExceeded (p : BPort) (mv : Int) (heldMs : Nat) (s : State) : Ans :=
  match s.lithium p with
  | none => .next s
  | some l =>
    if s.bmsLive l = true ∧ (10 * s.bms[l.bms].act.cvl : Int) < mv ∧ 100 ≤ heldMs then
      .next ((s.setChg p { s.chg[p] with bmsOver := true, itgt := 0 }).occur bCHG 7 p.val)
    else .next s

/-- The Discharge flow of a battery port (R195). -/
def State.disFlow (s : State) (p : BPort) : Option Ctx :=
  allCtx.find? fun c => s.ctx[c].st != .free && s.ctx[c].d.kind == 3 && s.ctx[c].d.port == some p.port

/-- Whether the last discharge limit of a BMS has lapsed: 60 s after it stopped being live (R242). -/
def State.disLapsed (s : State) (l : LithEntry) : Bool :=
  match s.bms[l.bms].act.at_ with
  | some t => decide (t + 1000 * l.btmo + 60000000 ≤ s.now)
  | none => true

/-- BMS_DISCHARGE_LIMIT_EXPIRY: 60 s after the BMS of a lithium port has stopped being live, its Discharge flow is held
Live at zero current (R242). -/
def execBmsDischargeLimitExpiry (p : BPort) (s : State) : Ans :=
  match s.lithium p with
  | none => .next s
  | some l =>
    if s.disLapsed l then
      let t := s.setChg p { s.chg[p] with disHold := true }
      .next (match t.disFlow p with
        | some c => t.setCtx c { t.ctx[c] with cur := 0 }
        | none => t)
    else .next s

/-! ### The profile table (R230, R233) -/

/-- Addresses of the profile table (R259). -/
def profEloAt (n : Nat) : Nat := 0x130000 + 8 * n
def profEhiAt (n : Nat) : Nat := 0x130004 + 8 * n
def profChkAt : Nat := 0x13F004

/-- A PROF_ELO write is held apart from the table. -/
def State.writeElo (s : State) (n : Nat) (v : Word) : State :=
  { s with profIO := { s.profIO with lo := some (n, v) } }

/-- An entry of the table changed as a whole. -/
def State.putEntry (s : State) (n : Nat) (w : BitVec 64) : State := { s with prof := sput (fun _ => 0) s.prof n w }

/-- The table as a read finds it: with the entries that wait for the next iteration (R8). -/
def State.entries (s : State) : State :=
  s.deferred.foldl (fun t d => match d with
    | .entry n w => t.putEntry n w
    | _ => t) s

/-- A PROF_EHI write pairs with an unpaired PROF_ELO write to the same entry, else it is torn; the pair changes the entry at the next
iteration (R23, R250). -/
def State.writeEhi (s : State) (n : Nat) (v : Word) : State :=
  match s.profIO.lo with
  | some (k, w) =>
    if k = n then
      { s with deferred := s.deferred ++ [.entry n (BitVec.ofNat 64 (v.toNat * 2 ^ 32 + w.toNat))],
               profIO := { s.profIO with lo := none } }
    else { s with profIO := { s.profIO with torn := sat 65535 (s.profIO.torn + 1) } }
  | none => { s with profIO := { s.profIO with torn := sat 65535 (s.profIO.torn + 1) } }

/-- A PROF_ELO read latches the entry's high word. -/
def State.readElo (s : State) (n : Nat) : State :=
  { s with profIO := { s.profIO with hi := some (n, BitVec.ofNat 32 ((s.entries.entry n).bits 63 32)) } }

/-- A profile check (R230): its result stands. -/
def State.checkProfile (s : State) (ref : Nat) : State :=
  { s with profIO := { s.profIO with cres := s.profileCheck ref, cdone := true } }

/-- PROF_ELO_WRITE. -/
def execProfEloWrite (r : Req) (n : Fin 6144) (v : Word) (s : State) : Ans :=
  .next (s.viaService r (profEloAt n.val) fun s => s.writeElo n.val v)

/-- PROF_EHI_WRITE. -/
def execProfEhiWrite (r : Req) (n : Fin 6144) (v : Word) (s : State) : Ans :=
  .next (s.viaService r (profEhiAt n.val) fun s => s.writeEhi n.val v)

/-- PROF_ELO_READ. -/
def execProfEloRead (r : Req) (n : Fin 6144) (s : State) : Ans :=
  .next (s.viaService r (profEloAt n.val) fun s => s.readElo n.val)

/-- PROF_CHK_REQUEST, carried to the next iteration (R23, R250). -/
def execProfChkRequest (r : Req) (ref : BitVec 13) (s : State) : Ans :=
  .next (s.viaService r profChkAt fun s => s.carry profChkAt (BitVec.ofNat 32 ref.toNat))

end Sys2Proof.Machine
end

