-- ==== Sys2Proof/Machine/Estimator.lean ====
section
/-!
DEFINITION. The estimator: sweeps, the impedance-knee check, convergence, and the state of charge and of health
(R260-R283). Resistances are in 0.01 milliohm, charges in 10⁻¹¹ C (10 mA times ns) or 10⁻¹⁴ C (the same, credited in
per mille).
-/

namespace Sys2Proof.Machine

/-! ### Sweeps (R261-R266) -/

/-- Whether a sweep is due (R265): acquisition, the interval after the last, or a command. -/
def State.sweepDue (s : State) (p : BPort) : Bool :=
  let x := s.est[p]
  x.ordered || !x.rconv || (s.estInterval p != 0 && x.sweptAt.any fun t => decide (t + s.estInterval p ≤ s.now))

/-- A sweep started, or a paused one resumed at its first unmeasured point (R265, R266). -/
def State.startSweep (s : State) (p : BPort) : State :=
  let x := s.est[p]
  if s.mayPerturb p then
    match x.st with
    | .waiting =>
      if s.sweepDue p then
        s.setEst p (s.aimed p { x with st := .sweeping, todo := s.sweepPoints p, again := false, half := false, ordered := false, fresh := 0 })
      else s
    | .paused => s.setEst p (s.aimed p { x with st := .sweeping, again := false, half := false })
    | .sweeping => s
    | .knee => s
  else s

/-- EST_SWEEP_START. -/
def execEstSweepStart (p : BPort) (s : State) : Ans := .next (s.startSweep p)

/-- The bit of a grid point. -/
def pointBit (k : Fin 15) : BitVec 15 := BitVec.ofNat 15 (2 ^ k.val)

/-- The next point of a sweep after one has ended. -/
def State.nextPoint (s : State) (p : BPort) : State :=
  s.setEst p (s.aimed p { s.est[p] with todo := s.est[p].todo.tail, again := false, half := false })

/-- A point that is not valid (R265), also where an earlier sweep measured it; then the next. -/
def State.badPoint (s : State) (p : BPort) (k : Fin 15) : State :=
  (s.setEst p { s.est[p] with valid := s.est[p].valid &&& ~~~pointBit k }).nextPoint p

/-- A valid point: written to EST_PZ; then the next. -/
def State.goodPoint (s : State) (p : BPort) (k : Fin 15) (re im : Int) : State :=
  let x := s.est[p]
  (s.setEst p { x with
    pz := vset x.pz k (satInt 16 re, satInt 16 im), valid := x.valid ||| pointBit k, fresh := x.fresh ||| pointBit k }).nextPoint p

/-- A point begun again, at half amplitude or not. -/
def State.repeatPoint (s : State) (p : BPort) (again half : Bool) : State :=
  s.setEst p { s.aimed p s.est[p] with todo := s.est[p].todo, again := again, half := half }

/-- Whether the point in progress has lasted its time (R262, R263). -/
def State.pointOver (s : State) (p : BPort) (k : Fin 15) : Bool :=
  s.est[p].waitAt.isNone && decide (s.est[p].ptAt + s.pointTime p k ≤ s.now)

/-- EST_POINT_DONE, once the point `n` in progress has lasted its time: the culm ripple (`culmPk`, mV) is judged first, then the perturbation current
(mA) against its command and the response (`vPeak`, 0.1 mV); a valid point is written (R261-R263, R265, R282). A repeat at half amplitude
that stays above 50 mV makes the point invalid and is source 5 again (assumption 108). -/
def execEstPointDone (p : BPort) (n : Fin 15) (re im : Int) (iPert vPeak culmPk : Nat) (s : State) : Ans :=
  let x := s.est[p]
  let cmd := s.estAmp p
  match x.st, x.todo with
  | .sweeping, k :: _ =>
    if n ≠ k ∨ s.pointOver p k = false then .next s
    else if 50 < culmPk then
      if x.half = false ∧ s.willRetry bEST 5 p.val = true then .next ((s.repeatPoint p x.again true).occur bEST 5 p.val)
      else .next ((s.badPoint p k).occur bEST 5 p.val)
    else if 2 * iPert < cmd ∨ 3 * cmd < 2 * iPert then
      if x.again = false ∧ s.willRetry bEST 0 p.val = true then .next ((s.repeatPoint p true x.half).occur bEST 0 p.val)
      else .next ((s.badPoint p k).occur bEST 0 p.val)
    else
      let t := (s.retryOutcome bEST 0 p.val true).retryOutcome bEST 5 p.val true
      .next (if vPeak < 5 then t.badPoint p k else t.goodPoint p k re im)
  | _, _ => .next s

/-! ### Results of a sweep (R267, R270-R272, R276) -/

/-- The point of k = 0-3 whose imaginary part is smallest in magnitude, among the valid ones of the sweep: the lowest k of those with
the same magnitude (assumption 97). -/
def EstRec.best (x : EstRec) : Option (Fin 15) :=
  ((List.finRange 15).filter fun k => decide (k.val ≤ 3) && x.fresh.getLsbD k.val).foldl (fun b k => match b with
    | none => some k
    | some j => if x.pz[k].2.natAbs < x.pz[j].2.natAbs then some k else some j) none

/-- The lowest-frequency valid point of the sweep. -/
def EstRec.lowest (x : EstRec) : Option (Fin 15) :=
  ((List.finRange 15).filter fun k => x.fresh.getLsbD k.val).getLast?

/-- Whether two battery temperatures lie within 5 degC; both invalid is taken as met (R271). -/
def sameTemp : Option Int → Option Int → Bool
  | none, none => true
  | some a, some b => decide ((a - b).natAbs ≤ 80)
  | _, _ => false

/-- rpol at the end of a sweep (R267): the real part at the lowest-frequency valid point less rhf; unchanged where that point lies
above 1 Hz. -/
def EstRec.polar (x : EstRec) (rhf : Nat) : Nat :=
  match x.lowest with
  | some j => if 10 ≤ j.val then sat 65535 (x.pz[j].1 - rhf).toNat else x.rpol
  | none => x.rpol

/-- Whether a battery temperature lies within 5 degC of EST_PREF.tref (R276). -/
def State.nearRef (s : State) (p : BPort) (t : Option Int) : Bool := t.any fun t => decide ((t - 16 * s.estTref p).natAbs ≤ 80)

/-- EST_SWEEP_DONE: rhf and rpol are published; two consistent sweeps set rconv, and the first rconv after newbat gives
the reference; a jump above 30 % is source 2 and clears rconv; no valid point among k = 0-3 is source 1, and leaves rhf as it was. The
battery temperature enters tref as whole degrees, rounded down (assumption 109). -/
def execEstSweepDone (p : BPort) (s : State) : Ans :=
  let x := s.est[p]
  if x.st ≠ .sweeping ∨ x.todo ≠ [] then .next s
  else
    let y := { x with st := .waiting, nsweep := sat 255 (x.nsweep + 1), sweptAt := some s.now }
    match x.best with
    | none => .next ((s.setEst p { y with last := false, rpol := x.polar x.rhf }).occur bEST 1 p.val)
    | some k =>
      let rhf := sat 65535 x.pz[k].1.toNat
      let t := s.batT p
      let gap := max rhf x.rhf - min rhf x.rhf
      let jump := x.rconv && decide (30 * x.rhf < 100 * gap) && sameTemp t x.lastT
      let conv := !x.rconv && x.last && decide (100 * gap ≤ 3 * rhf) && sameTemp t x.lastT
      let takes := conv && x.newbat && s.estRref p == 0 && t.isSome
      let u := s.setEst p { y with
        rhf := rhf, rpol := x.polar rhf, last := true, lastT := t, rconv := (x.rconv && !jump) || conv,
        newbat := x.newbat && !conv
        rsoh := if takes || s.nearRef p t then rhf else x.rsoh
        rsohT := if takes || s.nearRef p t then t else x.rsohT }
      let u := if takes then
          u.putReg (estPrefAt p) (BitVec.ofNat 32 (rhf + 65536 * ((t.getD 0) / 16 % 256).toNat))
        else u
      .next (if jump then u.occur bEST 2 p.val else u)

/-- EST_SWEEP_PAUSE_EXPIRY: after 10 min a paused sweep starts again from k = 0 (R266). -/
def execEstSweepPauseExpiry (p : BPort) (s : State) : Ans :=
  let x := s.est[p]
  if x.st = .paused ∧ x.pausedAt + 600000000 ≤ s.now then
    .next (s.setEst p { x with todo := s.sweepPoints p, fresh := 0, valid := 0, again := false, half := false })
  else .next s

/-- rwire, and whether R239 may use it (R270). -/
def State.rwire (s : State) (p : BPort) : Nat × Bool :=
  match s.chg[p].wc with
  | none => (0, false)
  | some w =>
    let r := s.est[p].rhf - w.ncell * s.estRcell p
    let ilim := s.chg[p].iprog
    (r, s.est[p].rconv && s.estRcell p != 0 && ilim != 0 && decide (r * ilim ≤ 100 * s.chg[p].vtgt))

/-- EST_STAT.conv (R273). -/
def State.estConv (s : State) : Bool :=
  (allBat.any fun p => s.est[p].rconv) && (allBat.any s.charges) && allBat.all fun p => !s.allowsPerturb p || s.est[p].rconv

/-- A pending knee answer becomes Unavailable, EST source 3 (R266, R269, R282). -/
def State.kneeUnavailable (s : State) (p : BPort) : State :=
  if s.chg[p].cand.isSome then (s.kneeAnswer p .unavailable).occur bEST 3 p.val else s

/-- rconv cleared, and what else a port loses that leaves Present (R266, R271): sweep and knee check aborted, every point
invalid; a pending knee answer is Unavailable. -/
def State.estRemoved (s : State) (p : BPort) : State :=
  (s.setEst p { s.est[p] with
    st := .waiting, todo := [], valid := 0, fresh := 0, rconv := false, last := false, okSince := none, waitAt := none }).kneeUnavailable p

/-! ### The knee (R268, R269) -/

/-- The last 15 min mark of a nickel Bulk, where no baseline measurement has begun at it yet: the marks start at the end of the hold-off
(R268). -/
def State.baseDue (s : State) (p : BPort) : Option Nat :=
  let from_ := s.chg[p].dvFrom
  let t := from_ + (s.now - from_) / 900000000 * 900000000
  if s.nickelBulk p = true ∧ from_ ≤ s.now ∧ s.est[p].mark ≠ some t then some t else none

/-- A baseline measurement begins at its mark, on a whole second of the sample clock; a channel that may not perturb then, or is busy with
a knee check, skips it to the next mark (R268, assumption 93). -/
def State.beginBaseline (s : State) (p : BPort) : State :=
  match s.baseDue p with
  | none => s
  | some t =>
    let u := s.setEst p { s.est[p] with mark := some t }
    if s.mayPerturb p = false ∨ s.est[p].st = .knee then u
    else u.startKnee p (if s.now ≤ t + 1000 then t else s.chg[p].since + upTo 1000000 (s.now - s.chg[p].since))

/-- A knee measurement discarded under R266: counted in ndisc; a knee check is answered Unavailable, a baseline is skipped (R268, R269). -/
def State.discardKnee (s : State) (p : BPort) : State :=
  let t := s.setEst p { s.est[p] with ndisc := sat 255 (s.est[p].ndisc + 1) }
  if s.chg[p].cand.isSome then t.kneeUnavailable p else t.endKnee p

/-- What a channel does discarded where its group's switching changes (R266): a point is repeated once the change is complete, after
`us`. -/
def State.discardWork (s : State) (p : BPort) (us : Nat) : State :=
  if s.est[p].st = .knee then s.discardKnee p else s.discardPoint p us

/-- KNEE_BASELINE: a baseline measurement ends; the one with the lowest ΔR is the baseline (R268). -/
def execKneeBaseline (p : BPort) (z1 z100 : Int) (s : State) : Ans :=
  let x := s.est[p]
  if s.nickelBulk p = true ∧ s.mayPerturb p = true ∧ s.kneeOver p = true ∧ s.chg[p].cand = none then
    let dr := z1 - z100
    let lower := match x.base with
      | some (b, _) => decide (dr < b)
      | none => true
    .next ((s.setEst p { x with dr := dr, base := if lower then some (dr, z100) else x.base }).endKnee p)
  else .next s

/-- The answer of R269 to a measurement. -/
def State.kneeResult (s : State) (p : BPort) (z1 z100 : Int) : Knee × Bool :=
  match s.est[p].base with
  | none => (.unavailable, false)
  | some (b, bz) =>
    let w := s.reg (estPkcfAt p)
    let risen := decide (b * (100 + w.bits 7 0 : Nat) ≤ 100 * (z1 - z100))
    let inBand := decide ((100 * (z100 - bz).natAbs : Nat) ≤ w.bits 15 8 * bz.natAbs)
    if risen && inBand then (.confirmed, false) else (.notConfirmed, risen)

/-- KNEE_CHECK: the measurement that R246 asked for ends, 18 s to 19.1 s after the request, and is answered; without a baseline, or while the channel may not perturb, the
answer is Unavailable; a rise outside the band is source 2, which clears rconv (R269, R271). -/
def execKneeCheck (p : BPort) (z1 z100 : Int) (s : State) : Ans :=
  if s.chg[p].cand = none then .next s
  else
    let r := s.kneeResult p z1 z100
    if r.1 = .unavailable ∨ s.mayPerturb p = false then .next (s.kneeUnavailable p)
    else if s.kneeOver p = false then .next s
    else
      let t := s.setEst p { s.est[p] with dr := z1 - z100, rconv := s.est[p].rconv && !r.2 }
      .next ((if r.2 then t.occur bEST 2 p.val else t).kneeAnswer p r.1)

/-- KNEE_ANSWER: the estimator's answer; one of Unavailable is source 3 (R246, R282). -/
def execKneeAnswer (p : BPort) (a : Knee) (s : State) : Ans :=
  .next (if a = .unavailable then s.kneeUnavailable p else s.kneeAnswer p a)

/-! ### EST_PCTL (R265, R276) -/

/-- EST_PCTL of a port (R280). -/
def estPctlAt (p : BPort) : Nat := 0x0B0110 + 0x40 * p.val

/-- sweep: ignored while a sweep runs, also while a knee check interrupts it; else due, and started where R260 holds. -/
def State.orderSweep (s : State) (p : BPort) : State :=
  if s.est[p].st = .sweeping ∨ s.est[p].st = .paused ∨ s.est[p].st = .knee ∧ s.est[p].todo ≠ [] then s
  else (s.setEst p { s.est[p] with ordered := true }).startSweep p

/-- abort: the sweep stops at once and its point in progress is discarded; a knee check goes on. -/
def State.abortEst (s : State) (p : BPort) : State :=
  if s.est[p].st = .sweeping ∨ s.est[p].st = .paused then
    s.setEst p { s.est[p] with st := .waiting, todo := [], ordered := false }
  else if s.est[p].st = .knee then s.setEst p { s.est[p] with todo := [], ordered := false }
  else s

/-- newbat: rconv, rref, qest and the history are cleared, the saved history with it (R281). -/
def State.newBattery (s : State) (p : BPort) : State :=
  let t := s.setEst p { s.est[p] with
    rconv := false, newbat := true, qest := 0, count := none, formed := false, src := 0, q := 0
    unc := 255, uncQ := 0, last := false, first := false, rsoh := 0, rsohT := none, due := none }
  { t with ret := { t.ret with est := vset t.ret.est p { t.ret.est[p] with valid := false } } }.putReg (estPrefAt p) 0

/-- A write of EST_PCTL. -/
def State.writeEstPctl (s : State) (p : BPort) (v : Word) : State :=
  let s := if v.bit 0 then s.orderSweep p else s
  let s := if v.bit 1 then s.abortEst p else s
  if v.bit 2 then s.newBattery p else s

/-- EST_SWEEP, carried to the next iteration (R22, R23, R279). -/
def execEstSweep (r : Req) (p : BPort) (s : State) : Ans := .next (s.viaService r (estPctlAt p) fun s => s.carry (estPctlAt p) 1)

/-- EST_ABORT, carried to the next iteration. -/
def execEstAbort (r : Req) (p : BPort) (s : State) : Ans := .next (s.viaService r (estPctlAt p) fun s => s.carry (estPctlAt p) 2)

/-- EST_NEWBAT, carried to the next iteration. -/
def execEstNewbat (r : Req) (p : BPort) (s : State) : Ans := .next (s.viaService r (estPctlAt p) fun s => s.carry (estPctlAt p) 4)

/-! ### State of charge and of health (R274-R277) -/

/-- A capacity estimate entered (R276), in Ah. -/
def State.enterQest (s : State) (p : BPort) (ah : Nat) : State :=
  let x := s.est[p]
  s.setEst p { x with qest := sat 65535 (if x.qest = 0 then ah else (ah + 3 * x.qest) / 4), count := none }

/-- The correction at a lead rest (R275, R276). -/
def State.correctRest (s : State) (p : BPort) (chem : Nat) (vCell01 : Int) : State :=
  let n := leadSoc chem vCell01
  let t := match s.est[p].count with
    | some q => if n ≤ 500 ∧ s.socUnc p ≤ 50 then s.enterQest p (1000 * q / (360000000000000 * (1000 - n))) else s
    | none => s
  t.setSoc p n 50 2

/-- The correction at a full charge (R275, R276): a move of more than 15 % is EST source 4. -/
def State.correctFull (s : State) (p : BPort) (chem : Nat) : State :=
  let moved := decide (s.soc p != 0xFFFF) && decide (s.soc p + 1500 < 10000)
  let t := s.setSoc p 1000 (if isNickel chem then 30 else 20) 3
  let t := t.setEst p { t.est[p] with count := some 0 }
  if moved then t.occur bEST 4 p.val else t

/-- The correction at the cut-off of a nickel or lithium port (R275, R276). -/
def State.correctCut (s : State) (p : BPort) : State :=
  let t := match s.est[p].count with
    | some q => s.enterQest p (q / 360000000000000)
    | none => s
  t.setSoc p 0 50 4

/-- The correction that is due, made: a full charge or a cut-off. Without a Charge flow the port's chemistry is not known, and none is made
(assumption 110). -/
def State.correctDue (s : State) (p : BPort) : State :=
  let t := s.setEst p { s.est[p] with due := none }
  match s.est[p].due, s.chg[p].wc.map (·.chem) with
  | some ev, some chem =>
    if s.estCap p = 0 then t
    else if ev = 2 then t.correctFull p chem
    else if ev = 3 then t.correctCut p
    else t
  | _, _ => t

/-- The history of a port at its first qualification since start-up (R277): restored where its terminal lies within 2 % of the saved
voltage, SoC with its uncertainty raised by 5 %; else the port has none. -/
def State.restoreHistory (s : State) (p : BPort) (v : Nat) : State :=
  let r := s.ret.est[p]
  if s.est[p].first = false then s
  else
    let t := s.setEst p { s.est[p] with first := false }
    if r.valid = true ∧ 50 * (max v r.v - min v r.v) ≤ r.v then
      let t := if r.soc = 0xFFFF then t else t.setSoc p 0 (sat 255 (r.unc + 50)) 5
      (t.setEst p { t.est[p] with q := if r.soc = 0xFFFF then t.est[p].q else r.soc * s.estFull p / 10, qest := r.qest }).putReg (estPrefAt p)
        (BitVec.ofNat 32 (r.rref + 65536 * r.tref))
    else t

/-- Whether the current of a lead port has been below 1 A for 4 h (R275). -/
def State.rested (s : State) (p : BPort) (chem : Nat) : Bool :=
  isLead chem && s.est[p].quietAt.any fun t => decide (t + 14400000000 ≤ s.now)

/-- SOC_CORRECTION: the events of R275 by EST_PSOC.src less 1, each where the state shows it: first Qualify, rest, full charge,
cut-off, and the history of R277. -/
def execSocCorrection (p : BPort) (ev : Fin 5) (vCell01 : Int) (s : State) : Ans :=
  match ev with
  | 0 => match s.chg[p].wc.map (·.chem) with
    | some chem => .next (if s.chgLive p = true ∧ s.chg[p].phase = 0 then s.correctFirst p chem vCell01 else s)
    | none => .next s
  | 1 => match s.chg[p].wc.map (·.chem) with
    | some chem => .next (if s.rested p chem = true ∧ s.estCap p ≠ 0 then s.correctRest p chem vCell01 else s)
    | none => .next s
  | 2 => .next (if s.est[p].due = some 2 then s.correctDue p else s)
  | 3 => .next (if s.est[p].due = some 3 then s.correctDue p else s)
  | 4 => .next (if s.bat[p].st = .present then s.restoreHistory p s.bat[p].vterm.toNat else s)

/-! ### What follows at an iteration -/

/-- The channel of a port follows its port and its flow at an iteration: a port that is not Present loses its sweep (R266, R271), a
knee check whose flow is not Live is Unavailable (R249, R282), a knee measurement outside a nickel Bulk is over, a correction that is due
is made (R275), and the cause of CHG source 2 ends with the hold (R237). -/
def State.followEst (s : State) (p : BPort) : State :=
  let s := if s.bat[p].st = .present then s else s.estRemoved p
  let s := if s.chgLive p then s else s.kneeUnavailable p
  let s := if s.nickelBulk p then s else s.endKnee p
  (if s.chg[p].hold then s else s.endCause bCHG 2 p.val).correctDue p
def State.followEsts (s : State) : State := forEach allBat State.followEst s

/-- What the estimator saves of a port (R277). -/
def State.estSaveOf (s : State) (p : BPort) : EstSave :=
  { valid := true, soc := s.soc p, unc := s.socUnc p, qest := s.est[p].qest,
    rref := s.estRref p, tref := (s.reg (estPrefAt p)).bits 23 16, v := s.bat[p].vterm.toNat }

/-- The saves of the ports, none of one before its first qualification, whose saved history still stands (R277). -/
def State.estSaves (s : State) : Vector (Option EstSave) 3 := Vector.ofFn fun p => if s.est[p].first then none else some (s.estSaveOf p)

/-- EST_SAVE: every 60 s the estimator's values go to retained memory over x3 (R277, R357). -/
def execEstSave (s : State) : Ans :=
  if s.domOn 3 = true ∧ s.est[(0 : BPort)].savedAt + 60000000 ≤ s.now then
    .next (forEach allBat (fun s p => s.setEst p { s.est[p] with savedAt := s.now }) (s.putValue ⟨3, .saveEst, 1, .est s.estSaves⟩))
  else .next s

/-- rhf of the last sweep whose battery temperature lies within 5 degC of the present tref, 0 none (R276). -/
def State.sohRhf (s : State) (p : BPort) : Nat :=
  let x := s.est[p]
  if x.rhf ≠ 0 ∧ s.nearRef p x.lastT = true then x.rhf else if s.nearRef p x.rsohT = true then x.rsoh else 0

/-- The state of health, 0.1 %: 1023 while neither figure exists; the resistance figure is that of the last sweep within 5 degC of tref
(R276). A capacity figure above 102.2 % reads 1023 (assumption 82). -/
def State.soh (s : State) (p : BPort) : Nat :=
  let x := s.est[p]
  let cap := if x.qest = 0 then 1023 else 1000 * x.qest / s.estCap p
  let res := if s.estRref p = 0 ∨ s.sohRhf p = 0 then 1023 else min 1000 (1000 * (2 * s.estRref p - s.sohRhf p) / s.estRref p)
  if s.estCap p = 0 then 1023 else min 1023 (min cap res)

end Sys2Proof.Machine
end

