-- ==== Sys2Proof/Machine/Battery.lean ====
section
/-!
DEFINITION. The battery ports: presence, qualification, precharge, isolation and their protection (R221-R227, R255-R258).
Voltages are in mV and currents in 10 mA.
-/

namespace Sys2Proof.Machine

/-- Whether a terminal voltage lies in 20.0-72.0 V. -/
def batInRange (mv : Int) : Bool := decide (20000 ≤ mv) && decide (mv ≤ 72000)

/-- A port enters Qualifying: the qualification timer starts. -/
def BatRec.qualify (x : BatRec) (now : Nat) : BatRec :=
  { x with st := .qualifying, since := now, pre := none, preRetry := none, preFailed := false }

/-- BAT_TERMINAL_IN_RANGE: an Absent terminal in 20-72 V qualifies where no halt line holds the port; below −5 V the port
reports reversed polarity, BAT source 0 (R68, R221). -/
def execBatTerminalInRange (p : BPort) (mv : Int) (s : State) : Ans :=
  let x := s.bat[p]
  if s.presenceRuns p = true ∧ x.st = .absent then
    if mv < -5000 then
      .next ((s.setBat p { x with cause := 1, reversed := true, vterm := mv }).occur bBAT 0 p.val true)
    else
      let t := (s.setBat p { x with reversed := false, vterm := mv }).endCause bBAT 0 p.val
      if batInRange mv = true ∧ s.portFree p.port = true then .next (t.setBat p (t.bat[p].qualify s.now))
      else .next t
  else .next s

/-- The qualification time, microseconds. -/
def State.batTq (s : State) (p : BPort) : Nat := 100000 * (s.reg (batPcfgAt p)).bits 7 0

/-- BAT_QUALIFY_TIME_END: outside 20-72 V the port is Absent, BAT source 1; a variation above 2 % over 1 s (`var`, 0.1 %)
restarts the timer; at its end precharge begins, and a failed precharge begins again after 1 s (R221, R222), once the stage is drained
(R134). A variation once precharge has begun, or while it waits to begin again, is not judged (assumption 73). -/
def execBatQualifyTimeEnd (p : BPort) (mv : Int) (var : Nat) (s : State) : Ans :=
  let x := s.bat[p]
  if s.presenceRuns p = true ∧ x.st = .qualifying then
    if batInRange mv = false then
      .next (((((s.setBat p {
        x.opened s.now with
        st := .absent, cause := 2, since := s.now, vterm := mv, qfails := sat 65535 (x.qfails + 1) }).occur bBAT 1 p.val).retryOutcome bBAT 7 p.val false).retryOutcome bCHG 6 p.val false).retryOutcome
          bCULM 2 p.port.val false)
    else if 20 < var ∧ x.pre = none ∧ x.preRetry = none then .next (s.setBat p { x with since := s.now, vterm := mv })
    else match x.pre, x.preRetry with
      | none, none =>
        if x.since + s.batTq p ≤ s.now ∧ s.stageBars p.port = false then .next (s.setBat p { x with pre := some s.now, vterm := mv }) else .next s
      | none, some t =>
        if t + 1000000 ≤ s.now ∧ s.stageBars p.port = false then .next (s.setBat p { x with pre := some s.now, preRetry := none, vterm := mv })
        else .next s
      | some _, _ => .next s
  else .next s

/-- BAT_PRECHARGE_DONE: the stage within 1.0 V of the terminal closes the switch; the port is Present, the cells of its
group start, its history is restored at the first qualification (R277), and its flows follow (R86, R221, R222). -/
def execBatPrechargeDone (p : BPort) (vStage vTerm : Int) (s : State) : Ans :=
  let x := s.bat[p]
  if x.st = .qualifying ∧ x.pre.isSome = true ∧ (vStage - vTerm).natAbs ≤ 1000 ∧ s.portFree p.port = true then
    let t := s.setBat p { x with
      st := .present, since := s.now, sw := true, vterm := vTerm, vstage := vStage, pre := none, preRetry := none,
      ocAt := none, reacted := false }
    let t := (((t.retryOutcome bBAT 4 p.val true).retryOutcome bBAT 7 p.val true).retryOutcome bCHG 6 p.val true).retryOutcome
      bCULM 2 p.port.val true
    .next ((t.startMembers p.group).restoreHistory p vTerm.toNat).settle
  else .next s

/-- BAT_PRECHARGE_FAILED: not within 1.0 V after 50 ms; BAT source 4, repeated once after 1 s, then the port is Locked
(R221, R222). -/
def execBatPrechargeFailed (p : BPort) (vStage vTerm : Int) (s : State) : Ans :=
  let x := s.bat[p]
  match x.pre with
  | none => .next s
  | some t0 =>
    if x.st = .qualifying ∧ t0 + 50000 ≤ s.now ∧ 1000 < (vStage - vTerm).natAbs then
      if x.preFailed = false ∧ s.willRetry bBAT 4 p.val = true then
        .next ((s.setBat p { x with pre := none, preRetry := some s.now, preFailed := true, vstage := vStage, vterm := vTerm }).occur
          bBAT 4 p.val)
      else
        .next ((s.setBat p { x.opened s.now with st := .locked, cause := 4, since := s.now, vstage := vStage,
                                                 vterm := vTerm }).occur bBAT 4 p.val)
    else .next s

/-! ### Absence (R223-R225) -/

/-- What follows a detected absence (R223): the halt line driven by the presence logic, the switch open, the clamp armed
and the port Absent, its stage drained (R65); a removal under current is BAT source 2, and a clamp energy above 2 J (mJ) source 5,
which is then the last cause (R256). -/
def State.absent (s : State) (p : BPort) (underCurrent : Bool) (clampE : Nat) : State :=
  let x := s.bat[p]
  let s := s.setBat p { x.opened s.now with
    st := .absent, cause := if 2000 < clampE then 8 else 3, since := s.now, clamp := true, removals := sat 65535 (x.removals + 1),
    clampE := if clampE = 0 then x.clampE else sat 65535 clampE,
    clamps := if clampE = 0 then x.clamps else sat 65535 (x.clamps + 1), absentAt := some s.now }
  let s := s.assertHalt p.port { blk := bBAT, src := 2, obj := p.val, reaction := false }
  let s := if underCurrent then s.occur bBAT 2 p.val else s
  let s := if 2000 < clampE then s.occur bBAT 5 p.val else s
  s.estRemoved p

/-- BAT_ABSENCE_DETECTED: the terminal above the target by 0.5 V while charge current flows, or the current below half of
a command of at least 2 A for 1 us (R223). -/
def execBatAbsenceDetected (p : BPort) (vTerm cur cmd : Int) (heldNs clampE : Nat) (s : State) : Ans :=
  let rise := (s.chgFlow p).isSome && decide (cur < 0) && decide ((s.chg[p].vtgt : Int) + 500 < vTerm)
  let gone := decide (200 ≤ cmd.natAbs) && decide (2 * cur.natAbs < cmd.natAbs) && decide (1000 ≤ heldNs)
  if s.bat[p].st = .present ∧ (rise || gone) = true then
    .next ((s.setBat p { s.bat[p] with vterm := vTerm }).absent p true clampE)
  else .next s

/-- BAT_PROBE: below 2 A, a fall of more than 1.0 V under the 20 mA probe is absence (R224). -/
def execBatProbe (p : BPort) (fall : Nat) (s : State) : Ans :=
  let x := s.bat[p]
  if x.st = .present ∧ x.cur.natAbs < 200 ∧ 1000 < fall then .next (s.absent p (x.cur != 0) 0) else .next s

/-- Whether a driver of a battery port's own protection has ended: 10 ms after absence, 1 s after source 7, CHG source 6
or a governor trip (R143, R223, R253, R257). -/
def State.batOwnEnded (s : State) (p : BPort) (d : Driver) : Bool :=
  let past (t : Option Nat) (us : Nat) : Bool := match t with
    | some t => decide (t + us ≤ s.now)
    | none => true
  !d.reaction &&
    ((d.blk == bBAT && d.src == 2 && past s.bat[p].absentAt 10000) ||
     (d.blk == bBAT && d.src == 7 && past s.bat[p].ocAt 1000000) ||
     (d.blk == bCHG && d.src == 6 && past s.chg[p].ovAt 1000000) ||
     (d.blk == bCULM && d.src == 2 && past s.gov[p.port].tripAt 1000000))

/-- BAT_HALT_RELEASE: the own drivers that have ended leave the halt line; 10 ms after absence the clamp is released; a
Halted port whose lines are all released is Absent (R221, R223). -/
def execBatHaltRelease (p : BPort) (s : State) : Ans :=
  let t := s.setHalt p.port (s.halt[p.port].filter fun d => !s.batOwnEnded p d)
  let x := t.bat[p]
  let t := if x.absentAt.any (fun a => decide (a + 10000 ≤ s.now)) = true then t.setBat p { x with absentAt := none, clamp := false } else t
  if t.bat[p].st = .halted ∧ t.portFree p.port = true then
    .next (t.setBat p { t.bat[p] with st := .absent, since := s.now })
  else .next t

/-- BAT_OUT_OF_RANGE: outside 19-73 V for 10 ms a Present port is Absent, its switch open; BAT source 1 (R221). -/
def execBatOutOfRange (p : BPort) (mv : Int) (heldMs : Nat) (s : State) : Ans :=
  if s.bat[p].st = .present ∧ (mv < 19000 ∨ 73000 < mv) ∧ 10 ≤ heldMs then
    let t := s.setBat p { s.bat[p].opened s.now with st := .absent, cause := 2, since := s.now, vterm := mv }
    .next ((t.stopGroup p.group).occur bBAT 1 p.val).settle
  else .next s

/-! ### BAT_PCTL (R221, R226) -/

/-- BAT_PCTL of a port (R255). -/
def batPctlAt (p : BPort) : Nat := 0x090104 + 0x40 * p.val

/-- A Live flow of an isolating port, Suspended with bit 1 while its current ramps down (R226). -/
def State.rampOut (p : BPort) (s : State) (c : Ctx) : State :=
  let f := s.ctx[c]
  if f.st = .live ∧ f.d.port = some p.port then
    s.setCtx c { f.suspended s.now 0b000010 with cur := f.cur, cmd := f.cmd }
  else s

/-- isolate: from Present. -/
def State.isolate (s : State) (p : BPort) : State :=
  if s.bat[p].st = .present ∧ s.portFree p.port = true then
    (forEach allCtx (State.rampOut p) (s.setBat p { s.bat[p] with isolating := true, since := s.now })).settle
  else s

/-- connect: from Isolated. -/
def State.connect (s : State) (p : BPort) : State :=
  if s.bat[p].st = .isolated ∧ s.portFree p.port = true then s.setBat p (s.bat[p].qualify s.now) else s

/-- rearm: from Locked once the FST bit of source 4 is clear. -/
def State.rearmBat (s : State) (p : BPort) : State :=
  if s.bat[p].st = .locked ∧ s.flt[bBAT].fst.getLsbD 4 = false ∧ s.portFree p.port = true then
    s.setBat p { s.bat[p] with st := .absent, since := s.now }
  else s

/-- A write of BAT_PCTL. -/
def State.writeBatPctl (s : State) (p : BPort) (v : Word) : State :=
  let s := if v.bit 0 then s.isolate p else s
  let s := if v.bit 1 then s.connect p else s
  if v.bit 2 then s.rearmBat p else s

/-- BAT_ISOLATE, carried to the next iteration (R22, R23). -/
def execBatIsolate (r : Req) (p : BPort) (s : State) : Ans := .next (s.viaService r (batPctlAt p) fun s => s.carry (batPctlAt p) 1)

/-- BAT_ISOLATE_SWITCH_OPEN: below 0.5 A for 1 ms, or 15 ms after the command (R226); the port is Isolated from then on, Present until
then (assumption 72), and its stage is drained (R65). -/
def execBatIsolateSwitchOpen (p : BPort) (cur : Int) (heldUs : Nat) (s : State) : Ans :=
  let x := s.bat[p]
  if x.st = .present ∧ x.isolating = true ∧ ((cur.natAbs < 50 ∧ 1000 ≤ heldUs) ∨ x.since + 15000 ≤ s.now) then
    .next ((s.setBat p { x.opened s.now with st := .isolated, cause := 5, since := s.now }).stopGroup
      p.group).settle
  else .next s

/-- BAT_CONNECT, carried to the next iteration. -/
def execBatConnect (r : Req) (p : BPort) (s : State) : Ans := .next (s.viaService r (batPctlAt p) fun s => s.carry (batPctlAt p) 2)

/-- BAT_REARM, carried to the next iteration. -/
def execBatRearm (r : Req) (p : BPort) (s : State) : Ans := .next (s.viaService r (batPctlAt p) fun s => s.carry (batPctlAt p) 4)

/-! ### Current and temperature (R48, R227, R257) -/

/-- BAT_OVERCURRENT: above 220 A for 1 ms; BAT source 7, whose retry requalifies the port after 1 s. -/
def execBatOvercurrent (p : BPort) (cur heldUs : Nat) (s : State) : Ans :=
  if s.bat[p].st = .present ∧ 22000 < cur ∧ 1000 ≤ heldUs then
    let t := (s.setBat p { s.bat[p] with ocAt := some s.now }).occur bBAT 7 p.val
    let t := if t.retrying bBAT 7 p.val then
        t.assertHalt p.port { blk := bBAT, src := 7, obj := p.val, reaction := false }
      else t
    .next (t.setBat p { t.bat[p] with cause := 7 })
  else .next s

/-- Whether the NTC inputs are measured: not while the module is unpowered, in reset, in Watch or Dormant (R63). -/
def State.ntcMeasured (s : State) : Bool := s.inRun || s.dom.st == .standby || s.dom.st == .stubble

/-- A battery port whose NTC input is not used: its temperature is invalid, without a fault (R227). -/
def State.ntcUnused (s : State) (p : BPort) : State := (s.endCause bBAT 6 p.val).tempLost p

/-- NTC_FAULT: while it is measured and with ntcen 1, an input above 400 kilohm is open and one below 400 ohm shorted; BAT source 6, and the battery
temperature is invalid; any other reading is valid again; with ntcen 0 the input is not used (R48, R63, R227, R237). -/
def execNtcFault (p : BPort) (ohm : Nat) (s : State) : Ans :=
  let x := s.bat[p]
  if s.ntcMeasured = false then .next s
  else if s.ntcUsed p = false then .next (s.ntcUnused p)
  else if 400000 < ohm then .next (((s.setBat p { x with ntc := 1 }).occur bBAT 6 p.val true).tempLost p)
  else if ohm < 400 then .next (((s.setBat p { x with ntc := 2 }).occur bBAT 6 p.val true).tempLost p)
  else .next (((s.setBat p { x with ntc := 0 }).endCause bBAT 6 p.val).endCause bCHG 3 p.val)

end Sys2Proof.Machine
end

