-- ==== Sys2Proof/Machine/Thermal.lean ====
section
/-!
DEFINITION. The thermal manager: sensors, the model as far as the manual fixes it, the throttle step, shutdown and fans
(R284-R312). Temperatures are in 1/16 degC. The model's update and predictions rest on calibration data whose layout and
meaning the manual does not give; they are free functions of their inputs (assumption 20).
-/

namespace Sys2Proof.Machine

/-- The sensors in ascending order. -/
def allSensors : List Sensor := List.finRange 48

/-- Whether the thermal manager runs: D10 is on. -/
def State.thermalRuns (s : State) : Bool := s.domOn 10

/-- The estimated loss of the cell that a sensor watches, W; 0 for T40-T47. -/
def State.sensorLoss (s : State) (k : Sensor) : Nat := if h : k.val < 40 then s.cells[k.val].loss else 0

/-! ### Sensors (R286, R301-R305) -/

/-- Whether a reading lies within the range of criterion 1, in 1/16 degC (R301). -/
def sensorInRange (raw : Int) : Bool := decide (-880 ≤ raw) && decide (raw ≤ 3200)

/-- The criterion of R301 that a reading meets: its cause code, and whether it is retryable. -/
def State.criterion (s : State) (k : Sensor) (raw : Int) : Option (Nat × Bool) :=
  let x := s.thm.sensors[k]
  if raw < -880 ∨ 3200 < raw then some (1, true)
  else if x.seen = true ∧ 160 < (raw - x.raw).natAbs then some (2, true)
  else if s.thm.mconv = true ∧ 320 < (raw - x.node).natAbs ∧ x.farSince.any (fun t => decide (t + 10000000 ≤ s.now)) = true then
    some (3, false)
  else if k.val < 40 ∧ x.seen = true ∧ (raw - x.stuckRaw).natAbs ≤ 1 ∧ x.stuckAt + 600000000 ≤ s.now ∧
      x.lossLo + 50 < x.lossHi then some (4, false)
  else none

/-- What criteria 3 and 4 keep of a reading. -/
def State.track (s : State) (k : Sensor) (raw : Int) : SensorRec :=
  let x := s.thm.sensors[k]
  let loss := s.sensorLoss k
  let moved := !x.seen || decide (1 < (raw - x.stuckRaw).natAbs)
  { x with
    raw := raw, seen := true,
    farSince := if s.thm.mconv = true ∧ 320 < (raw - x.node).natAbs then some (x.farSince.getD s.now) else none,
    stuckAt := if moved then s.now else x.stuckAt, stuckRaw := if moved then raw else x.stuckRaw,
    lossLo := if moved then loss else min x.lossLo loss, lossHi := if moved then loss else max x.lossHi loss }

/-- Whether a reading of a Failed or Fenced sensor passes criteria 1, 2 and 5 and lies within 5 degC of the model (R302): criterion 5 is the
self-test of the present switching on of D10 (assumption 94). -/
def SensorRec.passes (x : SensorRec) (r : Int) : Bool :=
  !x.selfBad && sensorInRange r && decide ((r - x.raw).natAbs ≤ 160) && decide ((r - x.node).natAbs ≤ 80)

/-- One sensor at a sample (R302): a sensor that was Off turns Valid, unless its self-test is still to be repeated, and its first reading
is judged; a Valid one is judged, and a Failed one gathers its 60 s of passing. -/
def State.sampleSensor (raw : Vector Int 48) (s : State) (k : Sensor) : State :=
  let x := s.thm.sensors[k]
  let r := raw[k]
  match x.st with
  | .off =>
    if x.testAt.isSome then s
    else if r < -880 ∨ 3200 < r then (s.setSensor k { x with st := .retry, trying := 1, raw := r }).occur bTHM 0 k.val
    else s.setSensor k { s.track k r with st := .valid, t := r }
  | .valid =>
    match s.criterion k r with
    | none => s.setSensor k { s.track k r with t := r }
    | some (c, retry) =>
      if retry && s.willRetry bTHM 0 k.val then
        (s.setSensor k { s.track k r with st := .retry, trying := c }).occur bTHM 0 k.val
      else
        let t := (s.setSensor k (s.track k r)).failSensor k c
        if retry then t.occur bTHM 0 k.val true else t.occurHard bTHM 0 k.val
  | .retry => s
  | .failed => s.setSensor k { s.track k r with passSince := if x.passes r then some (x.passSince.getD s.now) else none }
  | .fenced => s.setSensor k { s.track k r with passSince := if x.passes r then some (x.passSince.getD s.now) else none }

/-- The highest of a list of temperatures, if any. -/
def highest : List Int → Option Int
  | [] => none
  | a :: l => match highest l with
    | none => some a
    | some b => some (max a b)

/-- The substitute of a Failed or Fenced sensor (R303); where no neighbour is Valid the manual names none, and a free
value stands there. -/
def State.substitute (s : State) (k : Sensor) : Int :=
  if k.val < 40 then
    match highest (((neighbours k).filter fun j => s.thm.sensors[j].st == .valid).map fun j => s.thm.sensors[j].t) with
    | some t => t + 240
    | none => s.freeInt k.val
  else if s.thm.invalid then
    match highest ((allSensors.filter fun j => decide (40 ≤ j.val) && j != k).map fun j => s.thm.sensors[j].t) with
    | some t => t + 240
    | none => s.freeInt k.val
  else s.thm.sensors[k].node + 240

/-- The substitutes put into the reported values (R286). -/
def State.substituteAll (s : State) : State :=
  let sub : Sensor → Int := s.substitute
  { s with thm := { s.thm with sensors := Vector.ofFn fun k : Sensor =>
      if s.thm.sensors[k].bad then { s.thm.sensors[k] with t := satInt 16 (sub k) } else s.thm.sensors[k] } }.drewMany 48

/-- Whether a sensor counts in T_max (R286): not Off, and not a Failed or Fenced sensor of a Fenced cell. -/
def State.countsMax (s : State) (k : Sensor) : Bool :=
  s.thm.sensors[k].st != .off &&
    !(s.thm.sensors[k].bad && (if h : k.val < 40 then s.cells[k.val].st == .fenced else false))

/-- The sensor with the highest of a figure, lowest index first among equals. -/
def hottest (f : Sensor → Int) : List Sensor → Option Sensor
  | [] => none
  | k :: l => match hottest f l with
    | none => some k
    | some j => if f k < f j then some j else some k

/-- T_max and T_ctl (R286, R289). -/
def State.formMax (s : State) : State :=
  let l := allSensors.filter s.countsMax
  let x := s.thm
  let t := fun k : Sensor => x.sensors[k].t
  let c := fun k : Sensor => max x.sensors[k].t x.sensors[k].pred
  match hottest t l, hottest c l with
  | some k, some j =>
    { s with thm := { x with
        tmax := t k, tmaxIdx := k.val, tmaxSub := x.sensors[k].bad,
        tctl := c j, tctlIdx := j.val, tctlPred := decide (x.sensors[j].t < x.sensors[j].pred) } }
  | _, _ => s

/-! ### The model (R287, R288, R291, R292) -/

/-- The numbers of the Calibration section of the active image; none without one. -/
def State.thmCal (s : State) : List Int := (s.img.image.map (·.cal)).getD []

/-- What the model's update and prediction rest on (R287, R288, R300), at given losses of the cells, W: the nodes, the losses, the
measured currents of the other nodes, and the commands of the fans that run. -/
def State.thmInputsAt (s : State) (losses : List Nat) : List Int :=
  let x := s.thm
  x.tref :: (x.plate.toList ++ (x.sensors.toList.map fun k => k.node) ++ x.dieNode.toList ++ (losses.map fun (n : Nat) => (n : Int)) ++
    [s.culm.ild] ++ (s.branches.toList.map fun b => b.cur) ++ (s.bat.toList.map fun b => b.cur) ++
    (x.fans.toList.map fun f => if f.st = 1 then (f.cmd : Int) else 0))

/-- The inputs at the present losses. -/
def State.thmInputs (s : State) : List Int := s.thmInputsAt (s.cells.toList.map (·.loss))

/-- The mean residual over all Valid sensors, 1/16 degC. -/
def State.meanResidual (s : State) : Int :=
  let l := (allSensors.filter fun k => s.thm.sensors[k].st == .valid).map fun k => s.thm.sensors[k].t - s.thm.sensors[k].node
  if l = [] then 0 else l.sum / l.length

/-- The reference node moved towards a zero mean residual, with a time constant of 60 s: a 6000th of it every 10 ms (R287). -/
def State.correctRef (s : State) : State :=
  let a := 6000 * s.thm.tref + s.thm.refAcc + s.meanResidual
  { s with thm := { s.thm with refSrc := false, tref := satInt 16 (a / 6000), refAcc := a % 6000 } }

/-- The predictions and the die estimates (R288, R292): 5 degC higher while mconv is 0; while the model is invalid, predictions equal
the reported values and dies stand 20 degC above them. -/
def State.predict (s : State) : State :=
  let x := s.thm
  let up : Int := if x.mconv then 0 else 80
  let ahead (n : Nat) : Int := satInt 16 (Config.thmAhead s.thmCal s.thmInputs (s.thmCfg.bits 3 0) n + up)
  { s with thm := { x with
    sensors := Vector.ofFn fun k : Sensor => { x.sensors[k] with pred := if x.invalid then x.sensors[k].t else ahead k.val }
    die := Vector.ofFn fun c : Cell =>
      let r := satInt 16 (x.sensors[(⟨c.val, by omega⟩ : Sensor)].t + 320)
      if x.invalid then (r, r) else (satInt 16 (x.dieNode[c] + up), ahead (48 + c.val)) } }

/-- The model's update (R287): every node by the model, then each sensor-point node drawn towards its Valid reading with a time constant
of 2 s, a 200th of the way every 10 ms, whose remainder is kept. -/
def State.updateNodes (s : State) : State :=
  let x := s.thm
  let next (n : Nat) : Int := satInt 16 (Config.thmNode s.thmCal s.thmInputs n)
  { s with thm := { x with
    plate := Vector.ofFn fun i : Fin 48 => next i.val
    dieNode := Vector.ofFn fun c : Cell => next (96 + c.val)
    sensors := Vector.ofFn fun k : Sensor =>
      let n := next (48 + k.val)
      let a := 199 * n + x.sensors[k].t + x.sensors[k].nodeAcc
      if x.sensors[k].st = .valid then { x.sensors[k] with node := a / 200, nodeAcc := a % 200 } else { x.sensors[k] with node := n } } }

/-- How long every Valid sensor's residual has stayed within ±4 degC, and how long the module has been in Run (R291). -/
def State.judgeModel (s : State) : State :=
  let far := allSensors.any fun k => s.thm.sensors[k].st == .valid && decide (64 < (s.thm.sensors[k].t - s.thm.sensors[k].node).natAbs)
  { s with thm := { s.thm with
      okAt := if far then none else some (s.thm.okAt.getD s.now)
      runAt := if s.dom.st = .run then some (s.thm.runAt.getD s.now) else none } }

/-- The model updated and corrected, and its predictions. -/
def State.modelUpdate (s : State) : State := s.updateNodes.correctRef.predict.judgeModel

/-- The model started at the first reading (R291): without history the reference and every node equal T_max; with it the plates and the
reference are the saved ones, and the other nodes stand at their readings (assumption 84). -/
def State.modelStart (s : State) : State :=
  let t := s.formMax.thm.tmax
  let x := s.thm
  let u := if x.hist then
      { s with thm := { x with
          started := true, sensors := x.sensors.map fun (k : SensorRec) => { k with node := k.t }
          dieNode := Vector.ofFn fun c : Cell => x.sensors[(⟨c.val, by omega⟩ : Sensor)].t } }
    else
      { s with thm := { x with
          started := true, refSrc := true, tref := t, refAcc := 0, plate := Vector.replicate 48 t, mconv := false
          sensors := x.sensors.map fun (k : SensorRec) => { k with node := t }, dieNode := Vector.replicate 40 t } }
  u.predict.judgeModel

/-- Valid sensors whose residual lies beyond ±10 degC (R292). -/
def State.badResiduals (s : State) : Nat :=
  (allSensors.filter fun k => s.thm.sensors[k].st == .valid &&
    decide (160 < (s.thm.sensors[k].raw - s.thm.sensors[k].node).natAbs)).length

/-- The invalid model recovers once the residual condition has been clear for 10 min (R292). -/
def State.modelRecovery (s : State) : State :=
  if s.thm.invalid = false then s
  else if 4 ≤ s.badResiduals then { s with thm := { s.thm with clearAt := none } }
  else match s.thm.clearAt with
    | none => { s with thm := { s.thm with clearAt := some s.now } }
    | some t =>
      if t + 600000000 ≤ s.now then ({ s with thm := { s.thm with invalid := false, clearAt := none } }).endCause bTHM 5 0
      else s

/-! ### Thresholds (R293-R298) -/

/-- The write hold begins: an operation in progress completes, later ones wait (R298). -/
def State.beginHold (s : State) : State :=
  { s with thm := { s.thm with nvhold := true }, nvs := { s.nvs with holdAt := some s.now } }

/-- The write hold ends: the operation that waited starts, and the session count, which stood still, goes on (R298,
R410). -/
def State.endHold (s : State) : State :=
  let held := s.now - max s.img.lastOp (s.nvs.holdAt.getD s.now)
  { s with
    thm := { s.thm with nvhold := false }
    nvs := { s.nvs with holdAt := none, started := true, since := if s.nvs.started then s.nvs.since else s.now }
    img := { s.img with lastOp := s.img.lastOp + held } }

/-- Warning and write hold, with their sources (R293, R298). -/
def State.thresholds (s : State) : State :=
  let w : Int := 16 * s.thmWarn
  let s :=
    if s.thm.warn = false ∧ w ≤ s.thm.tmax then ({ s with thm := { s.thm with warn := true } }).occur bTHM 2 0 true
    else if s.thm.warn = true ∧ s.thm.tmax < w - 80 then ({ s with thm := { s.thm with warn := false } }).endCause bTHM 2 0
    else s
  let t46 := s.thm.sensors[(46 : Sensor)].t
  if s.thm.nvhold = false ∧ 2400 < t46 then s.beginHold.occur bTHM 6 0 true
  else if s.thm.nvhold = true ∧ t46 < 2320 then s.endHold.endCause bTHM 6 0
  else s

/-- A throttle step changed by an event: at least the floor, at most 16, and not at all while the 60 s hold runs (R295). -/
def ThmRec.stepTo (x : ThmRec) (n : Nat) : ThmRec :=
  if x.hold.isSome then x else { x with step := min 16 (max x.floor n) }

/-- The throttle at a sample (R295): its start, the end of a recovery, and how long T_ctl has been cool. -/
def State.throttleSample (s : State) : State :=
  let x := s.thm
  let thr : Int := 16 * s.thmThr
  let cool := decide (x.tctl < thr - 80)
  let x := { x with
    coolSince := if cool then some (x.coolSince.getD s.now) else none,
    rsSince := if x.tmax < 2000 then some (x.rsSince.getD s.now) else none }
  if x.cond = .normal ∧ thr ≤ x.tctl then
    { s with thm := { x.stepTo (max 1 x.step) with cond := .descending, tickAt := s.now, tickT := x.tctl } }
  else if x.cond = .recovering ∧ cool = false then { s with thm := { x with cond := .holding } }
  else { s with thm := x }

/-- Shutdown at 140 degC: the Safe line and THM source 3, whose cause stays while T_max stands there (R295, R433). -/
def State.shutdownSample (s : State) : State :=
  if 2240 ≤ s.thm.tmax then (if s.thm.cond = .shutdown then s else s.shutdown).occur bTHM 3 0 true else s.endCause bTHM 3 0

/-- R296: T40-T42 above 150 degC while the stubble supply conducts stops the supply. -/
def State.supplyHot (s : State) : State :=
  let hot (k : Sensor) : Bool := decide (2400 < s.thm.sensors[k].t)
  if s.culm.supOn = true ∧ (hot 40 || hot 41 || hot 42) = true then s.stopSupply else s

/-! ### Fans (R299, R300) -/

/-- The speed command of a running fan, per cent. -/
def State.fanCmd (s : State) : Nat :=
  let x := s.thm
  let least := s.thmCfg.bits 15 8
  if 0 < x.step ∨ x.warn = true ∨ x.cond = .shutdown ∨ x.fans.toList.any (fun f => f.st == 3) = true then 100
  else if x.tctl ≤ 800 then least
  else min 100 (least + (100 - least) * (x.tctl - 800).toNat / 720)

/-- The commands of the fans; the L variant has none. -/
def State.runFans (s : State) : State :=
  if s.fuse.variantL then s
  else
    let c := s.fanCmd
    { s with thm := { s.thm with fans := s.thm.fans.map fun f =>
        match f.st with
        | 0 => { f with st := 1, cmd := c, since := s.now }
        | 1 => { f with cmd := c }
        | _ => { f with cmd := 0 } } }

/-- The measured speeds of the fans that turn (R310): a free value of each (assumption 95). -/
def State.fanSpeeds (s : State) : State :=
  { s with thm := { s.thm with fans := Vector.ofFn fun f : Fan =>
      { s.thm.fans[f] with rpm := if s.thm.fans[f].st = 0 then 0 else s.freeAt f.val % 65536 } } }.drewMany 3

/-- The step floor by the number of failed fans (R300). -/
def State.fanFloor (s : State) : Nat :=
  match (s.thm.fans.toList.filter fun f => f.st == 3).length with
  | 0 => 0
  | 1 => 0
  | 2 => 8
  | _ => 12

/-! ### The commands -/

/-- The deferral threshold less a margin, 1/16 degC (R330). -/
def State.deferAt (s : State) (less : Nat) : Int := 16 * ((s.thmThr : Int) - s.thrCfg.bits 27 24 - less)

/-- How long T_ctl has stayed 5 degC below the deferral threshold (R330); it counts in Zeroed too (R316). -/
def State.deferCool (s : State) : State :=
  { s with thr := { s.thr with coolAt := if s.thm.tctl < s.deferAt 5 then some (s.thr.coolAt.getD s.now) else none } }

/-- THM_SAMPLE: every 10 ms the sensors are read, the reported values, T_max and T_ctl formed, the model updated and the
thresholds applied (R286-R289, R293-R305). -/
def execThmSample (raw : Vector Int 48) (s : State) : Ans :=
  if s.thermalRuns then
    let t := (forEach allSensors (State.sampleSensor raw) s).substituteAll
    let t := if t.thm.started then t.modelUpdate else t.modelStart
    .next t.formMax.deferCool.modelRecovery.thresholds.throttleSample.shutdownSample.supplyHot.runFans.fanSpeeds
  else .next s

/-- THROTTLE_TICK: every 250 ms; ticks go on while the throttle recovers (R295). -/
def execThrottleTick (s : State) : Ans :=
  let x := s.thm
  if s.thermalRuns = true ∧ (x.cond = .descending ∨ x.cond = .holding ∨ x.cond = .recovering) ∧ x.tickAt + 250000 ≤ s.now then
    let hot := decide (x.tickT - x.tctl < 4) && decide ((16 * s.thmThr : Int) ≤ x.tctl)
    let y := { x with tickAt := x.tickAt + (s.now - x.tickAt) / 250000 * 250000, tickT := x.tctl }
    .next { s with thm := if x.cond = .recovering then y else if hot then { y.stepTo (y.step + 1) with cond := .descending } else { y with cond := .holding } }
  else .next s

/-- THROTTLE_RECOVERY: each 2 s with T_ctl below thr − 5 degC lowers the step; Holding goes to Recovering, and Recovering to Normal at
step 0 (R295). -/
def execThrottleRecovery (s : State) : Ans :=
  let x := s.thm
  if s.thermalRuns = true ∧ (x.cond = .holding ∨ x.cond = .recovering) ∧
      x.coolSince.any (fun t => decide (t + 2000000 ≤ s.now)) = true then
    let y := { x.stepTo (x.step - 1) with coolSince := some s.now }
    .next { s with thm := { y with cond := if x.cond = .recovering ∧ y.step = 0 then .normal else .recovering } }
  else .next s

/-- THERMAL_SHUTDOWN_RETURN: T_max below 125 degC for 10 s, no forced bit live and no other cause on the Safe line: Holding at step 12, and the thermal
manager releases its own contribution to the Safe line (R295, R297, R307). -/
def execThermalShutdownReturn (s : State) : Ans :=
  let x := s.thm
  if s.thermalRuns = true ∧ x.cond = .shutdown ∧ x.rsSince.any (fun t => decide (t + 10000000 ≤ s.now)) = true ∧
      s.liveBit bTHM 3 = false ∧ s.safeLine.all (· == thermalDriver) = true then
    .next { s with thm := { x with cond := .holding, step := max x.floor 12, tickAt := s.now, tickT := x.tctl },
                   safeLine := s.safeLine.filter (· != thermalDriver) }
  else .next s

/-- A repeat that fails (R302). -/
def State.retryFailed (s : State) (k : Sensor) (cause : Nat) (count : Bool) : State :=
  (((s.failSensor k cause count).retryOutcome bTHM 0 k.val false).markLive bTHM 0 k.val true).substituteAll.formMax

/-- SENSOR_RETRY: the repeat after 10 ms passes or fails (R301, R302): it stands in for the reading that failed, so criteria 1
and 2 are judged against the last accepted reading; a self-test is repeated where it failed, and its second failure counts for none in
nfail. `raw` is the reading, and none where the test fails. -/
def execSensorRetry (k : Sensor) (raw : Option Int) (s : State) : Ans :=
  let x := s.thm.sensors[k]
  let again := x.testAt.any fun t => decide (t + 10000 ≤ s.now)
  match s.thermalRuns, x.st, raw with
  | true, .retry, none => .next (s.retryFailed k x.trying true)
  | true, .retry, some r =>
    if sensorInRange r = true ∧ (x.seen = false ∨ (r - x.t).natAbs ≤ 160) then
      .next ((s.setSensor k { s.track k r with st := .valid, t := r }).retryOutcome bTHM 0 k.val true)
    else .next ((s.setSensor k (s.track k r)).retryFailed k x.trying true)
  | true, .off, none => if again = true then .next (s.retryFailed k 5 false) else .next s
  | true, .off, some r =>
    if again = true then
      let t := s.retryOutcome bTHM 0 k.val true
      .next (if sensorInRange r then t.setSensor k { t.track k r with st := .valid, t := r, testAt := none }
             else (t.setSensor k { x with st := .retry, trying := 1, raw := r, testAt := none }).occur bTHM 0 k.val)
    else .next s
  | _, _, _ => .next s

/-- Whether any two neighbouring sensors are Failed or Fenced with the pair that an object names (R305). -/
def State.pairBad (s : State) (k : Nat) : Bool :=
  if h : k + 1 < 48 then s.thm.sensors[k].bad && s.thm.sensors[k + 1].bad else false

/-- SENSOR_RETURN: 60 s of passing, within 5 degC of the model, and fewer than three failures (R302, R305). -/
def execSensorReturn (k : Sensor) (raw : Int) (s : State) : Ans :=
  let x := s.thm.sensors[k]
  if s.thermalRuns = true ∧ x.bad = true ∧ x.nfail < 3 ∧ x.passSince.any (fun t => decide (t + 60000000 ≤ s.now)) = true ∧
      x.selfBad = false ∧ sensorInRange raw = true ∧ (raw - x.node).natAbs ≤ 80 then
    let t := (s.setSensor k { s.track k raw with st := .valid, t := raw, passSince := none }).endCause bTHM 0 k.val
    .next ([k.val - 1, k.val].foldl (fun s j => if s.pairBad j then s else s.endCause bTHM 1 j) t)
  else .next s

/-- THROTTLE_HOLD_END: 60 s after the failure (R304). -/
def execThrottleHoldEnd (s : State) : Ans :=
  if s.thm.hold.any (fun t => decide (t ≤ s.now)) then .next { s with thm := { s.thm with hold := none } } else .next s

/-- DIE_OVER_TEMPERATURE: a die estimate above 150 degC for 100 ms (R306). -/
def execDieOverTemperature (c : Cell) (heldMs : Nat) (s : State) : Ans :=
  if s.thermalRuns = true ∧ 2400 < s.thm.die[c].1 ∧ 100 ≤ heldMs then .next (s.occur bTHM 7 c.val) else .next s

/-- The floor that the fans leave, and the step held at it (R300): not while the hold after a sensor's failure runs (R304), and in
Shutdown only at the return to Holding (R307). -/
def State.takeFloor (s : State) : State :=
  let x := s.thm
  { s with thm := { x with floor := s.fanFloor,
                           step := if x.hold.isSome ∨ x.cond = .shutdown then x.step else max x.step s.fanFloor } }

/-- FAN_FAILED: below 50 % of the expected speed for 5 s the fan stops for 1 s and is retried (R300). -/
def execFanFailed (f : Fan) (speedPct heldMs : Nat) (s : State) : Ans :=
  if s.thermalRuns = true ∧ s.thm.fans[f].st = 1 ∧ speedPct < 50 ∧ 5000 ≤ heldMs then
    let again := s.flt[bTHM].frty.getLsbD 4 && !s.masked bTHM 4
    let t := (s.setFan f { s.thm.fans[f] with st := if again then 2 else 3, cmd := 0, since := s.now }).occur bTHM 4 0
    .next t.takeFloor
  else .next s

/-- FAN_RETRY: after 1 s the fan reaches speed, or is Failed; the floor follows (R300). -/
def execFanRetry (f : Fan) (reached : Bool) (rpm : Nat) (s : State) : Ans :=
  let x := s.thm.fans[f]
  if s.thermalRuns = true ∧ x.st = 2 ∧ x.since + 1000000 ≤ s.now then
    if reached then
      .next ((s.setFan f { x with st := 1, cmd := s.fanCmd, rpm := sat 65535 rpm, since := s.now }).retryOutcome bTHM 4 0 true)
    else
      let t := (s.setFan f { x with st := 3, cmd := 0, rpm := sat 65535 rpm, since := s.now }).retryOutcome bTHM 4 0 false
      .next t.takeFloor.runFans
  else .next s

/-- What the thermal manager saves (R291). -/
def State.thmSaveOf (s : State) : ThmSave :=
  { valid := true, plate := s.thm.plate.toList, ref := s.thm.tref, at_ := s.now }

/-- THM_HISTORY_SAVE: every 60 s plate and reference nodes go to retained memory over x3 (R291, R357). -/
def execThmHistorySave (s : State) : Ans := if s.thermalRuns then .next (s.putValue ⟨3, .saveThm, 1, .thm s.thmSaveOf⟩) else .next s

/-- MODEL_CONVERGED: residuals within ±4 degC for 60 s, or 10 min in Run (R291). -/
def execModelConverged (s : State) : Ans :=
  if s.thermalRuns = true ∧ (s.thm.okAt.any (fun t => decide (t + 60000000 ≤ s.now)) = true ∨
      s.thm.runAt.any (fun t => decide (t + 600000000 ≤ s.now)) = true) then .next { s with thm := { s.thm with mconv := true } } else .next s

/-- MODEL_INVALID: four or more Valid sensors beyond ±10 degC for 60 s; THM source 5, and predictions equal the reported
values (R292). -/
def execModelInvalid (bad : List Sensor) (heldS : Nat) (s : State) : Ans :=
  let n := (bad.dedup.filter fun k => s.thm.sensors[k].st == .valid).length
  if s.thermalRuns = true ∧ 4 ≤ n ∧ 60 ≤ heldS then
    let x := s.thm
    let r (c : Cell) : Int := satInt 16 (x.sensors[(⟨c.val, by omega⟩ : Sensor)].t + 320)
    let y := { x with invalid := true, clearAt := none, sensors := x.sensors.map (fun k => { k with pred := k.t }),
                      die := Vector.ofFn fun c : Cell => (r c, r c) }
    let t := { s with thm := y }
    .next (t.formMax.occur bTHM 5 0 true)
  else .next s

end Sys2Proof.Machine
end

