-- ==== Sys2Proof/Machine/Limits.lean ====
section
/-!
DEFINITION. The limits on what a flow may carry (R160-R163, R234, R242, R317, R318, R326), shared by Thresher and by the
Regulate stage. Currents in 10 mA, voltages in mV, powers in W, and in nW where a ramp is followed from wave to wave.
-/

namespace Sys2Proof.Machine

/-! ### Lists in order -/

/-- A list sorted by a relation "goes before", stable. -/
def insertBy {α : Type} (before : α → α → Bool) (a : α) : List α → List α
  | [] => [a]
  | b :: l => if before b a then b :: insertBy before a l else if before a b then a :: b :: l else b :: insertBy before a l
def sortBy {α : Type} (before : α → α → Bool) : List α → List α
  | [] => []
  | a :: l => insertBy before a (sortBy before l)

/-- Lexicographic order on lists of numbers, smaller first. -/
def lexBefore : List Int → List Int → Bool
  | a :: l, b :: m => decide (a < b) || (a == b && lexBefore l m)
  | _, _ => false

/-- Amounts given out of a total, in order. -/
def giveOut : Nat → List (Ctx × Nat) → List (Ctx × Nat)
  | _, [] => []
  | left, (c, m) :: l => (c, min m left) :: giveOut (left - min m left) l
def total (l : List (Ctx × Nat)) : Nat := l.foldl (fun n q => n + q.2) 0
def given (l : List (Ctx × Nat)) (c : Ctx) : Nat := ((l.find? (·.1 == c)).map (·.2)).getD 0

/-- The flows of a list in the order of a pass: descending priority, lower context first; Feeder flows before the Lend
flows of their port (R324, R374). -/
def State.byPrio (s : State) (l : List Ctx) : List Ctx :=
  let feeder (d : FlowDef) : Nat := ((allCtx.find? fun c => s.ctx[c].st != .free && s.ctx[c].d.kind == 4 && s.ctx[c].d.port == d.port).map
    fun c => s.ctx[c].d.prio).getD 0
  let key (c : Ctx) : List Int :=
    let d := s.ctx[c].d
    let p := if d.kind = 5 then min d.prio (feeder d) else d.prio
    [-(p : Int), if d.kind = 5 then 1 else 0, -(d.prio : Int), c.val]
  sortBy (fun a b => lexBefore (key a) (key b)) l

/-- Whether a flow carries energy into the culm. -/
def FlowDef.inward (d : FlowDef) : Bool := d.kind == 1 || d.kind == 3 || d.kind == 6

/-- The conversion efficiency between a flow's port and the culm, per cent (R4): 98 at P1-P4, 99 at B1-B3. -/
def FlowDef.eff (d : FlowDef) : Nat := if d.kind = 2 ∨ d.kind = 3 then 99 else 98

/-- The culm-side power of a power at the flow's port, and the reverse, W. -/
def FlowDef.culmW (d : FlowDef) (w : Nat) : Nat := if d.inward then w * d.eff / 100 else w * 100 / d.eff
def FlowDef.portW (d : FlowDef) (w : Nat) : Nat := if d.inward then w * 100 / d.eff else w * d.eff / 100

/-- The power of a current at a voltage, W, and the current of a power; no limit stands at zero voltage. -/
def wattsOf (cur mv : Nat) : Nat := cur * mv / 100000
def curOf (w mv : Nat) : Nat := if mv = 0 then 0 else w * 100000 / mv

/-- The voltage at a flow's local port, mV. -/
def State.flowMv (s : State) (d : FlowDef) : Nat :=
  match d.port.bind Port.group? with
  | some g => s.groupVolts g
  | none => 0

/-- A power limit as a current at a flow's port; none where the power limit is 0 or there is no voltage. -/
def State.plimCur (s : State) (d : FlowDef) (w : Nat) : Option Nat :=
  if w = 0 ∨ s.flowMv d = 0 then none else some (curOf w (s.flowMv d))

/-- The lower of a current and an optional limit. -/
def capTo (n : Nat) : Option Nat → Nat
  | some m => min n m
  | none => n

/-- The safe profile of a flow while it governs (R212). -/
def State.safeProf (s : State) (f : FlowCtx) : Option SafeProf :=
  if f.safe then
    match s.img.image, f.d.kind with
    | some i, 1 => some i.safe[(0 : Fin 6)]
    | some i, 2 => some i.safe[(1 : Fin 6)]
    | some i, 3 => some i.safe[(2 : Fin 6)]
    | some i, 4 => some i.safe[(3 : Fin 6)]
    | some i, 5 => some i.safe[(4 : Fin 6)]
    | some i, 6 => some i.safe[(5 : Fin 6)]
    | _, _ => none
  else none

/-- The port's own limit (R318). -/
def ownLimit (d : FlowDef) : Nat := if d.kind = 2 ∨ d.kind = 3 then 20000 else 3200

/-- The flow's own current limit: DEF1.ilim, or the port's own limit where it is 0 (R318). -/
def flowIlim (d : FlowDef) : Nat := if d.ilim = 0 then ownLimit d else d.ilim

/-- The entry of the present phase of a battery port, if the phase has one (R234), and the safe profile's entry for the
same phase while it governs (R248). -/
def State.ownPhase (s : State) (p : BPort) : Option PhaseEntry := s.chg[p].wc.bind fun w => w.phase? s.chg[p].phase
def State.safePhase (s : State) (p : BPort) : Option PhaseEntry := (s.safeProfile p).bind fun w => w.phase? s.chg[p].phase
def State.phaseNow (s : State) (p : BPort) : Option PhaseEntry := match s.ownPhase p with
  | some e => some e
  | none => s.safePhase p

/-- The ilim of the present phase of a Charge flow's port, the lower of the two where the safe profile governs (R234,
R248, R318). -/
def State.phaseIlim (s : State) (d : FlowDef) : Option Nat :=
  match d.port.bind Port.bat? with
  | some p =>
    if d.kind = 2 then (s.phaseNow p).map fun e => 10 * min 2000 (capTo e.ilim ((s.safePhase p).map (·.ilim))) else none
  | none => none

/-- The power limit of a safe profile as a current at a flow's port: a limit of 0 holds the flow at zero (R396). -/
def State.safePlim (s : State) (d : FlowDef) (q : SafeProf) : Option Nat := if q.plim = 0 then some 0 else s.plimCur d q.plim

/-- The flow's own limit in force, 10 mA: current and power, those of the safe profile while it governs (R201, R212). -/
def State.ownLim (s : State) (f : FlowCtx) : Nat :=
  match s.safeProf f with
  | some q => capTo q.ilim (s.safePlim f.d q)
  | none => capTo (flowIlim f.d) (s.plimCur f.d f.d.plim)

/-- A limit of a flow's own, as it stands while a lowered one ramps down (R201). -/
def State.eased (s : State) (f : FlowCtx) (i : Nat) : Nat := if s.ownLim f < f.lim / 10000 then max i (f.lim / 10000) else i

/-- The configured limit I_cfg of a flow (R318). -/
def State.cfgLimit (s : State) (f : FlowCtx) : Nat :=
  let i := capTo (s.eased f (flowIlim f.d)) (s.phaseIlim f.d)
  match f.d.kind, f.d.port.bind Port.src? with
  | 1, some p => min i (s.srcIlim p)
  | _, _ => i

/-- The factor k of R318 on a limit: the throttle factor or the first-use factor, whichever is lower. -/
def State.throttled (s : State) (i : Nat) : Nat :=
  min (i * (16 - s.thm.step) / 16) (if s.thr.first then i / 4 else i)

/-- The THR_PLIM word in force for a flow's port (R317). -/
def State.portLimit (s : State) (d : FlowDef) : Word :=
  match d.port.bind Port.group? with
  | some g => s.thr.inForce.plim[g]
  | none => 0

/-- The capacity of a flow's group, its prospective one where none of its members switches yet, or its die-limited current where that is
lower (R82, R317, R320). -/
def State.groupLimit (s : State) (d : FlowDef) (die : Vector (Option Nat) 7) : Nat :=
  match d.port.bind Port.group? with
  | some g => capTo (s.prospect g) die[g]
  | none => 0

/-- The current ceiling c_f of R317 without its item 4. -/
def State.ceiling0 (s : State) (f : FlowCtx) : Nat :=
  let d := f.d
  let i := s.throttled (s.cfgLimit f)
  let i := capTo i ((s.plimCur d d.plim).map (s.eased f))
  let pl := s.portLimit d
  let i := if pl.bits 15 0 = 0 then i else min i (pl.bits 15 0)
  let i := capTo i (s.plimCur d (pl.bits 31 16))
  let i := match s.safeProf f with
    | some q => capTo (min i (s.eased f q.ilim)) ((s.safePlim d q).map (s.eased f))
    | none => i
  let i := if f.st = .closing ∨ f.st = .suspended then min i f.cur.natAbs else i
  if d.kind = 6 then min i f.peerGrant else i

/-- The current ceiling c_f (R317). -/
def State.ceiling (s : State) (f : FlowCtx) (die : Vector (Option Nat) 7) : Nat :=
  min (s.ceiling0 f) (s.groupLimit f.d die)

/-! ### Battery ports (R194, R234, R242, R535) -/

/-- The own limit followed over an iteration (R201, R203): a lowered limit ramps down at the flow's ramp rate, and after a return to
Live it ramps up from zero. -/
def State.rampLim (s : State) (f : FlowCtx) (ns : Nat) : FlowCtx :=
  let want := 10000 * s.ownLim f
  let step := f.d.ramp * ns
  let lim := if want < f.lim then max want (f.lim - step) else if f.rising then min want (f.lim + step) else want
  { f with lim := lim, rising := f.rising && decide (lim < want) }

/-- A flow's grant in force: under its own limit as it is ramped, a Borrow flow under what its lender grants, less 2 % (R201, R208,
R213). -/
def State.grantNow (f : FlowCtx) : Nat :=
  let i := min f.grant (f.lim / 10000)
  if f.d.kind = 6 then min i (f.peerGrant * 98 / 100) else i

/-- The phase's current target before the grant, under an own limit of the flow (R234, R326): zero in Qualify and Rest, while the
phase is held, and while the BMS limit is exceeded. -/
def State.chgNeed (s : State) (f : FlowCtx) (own : Nat) : Nat :=
  match f.d.port.bind Port.bat? with
  | none => 0
  | some p =>
    match s.phaseIlim f.d with
    | none => 0
    | some i =>
      if s.chgHeld p || s.chg[p].bmsOver then 0
      else match s.lithium p with
        | some l => if s.bmsLive l then min (min i own) (s.bmsShare l.bms s.bms[l.bms].act.ccl) else 0
        | none => min i own

/-- D_f of a Charge flow (R326), and the current that it may take now (R234). -/
def State.chgDemand (s : State) (f : FlowCtx) : Nat := s.chgNeed f (s.ownLim f)
def State.chgWant (s : State) (f : FlowCtx) : Nat := min (s.chgNeed f (f.lim / 10000)) (State.grantNow f)

/-- The mean current of a Charge flow at most: while the perturbation stands on it, lower by its amplitude than every limit of R234 and
200 A (R261). -/
def State.chgMean (s : State) (f : FlowCtx) : Nat :=
  let most := min 20000 (s.chgWant f)
  match f.d.port.bind Port.bat? with
  | some p => if s.perturbs p then most - (s.estAmp p + 9) / 10 else most
  | none => most

/-! ### Source ports (R160, R161, R163) -/

/-- Voltage foldback (R161), W; none where it does not apply. -/
def State.vFold (s : State) (p : SPort) : Option Nat :=
  let vfold := (s.reg (srcPfldAt p)).bits 15 0
  let vmin := s.src[p].qv.bits 15 0
  let v := s.src[p].v
  if vfold = 0 ∨ vfold ≤ v then none
  else if vfold ≤ vmin ∨ v ≤ vmin then some 0
  else some (s.srcPlim p * (v - vmin) / (vfold - vmin))

/-- The limit that the present frequency asks for under frequency foldback (R161), W: 5 % of plim less for each further
0.1 Hz below the fold point. -/
def State.fFold (s : State) (p : SPort) : Option Nat :=
  let ffold := (s.reg (srcPfldAt p)).bits 31 24
  let x := s.src[p]
  if x.role ≠ .ac ∨ ffold = 0 then none
  else
    let below := x.nomF - 10 * ffold - x.freq
    some (s.srcPlim p * (200 - min 200 below) / 200)

/-- The culm-side power that Live flows of a kind may carry at battery ports, in the order of R112, W. -/
def State.batPower (s : State) (kind : Nat) : List (Ctx × Nat) :=
  (s.byPrio (allCtx.filter fun c => s.ctx[c].st == .live && s.ctx[c].d.kind == kind)).map fun c =>
    let f := s.ctx[c]
    let most := match f.d.port.bind Port.bat? with
      | some p => min (s.capacity p.group) (if kind = 2 then s.chgWant f else if s.mayDischarge f then capTo (State.grantNow f) (s.disLimit p) else 0)
      | none => 0
    (c, f.d.culmW (wattsOf most (s.flowMv f.d)))

/-- The power at a port of what a list gives to its flows, W. -/
def State.portPower (s : State) (p : Port) (l : List (Ctx × Nat)) : Nat :=
  l.foldl (fun n q => if s.ctx[q.1].d.port = some p then n + s.ctx[q.1].d.portW q.2 else n) 0

/-- The greatest number up to a bound of which a condition holds, else 0. -/
def lastTrue (f : Nat → Bool) : Nat → Nat
  | 0 => 0
  | n + 1 => if f (n + 1) then n + 1 else lastTrue f n

/-- The culm-side power that other supplying sources give, and that loads and Live Feeder flows take, W. -/
def State.othersW (s : State) (p : SPort) : Nat :=
  allSrc.foldl (fun n q => if q ≠ p ∧ s.src[q].st = .supplying then n + s.src[q].pwr.toNat * 98 / 100 else n) 0
def State.feedersW (s : State) : Nat :=
  allCtx.foldl (fun n c => if s.ctx[c].st = .live ∧ s.ctx[c].d.kind = 4 then n + s.ctx[c].d.culmW (wattsOf s.ctx[c].cur.natAbs (s.flowMv s.ctx[c].d)) else n) 0
def State.loadW (s : State) : Nat := s.culm.ild.toNat * s.culm.vmeas / 100000 + s.feedersW

/-- The ripple headroom of an AC port (R163), W at the port: the largest mean culm-side power at which the sum, over buffer ports with
a Live flow, of what each can carry less the mean that R112 gives it at that power is at least the power itself. -/
def State.ripple (s : State) (p : SPort) : Nat :=
  let bufs := allBat.filter fun b => s.src[p].rbuf.getLsbD b.val &&
    allCtx.any fun c => s.ctx[c].st == .live && s.ctx[c].d.port == some b.port
  if bufs.isEmpty then 0
  else
    let chg := s.batPower 2
    let dis := s.batPower 3
    let others := s.othersW p
    let load := s.loadW
    let most := bufs.map fun b => (b, wattsOf (min 20000 (s.capacity b.group)) s.bat[b].vterm.toNat)
    let head (w : Nat) : Int :=
      let c := giveOut (w + others - load) chg
      let d := giveOut (load - (w + others)) dis
      most.foldl (fun n q => n + q.2 - (s.portPower q.1.port c + s.portPower q.1.port d : Nat)) 0
    lastTrue (fun w => decide ((w : Int) ≤ head w)) 16000 * 100 / 98

/-- The limits of R160 on a source port's draw under a capacity of its group, in nW, by code: 2-8 and 11. Code 8 follows the commanded
draw of the port's flow for `ns` nanoseconds. -/
def State.limitsUnder (s : State) (cap : Nat) (p : SPort) (f : FlowCtx) (ns : Nat) : List (Nat × Nat) :=
  let mv := 100 * s.src[p].v
  let g := 1000000000
  let rise := f.d.ramp * ns * mv
  let port := 100 * (s.reg (srcPfldAt p)).bits 23 16 * ns
  [(2, 10000 * s.srcIlim p * mv), (3, g * s.srcPlim p), (4, 10000 * cap * mv)] ++
  (if s.src[p].role = .ac then [(5, g * s.ripple p)] else []) ++
  (match s.vFold p with | some w => [(6, g * w)] | none => []) ++
  (match s.fFold p with | some _ => [(7, s.src[p].foldW)] | none => []) ++
  [(8, f.cmd * mv + (if port = 0 then rise else min rise port)), (11, 32000000 * mv)]

def State.srcLimits (s : State) (p : SPort) (f : FlowCtx) (ns : Nat) : List (Nat × Nat) := s.limitsUnder (s.capacity p.group) p f ns

/-- The lowest of a list of limits: its code, the first among equals, and its value. -/
def lowest : List (Nat × Nat) → Option (Nat × Nat)
  | [] => none
  | a :: l => match lowest l with
    | none => some a
    | some b => if b.2 < a.2 then some b else some a

/-- The availability A_f of a source port for a flow (R326), W at the port: on class 0 the tracked maximum, for a Draw flow the power
available at its held reference (R166; assumption 77); else the lowest limit of R160 other than codes 1, 9 and 10, under the prospective
capacity of a group that does not switch yet (R82). -/
def State.avail (s : State) (p : SPort) (f : FlowCtx) : Nat :=
  if s.src[p].role = .dc ∧ s.src[p].cls = 0 then s.src[p].mppt.avail
  else match lowest (s.limitsUnder (s.prospect p.group) p f s.sense.groups[p.group].itLast) with
    | some (_, w) => w / 1000000000
    | none => 0

end Sys2Proof.Machine
end

