-- ==== Sys2Proof/Machine/Tracker.lean ====
section
/-!
DEFINITION. What a hand-over is covered by, sweeps, SRC_PCTL and the maximum power point tracker (R166-R170, R176-R180). References
are in mV, powers in W.
-/

namespace Sys2Proof.Machine

/-! ### What the other ports can supply (R169, R177) -/

/-- Whether a port is a class 0 source, which tracks. -/
def SrcRec.isPv (x : SrcRec) : Bool := x.role == .dc && x.cls == 0

/-- The culm-side power that a Supplying port can rise to, W: the lowest of its limits of R160 other than the ramp and curtailment. -/
def State.srcAble (s : State) (p : SPort) : Nat :=
  match s.srcFlow p with
  | some c =>
    let f := s.ctx[c]
    let x := s.src[p]
    let l := (1, 1000000 * State.grantNow f * x.v) :: ((s.srcLimits p f 0).filter fun q => q.1 != 8) ++
      (if x.isPv then [(9, 1000000000 * x.mppt.avail)] else [])
    if x.st = .supplying then ((lowest l).map (·.2)).getD 0 / 1000000000 * 98 / 100 else 0
  | none => 0

/-- The culm-side power of the Live Discharge flows served by Active cells, W: each at the lower of its grant and its group's
capacity. -/
def State.disAble (s : State) : Nat :=
  (s.batPower 3).foldl (fun n q =>
    match s.ctx[q.1].d.port.bind Port.group? with
    | some g => if (s.members g).any (fun m => s.cells[m].st == .active) then n + q.2 else n
    | none => n) 0

/-- The culm-side power that the Live Discharge flows give now, W. -/
def State.disNow (s : State) : Nat :=
  allCtx.foldl (fun n c =>
    let f := s.ctx[c]
    if f.st = .live ∧ f.d.kind = 3 then n + f.d.culmW (wattsOf f.cur.natAbs (s.flowMv f.d)) else n) 0

/-- What the other sources can rise to, W. -/
def State.othersAble (s : State) (p : SPort) : Nat := (allSrc.filter (· != p)).foldl (fun n q => n + s.srcAble q) 0

/-- Whether the other sources' headroom and the Live discharge grants cover the culm demand of loads and feeders (R177). -/
def State.covered (s : State) (p : SPort) : Bool := decide (s.loadW ≤ s.othersAble p + s.disAble)

/-- Whether what the discharge grants and the other sources have left covers the port's present culm-side power (R169). -/
def State.sweepCovered (s : State) (p : SPort) : Bool :=
  decide (s.src[p].pwr.toNat * 98 / 100 ≤ (s.othersAble p - s.othersW p) + (s.disAble - s.disNow))

/-! ### The end of a hand-over (R176-R181) -/

/-- HAND_OVER_COMPLETE (step 4 of R176): a Lost port is Absent, or Halted where a halt line met it, and presence is judged afresh;
SRC_HOV holds the hand-over, the earliest t0 where several coincide within 40 us; a shortfall is source 6, judged at this moment
(R178-R181, R184; assumption 71). -/
def execHandOverComplete (p : SPort) (durUs droop : Nat) (s : State) : Ans :=
  let x := s.src[p]
  match x.hov with
  | none => .next s
  | some (t0, after) =>
    let full := s.covered p
    let joins := s.hov.t0 ≤ t0 && decide (t0 ≤ s.hov.t0 + 40) && s.hov.dur != 0
    let h : HovRec :=
      if joins then { s.hov with full := s.hov.full && full, dur := sat 255 (max s.hov.dur (durUs + (t0 - s.hov.t0)))
                                 droop := sat 65535 (max s.hov.droop droop) }
      else { port := p.val, full := full, dur := sat 255 durUs, droop := sat 65535 droop, t0 := t0 }
    let t := { s with hov := h }.setSrc p
      (if x.st = SrcState.lost then
         { x with hov := none, st := after, cause := if after = SrcState.halted then 9 else x.cause, since := s.now, judgeAt := s.now }
       else { x with hov := none, judgeAt := s.now })
    .next (if full then t else t.occur bSRC 6 p.val)

/-! ### Sweeps and SRC_PCTL (R168, R169, R174, R181) -/

/-- A sweep begun. -/
def SrcRec.startSweep (x : SrcRec) (now : Nat) (half : Bool) : SrcRec :=
  { x with mppt := { x.mppt with sweep := some ⟨now, half, x.mppt.vref, x.mppt.vref, x.pwr, false⟩, deferAt := none } }

/-- A sweep wanted (R168, R169): started where it is covered, as a partial sweep after four deferred intervals, else deferred. -/
def State.wantSweep (s : State) (p : SPort) : State :=
  let x := s.src[p]
  let late := s.srcSweep p != 0 && x.mppt.deferAt.any fun t => decide (t + 4 * s.srcSweep p ≤ s.now)
  if x.st ≠ .supplying ∨ x.mppt.sweep.isSome = true then s
  else if s.sweepCovered p then s.setSrc p (x.startSweep s.now false)
  else if late then s.setSrc p (x.startSweep s.now true)
  else s.setSrc p { x with mppt := { x.mppt with deferAt := some (x.mppt.deferAt.getD s.now) } }

/-- A deferred sweep tried again at a round (R169). -/
def State.retrySweep (s : State) (p : SPort) : State := if s.src[p].mppt.deferAt.isSome then s.wantSweep p else s

/-- sweep: on a class 0 port (R168). -/
def State.sweepSrc (s : State) (p : SPort) : State := if s.src[p].isPv then s.wantSweep p else s

/-- The effect of a write of SRC_PCTL: rearm, requal and sweep bits in turn. -/
def State.writePctl (s : State) (p : SPort) (v : Word) : State :=
  let s := if v.bit 0 then s.rearmSrc p else s
  let s := if v.bit 1 then s.requalSrc p else s
  if v.bit 2 then s.sweepSrc p else s

/-- SRC_SWEEP, carried to the next iteration (R23, R182). -/
def execSrcSweep (r : Req) (p : SPort) (s : State) : Ans := .next (s.viaService r (srcPctlAt p) fun s => s.carry (srcPctlAt p) 4)

/-- The ends of a sweep, mV (R168, R169): the latched vmin, in a partial sweep no lower than 0.8 of the voltage at its start, and 0.95
of the last open-circuit voltage. -/
def SrcRec.sweepLow (x : SrcRec) (w : Sweep) : Nat := if w.half then max (100 * x.lossV) (8 * w.from_ / 10) else 100 * x.lossV
def SrcRec.sweepTop (x : SrcRec) : Nat := 95 * x.voc

/-- The reference at a point of a sweep: 32 points down from the present voltage, then 32 up (R168; assumption 78). -/
def SrcRec.sweepRef (x : SrcRec) (w : Sweep) (k : Nat) : Nat :=
  let low := x.sweepLow w
  if k < 32 then w.from_ - (w.from_ - low) * k / 31 else low + (x.sweepTop - low) * (k - 31) / 32

/-- The tracker's reference followed through a sweep: one point in every 8 ms, so that the 64 points take less than 600 ms (R168). -/
def State.followSweep (s : State) (p : SPort) : State :=
  let x := s.src[p]
  match x.mppt.sweep with
  | some w => s.setSrc p { x with mppt := { x.mppt with vref := x.sweepRef w (min 63 ((s.now - w.start) / 8000)) } }
  | none => s

/-! ### The tracker (R166-R169) -/

/-- Whether a port tracks: class 0, Supplying, with a Live flow of policy MPPT and no curtailment (R166, R167). -/
def State.tracks (s : State) (p : SPort) : Bool :=
  s.src[p].st == .supplying && s.src[p].cls == 0 && s.src[p].role == .dc && s.src[p].lim != 10 &&
    (match s.srcFlow p with
     | some c => s.ctx[c].d.policy == 1
     | none => false)

/-- MPPT_PERTURB: every t_per the reference moves by one step within the window; power that fell reverses the direction
and halves the step, down to 0.1 %, and two moves in one direction restore it (R166). -/
def execMpptPerturb (p : SPort) (power : Nat) (s : State) : Ans :=
  let x := s.src[p]
  let m := x.mppt
  if s.tracks p = true ∧ m.sweep = none ∧ m.movedAt + 1000 * (s.reg (srcMpptAt p)).bits 7 0 ≤ s.now then
    let back := decide (power < m.lastPower)
    let up := if back then !m.up else m.up
    let step := if back then max 10 (m.step / 2) else m.step
    let same := if back then 1 else m.same + 1
    let d := m.vref * step / 10000
    let to_ := if up then m.vref + d else m.vref - d
    .next (s.setSrc p { x with mppt := { m with
      vref := max (100 * x.lossV) (min to_ (100 * (s.reg (srcQvAt p)).bits 31 16)), up := up,
      step := if 2 ≤ same then s.srcStep p else step, same := same, lastPower := power, avail := power, movedAt := s.now } })
  else .next s

/-- MPPT_SWEEP_START: the interval has passed, or power has fallen by more than 20 % within 1 s by no limit (R168). -/
def execMpptSweepStart (p : SPort) (fallPct : Nat) (s : State) : Ans :=
  let due := s.srcSweep p != 0 && decide (s.src[p].mppt.sweptAt.getD s.src[p].since + s.srcSweep p ≤ s.now)
  let fell := decide (20 < fallPct) && s.src[p].lim == 9
  if s.tracks p = true ∧ (due || fell) = true then .next (s.wantSweep p) else .next s

/-- MPPT_SWEEP_DONE: once the 64 points have passed, the reference is set at the point of highest power that the waves have recorded
(R168); where no wave has measured a point it is the one that the command brings, `best` in 100 mV, within the ends of the sweep. A held
reference moves with it (R166). -/
def execMpptSweepDone (p : SPort) (best : Nat) (s : State) : Ans :=
  let x := s.src[p]
  match x.mppt.sweep with
  | none => .next s
  | some w =>
    let ref := if w.seen then w.best else max (x.sweepLow w) (min (100 * best) x.sweepTop)
    if s.now < w.start + 512000 then .next s
    else
      let m := { x.mppt with vref := ref, heldRef := ref, sweep := none, sweptAt := some s.now, deferAt := none }
      .next (s.setSrc p { x with mppt := m })

end Sys2Proof.Machine
end

