-- ==== Sys2Proof/Machine/Thresher.lean ====
section
/-!
DEFINITION. Thresher: commits, decision rounds, allocation in six passes, peak, surplus, deferral, generating sets and
cell orders (R313-R343).
-/

namespace Sys2Proof.Machine

/-! ### Commit (R33, R337) -/

/-- THR_COMMIT (R340). -/
def thrCommitAt : Nat := 0x0D0008

/-- The shadowed set as it stands in the registers. -/
def State.shadow (s : State) : ThrSet :=
  { budp := s.reg thrBudpAt, budh := s.reg thrBudhAt, cset := s.reg thrCsetAt, cwin := s.reg thrCwinAt,
    gen := s.reg thrGenAt, fc := Vector.ofFn fun k => s.reg (thrFcAt k), plim := Vector.ofFn fun g => s.reg (thrPlimAt g) }

/-- THR_CWIN clamped into the image's limits (R337). -/
def State.clampWin (s : State) (w : Word) : Word :=
  let lo := max (w.bits 15 0) (s.cimg.bits 15 0)
  let hi := min (w.bits 31 16) (s.cimg.bits 31 16)
  BitVec.ofNat 32 (lo + 65536 * hi)

/-- A write of THR_COMMIT (R331, R337): the whole set is taken, or none of it with THR source 1. -/
def State.commit (s : State) (v : Word) : State :=
  if v.bit 0 then
    let set := { s.shadow with cwin := s.clampWin (s.reg thrCwinAt) }
    let lo := set.cwin.bits 15 0
    let hi := set.cwin.bits 31 16
    let vnom := set.cset.bits 15 0
    let x := { s.thr with cseq := (s.thr.cseq + 1) % 256 }
    if hi < lo then { s with thr := { x with cres := 2, ccause := 2 } }.occur bTHR 1 0
    else if vnom < lo ∨ hi < vnom then { s with thr := { x with cres := 2, ccause := 1 } }.occur bTHR 1 0
    else { s with thr := { x with
      cres := 1, ccause := 0, fcNew := x.fcNew || x.fcTouched, fcTouched := false
      committed := if x.fcTouched then set else { set with fc := x.committed.fc } } }
  else s

/-- THR_COMMIT. -/
def execThrCommit (r : Req) (v : Word) (s : State) : Ans := .next (s.viaService r thrCommitAt fun s => s.commit v)

/-! ### The culm setpoint (R113, R380-R389) -/

/-- A value moved towards another by at most a step. -/
def stepTo (a b n : Nat) : Nat := if a ≤ b then min b (a + n) else max b (a - n)

/-- How far two voltages are apart, mV. -/
def apart (a b : Nat) : Nat := max a b - min a b

/-- The ramp value of the culm setpoint at this moment, mV: beyond a window edge on its way at the slew kept for it (R389). -/
def State.rampNow (s : State) : Nat :=
  let c := s.culm
  let t := s.now - c.slewAt
  match c.edge with
  | none => stepTo c.slewFrom c.target (c.slew * t / 1000)
  | some (e, n) =>
    if c.slew * t / 1000 < apart c.slewFrom e then stepTo c.slewFrom e (c.slew * t / 1000)
    else stepTo e c.target (n * (t - 1000 * apart c.slewFrom e / c.slew) / 1000)

/-- The setpoint sent towards a target at a slew in mV/ms, from its present ramp value (R383). -/
def State.retarget (s : State) (target slew : Nat) : State :=
  let r := s.rampNow
  { s with culm := { s.culm with vset := r, slewFrom := r, slewAt := s.now, edge := none, target := target, slew := slew } }

/-- A voltage clamped into the window in force. -/
def State.inCwin (s : State) (v : Nat) : Nat :=
  max (s.thr.inForce.cwin.bits 15 0) (min (s.thr.inForce.cwin.bits 31 16) v)

/-- Whether the setpoint is on its way to its target. -/
def State.ramping (s : State) : Bool := s.rampNow != s.culm.target

/-- The slew of the command that the setpoint follows, mV/ms. -/
def CulmRec.cmdSlew (c : CulmRec) : Nat := (c.edge.map (·.2)).getD c.slew

/-- What the first round under a COMMIT does to the setpoint (R113, R387, R389): without an Awn setpoint it goes to vnom; a target outside
the window is clamped again, and a ramp value outside it goes to the window's edge at 1 V/ms or the command's slew where that is lower.
An activation's drain and bridge hold the setpoint (R413, R416). -/
def State.commitSetpoint (s : State) : State :=
  if s.img.bridge = true ∨ s.img.req.any (·.plan) = true then s
  else if s.awn.src = 0 then
    let vnom := s.thr.inForce.cset.bits 15 0
    if s.culm.target = vnom then s else s.retarget vnom 1000
  else
    let t := s.inCwin s.culm.target
    let r := s.rampNow
    let n := if s.ramping then s.culm.cmdSlew else 1000
    if s.inCwin r ≠ r then
      let u := s.retarget t (min n 1000)
      { u with culm := { u.culm with edge := some (s.inCwin r, n) } }
    else if t = s.culm.target then s
    else s.retarget t n

/-! ### Figures of a round (R321-R323, R325, R331, R332) -/

/-- The flows that a round latches: those that are Live, Closing or Suspended (R317). -/
def State.latched (s : State) : List Ctx :=
  allCtx.filter fun c => s.ctx[c].st == .live || s.ctx[c].st == .closing || s.ctx[c].st == .suspended

/-- The mean culm-side power into the culm since the last latch, W (R313, R321). -/
def State.meanThru (s : State) : Nat := if s.now ≤ s.thr.lastAt then 0 else s.thr.eIn / (100000000 * (s.now - s.thr.lastAt))

/-- The peak and recovery timers after a time at a throughput (R322). -/
def ThrRec.peaked (x : ThrRec) (pthr dt : Nat) : ThrRec :=
  let tpk := if 30000 < pthr then min 60000000 (x.tpk + dt) else x.tpk
  let trec := if pthr ≤ 24000 then x.trec + dt else 0
  if 300000000 ≤ trec then { x with tpk := 0, trec := 0, peakx := false }
  else { x with tpk := tpk, trec := trec, peakx := x.peakx || decide (60000000 ≤ tpk) }

/-- The peak rule over the time since the last latch, with THR source 3 (R322). -/
def State.peakRule (s : State) (pthr dt : Nat) : State :=
  let t := { s with thr := s.thr.peaked pthr dt }
  if s.thr.peakx = false ∧ t.thr.peakx = true then t.occur bTHR 3 0 else t

/-- The peak and recovery timers as they read: as of the last latch, and in Zeroed, where they keep counting, as of now (R316, R322). -/
def State.peakNow (s : State) : ThrRec :=
  if s.thr.st = .zeroed then s.thr.peaked s.meanThru (s.now - s.thr.lastAt) else s.thr

/-- P_cap and the code of the term that governs it (R321): the first code among equals. -/
def State.pcap (s : State) : Nat × Nat :=
  let f := s.thr.inForce
  match lowest [(1, f.budp.bits 15 0), (2, s.thr.stk), (3, if s.thr.peakx then 30000 else 36000),
                (4, f.budp.bits 25 16 * s.culm.vset / 1000)] with
  | some (b, w) => (w, b)
  | none => (0, 0)

/-- The forecast slot of a moment; 8 and more have passed (R331). -/
def State.fcSlot (s : State) (t : Nat) : Nat := (t - s.thr.fcStart) / 900000000

/-- The load estimate L (R325), W: the mean load is negative where the loads feed the culm. -/
def State.loadEst (s : State) (t : Nat) : Int :=
  let mean : Int := if s.thr.nsLoad = 0 then 0 else s.thr.eLoad * s.culm.vset / (s.thr.nsLoad * 100000)
  let k := s.fcSlot t
  if h : k < 8 then (if s.thr.fcValid then max mean (s.thr.inForce.fc[k].bits 15 0) else mean) else mean

/-- E_need (R332), Wh: over what is left of each slot. -/
def State.eneed (s : State) (t : Nat) : Nat :=
  if s.thr.fcValid then
    (List.finRange 8).foldl (fun n (k : Fin 8) =>
      let w := s.thr.inForce.fc[k]
      let e := s.thr.fcStart + 900000000 * (k.val + 1)
      let left := min 900000000 (e - t)
      n + (w.bits 15 0 - w.bits 31 16) * left) 0 * 100 / 99 / 3600000000
  else 0

/-- E_bat (R332), Wh: over battery ports with a Live Discharge flow and a formed state of charge. -/
def State.ebat (s : State) : Nat :=
  allBat.foldl (fun n p =>
    let live := allCtx.any fun c => s.ctx[c].st == .live && s.ctx[c].d.kind == 3 && s.ctx[c].d.port == some p.port
    if live && s.est[p].formed && s.estCap p != 0 then
      let left := s.soc p - 10 * s.socUnc p - 100 * s.thr.inForce.gen.bits 7 0
      n + s.estCap p * s.bat[p].vterm.toNat * left / 10000000
    else n) 0

/-- The loss of each cell if a group carried a current, W (R320): the present loss of each switching member scaled along the loss
relation, shared equally where it carries none now; the other cells as they are. -/
def State.lossesAt (s : State) (g : Group) (cur : Nat) : List Nat :=
  let l := s.switching g
  let mw (i : Nat) : Nat := Config.loss g.val i (s.groupVolts g) l.length
  let was := mw (s.groupCur g)
  allCells.map fun c =>
    if l.contains c then (if was = 0 then mw cur / (1000 * l.length) else s.cells[c].loss * mw cur / was) else s.cells[c].loss

/-- Whether no switching member's predicted die temperature exceeds THR_CFG.tdie at a group current (R288, R320, R292, assumption 98). -/
def State.dieOk (s : State) (g : Group) (cur : Nat) : Bool :=
  let x := s.thm
  let up : Int := if x.mconv then 0 else 80
  let inputs := s.thmInputsAt (s.lossesAt g cur)
  (s.switching g).all fun c =>
    decide ((if x.invalid then x.die[c].2 else satInt 16 (Config.thmAhead s.thmCal inputs (s.thmCfg.bits 3 0) (48 + c.val) + up)) ≤
      16 * s.thrCfg.bits 23 16)

/-- The die-limited current of each group (R320): none where no member switches; else the largest current up to the capacity at which
no die exceeds tdie, which rises by at most 10 % of the capacity from one round to the next. -/
def State.dieLims (s : State) : Vector (Option Nat) 7 :=
  Vector.ofFn fun g : Group =>
    if s.switching g = [] then none
    else
      let i := lastTrue (s.dieOk g) (s.capacity g)
      some (match s.groups[g].dieLim with
        | some d => min i (d + s.capacity g / 10)
        | none => i)

/-! ### First use and deferral (R319, R330) -/

/-- The first-use factor ends after 10 min of Run, or once the estimator has converged (R319). -/
def State.firstUse (s : State) : State :=
  let x := s.thr.countRun s.now
  if x.first = true ∧ (600000000 ≤ x.firstUs ∨ s.estConv = true) then { s with thr := { x with first := false, firstDone := true } }
  else { s with thr := x }

/-- Whether a flow of a round is deferred (R330). -/
def State.deferred? (s : State) (f : FlowCtx) : Bool :=
  f.d.kind == 2 && f.d.defer && (f.st == .live || f.st == .closing || f.st == .suspended) && s.thr.defer &&
    match f.d.port.bind Port.bat? with
    | some p => decide (s.thr.deferUs[p].1 ≠ s.chg[p].since ∨ s.thr.deferUs[p].2 < 3600000000 * s.thrCfg.bits 31 28)
    | none => false

/-- The deferral condition and the deferred times of a round (R330). -/
def State.deferRule (s : State) (dt : Nat) : State :=
  let x := s.thr
  let s := { s with thr := { x with defer := x.defer || decide (s.deferAt 0 ≤ s.thm.tctl) } }.deferCool
  forEach allBat (fun s p =>
    match s.chgFlow p with
    | some c =>
      let (e, us) := s.thr.deferUs[p]
      let us := if e = s.chg[p].since then us else 0
      let us := if s.deferred? s.ctx[c] then us + dt else us
      { s with thr := { s.thr with deferUs := vset s.thr.deferUs p (s.chg[p].since, us) } }
    | none => s) s

/-- DEFERRAL_END: T_ctl has stayed 5 degC below the deferral threshold for 60 s (R330). -/
def execDeferralEnd (s : State) : Ans :=
  if s.thr.defer = true ∧ s.thr.coolAt.any (fun t => decide (t + 60000000 ≤ s.now)) = true then
    .next { s with thr := { s.thr with defer := false } }
  else .next s

/-! ### Generating sets (R332, R333) -/

/-- Whether a flow draws from a class 3 port. -/
def State.class3 (s : State) (d : FlowDef) : Bool :=
  d.kind == 1 && (d.port.bind Port.src?).any fun p => s.src[p].cls == 3

/-- The culm-side availability of the class 0-2 sources, W (R332): of Live flows on ports that are Ready or Supplying. -/
def State.s012 (s : State) : Nat :=
  allCtx.foldl (fun n c =>
    let f := s.ctx[c]
    match f.d.port.bind Port.src? with
    | some p =>
      if f.st = .live ∧ f.d.kind = 1 ∧ s.class3 f.d = false ∧ (s.src[p].st = .ready ∨ s.src[p].st = .supplying) then
        n + f.d.culmW (s.avail p f)
      else n
    | none => n) 0

/-- The culm-side power of the ceilings of the Live Discharge flows, W (R332). -/
def State.disCover (s : State) (die : Vector (Option Nat) 7) : Nat :=
  allCtx.foldl (fun n c =>
    let f := s.ctx[c]
    if f.st = .live ∧ f.d.kind = 3 then n + f.d.culmW (wattsOf (s.ceiling f die) (s.flowMv f.d)) else n) 0

/-- Whether any class 3 port is Supplying. -/
def State.gensetOn (s : State) : Bool := allSrc.any fun p => s.src[p].role != .feeder && s.src[p].cls == 3 && s.src[p].st == .supplying

/-- Admission of class 3 in a round (R332, R333): in mode 0 one that stands, from mode 1 too, ends only under R333. -/
def State.genRule (s : State) (t : Nat) (load : Int) (die : Vector (Option Nat) 7) : State :=
  let x := s.thr
  let ebat := s.ebat
  let need := s.eneed t
  let inst := decide (((s.s012 + s.disCover die : Nat) : Int) < load)
  let since := if inst then some (x.instSince.getD s.now) else none
  let instHeld := since.any fun a => decide (a + 1000000 ≤ s.now)
  let mode := x.inForce.gen.bits 25 24
  let reason :=
    if mode = 1 then 3 else if mode = 2 then 0
    else if x.adm then
      (if x.admAt + 60000000 * x.inForce.gen.bits 15 8 ≤ s.now ∧ 12 * need ≤ 10 * ebat ∧ instHeld = false then 0 else x.reason)
    else if ebat < need then 1
    else if instHeld then 2
    else 0
  let adm := decide (reason ≠ 0)
  let req := adm && !s.gensetOn
  { s with thr := { x with
      adm := adm, reason := reason, admAt := if adm && !x.adm then s.now else x.admAt, instSince := since
      req := req, reqAt := if req && !x.req then s.now else x.reqAt, ebat := ebat, eneed := need } }

/-- GENSET_START_TIMEOUT: req has stayed at 1 for tstart seconds, or a further tstart (R333). -/
def execGensetStartTimeout (s : State) : Ans :=
  if s.thr.req = true ∧ s.thr.reqAt + 1000000 * s.thr.inForce.gen.bits 23 16 ≤ s.now then
    .next ({ s with thr := { s.thr with reqAt := s.now } }.occur bTHR 4 0)
  else .next s

/-- FORECAST_EXPIRY: 2 h from its start the forecast is no longer valid (R331). -/
def execForecastExpiry (s : State) : Ans :=
  if s.thr.fcValid = true ∧ s.thr.fcStart + 7200000000 ≤ s.now then
    .next ({ s with thr := { s.thr with fcValid := false } }.occur bTHR 6 0)
  else .next s

/-- Without broadcasts a Borrow flow has no grant from its lender (R35, R208). -/
def State.loseLending (s : State) : State :=
  { s with ctx := s.ctx.map fun f => if f.d.kind = 6 then { f with peerGrant := 0 } else f }

/-- STOOK_GRANT_LOST: 30 ms without a broadcast: lend reads 0, grant does not limit, THR source 2 (R35, R334, R528). -/
def execStookGrantLost (s : State) : Ans :=
  if s.thr.stklost = false ∧ s.ring.stookAt.any (fun t => decide (t + 30000 ≤ s.now)) = true then
    .next (({ s with thr := { s.thr with stk := 0xFFFF, lend := 0, stklost := true } }.loseLending).occur bTHR 2 0 true)
  else .next s

/-! ### Allocation (R323, R324, R326-R329, R374) -/

/-- What the passes carry along: grants, the power charged in passes 1 and 2 and its class 0-1 part, the cover shares,
the power granted in passes 4 and 5, grains left and charged, whether heat has bound, and the lending left. -/
structure Alloc where
  grants : Vector Grant 160
  s12 : Nat
  s01 : Nat
  cover : List (Ctx × Nat)
  out : Nat
  heat : Nat
  used : Nat
  hot : Bool
  lend : Nat
  /-- Headroom of the Feeder flow of each port, W (R374). -/
  head : Vector Nat 4
  deriving DecidableEq, Repr

/-- The largest current up to a bound whose cost fits (R328). -/
def fitHeat (cost : Nat → Nat) (left : Nat) : Nat → Nat
  | 0 => 0
  | n + 1 => if cost (n + 1) ≤ left then n + 1 else fitHeat cost left n

/-- The grains of a flow's charged current in one round (R323). -/
def State.grains (s : State) (d : FlowDef) (cur : Nat) : Nat :=
  match d.port.bind Port.group? with
  | some g => Config.loss g.val cur (s.groupVolts g) (s.switching g).length * s.roundUs / 1000000
  | none => 0

/-- The grant of a flow under the heat remainder, and the grains charged (R328): `cur` is its grant without heat, and
`most` the current beyond which it is not charged. -/
def State.heatGrant (s : State) (a : Alloc) (d : FlowDef) (cur most : Nat) : Nat × Nat × Bool :=
  let n := min cur most
  let cost := s.grains d n
  if a.hot then (if cost = 0 then (cur, 0, true) else (0, 0, true))
  else if cost ≤ a.heat then (cur, cost, false)
  else
    let m := fitHeat (s.grains d) a.heat n
    (m, s.grains d m, true)

/-- A grant recorded. -/
def Alloc.give (a : Alloc) (c : Ctx) (cur mv heat st : Nat) (hot : Bool) : Alloc :=
  { a with grants := vset a.grants c ⟨cur, wattsOf cur mv, heat, st⟩, heat := a.heat - heat, used := a.used + heat, hot := hot }

/-- Passes 1 and 2 (R324): a Source or Borrow flow. -/
def State.passIn (s : State) (die : Vector (Option Nat) 7) (pcap : Nat) (a : Alloc) (c : Ctx) : Alloc :=
  let f := s.ctx[c]
  let d := f.d
  let mv := s.flowMv d
  let cls := ((d.port.bind Port.src?).map fun p => s.src[p].cls).getD 0
  let i := min (s.ceiling f die) (curOf (d.portW (pcap - a.s12)) mv)
  let there := ((d.port.bind Port.src?).map fun p => s.avail p f).getD 0
  let most := if cls = 3 then i else curOf there mv
  let (g, heat, hot) := s.heatGrant a d i most
  let w := d.culmW (if cls = 3 then wattsOf g mv else min (wattsOf g mv) there)
  let a := a.give c g mv heat (if g = 0 then 0 else 1) hot
  { a with s12 := a.s12 + w, s01 := if d.kind = 1 ∧ cls ≤ 1 then a.s01 + w else a.s01 }

/-- Pass 3 (R327): the cover share of a Discharge flow, culm-side, and its grains. -/
def State.passCover (s : State) (die : Vector (Option Nat) 7) (pcap : Nat) (load : Int) (a : Alloc) (c : Ctx) : Alloc :=
  let f := s.ctx[c]
  let mv := s.flowMv f.d
  let given : Nat := a.cover.foldl (fun n q => n + q.2) 0
  let share : Nat := min (load - ((a.s12 + given : Nat) : Int)).toNat (pcap - a.s12 - given)
  let i := min (s.ceiling f die) (curOf (f.d.portW share) mv)
  let (g, heat, hot) := s.heatGrant a f.d i i
  let a := a.give c g mv heat 0 hot
  { a with cover := a.cover ++ [(c, f.d.culmW (wattsOf g mv))] }

/-- The demand D_f of a flow in passes 4 and 5 (R326). -/
def State.demand (s : State) (f : FlowCtx) (ceil : Nat) : Nat :=
  if f.d.kind = 2 then s.chgDemand f else if f.d.kind = 4 then f.cur.natAbs + ceil / 10 else ceil

/-- Passes 4 and 5 (R324, R329, R374): a Charge, Feeder or Lend flow, from what is left of `room` W at the culm. -/
def State.passOut (s : State) (die : Vector (Option Nat) 7) (room : Alloc → Nat) (surplus : Bool) (a : Alloc) (c : Ctx) : Alloc :=
  let f := s.ctx[c]
  let d := f.d
  let mv := s.flowMv d
  let src := d.port.bind Port.src?
  let ceil := s.ceiling f die
  let i := min (min ceil (s.demand f ceil)) (curOf (d.portW (room a)) mv)
  let i := if d.kind = 5 then
      min i (curOf (min a.lend ((src.map fun p => a.head[p]).getD 0)) mv)
    else i
  let (g, heat, hot) := s.heatGrant a d i i
  let st := if 0 < g then 1 else if surplus && room a == 0 then 3 else 0
  let a := a.give c g mv heat st hot
  let w := wattsOf g mv
  let a := { a with out := a.out + d.culmW w }
  match d.kind, src with
  | 4, some p => { a with head := vset a.head p (g * 100 * d.param / 100000) }
  | 5, some p => { a with lend := a.lend - w, head := vset a.head p (a.head[p] - w) }
  | _, _ => a

/-- Pass 6 (R327): the final grant of a Discharge flow from what is left of the reserve, W at the culm. -/
def State.passFinal (s : State) (die : Vector (Option Nat) 7) (q : Alloc × Nat) (c : Ctx) : Alloc × Nat :=
  let (a, left) := q
  let f := s.ctx[c]
  let mv := s.flowMv f.d
  let e := ((a.cover.find? fun q => q.1 == c).map (·.2)).getD 0
  let top := f.d.culmW (wattsOf (s.ceiling f die) mv)
  let extra := min (top - e) left
  let g := min (s.ceiling f die) (if top ≤ e + extra then s.ceiling f die else curOf (f.d.portW (e + extra)) mv)
  ({ a with grants := vset a.grants c ⟨g, wattsOf g mv, a.grants[c].heat, if g = 0 then 0 else 1⟩ }, left - extra)

/-- The order of passes 1 and 2 (R324): descending SRC_PCFG.prio, then class, then port; Borrow ranks as class 1. -/
def State.bySource (s : State) (l : List Ctx) : List Ctx :=
  let key (c : Ctx) : List Int :=
    match s.ctx[c].d.port.bind Port.src? with
    | some p => [-(s.srcPrio p : Int), if s.ctx[c].d.kind = 6 then 1 else s.src[p].cls, p.val, c.val]
    | none => [0, 0, 0, c.val]
  sortBy (fun a b => lexBefore (key a) (key b)) l

/-- Whether a Charge flow is in Equalize. -/
def State.equalizing (s : State) (d : FlowDef) : Bool :=
  d.kind == 2 && (d.port.bind Port.bat?).any fun p => s.chg[p].phase == 7

/-- The largest power charged to a single source in passes 1 and 2 (R327). -/
def State.largest (s : State) (a : Alloc) (l : List Ctx) : Nat :=
  l.foldl (fun n c =>
    let f := s.ctx[c]
    let given := wattsOf a.grants[c].cur (s.flowMv f.d)
    max n (f.d.culmW (match f.d.port.bind Port.src? with
      | some p => if s.src[p].cls = 3 then given else min given (s.avail p f)
      | none => 0))) 0

/-- The six passes (R324): the allocation, and what remains of P_cap for flows in and out. A Lend flow waits for a Feeder flow of its
port that draws from the surplus (R374, assumption 99). -/
def State.allocate (s : State) (die : Vector (Option Nat) 7) (pcap : Nat) (load : Int) (pthr : Nat) : Alloc × Nat × Nat × Nat :=
  let l := s.latched
  let kind (k : Nat) (c : Ctx) : Bool := s.ctx[c].d.kind == k
  let low := l.filter fun c => (kind 1 c && !s.class3 s.ctx[c].d) || kind 6 c
  let gens := if s.thr.adm then l.filter fun c => s.class3 s.ctx[c].d else []
  let dis := s.byPrio (l.filter (kind 3))
  let outs := l.filter fun c => (kind 2 c || kind 4 c || kind 5 c) && !s.deferred? s.ctx[c]
  let late (c : Ctx) : Bool := s.ctx[c].d.surplus || s.equalizing s.ctx[c].d
  let waits (c : Ctx) : Bool := kind 5 c && !late c && outs.any fun k => kind 4 k && late k && s.ctx[k].d.port == s.ctx[c].d.port
  let plain := outs.filter fun c => !late c && !waits c
  let budget := s.thr.inForce.budh.bits 9 0 * s.roundUs / 1000
  let a : Alloc := { grants := Vector.ofFn fun c : Ctx => ⟨0, 0, 0, if s.deferred? s.ctx[c] then 2 else 0⟩,
                     s12 := 0, s01 := 0, cover := [], out := 0, heat := budget, used := 0, hot := false,
                     lend := if s.thr.stklost then 0 else s.thr.lend, head := Vector.replicate 4 0 }
  let a := (s.bySource low).foldl (s.passIn die pcap) a
  let a := (s.bySource gens).foldl (s.passIn die pcap) a
  let a := dis.foldl (s.passCover die pcap load) a
  let room (n : Nat) (a : Alloc) : Nat := ((n : Int) - load - a.out).toNat
  let a := (s.byPrio plain).foldl (s.passOut die (room pcap) false) a
  let u := room a.s01 a
  let a := (s.byPrio (outs.filter late)).foldl (s.passOut die (fun a => room a.s01 a) true) a
  let a := (s.byPrio (outs.filter waits)).foldl (s.passOut die (room pcap) false) a
  let imax := s.thr.inForce.budp.bits 25 16 * s.culm.vset / 1000
  let rho := if pthr ≤ pcap then min (s.largest a (low ++ gens)) (min (36000 - pcap) (imax - pcap)) else 0
  let covered := a.cover.foldl (fun n q => n + q.2) 0
  let (a, _) := dis.foldl (s.passFinal die) (a, pcap + rho - a.s12 - covered)
  (a, pcap - a.s12 - covered, room pcap a, u)

/-! ### Equalize admission (R329) -/

/-- Half the power of the Equalize phase of a port, W at the culm; none without such a phase. -/
def State.halfEq (s : State) (p : BPort) : Option Nat :=
  s.chg[p].wc.bind fun w => (w.phase? 7).map fun e => e.ilim * w.volts e * 100 / 99 / 20000

/-- The parts of the Equalize rule at a port: an admission that has ended, the time the surplus has lasted, the admission. -/
def State.eqEnd (s : State) (p : BPort) : State :=
  let x := s.chg[p]
  if x.eqOk = true ∧ x.phase ≠ 7 ∧ (x.phase ≠ 6 ∨ x.eqdue = false) then s.setChg p { x with eqOk := false } else s
def State.eqSurplus (s : State) (u : Nat) (p : BPort) : State :=
  let enough : Bool := (s.halfEq p).any fun w => decide (w ≤ u) && decide (0 < u)
  let since : Option Nat := if enough then some (s.thr.eqSince[p].getD s.now) else none
  { s with thr := { s.thr with eqSince := vset s.thr.eqSince p since } }
def State.eqStart (s : State) (class3 : Bool) (p : BPort) : State :=
  let busy : Bool := allBat.any fun q : BPort => q != p && (s.chg[q].eqOk || s.chg[q].phase == 7)
  if s.chg[p].phase = 6 ∧ s.chg[p].eqdue = true ∧ (s.chgFlow p).isSome = true ∧ class3 = false ∧ busy = false ∧
      Option.any (fun t : Nat => decide (t + 600000000 ≤ s.now)) s.thr.eqSince[p] = true then
    s.setChg p { s.chg[p] with eqOk := true }
  else s

/-- Admission of a due Equalize in a round with a surplus `u` (R329, R338). -/
def State.eqRule (s : State) (u : Nat) (class3 : Bool) : State :=
  forEach allBat (fun s p => ((s.eqEnd p).eqSurplus u p).eqStart class3 p) s

/-! ### Cell orders (R335, R336) -/

/-- Whether a moment lies within the last second. -/
def State.recent (s : State) (t : Option Nat) : Bool := t.any fun a => decide (s.now < a + 1000000)

/-- The predicted die temperature of a cell. -/
def State.diePred (s : State) (c : Cell) : Int := s.thm.die[c].2

/-- Whether orders on a group are held back (R336). -/
def State.ordersHeld (s : State) (g : Group) : Bool :=
  !s.halt[g.port].isEmpty || !s.safeLine.isEmpty || (s.fab.migs.any fun m => m.dest == g || m.gives g) ||
    (match g.port.src? with
     | some p => s.src[p].hov.isSome
     | none => false)

/-- Whether a cell is eligible for a group (R335): the fabric would accept it as things stand, and it has not just moved. -/
def State.fits (s : State) (g : Group) (c : Cell) : Bool :=
  s.acceptsOrder ⟨c, g⟩ && !s.recent s.cells[c].movedAt && !s.recent s.groups[g].shedAt &&
    (match s.donorOf c with
     | some d => !s.ordersHeld d
     | none => true)

/-- An eligible cell for which the group has room under FAB_GPH.maxph (R335). -/
def State.eligible (s : State) (g : Group) (c : Cell) : Bool :=
  s.fits g c &&
    decide (((s.members g).filter fun k => s.cells[k].st != .fenced).length + (s.orderCells g c).length ≤ s.groups[g].cfg.maxph)

/-- The cell of a Replacement or Capacity order: Idle before Parked before Active in another group, then the lowest die
prediction, then the lowest number (R335). -/
def State.bestCell (s : State) (g : Group) : Option Cell :=
  let key (c : Cell) : List Int :=
    [match s.cells[c].st with | .parked => 1 | .active => 2 | _ => 0, s.diePred c, c.val]
  (sortBy (fun a b => lexBefore (key a) (key b)) (allCells.filter (s.eligible g))).head?

/-- The hottest of a list of cells by die prediction. -/
def State.hottestCell (s : State) (l : List Cell) : Option Cell :=
  (sortBy (fun a b => lexBefore [-(s.diePred a), a.val] [-(s.diePred b), b.val]) l).head?

/-- A flow's mean current over the last round (R313), 10 mA; its present one where no iteration has measured it. -/
def FlowCtx.meanCur (f : FlowCtx) : Nat := if f.curNs = 0 then f.cur.natAbs else f.curSum / f.curNs

/-- What a group's flows may carry without item 4 of R317, and the highest of their demands and mean currents. -/
def State.groupWant (s : State) (g : Group) : Nat :=
  s.latched.foldl (fun n c => if s.ctx[c].d.port = some g.port then n + s.ceiling0 s.ctx[c] else n) 0
def State.groupDemand (s : State) (g : Group) (die : Vector (Option Nat) 7) : Nat :=
  s.latched.foldl (fun n c =>
    let f := s.ctx[c]
    if f.d.port = some g.port then
      max n (max f.meanCur (if f.d.kind = 2 ∨ f.d.kind = 4 ∨ f.d.kind = 5 then s.demand f (s.ceiling f die) else 0))
    else n) 0

/-- The Active cells that may be shed from a group (R93, R336): none that would take it below its minimum. -/
def State.sheddable (s : State) (g : Group) : List Cell :=
  let act := (s.members g).filter fun c => s.cells[c].st == .active
  if s.recent s.groups[g].addAt then []
  else act.filter fun c => decide (s.groups[g].cfg.minph + (s.orderCells g c).length ≤ act.length) && decide (1 < act.length) &&
    !s.recent s.cells[c].movedAt

/-- The order of a group in a round (R335): a cell to add, or one to shed. -/
def State.groupOrder (s : State) (g : Group) (die : Vector (Option Nat) 7) : Option (Order ⊕ Cell) :=
  let x := s.groups[g]
  let cap := s.capacity g
  let add (c : Option Cell) : Option (Order ⊕ Cell) := c.map fun c => .inl ⟨c, g⟩
  let tdie : Int := 16 * s.thrCfg.bits 23 16
  let hot := s.hottestCell (s.switching g)
  let cool := (sortBy (fun a b => lexBefore [s.diePred a, a.val] [s.diePred b, b.val]) (allCells.filter (s.eligible g))).head?
  if x.cfg.topo = .none ∨ s.ordersHeld g = true then none
  else if ((s.members g).any (fun c => s.cells[c].st == .fenced) || x.starved) ∧ 100 * cap < 110 * s.groupWant g then
    add (s.bestCell g)
  else if x.fullSince.any (fun t => decide (t + 100000 ≤ s.now)) then add (s.bestCell g)
  else if x.leftCell.isSome = true ∧ cap * x.cfg.abortpct < 100 * s.groupDemand g die then
    add (match x.leftCell with
      | some c => if s.eligible g c then some c else s.bestCell g
      | none => s.bestCell g)
  else match hot with
    | none => none
    | some h =>
      let full := decide (x.cfg.maxph ≤ (s.members g).length)
      let other := (allCells.filter (s.fits g)).any fun c => decide (s.diePred c + 240 ≤ s.diePred h)
      if tdie ≤ s.diePred h + 160 ∧ other = true then
        (if full then (if (s.sheddable g).contains h then some (.inr h) else none) else add cool)
      else if x.lowSince.any (fun t => decide (t + 10000 * x.cfg.delay ≤ s.now)) then
        (s.hottestCell (s.sheddable g)).map .inr
      else none

/-- The orders of a round: at most one for each group, and no more migrations than FAB_CFG.maxmig (R335, R336). -/
def State.roundOrders (s : State) (die : Vector (Option Nat) 7) : List Order × List Cell :=
  allGroups.foldl (fun q g =>
    match s.groupOrder g die with
    | some (.inl o) =>
      let named := q.1.any fun p => p.dest == g || some p.dest == s.donorOf o.cell || s.donorOf p.cell == some g
      if s.fab.migs.length + q.1.length < s.fab.maxmig ∧ named = false then (q.1 ++ [o], q.2) else q
    | some (.inr c) => if s.fab.migs.length < s.fab.maxmig then (q.1, q.2 ++ [c]) else q
    | none => q) ([], [])

/-- What the order rules remember of a round: since when demand has stood at 90 % of the capacity (R335). -/
def State.fullRule (s : State) (die : Vector (Option Nat) 7) : State :=
  forEach allGroups (fun s g =>
    let full := decide (0 < s.capacity g) && decide (9 * s.capacity g ≤ 10 * s.groupDemand g die)
    s.setGroup g { s.groups[g] with
      fullSince := if full then some (s.groups[g].fullSince.getD s.now) else none
      leftCell := match s.groups[g].leftCell with
        | some c => if s.cells[c].inMask = some g then none else some c
        | none => none }) s

/-! ### Rounds (R313-R316) -/

/-- The moment t_k of the next round. -/
def State.nextRound (s : State) : Nat := s.thr.t0 + s.thr.k * s.roundUs

/-- The budget set and the forecast that Thresher goes by. -/
def State.underSet (s : State) (set : ThrSet) (start : Nat) (valid : Bool) : State :=
  { s with thr := { s.thr with inForce := set, fcStart := start, fcValid := valid } }

/-- The last COMMIT taken before the latch, for the round that begins at `tk`: its set, and a forecast whose slot 0 starts with the
first round that it governs (R313, R331). -/
def State.underCommit (s : State) (tk : Nat) : State :=
  if s.thr.fcNew then s.underSet s.thr.committed tk (s.thr.committed.fc.toList.any (· != 0))
  else s.underSet s.thr.committed s.thr.fcStart s.thr.fcValid

/-- THR_ROUND_LATCH: at t_k less 40 us the inputs are latched and the round is computed, under the last set committed, which takes
force with the round (R33, R313, R319-R336). -/
def execThrRoundLatch (s : State) : Ans :=
  if s.thr.st = .running ∧ s.serviceRuns = true ∧ s.nextRound ≤ s.now + 40 ∧ s.thr.round = none then
    let tk := s.nextRound
    let dt := s.now - s.thr.lastAt
    let pthr := s.meanThru
    let was := s.thr
    let s := s.underCommit tk
    let s := if s.thr.stklost && s.ring.stookAt.any (fun t => decide (s.now < t + 30000)) then
        { s with thr := { s.thr with stklost := false } }.endCause bTHR 2 0
      else s
    let s := (s.peakRule pthr dt).firstUse.deferRule dt
    let die := s.dieLims
    let load := s.loadEst tk
    let s := (s.genRule tk load die).fullRule die
    let (pcap, bind) := s.pcap
    let (a, remIn, remOut, u) := s.allocate die pcap load pthr
    let gens := allCtx.any fun c => s.class3 s.ctx[c].d && decide (0 < a.grants[c].cur)
    let s := s.eqRule u (gens || (s.thr.adm && !was.adm))
    let (orders, sheds) := s.roundOrders die
    let round : Round := { grants := a.grants, flows := s.latched, live := allCtx.filter fun c => s.ctx[c].st == .live,
                           remIn := remIn, remOut := remOut, remSur := ((a.s01 : Int) - load - a.out).toNat, remHeat := a.heat,
                           thru := pthr, pcap := pcap, budget := s.thr.inForce.budh.bits 9 0 * s.roundUs / 1000, used := a.used,
                           bind := if a.hot then 5 else bind, dieLim := die, orders := orders, sheds := sheds,
                           set := s.thr.inForce, fcNew := was.fcNew, fcStart := s.thr.fcStart, fcValid := s.thr.fcValid,
                           lend := a.lend, head := a.head }
    let s := { s with thr := { s.thr with round := some round, fcNew := false, lastAt := s.now, eIn := 0, eLoad := 0, nsLoad := 0 }
                      ctx := s.ctx.map fun (f : FlowCtx) => { f with curSum := 0, curNs := 0 } }
    .next (s.underSet was.inForce was.fcStart was.fcValid)
  else .next s

/-- What a Lend flow may have besides, at a port, from what a round has left: the lending that stook leaves, none while its broadcasts
are missing, and the headroom of the port's Feeder flow (R35, R208, R334, R374); no limit for other flows. -/
def State.lendLeft (s : State) (q : Round) (d : FlowDef) (n mv : Nat) : Nat :=
  if d.kind = 5 then
    min n (curOf (min (if s.thr.stklost then 0 else q.lend) (((d.port.bind Port.src?).map fun p => q.head[p]).getD 0)) mv)
  else n

/-- The lending and the headroom left after a grant of a current at a port (R374). -/
def Round.lent (q : Round) (d : FlowDef) (n w : Nat) : Round :=
  match d.kind, d.port.bind Port.src? with
  | 4, some p => { q with head := vset q.head p (n * 100 * d.param / 100000) }
  | 5, some p => { q with lend := q.lend - w, head := vset q.head p (q.head[p] - w) }
  | _, _ => q

/-- The power that a round has left for a late entrant, W at the culm (R314): a surplus flow, and a Charge flow in Equalize, draws from
the surplus alone (R324, R329). -/
def State.powerLeft (s : State) (q : Round) (d : FlowDef) : Nat :=
  if d.inward then q.remIn else if d.surplus || s.equalizing d then min q.remSur q.remOut else q.remOut

/-- A late entrant's grant from what the round has left (R314); its heat is charged at its group's present loss per
ampere, and by the loss relation where the group carries no current. -/
def State.lateGrant (s : State) (q : Round) (c : Ctx) : Grant × Round :=
  let f := s.ctx[c]
  let d := f.d
  let mv := s.flowMv d
  let i := s.ceiling f q.dieLim
  let i := if s.class3 d && !s.thr.adm then 0 else if s.deferred? f then 0
    else s.lendLeft q d (min i (curOf (d.portW (s.powerLeft q d)) mv)) mv
  let cost (n : Nat) : Nat := match d.port.bind Port.group? with
    | some g =>
      let loss := (s.members g).foldl (fun n k => n + s.cells[k].loss) 0
      if s.groupCur g = 0 then s.grains d n else loss * n * s.roundUs / (1000 * s.groupCur g)
    | none => 0
  let i := if cost i ≤ q.remHeat then i else fitHeat cost q.remHeat i
  let w := d.culmW (wattsOf i mv)
  (⟨i, wattsOf i mv, cost i, if s.deferred? f then 2 else 4⟩,
   { q.lent d i (wattsOf i mv) with
       remIn := if d.inward then q.remIn - w else q.remIn, remOut := if d.inward then q.remOut else q.remOut - w,
       remSur := if d.inward then q.remSur else q.remSur - w,
       remHeat := q.remHeat - cost i, used := q.used + cost i })

/-- Late entrants granted one after another, from what the round has left. -/
def State.grantEach (s : State) (q : Round) : List Ctx → State × Round
  | [] => (s, q)
  | c :: l => (s.setCtx c (s.ctx[c].granted s.now (s.lateGrant q c).1)).grantEach (s.lateGrant q c).2 l

/-- What a flow has been granted, as THR_FG and FLOW_CI show it. -/
def FlowCtx.asGranted (f : FlowCtx) : Grant := ⟨f.grant, f.pgrant, f.heat, f.gst⟩

/-- The round with its late entrants and their grants, kept (R315, R341). -/
def State.keepRound (s : State) (q : Round) (l : List Ctx) : State :=
  { s with thr := { s.thr with late := sat 255 l.length
                               last := some { q with
                                 flows := (q.flows ++ l).dedup, live := q.live ++ l
                                 grants := Vector.ofFn fun c : Ctx => if l.contains c then s.ctx[c].asGranted else q.grants[c] } } }

/-- Late entrants granted at t_k (R314): those that are Live and were not when the round was latched. -/
def State.grantLate (s : State) (q : Round) : State :=
  let l := s.byPrio (allCtx.filter fun c => s.ctx[c].st == .live && !q.live.contains c)
  (s.grantEach q l).1.keepRound (s.grantEach q l).2 l

/-- A flow after a round is published (R313): a latched flow takes its grant, one that is no longer Live at most its
present current, and the others none. -/
def State.pubGrant (s : State) (q : Round) (c : Ctx) : FlowCtx :=
  let f := s.ctx[c]
  match f.st with
  | .live => if q.live.contains c then f.granted s.now q.grants[c] else f.granted s.now ⟨0, 0, 0, 0⟩
  | .closing =>
    if q.flows.contains c then f.granted s.now { q.grants[c] with cur := min q.grants[c].cur f.cur.natAbs }
    else f.granted s.now ⟨0, 0, 0, 0⟩
  | .suspended =>
    if q.flows.contains c then f.granted s.now { q.grants[c] with cur := min q.grants[c].cur f.cur.natAbs }
    else f.granted s.now ⟨0, 0, 0, 0⟩
  | .free => f.granted s.now ⟨0, 0, 0, 0⟩
  | .opening => f.granted s.now ⟨0, 0, 0, 0⟩
  | .fenced => f.granted s.now ⟨0, 0, 0, 0⟩

/-- The grants of a round published, its orders handed to the fabric (R313). -/
def State.publish (s : State) (q : Round) : State :=
  let ctx : Vector FlowCtx 160 := Vector.ofFn fun c : Fin 160 => s.pubGrant q c
  let groups : Vector GroupRec 7 := Vector.ofFn fun g : Fin 7 => { s.groups[g] with dieLim := q.dieLim[g] }
  let s := { s with ctx := ctx, groups := groups,
                    thr := { s.thr with orders := q.orders, sheds := q.sheds, ordersAt := s.now } }
  s.grantLate q

/-- What the last round granted a flow, if it was one of the round's flows: one that has become Live since had none (R316). -/
def State.lastGrant (s : State) (c : Ctx) : Option Grant :=
  s.thr.last.bind fun q => if q.flows.contains c && (q.live.contains c || s.ctx[c].st != .live) then some q.grants[c] else none

/-- A flow after the last round's grants are published again (R41, R315): under the present throttle and first-use
factors, so that a grant rises again as they recover; in Held a flow that has become Live since gets zero, and the others read held
(R316, R341). -/
def State.repGrant (s : State) (held : Bool) (c : Ctx) : FlowCtx :=
  let f := s.ctx[c]
  let had : Bool := (s.lastGrant c).isSome
  let g : Nat := ((s.lastGrant c).map fun a => min a.cur (s.throttled (s.cfgLimit f))).getD 0
  let g : Nat := match f.st with
    | .live => g
    | .closing => min g f.cur.natAbs
    | .suspended => min g f.cur.natAbs
    | .free => 0
    | .opening => 0
    | .fenced => 0
  f.granted s.now ⟨g, wattsOf g (s.flowMv f.d), f.heat, if held then (if had then 5 else 0) else ((s.lastGrant c).map (·.st)).getD 0⟩

/-- What stands before the first round: nothing granted, and the budgets whole (R315, R316). -/
def State.firstRound (s : State) : Round :=
  let load := s.loadEst s.now
  let (pcap, bind) := s.pcap
  let heat := s.thr.inForce.budh.bits 9 0 * s.roundUs / 1000
  { grants := Vector.replicate 160 ⟨0, 0, 0, 0⟩, flows := [], live := [], remIn := pcap, remOut := ((pcap : Int) - load).toNat, remSur := 0,
    remHeat := heat, thru := 0, pcap := pcap, budget := heat, used := 0, bind := bind, dieLim := Vector.replicate 7 none, orders := [], sheds := [],
    set := s.thr.inForce, fcNew := false, fcStart := s.thr.fcStart, fcValid := s.thr.fcValid,
    lend := if s.thr.stklost then 0 else s.thr.lend, head := Vector.replicate 4 0 }

/-- The grants of the last round published again, without orders (R315, R316). Late entrants are those that the last round did not find
Live (assumption 100). -/
def State.republish (s : State) (held : Bool) : State :=
  let ctx : Vector FlowCtx 160 := Vector.ofFn fun c : Fin 160 => s.repGrant held c
  let last := s.thr.last.map fun q => { q with live := q.live.filter fun c => s.ctx[c].st == .live }
  let t := { s with ctx := ctx, thr := { s.thr with orders := [], sheds := [], last := last } }
  if held then t else t.grantLate (last.getD s.firstRound)

/-- At t_k the set that the round latched takes force as a whole, setpoint and all, whether or not the round was handed over (R33,
R113), but a forecast that has expired since stays so (R331); with no round latched a COMMIT waits for the next latch. -/
def State.roundBegins (s : State) : State :=
  match s.thr.round with
  | some q => (s.underSet q.set q.fcStart (q.fcValid && (q.fcNew || s.thr.fcValid))).commitSetpoint
  | none => s

/-- The sweeps that a round tries again (R169). -/
def State.retrySweeps (s : State) : State := forEach allSrc (fun s p => s.retrySweep p) s

/-- THR_ROUND_PUBLISH: at t_k the publication step publishes the round, or republishes the last one: in Held, on an overrun
with THR source 0, or where the set fails the budget check with THR source 5, checked once more at the next round
(R313-R316, R342). -/
def execThrRoundPublish (handedOver setOk : Bool) (s : State) : Ans :=
  if (s.thr.st = .running ∨ s.thr.st = .held) ∧ s.domOn 3 = true ∧ s.nextRound ≤ s.now then
    let t := s.roundBegins.retrySweeps
    let t := { t with thr := { t.thr with k := s.thr.k + 1, round := none } }
    if s.thr.st = .held then .next (t.republish true).settle
    else match handedOver, s.thr.round with
      | true, some q =>
        if setOk then .next (({ t with thr := { t.thr with failed := false } }.publish q).retryOutcome bTHR 5 0 true).settle
        else .next ((({ t with thr := { t.thr with failed := true } }.republish false).occur bTHR 5 0)).settle
      | _, _ => .next ((t.republish false).occur bTHR 0 0).settle
  else .next s

/-! ### States of Thresher (R316) -/

/-- Run is entered: from Stopped, or from Zeroed after Stubble, whose time the kept timers have counted, rounds begin at zero grants with
a new t_0 (R316, R319). -/
def State.thrStart (s : State) : State :=
  let x := s.thr
  if x.st = .stopped ∨ x.st = .zeroed then
    let dt := s.now - x.lastAt
    let s := (if x.st = .zeroed then (s.peakRule s.meanThru dt).deferRule dt else s).zeroGrants
    { s with thr := { s.thr with
      st := .running, t0 := s.now, k := 1, lastAt := s.now, eIn := 0, eLoad := 0, nsLoad := 0, firstAt := s.now,
      first := if x.st = .stopped then !s.thm.hist && !x.firstDone else x.first } }
  else s

/-- A control-core restart holds the grants; its end lets rounds go on from them (R41, R42, R316). -/
def State.thrHold (s : State) : State :=
  if s.thr.st = .running then
    { s with thr := { s.thr with st := .held, fcNew := s.thr.fcPending, round := none, orders := [], sheds := [] } }
  else s
def State.thrResume (s : State) : State :=
  if s.thr.st = .held then { s with thr := { s.thr with st := .running, round := none } } else s

/-- Image activation, a module restart, or Standby, Watch or Dormant: every grant zero; the peak timer, admission and
deferrals cleared (R316). -/
def State.thrStop (s : State) : State :=
  let s := s.zeroGrants
  { s with thr := { s.thr.countRun s.now with
      st := .stopped, tpk := 0, trec := 0, peakx := false, adm := false, reason := 0, req := false, instSince := none,
      defer := false, coolAt := none, deferUs := Vector.replicate 3 (0, 0), late := 0 } }

end Sys2Proof.Machine
end

