-- ==== Sys2Proof/Machine/Feeder.lean ====
section
/-!
DEFINITION. The feeder ports (R367-R376, R393). Voltages of the commands in mV, currents in 10 mA.
-/

namespace Sys2Proof.Machine

/-- AWN_FCFG (R392): enable, start ramp and target slew in V/ms, under-voltage level in per cent. -/
def State.fdrEn (s : State) (p : SPort) : Bool := (s.reg (awnFcfgAt p)).bit 0
def State.fdrRamp (s : State) (p : SPort) : Nat := (s.reg (awnFcfgAt p)).bits 15 8
def State.fdrSlew (s : State) (p : SPort) : Nat := (s.reg (awnFcfgAt p)).bits 23 16
def State.fdrUv (s : State) (p : SPort) : Nat := (s.reg (awnFcfgAt p)).bits 31 24

/-- The Feeder flow of a port: the one that is not Free (R195). -/
def State.fdrFlow (s : State) (p : SPort) : Option Ctx :=
  allCtx.find? fun c => s.ctx[c].st != .free && s.ctx[c].d.kind == 4 && s.ctx[c].d.port == some p.port

/-- The voltage target V_F of a port, mV: the Feeder flow's param (R193, R375). -/
def State.fdrTarget (s : State) (p : SPort) : Nat := match s.fdrFlow p with
  | some c => 100 * s.ctx[c].d.param
  | none => 0

/-- Whether a start request holds on a feeder port (R370). -/
def State.startRequest (s : State) (p : SPort) : Bool :=
  s.inRun && s.fdrEn p && !s.groups[p.group].starved && s.portFree p.port &&
    match s.fdrFlow p with
    | some c => s.ctx[c].st == .opening || s.ctx[c].st == .live ||
        (s.ctx[c].st == .suspended && (s.ctx[c].scause &&& 0b111101) == 0)
    | none => false

/-- The stage of a port whose feeder stops, drained where its switches were closed (R65). -/
def State.drainFeeder (s : State) (p : SPort) : State := s.setSrc p (s.src[p].feederStop s.fdr[p] s.now)

/-- Whether a feeder delivers: Ramping, Running or Limiting. -/
def FdrRec.delivers (x : FdrRec) : Bool := x.st == .ramping || x.st == .running || x.st == .limiting

/-- External voltage seen in Checking: cause 1 and AWN source 4, once per entry (R371). -/
def State.external (s : State) (p : SPort) (mv : Nat) : State :=
  if s.fdr[p].st = .checking ∧ 30000 < mv ∧ s.fdr[p].extSaid = false then
    (s.setFdr p { s.fdr[p] with cause := 1, extSaid := true }).occur bAWN 4 p.val
  else s

/-- FEEDER_START_REQUEST: Idle to Checking; a terminal above 30 V is reported. -/
def execFeederStartRequest (p : SPort) (mv : Nat) (s : State) : Ans :=
  if s.fdr[p].st = .idle ∧ s.startRequest p = true then
    .next ((s.setFdr p { s.fdr[p] with st := .checking, since := s.now, extSaid := false }).external p mv)
  else .next (s.external p mv)

/-- FEEDER_CHECK_PASSED: terminal and stage at or below 30 V for 100 ms, with no discharge element holding the port; the switches close
for the pre-bias (R134, R371). -/
def execFeederCheckPassed (p : SPort) (vTerm vStage heldMs : Nat) (s : State) : Ans :=
  if s.fdr[p].st = .checking ∧ vTerm ≤ 30000 ∧ vStage ≤ 30000 ∧ 100 ≤ heldMs ∧ s.startRequest p = true ∧ s.stageBars p.port = false then
    .next (s.setFdr p { s.fdr[p] with st := .prebias, since := s.now, vref := 65000000, reacted := false })
  else .next (s.external p vTerm)

/-- FEEDER_PREBIAS_DONE: 65 V reached, within the tolerance of R369, and start checks passed; the port runs in the feeder
role, counted. -/
def execFeederPrebiasDone (p : SPort) (mv : Nat) (checksOk : Bool) (s : State) : Ans :=
  if s.fdr[p].st = .prebias ∧ 63700 ≤ mv ∧ checksOk = true ∧ s.startRequest p = true then
    .next ((s.setFdr p { s.fdr[p] with
      st := .ramping, since := s.now, vref := 65000000, vout := sat 65535 (mv / 100), yield := false, cap := 32000000,
      starts := sat 65535 (s.fdr[p].starts + 1) }).startMembers p.group).settle
  else .next s

/-- A feeder halted by a criterion of R371: its switches open and its cells stop; the source is reported. -/
def State.haltFeeder (s : State) (p : SPort) (cause : Nat) (src : Src) : State :=
  let s := s.drainFeeder p
  let s := s.setFdr p { s.fdr[p].haltedBy s.now cause with retryAt := if src = 5 then some (s.now + 1000000) else none }
  ((s.stopGroup p.group).settle).occur bAWN src p.val

/-- FEEDER_PREBIAS_TIMEOUT: 65 V not reached within 50 ms: cause 2, source 5. -/
def execFeederPrebiasTimeout (p : SPort) (s : State) : Ans :=
  if s.fdr[p].st = .prebias ∧ s.fdr[p].since + 50000 ≤ s.now then .next (s.haltFeeder p 2 5) else .next s

/-- FEEDER_LIMITING: at its current limit and more than 2 % low for 1 ms a Running feeder is Limiting; within 2 % a
Limiting one is Running again. -/
def execFeederLimiting (p : SPort) (vOut heldUs : Nat) (s : State) : Ans :=
  let x := s.fdr[p]
  let low := decide (100 * vOut < 98 * s.fdrTarget p)
  let x := { x with vout := sat 65535 (vOut / 100) }
  if x.st = .running ∧ low = true ∧ x.ilim ≤ x.cur.natAbs ∧ 1000 ≤ heldUs then .next (s.setFdr p { x with st := .limiting, since := s.now })
  else if x.st = .limiting ∧ low = false then .next (s.setFdr p { x with st := .running, since := s.now })
  else .next s

/-- Whether R373 reduces the limit of a feeder: it falls, or on its way back it is the lowest of R372. -/
def FdrRec.reduced (x : FdrRec) : Bool := x.yield || (decide (x.cap < 32000000) && decide (x.cap / 10000 ≤ x.ilim))

/-- FEEDER_UNDER_VOLTAGE: below vuv per cent of the present reference for 10 ms, except while R373 reduces the limit: cause 3,
source 5. -/
def execFeederUnderVoltage (p : SPort) (vOut heldMs : Nat) (s : State) : Ans :=
  let x := s.fdr[p]
  if x.delivers = true ∧ x.reduced = false ∧ 100000 * vOut < x.vref * s.fdrUv p ∧ 10 ≤ heldMs then .next (s.haltFeeder p 3 5) else .next s

/-- FEEDER_OVER_VOLTAGE: above 1.1 V_F or 440 V for 10 us: cause 4, source 6. -/
def execFeederOverVoltage (p : SPort) (vOut heldUs : Nat) (s : State) : Ans :=
  if s.fdr[p].delivers = true ∧ (11 * s.fdrTarget p < 10 * vOut ∨ 440000 < vOut) ∧ 10 ≤ heldUs then .next (s.haltFeeder p 4 6)
  else .next s

/-- FEEDER_REVERSE_CURRENT: more than 1 A into the port for 100 us: cause 5, source 7. -/
def execFeederReverseCurrent (p : SPort) (cur : Int) (heldUs : Nat) (s : State) : Ans :=
  if s.fdr[p].delivers = true ∧ 100 < cur ∧ 100 ≤ heldUs then .next (s.haltFeeder p 5 7) else .next s

/-- FEEDER_STOP: the start request has ended: Idle from Checking and Pre-bias, else Stopping. The table of R371 names no cause for it; the
model shows code 7 of R392 at every end of the start request of a feeder that delivers, and none from Checking or Pre-bias (assumption
90). -/
def execFeederStop (p : SPort) (s : State) : Ans :=
  let x := s.fdr[p]
  if s.startRequest p then .next s
  else if x.st = .checking ∨ x.st = .prebias then
    .next ((s.drainFeeder p).setFdr p { x with st := .idle, since := s.now, vref := 0 }).settle
  else if x.delivers then .next (s.setFdr p { x with st := .stopping, cause := 7, since := s.now, yield := false, cap := min x.cap (10000 * x.ilim) }).settle
  else .next s

/-- FEEDER_STOPPED: below 0.5 A a Stopping feeder is Idle; its switches open and its stage is drained (R65). -/
def execFeederStopped (p : SPort) (cur : Int) (s : State) : Ans :=
  if s.fdr[p].st = .stopping ∧ cur.natAbs < 50 then
    .next (((s.drainFeeder p).setFdr p { s.fdr[p] with st := .idle, since := s.now, cur := 0, lim := 0, ilim := 0, vref := 0 }).stopGroup p.group).settle
  else .next s

/-- FEEDER_YIELD: the culm below V_msv for 0.5 ms ramps the limit down; 10 ms within 2 % of V_set let it rise (R373). -/
def execFeederYield (p : SPort) (vCulm heldUs : Nat) (s : State) : Ans :=
  let x := s.fdr[p]
  if x.delivers = true ∧ vCulm < s.culm.msv ∧ 500 ≤ heldUs then
    .next (s.setFdr p { x with yield := true, cap := min x.cap (10000 * x.ilim) })
  else if x.delivers = true ∧ 50 * vCulm ≤ 51 * s.culm.vset ∧ 49 * s.culm.vset ≤ 50 * vCulm ∧ 10000 ≤ heldUs then
    .next (s.setFdr p { x with yield := false })
  else .next s

/-- FEEDER_HALT_RELEASED: the line released and the stage below 30 V, Halted to Idle; source 5 waits 1 s for its one
restart (R134, R371, R393). -/
def execFeederHaltReleased (p : SPort) (vStage : Nat) (s : State) : Ans :=
  let t := s.dropOwn p
  let x := t.fdr[p]
  if x.st = .halted ∧ t.portFree p.port = true ∧ vStage < 30000 ∧ x.retryAt.all (fun a => decide (a ≤ s.now)) = true ∧
      t.stageBars p.port = false then
    .next (t.setFdr p { x with st := .idle, since := s.now, retryAt := none })
  else .next t

end Sys2Proof.Machine
end

