-- ==== Sys2Proof/Machine/Awn.lean ====
section
/-!
DEFINITION. The Awn setpoint link (R377-R389), and the crossings of the clockless core (R356-R361).
-/

namespace Sys2Proof.Machine

/-! ### Command words (R380) -/

def awnOp (w : Word) : Nat := w.bits 31 30
def awnTag (w : Word) : Nat := w.bits 29 22
def awnVset (w : Word) : Nat := w.bits 15 0

/-- The slew of a command, mV/ms: 0 is AWN_CFG.defslew, and 51-63 act as 50 (R380). -/
def State.awnSlew (s : State) (w : Word) : Nat :=
  let n := w.bits 21 16
  100 * (if n = 0 then (s.reg awnCfgAt).bits 29 24 else min 50 n)

/-- The clamped target of a command (R36, R380). -/
def State.awnTarget (s : State) (w : Word) : Nat := max 40000 (min 60000 (s.inCwin (max 40000 (min 60000 (awnVset w)))))

/-! ### Setpoints at Arbitrate (R383) -/

/-- The setpoint command that waits at crossing x1, if any. -/
def State.awnSlot (s : State) : Option Word :=
  s.xslots.findSome? fun q => match q.item with
    | .setpoint w => if q.x = 1 then some w else none
    | _ => none

/-- The setpoint slot of x1 emptied. -/
def State.awnTake (s : State) : State :=
  { s with xslots := s.xslots.filter fun q => match q.item with
      | .setpoint _ => q.x != 1
      | _ => true }

/-- A setpoint at Arbitrate (R383, R413): rejected while the culm is Off or in Stubble or an activation is pending; else accepted, superseding a pending
command, and the setpoint ramps to its clamped target. -/
def State.arbitrate (s : State) : State :=
  match s.awnSlot with
  | none => s
  | some w =>
    let s := s.awnTake
    let tag := awnTag w
    if s.culm.mode = .off ∨ s.culm.mode = .stubble ∨ s.img.req.isSome = true then { s with awn := s.awn.queue .other (awnReply 6 tag 3 0) }
    else
      let x := match s.awn.pend with
        | some old => { s.awn.queue .other (awnReply 3 old 0 tag) with sup := sat 65535 (s.awn.sup + 1) }
        | none => s.awn
      let target := s.awnTarget w
      let x := { x with taglast := some tag, pend := some tag, src := 1, lostAt := none, slew := s.awnSlew w, asked := awnVset w }
      { s with awn := x.answer .other tag (awnReply 2 tag (if target = awnVset w then 0 else 1) target) }.retarget target (s.awnSlew w)

/-- AWN_SETPOINT_ARBITRATE. -/
def execAwnSetpointArbitrate (s : State) : Ans := if s.domOn 3 then .next s.arbitrate else .next s

/-! ### Crossings (R356-R361) -/

/-- The greatest latency of a crossing, in 10 ns (R356). -/
def xingBound (x : Xing) : Nat := match x.val with
  | 0 => 100 | 1 => 60 | 2 => 120 | 3 => 1200 | _ => 200

/-- Whether the crossing carries the item, and its kind: 0 replace, 1 counted, 2 back-pressured (R357). -/
def itemKind (x : Xing) (i : XItem) : Option Nat :=
  match i, x.val with
  | .stook _ _, 0 => some 0
  | .notice, 0 => some 1
  | .notice, 2 => some 1
  | .backPressured, 0 => some 2
  | .backPressured, 2 => some 2
  | .backPressured, 3 => some 2
  | .backPressured, 4 => some 2
  | .setpoint _, 1 => some 1
  | .setpointStatus _, 1 => some 0
  | .bms _, 2 => some 0
  | .rtc _, 3 => some 0
  | .tick, 3 => some 1
  | .report _ _, 3 => some 1
  | .saveGen _, 3 => some 0
  | .saveEst, 3 => some 0
  | .saveThm, 3 => some 0
  | .saveEnergy _, 3 => some 0
  | .nvsDone, 4 => some 1
  | _, _ => none

/-- The domain of the clocked side of a crossing (R356). -/
def clockedDomain (x : Xing) : Nat :=
  match x.val with
  | 0 => 1
  | 1 => 9
  | 2 => 1
  | 3 => 0
  | _ => 11

/-- How long a crossing takes to empty, whole microseconds: twice its greatest latency (R360). -/
def emptyTime (x : Xing) : Nat := (2 * xingBound x + 99) / 100

/-- Whether a side of a crossing is in its own reset, with its domain on (R360): for how long is a free value (assumption 91), and at
least while the crossing empties. -/
def State.resetting (s : State) (x : Xing) : Bool :=
  s.xing[x].ownAt.any fun t => decide (s.now ≤ t + max (emptyTime x) (Config.peerReturn x.val))

/-- Whether a side of a crossing is absent for every item: its domain is off, or it is in its own reset (R360). -/
def State.sideGone (s : State) (x : Xing) : Bool := !s.domOn (clockedDomain x) || !s.domOn 3 || s.resetting x

/-- Whether the peer of a crossing is absent (R360, R364): the control core, too, while it restarts. -/
def State.peerAbsent (s : State) (x : Xing) : Bool := s.sideGone x || (s.dom.coreRestart.isSome && x != 1)

/-- Whether an item of a crossing is kept from its peer by the peer's absence (R360): a control-core restart keeps the back-pressured and
frame items of x0, x2 and x3, and every item of x4. -/
def State.barsItem (s : State) (x : Xing) (i : XItem) : Bool :=
  s.sideGone x || (s.dom.coreRestart.isSome && (x == 4 || (x != 1 && (i == .backPressured || i == .notice))))

/-- Whole watt-hours of an energy in 10⁻¹⁴ J, saturating (R496). -/
def wattHours (e : Nat) : Nat := sat (2 ^ 32 - 1) (e / 360000000000000000)

/-- The limits that a BMS last sent (R533). -/
def BmsRec.sent (x : BmsRec) : BmsLims :=
  { at_ := x.limAt, cvl := x.cvl, ccl := x.ccl, dcl := x.dcl, dvl := x.dvl, cp := x.cp, dp := x.dp, full := x.full, ncell := x.ncell }

/-- The value that an item carries as it is raised (R357). -/
def State.itemData (s : State) (i : XItem) : XData :=
  match i with
  | .bms k => .limits s.bms[k].sent
  | .saveGen c => .gen s.ctx[c].gen
  | .saveEst => .est s.estSaves
  | .saveThm => .thm s.thmSaveOf
  | .saveEnergy p => .energy (wattHours s.energy[p].1) (wattHours s.energy[p].2)
  | _ => .own

/-- A counted slot that has reached 255 is SENSE source 6, naming the crossing (R359). -/
def State.saturated (s : State) (x : Xing) (was is : Nat) : State :=
  if was < 255 ∧ is = 255 then { s with deferred := s.deferred ++ [.occurs bSENSE 6 x.val] } else s

/-- An item put into the slots of a crossing (R357): replaced, counted or waiting. A back-pressured item raised while the peer is absent
is dropped, but one raised in the instant of the reset waits (R360, R361). A setpoint command merged into a newer one is answered
Superseded (R383). -/
def State.raise (s : State) (x : Xing) (i : XItem) : State :=
  match itemKind x i with
  | none => s
  | some 0 => s.putValue ⟨x, i, 1, s.itemData i⟩
  | some 1 => match s.xslots.find? fun q => q.x == x && sameSlot q.item i with
    | none => { s with xslots := s.xslots ++ [⟨x, i, 1, .own⟩] }
    | some q =>
      let n := sat 255 (q.count + 1)
      let s := { s with xslots := s.xslots.map fun (r : XSlot) => if r.x == x && sameSlot r.item i then ⟨x, i, n, .own⟩ else r }
      let s := (s.setXing x { s.xing[x] with merged := sat 255 (s.xing[x].merged + 1) }).saturated x q.count n
      match q.item, i with
      | .setpoint old, .setpoint new =>
        { s with awn := { s.awn.queue .other (awnReply 3 (awnTag old) 0 (awnTag new)) with sup := sat 65535 (s.awn.sup + 1) } }
      | _, _ => s
  | some _ =>
    if s.barsItem x i = true ∧ s.xing[x].emptyAt ≠ some s.now then s.setXing x { s.xing[x] with drops := sat 255 (s.xing[x].drops + 1) }
    else { s with xslots := s.xslots ++ [⟨x, i, 1, .own⟩] }

/-- CROSSING_ITEM_RAISED. A log report goes into the slot of its block and source (R445). -/
def execCrossingItemRaised (x : Xing) (i : XItem) (s : State) : Ans :=
  match i with
  | .report b src => .next (if x = 3 then s.report b src .occurrence false 0 else s)
  | _ => .next (s.raise x i)

/-- A state save taken into retained memory (R190, R277, R291, R357, R493, R496). -/
def State.takeSave (s : State) (i : XItem) (d : XData) : State :=
  match i, d with
  | .saveGen c, .gen g => { s with ret := { s.ret with gens := vset s.ret.gens c g } }
  | _, .est v => { s with ret := { s.ret with est := Vector.ofFn fun p => v[p].getD s.ret.est[p] } }
  | _, .thm t => { s with ret := { s.ret with thm := t } }
  | .saveEnergy p, .energy i o => { s with ret := { s.ret with ein := vset s.ret.ein p i, eout := vset s.ret.eout p o } }
  | _, _ => s

/-- A replace slot taken: the receiving side holds its whole value (R357, R360). -/
def State.keepValue (s : State) (q : XSlot) : State :=
  let r := s.xing[q.x]
  s.setXing q.x { r with kept := (r.kept.filter fun k => !sameSlot k.item q.item) ++ [q] }

/-- What an item does once it is taken: the limits of a BMS enter the flow context store and act from the next iteration (R535). -/
def State.takeItem (s : State) (q : XSlot) : State :=
  let s := if itemKind q.x q.item = some 0 then s.keepValue q else s
  match q.item, q.data with
  | .stook g l, _ => { s with thr := { s.thr with stk := g.toNat, lend := l.toNat } }
  | .bms k, .limits l => { s.setBms k { s.bms[k] with came := l } with deferred := s.deferred ++ [.limits k] }
  | i, d => s.takeSave i d

/-- The latency of an item taken: the last and the longest, and SENSE source 5 beyond the bound of R356 (R364, R365). -/
def State.tookIn (s : State) (x : Xing) (lat : Nat) : State :=
  let r := s.xing[x]
  let s := s.setXing x { r with last := sat 4095 lat, max := max r.max (sat 4095 lat) }
  if xingBound x < lat then s.occur bSENSE 5 x.val else s

/-- CROSSING_ITEM_TAKEN: the receiver takes a slot, or a log report (R359). `lat` is in 10 ns. -/
def execCrossingItemTaken (x : Xing) (i : XItem) (lat : Nat) (s : State) : Ans :=
  if s.barsItem x i then .next s
  else
    match i with
    | .report b src =>
      match s.x3.find? (fun q => q.blk == b && q.src == src) with
      | some q =>
        if x = 3 then .next (({ s with x3 := s.x3.filter fun q => !(q.blk == b && q.src == src) }.arrive q).tookIn x lat)
        else .next s
      | none => .next s
    | .setpoint _ => if x = 1 ∧ s.awnSlot.isSome = true then .next (s.arbitrate.tookIn x lat) else .next s
    | i =>
      match s.xslots.find? (fun q => q.x == x && sameSlot q.item i) with
      | some q => .next (({ s with xslots := s.xslots.erase q }.takeItem q).tookIn x lat)
      | none => .next s

/-- CROSSING_PEER_RESET. A core-side reset of x0, x2 and x3 without the loss of D3 is a control-core restart; a clocked side whose domain
is on is in its own reset. -/
def execCrossingPeerReset (x : Xing) (coreSide : Bool) (s : State) : Ans :=
  let t := s.emptyXing x coreSide (coreSide && s.domOn 3)
  .next (if coreSide = false ∧ s.domOn (clockedDomain x) = true then t.setXing x { t.xing[x] with ownAt := some s.now } else t)

/-! ### Frames (R378, R382) -/

/-- The Received reply (R381): it carries vset for a Setpoint, else 0. -/
def received (w : Word) : Word := awnReply 1 (awnTag w) 0 (if awnOp w = 0 then awnVset w else 0)

/-- A valid frame on a link that is Up: counted, kept, and answered with Received. With the tag of a frame discarded within the last 100 us
it makes that discard a transient one (R393). -/
def State.awnValid (s : State) (w : Word) : State :=
  let same := s.awn.badTag.any fun q => q.2 == awnTag w && decide (s.now ≤ q.1 + 100)
  let s := { s with awn := { s.awn.queue .received (received w) with
    validAt := s.now, cmd := w, rx := sat 65535 (s.awn.rx + 1), badTag := if same then none else s.awn.badTag } }
  if same then s.retryOutcome bAWN 1 0 true else s

/-- The Status reply. -/
def State.awnStatus (s : State) : Word := awnReply 7 (s.awn.taglast.getD 0) s.awn.src s.culm.vmeas

/-- How a reply that is sent again is queued (R386): a Settled frame as one. -/
def replyKind (r : Word) : TxKind := if r.bits 31 28 = 4 then .settled else .other

/-- A Setpoint judged by its tag (R382). -/
def State.awnSetpoint (s : State) (w : Word) : State :=
  let s := s.awnValid w
  let tag := awnTag w
  if tag = s.awn.tagexp then { s with awn := { s.awn with tagexp := (tag + 1) % 256 } }.raise 1 (.setpoint w)
  else if s.awn.taglast = some tag then
    match s.awn.reply with
    | some r => { s with awn := s.awn.queue (replyKind r) r }
    | none => s
  else
    { s with awn := { s.awn.queue .other (awnReply 6 tag 1 0) with seq := sat 255 (s.awn.seq + 1) } }.occur bAWN 2 0

/-- A valid frame by its op (R382). -/
def State.awnFrame (s : State) (w : Word) : State :=
  match awnOp w with
  | 0 => s.awnSetpoint w
  | 1 => let s := s.awnValid w; { s with awn := s.awn.queue .status s.awnStatus }
  | 2 => s.awnValid w
  | _ => let s := s.awnValid w; { s with awn := s.awn.queue .other (awnReply 6 (awnTag w) 2 0) }

/-- Whether frames are received: the link is Up and x1 is not being emptied (R360, R389). -/
def State.awnUp (s : State) : Bool := s.awn.link == .up && !s.peerAbsent 1

/-- AWN_SETPOINT_FRAME. -/
def execAwnSetpointFrame (w : Word) (s : State) : Ans :=
  if s.awnUp = true ∧ awnOp w = 0 then .next (s.awnFrame w) else .next s

/-- AWN_QUERY_FRAME. -/
def execAwnQueryFrame (w : Word) (s : State) : Ans :=
  if s.awnUp = true ∧ awnOp w = 1 then .next (s.awnFrame w) else .next s

/-- AWN_KEEPALIVE_FRAME. -/
def execAwnKeepaliveFrame (w : Word) (s : State) : Ans :=
  if s.awnUp = true ∧ awnOp w = 2 then .next (s.awnFrame w) else .next s

/-- AWN_RESERVED_OP_FRAME. -/
def execAwnReservedOpFrame (w : Word) (s : State) : Ans :=
  if s.awnUp = true ∧ awnOp w = 3 then .next (s.awnFrame w) else .next s

/-- AWN_FRAME_DISCARDED: no reply, counted, AWN source 1 (R378). The tag that a valid frame has to repeat is that of the discarded frame,
which the command does not bring: a free value (R393, assumption 101). -/
def execAwnFrameDiscarded (s : State) : Ans :=
  if s.awn.link = .disabled ∨ s.domOn 9 = false then .next s
  else .next (({ s with awn := { s.awn with crc := sat 255 (s.awn.crc + 1), badTag := some (s.now, s.free % 256) } }.drew).occur bAWN 1 0)

/-! ### Settling (R384) -/

/-- When the present ramp ends. -/
def State.rampEnd (s : State) : Nat :=
  let c := s.culm
  let time (d n : Nat) : Nat := if n = 0 then 0 else (1000 * d + n - 1) / n
  match c.edge with
  | none => c.slewAt + time (apart c.slewFrom c.target) c.slew
  | some (e, n) => c.slewAt + time (apart c.slewFrom e) c.slew + time (apart e c.target) n

/-- AWN_SETTLED: the ramp has reached the target and the culm has then held within 0.5 % of it for tsettle. -/
def execAwnSettled (v heldUs : Nat) (s : State) : Ans :=
  let t := s.culm.target
  match s.awn.pend with
  | some tag =>
    let tsettle := 10 * (s.reg awnCfg2At).bits 7 0
    if s.rampEnd + tsettle ≤ s.now ∧ 200 * v ≤ 201 * t ∧ 199 * t ≤ 200 * v ∧ tsettle ≤ heldUs then
      .next { s with awn := { s.awn.answer .settled tag (awnReply 4 tag 0 t) with pend := none } }
    else .next s
  | none => .next s

/-- AWN_UNSETTLED: not settled within tsmax of the end of the ramp: AWN source 3. -/
def execAwnUnsettled (v : Nat) (s : State) : Ans :=
  if s.awn.pend.isSome = true ∧ s.rampEnd + 1000 * (s.reg awnCfg2At).bits 15 8 ≤ s.now then .next (s.unsettle v) else .next s

/-! ### The link (R379, R387) -/

/-- The setpoint goes back to the nominal one at 1 V/ms (R113, R387). -/
def State.toNominal (s : State) : State :=
  { s with awn := { s.awn with src := 0, lostAt := none } }.retarget (s.thr.inForce.cset.bits 15 0) 1000

/-- AWN_LINK_UP: aligned K28.5, then a valid frame of any op: tags start at 0, and the frame is answered. A slew to the nominal setpoint that
is on its way goes on: the setpoint is its target (R387, assumption 102). -/
def execAwnLinkUp (w : Word) (s : State) : Ans :=
  if s.awn.link = .training ∧ s.peerAbsent 1 = false then
    let t := { s with awn := { s.awn with link := .up, tagexp := 0, taglast := none, reply := none, lostAt := none, statAt := s.now } }
    .next ((t.endCause bAWN 0 0).awnFrame w)
  else .next s

/-- AWN_LINK_DOWN: no valid frame for tmo, or four code violations within 16 characters: source 0, and the setpoint is
held (R387). A pending command gets no further reply, and is no longer pending (assumption 103). -/
def execAwnLinkDown (violations : Nat) (s : State) : Ans :=
  if s.awn.link = .up ∧ (4 ≤ violations ∨ s.awn.validAt + 1000 * (s.reg awnCfgAt).bits 23 16 ≤ s.now) then
    let x := s.awn
    .next ({ s with awn := { x with
      link := .down, sync := sat 255 (x.sync + 1), pend := none, src := if x.src = 1 then 2 else x.src,
      lostAt := if x.src = 0 then none else some s.now } }.occur bAWN 0 0 true)
  else .next s

/-- AWN_LOSSHOLD_EXPIRY: after the hold the setpoint slews to vnom; 255 holds until the link is Up. -/
def execAwnLossholdExpiry (s : State) : Ans :=
  let h := (s.reg awnCfgAt).bits 15 8
  if s.awn.src = 2 ∧ h ≠ 255 ∧ s.awn.lostAt.any (fun t => decide (t + 100000 * h ≤ s.now)) = true then .next s.toNominal
  else .next s

/-- AWN_STATUS_PERIOD: every stper a Status frame is queued (R386). -/
def execAwnStatusPeriod (s : State) : Ans :=
  let p := (s.reg awnCfg2At).bits 23 16
  if s.awn.link = .up ∧ p ≠ 0 ∧ s.awn.statAt + 1000 * p ≤ s.now then
    .next { s with awn := { s.awn.queue .status s.awnStatus with statAt := s.now } }
  else .next s

/-- The frame sent next: Received frames first, Status frames last, the others in the order raised (R386). -/
def nextReply (l : List (TxKind × Word)) : Option (TxKind × Word) :=
  match l.find? (·.1 == .received) with
  | some q => some q
  | none => match l.find? (·.1 != .status) with
    | some q => some q
    | none => l.head?

/-- AWN_REPLY_TRANSMIT. -/
def execAwnReplyTransmit (s : State) : Ans :=
  if s.domOn 9 = true ∧ s.awn.link ≠ .disabled then
    match nextReply s.awn.txq with
    | some q => .next { s with awn := { s.awn with txq := s.awn.txq.erase q } }
    | none => .next s
  else .next s

/-- The link follows AWN_CFG.en and D9 (R379): Disabled without either, else Training from Disabled. A link that is
disabled holds no setpoint (R113). -/
def State.followAwn (s : State) : State :=
  let on := (s.reg awnCfgAt).bit 0 && s.domOn 9
  if on = true ∧ s.awn.link = .disabled then { s with awn := { s.awn with link := .training } }
  else if on = false ∧ s.awn.link ≠ .disabled then
    let t := { s with awn := { s.awn with link := .disabled, pend := none, txq := [] } }
    if s.awn.src = 0 then t else t.toNominal
  else s

/-- The effect of a write to AWN_CFG. -/
def State.writeAwnCfg (s : State) (v : Word) : State := (s.setReg awnCfgAt v).followAwn

/-- AWN_CFG_WRITE, carried to the next iteration (R22, R23). -/
def execAwnCfgWrite (r : Req) (v : Word) (s : State) : Ans := .next (s.viaService r awnCfgAt fun s => s.carry awnCfgAt v)

end Sys2Proof.Machine
end

