-- ==== Sys2Proof/Machine/Meeting.lean ====
section
/-!
DEFINITION. The meeting points (R22-R24): what the writes that they carry do at the next iteration, and the iteration itself.
-/

namespace Sys2Proof.Machine

/-! ### The effect of a write that a meeting point carries -/

/-- A write of SRC_QV: both limits clamped by the port's role in the active image (R184). -/
def State.writeQv (s : State) (p : SPort) (v : Word) : State :=
  let ac := s.img.image.isSome && s.src[p].role == .ac
  let lo := if ac then 900 else 600
  let hi := if ac then 2640 else 6000
  let c (n : Nat) : Nat := max lo (min hi n)
  s.putReg (srcQvAt p) (pack [(0, 16, c (v.bits 15 0)), (16, 16, c (v.bits 31 16))])

/-- The effect of a write of BAT_PCFG: with ntcen 0 the NTC input is not used; with 1 an input that stands open or shorted is source 6
(R227). -/
def State.writeBatPcfg (s : State) (p : BPort) (v : Word) : State :=
  let t := s.setReg (batPcfgAt p) v
  if t.ntcUsed p = false then t.ntcUnused p
  else if s.ntcUsed p = false ∧ t.bat[p].ntc ≠ 0 then t.occur bBAT 6 p.val true
  else t

/-- A write of EST_PCFG: en 0 stops the perturbation, and a pending knee answer is Unavailable (R266); a sweep in progress is dropped
(assumption 92). -/
def State.writeEstPcfg (s : State) (p : BPort) (v : Word) : State :=
  let t := s.setReg (estPcfgAt p) v
  if t.estEn p then t
  else
    (t.setEst p { t.est[p] with st := .waiting, todo := [], waitAt := none }).kneeUnavailable p

/-- A write in the SRC, BAT, CHG and EST blocks: the port registers that act. -/
def State.writePort (s : State) (b off : Nat) (v : Word) : State :=
  let plain := s.setReg (0x10000 * b + off) v
  match b with
  | 0x08 => match slot? 0x100 0x40 4 off with
    | some (p, 0x04) => s.writeQv p v
    | some (p, 0x20) => s.writePctl p v
    | _ => plain
  | 0x09 => match slot? 0x100 0x40 3 off with
    | some (p, 0x00) => s.writeBatPcfg p v
    | some (p, 0x04) => s.writeBatPctl p v
    | _ => plain
  | 0x0A => match slot? 0x100 0x40 3 off with
    | some (p, 0x24) => s.writeChgPctl p v
    | _ => plain
  | 0x0B => match slot? 0x100 0x40 3 off with
    | some (p, 0x00) => s.writeEstPcfg p v
    | some (p, 0x10) => s.writeEstPctl p v
    | _ => plain
  | _ => plain

/-- The effect of a carried write outside the fault registers, by its address. -/
def State.writeEndpoint (s : State) (b off : Nat) (a : Nat) (v : Word) : State :=
  match b with
  | 0x06 => match slot? 0x100 0x10 9 off with
    | some (p, 0) => s.writeCeiling p v
    | _ => s
  | 0x07 => match slot? 0x100 0x20 8 off with
    | some (k, 0) => s.writeBctl k v
    | _ => s.setReg a v
  | 0x08 => s.writePort 0x08 off v
  | 0x09 => s.writePort 0x09 off v
  | 0x0A => s.writePort 0x0A off v
  | 0x0B => s.writePort 0x0B off v
  | 0x0E => if off = 0x10 then s.writeFlowCmd v else s.setReg a v
  | 0x0F => if off = 0x04 then s.writeAwnCfg v else s.setReg a v
  | 0x13 => s.checkProfile (v.bits 12 0)
  | _ => s

/-- The effect of a write that a meeting point carries, by its address: the fault registers, CULM_PCEIL, the endpoint records of L1, L2, P1-P4
and B1-B3, FLOW_CFG and FLOW_CMD, the profile table, and the AWN configuration (R23, R104, R140, R182, R250, R279). -/
def State.writeCarried (s : State) (a : Nat) (v : Word) : State :=
  if h : a / 0x10000 < 21 ∧ hasFaults (a / 0x10000) = true ∧ 0x0F00 ≤ a % 0x10000 ∧ a % 0x10000 ≤ 0x0FFF then s.writeFault ⟨a / 0x10000, h.1⟩ (a % 0x10000) v
  else s.writeEndpoint (a / 0x10000) (a % 0x10000) a v

/-- Whether an offset of the fault registers of a block can be written (R557). -/
def faultWrites (off : Nat) : Bool := off == 0x0F00 || off == 0x0F08 || off == 0x0F0C || off == 0x0F10 || off == 0x0F14

/-- Whether the offset names a command register of a port: SRC_PCTL, BAT_PCTL, CHG_PCTL or EST_PCTL. -/
def portCommand (b off : Nat) : Bool :=
  match b with
  | 0x08 => (slot? 0x100 0x40 4 off).any fun q => q.2 == 0x20
  | 0x09 => (slot? 0x100 0x40 3 off).any fun q => q.2 == 0x04
  | 0x0A => (slot? 0x100 0x40 3 off).any fun q => q.2 == 0x24
  | 0x0B => (slot? 0x100 0x40 3 off).any fun q => q.2 == 0x10
  | _ => false

/-- Whether a write to an offset of a block is carried by the flow context store or by the fault reaction lines (R22): of
the profile table PROF_CHK, its entries waiting in pairs (R233); FLOW_CMD, which
waits likewise, is not among them, since its writes may be discarded (R200). -/
def carries (b off : Nat) : Bool :=
  if hasFaults b = true ∧ 0x0F00 ≤ off ∧ off ≤ 0x0FFF then faultWrites off
  else if b = 0x13 then off == 0xF004
  else (b == 0x06 || b == 0x07 || b == 0x08 || b == 0x09 || b == 0x0A || b == 0x0B || b == 0x0F ||
      (b == 0x0E && off == 0x04)) && ((regSpecAt (0x10000 * b + off)).isSome || portCommand b off)

/-! ### The iteration (R23, R24, R469) -/

/-- The group whose flow a FLOW_CMD word concerns: of the staged definition for CREATE, else of the context that it names. -/
def State.commandGroup (s : State) (v : Word) : Option Group :=
  if v.bits 3 0 = 1 then s.staged.port.bind Port.group?
  else if h : v.bits 23 16 < 160 then s.ctx[v.bits 23 16].d.port.bind Port.group? else none

/-- The converter group whose iteration takes a carried write, where it is one group's: of the endpoint record's port, or of the flow. -/
def State.writeGroup (s : State) (a : Nat) (v : Word) : Option Group :=
  let off := a % 0x10000
  if 0x0F00 ≤ off ∧ off ≤ 0x0FFF then none
  else match a / 0x10000 with
    | 0x08 => (slot? 0x100 0x40 4 off).map fun q => SPort.group q.1
    | 0x09 => (slot? 0x100 0x40 3 off).map fun q => BPort.group q.1
    | 0x0A => (slot? 0x100 0x40 3 off).map fun q => BPort.group q.1
    | 0x0B => (slot? 0x100 0x40 3 off).map fun q => BPort.group q.1
    | 0x0E => if off = 0x10 then s.commandGroup v else none
    | 0x0F => (slot? 0x100 0x20 4 off).map fun q => SPort.group q.1
    | _ => none

/-- Whether something deferred happens at an iteration of a group: not where another group's iteration takes it. -/
def State.dueIn (s : State) (g : Group) : Deferred → Bool
  | .write a v => (s.writeGroup a v).all (· == g)
  | .relatch _ _ => true
  | .occurs _ _ _ => true
  | .entry _ _ => true
  | .limits k => (s.bmsUsers k).isEmpty || (s.bmsUsers k).any fun p => p.group == g
  | .severity _ => true

/-- Whether a deferred write is one of FMSK: in one iteration masks apply before anything else (R469). -/
def Deferred.isMask : Deferred → Bool
  | .write a _ => decide (a % 0x10000 = 0x0F14)
  | .relatch _ _ => false
  | .occurs _ _ _ => false
  | .entry _ _ => false
  | .limits _ => false
  | .severity _ => false

/-- Whether the cause of a source that occurs at an iteration stays present: two neighbouring sensors Failed or Fenced (R305). -/
def State.lasts (s : State) (b : Blk) (i : Src) (obj : Nat) : Bool := b == bTHM && i == 1 && s.pairBad obj

/-- A deferred effect happens. -/
def State.runDeferred (s : State) : Deferred → State
  | .write a v => (s.writeCarried a v).settle
  | .relatch b v => (s.setFlt b { s.flt[b] with fst := s.flt[b].fst ||| (v &&& s.flive b) }).releaseLines b
  | .occurs b i obj => s.occur b i obj (s.lasts b i obj)
  | .entry n w => s.putEntry n w
  | .limits k =>
    (forEach (s.bmsUsers k) (fun s p => s.setChg p { s.chg[p] with disHold := false })
      (s.setBms k { s.bms[k] with act := s.bms[k].came })).settle
  | .severity b => s.applySeverity b

/-- Occurrences from now on belong to the next iteration. -/
def State.iterationEnds (s : State) : State := { s with flt := s.flt.map fun x => { x with occNow := 0 } }

/-- The effects deferred to an iteration of which a condition holds, masks first, then in order; those that they cause wait for the next
one. -/
def State.iterateOn (s : State) (p : Deferred → Bool) : State :=
  let l := s.deferred.filter p
  let s := { s with deferred := s.deferred.filter fun d => !p d }
  ((l.filter (·.isMask) ++ l.filter fun d => !d.isMask).foldl State.runDeferred s).iterationEnds

/-- Every deferred effect, and those due in an iteration of a group. -/
def State.iterate (s : State) : State := s.iterateOn fun _ => true
def State.iterateFor (s : State) (g : Group) : State := s.iterateOn (s.dueIn g)

/-! ### Reading back (R8) -/

/-- What a write that still waits has stored, for a read of its register. -/
def State.asStored (s : State) (a : Nat) (v : Word) : State :=
  let b := a / 0x10000
  if b = 0x13 then s
  else match a % 0x10000 with
  | 0x0F08 => s.putReg a (enforceSev b (v &&& 0x00FFFFFF))
  | 0x0F14 => s.putReg a (enforceMask b (v &&& 0xFF))
  | off => match b with
    | 0x06 => match slot? 0x100 0x10 9 off with
      | some (p, 0) => s.writeCeiling p v
      | _ => s
    | 0x08 => match slot? 0x100 0x40 4 off with
      | some (p, 0x04) => s.writeQv p v
      | _ => s.setReg a v
    | _ => s.setReg a v

/-- The registers as a read of an address finds them: an RW register reads the last value written, whether or not it is in effect yet; an
entry of the profile table is two words. -/
def State.readBack (s : State) (a : Nat) : State :=
  s.deferred.foldl (fun t d => match d with
    | .write k v => if k = a then t.asStored k v else t
    | _ => t) s.entries

end Sys2Proof.Machine
end

