-- ==== Sys2Proof/Machine/Can.lean ====
section
/-!
DEFINITION. The CAN FD battery interface and the Atund message set (R530-R548).
-/

namespace Sys2Proof.Machine

/-- The byte of a frame at a position, 0 beyond its end; two bytes as a word, the first more significant (assumption 46). -/
def byteAt (l : List Byte) (i : Nat) : Nat := (l.getD i 0).toNat
def word16 (l : List Byte) (i : Nat) : Nat := 256 * byteAt l i + byteAt l (i + 1)

/-- Whether the controller takes part in the bus. -/
def State.canOn (s : State) : Bool := s.can.bus < 2 && s.domOn 1

/-- Whether a LIMITS frame is valid (R533, R534). -/
def limitsValid (d : List Byte) : Bool :=
  d.length == 16 && byteAt d 0 < 16 && byteAt d 1 < 8 && decide (1 ≤ byteAt d 2) && decide (byteAt d 2 ≤ 60) && byteAt d 3 == 0 &&
    decide (2000 ≤ word16 d 4) && decide (word16 d 4 ≤ 7200) && decide (2000 ≤ word16 d 10) && decide (word16 d 10 ≤ 7200) &&
    ([12, 13, 14, 15].all fun i => byteAt d i == 0)

/-- Whether a STATE frame is valid (R533, R534). -/
def stateValid (d : List Byte) : Bool :=
  d.length == 16 && byteAt d 0 < 16 && byteAt d 1 < 64 && byteAt d 14 == 0 && byteAt d 15 == 0

/-- An invalid frame: discarded, counted, CAN source 3 naming the BMS (R534). -/
def State.canReject (s : State) (k : Bms) : State :=
  { s with can := { s.can with rej := sat 255 (s.can.rej + 1) } }.occur bCAN 3 k.val

/-- CAN_LIMITS_FRAME (R533-R535): values and age replaced, and raised towards the flow context store; a repeated counter is ignored and counted, and eight in a row are
source 2. -/
def execCanLimitsFrame (k : Bms) (data : List Byte) (s : State) : Ans :=
  if s.canOn = false then .next s
  else if limitsValid data = false then .next (s.canReject k)
  else
    let s := s.endCause bCAN 6 0
    let x := s.bms[k]
    let ctr := byteAt data 0
    if x.limCtr = some ctr then
      let row := x.staleRow + 1
      let t := { s with can := { s.can with stale := sat 255 (s.can.stale + 1) } }.setBms k { x with staleRow := if 8 ≤ row then 0 else row }
      .next (if 8 ≤ row then t.occur bCAN 2 k.val else t)
    else
      let t := { s with can := { s.can with rx := sat 65535 (s.can.rx + 1) } }.setBms k { x with
        limAt := some s.now, limCtr := some ctr, staleRow := 0, cp := (data.getD 1 0).getLsbD 0, dp := (data.getD 1 0).getLsbD 1,
        full := (data.getD 1 0).getLsbD 2, ncell := byteAt data 2, cvl := word16 data 4, ccl := word16 data 6,
        dcl := word16 data 8, dvl := word16 data 10 }
      .next (t.raise 2 (.bms k))

/-- CAN_STATE_FRAME (R534, R536): alarms and cell temperatures; it never restarts the age. -/
def execCanStateFrame (k : Bms) (data : List Byte) (s : State) : Ans :=
  if s.canOn = false then .next s
  else if stateValid data = false then .next (s.canReject k)
  else
    let s := s.endCause bCAN 6 0
    let x := s.bms[k]
    let ctr := byteAt data 0
    if x.stCtr = some ctr then .next { s with can := { s.can with stale := sat 255 (s.can.stale + 1) } }
    else
      let alarm := decide (byteAt data 1 ≠ 0)
      let t := { s with can := { s.can with rx := sat 65535 (s.can.rx + 1) } }.setBms k { x with
        stAt := some s.now, stCtr := some ctr, alarm := alarm, tmin := signedOf 8 (byteAt data 12), tmax := signedOf 8 (byteAt data 13) }
      .next (if alarm then t.occur bCAN 5 k.val true else t.endCause bCAN 5 k.val)

/-- Two bytes of a 16-bit value, the first more significant. -/
def bytes16 (v : Nat) : List Byte := [BitVec.ofNat 8 (v / 256), BitVec.ofNat 8 v]

/-- A signed value as a 16-bit field, saturated. -/
def field16 (v : Int) : Nat := (satInt 16 v % 65536).toNat

/-- The state code that DOM_STAT shows (R479). -/
def State.domState (s : State) : Nat := s.dom.st.code

/-- The MODULE STATUS frame of a lithium port (R537). -/
def State.moduleStatus (s : State) (p : BPort) (l : LithEntry) : List Byte :=
  let x := s.bat[p]
  let flags := (if x.cur < 0 then 1 else 0) + (if 0 < x.cur then 2 else 0) + (if s.bmsLive l then 4 else 0) +
    (if s.chg[p].safe then 8 else 0)
  [BitVec.ofNat 8 (s.can.ctr[p] % 16), BitVec.ofNat 8 (p.val + 16 * s.domState), BitVec.ofNat 8 s.chg[p].phase,
   BitVec.ofNat 8 flags] ++
    bytes16 (sat 65535 (x.vterm.toNat / 10)) ++ bytes16 (field16 (x.cur / 10)) ++ bytes16 (sat 65535 (s.chg[p].vtgt / 10)) ++
    bytes16 (sat 65535 (s.chg[p].itgt / 10)) ++ [0, 0, 0, 0]

/-- A frame queued, up to 8 deep: beyond that the oldest goes, counted, CAN source 4 (R537). -/
def State.canQueue (s : State) (id : Nat) (d : List Byte) : State :=
  let l := s.can.txq ++ [(id, d)]
  if l.length ≤ 8 then { s with can := { s.can with txq := l } }
  else { s with can := { s.can with txq := l.tail, drop := sat 255 (s.can.drop + 1) } }.occur bCAN 4 0

/-- MODULE_STATUS_SEND: every stper, for each lithium port (R537). -/
def execModuleStatusSend (p : BPort) (s : State) : Ans :=
  match s.lithium p with
  | some l =>
    let cfg := s.reg canCfgAt
    if s.can.bus ≠ 3 ∧ s.domOn 1 = true ∧ s.can.sentAt[p] + 10000 * cfg.bits 31 24 ≤ s.now then
      let t := s.canQueue (0x40 * cfg.bits 21 16 + 4 * l.bms.val + p.val) (s.moduleStatus p l)
      .next { t with can := { t.can with sentAt := vset t.can.sentAt p s.now, ctr := vset t.can.ctr p ((t.can.ctr[p] + 1) % 16) } }
    else .next s
  | none => .next s

/-- CAN_FRAME_SENT: the oldest queued frame has been sent. -/
def execCanFrameSent (s : State) : Ans :=
  match s.can.txq with
  | _ :: l => if s.canOn then .next { s.endCause bCAN 6 0 with can := { s.can with txq := l, tx := sat 65535 (s.can.tx + 1) } } else .next s
  | [] => .next s

/-- CAN_BUS_OFF: CAN source 1 (R538). The transmit error counter that ISO 11898-1 gives saturates in CAN_STAT (R546). -/
def execCanBusOff (s : State) : Ans :=
  if s.canOn then .next ({ s with can := { s.can with bus := 2, tec := 255 } }.occur bCAN 1 0 true) else .next s

/-- CAN_ERROR_PASSIVE: CAN source 0. Which counter passed 127 the command does not say: both are free values. -/
def execCanErrorPassive (s : State) : Ans :=
  if s.can.bus = 0 ∧ s.domOn 1 = true then
    let t := { s with can := { s.can with bus := 1, tec := s.freeAt 0 % 256, recv := s.freeAt 1 % 256 } }.drewMany 2
    .next (t.occur bCAN 0 0 true)
  else .next s

/-- The controller error active again: the causes of sources 0 and 1 have ended, and a bus-off of up to 1 s was transient (R538). -/
def State.errorActive (s : State) : State :=
  let inTime := s.flt[bCAN].retries.any fun q => q.src == 1 && decide (s.now ≤ q.start + 1000000)
  ((s.endCause bCAN 1 0).endCause bCAN 0 0).retryOutcome bCAN 1 0 inTime

/-- CAN_ERROR_ACTIVE_REGAINED: within 1 s of bus-off the occurrence is transient (R538, R547). -/
def execCanErrorActiveRegained (tec recv : Nat) (s : State) : Ans :=
  if (s.can.bus = 1 ∨ s.can.bus = 2) ∧ s.domOn 1 = true then
    let t := { s with can := { s.can with bus := 0, tec := sat 255 tec, recv := sat 255 recv } }
    .next t.errorActive
  else .next s

/-- CAN_BUS_DOMINANT: the bus held dominant for 1 ms is CAN source 6 (R538), until a frame passes. -/
def execCanBusDominant (us : Nat) (s : State) : Ans := if s.canOn = true ∧ 1000 ≤ us then .next (s.occur bCAN 6 0 true) else .next s

/-- The controller restarted: queued frames dropped, error counters from 0, on where CAN_CFG.en is 1 and D1 is on (R540). -/
def State.canRestart (s : State) : State :=
  let on := (s.reg canCfgAt).bit 0 && s.domOn 1
  let t := { s with can := { s.can with bus := if on then 0 else 3, tec := 0, recv := 0, txq := [] } }
  if on then t.errorActive else ((t.endCause bCAN 1 0).endCause bCAN 0 0).endCause bCAN 6 0

/-- Whether the receive and transmit ranges of a CAN_CFG word overlap, or its txbase lies above 0x1F (R537). -/
def canCfgBad (v : Word) : Bool :=
  decide (31 < v.bits 21 16) ||
    (decide (0x100 * v.bits 10 8 ≤ 0x40 * v.bits 21 16 + 0x3E) && decide (0x40 * v.bits 21 16 ≤ 0x100 * v.bits 10 8 + 0xFF))

/-- The effect of a write to CAN_CFG (R537, R540). -/
def State.writeCanCfg (s : State) (v : Word) : State :=
  if canCfgBad v then s
  else
    let old := s.reg canCfgAt
    let t := s.setReg canCfgAt v
    if old.bit 0 ≠ v.bit 0 ∨ old.bits 10 8 ≠ v.bits 10 8 ∨ old.bits 21 16 ≠ v.bits 21 16 then t.canRestart else t

/-- CAN_CFG_WRITE. -/
def execCanCfgWrite (r : Req) (v : Word) (s : State) : Ans := .next (s.viaService r canCfgAt fun s => s.writeCanCfg v)

end Sys2Proof.Machine
end

