-- ==== Sys2Proof/Machine/RingBase.lean ====
section
/-!
DEFINITION. The Sheaf Link ring: sides, frames, positions, sessions, and the stook exchange (R507-R529). Register access
through the ring stands in Ring.lean.
-/

namespace Sys2Proof.Machine

/-! ### The module as a node (R509, R511) -/

/-- The stag of the module: the low 16 bits of its serial number. -/
def State.stag (s : State) : BitVec 16 := s.fuse.sn.truncate 16

/-- The src byte of the module: its position, or 0xFE without one. -/
def State.srcByte (s : State) : Byte := if s.ring.pos = 0 then 0xFE else BitVec.ofNat 8 s.ring.pos

/-- The serial number as six bytes, and a word as four, most significant first. -/
def snBytes (sn : BitVec 48) : List Byte := (List.range 6).map fun i => BitVec.ofNat 8 (sn.toNat >>> (8 * (5 - i)))
def wBytes (w : Word) : List Byte := (List.range 4).map fun i => BitVec.ofNat 8 (w.toNat >>> (8 * (3 - i)))
def nonceBytes (n : BitVec 128) : List Byte := (List.range 16).map fun i => BitVec.ofNat 8 (n.toNat >>> (8 * (15 - i)))
def keyBytes (k : Vector Word 8) : List Byte := k.toList.flatMap wBytes

/-- The word at a byte position of a payload, most significant byte first. -/
def word32 (l : List Byte) (i : Nat) : Word := BitVec.ofNat 32 (65536 * word16 l i + word16 l (i + 2))

/-- Whether a frame names the module's serial number in its first six payload bytes. -/
def State.bySerial (s : State) (f : Frame) : Bool := f.dst == 0xFE && f.payload.take 6 == snBytes s.fuse.sn

/-- Whether a frame is addressed to the module (R511). -/
def State.addressed (s : State) (f : Frame) : Bool :=
  (s.ring.pos != 0 && f.dst == BitVec.ofNat 8 s.ring.pos) || s.bySerial f || f.dst == 0xFF

/-- Whether a frame is the module's own, come back round the ring (R511). -/
def State.ownFrame (s : State) (f : Frame) : Bool := f.src == s.srcByte && f.stag == s.stag

/-- Whether the framer receives anything: D1 is on and a side is Up. -/
def State.ringUp (s : State) : Bool := s.domOn 1 && s.ring.sides.toList.any (·.st == 2)

/-- Whether the module accepts a frame type without a position: DISCOVER, ASSIGN, STOOK, and frames by serial number (R517). -/
def State.positioned (s : State) (f : Frame) : Bool :=
  s.ring.pos != 0 || f.typ == 0x01 || f.typ == 0x03 || f.typ == 0x20 || s.bySerial f

/-! ### Copies and retransmissions (R513) -/

/-- The seq values accepted from a frame's sender. -/
def State.seqs (s : State) (f : Frame) : List Nat :=
  match s.ring.peers.find? fun q => q.src == f.src.toNat && q.stag == f.stag.toNat with
  | some q => q.seqs
  | none => []

/-- Whether a frame repeats one of the last four seq values of its sender. -/
def State.repeated (s : State) (f : Frame) : Bool := (s.seqs f).contains f.seq.toNat

/-- A sender heard, with a seq value accepted where `seq` is given. -/
def State.heard (s : State) (f : Frame) (seq : Option Nat) : State :=
  let q : PeerRec := { src := f.src.toNat, stag := f.stag.toNat, heard := s.now
                       seqs := match seq with | some n => (n :: s.seqs f).take 4 | none => s.seqs f }
  { s with ring := { s.ring with
      peers := q :: s.ring.peers.filter fun p => !(p.src == f.src.toNat && p.stag == f.stag.toNat) } }

/-- A valid copy of a frame of which the copy from the other direction was discarded up to 1 ms before: RING source 0 was transient
(R512). -/
def State.copyCame (s : State) (f : Frame) (side : Option Side) : State :=
  match s.ring.bad with
  | some (q, src, stag, seq, t) =>
    if src = f.src.toNat ∧ stag = f.stag.toNat ∧ seq = f.seq.toNat ∧ side ≠ some q ∧ s.now ≤ t + 1000 then
      { s with ring := { s.ring with bad := none } }.retryOutcome bRING 0 0 true
    else s
  | none => s

/-- A frame accepted for the module: counted, its seq kept. -/
def State.accepted (s : State) (f : Frame) : State :=
  let t := (s.copyCame f none).heard f (some f.seq.toNat)
  { t with ring := { t.ring with rx := sat 65535 (t.ring.rx + 1) } }

/-- Whether the module acts on a frame of a type: received, addressed, not its own, of the type, and no second copy. -/
def State.takes (s : State) (f : Frame) (typ : Byte) : Bool :=
  s.ringUp && s.addressed f && !s.ownFrame f && f.typ == typ && s.positioned f && !s.repeated f

/-! ### Own frames (R514) -/

/-- A side of the ring replaced. -/
def State.setSide (s : State) (q : Side) (x : SideRec) : State := { s with ring := { s.ring with sides := vset s.ring.sides q x } }

/-- A frame put into the queue of one side: dropped, counted, RING source 5 where 8 wait. -/
def State.queueOn (s : State) (q : Side) (f : Frame) : State :=
  let x := s.ring.sides[q]
  if x.own.length < 8 then s.setSide q { x with own := x.own ++ [f] }
  else { s with ring := { s.ring with drop := sat 255 (s.ring.drop + 1) } }.occur bRING 5 0

/-- A frame of the module (R509), with its next seq. -/
def State.frame (s : State) (dst typ flags : Byte) (payload : List Byte) : Frame :=
  { dst := dst, src := s.srcByte, stag := s.stag, typ := typ, seq := BitVec.ofNat 8 s.ring.ownSeq, hops := 0, flags := flags,
    payload := payload, trailer := none }

/-- The next seq value used up. -/
def State.usedSeq (s : State) : State := { s with ring := { s.ring with ownSeq := (s.ring.ownSeq + 1) % 256 } }

/-- A frame sent out of both sides. -/
def State.send (s : State) (f : Frame) : State := ((s.usedSeq).queueOn 0 f).queueOn 1 f

/-- RING_OWN_FRAME_SENT: the oldest own frame of an Up side has been sent, behind the frame that it forwarded (R514). -/
def execRingOwnFrameSent (q : Side) (s : State) : Ans :=
  let x := s.ring.sides[q]
  match x.own with
  | _ :: l =>
    if x.st = 2 ∧ s.domOn 1 = true then
      let t := s.setSide q { x with own := l, fwd := none }
      .next { t with ring := { t.ring with tx := sat 65535 (t.ring.tx + 1) } }
    else .next s
  | [] => .next s

/-! ### Sides (R508, R514, R516) -/

/-- SYS_ID (R3, R559): hardware level 2, image format 3, the variant. -/
def State.sysId (s : State) : Word := if s.fuse.variantL then 0x30010302 else 0x30000302

/-- The IDENT payload (R510). -/
def State.ident (s : State) : List Byte :=
  snBytes s.fuse.sn ++ [BitVec.ofNat 8 s.ring.pos, BitVec.ofNat 8 s.ring.sides[(0 : Side)].hop, BitVec.ofNat 8 s.ring.sides[(1 : Side)].hop] ++
    wBytes s.sysId ++ [BitVec.ofNat 8 s.domState, 0, 0]

/-- IDENT sent out of both sides. -/
def State.sendIdent (s : State) : State :=
  { s with ring := { s.ring with identAt := s.now } }.send (s.frame 0 0x02 0 s.ident)

/-- RING_SIDE_UP: four aligned K28.5; without a position IDENT leaves this side at once. -/
def execRingSideUp (q : Side) (aligned : Nat) (s : State) : Ans :=
  let x := s.ring.sides[q]
  if s.domOn 1 = true ∧ x.st ≠ 2 ∧ 4 ≤ aligned then
    let t := s.setSide q { x with st := 2 }
    let t := (t.endCause bRING 1 q.val).endCause bRING 2 0
    .next (if t.ring.pos = 0 then ({ t with ring := { t.ring with identAt := t.now } }.usedSeq).queueOn q (t.frame 0 0x02 0 t.ident) else t)
  else .next s

/-- RING_SIDE_DOWN: four code violations within 16 characters, or no character for 10 us: RING source 1, and source 2 where
both sides are Down. -/
def execRingSideDown (q : Side) (violations silentUs : Nat) (s : State) : Ans :=
  let x := s.ring.sides[q]
  if s.domOn 1 = true ∧ x.st = 2 ∧ (4 ≤ violations ∨ 10 ≤ silentUs) then
    let t := s.setSide q { x with st := 0, downs := sat 255 (x.downs + 1), cv := sat 65535 (x.cv + violations), fwd := none }
    let t := t.occur bRING 1 q.val true
    .next (if t.ring.sides.toList.all (·.st != 2) then t.occur bRING 2 0 true else t)
  else .next s

/-- A module without a position takes no share of a stook (R526); reports received so far are dropped. -/
def State.unplaced (s : State) : State :=
  { s with thr := { s.thr with stk := 0xFFFF, lend := 0 }, ring := { s.ring with pos := 0, exch := [] } }

/-- A frame from another node that holds the module's position: RING source 4, and the position is cleared (R518). The Lend grants fall to
zero at the next round (R539). -/
def State.conflict (s : State) (f : Frame) : State :=
  if s.ring.pos ≠ 0 ∧ f.src.toNat = s.ring.pos ∧ f.stag ≠ s.stag then s.unplaced.occur bRING 4 0 else s

/-- RING_FRAME_FORWARD (R511, R512): own frames are removed, frames at the hop limit and frames for a side that is not Up are
dropped, a bad frame is reported and its copy ends with K30.7; the rest leave the other side with hops advanced. -/
def execRingFrameForward (q : Side) (f : Frame) (crcOk : Bool) (s : State) : Ans :=
  let o : Side := if q = 0 then 1 else 0
  if s.domOn 1 = false ∨ s.ring.sides[q].st ≠ 2 then .next s
  else
    let s := if crcOk then (if s.ownFrame f then s else ((s.copyCame f (some q)).heard f none).conflict f)
      else { s with ring := { s.ring with crc := sat 255 (s.ring.crc + 1), bad := some (q, f.src.toNat, f.stag.toNat, f.seq.toNat, s.now) } }.occur
        bRING 0 0
    if s.ownFrame f ∨ (s.addressed f = true ∧ f.dst ≠ 0xFF) then .next s
    else if 64 ≤ f.hops.toNat ∧ s.addressed f = false then
      .next ({ s with ring := { s.ring with hop := sat 255 (s.ring.hop + 1) } }.occur bRING 6 0)
    else if s.ring.sides[o].st ≠ 2 then .next s
    else .next (s.setSide o { s.ring.sides[o] with fwd := some { f with hops := f.hops + 1 }, spoilt := !crcOk })

/-! ### Positions (R516-R518) -/

/-- DISCOVER: the hops of this side are kept; the first copy is answered with IDENT. -/
def execDiscover (q : Side) (f : Frame) (s : State) : Ans :=
  if s.domOn 1 = true ∧ s.ring.sides[q].st = 2 ∧ f.typ = 0x01 ∧ f.dst = 0xFF then
    let t := s.setSide q { s.ring.sides[q] with hop := f.hops.toNat % 128 }
    .next (if s.repeated f then t else (t.accepted f).sendIdent)
  else .next s

/-- IDENT_PERIODIC: once every second without a position. -/
def execIdentPeriodic (s : State) : Ans :=
  if s.ringUp = true ∧ s.ring.pos = 0 ∧ s.ring.identAt + 1000000 ≤ s.now then .next s.sendIdent else .next s

/-- POSITION_CONFLICT: another node holds the module's position; RING source 4, and the position is cleared (R518). -/
def execPositionConflict (f : Frame) (s : State) : Ans :=
  .next (if s.ringUp then s.conflict f else s)

/-! ### Sessions and keys (R524, R525) -/

/-- Whether authentication is required: from the first key on. -/
def State.authRequired (s : State) : Bool := !s.fuse.keys.isEmpty

/-- The first 16 bytes of an HMAC. -/
def mac (k : Vector Word 8) (l : List Byte) : BitVec 128 :=
  let h := Config.hmac k l
  BitVec.ofNat 128 (((h[0].toNat * 2 ^ 32 + h[1].toNat) * 2 ^ 32 + h[2].toNat) * 2 ^ 32 + h[3].toNat)

/-- The header of a frame as a tag covers it: byte 6 taken as 0 (R509, R525). -/
def frameHeader (f : Frame) : List Byte :=
  [f.dst, f.src, BitVec.ofNat 8 (f.stag.toNat / 256), BitVec.ofNat 8 f.stag.toNat, f.typ, f.seq, 0, f.flags] ++ bytes16 f.payload.length

/-- The tag of a frame under a session key: lead byte 0x48 from the host, 0x4D from the module. -/
def frameTag (f : Frame) (key : Vector Word 8) (lead : Byte) (c : BitVec 32) : BitVec 128 :=
  mac key (lead :: wBytes c ++ frameHeader f ++ f.payload)

/-- Whether a host frame carries a valid trailer: a session is open, the counter lies above the last one, and the tag is
right. -/
def State.trailerOk (s : State) (f : Frame) : Bool :=
  match s.ring.sess, f.trailer with
  | some q, some (c, tag) => q.c.all (fun last => decide (last < c.toNat)) && tag == frameTag f q.key 0x48 c
  | _, _ => false

/-- Whether a host frame may be executed (R524): authentication is not required, or the trailer is valid. -/
def State.authOk (s : State) (f : Frame) : Bool := !s.authRequired || (f.dst != 0xFF && s.trailerOk f)

/-- An accepted counter kept; the session ends at 0xFFFFFFFF (R525). -/
def State.usedCounter (s : State) (f : Frame) : State :=
  match s.ring.sess, f.trailer with
  | some q, some (c, _) =>
    if s.trailerOk f then
      { s with ring := { s.ring with sess := if c.toNat = 2 ^ 32 - 1 then none else some { q with c := some c.toNat } } }
    else s
  | _, _ => s

/-- A frame to the host in answer to a request: with a trailer where the request carried one in a session (R525). -/
def State.answerFrame (s : State) (req : Frame) (typ : Byte) (payload : List Byte) : Frame :=
  match s.ring.sess, req.trailer with
  | some q, some (c, _) =>
    let f := s.frame 0 typ 1 payload
    { f with trailer := some (c, frameTag f q.key 0x4D c) }
  | _, _ => s.frame 0 typ 0 payload

/-- A REPLY's payload: status, three reserved bytes, and the words read (R510). -/
def replyPayload (status : Nat) (words : List Word) : List Byte := [BitVec.ofNat 8 status, 0, 0, 0] ++ words.flatMap wBytes

/-- An answer sent and stored for a retransmission of its request (R513). -/
def State.answer (s : State) (req : Frame) (f : Frame) : State :=
  let t := s.send f
  { t with ring := { t.ring with replies := ((req.typ.toNat, req.seq.toNat, f) :: t.ring.replies).take 4 } }

/-- A request refused for authentication: status 3, counted, RING source 3 (R524). -/
def State.refuseAuth (s : State) (f : Frame) : State :=
  ({ s with ring := { s.ring with auth := sat 255 (s.ring.auth + 1) } }.answer f (s.frame 0 0x12 0 (replyPayload 3 []))).occur bRING 3 0

/-- The payload of a frame behind the serial number that addresses it, where dst is 0xFE (R509). DEDUCED, assumption 40. -/
def bodyOf (f : Frame) : List Byte := if f.dst = 0xFE then f.payload.drop 6 else f.payload

/-- HELLO: with a key in use, a new session and CHAL (R525); no CHAL without a position (R517). -/
def State.helloEffect (s : State) (f : Frame) (nm : BitVec 128) : State :=
  match s.fuse.keys.getLast? with
  | none => s
  | some k =>
    let key := Config.hmac k ((bodyOf f).take 16 ++ nonceBytes nm ++ snBytes s.fuse.sn)
    let t := { s with ring := { s.ring with sess := some { key := key, c := none } } }
    if t.ring.pos = 0 then t else t.send (t.frame 0 0x31 0 (nonceBytes nm ++ nonceBytes (mac key [0x4D])))

/-- RING_CTL (R541), and its three effects (R524, R525, R542). -/
def ringCtlAt : Nat := 0x100010
def State.keyprog (s : State) (authed : Bool) : State :=
  if s.fuse.keys.length < 4 ∧ (s.fuse.keys = [] ∨ authed = true) then
    { s with fuse := { s.fuse with keys := s.fuse.keys ++ [s.ring.key] } }
  else s
def State.endSession (s : State) : State := { s with ring := { s.ring with sess := none } }
def State.clearRing (s : State) : State :=
  { s with ring := { s.ring with
      rx := 0, tx := 0, crc := 0, auth := 0, drop := 0, hop := 0, sides := s.ring.sides.map fun x => { x with downs := 0, cv := 0 } } }

/-- A write of RING_CTL. -/
def State.writeRingCtl (s : State) (authed : Bool) (v : Word) : State :=
  let s := if v.bit 0 then s.keyprog authed else s
  let s := if v.bit 1 then s.endSession else s
  if v.bit 2 then s.clearRing else s

/-- RING_KEYPROG: allowed without authentication for the first key, later only through an authenticated WRITE. -/
def execRingKeyprog (r : Req) (authed : Bool) (s : State) : Ans :=
  .next (s.viaService r ringCtlAt fun s => s.keyprog (authed && r == .host))

/-- RING_ENDSESS. -/
def execRingEndsess (r : Req) (s : State) : Ans := .next (s.viaService r ringCtlAt State.endSession)

/-- RING_CLRCNT. -/
def execRingClrcnt (r : Req) (s : State) : Ans := .next (s.viaService r ringCtlAt State.clearRing)

/-! ### Stooks and the exchange (R526-R528) -/

/-- STOOK: the entry of the module's position goes into THR_STK; the exchange begins (R526). -/
def execStook (f : Frame) (s : State) : Ans :=
  if s.ringUp = true ∧ f.typ = 0x20 ∧ f.dst = 0xFF ∧ f.src = 0 ∧ s.repeated f = false then
    let q := s.ring.pos
    let has := q ≠ 0 ∧ 4 * q ≤ f.payload.length
    let grant := if has then word16 f.payload (4 * (q - 1)) else 0xFFFF
    let lend := if has then word16 f.payload (4 * (q - 1) + 2) else 0
    let t := s.accepted f
    .next { t with
      thr := { t.thr with stk := grant, lend := lend }
      ring := { t.ring with xseq := f.seq.toNat, stookAt := some s.now, evalDue := true, sendDue := true, lost := false, exch := [] } }
  else .next s

/-- The Lend and Borrow flows that are not Free. -/
def State.exchFlows (s : State) : List Ctx := allCtx.filter fun c => s.ctx[c].st != .free && (s.ctx[c].d.kind == 5 || s.ctx[c].d.kind == 6)

/-- The stook number of a flow's via port (R542). -/
def State.stkOf (s : State) (d : FlowDef) : Nat := match d.port.bind Port.src? with
  | some p => (s.reg (ringPstkAt p)).bits 3 0
  | none => 0

/-- The entry of a flow in EXCH (R526). -/
def State.exchEntry (s : State) (c : Ctx) : List Byte :=
  let f := s.ctx[c]
  [BitVec.ofNat 8 (16 * (if f.d.kind = 5 then 1 else 2) + s.stkOf f.d), BitVec.ofNat 8 (f.d.remote + 1)] ++
    bytes16 (if f.d.kind = 5 then sat 65535 f.grant else 0)

/-- EXCH_SEND: within 2 ms of a broadcast, with a position and at least one such flow; the reported grants are kept (R542). -/
def execExchSend (s : State) : Ans :=
  if s.ringUp = true ∧ s.ring.sendDue = true ∧ s.ring.pos ≠ 0 ∧ s.exchFlows ≠ [] then
    let l := s.exchFlows.take 64
    let t := s.send (s.frame 0xFF 0x21 0 (l.flatMap s.exchEntry))
    let t := { t with ring := { t.ring with sendDue := false } }
    .next (forEach l (fun s c => if s.ctx[c].d.kind = 5 then s.setCtx c { s.ctx[c] with peerGrant := s.ctx[c].grant } else s) t)
  else .next s

/-- EXCH_RECEIVED: the report is kept until the evaluation. -/
def execExchReceived (f : Frame) (s : State) : Ans :=
  if s.ringUp = true ∧ f.typ = 0x21 ∧ f.dst = 0xFF ∧ s.ownFrame f = false ∧ s.repeated f = false ∧ s.ring.pos ≠ 0 then
    let t := s.accepted f
    .next { t with ring := { t.ring with exch := t.ring.exch ++ [(f.src.toNat, f.stag.toNat, f.payload)] } }
  else .next s

/-- The entries of a report: kind, stook number, position, grant. -/
def exchEntries (l : List Byte) : List (Nat × Nat × Nat × Nat) :=
  (List.range (l.length / 4)).map fun i => (byteAt l (4 * i) / 16, byteAt l (4 * i) % 16, byteAt l (4 * i + 1), word16 l (4 * i + 2))

/-- A Lend or Borrow flow at the evaluation (R527). -/
def State.evaluate (s : State) (c : Ctx) : State :=
  let f := s.ctx[c]
  let peer := f.d.remote + 1
  let reports := s.ring.exch.filter fun q => q.1 == peer
  let want := if f.d.kind = 5 then 2 else 1
  let stk := s.stkOf f.d
  let found := (reports.flatMap fun q => exchEntries q.2.2).find? fun (k, n, pos, _) =>
    k == want && n == stk && stk != 0 && pos == s.ring.pos && pos != 0
  if reports = [] then s.setCtx c { f with peer := peer, peerGrant := if f.d.kind = 6 then 0 else f.peerGrant }
  else match found with
    | some (_, _, _, g) => s.setCtx c { f with
        paired := true, peer := peer, pstag := (reports.getLast?.map fun q => q.2.1).getD f.pstag, peerGrant := if f.d.kind = 6 then g else f.peerGrant }
    | none => s.setCtx c { f with paired := false, peer := peer, peerGrant := if f.d.kind = 6 then 0 else f.peerGrant }

/-- EXCH_EVALUATION: 5 ms after a broadcast (R527). -/
def execExchEvaluation (s : State) : Ans :=
  if s.domOn 1 = true ∧ s.ring.evalDue = true ∧ s.ring.stookAt.any (fun t => decide (t + 5000 ≤ s.now)) = true then
    let t := forEach s.exchFlows State.evaluate s
    .next { t with ring := { t.ring with evalDue := false, nrep := sat 255 s.ring.exch.length } }.settle
  else .next s

/-- STOOK_MISSING: 30 ms without a valid STOOK (R528). -/
def execStookMissing (s : State) : Ans :=
  if s.domOn 1 = true ∧ s.ring.lost = false ∧ s.ring.stookAt.any (fun t => decide (t + 30000 ≤ s.now)) = true then
    .next { s with thr := { s.thr with stk := 0xFFFF, lend := 0 }, ring := { s.ring with lost := true } }
  else .next s

/-- PEER_SILENT: 100 ms without any frame from the peer's position; both flows of the pair are Suspended with cause bit 5,
FLOW source 4 (R208, R527). -/
def execPeerSilent (c : Ctx) (s : State) : Ans :=
  let f := s.ctx[c]
  let silent := (s.ring.peers.filter fun q => q.src == f.d.remote + 1 && q.stag == f.pstag).all fun q => decide (q.heard + 100000 ≤ s.now)
  if f.st ≠ .free ∧ (f.d.kind = 5 ∨ f.d.kind = 6) ∧ f.paired = true ∧ silent = true then
    .next ((s.setCtx c { f with paired := false, peerGrant := 0 }).settle.occur bFLOW 4 c.val)
  else .next s

/-! ### D1 switched (R517, R525, R540) -/

/-- D1 on or off: positions, sessions, sequence lists and queues are lost; counters start afresh; the CAN controller follows. -/
def State.ringReset (s : State) : State :=
  let st := if s.domOn 1 then 1 else 0
  { s with ring := { RingRec.reset with
      sides := Vector.replicate 2 ⟨st, 0, 0, 0, none, [], false⟩, stookAt := s.ring.stookAt } }.canRestart

end Sys2Proof.Machine
end

