-- ==== Sys2Proof/Machine/Loader.lean ====
section
/-!
DEFINITION. The image loader: the checks of an image, its application, the start-up flows, the boot record and the profile
backing (R79, R395-R408, R415). The header and the layout are judged on the bytes of the bank; what the sections say is
`Config.sections`.
-/

namespace Sys2Proof.Machine

/-! ### The checks on the bytes (R395-R398) -/

/-- A number from bytes of an image, most significant first. -/
def hdr (l : List Byte) (a n : Nat) : Nat := beNat ((l.drop a).take n)

/-- Whether bytes of an image are all 0. -/
def zeroes (l : List Byte) (a n : Nat) : Bool := ((l.drop a).take n).all (· == 0)

/-- Check 9 of R398 on the header: every field has a value that R395 gives as valid, but keysel, which check 12 judges (assumption 96). -/
def headerOk (h : List Byte) : Bool :=
  hdr h 0 4 == 0x4B4E3330 && hdr h 4 2 == 3 && hdr h 6 2 == 2 && decide (1 ≤ hdr h 0x0C 4) && decide (hdr h 0x0C 4 ≤ 0xFFFFFFFE) &&
  decide (hdr h 0x10 1 ≤ 63) && (hdr h 0x12 1 == 8 || hdr h 0x12 1 == 9) &&
  zeroes h 0x13 13 && zeroes h 0xE0 28 && (crc32 (h.take 0xFC)).toNat == hdr h 0xFC 4

/-- The fields of an entry of the section table. -/
def secAt (i : Nat) : Nat := 0x20 + 16 * i
def secType (h : List Byte) (i : Nat) : Nat := hdr h (secAt i) 2
def secOff (h : List Byte) (i : Nat) : Nat := hdr h (secAt i + 4) 4
def secLen (h : List Byte) (i : Nat) : Nat := hdr h (secAt i + 8) 4

/-- Check 10: the length, and every section within bounds and without overlap. -/
def layoutOk (h : List Byte) : Bool :=
  let n := hdr h 8 4
  let k := hdr h 0x12 1
  n % 256 == 0 && decide (4096 ≤ n) && decide (n ≤ 131072) &&
  ((List.range k).all fun i =>
    hdr h (secAt i + 2) 2 == 0 && secOff h i % 16 == 0 && decide (0x100 ≤ secOff h i) &&
      decide (secOff h i + secLen h i ≤ n - 64)) &&
  ((List.range k).all fun i => (List.range i).all fun j =>
    decide (secOff h i + secLen h i ≤ secOff h j) || decide (secOff h j + secLen h j ≤ secOff h i)) &&
  zeroes h (secAt k) (16 * (12 - k))

/-- Check 11: every section check matches, every type known and at most once, every required type present, the Text section at most 4,096
bytes (R396). -/
def sectionsOk (l : List Byte) : Bool :=
  let k := hdr l 0x12 1
  let types := (List.range k).map (secType l)
  ((List.range k).all fun i =>
    (crc32 ((l.drop (secOff l i)).take (secLen l i))).toNat == hdr l (secAt i + 12) 4 && decide (1 ≤ secType l i) &&
      decide (secType l i ≤ 9) && (secType l i != 9 || decide (secLen l i ≤ 4096))) &&
  decide types.Nodup && ((List.range 8).all fun t => types.contains (t + 1))

/-! ### The content (R79, R293, R396, R399) -/

/-- The number of set bits of a cell mask. -/
def countBits (m : BitVec 24) : Nat := ((List.range 24).filter fun i => m.getLsbD i).length

/-- Whether a cell mask consists of whole pairs. -/
def wholePairs (m : BitVec 24) : Bool := (List.range 12).all fun i => m.getLsbD (2 * i) == m.getLsbD (2 * i + 1)

/-- The cells within the reach of a group (R18, R19). -/
def reach (g : Group) : BitVec 24 :=
  match g.val with
  | 0 => 0x0000FF | 1 => 0x0000FF | 2 => 0x00FF00 | 3 => 0x00FF00
  | 4 => 0xFF00FF | 5 => 0x00FFFF | _ => 0xFFFF00

/-- The rules of R79 on one group. -/
def groupOk (g : Group) (c : GroupCfg) : Bool :=
  let h := decide (g.val < 4)
  let bank := match c.topo with
    | .none => true
    | .ibk => h | .tpr => h | .fbo => h
    | .fsw => !h | .bck => !h | .bst => !h
  bank && decide (2 ≤ c.hold) && decide (c.hold ≤ 200) &&
  if c.topo = .none then c.init == 0
  else
    c.allow &&& ~~~reach g == 0 && c.init &&& ~~~c.allow == 0 && decide (c.minph ≤ countBits c.init) &&
    decide (countBits c.init ≤ c.maxph) && decide (1 ≤ c.minph) && decide (c.maxph ≤ countBits c.allow) &&
    decide (c.maxph ≤ if h then 8 else 16) &&
    (c.topo != .tpr || (wholePairs c.allow && wholePairs c.init && c.minph % 2 == 0 && c.maxph % 2 == 0)) &&
    decide ((if h then 250 else 200) ≤ c.fmin) && decide (c.fmax ≤ if h then 900 else 500) && decide (c.fmin + 50 ≤ c.fmax)

/-- No cell is an initial member of two groups of a bank. -/
def disjointGroups (gs : Vector GroupCfg 7) : Bool :=
  allGroups.all fun g => allGroups.all fun k =>
    !(decide (g < k) && decide (g.val < 4) == decide (k.val < 4)) || gs[g].init &&& gs[k].init == 0

/-- Whether the group of a port suits its role and class (R399). -/
def portOk (d : ImageData) (p : SPort) : Bool :=
  let x := d.ports[p]
  let t := d.groups[p.group].topo
  (match x.role with
   | .dc => t == .ibk && decide (x.cls ≤ 1)
   | .ac => t == .tpr && (x.cls == 2 || x.cls == 3)
   | .feeder => t == .fbo
   | .unused => t == .none) &&
  (!x.arcen || (x.role == .dc && x.cls == 0)) &&
  (x.rbuf == 0 || (x.role == .ac && allBat.all fun k => !x.rbuf.getLsbD k.val || d.groups[k.group].topo != .none))

/-- Whether an address is a register that an image sets (R396): ceilings, SRC, BAT, CHG, EST (but EST_PREF, R279) and AWN fields, budgets, and
the severities, grace times and masks of every block. -/
def imageSets (a : Nat) : Bool :=
  (regSpecAt a).isSome && allBat.all (fun p => a != estPrefAt p) && (a % 0x10000 == 0x0F08 || a % 0x10000 == 0x0F10 || a % 0x10000 == 0x0F14 ||
    [0x06, 0x08, 0x09, 0x0A, 0x0B, 0x0D, 0x0F].contains (a / 0x10000))

/-- Whether a value lies in the ranges of its register, SRC_QV judged by the role of its port, and fixed severities and
masks hold their values (R399). -/
def regOk (d : ImageData) (a : Nat) (v : Word) : Bool :=
  imageSets a && (match regSpecAt a with
    | some r => r.accept v == v
    | none => false) &&
  (a % 0x10000 != 0x0F08 || enforceSev (a / 0x10000) v == v) &&
  (a % 0x10000 != 0x0F14 || enforceMask (a / 0x10000) v == v) &&
  allSrc.all fun p => a != srcQvAt p || d.ports[p].role != .ac ||
    (decide (900 ≤ v.bits 15 0) && decide (v.bits 15 0 ≤ 2640) && decide (900 ≤ v.bits 31 16) && decide (v.bits 31 16 ≤ 2640))

/-- Whether a number lies in a range. -/
def within (lo hi n : Nat) : Bool := decide (lo ≤ n) && decide (n ≤ hi)

/-- The fields of the Limits, Routing, Ports and Safe sections in their ranges (R111, R146, R293, R310, R341, R364,
R472). -/
def limitsOk (d : ImageData) : Bool :=
  within 80 105 d.thmThr && within 90 115 d.thmWarn && decide (d.thmThr + 5 ≤ d.thmWarn) &&
  within 1 10 (d.thmCfg.bits 3 0) && within 10 100 (d.thmCfg.bits 15 8) && within 40000 54000 d.msv &&
  within 35000 44000 d.uv && decide (d.uv + 2000 ≤ d.msv) && within 100 1000 (d.thrCfg.bits 9 0) &&
  within 110 145 (d.thrCfg.bits 23 16) && within 1 15 (d.thrCfg.bits 31 28) &&
  within 40000 60000 (d.thrCimg.bits 15 0) && within 40000 60000 (d.thrCimg.bits 31 16) &&
  decide (d.thrCimg.bits 15 0 ≤ d.thrCimg.bits 31 16) && within 80 220 (d.senseCfg.bits 7 0) &&
  within 1 3 d.maxmig && within 1 600 d.hcPeriod && (d.inst.toList.all (within 100 400)) && decide (d.startFlows.length ≤ 16)

/-! ### Application (R415, R570) -/

/-- The profile table of an image (R396 type 4). -/
def tableOf (l : List (Nat × Entry)) : List (Nat × Entry) :=
  l.foldl (fun m e => if e.1 < 6144 then sput (fun _ => 0) m e.1 e.2 else m) []

/-- The initial member's group of a cell. -/
def initialGroup (gs : Vector GroupCfg 7) (c : Cell) : Option Group :=
  allGroups.find? fun g => decide (g.val < 4) == !c.isL && gs[g].topo != .none && gs[g].init.getLsbD c.maskBit

/-- A cell at image activation (R86): Off, then as from Off; a fence line that is still driven by a live cause holds it. -/
def State.freshCell (s : State) (d : ImageData) (failed : List Cell) (c : Cell) : CellRec :=
  let lines := s.cells[c].fence.filter fun q => s.flt[q.blk].live.contains ⟨q.src, q.obj⟩
  let g := initialGroup d.groups c
  { CellRec.reset with
    st := if s.domOn c.domain = false then .off else if lines ≠ [] ∨ failed.contains c = true then .fenced else .idle
    grp := g, inMask := g, since := s.now, fence := lines, barred := lines != [] || failed.contains c
    fcause := if failed.contains c then 2 else if lines = [] then 0 else s.cells[c].fcause
    ext := failed.contains c = false && lines != [] && s.cells[c].ext
    fcount := if s.domOn c.domain = true ∧ failed.contains c = true then 1 else 0 }

/-- A source port at image activation (R152): by its role, its counters cleared, its measured values kept. -/
def SrcRec.activated (x : SrcRec) (now : Nat) (c : PortCfg) : SrcRec :=
  { SrcRec.reset with
    role := c.role, cls := c.cls, rbuf := c.rbuf, arcen := c.arcen
    st := match c.role with
      | .unused => .unused
      | .feeder => .feeder
      | .dc => .absent
      | .ac => .absent
    stage := if x.st = .supplying then x.stage.stop now else x.stage
    cause := x.cause, riso := x.riso, v := x.v, voc := x.voc, freq := x.freq, pf := x.pf, thd := x.thd, metric := x.metric
    since := now }

/-- A feeder at image activation (R374). -/
def FdrRec.activated (x : FdrRec) (now : Nat) (c : PortCfg) : FdrRec :=
  { FdrRec.reset with
    st := if c.role = .feeder then .idle else .unused
    cause := x.cause
    since := now }

/-- A battery port at image activation (R282, R297). -/
def BatRec.activated (x : BatRec) (now : Nat) (c : GroupCfg) : BatRec :=
  { x.opened now with
    st := if c.topo = .none then .unused else .absent
    removals := 0, qfails := 0, clamps := 0, preFailed := false, absentAt := none, ocAt := none, since := now, reacted := false }

/-- The image-set registers take the image's values, shadowed ones among them; those it does not list their reset values
(R562, R570). Masks act as a write of them does. -/
def State.applyRegs (s : State) (d : ImageData) : State :=
  let value (a : Nat) : Word := match d.regs.find? (fun e => e.1 == a) with
    | some e => e.2
    | none => regReset a
  let masks := allBlk.filter fun b => hasFaults b.val
  let s := { s with rw := s.rw.filter fun e => !imageSets e.1 || e.1 % 0x10000 == 0x0F14 }
  let s := d.regs.foldl (fun s e => if e.1 % 0x10000 = 0x0F14 then s else s.putReg e.1 e.2) s
  let s := masks.foldl (fun s b => s.writeMask b (value (fmskAddr b))) s
  let s := { s with flt := Vector.ofFn fun b : Blk => { s.flt[b] with frty := d.frty[b] } }
  let s := forEach (allBat.filter fun p => !s.ntcUsed p) State.ntcUnused s
  masks.foldl (fun s b => { s with deferred := s.deferred ++ [.severity b] }) s

/-- The budgets at image activation (R316, R562): Thresher Stopped, shadow and committed values those of the image, no
forecast valid. -/
def State.applyBudgets (s : State) : State :=
  let s := s.thrStop
  { s with thr := { s.thr with committed := s.shadow, inForce := s.shadow, fcTouched := false, fcNew := false, fcValid := false } }

/-- Every crossing emptied, at image activation (R360, R361): reports on their way are lost and counted. -/
def State.emptyCrossings (s : State) : State :=
  let dropped := s.x3.foldl (fun n q => n + q.count) 0
  { s with
    xing := s.xing.map fun (r : XingRec) => { r with emptyAt := some s.now }
    xslots := [], x3 := []
    deferred := s.deferred ++ if dropped = 0 then [] else [.occurs bLOG 0 0]
    ret := { s.ret with lost := sat (2 ^ 32 - 1) (s.ret.lost + dropped), tally := s.ret.tally + dropped } }

/-- The counts and maxima of the pipeline and of the crossings cleared (R361, R362). -/
def State.applySense (s : State) : State :=
  { s with
    sense := { s.sense with
      groups := s.sense.groups.map fun (g : WaveRec) => { g with itMax := 0, latMax := 0, waves := 0 }
      again := [], above := Vector.replicate 7 false, turn := 0, prioAt := Vector.replicate 7 none, waiting := [], prio := [] }
    xing := s.xing.map fun (r : XingRec) => { r with presets := 0, merged := 0, drops := 0, max := 0 } }

/-- The thermal manager at image activation (R291, R292, R300, R307): step and model kept, failure counts and fan states
cleared; a Calibration section that fails its check makes the model invalid, THM source 5. -/
def State.applyThermal (s : State) (calOk : Bool) : State :=
  let s := { s with thm := { s.thm with
    mconv := false, nsd := 0, invalid := !calOk, clearAt := none, floor := 0, okAt := none, runAt := none
    sensors := s.thm.sensors.map fun (x : SensorRec) => { x with nfail := 0 }
    fans := s.thm.fans.map fun (f : FanRec) => { f with st := if f.st = 2 ∨ f.st = 3 then 1 else f.st, since := s.now } } }
  if calOk then s.endCause bTHM 5 0 else s.occur bTHM 5 0 true

/-- The setpoint under a new image while nothing regulates the culm and no Awn setpoint stands: the nominal one at
once (R113). Otherwise it stands, for the first round. -/
def State.applySetpoint (s : State) : State :=
  let vnom := s.thr.inForce.cset.bits 15 0
  if s.culm.mode = .off ∧ s.awn.src = 0 then
    { s with culm := { s.culm with vset := vnom, target := vnom, slewFrom := vnom, slewAt := s.now, edge := none, slew := 1000 } }
  else s

/-- An image applied (R415 step 2): every effect that the chapters give image activation. -/
def State.applyImage (s : State) (d : ImageData) (failed : List Cell) : State :=
  let tested := failed.filter fun c => s.domOn c.domain
  let s := { s with
    cells := Vector.ofFn fun c => s.freshCell d failed c
    groups := Vector.ofFn fun g => { GroupRec.reset with
      cfg := d.groups[g], mode := if d.groups[g].topo = Topo.fsw then fswMode 1 (s.groupVolts g) s.culm.vmeas else 3 }
    fab := { s.fab with maxmig := d.maxmig, dither := d.dither, migs := [] }
    src := Vector.ofFn fun p => s.src[p].activated s.now d.ports[p]
    fdr := Vector.ofFn fun p => s.fdr[p].activated s.now d.ports[p]
    bat := Vector.ofFn fun p => s.bat[p].activated s.now d.groups[BPort.group p]
    chg := s.chg.map fun (x : ChgRec) => { x.idle with cycles := 0 }
    est := s.est.map fun (x : EstRec) => { x with rconv := false, st := .waiting, todo := [], nsweep := 0, last := false, lastT := none, waitAt := none }
    prof := tableOf d.profiles
    gov := s.gov.map fun (x : GovRec) => { x with count := 0 }
    branches := Vector.ofFn fun b : Branch => { s.branches[b] with inst := d.inst[b], energy := 0 }
    culm := { s.culm with msv := d.msv, uv := d.uv, supPort := d.stub }
    host := { s.host with nexp := 0 }
    img := { s.img with image := some d, backing := true } }
  let s := (s.applyRegs d).applyBudgets.applySense.applyThermal d.calOk
  let s := s.putReg wdgHctAt ((s.reg wdgHctAt &&& 0x00030000) ||| BitVec.ofNat 32 d.hcPeriod)
  forEach tested (fun s c => s.occurHard bFAB 2 c.val) s.applySetpoint.followAwn

/-- One start-up flow created at the lowest Free index (R415 step 3); one that would be refused is left out. -/
def State.startFlow (s : State) (d : FlowDef) : State :=
  match s.wanted 255 with
  | some c => if s.createCode d = 0 then { s.openFlow c d with img := { s.img with nsfl := s.img.nsfl + 1 } } else s
  | none => s

/-- The image's start-up flows in list order. -/
def State.startFlows (s : State) : State :=
  match s.img.image with
  | some d => (d.startFlows.foldl State.startFlow { s with img := { s.img with nsfl := 0 } }).settle
  | none => s

/-- The start-up flows against their own image, codes 6-9 (R399). -/
def State.startFlowsOk (s : State) : List FlowDef → Bool
  | [] => true
  | d :: l =>
    match s.wanted 255 with
    | some c => !s.conflicts d && s.endpointsOk d && s.policyOk d && s.profOk d && State.startFlowsOk (s.openFlow c d) l
    | none => false

/-- The safe profiles' references for ports whose group is not None are valid, and keep the margin of R79 (R399). -/
def State.safeProfilesOk (s : State) (d : ImageData) : Bool :=
  allBat.all fun p => d.groups[p.group].topo == .none ||
    match s.profile? d.safe[(1 : Fin 6)].prof[p] with
    | some q => s.marginOk p q
    | none => false

/-- Check 15: every rule of R399. -/
def State.contentOk (s : State) (d : ImageData) : Bool :=
  let t := { s with ctx := Vector.replicate 160 (.freed 1) }.applyImage d []
  (allGroups.all fun g => groupOk g d.groups[g]) && disjointGroups d.groups && (allSrc.all (portOk d)) &&
  (match d.stub with
   | some p => d.groups[p.group].topo != .none
   | none => true) &&
  limitsOk d && (d.regs.all fun e => regOk d e.1 e.2) && d.safeCount == 6 && d.calLevel == 2 && t.safeProfilesOk d &&
  t.startFlowsOk d.startFlows

/-! ### Checking a bank (R398) -/

/-- The bytes of a bank's image. -/
def State.bankBytes (s : State) (b : Side) : List Byte :=
  Memory.readAll s.nv (bankBase b) (hdr (Memory.readAll s.nv (bankBase b) 256) 8 4)

/-- The content of a bank's image. -/
def State.bankImage (s : State) (b : Side) : Option ImageData := Config.sections (s.bankBytes b)

/-- The digest of a bank's image (R397). -/
def State.bankDigest (s : State) (b : Side) : Vector Word 8 :=
  Config.sha256 ((s.bankBytes b).take ((s.bankBytes b).length - 64))

/-- The code of the first check of R398 that a bank fails; 0 where it passes. -/
def State.bankCode (s : State) (b : Side) : Nat :=
  let h := Memory.readAll s.nv (bankBase b) 256
  let key := hdr h 0x11 1
  if headerOk h = false then 9
  else if layoutOk h = false then 10
  else
    let l := s.bankBytes b
    if sectionsOk l = false then 11
    else if key ≠ 0 ∧ ¬(key = 1 ∧ s.fuse.k1 = true) then 12
    else if Config.signatureOk key (s.bankDigest b) (l.drop (l.length - 64)) = false then 13
    else if hdr h 0x10 1 < s.fuse.minsv then 14
    else match s.bankImage b with
      | some d => if s.contentOk d then 0 else 15
      | none => 15

/-- Header fields of a bank's image: build, format, security version and key slot. -/
def State.bankField (s : State) (b : Side) (a n : Nat) : Nat := hdr (Memory.readAll s.nv (bankBase b) 256) a n

/-! ### Banks and the boot record (R405, R406) -/

def otherBank (b : Side) : Side := if b = 0 then 1 else 0

/-- A bank's record changed. -/
def State.setBank (s : State) (b : Side) (x : BankRec) : State :=
  { s with img := { s.img with banks := vset s.img.banks b x } }

/-- The copy of the boot record that governs: the valid one with the higher number. -/
def State.bootRecord (s : State) : Option BootRec :=
  match s.img.boot[(0 : Side)], s.img.boot[(1 : Side)] with
  | some a, some b => some (if a.number < b.number then b else a)
  | some a, none => some a
  | none, b => b

/-- The copy that a write replaces: an invalid one, else the one with the older number. -/
def State.olderCopy (s : State) : Side :=
  match s.img.boot[(0 : Side)], s.img.boot[(1 : Side)] with
  | none, _ => 0
  | some _, none => 1
  | some a, some b => if a.number < b.number then 0 else 1

/-- The boot record written, or, while the store takes no page program, to be written once it does (R298). -/
def State.writeBoot (s : State) : State :=
  let n := (s.bootRecord.map (·.number)).getD 0
  if s.writeHold then { s with img := { s.img with bootDue := true } }
  else { s with img := { s.img with
    bootDue := false, bootAt := some (s.olderCopy, s.now)
    boot := vset s.img.boot s.olderCopy (some
      { number := n + 1, active := s.img.act, banks := s.img.banks,
        trial := s.img.trial, trialStarts := s.img.trialStarts }) } }

/-- The power lost while a copy of the boot record is written, in the 4 ms that its page program may take: whether the program had ended
is a free value, and where it had not the copy is invalid (R406, R411). -/
def State.cutBoot (s : State) : State :=
  match s.img.bootAt with
  | some (k, t) =>
    if s.now < t + 4000 then
      { s with img := { s.img with boot := if s.free % 2 = 0 then vset s.img.boot k none else s.img.boot } }.drew
    else s
  | none => s

/-- The image of a bank put in force: the bank is Active, the identification fields follow, and the cause of IMG source 1 ends. -/
def State.identify (s : State) (b : Side) : State :=
  let s := (s.endCause bIMG 1 0).setBank b { s.img.banks[b] with st := .active, cause := 0 }
  { s with img := { s.img with
      act := b, build := s.bankField b 0x0C 4, fmt := s.bankField b 4 2, secver := s.bankField b 0x10 1,
      keysel := s.bankField b 0x11 1 } }

/-! ### The profile backing (R404) -/

def backingAt : Nat := 0x58000

/-- The bytes of the profile table that the active image's Profiles section gives, and of its digest: later writes of the table never
reach the backing (R228, R404). -/
def State.tableBytes (s : State) : List Byte :=
  let l := tableOf ((s.img.image.map (·.profiles)).getD [])
  (List.range 6144).flatMap fun n => (entryBytes (sget (fun _ => 0) l n).toNat).map (BitVec.ofNat 8)
def State.digestBytes (s : State) : List Byte := (s.bankDigest s.img.act).toList.flatMap fun w => wordBytes w.toNat

/-- The profile table written to the backing after Run entry, where it does not hold the active image's (R404); not while the store takes
no page program (R298). -/
def State.rewriteBacking (s : State) : State :=
  if s.img.backing = true ∧ s.img.image.isSome = true ∧ s.writeHold = false then
    let l := s.tableBytes ++ s.digestBytes
    let nv := Memory.fill (Memory.erase s.nv backingAt 0xD000) backingAt (l ++ wordBytes (crc32 l).toNat)
    { s with nv := nv, img := { s.img with backing := false } }.wearSectors 0x58 13
  else s

/-- Writes that the hold of R298 has put off, made once it has ended. -/
def State.writeDue (s : State) : State :=
  if s.writeHold then s
  else
    let s := if s.img.bootDue then s.writeBoot else s
    if s.inRun then s.rewriteBacking else s

/-- Whether the backing's digest is that of the active image and its CRC-32 matches. -/
def State.backingOk (s : State) : Bool :=
  let l := Memory.readAll s.nv backingAt 0xC020
  l.drop 0xC000 == s.digestBytes && wordBytes (crc32 l).toNat == Memory.readAll s.nv (backingAt + 0xC020) 4

/-- At start-up the profile table comes from the backing where it is the active image's (R404). -/
def State.loadTable (s : State) : State :=
  if s.img.image.isSome = true ∧ s.backingOk = true then
    { s with
      prof := tableOf ((List.range 6144).map fun n => (n, BitVec.ofNat 64 (s.nvNat (backingAt + 8 * n) 8)))
      img := { s.img with backing := false } }
  else s

/-! ### Loading at start-up (R407, R408) -/

/-- Banks recorded as Writing turn Invalid at a start-up: IMG source 7 (R407, R411). -/
def State.resolveWriting (s : State) : State :=
  forEach [(0 : Side), 1] (fun s b =>
    if s.img.banks[b].st = .writing then (s.setBank b { s.img.banks[b] with st := .invalid }).occur bIMG 7 0 else s) s

/-- A bank that failed its check. -/
def State.invalidBank (s : State) (b : Side) (code : Nat) : State :=
  s.setBank b { s.img.banks[b] with st := .invalid, cause := code }

/-- IMG source 0 of a bank that the second reading finds as the first did (R407, R426). -/
def State.failedTwice (s : State) : State := (s.occur bIMG 0 0).retryOutcome bIMG 0 0 false

/-- A bank applied at start-up. -/
def State.takeBank (s : State) (b : Side) : State :=
  match s.bankImage b with
  | some d => ((s.identify b).applyImage d []).loadTable.writeBoot
  | none => s

/-- No bank passes: IMG source 1, whose cause lasts until an image is applied, and no image (R408, R433). -/
def State.noBank (s : State) : State :=
  ({ s with img := { s.img with image := none, trial := false } }.writeBoot).occur bIMG 1 0 true

/-- The other bank where it is Valid and passes, confirmed; else no image. -/
def State.takeOther (s : State) (b : Side) : State :=
  let s := { s with img := { s.img with trial := false, trialStarts := 0 } }
  if s.img.banks[b].st ≠ .valid then s.noBank
  else
    let code := s.bankCode b
    if code = 0 then s.takeBank b else (s.invalidBank b code).failedTwice.noBank

/-- The code of one reading of a candidate: one that meets a read error carries a free code, and is NVS source 1 (R398, R430). -/
def State.readBank (s : State) (b : Side) (err : Bool) : State × Nat :=
  if err then (((s.occur bNVS 1 b.val).countEcc bNVS 1).drew, 9 + s.free % 7) else (s, s.bankCode b)

/-- The candidate checked, and where IMG source 0 may be retried read once more (R407, R426): `errs` is how many of the readings fail. -/
def State.tryCandidate (s : State) (b : Side) (errs : Fin 3) : State :=
  let (s, code) := s.readBank b (errs != 0)
  if code = 0 then s.takeBank b
  else
    let again := s.willRetry bIMG 0 0
    let s := s.occur bIMG 0 0
    if again then
      let (s, code) := s.readBank b (errs == 2)
      let s := s.retryOutcome bIMG 0 0 (code == 0)
      if code = 0 then s.takeBank b else (s.invalidBank b code).takeOther (otherBank b)
    else (s.invalidBank b code).takeOther (otherBank b)

/-- Without a valid boot record both banks are checked, and the one with the higher build that passes is taken. -/
def State.loadBoth (s : State) : State :=
  let judge (s : State) (b : Side) : State :=
    let code := s.bankCode b
    let blank := (Memory.readAll s.nv (bankBase b) 256).all (· == 0xFF)
    s.setBank b { st := if blank then .empty else if code = 0 then .valid else .invalid
                  cause := if blank then 0 else code, seq := 0 }
  let s := judge (judge s 0) 1
  let ok (b : Side) : Bool := s.img.banks[b].st == .valid
  let b : Side := if ok 1 && (!ok 0 || decide (s.bankField 0 0x0C 4 < s.bankField 1 0x0C 4)) then 1 else 0
  let s := { s with img := { s.img with trial := false, trialStarts := 0 } }
  if ok b then s.takeBank b else s.noBank

/-- What the boot record says taken over: its banks, none of them left Writing, and its trial (R405, R407 step 2). -/
def State.takeRecord (s : State) (r : BootRec) : State :=
  { s with img := { s.img with banks := r.banks, trial := r.trial, trialStarts := r.trialStarts, act := r.active } }.resolveWriting

/-- Steps 3 to 5 of R407 under a boot record: the bank that it names Active is the candidate; where it names none so, a Valid bank. -/
def State.loadRecord (s : State) (r : BootRec) (errs : Fin 3) : State :=
  let b := r.active
  if s.img.banks[b].st ≠ .active then s.takeOther (if s.img.banks[b].st = .valid then b else otherBank b)
  else if r.trial = true ∧ 2 ≤ r.trialStarts then
    ((s.setBank b { s.img.banks[b] with st := .invalid }).occur bIMG 5 0).takeOther (otherBank b)
  else if r.trial then
    ({ s with img := { s.img with trialStarts := r.trialStarts + 1 } }).tryCandidate b errs
  else s.tryCandidate b errs

/-- The loader at the start of D11 (R403, R407, R408, R420): the first copy of the factory calibration that passes its check, the boot
record, the candidate, its checks and its application. Where both copies fail, IMG source 6 and no image. -/
def State.loadImage (s : State) (cal : Bool × Bool) (errs : Fin 3) : State :=
  let bad := !cal.1 && !cal.2
  let s := { s with img := { s.img with calBad := bad, calCopy := if cal.1 then 0 else 1 } }
  match s.bootRecord with
  | none => if bad then s.occur bIMG 6 0 true else s.loadBoth
  | some r =>
    let s := s.takeRecord r
    if bad then (s.writeBoot.occur bIMG 6 0 true) else s.loadRecord r errs

end Sys2Proof.Machine
end

