-- ==== Sys2Proof/Machine/Power.lean ====
section
/-!
DEFINITION. The domain controller: domains, start-up, Run entry, sleep, Stubble and the return, retained memory and its
copy, and the loss of power (R18, R38-R42, R49-R51, R479-R506, R569, R570).
-/

namespace Sys2Proof.Machine

/-! ### Mirrors that other blocks read -/

/-- DOM_STAT.dcause (R482): the causes of Degraded. -/
def State.dcause (s : State) : Nat :=
  (if allCells.any (fun c => s.cells[c].st == .fenced) || allGroups.any (fun g => s.groups[g].starved) then 1 else 0) +
  (if s.thm.sensors.toList.any SensorRec.bad then 2 else 0) +
  (if s.thm.fans.toList.any (fun f => f.st == 3) then 4 else 0) +
  (if s.sense.ch.toList.any (fun x => x.2 == 2) then 8 else 0) +
  (if allSrc.any (fun p => s.src[p].st == .locked) || allBat.any (fun p => s.bat[p].st == .locked) then 16 else 0)

/-- DOM_STAT (R504), with every cause of R482 that holds. -/
def State.domStat (s : State) : Word :=
  BitVec.ofNat 32 (s.dom.st.code + 16 * s.dom.prev.code + 256 * s.dom.wake.code + 4096 * s.dom.wport.val +
    65536 * s.dcause + 2 ^ 24 * s.dom.rtcv.toNat + 2 ^ 25 * s.dom.rmv.toNat)

/-- LOG_FSUM: the blocks with a latched FST bit (R476). -/
def State.logFsum (s : State) : Word :=
  allBlk.foldl (fun w b => if s.flt[b].fst = 0 then w else w ||| BitVec.ofNat 32 (2 ^ b.val)) 0

/-- Run and Degraded follow the causes of R482 in the iteration in which they change. -/
def State.followDegraded (s : State) : State :=
  if s.dom.st = .run ∧ s.dcause ≠ 0 then { s with dom := { s.dom with st := .degraded } }
  else if s.dom.st = .degraded ∧ s.dcause = 0 then { s with dom := { s.dom with st := .run } }
  else s

/-! ### Domains (R38, R39, R88, R481, R492) -/

/-- The bit of a domain. -/
def domBit (d : Nat) : BitVec 12 := BitVec.ofNat 12 (2 ^ d)

/-- A request refused (R489, R492, R504): DOM_DREF, and DOM source 1 for causes 1-3. -/
def State.refuseDomain (s : State) (d cause : Nat) : State :=
  let s := { s with dom := { s.dom with refDom := d, refCause := cause, refCount := sat 65535 (s.dom.refCount + 1) } }
  if cause = 4 then s else s.occur bDOM 1 d

/-- A cell's self-test when its domain switches on (R86): Idle, or Fenced with FAB source 2. A cell that was Fenced when its domain
went off is Fenced again unless its return conditions hold, and then it waits Idle for an order (R31, R101, R102, assumption 69). -/
def State.selfTest (failed : List Cell) (s : State) (c : Cell) : State :=
  let x := s.cells[c]
  if x.st = .off then
    if failed.contains c then
      (s.setCell c { x with st := .fenced, fcause := 2, ext := false, fcount := sat 3 (x.fcount + 1), selOpen := true, barred := true }).occurHard bFAB 2 c.val
    else if x.barred = true ∧ s.mayReturn c = false then s.setCell c { x with st := .fenced, selOpen := true, since := s.now }
    else s.setCell c { x with st := .idle, selOpen := true, since := s.now }
  else s

/-- A domain switched on: its cells are self-tested; D1, D9 and D10 bring their links up. -/
def State.powerOn (failed : List Cell) (s : State) (d : Nat) : State :=
  if s.domOn d then s
  else if 4 ≤ d ∧ d ≤ 9 ∧ (s.domOn 3 = false ∨ s.domOn 10 = false) then s.refuseDomain d 1
  else
    let s := { s with dom := { s.dom with on := s.dom.on ||| domBit d, req := s.dom.req ||| domBit d } }
    let s := forEach (allCells.filter fun c => c.domain == d) (State.selfTest failed) s
    let s := if d = 1 then s.ringReset else if d = 9 then s.followAwn else s
    s.settle

/-- The home group of an L-cell (R19). -/
def homeGroup (c : Cell) : Nat := 4 + (c.val - 16) / 8

/-- Whether an L-cell of a domain is a member of a group away from its home port (R39). -/
def State.lent (s : State) (d : Nat) : Bool :=
  allCells.any fun c => c.isL && c.domain == d && s.cells[c].st != .fenced && s.cells[c].inMask.any fun g => g.val != homeGroup c

/-- Whether a cell of a domain is not at rest (R88). -/
def State.busy (s : State) (d : Nat) : Bool := allCells.any fun c => c.domain == d && s.cells[c].st.running

/-- The ports whose own protection lies in a cell domain (R18). -/
def homePorts (d : Nat) : List Port :=
  if d = 4 then [0, 1] else if d = 5 then [2, 3] else match bport? (d - 6) with
    | some p => if 6 ≤ d then [p.port] else []
    | none => []

/-- The lines that the blocks of a domain drive, masked in the step that switches it off (R30): the halt-line drivers of the own
protection of its ports. -/
def State.maskLines (s : State) (d : Nat) : State :=
  forEach (homePorts d) (fun s p => s.setHalt p (s.halt[p].filter fun q => q.reaction || (q.blk != bSRC && q.blk != bBAT))) s

/-- A domain switched off: its lines masked; its cells are Off; the battery port of its home reads Absent, its stage drained; without D9
and a stubble supply the culm is drained, and the crossing of the Awn link is emptied (R30, R65, R86, R135, R221, R360). -/
def State.cut (s : State) (d : Nat) : State :=
  let s := s.maskLines d
  let s := { s with dom := { s.dom with on := s.dom.on &&& ~~~domBit d, req := s.dom.req &&& ~~~domBit d } }
  let s := forEach (allCells.filter fun c => c.domain == d) (fun s c => s.setCell c { s.cells[c] with st := .off, cur := 0, retryAt := none, dropped := false, gate := none }) s
  let s := match bport? (d - 6) with
    | some p =>
      if 6 ≤ d ∧ s.bat[p].st ≠ BatState.unused then
        s.setBat p { s.bat[p].opened s.now with st := .absent, since := s.now }
      else s
    | none => s
  let s := if d = 9 then
      ((((if s.culm.supOn then s.stopSupply else s).drainCulm.emptySlots 1 false false).newTags.occur bSENSE 2 1).followAwn)
    else s
  s.settle

/-- A domain ordered off, refused with cause 2 under R39 and with cause 3 under R88. -/
def State.powerOff (s : State) (d : Nat) : State :=
  if s.domOn d = false then s
  else if s.busy d then s.refuseDomain d 3
  else if s.lent d then s.refuseDomain d 2
  else s.cut d

/-- Whether the image uses a cell domain (R481). -/
def State.usesDomain (s : State) (d : Nat) : Bool :=
  let used (g : Group) : Bool := s.groups[g].cfg.topo != .none
  if d = 4 then used 0 || used 1
  else if d = 5 then used 2 || used 3
  else allCells.any fun c => c.isL && c.domain == d && allGroups.any fun g =>
    decide (4 ≤ g.val) && used g && s.groups[g].cfg.allow.getLsbD c.maskBit

/-- The domains of Run (R481): D9, then the cell domains that the image uses. -/
def State.runDomains (failed : List Cell) (s : State) : State :=
  [9, 4, 5, 6, 7, 8].foldl (fun s d => if d = 9 ∨ s.usesDomain d = true then s.powerOn failed d else s.powerOff d) s

/-! ### Run entry, and Standby (R483, R488) -/

/-- LOAD_BCTL at Run entry: the branch record, or the reset values (R488). -/
def State.restoreBranches (s : State) : State :=
  let rest := s.ret.domCfg.bit 1
  forEach allBranches (fun s b => s.setReg (loadBctlAt b) (if rest then s.ret.bctl[b] else 0)) s

/-- The module is in Run: rounds begin, the trial's time counts, the profile backing is rewritten (R316, R404, R419). -/
def State.toRun (s : State) : State :=
  let s := { s with
    dom := { s.dom with st := .run, idleSince := none }
    img := { s.img with trialAt := if s.img.trial then some s.now else none } }
  s.thrStart.followDegraded.rewriteBacking

/-- A Safe line asserted during an entry into Run takes the module to Stubble (R483, R501). -/
def State.orStubble (s : State) : State := if s.safeLine = [] then s else s.enterStubble.settle

/-- Run entry (R488): domains, self-tests, branch record, start-up flows. -/
def State.runEntry (s : State) (failed : List Cell) : State :=
  (s.runDomains failed).restoreBranches.startFlows.toRun.orStubble

/-- Every group stopped, its migrations ended as a port halt line ends them (R92, R413). -/
def State.stopGroups (s : State) : State := forEach allGroups (fun s g => s.stopGroup g) s

/-- Ports at rest: a Supplying port is Ready with zero draw, a feeder that delivers is Idle, their stages drained; a hand-over goes on
(R65, R180, R413, R483). -/
def State.restPorts (s : State) : State :=
  forEach allSrc (fun s p =>
    let s := if s.src[p].st = .supplying then
        s.setSrc p { s.src[p] with
          st := .ready, since := s.now, stopping := false, hov := none, cur := 0, pwr := 0, lim := 0, stage := s.src[p].stage.stop s.now }
      else s.drainFeeder p
    let f := s.fdr[p]
    if f.st = .unused ∨ f.st = .halted then s
    else s.setFdr p { f with st := .idle, since := s.now, cur := 0, lim := 0, ilim := 0, vref := 0, yield := false }) s

/-- Run or Degraded left for Standby (R483): branches open, D4-D9 off, the culm drains. -/
def State.toStandby (s : State) : State :=
  let s := { s with
    dom := { s.dom with st := .standby, idleSince := none }
    img := { s.img with trialUs := s.trialUsed, trialAt := none } }
  let s := s.stopGroups.restPorts.culmOff.thrStop
  [8, 7, 6, 5, 4, 9].foldl State.powerOff s

/-- DOM_CTL (R504). -/
def domCtlAt : Nat := 0x010004

/-- A state command refused (R489, R504). -/
def State.refuseState (s : State) : State := s.refuseDomain 0 4

/-- Op 1: from Standby with an image active. -/
def State.orderRun (s : State) (failed : List Cell) : State :=
  if s.dom.st = .standby ∧ s.img.image.isSome = true ∧ s.safeLine = [] then s.runEntry failed else s.refuseState

/-- DOM_RUN. -/
def execDomRun (r : Req) (failed : List Cell) (s : State) : Ans := .next (s.viaService r domCtlAt fun s => s.orderRun failed)

/-- Op 2: from Run or Degraded with every context Free (R501). -/
def State.orderStandby (s : State) : State :=
  if s.inRun = true ∧ s.usedCtx = [] then s.toStandby else s.refuseState

/-- DOM_STANDBY. -/
def execDomStandby (r : Req) (s : State) : Ans := .next (s.viaService r domCtlAt State.orderStandby)

/-! ### Retained memory and its copy (R493-R496) -/

/-- The slot that a save writes: an invalid one, else the one with the lower save count (R494). -/
def State.olderSlot (s : State) : Side :=
  match s.slots[(0 : Side)], s.slots[(1 : Side)] with
  | none, _ => 0
  | some _, none => 1
  | some a, some b => if a.saveCount ≤ b.saveCount then 0 else 1

/-- Retained memory written into a slot; a save that does not complete leaves the slot invalid (R494). -/
def State.saveSlot (s : State) (k : Side) (ok : Bool) : State :=
  let q := { s.ret with saveCount := s.ret.saveCount + 1, rtcSec := s.rtc, prev := s.dom.st, wake := s.dom.wake, wport := s.dom.wport }
  { s with
    ret := q
    slots := vset s.slots k (if ok then some q else none)
    dom := { s.dom with slot := k, saves := sat 65535 (s.dom.saves + 1), savedAt := s.now } }

/-- RETENTION_SAVE: once a second into the older slot; a save that fails is DOM source 7, and is written once more to the
other slot (R494, R505). The housekeeping draw that DOM_PWR shows is measured with it, a free value (assumption 76). -/
def execRetentionSave (ok : Bool) (s : State) : Ans :=
  let again := s.retrying bDOM 7 0
  if (s.dom.st = .standby ∨ s.inRun = true ∨ s.dom.st = .stubble) ∧ (again = true ∨ s.dom.savedAt + 1000000 ≤ s.now) then
    let t := s.saveSlot (if again then otherBank s.dom.slot else s.olderSlot) ok
    let t := { t with dom := { t.dom with pwrW := t.free % 65536 } }.drew
    .next (if again then t.retryOutcome bDOM 7 0 ok else if ok then t else t.occur bDOM 7 0)
  else .next s

/-- ENERGY_CHECKPOINT: once a second the counters are raised towards retained memory (R496). -/
def execEnergyCheckpoint (s : State) : Ans := .next (if s.domOn 3 then forEach allPorts (fun s p => s.raise 3 (.saveEnergy p)) s else s)

/-! ### Resets (R569, R570) -/

/-- Whether a block lies in D0 with fault registers that a domain restart keeps (R570). -/
def keptBlock (b : Nat) : Bool := b == 1 || b == 2 || b == 3

/-- The watchdog's contribution to the Safe line while it holds (R461). -/
def holdDriver : Driver := { blk := bWDG, src := 4, obj := 0, reaction := false }

/-- The drivers of the Safe line that outlast a domain restart: reactions of DOM, WDG and LOG whose FST bit stands, and the
watchdog's Hold. -/
def State.keptDrivers (s : State) : List Driver :=
  s.safeLine.filter fun d => (d.reaction && !(d.blk == bLOG && d.src == 4) && keptBlock d.blk.val && s.flt[d.blk].fst.getLsbD d.src.val) || (d == holdDriver && s.ret.wdg.hold)

/-- A page program under way completes before a restart; an erase under way is broken off (R462). -/
def State.finishProgram (s : State) : State :=
  match s.nvs.ops with
  | .program b page data :: _ =>
    if s.nvs.started then { s with nv := Memory.writeAll s.nv (bankBase b + 256 * page.val) (data.toList.flatMap fun w => wordBytes w.toNat) }
    else s
  | o :: _ => if s.nvs.started then s.spoilErase o else s
  | [] => s

/-- The discharge elements of the ports through a reset: every stage that is charged is drained, without a domain or the housekeeping
supply (R65). -/
def SrcRec.cutStage (x : SrcRec) (f : FdrRec) (now : Nat) : StageRec :=
  if x.st = .supplying then x.stage.stop now else (x.feederStop f now).stage
def State.keepStages (s t : State) : State :=
  { t with
    src := Vector.ofFn fun p : SPort => { t.src[p] with stage := s.src[p].cutStage s.fdr[p] s.now }
    bat := Vector.ofFn fun p : BPort => { t.bat[p] with stage := (s.bat[p].opened s.now).stage } }

/-- D1-D11 reset and off, D0 kept (R569, R570): what retained memory, the store, the fuses and D0 hold stays, reports
on their way to D0 are lost and counted, and the stages of the ports are drained. -/
def State.domainReset (s : State) : State :=
  let s := s.finishProgram
  let dropped := s.x3.foldl (fun n q => n + q.count) 0
  s.keepStages { State.reset with
    pending := s.pending, now := s.now, freeN := s.freeN
    deferred := (s.deferred.filter fun q => match q with
      | .write a _ => keptBlock (a / 0x10000)
      | .relatch b _ => keptBlock b.val
      | .occurs b _ _ => keptBlock b.val
      | .entry _ _ => false
      | .limits _ => false
      | .severity b => keptBlock b.val) ++ if dropped = 0 then [] else [.occurs bLOG 0 0]
    flt := Vector.ofFn fun b : Blk =>
      if keptBlock b.val then { s.flt[b] with sev := fsevReset[b], frty := frtyReset[b], parity := false }
      else State.reset.flt[b]
    safeLine := s.keptDrivers
    rw := if s.reg wdgHctAt &&& 0x00030000 = 0x00010000 then [] else [(wdgHctAt, (s.reg wdgHctAt &&& 0x00030000) ||| 30)]
    nv := s.nv, slots := s.slots
    log := { s.log with commit := false, erase := false, scan := false }
    wdg := { s.wdg with run := false, stood := 0, armed := false }
    host := { s.host with run := false }
    ret := { s.ret with prev := if s.dom.st = .inReset ∨ s.dom.st = .unpowered then s.ret.prev else s.dom.st, lost := sat (2 ^ 32 - 1) (s.ret.lost + dropped), tally := s.ret.tally + dropped }
    dom := { s.dom with
      on := 1, req := 1, stubFromRun := false, stubOff := false,
      idleSince := none, boot := false, coreRestart := none }
    img := { ImgRec.reset with boot := s.img.boot }
    nvs := { NvsRec.reset with wear := s.nvs.wear, torn := s.nvs.torn }
    fuse := s.fuse }

/-- D0 reset too (R569): its registers at their reset values, the watchdog off. Retained memory awaits its restoring. -/
def State.coldReset (s : State) : State :=
  let t := s.domainReset
  { t with
    deferred := [], flt := State.reset.flt, safeLine := [], rw := [], log := .reset, wdg := .reset
    host := { run := false, since := 0, exp := false, nexp := 0, zero := false }
    dom := { DomRec.reset with
      on := 1, req := 1, supplyAt := s.dom.supplyAt, holdReady := s.dom.holdReady, holdV := s.dom.holdV, pwrPort := s.dom.pwrPort,
      pwrW := s.dom.pwrW, resetLoop := s.dom.resetLoop, wakeLoop := s.dom.wakeLoop, hvWake := s.dom.hvWake
      hvs := s.dom.hvs, batFeed := s.dom.batFeed } }

/-- A start-up begins (R486): its kind, and the wake cause that DOM_STAT will show. The draw in reset is a free value of at most 0.8 W
(R67). -/
def State.beginBoot (s : State) (cold : Bool) (wake : Wake) (port : SPort) : State :=
  let t := (if cold then s.coldReset else s.domainReset).drew
  { t with dom := { t.dom with st := .inReset, boot := true, pwrW := s.free % 9, cold := cold, wake := wake, wport := port, startAt := s.now, failAt := none,
                               failSaved := false } }

/-! ### Start-up (R486, R487) -/

/-- The valid slot with the higher save count (R494). -/
def State.bestSlot (s : State) : Option Retained :=
  match s.slots[(0 : Side)], s.slots[(1 : Side)] with
  | some a, some b => some (if a.saveCount < b.saveCount then b else a)
  | some a, none => some a
  | none, b => b

/-- Step 2 of a power-on start: retained memory from the copy, or invalid with DOM source 3; the ladder starts at level 0;
the clock resumes, unset (R461, R485, R486, R494). -/
def State.restoreCopy (s : State) : State :=
  match s.bestSlot with
  | some q =>
    { s with
      ret := { q with wdg := { q.wdg with level := 0, tries := 0, hold := false } }
      dom := { s.dom with rmv := true, rsrc := 1, prev := q.prev, rtcSec := q.rtcSec, rtcAt := s.now, rtcv := false } }
  | none =>
    ({ s with
      ret := .invalid
      dom := { s.dom with rmv := false, rsrc := 2, prev := .dormant, rtcSec := 0, rtcAt := s.now, rtcv := false } }).occur bDOM 3 0

/-- Step 2: retained memory restored, or kept in place and checked. -/
def State.bootMemory (s : State) : State :=
  let s := if s.dom.cold then s.restoreCopy
    else { s with dom := { s.dom with rmv := true, rsrc := 0, prev := s.ret.prev } }
  let s := { s with ret := { s.ret with wake := s.dom.wake, wport := s.dom.wport } }
  let s := if s.dom.rtcv then s else s.occur bDOM 6 0
  if s.ret.powerFail = true ∨ s.dom.wake = .restored then { s with ret := { s.ret with powerFail := false } }.occur bDOM 4 0 else s

/-- A generation after a restart (R210, R578). -/
def nextGen (g : Nat) : Nat := if g = 255 then 1 else g + 1

/-- The flow contexts at a start-up (R190, R210): every context Free, its generation one above the saved one, or 1. -/
def State.bootFlows (s : State) : State :=
  let gens := if s.dom.rmv then s.ret.gens.map nextGen else Vector.replicate 160 1
  { s with
    ctx := gens.map FlowCtx.freed
    ret := { s.ret with gens := gens }
    flow := { s.flow with gensrc := s.dom.rmv } }

/-- The thermal model at a start-up (R291): with history where the clock has run on, by its own count, for less than 5 min since the
save. -/
def State.bootThermal (s : State) : State :=
  let q := s.ret.thm
  if s.dom.rmv = true ∧ s.dom.cold = false ∧ q.valid = true ∧ s.now - q.at_ < 300000000 then
    { s with thm := { s.thm with hist := true, tref := q.ref, plate := Vector.ofFn fun i : Fin 48 => q.plate.getD i.val 0 } }
  else s

/-- The energy counters at a start-up (R496): from the checkpoint. -/
def State.bootEnergy (s : State) : State :=
  if s.dom.rmv then
    { s with energy := Vector.ofFn fun p : Port => (360000000000000000 * s.ret.ein[p], 360000000000000000 * s.ret.eout[p]) }
  else s

/-- Staged records found at a start-up with retained memory valid: LOG source 5 gives their number (R451). -/
def State.bootLog (s : State) : State :=
  let n := s.ret.staged.length
  let s := { s with log := { s.log with scan := true, found := n } }.stageLost
  if s.dom.rmv = true ∧ 0 < n then
    let s := s.markLive bLOG 5 0 false
    if s.masked bLOG 5 then s
    else (s.latch bLOG 5).arrive { blk := bLOG, src := 5, kind := .occurrence, forced := false, idx := 0, count := min n 255, sev := 0 }
  else s

/-- A sensor whose self-test failed when D10 switched on (R301, R302): it stays Off until the self-test is repeated 10 ms later. -/
def State.failSelfTest (s : State) (k : Sensor) : State :=
  if s.willRetry bTHM 0 k.val then (s.setSensor k { s.thm.sensors[k] with trying := 5, testAt := some s.now }).occur bTHM 0 k.val
  else (s.failSensor k 5 false).occurHard bTHM 0 k.val

/-- The watchdog counter when D2 is released (R463): a locked watchdog counts, its first period P plus 2 s. -/
def State.releaseCore (s : State) : State :=
  { s with wdg := { s.wdg with
      run := s.wdg.lock && !s.ret.wdg.hold, since := s.now, firstPeriod := true, armed := false, stood := 0 } }

/-- The host-contact timer starts where an image is active (R465, R487). -/
def State.startHostTimer (s : State) : State :=
  if s.img.image.isSome then { s with host := { s.host with run := true, since := s.now, zero := false } } else s

/-- Standby at the end of a start-up (R483, R486): a Safe line that stands takes the module to Stubble; with autorun and an
image it goes on to Run. -/
def State.reachStandby (s : State) (failed : List Cell) : State :=
  let s := { s with dom := { s.dom with st := .standby, boot := false } }
  if s.safeLine ≠ [] then s.enterStubble.settle
  else if s.ret.domCfg.bit 0 = true ∧ s.img.image.isSome = true then s.runEntry failed
  else s

/-- STARTUP: the steps of R486, and with autorun those of R488. -/
def execStartup (cal : Bool × Bool) (errs : Fin 3) (testFailed : List Cell) (sensorsFailed : List Sensor) (s : State) : Ans :=
  if s.dom.boot then
    let t := s.bootMemory.bootFlows.bootThermal.bootEnergy
    let t := [11, 1, 2, 10, 3].foldl (State.powerOn []) t
    let t := forEach sensorsFailed.dedup State.failSelfTest t.bootLog.releaseCore
    .next ((t.loadImage cal errs).startHostTimer.reachStandby testFailed)
  else .next s

/-! ### Wake, supply and loops (R49-R51, R62, R67, R483) -/

/-- The element of a list with the highest value, the first among equals. -/
def topOf {α : Type} (l : List (α × Nat)) : Option α := (sortBy (fun a b => decide (b.2 < a.2)) l).head?.map (·.1)

/-- The feed by what is known of the ports (R67): the high-voltage port with the highest voltage of those above their wake level, else the
battery port; it stays where neither is known. -/
def DomRec.feed (x : DomRec) : Nat :=
  match topOf x.hvs with
  | some p => p.val + 1
  | none => if x.batFeed = 0 then x.pwrPort else x.batFeed

/-- The housekeeping supply starts at a wake, from the port of R67 (R62); the hold-up store has yet to charge (R498). -/
def State.supplyOn (s : State) : State :=
  { s with dom := { s.dom with supplyAt := some s.now, holdReady := false, pwrPort := s.dom.feed } }

/-- A sleeping module wakes while the RESET loop is open; a wake from Dormant is a power-on reset (R483, R569). -/
def State.wakeUp (s : State) (w : Wake) (p : SPort) : State :=
  if s.dom.resetLoop = true then s
  else if s.dom.st = .dormant then s.supplyOn.beginBoot true w p
  else if s.dom.st = .watch then s.supplyOn.beginBoot false w p
  else s

/-- The port that feeds the housekeeping supply, by the code of R191 (R67): of `feed`, which has the highest voltage among the
high-voltage ports above their wake level, else among the battery ports, and of an HV port that is a wake cause. -/
def feedCode (feed : Fin 8) (hv : Option SPort) : Nat :=
  if 1 ≤ feed.val ∧ feed.val ≤ 4 then feed.val else match hv with
    | some p => p.val + 1
    | none => feed.val

/-- The measured high-voltage ports above their wake level, in mV, whatever their role; of a port that the image does not use, what its
wake detector last told (R62). -/
def State.hvMeasured (s : State) : List (SPort × Nat) :=
  allSrc.filterMap fun p =>
    let v := if s.src[p].role = .feeder then 100 * s.fdr[p].vout else 100 * s.src[p].v
    if s.src[p].role = .unused then s.dom.hvs.find? fun q => q.1 == p
    else if (if s.src[p].role = .ac then 70000 else 50000) ≤ v then some (p, v) else none

/-- The feed as the measured voltages move it (R67), while D3 measures: of the battery ports above 18 V the one with the highest voltage. -/
def State.followFeed (s : State) : State :=
  if s.domOn 3 then
    let bat : Option BPort := topOf ((allBat.filter fun p => decide (18000 < s.bat[p].vterm)).map fun p => (p, s.bat[p].vterm.toNat))
    let x := { s.dom with hvs := s.hvMeasured, batFeed := (bat.map fun (p : BPort) => p.val + 5).getD s.dom.batFeed }
    { s with dom := { x with pwrPort := x.feed } }
  else s

/-- SUPPLY_START: the housekeeping supply starts from unpowered. With a wake cause the module starts up; from a battery port
alone it is Dormant; a closed RESET loop holds it in reset (R51, R67, R483). -/
def execSupplyStart (feed : Fin 8) (hv : Option SPort) (loopClosed : Bool) (s : State) : Ans :=
  if s.dom.st = .unpowered ∧ s.dom.failAt = none then
    let t := { s with dom := { s.dom with
      supplyAt := some s.now, hvWake := hv, wakeLoop := loopClosed, pwrPort := feedCode feed hv, holdReady := false
      hvs := (allSrc.filter fun (p : SPort) => p.val + 1 == feedCode feed hv || hv == some p).map fun (p : SPort) => (p, if p.val + 1 = feedCode feed hv then 1 else 0)
      batFeed := if 5 ≤ feed.val then feed.val else 0 } }
    let cause := hv.isSome || loopClosed
    .next (if cause = true ∧ s.dom.resetLoop = false then t.beginBoot true .powerOn (hv.getD 0)
      else
        let u := t.coldReset
        { u.drew with dom := { u.dom with
            st := if cause then .inReset else .dormant, pwrW := u.free % 9, cold := true, supplyAt := if cause then u.dom.supplyAt else none } })
  else .next s

/-- The feed chosen again, where the supply runs and D3 does not measure (R67). -/
def State.feedFrom (s : State) (x : DomRec) : State :=
  { s with dom := { x with pwrPort := if x.supplyAt.isSome && !s.domOn 3 then x.feed else x.pwrPort } }

/-- HV_WAKE: 50 V DC or 70 V rms for 100 ms on P1-P4 (R62); a lower voltage is no wake cause. In reset the feed follows (R67). -/
def execHvWake (p : SPort) (ac : Bool) (mv heldMs : Nat) (s : State) : Ans :=
  if (if ac then 70000 else 50000) ≤ mv then
    if 100 ≤ heldMs then
      .next ((s.feedFrom { s.dom with hvWake := some p, hvs := (s.dom.hvs.filter fun q => q.1 != p) ++ [(p, mv)] }).wakeUp .hv p)
    else .next s
  else
    let hvs := s.dom.hvs.filter fun q => q.1 != p
    .next (s.feedFrom { s.dom with hvs := hvs, hvWake := if s.dom.hvWake = some p then hvs.head?.map (·.1) else s.dom.hvWake })

/-- WAKE_LOOP_REQUEST: two consecutive closed samples (R49). -/
def execWakeLoopRequest (ohm1 ohm2 : Nat) (s : State) : Ans :=
  if ohm1 < 1000 ∧ ohm2 < 1000 then .next ({ s with dom := { s.dom with wakeLoop := true } }.wakeUp .loop 0)
  else if 100000 < ohm2 then .next { s with dom := { s.dom with wakeLoop := false } }
  else .next s

/-- WATCH_ALARM: in Watch the clock reaches DOM_ALARM (R483). -/
def execWatchAlarm (s : State) : Ans :=
  let a := s.ret.domAlarm.toNat
  if s.dom.st = .watch ∧ a ≠ 0 ∧ a ≤ s.rtc then .next (s.wakeUp .alarm 0) else .next s

/-- Whether the housekeeping supply runs with D0 on. -/
def State.powered (s : State) : Bool :=
  match s.dom.st with
  | .unpowered => false
  | .dormant => false
  | .watch => false
  | _ => true

/-- RESET_LOOP_CLOSED: below 1 kilohm the module is held in reset, D1-D11 off; Dormant and Watch take no wake from then on,
and a hold-up is not touched (R50, R51, R66, R483, R501). -/
def execResetLoopClosed (ohm : Nat) (s : State) : Ans :=
  if ohm < 1000 then
    let t := { s with dom := { s.dom with resetLoop := true } }
    if s.powered then
      let u := if s.dom.st = .inReset then t else t.domainReset
      .next { u.drew with dom := { u.dom with st := .inReset, boot := false, pwrW := s.free % 9, cold := s.dom.cold && s.dom.st == .inReset } }
    else .next t
  else .next s

/-- The RESET loop ends a watchdog Hold: level 0, and its line released (R461). -/
def State.endHoldByLoop (s : State) : State :=
  if s.ret.wdg.hold then
    { s with
      ret := { s.ret with wdg := { s.ret.wdg with hold := false, level := 0, tries := 0 } }
      safeLine := s.safeLine.filter fun d => !(d.blk == bWDG && d.src == 4)
      wdg := { s.wdg with good := 0 } }
  else s

/-- RESET_LOOP_OPENED: above 100 kilohm the module starts up, wake 4; a sleeping module with a wake cause present wakes
(R50, R51, R483). -/
def execResetLoopOpened (ohm : Nat) (s : State) : Ans :=
  if 100000 < ohm ∧ s.dom.resetLoop = true then
    let t := { s with dom := { s.dom with resetLoop := false } }
    if s.dom.st = .inReset then .next (t.endHoldByLoop.beginBoot s.dom.cold .reset 0)
    else match s.dom.hvWake with
      | some p => .next (t.wakeUp .hv p)
      | none => .next (if s.dom.wakeLoop then t.wakeUp .loop 0 else t)
  else .next s

/-! ### Sleep (R489, R490, R501) -/

/-- A wake cause that comes during the entry into Watch or Dormant: one that waits in the queue behind it (R501). -/
def wakes : Instr → Option (Wake × SPort)
  | .hvWake p ac mv heldMs => if (if ac then 70000 else 50000) ≤ mv ∧ 100 ≤ heldMs then some (.hv, p) else none
  | .wakeLoopRequest ohm1 ohm2 => if ohm1 < 1000 ∧ ohm2 < 1000 then some (.loop, 0) else none
  | _ => none
def State.wakeWaits (s : State) : Option (Wake × SPort) := if s.dom.resetLoop then none else s.pending.findSome? wakes

/-- Domains off, and the housekeeping supply stops; in Dormant D0 powers down its retained memory and clock too. With a wake cause during the entry the save completes and a
start-up follows, with retained memory and the clock kept (R501). -/
def State.sleep (s : State) (to_ : ModState) : State :=
  let s := { s with dom := { s.dom with st := to_ } }.saveSlot s.olderSlot true
  if let some (w, p) := s.wakeWaits then s.beginBoot false w p else
  let t := if to_ = .dormant then s.coldReset else s.domainReset
  { t with dom := { t.dom with st := to_, cold := to_ == .dormant, supplyAt := none, holdReady := false } }

/-- Whether a wake cause is present (R483). -/
def State.wakeCause (s : State) : Bool := s.dom.hvWake.isSome || s.dom.wakeLoop

/-- Ops 3 and 4 (R489): from Standby, without session, activation or wake cause; for Watch with an alarm that is 0 or lies
ahead. -/
def State.orderSleep (s : State) (to_ : ModState) : State :=
  let a := s.ret.domAlarm.toNat
  if s.dom.st = .standby ∧ s.img.sess = .closed ∧ s.img.req = none ∧ s.wakeCause = false ∧
      (to_ = .dormant ∨ a = 0 ∨ s.rtc < a) then s.sleep to_
  else s.refuseState

/-- DOM_WATCH. -/
def execDomWatch (r : Req) (s : State) : Ans := .next (s.viaService r domCtlAt fun s => s.orderSleep .watch)

/-- DOM_DORMANT. -/
def execDomDormant (r : Req) (s : State) : Ans := .next (s.viaService r domCtlAt fun s => s.orderSleep .dormant)

/-- Both conditions of R490: the culm Off, and no source-role port outside Absent, Unused and Feeder. -/
def State.idle (s : State) : Bool :=
  s.inRun && s.culm.mode == .off && allSrc.all fun p =>
    s.src[p].st == .absent || s.src[p].st == .unused || s.src[p].st == .feeder

/-- Since when both have held. -/
def State.followIdle (s : State) : State :=
  if s.idle then (if s.dom.idleSince.isSome then s else { s with dom := { s.dom with idleSince := some s.now } })
  else if s.dom.idleSince.isSome then { s with dom := { s.dom with idleSince := none } }
  else s

/-- IDLE_TO_DORMANT (R490). -/
def execIdleToDormant (s : State) : Ans :=
  let n := s.ret.domCfg.bits 15 8
  if s.idle = true ∧ n ≠ 0 ∧ s.dom.idleSince.any (fun t => decide (t + 60000000 * n ≤ s.now)) = true then .next (s.sleep .dormant)
  else .next s

/-! ### Stubble and the return (R481, R491) -/

/-- STUBBLE_DOMAIN_OFF: 10 min after Stubble was entered from Run, D4-D8 are switched off as R39 and R88 allow. -/
def execStubbleDomainOff (s : State) : Ans :=
  if s.dom.st = .stubble ∧ s.dom.stubFromRun = true ∧ s.dom.stubOff = false ∧ s.dom.stubAt + 600000000 ≤ s.now then
    .next ([8, 7, 6, 5, 4].foldl State.powerOff { s with dom := { s.dom with stubOff := true } })
  else .next s

/-- The setpoint of a culm that the stubble supply holds: it starts at the present culm voltage (R491). -/
def State.holdCulm (s : State) : State :=
  if s.culm.supOn then
    { s with culm := { s.culm with vset := s.culm.vmeas, slewFrom := s.culm.vmeas, target := s.culm.vmeas, slewAt := s.now, edge := none, slew := 1000,
                                   within2 := none } }
  else { s with culm := { s.culm with mode := .off, within2 := none, near := none } }

/-- The return of R491 to Run, or to Standby where Stubble was entered from there. -/
def State.returnFromStubble (s : State) (failed : List Cell) : State :=
  if s.dom.stubFromRun then
    let s := { s with dom := { s.dom with st := .run } }
    ((s.runDomains failed).holdCulm.toRun.settle).orStubble
  else { s with dom := { s.dom with st := .standby } }.settle

/-- SAFE_LINE_RELEASED: every contribution released, and no activation holds the return (R412, R491). -/
def execSafeLineReleased (testFailed : List Cell) (s : State) : Ans :=
  if s.dom.st = .stubble ∧ s.safeLine = [] ∧ s.img.req = none then .next (s.returnFromStubble testFailed) else .next s

/-! ### Loss of power (R497-R500) -/

/-- A page program or an erase under way when the power fails is cut off (R501). -/
def State.cutStore (s : State) : State :=
  match s.nvs.ops with
  | .program b page _ :: _ => if s.nvs.started then s.spoil (bankBase b + 256 * page.val) 256 else s
  | o :: _ => if s.nvs.started then s.spoilErase o else s
  | [] => s

/-- POWER_FAIL: below 16 V for 20 us; the Safe line, D1-D11 off, and the save by the hold-up store, which the store's state
may cut off. Before step 2 of a start-up no slot is written (R497, R498, R501). -/
def execPowerFail (mv heldUs : Nat) (saveOk : Bool) (s : State) : Ans :=
  if s.dom.st ≠ .unpowered ∧ mv < 16000 ∧ 20 ≤ heldUs then
    let early := s.dom.st == .inReset && (s.dom.boot || s.dom.cold)
    let save := !early && s.dom.st != .dormant
    let t := if save then { s with ret := { s.ret with powerFail := true } }.saveSlot s.olderSlot saveOk else s
    let v := t.cutBoot.cutStore
    let u := { v with nvs := { v.nvs with ops := [] } }.domainReset
    .next { u with dom := { u.dom with
      st := .unpowered, on := 0, req := 0, supplyAt := none, holdReady := false, boot := false
      cold := s.dom.st == .dormant || (s.dom.st == .inReset && s.dom.cold)
      failAt := if s.dom.st = .dormant then none else some s.now, failSaved := save && saveOk } }
  else .next s

/-- POWER_RESTORED_IN_HOLDUP: above 18 V for 1 ms once the save has ended and the hold-up is not spent; a start-up as after a
module restart, wake 5, DOM source 4 (R500, R505). -/
def execPowerRestoredInHoldup (mv heldUs : Nat) (s : State) : Ans :=
  match s.dom.failAt with
  | some t =>
    if 18000 < mv ∧ 1000 ≤ heldUs then
      let u := { s with ret := { s.ret with holdLast := sat 65535 ((s.now - t) / 100) }
                        dom := { s.dom with supplyAt := some s.now } }
      if s.dom.resetLoop then
        .next { u.drew with dom := { u.dom with st := .inReset, pwrW := u.free % 9, on := 1, req := 1, failAt := none, failSaved := false } }
      else .next (u.beginBoot s.dom.cold .restored 0)
    else .next s
  | none => .next s

/-- HOLDUP_SPENT: 20 ms or more after the power fail D0 stops; the module is unpowered (R480, R500). -/
def execHoldupSpent (s : State) : Ans :=
  match s.dom.failAt with
  | some t =>
    if t + 20000 ≤ s.now then
      .next { s.coldReset with dom := { s.coldReset.dom with st := .unpowered, on := 0, req := 0, supplyAt := none, holdReady := false, cold := true } }
    else .next s
  | none => .next s

/-- HOLDUP_NOT_READY: not ready 10 s after the supply started, or readiness lost in Run: DOM source 2 (R498). -/
def execHoldupNotReady (lost : Bool) (s : State) : Ans :=
  if lost then
    if s.dom.holdReady = true ∧ s.inRun = true then .next ({ s with dom := { s.dom with holdReady := false } }.occur bDOM 2 0 true)
    else .next s
  else if s.dom.holdReady = false ∧ s.dom.supplyAt.any (fun t => decide (t + 10000000 ≤ s.now)) = true then .next (s.occur bDOM 2 0 true)
  else .next s

/-- HOLDUP_STORE_READY: the store has charged (R498); its voltage is a free value. -/
def execHoldupStoreReady (s : State) : Ans :=
  if s.dom.supplyAt.isSome then
    .next ({ s with dom := { s.dom with holdReady := true, holdV := s.free % 256 } }.drew.endCause bDOM 2 0)
  else .next s

/-! ### DOM registers written (R485, R502, R504) -/

def domRtcAt : Nat := 0x010014

/-- A write of DOM_RTC sets the clock and rtcv. -/
def State.writeRtc (s : State) (v : Word) : State :=
  { s with dom := { s.dom with rtcSec := v.toNat, rtcAt := s.now, rtcv := true } }

/-- DOM_RTC_WRITE. -/
def execDomRtcWrite (r : Req) (v : Word) (s : State) : Ans := .next (s.viaService r domRtcAt fun s => s.writeRtc v)

/-- Writes of DOM_CFG and DOM_ALARM, which retained memory holds. -/
def State.writeDomCfg (s : State) (v : Word) : State := { s with ret := { s.ret with domCfg := v &&& 0xFF03 } }
def State.writeDomAlarm (s : State) (v : Word) : State := { s with ret := { s.ret with domAlarm := v } }

/-- A write of DOM_CTL; the cells whose self-test fails at a Run entry are none that this access could name. -/
def State.writeDomCtl (s : State) (v : Word) : State :=
  match v.bits 2 0 with
  | 1 => s.orderRun []
  | 2 => s.orderStandby
  | 3 => s.orderSleep .watch
  | 4 => s.orderSleep .dormant
  | _ => s

end Sys2Proof.Machine
end

