-- ==== Sys2Proof/Machine/Image.lean ====
section
/-!
DEFINITION. The update session, activation with its drain and bridge, the trial, and the store's own events (R401, R402,
R409-R422, R429).
-/

namespace Sys2Proof.Machine

/-- IMG_UPD and IMG_CTL (R424). -/
def imgUpdAt : Nat := 0x040028
def imgCtlAt : Nat := 0x040024

/-! ### The update session (R409-R411) -/

/-- Whether an update op is still being carried out: a further op is discarded. -/
def State.updBusy (s : State) : Bool :=
  s.img.sess == .erasing || s.nvs.ops.any fun o => match o with
    | .program _ _ _ => true
    | .eraseBank _ => true
    | .logErase => false

/-- The result of an executed op (R409, R425). -/
def State.updResult (s : State) (code : Nat) : State :=
  { s with img := { s.img with uresult := code, udone := true, useq := (s.img.useq + 1) % 256, lastOp := s.now } }

/-- An op accepted whose result comes later. -/
def State.updStart (s : State) : State := { s with img := { s.img with udone := false, lastOp := s.now } }

/-- Op 1: the boot record marks the inactive bank Writing, and all its sectors are erased. -/
def State.updOpen (s : State) : State :=
  if s.updBusy then s
  else if s.img.sess ≠ .closed then s.updResult 3
  else if s.img.trial then s.updResult 4
  else if s.img.req.isSome then s.updResult 5
  else
    let b := s.inactive
    let s := (s.setBank b { s.img.banks[b] with st := .writing, cause := 0 }).writeBoot
    ({ s with img := { s.img with sess := .erasing, pages := [] } }.updStart).askStore (.eraseBank b)

/-- IMG_UPD_OPEN. -/
def execImgUpdOpen (r : Req) (s : State) : Ans := .next (s.viaService r imgUpdAt State.updOpen)

/-- Op 2: the page buffer is programmed at a page not yet programmed in this session. -/
def State.updProgram (s : State) (page : Fin 512) : State :=
  if s.updBusy then s
  else
    let s := { s with img := { s.img with upage := page.val } }
    if s.img.sess = .closed then s.updResult 2
    else if s.img.pages.contains page then s.updResult 7
    else s.updStart.askStore (.program s.inactive page s.img.pbuf)

/-- IMG_UPD_PROGRAM. -/
def execImgUpdProgram (r : Req) (page : BitVec 9) (s : State) : Ans :=
  .next (s.viaService r imgUpdAt fun s => s.updProgram page.toFin)

/-- The session ended with the bank Invalid, without a check (R409, R411). -/
def State.dropSession (s : State) : State :=
  let b := s.inactive
  let s := { s with img := { s.img with sess := .closed, pages := [] } }
  (s.setBank b { s.img.banks[b] with st := .invalid }).writeBoot

/-- Op 3: the bank is checked; it becomes Valid, or Invalid with the code and IMG source 2. -/
def State.updClose (s : State) : State :=
  if s.updBusy then s
  else if s.img.sess = .closed then s.updResult 2
  else
    let b := s.inactive
    let code := s.bankCode b
    let s := { s with img := { s.img with sess := .closed, pages := [] } }
    if code = 0 then
      ((s.setBank b { st := .valid, cause := 0, seq := sat 65535 (s.img.banks[b].seq + 1) }).writeBoot).updResult 0
    else ((s.invalidBank b code).writeBoot.updResult code).occur bIMG 2 0

/-- IMG_UPD_CLOSE. -/
def execImgUpdClose (r : Req) (s : State) : Ans := .next (s.viaService r imgUpdAt State.updClose)

/-- Op 4. -/
def State.updAbort (s : State) : State :=
  if s.updBusy then s
  else if s.img.sess = .closed then s.updResult 2
  else s.dropSession.updResult 0

/-- IMG_UPD_ABORT. -/
def execImgUpdAbort (r : Req) (s : State) : Ans := .next (s.viaService r imgUpdAt State.updAbort)

/-- A write of IMG_UPD; ops 0 and 5-7 have no effect. -/
def State.writeImgUpd (s : State) (v : Word) : State :=
  match v.bits 2 0 with
  | 1 => s.updOpen
  | 2 => s.updProgram ⟨v.bits 24 16 % 512, Nat.mod_lt _ (by decide)⟩
  | 3 => s.updClose
  | 4 => s.updAbort
  | _ => s

/-- UPDATE_SESSION_TIMEOUT: no op for utmo minutes, a write hold apart: aborted as by op 4, IMG source 7 (R410). -/
def execUpdateSessionTimeout (s : State) : Ans :=
  if s.img.sess = .opened ∧ s.updBusy = false ∧ s.writeHold = false ∧
      s.img.lastOp + 60000000 * (s.reg imgCfgAt).bits 23 16 ≤ s.now then
    .next (s.dropSession.occur bIMG 7 0)
  else .next s

/-! ### The store's events (R401, R410, R430) -/

/-- Whether the operation in progress may be under way: it has begun, or no hold keeps it waiting (R298). -/
def State.opRuns (s : State) : Bool := s.domOn 11 && (s.nvs.started || !s.writeHold)

/-- Whether the failed operation is done once more under its source (R430). -/
def State.mayRepeat (s : State) (src : Src) : Bool := !s.nvs.retry && s.flt[bNVS].frty.getLsbD src.val && !s.masked bNVS src

/-- NVS_PROGRAM_COMPLETE: the page is programmed and verified; one that does not verify is NVS source 2 and is programmed
once more, and then result 8 and IMG source 3 (R401, R409, R410). -/
def execNvsProgramComplete (ok : Bool) (s : State) : Ans :=
  match s.nvs.ops with
  | .program b page data :: _ =>
    if s.opRuns then
      let a := bankBase b + 256 * page.val
      if ok then
        let t := { s with nv := Memory.writeAll s.nv a (data.toList.flatMap fun (w : Word) => wordBytes w.toNat)
                          img := { s.img with pages := s.img.pages ++ [page] } }
        .next ((t.retryOutcome bNVS 2 b.val true).nextOp.updResult 0)
      else if s.mayRepeat 2 then .next ((s.spoil a 256).repeatOp.occur bNVS 2 b.val)
      else
        let t := s.spoil a 256
        let t := if s.nvs.retry then t.retryOutcome bNVS 2 b.val false else t.occur bNVS 2 b.val
        .next ((t.nextOp.updResult 8).occur bIMG 3 0)
    else .next s
  | _ => .next s

/-- What follows an erase whose last sector is erased: the session open, or an empty log (R409, R454). -/
def State.erased (s : State) : NvOp → State
  | .eraseBank _ => { s with img := { s.img with sess := .opened } }.nextOp.updResult 0
  | .logErase => { s with log := { s.log with erase := false, newest := 0, oldest := 0 } }.nextOp
  | .program _ _ _ => s

/-- A sector erased and verified; then the next one, or the end of the erase (R401, R409, R454). -/
def State.sectorErased (s : State) (o : NvOp) : State :=
  let k := o.sectors.1 + s.nvs.sector
  let s := (s.eraseBytes (4096 * k) 4096).wearSectors k 1
  if s.nvs.sector + 1 < o.sectors.2 then s.nextSector else s.erased o

/-- What an erase that failed twice leaves. -/
def State.notErased (s : State) : NvOp → State
  | .eraseBank _ => (s.nextOp.dropSession.updResult 8).occur bIMG 3 0
  | .logErase => { s with log := { s.log with erase := false } }.nextOp
  | .program _ _ _ => s

/-- NVS_ERASE_COMPLETE: the erase of a sector ends; one that does not verify leaves free bytes, is NVS source 3, and is erased
once more (R401, R430). -/
def execNvsEraseComplete (ok : Bool) (s : State) : Ans :=
  match s.nvs.ops with
  | o :: _ =>
    if s.opRuns && o.isErase then
      if ok then .next ((s.retryOutcome bNVS 3 o.region true).sectorErased o)
      else if s.mayRepeat 3 then .next ((s.spoilErase o).repeatOp.occur bNVS 3 o.region)
      else
        let t := s.spoilErase o
        let t := if s.nvs.retry then t.retryOutcome bNVS 3 o.region false else t.occur bNVS 3 o.region
        .next (t.notErased o)
    else .next s
  | [] => .next s

/-- The longest time of an operation, microseconds (R401): a page 4 ms, a sector 40 ms. -/
def NvOp.longest (o : NvOp) : Nat := if o.isErase then 40000 else 4000

/-- NVS_OPERATION_OVERTIME: twice the maximum time, NVS source 6, whose cause lasts until the operation ends (R430, R433). -/
def execNvsOperationOvertime (s : State) : Ans :=
  match s.nvs.ops with
  | o :: _ =>
    if s.opRuns = true ∧ s.nvs.since + 2 * o.longest ≤ s.now then .next (s.occur bNVS 6 o.region true) else .next s
  | [] => .next s

/-! ### The drain and the bridge (R413) -/

/-- The bridge level, mV: the designated port's voltage less 0.5 V within 40-60 V; none where no bridge can run. -/
def State.bridgeLevel (s : State) : Option Nat :=
  match s.culm.supPort with
  | some p =>
    let v := s.bat[p].vterm
    if s.domOn 9 = true ∧ 40000 ≤ v ∧ v ≤ 60000 then some (max 40000 (min 60000 (v.toNat - 500))) else none
  | none => none

/-- The bridge stands once the setpoint has reached its level: the stubble supply is enabled, and the drain begins. -/
def State.bridge (s : State) : State :=
  match s.img.req with
  | some q =>
    if q.plan = true ∧ s.draining = true ∧ s.rampNow = s.culm.target then
      let up := s.bridgeLevel.isSome
      { s with
        culm := if up then { s.culm with mode := .stubble, supOn := true, supOver := none, vset := s.culm.target } else s.culm
        img := { s.img with bridge := up, req := some { q with plan := false } } }
    else s
  | none => s

/-- The setpoint's place outside bridge and Stubble (R113, R387): the last Awn setpoint within the window, or the nominal
one, at 1 V/ms. -/
def State.releaseSetpoint (s : State) : State :=
  s.retarget (if s.awn.src = 0 then s.thr.inForce.cset.bits 15 0 else max 40000 (min 60000 (s.inCwin s.awn.asked))) 1000

/-- A cancelled activation (R414): CREATE is accepted again and the setpoint returns at 1 V/ms; a bridge that stands ends as in R416, at its
hand-back, from which the setpoint returns; and a held return of R491 goes on. -/
def State.cancelActivation (s : State) (result : Nat) : State :=
  match s.img.req with
  | some q =>
    let s := { s with img := { s.img with
      asta := .none, req := none, aresult := if q.byTrial then s.img.aresult else result, adone := true } }
    if q.heldReturn then s
    else if q.plan then s.releaseSetpoint
    else s
  | none => s

/-! ### Requests (R412) -/

/-- The module state admits an activation: Standby, Run, Degraded, or Stubble with the Safe line released; none without a factory calibration
(R403, R412). -/
def State.mayActivate (s : State) : Bool :=
  !s.img.calBad && (s.dom.st == .standby || s.inRun || s.dom.st == .stubble) && s.safeLine.isEmpty

/-- Whether a bridge can run for this activation: in Stubble it is the supply that conducts. -/
def State.canBridge (s : State) : Bool :=
  if s.dom.st == .stubble then s.culm.supOn && s.domOn 9 else s.bridgeLevel.isSome

/-- The code that refuses a request, and the check code of a bank that fails; 0 where it is accepted. -/
def State.activateCode (s : State) (b : Side) (dark : Bool) : Nat × Nat :=
  let closed := allBranches.any fun k => s.branches[k].st == .closed
  if s.mayActivate = false then (7, 0)
  else if s.img.sess ≠ .closed then (3, 0)
  else if s.img.req.isSome then (2, 0)
  else if s.img.banks[b].st ≠ .valid ∧ s.img.banks[b].st ≠ .active then (4, 0)
  else
    let code := s.bankCode b
    if code ≠ 0 then (5, code)
    else if s.canBridge = false ∧ dark = false ∧ closed = true then (6, 0)
    else (0, 0)

/-- The setpoint kept at the bridge level where the stubble supply is the bridge (R412, R413). -/
def State.atBridge (s : State) : State :=
  match s.bridgeLevel with
  | some v =>
    if s.img.bridge then { s with culm := { s.culm with vset := v, slewFrom := v, target := v, slewAt := s.now, edge := none, within2 := none } } else s
  | none => s

/-- An accepted request: the drain and, where it can run, the bridge begin. -/
def State.beginActivation (s : State) (b : Side) (drain dark byTrial : Bool) : State :=
  let stub := s.dom.st == .stubble
  let level := if stub then none else s.bridgeLevel
  let s := { s with img := { s.img with
    asta := if drain then .draining else .waiting
    bridge := stub && s.culm.supOn && s.domOn 9
    req := some { bank := b, drain := drain, dark := dark, at_ := s.now, byTrial := byTrial, heldReturn := stub, plan := level.isSome } } }
  match level with
  | some v => s.retarget v 1000
  | none => s.atBridge.drain

/-- A bank that fails its check at activation: an Active bank keeps its state. -/
def State.failBank (s : State) (b : Side) (code : Nat) : State :=
  if s.img.banks[b].st = .active then s.setBank b { s.img.banks[b] with cause := code } else (s.invalidBank b code).writeBoot

/-- A request (R412): refused with its code, a failed check reported as IMG source 0, or accepted. -/
def State.requestImage (s : State) (b : Side) (drain dark : Bool) : State :=
  let (code, cause) := s.activateCode b dark
  let s := { s with img := { s.img with aseq := (s.img.aseq + 1) % 256, acause := cause } }
  if code = 0 then ({ s with img := { s.img with aresult := 0, adone := false } }).beginActivation b drain dark false
  else
    let s := { s with img := { s.img with aresult := code, adone := true } }
    if code = 5 then (s.failBank b cause).failedTwice else s

/-- IMG_ACTIVATE. -/
def execImgActivate (r : Req) (bank drain dark : Bool) (s : State) : Ans :=
  .next (s.viaService r imgCtlAt fun s => s.requestImage (if bank then 1 else 0) drain dark)

/-- IMG_CTL.cancel (R414). -/
def State.cancelByCommand (s : State) : State := if s.draining then s.cancelActivation 8 else s

/-- IMG_CANCEL. -/
def execImgCancel (r : Req) (s : State) : Ans := .next (s.viaService r imgCtlAt State.cancelByCommand)

/-- ACTIVATION_TIMEOUT: no quiescent point within atmo seconds (R414). -/
def execActivationTimeout (s : State) : Ans :=
  match s.img.req with
  | some q =>
    if s.draining = true ∧ q.at_ + 1000000 * (s.reg imgCfgAt).bits 15 8 ≤ s.now then .next (s.cancelActivation 9) else .next s
  | none => .next s

/-! ### The quiescent point (R413-R417) -/

/-- The trial after an activation of a bank (R419): one other than the confirmed bank starts one; the trial bank itself goes
on with its own; the confirmed one ends it. -/
def State.trialAfter (s : State) (b : Side) : State :=
  let confirmed := if s.img.trial then otherBank s.img.act else s.img.act
  if s.img.trial = true ∧ b = s.img.act then { s with img := { s.img with trialOver := false } }
  else if b = confirmed ∧ s.img.image.isSome = true then
    { s with img := { s.img with trial := false, trialStarts := 0, trialUs := 0, trialAt := none, trialOver := false } }
  else { s with img := { s.img with trial := true, trialStarts := 0, trialUs := 0, trialAt := none, trialOver := false } }

/-- Groups stopped, ports at rest, and the culm Off where no bridge runs (R413 step 4). -/
def State.quiesce (s : State) : State :=
  let s := s.stopGroups.restPorts
  if s.img.bridge = true ∧ s.culm.supOn = true then s else s.culmOff

/-- The image of a bank applied (R415 steps 1 and 2): the named bank Active, the previous one Valid. -/
def State.putBank (s : State) (b : Side) (d : ImageData) (failed : List Cell) : State :=
  let prev := s.img.act
  let s := s.trialAfter b
  let s := if prev ≠ b ∧ s.img.banks[prev].st = .active then s.setBank prev { s.img.banks[prev] with st := .valid } else s
  ((s.freeAll.identify b).writeBoot).applyImage d failed

/-- The culm at Run entry (R413, R416): at the bridge level where the bridge runs, else Off. -/
def State.bridged (s : State) : State :=
  if s.img.bridge = true ∧ s.culm.supOn = true then s else { s with culm := { s.culm with mode := .off, within2 := none, near := none } }

/-- Where the module goes after an activation (R412, R415, R416): it enters Run with the setpoint at the bridge level, or
stays in Standby. -/
def State.afterActivation (s : State) (failed : List Cell) (standby : Bool) : State :=
  if standby then { s.startFlows with dom := { s.dom with st := .standby } }.settle
  else
    let s := { s with dom := { s.dom with st := .run } }
    ((s.runDomains failed).startFlows.bridged.toRun.settle).orStubble

/-- No bank applies (R408): Standby; the stubble supply goes on where it bridges. -/
def State.withoutImage (s : State) : State :=
  let s := s.noBank.thrStop
  { s with dom := { s.dom with st := .standby }, host := { s.host with run := false } }.settle

/-- A bank whose read fails while it is applied: NVS source 1 names its region (R430). -/
def State.unreadable (s : State) (b : Side) : State := (s.occur bNVS 1 b.val).countEcc bNVS 1

/-- The apply of the named bank failed on a read error (R417): the previous bank, whose image was in force, or where that fails too no
image. -/
def State.revert (s : State) (prevReadErr : Bool) (failed : List Cell) (standby : Bool) (b : Side) : State :=
  let prev := s.img.act
  let had := s.img.image.isSome && prev != b
  let s := (s.unreadable b).setBank b { s.img.banks[b] with st := .invalid }
  let s := { s with img := { s.img with aresult := 11 } }.occur bIMG 4 0
  match (if had = true ∧ prevReadErr = false then s.bankImage prev else none) with
  | some d => (((s.freeAll.identify prev).writeBoot).applyImage d failed).afterActivation failed standby
  | none =>
    (if had then ((if prevReadErr then s.unreadable prev else s).setBank prev { s.img.banks[prev] with st := .invalid }) else s).withoutImage

/-- A first image starts the host-contact timer (R465). -/
def State.startHostIfIdle (s : State) : State := if s.host.run then s else s.startHostTimer

/-- ACTIVATION_QUIESCENT_POINT: every context Free, so the groups stop and the image is applied, not while the control core restarts
(R41, R413-R417, R419). -/
def execActivationQuiescentPoint (readErr prevReadErr : Bool) (testFailed : List Cell) (s : State) : Ans :=
  match s.img.req with
  | some q =>
    if s.draining = true ∧ q.plan = false ∧ s.usedCtx = [] ∧ s.safeLine = [] ∧ s.dom.coreRestart = none then
      let standby := s.dom.st == .standby || (s.dom.st == .stubble && !s.dom.stubFromRun)
      let old := s.img.act
      let t := s.quiesce.emptyCrossings
      let t := { t with img := { t.img with asta := .none, req := none, adone := true } }
      match (if readErr then none else t.bankImage q.bank) with
      | some d =>
        let u := t.putBank q.bank d testFailed
        let u := { u with img := { u.img with aresult := if q.byTrial then 12 else 1 } }
        let u := if q.byTrial ∧ old ≠ q.bank then (u.setBank old { u.img.banks[old] with st := .invalid }).writeBoot else u
        .next ((u.afterActivation testFailed standby).startHostIfIdle)
      | none => .next (t.revert prevReadErr testFailed standby q.bank)
    else .next s
  | none => .next s

/-! ### The end of a bridge, and the trial (R416, R419-R421) -/

/-- BRIDGE_HANDBACK: a flow has held the culm within 2 % of the level for 10 ms; the supply is switched off and the setpoint
slews at 1 V/ms into the window (R416, R491). -/
def execBridgeHandback (v heldUs : Nat) (s : State) : Ans :=
  if s.culm.supOn = true ∧ s.inRun = true ∧ s.draining = false ∧ s.canSupply = true ∧ 50 * v ≤ 51 * s.culm.vset ∧
      49 * s.culm.vset ≤ 50 * v ∧ 10000 ≤ heldUs then
    let t := { s with
      culm := { s.culm with supOn := false, supCur := 0, supOver := none, mode := .regulating, vmeas := sat 65535 v, shedLevels := 0,
                            within2 := some (s.now - heldUs) }
      img := { s.img with bridge := false } }
    .next (forEach allBranches State.closeBranch t.releaseSetpoint)
  else .next s

/-- The trial ended by its confirmation; none after an expiry has been reported (R419, R422). -/
def State.confirm (s : State) : State :=
  if s.img.trial = true ∧ s.img.trialOver = false then
    { s with img := { s.img with trial := false, trialStarts := 0, trialUs := 0, trialAt := none } }.writeBoot
  else s

/-- IMG_CONFIRM. -/
def execImgConfirm (r : Req) (s : State) : Ans := .next (s.viaService r imgCtlAt State.confirm)

/-- TRIAL_EXPIRY: the trial's minutes in Run or Degraded are over: IMG source 5, and the loader requests the previous bank
with drain 1, bridged where it can be and dark otherwise; a pending request runs instead (R419, R422); not while the control core
restarts (R41). -/
def execTrialExpiry (s : State) : Ans :=
  if s.img.trial = true ∧ s.img.trialOver = false ∧ s.dom.coreRestart = none ∧ 60000000 * (s.reg imgCfgAt).bits 7 0 ≤ s.trialUsed then
    let t := { s with img := { s.img with trialOver := true } }.occur bIMG 5 0
    let b := otherBank s.img.act
    let (code, _) := t.activateCode b true
    .next (if code = 0 then t.beginActivation b true true true else t)
  else .next s

/-- The fuse raised to the active image's security version, while it is confirmed (R421). -/
def State.raiseSv (s : State) : State :=
  if s.img.image.isSome = true ∧ s.img.trial = false then { s with fuse := { s.fuse with minsv := max s.fuse.minsv (s.img.secver % 64) } }
  else s

/-- IMG_RAISESV. -/
def execImgRaisesv (r : Req) (s : State) : Ans := .next (s.viaService r imgCtlAt State.raiseSv)

/-- A write of IMG_CTL (R425). -/
def State.writeImgCtl (s : State) (v : Word) : State :=
  let s := if v.bit 0 then s.requestImage (if v.bit 1 then 1 else 0) (v.bit 2) (v.bit 3) else s
  let s := if v.bit 4 then s.cancelByCommand else s
  let s := if v.bit 5 then s.confirm else s
  if v.bit 6 then s.raiseSv else s

end Sys2Proof.Machine
end

