-- ==== Sys2Proof/Machine/Watchdog.lean ====
section
/-!
DEFINITION. The system watchdog with its ladder, the control-core restart, and the host-contact timer (R41, R42, R212, R411,
R455-R474).
-/

namespace Sys2Proof.Machine

/-! ### Counts (R455-R458, R463) -/

/-- The watchdog period, ms, and the frequency of a clock, Hz (R456). -/
def wdgPeriod (cfg : Word) : Nat := cfg.bits 31 16
def wdgHz (core : Bool) : Nat := if core then 1000000 else 32768

/-- The expiry count P and the window count W, ticks, rounded up (R456). -/
def State.wdgP (s : State) : Nat := (wdgPeriod s.wdg.cfg * wdgHz s.wdg.clkCore + 999) / 1000
def State.wdgW (s : State) : Nat := (s.fuse.win * s.wdgP + 3) / 4

/-- P and W as they stand for the service that comes next: P plus 2 s and no window after a ladder step (R463). -/
def State.wdgPNow (s : State) : Nat := if s.wdg.firstPeriod then s.wdgP + 2 * wdgHz s.wdg.clkCore else s.wdgP
def State.wdgWNow (s : State) : Nat := if s.wdg.firstPeriod then 0 else s.wdgW

/-- Ticks of the root clock since the counter last started; nominal ticks of the core clock. -/
def State.wdgTicks (s : State) : Nat := wdgHz s.wdg.clkCore * (s.now - s.wdg.since) / 1000000

/-- The most that the counter can read: the core tick is accurate to 20 %. -/
def State.wdgMost (s : State) : Nat := if s.wdg.clkCore then 12 * s.wdgTicks / 10 else s.wdgTicks

/-- The count: a free value within 20 % of the nominal one on the core tick. -/
def State.wdgCount (s : State) : Nat :=
  if s.wdg.run = false then s.wdg.stood
  else if s.wdg.clkCore then 8 * s.wdgTicks / 10 + s.free % (4 * s.wdgTicks / 10 + 1)
  else s.wdgTicks

/-! ### The control core restarts (R41, R42, R360, R411) -/

/-- An update session that a control-core restart aborts: source 7, and its program in flight dropped (R411). -/
def State.abortSession (s : State) : State :=
  if s.img.sess = .closed then s
  else
    let s := s.finishProgram.dropSession
    ({ s with nvs := { s.nvs with ops := s.nvs.ops.filter (· == NvOp.logErase), since := s.now, started := false, sector := if s.nvs.ops.head? = some NvOp.logErase then s.nvs.sector else 0 } }).occur bIMG 7 0

/-- The restart begins: Thresher holds its grants, items on their way to and from the core are lost, and the ring framer goes
on with the mirrored status words. -/
def State.restartCore (s : State) : State :=
  let s := { s with dom := { s.dom with coreRestart := some s.now } }
  let s := s.thrHold.abortSession
  [0, 2, 3].foldl (fun s x => s.emptyXing x true true) (s.emptyXing 4 true true)

/-- CONTROL_CORE_RESTART_DONE: within 120 ms the core runs again, Thresher goes on from the held grants and the watchdog's
first period starts (R42, R316, R463). -/
def execControlCoreRestartDone (s : State) : Ans :=
  if s.dom.coreRestart.isSome then
    .next ({ s with dom := { s.dom with coreRestart := none } }.thrResume).releaseCore
  else .next s

/-! ### The ladder (R461, R462) -/

/-- WDG_LAST after a step. -/
def State.lastStep (s : State) (cause step tries : Nat) : State :=
  { s with ret := { s.ret with wdg := { s.ret.wdg with lastCause := cause, lastStep := step, lastTries := tries } } }

/-- The counter after a step: it stands still until D2 is released. -/
def State.stopCounter (s : State) : State :=
  { s with wdg := { s.wdg with run := false, stood := 0, armed := false, good := 0, firstPeriod := true, stepAt := some s.now } }

/-- Whether the present tick of the watchdog's clock has taken a step of the ladder already (R469). -/
def State.stepInTick (s : State) : Bool := s.wdg.stepAt.any fun t => decide (wdgHz s.wdg.clkCore * (s.now - t) < 1000000)

/-- Level 0: the control core is restarted. -/
def State.ladderCore (s : State) (cause : Nat) : State :=
  let w := s.ret.wdg
  let s := { s with ret := { s.ret with wdg := { w with level := 1, ccr := sat 65535 (w.ccr + 1) } } }.lastStep cause 1 w.tries
  s.stopCounter.restartCore

/-- Levels 1 and 2: a module restart. An erase of the log under way starts afresh after it (R462). -/
def State.ladderModule (s : State) (cause tries : Nat) : State :=
  let w := s.ret.wdg
  let s := { s with ret := { s.ret with wdg := { w with level := 2, tries := tries, mr := sat 65535 (w.mr + 1) } } }.lastStep cause 2 tries
  let ops := s.nvs.ops.filter (· == NvOp.logErase)
  let t := s.stopCounter.beginBoot false .watchdog 0
  { t with nvs := { t.nvs with ops := ops, since := t.now }, log := { t.log with erase := !ops.isEmpty } }

/-- Hold: the Safe line, D2 held in reset, source 4; the counter stands still (R461, R463). -/
def State.ladderHold (s : State) (cause : Nat) : State :=
  let w := s.ret.wdg
  let count := s.wdgTicks
  let s := { s with ret := { s.ret with wdg := { w with hold := true } } }.lastStep cause 3 w.tries
  let s := s.stopCounter
  ({ s with wdg := { s.wdg with stood := count } }.assertSafe holdDriver).occur bWDG 4 0

/-- One step of the ladder, with the cause that WDG_LAST records. -/
def State.ladder (s : State) (cause : Nat) : State :=
  let w := s.ret.wdg
  if w.hold then s
  else match w.level with
    | 0 => s.ladderCore cause
    | 1 => s.ladderModule cause 1
    | _ => if w.tries < s.fuse.nmax then s.ladderModule cause (w.tries + 1) else s.ladderHold cause

/-- An expiry or a violation: its source, then the step. -/
def State.wdgTrip (s : State) (src : Src) (cause : Nat) : State := (s.occur bWDG src 0).ladder cause

/-! ### Commands of the watchdog -/

def wdgCfgAt : Nat := 0x020000
def wdgKeyAt : Nat := 0x020008
def wdgCtlAt : Nat := 0x020020

/-- A write of WDG_CFG (R455): the first with en 1 starts and locks the watchdog; en 0 has no effect; a locked register
refuses the write (R551). -/
def State.writeWdgCfg (s : State) (r : Req) (v : Word) : State :=
  if s.wdg.lock then s.accessError 4 r wdgCfgAt
  else if v.bit 0 then
    let period := max 10 (min 60000 (wdgPeriod v))
    { s with
      wdg := { s.wdg with
        cfg := BitVec.ofNat 32 (1 + 2 * (v.bit 1).toNat + 65536 * period), lock := true, clkCore := v.bit 1, armed := false, run := true,
        since := s.now, stood := 0, firstPeriod := false, good := 0 }
      ret := { s.ret with wdg := { s.ret.wdg with level := 0, tries := 0 } } }
  else s

/-- WDG_CFG_ENABLE. -/
def execWdgCfgEnable (r : Req) (v : Word) (s : State) : Ans := .next (s.viaService r wdgCfgAt fun s => s.writeWdgCfg r v)

/-- An accepted service: the count starts at 0, and 64 in a row end the ladder (R457, R459, R461). -/
def State.service (s : State) : State :=
  let good := sat 64 (s.wdg.good + 1)
  let s := { s with wdg := { s.wdg with armed := false, since := s.now, firstPeriod := false, good := good } }
  if 64 ≤ good ∧ s.ret.wdg.level ≠ 0 then { s with ret := { s.ret with wdg := { s.ret.wdg with level := 0, tries := 0 } } } else s

/-- A key at the watchdog (R457): the second key is accepted from W on and below P; earlier it is a violation, and at P the
watchdog has expired. -/
def State.wdgKey (s : State) (key : Nat) : State :=
  if s.wdg.run = false then s
  else if s.wdg.armed then
    if key = 0x94E2 then
      let n := s.wdgCount
      if n < s.wdgWNow then s.drew.wdgTrip 2 3
      else if n < s.wdgPNow then s.drew.service
      else s.drew.wdgTrip 0 1
    else s.wdgTrip 1 2
  else if key = 0x6B1D then { s with wdg := { s.wdg with armed := true } }
  else s.wdgTrip 1 2

/-- WDG_KEY_WRITE. -/
def execWdgKeyWrite (r : Req) (key : BitVec 16) (s : State) : Ans := .next (s.viaService r wdgKeyAt fun s => s.wdgKey key.toNat)

/-- WDG_EXPIRY: the count reaches P (R456, R461). -/
def execWdgExpiry (s : State) : Ans :=
  if s.wdg.run = true ∧ s.wdgPNow ≤ s.wdgMost then .next (s.wdgTrip 0 1) else .next s

/-- WDG_CLOCK_MONITOR_TRIP: the watchdog changes to the other clock and takes a step, but no second one in the tick of an expiry (R469);
with both clocks tripped it enters Hold at once, where it is not in Hold already (R460). -/
def execWdgClockMonitorTrip (s : State) : Ans :=
  if s.wdg.lock then
    let other := if s.wdg.clkCore then s.wdg.rootTripped else s.wdg.coreTripped
    let t := { s with wdg := { s.wdg with
      rootTripped := s.wdg.rootTripped || !s.wdg.clkCore, coreTripped := s.wdg.coreTripped || s.wdg.clkCore
      clkCore := if other then s.wdg.clkCore else !s.wdg.clkCore } }
    .next (if s.ret.wdg.hold = true ∨ (other = false ∧ s.stepInTick = true) then t.occur bWDG 3 0
      else if other then (t.occur bWDG 3 0).ladderHold 4 else t.wdgTrip 3 4)
  else .next s

/-- WDG_CTL.clrcnt (R464). -/
def State.clearRestarts (s : State) : State := { s with ret := { s.ret with wdg := { s.ret.wdg with ccr := 0, mr := 0 } } }

/-- WDG_CLRCNT. -/
def execWdgClrcnt (r : Req) (s : State) : Ans := .next (s.viaService r wdgCtlAt State.clearRestarts)

/-! ### Host contact (R465-R468, R523) -/

/-- WDG_HCT.period in microseconds, and the two bits of WDG_HCT.src. -/
def State.hctUs (s : State) : Nat := 1000000 * (s.reg wdgHctAt).bits 9 0
def State.ringCounts (s : State) : Bool := (s.reg wdgHctAt).bit 16
def State.kickCounts (s : State) : Bool := (s.reg wdgHctAt).bit 17

/-- A host contact (R465, R468): the count restarts; after an expiry the flag clears and source 6 occurs. -/
def State.contact (s : State) : State :=
  if s.host.run then
    let t := { s with host := { s.host with since := s.now, exp := false, zero := false } }
    if s.host.exp then t.occur bWDG 6 0 else t
  else s

/-- WDG_CTL.hckick: a host contact where src bit 1 is set. -/
def State.kick (s : State) : State := if s.kickCounts then s.contact else s

/-- WDG_HCKICK. -/
def execWdgHckick (r : Req) (s : State) : Ans := .next (s.viaService r wdgCtlAt State.kick)

/-- A write of WDG_CTL. -/
def State.writeWdgCtl (s : State) (v : Word) : State :=
  let s := if v.bit 0 then s.clearRestarts else s
  if v.bit 1 then s.kick else s

/-- A write of WDG_HCT: clamped, in effect at once, the count restarted (R466). -/
def State.writeHct (s : State) (v : Word) : State :=
  let s := s.setReg wdgHctAt v
  { s with host := { s.host with since := s.now, zero := false } }

/-- WDG_HCT_WRITE. -/
def execWdgHctWrite (r : Req) (v : Word) (s : State) : Ans := .next (s.viaService r wdgHctAt fun s => s.writeHct v)

/-- A flow moved to the safe profile: FLOW source 3 (R212, R248, R467). -/
def State.toSafeProfile (s : State) (c : Ctx) : State :=
  let f := s.ctx[c]
  if f.st = .free ∨ f.safe = true then s
  else
    let s := s.setCtx c { f with safe := true }
    let s := match f.d.port.bind Port.bat? with
      | some p => if f.d.kind = 2 then s.setChg p { s.chg[p] with safe := true } else s
      | none => s
    s.occur bFLOW 3 c.val

/-- The types of the host's frames that are host contact (R523): ASSIGN, READ, WRITE, HELLO, STAT. -/
def contactType (t : Byte) : Bool := t == 0x03 || t == 0x10 || t == 0x11 || t == 0x30 || t == 0x40

/-- Whether a frame is host contact (R523, R524): HELLO needs no trailer. -/
def State.isContact (s : State) (f : Frame) : Bool :=
  s.ringUp && f.src == 0 && s.addressed f && s.positioned f && contactType f.typ && (f.typ == 0x30 || s.authOk f)

/-- A frame of the host as host contact, where WDG_HCT.src counts ring frames. -/
def State.contactBy (s : State) (f : Frame) : State := if s.ringCounts && s.isContact f then s.contact else s

/-- HOST_CONTACT. -/
def execHostContact (f : Frame) (s : State) : Ans := .next (s.contactBy f)

/-- Whether a host contact stands in the queue: the commands that wait fall into the same tick. -/
def State.contactWaits (s : State) : Bool :=
  s.pending.any fun c => match c with
    | .hostContact f => s.ringCounts && s.isContact f
    | .ringRead f => s.ringCounts && s.isContact f
    | .ringWrite f => s.ringCounts && s.isContact f
    | .ringStatRequest f => s.ringCounts && s.isContact f
    | .ringRetransmission f => s.ringCounts && s.isContact f
    | .assign f => s.ringCounts && s.isContact f
    | .hello f _ => s.ringCounts && s.isContact f
    | .wdgHckick _ => s.kickCounts && s.serviceRuns
    | _ => false

/-- HOST_CONTACT_EXPIRY: the count reaches zero (R467); a contact in the same tick prevents it (R469). -/
def execHostContactExpiry (s : State) : Ans :=
  if s.host.run = true ∧ s.host.zero = false ∧ s.host.since + s.hctUs ≤ s.now ∧
      ¬(s.host.since + s.hctUs = s.now ∧ s.contactWaits = true) then
    let t := { s with host := { s.host with exp := true, zero := true, nexp := sat 255 (s.host.nexp + 1) } }
    .next (forEach allCtx State.toSafeProfile (t.occur bWDG 5 0))
  else .next s

end Sys2Proof.Machine
end

