-- ==== Sys2Proof/Machine/Measure.lean ====
section
/-!
DEFINITION. What a wave measures: the sense channels, the figures of a group, and the currents, voltages, energies and charges
that follow from them (R119, R274, R344-R346, R353-R355, R364, R496). Energies are in 10⁻¹⁴ J: mV times 10 mA times ns.
-/

namespace Sys2Proof.Machine

/-! ### Sense and Condition (R345, R353, R355) -/

/-- Whether waves of a group run: D3 and D10 are on and the image gives the group a topology. -/
def State.wavesRun (s : State) (g : Group) : Bool := s.domOn 3 && s.domOn 10 && s.groups[g].cfg.topo != .none

/-- The channels that a wave samples, with their readings. -/
def portChannels (g : Group) (w : Wave) : List (Nat × Int) :=
  if g.val < 4 then [(88 + g.val, w.vTerm), (92 + g.val, w.vStage), (96 + g.val, w.iPort)]
  else [(96 + g.val, w.vTerm), (99 + g.val, w.vStage), (102 + g.val, w.iPort)]
def commonChannels (w : Wave) : List (Nat × Int) :=
  (109, w.vCulm) :: (allBranches.flatMap fun b => [(110 + b.val, w.branchI[b]), (118 + b.val, w.branchV[b])]) ++
    [(126, (w.ret[0] : Int)), (127, (w.ret[1] : Int))]
def State.waveChannels (s : State) (g : Group) (w : Wave) : List (Nat × Int) :=
  portChannels g w ++ ((w.cells.filter fun q => s.cells[q.1].inMask == some g).map fun q => (48 + q.1.val, q.2.1)) ++ commonChannels w

/-- The range of a channel in its unit of R10 (R285, R354); where R354 states none, that of its field. -/
def chanRange (n : Nat) : Int × Int :=
  if n < 48 then (-880, 3200)
  else if n < 88 then (-8388608, 8388607)
  else if n < 96 then (-650000, 650000)
  else if n < 100 then (-15000, 15000)
  else if n < 106 then (0, 80000)
  else if n < 109 then (-120000, 120000)
  else if n = 109 then (0, 65000)
  else (-8388608, 8388607)

/-- A value saturated into the range of its channel (R12, R355). -/
def inRange (n : Nat) (v : Int) : Int := max (chanRange n).1 (min (chanRange n).2 v)

/-- One conversion (R355): a good one is stored, saturated into the channel's range; a failed one is repeated in the next wave, and a repeat
that fails marks the channel Failed. Where SENSE source 0 may not be retried, the first failure does (assumption 105). A Failed channel is
not used. -/
def State.convert (failed : List Chan) (s : State) (q : Nat × Int) : State :=
  if h : q.1 < 128 then
    let n : Chan := ⟨q.1, h⟩
    let second := s.sense.again.contains q.1
    if s.sense.ch[n].2 = 2 then s
    else if failed.contains n then
      if second then ({ s with sense := { s.sense with again := s.sense.again.erase q.1 } }.retryOutcome bSENSE 0 q.1 false).failChannel q.1
      else if s.willRetry bSENSE 0 q.1 then
        { s with sense := { s.sense with again := q.1 :: s.sense.again } }.occur bSENSE 0 q.1
      else (s.occur bSENSE 0 q.1).failChannel q.1
    else
      let v := inRange q.1 q.2
      let t := { s with sense := { s.sense with
        again := s.sense.again.erase q.1
        ch := vset s.sense.ch n (v, if v = q.2 then 0 else 1) } }
      if second then t.retryOutcome bSENSE 0 q.1 true else t
  else s

/-- The reading of a channel in this wave: none where its conversion has failed (R344, R355). -/
def State.chan (s : State) (n : Chan) : Option Int :=
  if s.sense.ch[n].2 = 0 ∨ s.sense.ch[n].2 = 1 then (if s.sense.again.contains n.val then none else some s.sense.ch[n].1) else none

/-- The figures of a group after a wave (R364), and SENSE source 7 above the bounds of R346 without a stall (R365). -/
def WaveRec.after (x : WaveRec) (w : Wave) : WaveRec :=
  { itLast := sat 4095 w.tIter, itMax := max x.itMax (sat 4095 w.tIter), latLast := sat 4095 w.tLat,
    latMax := max x.latMax (sat 4095 w.tLat), waves := (x.waves + 1) % 2 ^ 32 }
def State.figures (s : State) (g : Group) (w : Wave) : State :=
  let stalled := s.sense.gstall[g] || s.flt[bSENSE].live.contains ⟨4, 0⟩
  let s := { s with sense := { s.sense with
    groups := vset s.sense.groups g (s.sense.groups[g].after w), gstall := vset s.sense.gstall g false } }
  let s := (s.endCause bSENSE 3 g.val).endCause bSENSE 4 0
  if stalled = false ∧ (2400 < w.tIter ∨ 2000 < w.tLat) then s.occur bSENSE 7 0 else s

/-- The time that one wave stands for where every wave samples alike: the iteration time shared among the groups that take
waves. -/
def State.shareNs (s : State) (w : Wave) : Nat := w.tIter / max 1 (allGroups.filter fun g => s.groups[g].cfg.topo != .none).length

/-! ### Estimate: the culm and the load path (R119, R122, R123, R146) -/

/-- A branch measured: current, output voltage, the overload integral up to this moment and the energy delivered. A reading that is missing
leaves what it gives as it stood, and counts nothing (assumption 104). -/
def BranchRec.measured (x : BranchRec) (i v : Option Int) (ns now integral : Nat) : BranchRec :=
  let cur := i.getD x.cur
  let vout := (v.map fun n => sat 65535 n.toNat).getD x.vout
  { x with
    cur := cur, vout := vout
    s := integral, sAt := now
    energy := if cur < 0 ∧ i.isSome = true ∧ v.isSome = true then x.energy + cur.natAbs * vout * ns else x.energy
    lastCur := if x.st = .closed then cur.natAbs else x.lastCur }

/-- The branch current channel and the branch voltage channel. -/
def chanI (b : Branch) : Chan := ⟨110 + b.val, by omega⟩
def chanV (b : Branch) : Chan := ⟨118 + b.val, by omega⟩

/-- The sum of the branch currents of a load port, 10 mA. -/
def State.portSum (s : State) (q : Side) : Int :=
  (allBranches.filter fun b => b.side == q).foldl (fun n b => n + s.branches[b].cur) 0

/-- Whether a voltage lies within 2 % of the setpoint. -/
def State.nearSet (s : State) (v : Nat) : Bool := decide (50 * v ≤ 51 * s.culm.vset) && decide (49 * s.culm.vset ≤ 50 * v)

/-- Since when a condition has held. -/
def sinceWhen (now : Nat) (old : Option Nat) (holds : Bool) : Option Nat := if holds then some (old.getD now) else none

/-- The culm's and the load path's readings of a wave: branches, load ports, the current of the stubble supply, which carries the load
while it runs (R142), and how long the culm has been near its setpoint. -/
def State.measureCulm (s : State) (ns : Nat) : State :=
  let v := ((s.chan 109).map fun n => sat 65535 n.toNat).getD s.culm.vmeas
  let s := { s with branches := Vector.ofFn fun b : Branch => s.branches[b].measured (s.chan (chanI b)) (s.chan (chanV b)) ns s.now (s.branchS b) }
  let total := s.portSum 0 + s.portSum 1
  { s with
    loads := Vector.ofFn fun q : Side => { s.loads[q] with cur := s.portSum q, ret := ((s.chan ⟨126 + q.val, by omega⟩).map Int.natAbs).getD s.loads[q].ret }
    culm := { s.culm with
      vmeas := v, ild := -total
      supCur := if s.culm.supOn then sat 65535 (-total).toNat else 0
      within2 := sinceWhen s.now s.culm.within2 (s.nearSet v)
      near := sinceWhen s.now s.culm.near (decide (v ≤ s.culm.vset + 500) && decide (s.culm.vset ≤ v + 500)) } }

/-- Energy at a port over a time (R496): into the module where the current is positive. -/
def addEnergy (e : Nat × Nat) (mv : Nat) (i : Int) (ns : Nat) : Nat × Nat :=
  if 0 ≤ i then (e.1 + mv * i.natAbs * ns, e.2) else (e.1, e.2 + mv * i.natAbs * ns)
def State.portEnergy (s : State) (p : Port) (mv : Nat) (i : Int) (ns : Nat) : State :=
  { s with energy := vset s.energy p (addEnergy s.energy[p] mv i ns) }

/-- The energies of the load ports, and Thresher's mean of the load (R313, R321, R496). -/
def State.countLoad (s : State) (ns : Nat) : State :=
  let s := (s.portEnergy 7 s.culm.vmeas s.loads[(0 : Side)].cur ns).portEnergy 8 s.culm.vmeas s.loads[(1 : Side)].cur ns
  { s with thr := { s.thr with eLoad := s.thr.eLoad + s.culm.ild * ns, nsLoad := s.thr.nsLoad + ns } }

/-- The culm at 62.0 V is CULM source 0 (R117); a return stud above 300 A is LOAD source 5 (R122). -/
def State.judgeCulm (s : State) : State :=
  let s := if 62000 ≤ s.culm.vmeas then s.occur bCULM 0 0 true else s.endCause bCULM 0 0
  forEach [(0 : Side), 1] (fun s q => if 30000 < s.loads[q].ret then s.occur bLOAD 5 q.val true else s.endCause bLOAD 5 q.val) s

/-! ### Estimate: ports, cells and flows (R160, R184, R218, R256, R392) -/

/-- The port channels of a group. -/
def termChan (g : Group) : Chan := if g.val < 4 then ⟨88 + g.val, by omega⟩ else ⟨96 + g.val, by omega⟩
def stageChan (g : Group) : Chan := if g.val < 4 then ⟨92 + g.val, by omega⟩ else ⟨99 + g.val, by omega⟩
def curChan (g : Group) : Chan := if g.val < 4 then ⟨96 + g.val, by omega⟩ else ⟨102 + g.val, by omega⟩

/-- The best point of a sweep so far (R168). -/
def Mppt.seen (m : Mppt) (p : Int) : Mppt :=
  { m with sweep := m.sweep.map fun (w : Sweep) =>
    if w.bestP < p then { w with best := m.vref, bestP := p, seen := true } else { w with seen := true } }

/-- A source port's or feeder's readings (R12, R184): a negative voltage reads 0 on DC; the power of an AC port is that of its rms figures
times the power factor; the arc metric of a port with detection is a free value (assumption 79). -/
def State.measureSrc (s : State) (p : SPort) (w : Wave) : State :=
  let x := s.src[p]
  let ch := s.chan (termChan p.group)
  let whole := ch.isSome && (s.chan (curChan p.group)).isSome
  let was := if x.role = .feeder then s.fdr[p].vout else x.v
  let mv := (ch.map fun n => if x.role = .ac then n.natAbs else n.toNat).getD (100 * was)
  let v := (ch.map fun _ => sat 65535 (mv / 100)).getD was
  let amps := (s.chan (curChan p.group)).getD (if x.role = .feeder then s.fdr[p].cur else x.cur)
  let i := satInt 16 amps
  let va := amps * mv / 100000
  let pwr := if whole then satInt 16 (if x.role = .ac then va * min 100 w.pf / 100 else va) else x.pwr
  let x := { x with metric := if x.arcen then s.freeAt 162 % 256 else 0 }
  match x.role with
  | .unused => s
  | .feeder => s.setFdr p { s.fdr[p] with vout := v, cur := i }
  | .dc => s.setSrc p { x with v := v, cur := i, pwr := pwr, mppt := if whole then x.mppt.seen pwr else x.mppt }
  | .ac => s.setSrc p { x with v := v, cur := i, pwr := pwr, freq := sat 8191 w.freq, pf := sat 255 w.pf, thd := sat 255 w.thd }

/-- A battery port's readings; the temperature in use follows, the NTC's only while ntcen is 1 (R227, R536), and since when
the current has been below 1 A (R275). -/
def State.measureBat (s : State) (p : BPort) (w : Wave) : State :=
  let x := s.bat[p]
  let s := s.setEst p { s.est[p] with quietAt := sinceWhen s.now s.est[p].quietAt ((s.chan (curChan p.group)).any fun i => decide (i.natAbs < 100)) }
  let s := s.setBat p { x with
    vterm := (s.chan (termChan p.group)).getD x.vterm, vstage := (s.chan (stageChan p.group)).getD x.vstage
    cur := (s.chan (curChan p.group)).getD x.cur
    tntc := if s.ntcValid p then satInt 16 w.ntcT else x.tntc }
  match s.batTemp p with
  | some (_, hi) => s.setChg p { s.chg[p] with tbat := satInt 16 hi }
  | none => s

/-- A wave's readings of the group's port. -/
def State.measurePort (s : State) (g : Group) (w : Wave) : State :=
  match g.port.src?, g.port.bat? with
  | some p, _ => s.measureSrc p w
  | _, some p => s.measureBat p w
  | _, _ => s

/-- The cells of a group after a wave: port-side current, and the estimated loss. -/
def State.measureCell (g : Group) (s : State) (q : Cell × Int × Nat) : State :=
  let x := s.cells[q.1]
  if x.inMask = some g then s.setCell q.1 { x with cur := ((s.chan ⟨48 + q.1.val, by omega⟩).map (satInt 16)).getD x.cur, loss := q.2.2 } else s

/-- The flows on a group's port, and whether a flow carries current: Live, Closing, or ramping down in Suspended. -/
def State.flowsOn (s : State) (p : Port) : List Ctx := s.usedCtx.filter fun c => s.ctx[c].d.port == some p
def FlowCtx.carries (f : FlowCtx) : Bool := f.st == .live || f.st == .closing || (f.st == .suspended && f.cmd != 0)

/-- A flow's share of the measured port current (R209, R218): a Charge flow has what leaves the module, a Discharge flow what
enters it, a Lend flow the part of its grant in the feeder's. -/
def State.flowShare (s : State) (f : FlowCtx) (i : Int) : Int :=
  if f.carries = false then 0
  else match f.d.kind with
    | 1 => i
    | 2 => min i 0
    | 3 => max i 0
    | 4 => i
    | 5 =>
      let total := (allCtx.find? fun c => s.ctx[c].st == .live && s.ctx[c].d.kind == 4 && s.ctx[c].d.port == f.d.port).map fun c => s.ctx[c].grant
      match total with
      | some n => if n = 0 then 0 else i * min f.grant n / n
      | none => 0
    | 6 => i
    | _ => 0

/-- A flow measured over an iteration: its current, the energy moved, and the means that Thresher takes of its current and of what flows
into the culm. -/
def State.measureFlow (mv : Nat) (i : Int) (ns : Nat) (s : State) (c : Ctx) : State :=
  let f := s.ctx[c]
  let cur := satInt 16 (s.flowShare f i)
  let e := mv * cur.natAbs * ns
  let s := s.setCtx c { f with cur := cur, energy := f.energy + e, curSum := f.curSum + cur.natAbs * ns, curNs := f.curNs + ns }
  if f.d.inward then { s with thr := { s.thr with eIn := s.thr.eIn + e * f.d.eff / 100 } } else s

/-- The port's energy, the flows, and for a battery port the charge counted (R274, R496). -/
def State.countPort (s : State) (g : Group) (ns : Nat) : State :=
  match s.chan (curChan g) with
  | none => s
  | some i =>
  let mv := s.groupVolts g
  let s := s.portEnergy g.port mv i ns
  let s := forEach (s.flowsOn g.port) (State.measureFlow mv i ns) s
  match g.port.bat? with
  | some p =>
    let s := s.countCharge p i ns
    if i < 0 ∧ s.chg[p].phase ≠ 15 then s.setChg p { s.chg[p] with ah := s.chg[p].ah + i.natAbs * ns } else s
  | none => s

/-- Sense, Condition and Estimate of a wave. -/
def State.estimate (s : State) (g : Group) (w : Wave) : State :=
  let ns := s.shareNs w
  let s := (s.waveChannels g w).foldl (State.convert w.failed) (s.figures g w)
  let s := ((s.measureCulm ns).countLoad ns).judgeCulm
  let s := w.cells.foldl (State.measureCell g) (s.measurePort g w)
  (s.countPort g w.tIter).settle

end Sys2Proof.Machine
end

