-- ==== Sys2Proof/Machine/Pipeline.lean ====
section
/-!
DEFINITION. The Arbitrate, Regulate, Modulate and Drive stages of a wave, the stall monitors, and the core supply (R80-R85, R92,
R95, R111-R117, R160-R167, R194, R234-R242, R260-R266, R344-R352, R372-R375). Powers of the division are in nW at the culm,
commanded currents in uA at the port, ramps in uA per ns, which is A per ms.
-/

namespace Sys2Proof.Machine

/-! ### The culm's mode and the branches that follow it (R114-R116, R120, R123) -/

/-- Whether a condition has held for a time. -/
def State.heldFor (s : State) (t : Option Nat) (us : Nat) : Bool := t.any fun a => decide (a + us ≤ s.now)

/-- The precharge of the culm begins: the setpoint ramps from the present voltage at 10 V/ms (R114). -/
def State.prechargeCulm (s : State) : State :=
  { s with culm := { s.culm with
      mode := .precharge, vset := s.culm.vmeas, slewFrom := s.culm.vmeas, slewAt := s.now, edge := none, slew := 10000, within2 := none, near := none } }

/-- CULM_STAT.mode after a wave's readings; the cause of CULM source 1 ends with the under-voltage. -/
def State.followCulm (s : State) : State :=
  let s := if s.flt[bCULM].live.contains ⟨1, 0⟩ = true ∧ (s.culm.uv ≤ s.culm.vmeas ∨ s.culm.mode ≠ .underVoltage) then
      (s.endCause bCULM 1 0).releaseLines bCULM else s
  let s := { s with culm := { s.culm with
    vset := s.rampNow, shedLevels := if s.culm.msv ≤ s.culm.vmeas then 0 else s.culm.shedLevels } }
  match s.culm.mode with
  | .stubble => s
  | .off => if s.inRun && s.canSupply && s.safeLine.isEmpty then s.prechargeCulm else s
  | .precharge => if s.canSupply then s else s.culmOff
  | .regulating => if s.canSupply then s else s.culmOff
  | .shortfall =>
    if s.canSupply = false then s.culmOff
    else if s.heldFor s.culm.within2 10000 then { s with culm := { s.culm with mode := .regulating } } else s
  | .underVoltage =>
    if s.canSupply = false then s.culmOff
    else if s.heldFor s.culm.within2 10000 then { s with culm := { s.culm with mode := .regulating } } else s

/-- The spare culm capacity of R123, 10 mA at the culm. -/
def State.spare (s : State) : Nat :=
  let live (c : Ctx) : Bool := s.ctx[c].st == .live
  let term (c : Ctx) : Nat :=
    let f := s.ctx[c]
    match f.d.kind, f.d.port.bind Port.src?, f.d.port.bind Port.group? with
    | 1, some p, _ => f.d.culmW (min (wattsOf f.grant (s.flowMv f.d)) (s.avail p f))
    | 6, some p, _ => f.d.culmW (min (wattsOf f.grant (s.flowMv f.d)) (s.avail p f))
    | 3, _, some g => f.d.culmW (wattsOf (min f.grant (s.capacity g)) (s.flowMv f.d))
    | _, _, _ => 0
  let feed (c : Ctx) : Nat :=
    let f := s.ctx[c]
    if f.d.kind = 4 then f.d.culmW (wattsOf f.cur.natAbs (s.flowMv f.d)) else 0
  let w := (allCtx.filter live).foldl (fun n c => n + term c) 0
  let out := (allCtx.filter live).foldl (fun n c => n + feed c) 0
  ((curOf w s.culm.vset : Int) - s.culm.ild - curOf out s.culm.vset).toNat

/-- A branch after a wave: with en 1 it closes while the culm is Regulating, one opened by a halt line once the culm has held
within 2 % for 100 ms, and one that waits for the restore order has the spare capacity watched (R114, R120, R123). -/
def State.followBranch (spare : Nat) (s : State) (b : Branch) : State :=
  let s := s.closeBranch b
  let x := s.branches[b]
  if x.byHalt && x.st == .opened && s.branchEn b && s.culm.mode == .regulating && s.portFree b.side.loadPort &&
      s.heldFor s.culm.within2 100000 then s.tryPrecharge b
  else s.setBranch b { x with spareSince := if s.waits b then sinceWhen s.now x.spareSince (decide (110 * x.lastCur < 100 * spare)) else none }
def State.followBranches (s : State) : State := forEach allBranches (State.followBranch s.spare) s

/-! ### The charge engine's targets (R234, R237-R242, R247, R248, R270) -/

/-- The temperature compensation of a lead string, mV (R237, R239): 35 degC where the temperature is invalid. -/
def State.tempComp (s : State) (p : BPort) (w : Profile) : Int :=
  let t := max (-320) (min 800 (((s.batTemp p).map (·.2)).getD 560))
  if isLead w.chem then w.ncell * w.temp.tcomp * (t - 400) / 1600 else 0

/-- The string voltage of the present phase, the lower of the two where the safe profile governs (R248). -/
def State.phaseVolts (s : State) (p : BPort) (w : Profile) (e : PhaseEntry) : Nat :=
  match s.safeProfile p, s.safePhase p, s.ownPhase p with
  | some q, some k, some _ => min (w.volts e) (q.volts k)
  | some q, some k, none => q.volts k
  | _, _, _ => w.volts e

/-- The wiring resistance in use, 10⁻¹⁵ ohm (R239, R270): it follows the estimator's at a rate that moves the target by no more than
0.1 % per second. -/
def followWire (old : Option Nat) (new cur vt ns : Nat) : Nat :=
  match old with
  | none => new
  | some r =>
    if cur = 0 then new
    else
      let d := 100 * vt * ns / cur
      if r ≤ new then min new (r + d) else max new (r - d)

/-- Whether the terminal of a charging port is near or above its target, where the voltage loop takes over (R234). -/
def State.atCeiling (s : State) (p : BPort) : Bool := decide ((199 * s.chg[p].vtgt : Int) ≤ 200 * s.bat[p].vterm)

/-- CHG_PVT, CHG_PIT and the timers of a port in a phase that has an entry; the safety timer runs at half speed while a grant, or the
sources under R112, hold the current below half of the phase's ilim (R247). -/
def State.chargePhase (s : State) (p : BPort) (c : Ctx) (w : Profile) (e : PhaseEntry) (ns : Nat) : State :=
  let f := s.ctx[c]
  let base := ((s.phaseVolts p w e : Int) + s.tempComp p w).toNat
  let cur := s.chargeCur p
  let cv := e.code == 3 || e.code == 6 || e.code == 7
  let (r, ok) := s.rwire p
  let wire := cv && ok && s.estConv && (s.reg (chgPcfgAt p)).bit 0
  let used := followWire s.chg[p].rused (10000000000 * r) cur base ns
  let raise := if wire then min (base / 100) (cur * used / 100000000000000) else 0
  let vt := match s.lithium p with
    | some l => if s.bmsLive l then min (base + raise) (10 * s.bms[l.bms].act.cvl - w.ncell * l.vmargin) else base + raise
    | none => base + raise
  let above := s.chg[p].bmsOver && (s.lithium p).any fun l => decide ((10 * s.bms[l.bms].act.cvl : Int) ≤ s.bat[p].vterm)
  let s := s.setChg p { s.chg[p].acct s.now with vtgt := sat 131071 vt, rcomp := raise, rused := if wire then some used else none, bmsOver := above }
  let ilim := (s.phaseIlim f.d).getD 0
  let live := f.st == .live
  let still := !live || s.chgHeld p || f.grant == 0
  let g := State.grantNow f
  let byGrant := decide (2 * g < ilim) && decide (10000 * g ≤ f.cmd + 10000)
  let bySource := decide (2 * f.cmd < 10000 * ilim) && !s.atCeiling p
  let slow := decide (2 * cur < ilim) && decide (ilim ≤ 2 * s.chgDemand f) && (byGrant || bySource)
  s.setChg p { s.chg[p] with
    itgt := if live then s.chgMean f else 0
    iprog := ilim
    counts := !still && (decide (ilim ≤ 10 * cur) || s.inReg p)
    rate := if still then 0 else if slow then 1 else 2 }

/-- The charge engine of a port at a wave. -/
def State.chargeStep (s : State) (p : BPort) (ns : Nat) : State :=
  match s.chgFlow p, s.chg[p].wc, s.phaseNow p with
  | some c, some w, some e => s.chargePhase p c w e ns
  | _, _, _ => s.setChg p { s.chg[p].acct s.now with vtgt := 0, rcomp := 0, rused := none, itgt := 0, counts := false, rate := 0 }

/-- The Active cells of a group. -/
def State.actives (s : State) (g : Group) : List Cell := (s.members g).filter fun c => s.cells[c].st == .active

/-- Whether an add, a shed or a migration is under way in a group (R266). -/
def State.groupMoves (s : State) (g : Group) : Bool :=
  (s.members g).any (fun c => s.cells[c].st == .starting || s.cells[c].st == .shedding || s.cells[c].st == .migrating) ||
    s.fab.migs.any fun m => m.gives g || m.dest == g

/-- Eight switching periods of a group, microseconds: after a change the angles move to their new spacing within them (R84). -/
def State.angleTime (s : State) (g : Group) : Nat := 8000 / max 1 s.groups[g].freq + 1

/-- Whether the mean charge current has moved by more than 10 % from its value at the point's start. -/
def State.curMoved (s : State) (p : BPort) : Bool :=
  decide (s.est[p].startI < 10 * ((s.chargeCur p : Int) - s.est[p].startI).natAbs)

/-- A sweep at a wave (R263, R266): it pauses where the port may not be perturbed; a point is discarded when the current moves or the group
changes, and begins again once the current has held for 1 s, or the change is complete; one that its phase no longer allows is left. -/
def State.sweepStep (s : State) (p : BPort) (changed : Bool) : State :=
  let x := s.est[p]
  if s.mayPerturb p = false then s.pauseSweep p
  else match x.waitAt, x.todo with
    | some t, _ =>
      if s.curMoved p then s.setEst p { x with startI := s.chargeCur p, waitAt := some s.now, waitUs := 1000000 }
      else if changed then s.setEst p { x with waitAt := some s.now }
      else if t + x.waitUs ≤ s.now then s.repeatPoint p x.again x.half
      else s
    | none, k :: _ =>
      if s.pointAllowed p k = false then s.skipPoint p
      else if s.curMoved p then s.discardPoint p 1000000
      else if changed then s.discardPoint p (s.angleTime p.group)
      else s
    | none, [] => s

/-- The estimator of a port at a wave (R260, R266, R269): how long the current has allowed a perturbation, then its sweep, or its knee
measurement, which a moved current, a changed group or a port that may not be perturbed discards. -/
def State.estStep (s : State) (p : BPort) : State :=
  let ilim := ((s.phaseNow p).map fun e => 10 * e.ilim).getD 0
  let cur := s.chargeCur p
  let n := (s.actives p.group).length
  let changed := s.est[p].cells != n || s.groupMoves p.group
  let s := s.setEst p { s.est[p] with cells := n, okSince := sinceWhen s.now s.est[p].okSince (decide (500 ≤ cur) && decide (ilim ≤ 10 * cur)) }
  let s := s.beginBaseline p
  match s.est[p].st with
  | .sweeping => s.sweepStep p changed
  | .knee =>
    if s.mayPerturb p = false ∨ s.curMoved p = true ∨ changed = true then s.discardKnee p
    else if s.chg[p].cand = none ∧ s.est[p].kneeAt + 19100000 < s.now then s.endKnee p
    else s
  | _ => s

/-! ### The division of the culm current demand (R112, R160-R163, R167) -/

/-- The frequency foldback limit in force, nW (R161): a fall acts at once, a rise at the rate of SRC_PFLD.ramp, in 100 W/s. -/
def State.followFold (s : State) (p : SPort) (ns : Nat) : State :=
  match s.fFold p with
  | some w =>
    let t := 1000000000 * w
    let rate := (s.reg (srcPfldAt p)).bits 23 16
    let x := s.src[p]
    s.setSrc p { x with foldW := if x.st != .supplying || rate == 0 then t else min t (x.foldW + 100 * rate * ns) }
  | none => s

/-- A ramp towards zero at the flow's ramp rate (R165, R205). -/
def FlowCtx.falling (f : FlowCtx) (ns : Nat) : Nat := f.cmd - f.d.ramp * ns

/-- Whether a Live flow is asked to ramp to zero: an ordered stop, a withdrawn grant, or a held charge (R165, R206, R237). -/
def State.mustStop (s : State) (f : FlowCtx) : Bool :=
  f.grant == 0 || match f.d.kind, f.d.port.bind Port.src?, f.d.port.bind Port.bat? with
    | 1, some p, _ => s.src[p].stopping
    | 6, some p, _ => s.src[p].stopping
    | 2, _, some p => s.chgHeld p
    | _, _, _ => false

/-- Whether Regulate draws through the group of a flow: it has a switching cell, and R80 does not hold it (R80, R82). -/
def State.draws (s : State) (d : FlowDef) : Bool :=
  (d.port.bind Port.group?).any fun g => !(s.switching g).isEmpty && !s.groups[g].range

/-- The lowest limit of R160 on a source flow other than curtailment: its code, and the power in nW at the port. A draw that ramps down
stays within the other limits too, and a group in which no cell switches carries none, code 4. -/
def State.srcMost (s : State) (pAvail ns : Nat) (c : Ctx) : Nat × Nat :=
  let f := s.ctx[c]
  match f.d.port.bind Port.src? with
  | none => (0, 0)
  | some p =>
    let mv := 100 * s.src[p].v
    let mpp := if s.src[p].isPv then [(9, 1000000000 * pAvail)] else []
    if s.src[p].st ≠ .supplying then (0, 0)
    else if s.draws f.d = false then (4, 0)
    else if f.st ≠ .live ∨ s.mustStop f = true then
      (lowest ((if f.grant = 0 then [] else [(1, 10000 * State.grantNow f * mv)]) ++
        (s.srcLimits p f ns).filter (fun q => q.1 != 8) ++ (8, f.falling ns * mv) :: mpp)).getD (0, 0)
    else (lowest ((1, 10000 * State.grantNow f * mv) :: s.srcLimits p f ns ++ mpp)).getD (0, 0)

/-- What a battery flow may carry, 10 mA: a Charge flow under R234; a Discharge flow unless its cut-off, a profile without discharge
or the BMS holds it (R194, R241, R242). -/
def State.batMost (s : State) (c : Ctx) : Nat :=
  let f := s.ctx[c]
  match f.d.port.bind Port.bat? with
  | none => 0
  | some p =>
    let cap := s.capacity p.group
    if f.st ≠ .live ∨ s.draws f.d = false ∨ s.mustStop f = true then 0
    else if f.d.kind = 2 then min cap (s.chgMean f)
    else if s.mayDischarge f = false then 0
    else capTo (min cap (State.grantNow f)) (s.disLimit p)

/-- Source flows in the order of R162: class 0, class 1, classes 2 and 3; then SRC_PCFG.prio, then the port number. -/
def State.rankSources (s : State) (l : List Ctx) : List Ctx :=
  let key (c : Ctx) : List Int :=
    match s.ctx[c].d.port.bind Port.src? with
    | some p => [min 2 (s.src[p].cls : Int), -(s.srcPrio p : Int), p.val, c.val]
    | none => [3, 0, 0, c.val]
  sortBy (fun a b => lexBefore (key a) (key b)) l

/-- The contexts that carry current on flows of some kinds. -/
def State.carrying (s : State) (kinds : List Nat) : List Ctx := allCtx.filter fun c => kinds.contains s.ctx[c].d.kind && s.ctx[c].carries

/-- The voltage loop of a charging port: near or above its target it takes a free part of the current that it may (R234). -/
def State.chgTake (s : State) (i : Nat) (c : Ctx) : Nat :=
  let most := s.batMost c
  match s.ctx[c].d.port.bind Port.bat? with
  | some p => if s.atCeiling p then s.freeAt i % (most + 1) else most
  | none => 0

/-- The culm current demand of the voltage loop, 10 mA (R111, R114): a free value, at most 625 A, 50 A while the culm is precharged,
and none while the culm is Off or the stubble supply carries it. -/
def State.culmDemand (s : State) : Nat :=
  match s.culm.mode with
  | .off => 0
  | .stubble => 0
  | .precharge => s.freeAt 0 % 5001
  | _ => s.freeAt 0 % 62501

/-- What a battery flow that ramps to zero still carries, in nW at the culm (R205). -/
def State.fallingW (s : State) (ns : Nat) (c : Ctx) : Nat :=
  let f := s.ctx[c]
  let w := f.falling ns * s.flowMv f.d
  if f.st = .live ∧ s.mustStop f = false ∨ s.draws f.d = false then 0
  else if f.d.kind = 2 then w * 100 / 99 else w * 99 / 100

/-- The division of R112: what every source flow, Charge flow and Discharge flow carries, in nW at the culm. In the culm's precharge
the first flow that can supply it does so alone (R114). A battery flow that ramps to zero carries what it still does, and the others take
the difference as it falls (R205). -/
def State.division (s : State) (g : Group) (pAvail : Nat) : List (Ctx × Nat) :=
  let ns (c : Ctx) : Nat := ((s.ctx[c].d.port.bind Port.group?).map fun k => s.sense.groups[k].itLast).getD 0
  let pv (c : Ctx) : Nat := match s.ctx[c].d.port.bind Port.src? with
    | some p => if p.group = g then pAvail else s.src[p].mppt.avail
    | none => 0
  let fall (k : Nat) : Nat := (s.carrying [k]).foldl (fun n c => n + s.fallingW (ns c) c) 0
  let demand := 10000 * s.culmDemand * s.culm.vset + fall 2 - fall 3
  let pre := s.culm.mode == .precharge
  let first (l : List (Ctx × Nat)) : List (Ctx × Nat) := if pre then (l.filter fun q => 0 < q.2).take 1 else l
  let src := first ((s.rankSources (s.carrying [1, 6])).map fun c => (c, (s.srcMost (pv c) (ns c) c).2 * 98 / 100))
  let most := total src
  let chg := giveOut (most - demand) ((s.byPrio (s.carrying [2])).map fun c => (c, s.chgTake (c.val + 1) c * s.flowMv s.ctx[c].d * 1000000 / 99))
  let dis := if pre && !src.isEmpty then []
    else giveOut (demand - most) (first ((s.byPrio (s.carrying [3])).map fun c => (c, s.batMost c * s.flowMv s.ctx[c].d * 9900)))
  giveOut (demand + total chg) src ++ chg ++ dis

/-- The culm-side power of a flow as a current at its port, uA. -/
def portCur (d : FlowDef) (nw mv : Nat) : Nat :=
  if mv = 0 then 0 else if d.inward then nw * 100 / d.eff / mv else nw * d.eff / 100 / mv

/-- The reference of a curtailed class 0 source rises above its present point, a free value, in mV, within the
tracker's window and up to the open-circuit voltage, and its sweep is aborted; a held reference returns when the curtailment ends
(R166, R167). What is available to it stands as last found while it is curtailed (R326). -/
def State.curtail (s : State) (p : SPort) (c : Ctx) (lim : Nat) : State :=
  let x := s.src[p]
  let x' := { x with lim := lim }
  if x.cls ≠ 0 ∨ x.role ≠ .dc then s.setSrc p x'
  else if lim = 10 then
    let y := x'.abortSweep
    s.setSrc p { y with mppt := { y.mppt with vref := y.mppt.vref + s.freeAt 161 % (100 * min y.voc ((s.reg (srcQvAt p)).bits 31 16) - y.mppt.vref + 1) } }
  else if x.lim = 10 ∧ s.ctx[c].d.policy = 0 then s.setSrc p { x' with mppt := { x'.mppt with vref := x'.mppt.heldRef } }
  else s.setSrc p x'

/-- The power available at a source port, kept at a wave whose limit in force is not the curtailment. -/
def State.noteAvail (s : State) (p : SPort) (lim pAvail : Nat) : State :=
  if lim = 10 then s else s.setSrc p { s.src[p] with mppt := { s.src[p].mppt with avail := pAvail } }

/-- The command of one flow of the wave's group (R112, R160, R165, R205). -/
def State.commandFlow (share : List (Ctx × Nat)) (pAvail ns : Nat) (s : State) (c : Ctx) : State :=
  let f := s.ctx[c]
  let stop := f.st != .live || s.mustStop f
  let source := f.d.kind == 1 || f.d.kind == 6
  let cmd := if s.draws f.d = false then 0
    else if f.d.kind = 4 ∨ f.d.kind = 5 then (if f.st = .live then 10000 * f.cur.natAbs else f.falling ns)
    else if stop && !source then f.falling ns
    else portCur f.d (given share c) (s.flowMv f.d)
  let t := if f.carries then s.setCtx c { f with cmd := cmd } else s
  match source, f.d.port.bind Port.src? with
  | true, some p =>
    if s.src[p].st = .supplying ∧ f.carries = true then
      let (code, nw) := s.srcMost pAvail ns c
      let lim := if given share c < nw * 98 / 100 then 10 else code
      (t.noteAvail p lim pAvail).curtail p c lim
    else t
  | _, _ => t

/-- FLOW source 5: a flow that has carried more than 110 % of its grant, or 2 A more than it, for 1 ms (R219). A flow that ramps to zero
is judged by the ramp that Regulate commands, which a stop lays down in place of the grant, until it ends below 0.5 A (R165, R205;
assumption 28). -/
def State.judgeFlow (s : State) (c : Ctx) : State :=
  let f := s.ctx[c]
  let i := f.cur.natAbs
  let ramps := f.st != .live || s.mustStop f
  let bound := if ramps then max f.grant (f.cmd / 10000) else f.grant
  let above := f.carries && (!ramps || decide (50 ≤ i)) && (decide (11 * bound < 10 * i) || decide (bound + 200 < i))
  let t := s.setCtx c { f with overAt := sinceWhen s.now f.overAt above }
  if above then (if t.ctx[c].overAt.any (fun a => decide (a + 1000 ≤ s.now)) then t.occur bFLOW 5 c.val true else t)
  else t.endCause bFLOW 5 c.val

/-- The cut-off of the Discharge flows of a battery port, and likewise the discharge voltage limit of its BMS (R194, R535); on a nickel or lithium port it is an event of R275. -/
def State.cutOff (s : State) (c : Ctx) : State :=
  let f := s.ctx[c]
  match f.d.port.bind Port.bat? with
  | some p =>
    if f.d.kind = 3 then
      let v := s.bat[p].vterm
      let t := s.setCtx c { f with cut := if v < 100 * f.d.param then true else if 100 * f.d.param + 1000 ≤ v then false else f.cut }
      let t := t.setChg p { t.chg[p] with dvHold := match s.lithium p with
        | some l => if v ≤ 10 * s.bms[l.bms].act.dvl then true else if 10 * s.bms[l.bms].act.dvl + 1000 ≤ v then false else t.chg[p].dvHold
        | none => false }
      if f.cut = false ∧ v < 100 * f.d.param ∧ s.chg[p].wc.any (fun w => !isLead w.chem) = true then t.markDue p 3 else t
    else s
  | none => s

/-- The feeder of a group at a wave (R371-R373, R375): its reference ramps, while no limit holds its current, or
slews; its limit is the lowest of R372, the part that
yields or stops ramps, and within 1 % of the target a Ramping feeder is Running. -/
def State.feederStep (s : State) (p : SPort) (ns : Nat) : State :=
  match s.fdrFlow p with
  | none => s
  | some c =>
    let f := s.ctx[c]
    let x := s.fdr[p]
    let vf := 1000 * s.fdrTarget p
    let toward (rate : Nat) : Nat := if x.vref ≤ vf then min vf (x.vref + rate * ns) else max vf (x.vref - rate * ns)
    let step := f.d.ramp * ns
    let cap := if x.yield || x.st == .stopping then x.cap - step else min 32000000 (x.cap + step)
    let limits := (1, f.grant) :: (if f.d.ilim = 0 then [] else [(2, s.eased f f.d.ilim)]) ++
      [(3, 3200), (4, s.capacity p.group), (5, 100 * s.gov[p.port].ilim), (6, cap / 10000)]
    let (code, ilim) := (lowest limits).getD (0, 0)
    if x.st = .ramping ∨ x.st = .running ∨ x.st = .limiting ∨ x.st = .stopping then
      let vref := if x.st = .ramping then (if f.grant = 0 ∨ ilim ≤ x.cur.natAbs then x.vref else toward (s.fdrRamp p))
        else if x.st = .stopping then x.vref else toward (s.fdrSlew p)
      let near := decide (1000 * x.vout ≤ 101 * s.fdrTarget p / 10) && decide (99 * s.fdrTarget p / 10 ≤ 1000 * x.vout)
      s.setFdr p { x with
        vref := vref, cap := cap, ilim := ilim, lim := if ilim ≤ x.cur.natAbs then code else 0
        st := if x.st = .ramping ∧ near = true then .running else x.st
        since := if x.st = .ramping ∧ near = true then s.now else x.since }
    else s

/-- The targets of a group's port: the own limits of its flows as they ramp; those of charging and estimation at a battery port; of
foldback, feeding and a sweep at another. -/
def State.portTargets (s : State) (g : Group) (ns : Nat) : State :=
  let s := forEach (s.flowsOn g.port) (fun s c => s.setCtx c (s.rampLim s.ctx[c] ns)) s
  match g.port.bat? with
  | some p => forEach (s.flowsOn g.port) State.cutOff ((s.chargeStep p ns).estStep p)
  | none => match g.port.src? with
    | some p => ((s.followFold p ns).feederStep p ns).followSweep p
    | none => s

/-- Regulate for a group: its targets, then the commands of its flows. -/
def State.regulate (s : State) (g : Group) (pAvail : Nat) : State :=
  let ns := s.sense.groups[g].itLast
  let s := s.portTargets g ns
  let share := s.division g pAvail
  forEach (s.flowsOn g.port) State.judgeFlow ((forEach (s.flowsOn g.port) (State.commandFlow share pAvail ns) s).drewMany 163)

/-! ### Modulate (R80, R81, R83) -/

/-- The topology range of a BCK or BST group (R80). -/
def State.rangeRule (s : State) (g : Group) : State :=
  let x := s.groups[g]
  let v := s.groupVolts g
  let c := s.culm.vmeas
  let (bad, good) := match x.cfg.topo with
    | .bck => (decide (c < v + 2000), decide (v + 3000 ≤ c))
    | .bst => (decide (v < c + 2000), decide (c + 3000 ≤ v))
    | _ => (false, true)
  if x.range then (if good then (s.setGroup g { x with range := false }).endCause bFAB 7 g.val else s)
  else if bad && !(s.switching g).isEmpty then (s.setGroup g { x with range := true }).occur bFAB 7 g.val true
  else s

/-- The frequency that R83 sets for zero-voltage switching, kHz: the upper band edge at zero current, the lower at full current per
cell, free between, and at most 5 % away from the last. -/
def State.nextFreq (s : State) (g : Group) : Nat :=
  let x := s.groups[g]
  let cells := s.switching g
  let cur := s.groupCur g
  let want := if cur = 0 then x.cfg.fmax
    else if s.ratedSum g cells ≤ cur then x.cfg.fmin
    else x.cfg.fmin + s.free % (x.cfg.fmax - x.cfg.fmin + 1)
  if cells.isEmpty then 0
  else if x.base = 0 then want
  else max (x.base - x.base * 5 / 100) (min (x.base + x.base * 5 / 100) want)

/-- The triangular modulation of R85 in thousandths: -20 to 20 over a period of 500 us. -/
def ditherAt (t : Nat) : Int := if t % 500 < 250 then (t % 500 : Int) * 4 / 25 - 20 else 60 - (t % 500 : Int) * 4 / 25

/-- The switching frequency of a group with the dither of the image, clamped to the group band (R85). -/
def State.dithered (s : State) (g : Group) (base : Nat) : Nat :=
  let x := s.groups[g].cfg
  if s.fab.dither = true ∧ base ≠ 0 then
    max x.fmin (min x.fmax ((base * (1000 + ditherAt (s.now + Config.ditherPhase g.val))).toNat / 1000))
  else base

/-- Modulate for a group; a change of an FSW mode discards a point or a knee measurement in progress, repeated after 8 periods (R84, R266), and the time below the shed level is kept for
R93. -/
def State.modulate (s : State) (g : Group) : State :=
  let x := s.groups[g]
  let mode := if x.cfg.topo = .fsw then fswMode x.mode (s.groupVolts g) s.culm.vmeas else 3
  let rest := (s.actives g).drop (if x.cfg.topo = .tpr then 2 else 1)
  let low := decide (100 * s.groupCur g < x.cfg.shedlvl * s.ratedSum g rest)
  let t := (s.setGroup g { x with mode := mode, base := s.nextFreq g, freq := s.dithered g (s.nextFreq g), lowSince := sinceWhen s.now x.lowSince low }).drew
  match g.port.bat? with
  | some p => if mode = x.mode then t else t.discardWork p (t.angleTime g)
  | none => t

/-! ### Drive (R92, R95, R352) -/

/-- A migration out of a group whose current has risen above 90 % of its remaining cells' rated current, aborted before step 3 (R92). -/
def State.guardDonor (g : Group) (s : State) (m : Migr) : State :=
  let rest := (s.members g).filter fun c => !m.cells.contains c && s.cells[c].st.counts
  if m.gives g = true ∧ m.step < 3 ∧ 9 * s.ratedSum g rest < 10 * s.groupCur g then (s.backToDonor m).endMigr m 1 else s

/-- The current that a group is asked for, 10 mA. -/
def State.asked (s : State) (g : Group) : Nat := (s.flowsOn g.port).foldl (fun n c => n + s.ctx[c].cmd / 10000) 0

/-- Whether the load of a group lay above its abort level in this wave, for the next one. -/
def State.noteAbove (s : State) (g : Group) (high : Bool) : State :=
  { s with sense := { s.sense with above := vset s.sense.above g high } }

/-- The shed of a group aborted when its demand has exceeded abortpct of its Active cells' rated current in two waves running (R95). -/
def State.guardShed (s : State) (g : Group) : State :=
  let high := decide (s.groups[g].cfg.abortpct * s.ratedSum g (s.actives g) < 100 * s.asked g)
  (if high && s.sense.above[g] then s.abortShed g else s).noteAbove g high

/-- Cells stopped for want of commands start again at the next wave, where no line holds them (R352). -/
def State.restartDropped (g : Group) (s : State) (c : Cell) : State :=
  let x := s.cells[c]
  if x.dropped = true ∧ x.inMask = some g then
    if x.st = .idle ∧ s.portFree g.port = true then
      s.setCell c { x with st := .starting, since := s.now, dropped := false, startRetry := false, retryAt := none }
    else s.setCell c { x with dropped := false }
  else s

/-- The current that Regulate asks a group's cells for, uA at the port, positive into the module. -/
def State.target (s : State) (g : Group) : Int :=
  (s.flowsOn g.port).foldl (fun n c => if s.ctx[c].d.inward then n + s.ctx[c].cmd else n - s.ctx[c].cmd) 0

/-- The command of a cell that switches in a group (R344): an equal share of the group's target, the group's frequency and mode, its place
among N cells in ascending order, 360/N degrees apart (R83, R84), and a duty that the manual does not give, a free value (assumption 106). -/
def State.gateOf (s : State) (g : Group) (c : Cell) : Option Gate :=
  let l := s.switching g
  if l.contains c then
    some { target := s.target g / l.length, duty := s.freeAt c.val % 1001, freq := s.groups[g].freq
           slot := 36000 * (l.filter fun k => decide (k.val < c.val)).length / l.length, mode := s.groups[g].mode, at_ := s.now }
  else none

/-- Drive: every member is handed a whole command, or none (R344). -/
def State.handOver (s : State) (g : Group) : State :=
  { s with cells := Vector.ofFn fun c : Cell => if s.cells[c].inMask = some g then { s.cells[c] with gate := s.gateOf g c } else s.cells[c] }.drewMany 40

/-- Modulate and Drive for a group. -/
def State.drive (s : State) (g : Group) : State :=
  let s := (s.rangeRule g).modulate g
  let s := s.fab.migs.foldl (State.guardDonor g) s
  (s.guardShed g).settle.handOver g

/-- A wave (R344): the iteration of the blocks and of the group's records (R23), Sense to Estimate, the culm, then Regulate, Modulate and Drive, and what follows at the
end of an iteration. -/
def State.wave (s : State) (g : Group) (w : Wave) : State :=
  let s := (s.iterateFor g).freeLeaving.bridge.followEsts
  let s := forEach (s.members g) (State.restartDropped g) (s.estimate g w)
  let s := s.followCulm.followBranches
  (((s.regulate g w.pAvail).drive g).drain.followDegraded.settle).iterationEnds

/-- The group that enters Sense next (R345): the first from the present turn on, in the order G0 to G6, repeating, whose waves run. -/
def State.turnOf (s : State) : Option Group :=
  (allGroups.map fun i => (i + s.sense.turn : Group)).find? s.wavesRun

/-- The turn passed on after a group's wave. -/
def State.passTurn (s : State) (g : Group) : State := { s with sense := { s.sense with turn := g + 1 } }

/-- When a wave's samples were taken, ns. -/
def State.sampledAt (s : State) (w : Wave) : Nat := 1000 * s.now - w.tLat

/-- Whether a priority wave waits among the commands (R349). -/
def State.prioWaits (s : State) : Bool := s.pending.any fun c => match c with
  | .priorityWave _ _ => true
  | _ => false

/-- PIPELINE_WAVE: in the order of R345; a wave whose samples are older than those of its group's last priority wave is discarded, and one
that a waiting priority wave overtakes waits behind it (R349, R361, assumption 107). -/
def execPipelineWave (g : Group) (w : Wave) (s : State) : Ans :=
  if s.turnOf = some g then
    let t := s.passTurn g
    if s.sense.prioAt[g].any (fun a => decide (s.sampledAt w < a)) = true then .next t
    else if s.prioWaits then .next { t with sense := { t.sense with waiting := t.sense.waiting ++ [(g, w)] } }
    else .next (t.wave g w)
  else .next s

/-- The waves that wait, one after another: the priority waves in ascending group order, then the normal waves. -/
def State.runWaves (s : State) : State :=
  let l := sortBy (fun a b : Group × Wave => decide (a.1.val < b.1.val)) s.sense.prio ++ s.sense.waiting
  l.foldl (fun s q => if s.wavesRun q.1 then s.wave q.1 q.2 else s) { s with sense := { s.sense with prio := [], waiting := [] } }

/-- PRIORITY_WAVE: a wave of the group that a comparator event starts overtakes every waiting wave, and the waiting normal wave of its group
is discarded; two of different groups pass in ascending order (R349, R361, assumption 107). -/
def execPriorityWave (g : Group) (w : Wave) (s : State) : Ans :=
  let t := if s.wavesRun g then
      { s with sense := { s.sense with
          prioAt := vset s.sense.prioAt g (some (s.sampledAt w)), prio := s.sense.prio ++ [(g, w)]
          waiting := s.sense.waiting.filter fun q => q.1 != g } }
    else s
  if t.prioWaits then .next t else .next t.runWaves

/-! ### Stalls (R351, R352, R361) -/

/-- GROUP_STALL: no wave of a switching group for 8 us: SENSE source 3; a migration into or out of the group is met as by a port
halt line. -/
def execGroupStall (g : Group) (us : Nat) (s : State) : Ans :=
  if s.domOn 3 = true ∧ 8 ≤ us ∧ s.switching g ≠ [] then
    let t := s.fab.migs.foldl (State.haltMigr g) s
    .next ({ t with sense := { t.sense with gstall := vset t.sense.gstall g true } }.occur bSENSE 3 g.val true).settle
  else .next s

/-- PIPELINE_STALL: no wave of any group for 8 us while a cell switches: SENSE source 4, of the fixed severity Safe. -/
def execPipelineStall (us : Nat) (s : State) : Ans :=
  if s.domOn 3 = true ∧ 8 ≤ us ∧ (allGroups.any fun g => !(s.switching g).isEmpty) = true then .next (s.occur bSENSE 4 0 true)
  else .next s

/-- DRIVE_COMMAND_TIMEOUT: 10 us without a command stop the cell's switching, whatever severity or mask; a migration of it ends. -/
def execDriveCommandTimeout (c : Cell) (us : Nat) (s : State) : Ans :=
  if s.cells[c].st.running = true ∧ 10 ≤ us then
    let t := match s.migrOf c with
      | some m => ((s.idleCell c).freePartners m c).endMigr m 1
      | none => s.idleCell c
    .next (t.setCell c { t.cells[c] with dropped := true }).settle
  else .next s

/-! ### The core supply (R30, R347, R348) -/

/-- SENSE_CFG: the image's, else its reset value (R362). -/
def State.senseCfg (s : State) : Word := match s.img.image with
  | some i => i.senseCfg &&& 0x1FF
  | none => 0x78

/-- CORE_SUPPLY_ADJUST: every 100 us the supply steps by 10 mV towards titer, within 0.60-0.90 V; it stands at 0.90 V in coremode 1 and
while T46 is above 125 degC. -/
def execCoreSupplyAdjust (tslow : Nat) (s : State) : Ans :=
  if s.domOn 2 then
    let x := s.sense
    let titer := 10 * s.senseCfg.bits 7 0
    let hot := decide (16 * 125 < s.thm.sensors[(46 : Sensor)].t)
    let v := if s.senseCfg.bit 8 || hot then 900
      else if 100 * tslow < 90 * titer then max 600 (x.vcore - 10)
      else if titer < tslow then min 900 (x.vcore + 10)
      else x.vcore
    .next { s with sense := { x with vcore := v, tslow := sat 4095 tslow } }
  else .next s

/-- CORE_SUPPLY_FAULT: below 0.58 V or above 0.93 V for 1 us: a loss of D3, which empties x0-x3, and SENSE source 1, of the fixed severity
Safe (R348, R360). -/
def execCoreSupplyFault (mv heldUs : Nat) (s : State) : Ans :=
  if s.domOn 2 = true ∧ (mv < 580 ∨ 930 < mv) ∧ 1 ≤ heldUs then
    .next ((s.occur bSENSE 1 0 true).loseDomain 3 { blk := bSENSE, src := 1, obj := 0, reaction := true })
  else .next s

end Sys2Proof.Machine
end

