-- ==== Sys2Proof/Machine/Read.lean ====
section
/-!
DEFINITION. What a read of each register returns (R8, R37, R551-R560, R575): the field tables of R106-R108, R110, R142, R146,
R184, R216-R218, R252, R256, R259, R281, R310, R341, R364, R392, R425, R429, R472, R476, R504, R542, R546 and R559.
-/

namespace Sys2Proof.Machine

/-! ### Packing -/

/-- A signed value in a 16-bit field, and one saturated into it (R12). -/
def i16 (v : Int) : Nat := (v % 65536).toNat
def s16 (v : Int) : Nat := i16 (satInt 16 v)

/-- A bit for each element of a list that a condition holds of. -/
def bitsOf {n : Nat} (f : Fin n → Bool) : Nat := ((List.finRange n).filter f).foldl (fun m i => m + 2 ^ i.val) 0

/-- Minutes and seconds of a time in microseconds, saturated. -/
def minutes (us : Nat) : Nat := sat 65535 (us / 60000000)

/-! ### Fault registers (R110, R557) -/

/-- The fault registers of a block. -/
def State.readFault (s : State) (b : Blk) (off : Nat) : Word :=
  match off with
  | 0x0F00 => pack [(0, 8, s.flt[b].fst.toNat)]
  | 0x0F04 => pack [(0, 8, (s.flive b).toNat)]
  | 0x0F08 => s.reg (fsevAddr b)
  | 0x0F10 => s.reg (fgrcAddr b)
  | 0x0F14 => s.reg (fmskAddr b)
  | 0x0F18 => pack [(0, 8, s.flt[b].frty.toNat)]
  | _ => 0

/-! ### SYS, DOM, WDG, LOG (R446, R472, R476, R504, R559) -/

def State.readSys (s : State) (off : Nat) : Word :=
  match off with
  | 0x00 => s.sysId
  | 0x04 => 0x1FFFFF
  | 0x08 => BitVec.ofNat 32 (sat (2 ^ 32 - 1) ((s.now - s.dom.startAt) / 1000000))
  | 0x10 => pack [(0, 3, s.sys.cause), (4, 2, s.sys.req), (16, 16, s.sys.count)]
  | 0x14 => pack [(0, 24, s.sys.addr)]
  | _ => 0

def State.readDom (s : State) (off : Nat) : Word :=
  match off with
  | 0x00 => s.domStat
  | 0x08 => s.ret.domCfg
  | 0x0C => pack [(0, 12, s.dom.on.toNat), (16, 12, s.dom.req.toNat)]
  | 0x10 => pack [(0, 4, s.dom.refDom), (4, 3, s.dom.refCause), (16, 16, s.dom.refCount)]
  | 0x14 => BitVec.ofNat 32 s.rtc
  | 0x18 => s.ret.domAlarm
  | 0x1C => pack [(0, 1, s.dom.holdReady.toNat), (8, 8, s.dom.holdV), (16, 16, s.ret.holdLast)]
  | 0x20 => pack [(0, 1, s.dom.slot.val), (4, 2, s.dom.rsrc), (16, 16, s.dom.saves)]
  | 0x24 => pack [(0, 4, s.dom.pwrPort), (16, 16, s.dom.pwrW)]
  | _ => match slot? 0x100 8 9 off with
    | some (p, 0) => BitVec.ofNat 32 (wattHours s.energy[p].1)
    | some (p, 4) => BitVec.ofNat 32 (wattHours s.energy[p].2)
    | _ => 0

/-- Seconds left of host contact (R466). -/
def State.hcsLeft (s : State) : Nat :=
  if s.host.exp || !s.host.run then 0 else (s.hctUs - (s.now - s.host.since) + 999999) / 1000000

def State.readWdg (s : State) (off : Nat) : Word :=
  match off with
  | 0x00 => s.wdg.cfg
  | 0x04 => pack [(0, 1, s.wdg.run.toNat), (1, 1, s.wdg.lock.toNat), (2, 1, s.wdg.clkCore.toNat), (3, 1, s.wdg.armed.toNat),
      (4, 1, (s.wdg.run && decide (s.wdgWNow ≤ s.wdgCount)).toNat), (5, 2, s.ret.wdg.level), (7, 1, s.ret.wdg.hold.toNat),
      (8, 2, s.fuse.win), (12, 3, s.fuse.nmax), (16, 3, s.ret.wdg.tries), (24, 7, s.wdg.good)]
  | 0x0C => pack [(0, 26, s.wdgCount)]
  | 0x10 => pack [(0, 26, s.wdgW)]
  | 0x14 => pack [(0, 26, s.wdgP)]
  | 0x18 => pack [(0, 16, s.ret.wdg.ccr), (16, 16, s.ret.wdg.mr)]
  | 0x1C => pack [(0, 3, s.ret.wdg.lastCause), (4, 2, s.ret.wdg.lastStep), (8, 3, s.ret.wdg.lastTries)]
  | 0x30 => s.reg wdgHctAt
  | 0x34 => pack [(0, 10, s.hcsLeft), (16, 1, s.host.exp.toNat), (24, 8, s.host.nexp)]
  | _ => 0

/-- A word of a record (R446). -/
def recWord (q : LogRec) (w : Nat) : Word := BitVec.ofNat 32 (q.words.getD w 0)

def State.readLog (s : State) (off : Nat) : Word :=
  match off with
  | 0x00 => pack [(0, 5, s.ret.staged.length), (5, 1, s.log.commit.toNat), (6, 1, s.log.erase.toNat), (7, 1, s.writeHold.toNat),
      (8, 1, s.log.scan.toNat), (16, 13, s.logSeqs.length)]
  | 0x04 => BitVec.ofNat 32 s.log.newest
  | 0x08 => BitVec.ofNat 32 s.log.oldest
  | 0x0C => BitVec.ofNat 32 s.ret.lost
  | 0x14 => s.log.rseq
  | 0x18 => pack [(0, 1, s.log.rdone.toNat), (1, 1, s.log.rok.toNat)]
  | 0x1C => s.logFsum
  | _ => match slot? 0x20 4 4 off, slot? 0x30 4 4 off, slot? 0x100 0x10 16 off with
    | some (w, 0), _, _ => s.log.rw[w]
    | _, some (w, 0), _ => (s.ret.first.map fun q => recWord q w.val).getD 0
    | _, _, some (i, k) => if k % 4 = 0 then ((s.ret.staged[i.val]?).map fun q => recWord q.record (k / 4)).getD 0 else 0
    | _, _, _ => 0

/-! ### IMG, NVS (R425, R429) -/

/-- Minutes of the trial that are left. -/
def State.trialLeft (s : State) : Nat :=
  if s.img.trial then (s.reg imgCfgAt).bits 7 0 - s.trialUsed / 60000000 else 0

/-- Whether the fields of a bank's image are shown: it is Valid or Active. -/
def BankRec.shown (x : BankRec) : Bool := x.st == .valid || x.st == .active

def State.readImg (s : State) (off : Nat) : Word :=
  match off with
  | 0x00 => pack [(0, 1, s.img.act.val), (1, 1, s.img.image.isSome.toNat), (2, 1, s.img.trial.toNat), (4, 2, s.img.sess.code),
      (8, 3, s.img.asta.code), (12, 1, s.img.bridge.toNat), (16, 5, s.img.nsfl), (24, 8, s.trialLeft)]
  | 0x04 => BitVec.ofNat 32 s.img.build
  | 0x08 => pack [(0, 8, s.img.fmt), (8, 6, s.img.secver), (16, 1, s.img.keysel)]
  | 0x20 => s.reg imgCfgAt
  | 0x2C => pack [(0, 4, s.img.uresult), (7, 1, s.img.udone.toNat), (8, 8, s.img.useq), (16, 9, s.img.upage)]
  | 0x30 => pack [(0, 4, s.img.aresult), (7, 1, s.img.adone.toNat), (8, 8, s.img.aseq), (16, 4, s.img.acause)]
  | 0x34 => pack [(0, 6, s.fuse.minsv), (8, 1, s.fuse.k1.toNat)]
  | _ => match slot? 0x40 0x10 2 off, slot? 0x100 0x20 2 off with
    | some (b, 0), _ =>
      let x := s.img.banks[b]
      pack [(0, 3, x.st.code), (4, 4, x.cause), (8, 6, if x.shown then s.bankField b 0x10 1 else 0), (16, 16, x.seq)]
    | some (b, 4), _ => if s.img.banks[b].shown then BitVec.ofNat 32 (s.bankField b 0x0C 4) else 0
    | _, some (b, k) => if s.img.banks[b].shown && k % 4 == 0 then (s.bankDigest b).toList.getD (k / 4) 0 else 0
    | _, _ => 0

/-- The region of the operation in progress, its code, and whether it has begun. -/
def State.nvsStat (s : State) : Word :=
  match s.nvs.ops with
  | o :: _ =>
    if s.nvs.started then
      pack [(0, 1, 1), (1, 2, if o.isErase then 2 else 1), (4, 1, s.writeHold.toNat), (8, 3, o.region)]
    else pack [(4, 1, s.writeHold.toNat)]
  | [] => pack [(4, 1, s.writeHold.toNat)]

/-- The highest erase count of the sectors of a region. -/
def State.regionWear (s : State) (r : Nat) : Nat :=
  ((List.finRange 128).filter fun k => decide (regionBase r ≤ 4096 * k.val) && decide (4096 * k.val < regionBase r + regionSize r)).foldl
    (fun n k => max n s.nvs.wear[k]) 0

def State.readNvs (s : State) (off : Nat) : Word :=
  match off with
  | 0x00 => s.nvsStat
  | 0x0C => pack [(0, 16, s.nvs.corr), (16, 16, s.nvs.uncorr)]
  | _ => match slot? 0x100 4 7 off, slot? 0x200 4 7 off with
    | some (r, 0), _ => pack [(0, 8, regionBase r.val / 4096), (8, 8, regionSize r.val / 4096), (16, 3, regionAcc r.val)]
    | _, some (r, 0) => pack [(0, 24, s.regionWear r.val)]
    | _, _ => 0

/-! ### FAB (R106-R108) -/

/-- Whether a group takes part in a migration, and whether a member of it sheds. -/
def State.migrating (s : State) (g : Group) : Bool := s.fab.migs.any fun m => m.gives g || m.dest == g
def State.shedding (s : State) (g : Group) : Bool := (s.members g).any fun c => s.cells[c].st == .shedding || s.cells[c].st == .parked

/-- FAB_GSTAT.state (R107). -/
def State.groupState (s : State) (g : Group) : Nat :=
  if s.groups[g].cfg.topo = .none then 0
  else if s.groups[g].starved then 4
  else if s.portFree g.port = false then 3
  else if (s.members g).any (fun c => s.cells[c].st.running) || !(s.flowsOn g.port).isEmpty then 2
  else 1

/-- The number of members of a group in some states. -/
def State.countIn (s : State) (g : Group) (f : CellState → Bool) : Nat := ((s.members g).filter fun c => f s.cells[c].st).length

def State.readGroup (s : State) (g : Group) (k : Nat) : Word :=
  let x := s.groups[g]
  match k with
  | 0x00 => pack [(0, 24, (s.members g).foldl (fun n c => n + 2 ^ c.maskBit) 0), (24, 4, x.cfg.topo.code), (28, 1, if g.val < 4 ∨ s.img.image = none then 0 else 1)]
  | 0x04 => pack [(0, 24, x.cfg.allow.toNat)]
  | 0x08 => pack [(0, 5, x.cfg.minph), (8, 5, x.cfg.maxph), (16, 5, s.countIn g (· == .active)),
      (24, 5, s.countIn g fun t => t == .shedding || t == .parked)]
  | 0x0C => pack [(0, 10, x.cfg.fmin), (16, 10, x.cfg.fmax)]
  | 0x10 => pack [(0, 10, x.freq), (12, 2, x.mode), (16, 3, s.groupState g), (20, 1, (s.migrating g).toNat), (21, 1, (s.shedding g).toNat),
      (22, 1, x.range.toNat)]
  | 0x14 => pack [(0, 8, x.cfg.shedlvl), (8, 8, x.cfg.abortpct), (16, 8, x.cfg.hold), (24, 8, x.cfg.delay)]
  | _ => 0

/-- The interleave slot of a cell: its place among the switching cells of its group, in ascending order (R84). -/
def State.cellSlot (s : State) (c : Cell) : Nat :=
  match s.cells[c].inMask with
  | some g => if (s.switching g).contains c then ((s.switching g).takeWhile (· != c)).length else 0
  | none => 0

def State.readCell (s : State) (c : Cell) (k : Nat) : Word :=
  let x := s.cells[c]
  match k with
  | 0x0 => pack [(0, 4, x.st.code), (4, 3, (x.grp.map (·.val)).getD 7), (8, 1, x.sel.toNat), (12, 4, sat 15 (s.cellSlot c)), (16, 3, x.fcause.val),
      (20, 2, x.fcount), (22, 1, x.ext.toNat)]
  | 0x4 => if x.st = .off then 0 else pack [(0, 16, s16 x.cur), (16, 16, sat 65535 x.loss)]
  | 0x8 => pack [(0, 16, x.starts), (16, 16, x.migs)]
  | _ => 0

def State.readFab (s : State) (off : Nat) : Word :=
  match off with
  | 0x00 => pack [(0, 7, bitsOf fun g : Group => s.groups[g].cfg.topo != .none), (8, 2, s.fab.maxmig), (12, 1, s.fab.dither.toNat)]
  | 0x04 => pack [(0, 6, (allCells.filter fun c => s.cells[c].st == .fenced).length),
      (8, 6, (allCells.filter fun c => s.cells[c].st.counts).length), (16, 2, s.fab.migs.length),
      (24, 1, s.dcause % 2)]
  | 0x10 => pack [(0, 6, s.fab.mlog.cell), (8, 3, s.fab.mlog.donor), (12, 3, s.fab.mlog.dest), (16, 2, s.fab.mlog.result),
      (20, 12, sat 4095 s.fab.mlog.dur)]
  | _ => match slot? 0x100 0x20 7 off, slot? 0x400 0x10 40 off with
    | some (g, k), _ => s.readGroup g k
    | _, some (c, k) => s.readCell c k
    | _, _ => 0

/-! ### CULM, LOAD (R142, R146) -/

def State.readCulm (s : State) (off : Nat) : Word :=
  let x := s.culm
  match off with
  | 0x00 => pack [(0, 3, x.mode.code), (4, 1, (decide (x.vset + 2000 < x.vmeas)).toNat), (8, 8, x.ceilrej)]
  | 0x04 => pack [(0, 16, x.vmeas), (16, 16, x.vset)]
  | 0x08 => BitVec.ofInt 32 x.ild
  | 0x10 => pack [(0, 16, x.msv), (16, 16, x.uv)]
  | 0x14 => pack [(0, 2, (x.supPort.map (·.val + 1)).getD 0), (4, 1, x.supOn.toNat), (16, 16, s16 x.supCur)]
  | 0x18 => pack [(0, 9, bitsOf fun p : Port => (s.stage? p).any fun x => x.drains s.now || x.holds s.now),
      (16, 9, bitsOf fun p : Port => (s.stage? p).any (·.ext))]
  | _ => match slot? 0x100 0x10 9 off with
    | some (p, 0) => s.reg (culmPceilAt p)
    | some (p, 4) => pack [(0, 16, sat 65535 s.gov[p].est), (16, 16, sat 65535 s.gov[p].ilim)]
    | some (p, 8) => pack [(0, 16, s.gov[p].lt), (16, 16, s.gov[p].count)]
    | _ => 0

def State.readBranch (s : State) (b : Branch) (k : Nat) : Word :=
  let x := s.branches[b]
  match k with
  | 0x00 => s.reg (loadBctlAt b)
  | 0x04 => s.reg (loadBlimAt b)
  | 0x08 => pack [(0, 9, x.inst), (16, 9, s.branchEff b)]
  | 0x0C => pack [(0, 3, x.st.code), (4, 3, x.cause), (8, 1, (x.retryAt.any fun t => decide (s.now < t + 60000000)).toNat), (16, 16, x.vout)]
  | 0x10 => pack [(0, 16, s16 x.cur), (24, 8, sat 100 (100 * s.branchS b / s.branchK b))]
  | 0x14 => BitVec.ofNat 32 (wattHours x.energy)
  | _ => 0

/-- What supplies the load ports: the culm while it is on, or the stubble supply. -/
def State.loadSupply (s : State) : Nat :=
  match s.culm.mode with
  | .off => 0
  | .stubble => if s.culm.supOn then 2 else 0
  | _ => 1

def State.readLoad (s : State) (off : Nat) : Word :=
  match off with
  | 0x00 => pack [(0, 2, s.loadSupply),
      (8, 4, bitsOf fun k : Fin 4 => allBranches.any fun b => s.branches[b].st == .shed && s.branchPrio b == k.val),
      (16, 4, (allBranches.filter fun b => s.branches[b].st == .closed).length)]
  | _ => match slot? 0x10 0x10 2 off, slot? 0x100 0x20 8 off with
    | some (q, 0), _ => pack [(0, 16, s16 s.loads[q].cur), (16, 16, sat 65535 s.loads[q].ret)]
    | _, some (b, k) => s.readBranch b k
    | _, _ => 0

/-! ### SRC, BAT (R184, R256) -/

def State.readSrcPort (s : State) (p : SPort) (k : Nat) : Word :=
  let x := s.src[p]
  match k with
  | 0x00 => s.reg (srcPcfgAt p) ||| pack [(8, 2, x.role.code), (12, 2, x.cls), (16, 3, x.rbuf.toNat), (20, 1, x.arcen.toNat)]
  | 0x04 => s.reg (srcQvAt p)
  | 0x08 => s.reg (srcQfAt p)
  | 0x0C => s.reg (srcQtAt p)
  | 0x10 => s.reg (srcPlimAt p)
  | 0x14 => s.reg (srcPfldAt p)
  | 0x18 => s.reg (srcMpptAt p)
  | 0x1C => s.reg (srcProtAt p)
  | 0x24 => pack [(0, 4, x.st.code), (4, 4, x.cause), (8, 4, x.lim), (12, 1, x.flap.toNat), (16, 16, x.riso)]
  | 0x28 => pack [(0, 16, x.v), (16, 16, x.voc)]
  | 0x2C => pack [(0, 16, s16 x.cur), (16, 16, s16 x.pwr)]
  | 0x30 => pack [(0, 13, x.freq), (16, 8, x.pf), (24, 8, x.thd)]
  | 0x34 => pack [(0, 16, sat 65535 (x.mppt.vref / 100)), (16, 16, (x.mppt.sweptAt.map fun t => minutes (s.now - t)).getD 0)]
  | 0x38 => pack [(0, 16, x.arcs), (24, 8, x.metric)]
  | 0x3C => pack [(0, 16, x.losses), (16, 16, x.qfails)]
  | _ => 0

def State.readSrc (s : State) (off : Nat) : Word :=
  match off with
  | 0x00 => pack [(0, 4, bitsOf fun p : SPort => s.src[p].st == .supplying), (4, 4, bitsOf fun p : SPort => s.src[p].st == .lost),
      (8, 4, bitsOf fun p : SPort => s.src[p].st == .locked), (12, 1, (allSrc.any fun p => s.src[p].hov.isSome).toNat)]
  | 0x04 => pack [(0, 2, s.hov.port), (4, 1, s.hov.full.toNat), (8, 8, sat 255 s.hov.dur), (16, 16, sat 65535 s.hov.droop)]
  | _ => match slot? 0x100 0x40 4 off with
    | some (p, k) => s.readSrcPort p k
    | none => 0

def State.readBatPort (s : State) (p : BPort) (k : Nat) : Word :=
  let x := s.bat[p]
  match k with
  | 0x00 => s.reg (batPcfgAt p)
  | 0x08 => pack [(0, 3, x.st.code), (4, 4, x.cause), (8, 2, if s.ntcUsed p then x.ntc else 3), (12, 1, x.sw.toNat), (13, 1, x.clamp.toNat),
      (14, 1, (s.culm.supPort == some p).toNat)]
  | 0x0C => pack [(0, 17, sat 131071 x.vterm.toNat)]
  | 0x10 => pack [(0, 17, sat 131071 x.vstage.toNat)]
  | 0x14 => pack [(0, 16, s16 x.cur)]
  | 0x18 => pack [(0, 16, s16 x.tntc)]
  | 0x1C => pack [(0, 16, x.removals), (16, 16, x.qfails)]
  | 0x20 => pack [(0, 16, x.clampE), (16, 16, x.clamps)]
  | _ => 0

def State.readBat (s : State) (off : Nat) : Word :=
  match off with
  | 0x00 => pack [(0, 3, bitsOf fun p : BPort => s.bat[p].st == .present), (4, 3, bitsOf fun p : BPort => s.bat[p].st == .absent),
      (8, 3, bitsOf fun p : BPort => s.bat[p].st == .locked), (12, 3, bitsOf fun p : BPort => s.bat[p].reversed)]
  | _ => match slot? 0x100 0x40 3 off with
    | some (p, k) => s.readBatPort p k
    | none => 0

/-! ### CHG, EST, PROF (R252, R259, R281) -/

/-- Whether the BMS that a port's working copy names is live. -/
def State.portBmsLive (s : State) (p : BPort) : Bool := (s.lithium p).any s.bmsLive

def State.readChgPort (s : State) (p : BPort) (k : Nat) : Word :=
  let x := s.chg[p].acct s.now
  match k with
  | 0x00 => pack [(0, 4, x.phase), (4, 4, x.cause), (8, 1, x.hold.toNat), (9, 1, x.frest.toNat), (10, 1, x.eqdue.toNat), (11, 1, x.safe.toNat),
      (12, 3, x.wait), (16, 4, (x.wc.map (·.chem)).getD 0), (24, 6, (x.wc.map (·.ncell)).getD 0)]
  | 0x04 => pack [(0, 17, x.vtgt), (24, 8, sat 255 (x.rcomp / 10))]
  | 0x08 => pack [(0, 16, sat 65535 x.itgt), (16, 16, sat 65535 x.iprog)]
  | 0x0C => pack [(0, 16, minutes x.tphase), (16, 16, minutes (x.tsafe / 2))]
  | 0x10 => pack [(0, 16, sat 65535 x.vpk.toNat), (16, 8, sat 255 x.dvobs), (24, 4, sat 15 x.nrej), (28, 1, x.dvArmed.toNat),
      (29, 1, x.dtArmed.toNat)]
  | 0x14 => pack [(0, 16, s16 x.dtdt), (16, 16, s16 x.tbat)]
  | 0x18 => pack [(0, 16, sat 65535 (x.ah / 36000000000000)), (16, 16, x.cycles)]
  | 0x1C => match s.lithium p with
    | some l => pack [(0, 16, s.bms[l.bms].act.cvl), (16, 16, s.bms[l.bms].act.ccl)]
    | none => 0
  | 0x20 => s.reg (chgPcfgAt p)
  | _ => 0

def State.readChg (s : State) (off : Nat) : Word :=
  match off with
  | 0x00 => pack [
      (0, 3, bitsOf s.charges),
      (4, 3, bitsOf fun p : BPort => s.chg[p].phase == 8), (8, 3, bitsOf fun p : BPort => s.chg[p].frest),
      (12, 3, bitsOf s.portBmsLive)]
  | _ => match slot? 0x100 0x40 3 off with
    | some (p, k) => s.readChgPort p k
    | none => 0

def State.readEstPort (s : State) (p : BPort) (k : Nat) : Word :=
  let x := s.est[p]
  match k with
  | 0x00 => s.reg (estPcfgAt p)
  | 0x04 => s.reg (estPbatAt p)
  | 0x08 => s.reg (estPkcfAt p)
  | 0x0C => s.reg (estPrefAt p)
  | 0x14 => pack [(0, 3, if s.estEn p && s.bat[p].st == .present then x.st.code else 0),
      (8, 4, match x.todo with | j :: _ => j.val | [] => 0), (16, 8, x.nsweep), (24, 8, x.ndisc)]
  | 0x18 => pack [(0, 16, x.rhf), (16, 16, x.rpol)]
  | 0x1C => let (r, ok) := s.rwire p
    pack [(0, 16, sat 65535 r), (16, 1, ok.toNat)]
  | 0x20 => pack [(0, 16, s.soc p), (16, 8, s.socUnc p), (24, 3, x.src)]
  | 0x24 => pack [(0, 10, s.soh p), (16, 16, sat 65535 x.qest)]
  | 0x28 => pack [(0, 16, s16 x.dr), (16, 16, s16 ((x.base.map (·.1)).getD 0))]
  | 0x2C => pack [(0, 15, x.valid.toNat), (16, 16, (x.sweptAt.map fun t => minutes (s.now - t)).getD 0)]
  | _ => 0

def State.readEst (s : State) (off : Nat) : Word :=
  match off with
  | 0x00 => pack [(0, 1, s.estConv.toNat), (4, 3, bitsOf fun p : BPort => s.est[p].rconv), (8, 3, bitsOf fun p : BPort => s.est[p].st == .sweeping),
      (12, 3, bitsOf fun p : BPort => s.est[p].st == .knee)]
  | _ => match slot? 0x100 0x40 3 off, slot? 0x1000 0x100 3 off with
    | some (p, k), _ => s.readEstPort p k
    | _, some (p, k) => match slot? 0 4 15 k with
      | some (j, 0) => pack [(0, 16, s16 s.est[p].pz[j].1), (16, 16, s16 s.est[p].pz[j].2)]
      | _ => 0
    | _, _ => 0

/-- PROF_EHI returns the word latched by a read of PROF_ELO of the same entry (R233). -/
def State.readProf (s : State) (off : Nat) : Word :=
  match off with
  | 0xF000 => pack [(0, 16, s.profIO.torn), (16, 3, s.profIO.cres), (19, 1, s.profIO.cdone.toNat)]
  | _ =>
    if 0xC000 ≤ off then 0
    else if off % 8 = 0 then BitVec.ofNat 32 ((s.entry (off / 8)).bits 31 0)
    else if off % 8 = 4 then
      match s.profIO.hi with
      | some (n, w) => if n = off / 8 then w else BitVec.ofNat 32 ((s.entry (off / 8)).bits 63 32)
      | none => BitVec.ofNat 32 ((s.entry (off / 8)).bits 63 32)
    else 0

/-! ### THM, THR (R310, R341) -/

def State.readThm (s : State) (off : Nat) : Word :=
  let x := s.thm
  match off with
  | 0x00 => pack [(0, 3, x.cond.code), (4, 1, x.warn.toNat), (5, 1, x.nvhold.toNat), (6, 1, x.mconv.toNat), (7, 1, x.hist.toNat),
      (8, 6, (x.sensors.toList.filter SensorRec.bad).length), (16, 8, x.nsd)]
  | 0x04 => pack [(0, 16, s16 x.tmax), (16, 6, x.tmaxIdx), (24, 1, x.tmaxSub.toNat)]
  | 0x08 => pack [(0, 16, s16 x.tctl), (16, 6, x.tctlIdx), (24, 1, x.tctlPred.toNat)]
  | 0x0C => pack [(0, 5, x.step), (8, 5, x.floor), (16, 1, x.hold.isSome.toNat), (24, 8, (x.hold.map fun t => (t - s.now + 999999) / 1000000).getD 0)]
  | 0x10 => pack [(0, 8, s.thmThr), (8, 8, s.thmWarn), (16, 8, 140), (24, 8, 125)]
  | 0x14 => pack [(0, 4, s.thmCfg.bits 3 0), (8, 8, s.thmCfg.bits 15 8)]
  | 0x18 => pack [(0, 16, s16 x.tref), (16, 1, x.refSrc.toNat)]
  | _ => match slot? 0x20 4 3 off, slot? 0x100 8 48 off, slot? 0x400 4 40 off with
    | some (f, 0), _, _ => pack [(0, 8, x.fans[f].cmd), (8, 2, x.fans[f].st), (16, 16, sat 65535 x.fans[f].rpm)]
    | _, some (k, 0), _ => pack [(0, 16, s16 x.sensors[k].t), (16, 16, s16 x.sensors[k].raw)]
    | _, some (k, 4), _ => pack [(0, 3, x.sensors[k].st.code), (4, 3, x.sensors[k].cause), (8, 2, x.sensors[k].nfail), (16, 16, s16 x.sensors[k].pred)]
    | _, _, some (c, 0) => pack [(0, 16, s16 x.die[c].1), (16, 16, s16 x.die[c].2)]
    | _, _, _ => 0

/-- The class 3 ports with a grant above zero (R341). -/
def State.gensetPorts (s : State) : Nat :=
  bitsOf fun p : SPort => s.src[p].cls == 3 && (s.srcFlow p).any fun c => decide (0 < s.ctx[c].grant)

def State.readThr (s : State) (off : Nat) : Word :=
  let x := s.thr
  let r (f : Round → Nat) : Nat := (x.last.map f).getD 0
  match off with
  | 0x00 => s.thrCfg
  | 0x04 => pack [(0, 2, x.st.code), (4, 1, x.first.toNat), (5, 1, x.req.toNat), (6, 1, s.peakNow.peakx.toNat), (7, 1, x.stklost.toNat),
      (8, 1, x.fcValid.toNat), (12, 3, r (·.bind)), (16, 8, sat 255 x.late)]
  | 0x0C => pack [(0, 2, x.cres), (4, 3, x.ccause), (8, 8, x.cseq)]
  | 0x24 => s.cimg
  | 0x60 => pack [(0, 16, x.stk), (16, 16, x.lend)]
  | 0x64 => pack [(0, 16, sat 65535 (r (·.thru))), (16, 16, sat 65535 (r (·.pcap)))]
  | 0x68 => pack [(0, 12, sat 4095 (r (·.budget))), (16, 12, sat 4095 (r (·.used)))]
  | 0x6C => pack [(0, 8, s.peakNow.tpk / 1000000), (16, 9, sat 300 (s.peakNow.trec / 1000000))]
  | 0x70 => pack [(0, 1, x.adm.toNat), (1, 1, x.req.toNat), (4, 2, x.reason), (8, 4, s.gensetPorts),
      (16, 16, if x.adm then minutes (s.now - x.admAt) else 0)]
  | 0x74 => pack [(0, 16, sat 65535 (x.ebat / 10)), (16, 16, sat 65535 (x.eneed / 10))]
  | 0x80 => pack [(0, 3, bitsOf fun p : BPort => s.chg[p].eqOk), (8, 1, x.defer.toNat)]
  | _ => match slot? 0x1000 4 160 off with
    | some (c, 0) => pack [(0, 16, sat 65535 s.ctx[c].pgrant), (16, 12, sat 4095 s.ctx[c].heat), (28, 3, s.ctx[c].gst)]
    | _ => s.reg (0x0D0000 + off)

/-! ### FLOW (R216-R218) -/

/-- FLOW_CDEF0: the policy reads 7 while the safe profile governs (R212). -/
def FlowCtx.cdef0 (f : FlowCtx) : Word := if f.safe then f.d.d0 ||| 0x7000 else f.d.d0

def State.readCtx (s : State) (c : Ctx) (k : Nat) : Word :=
  let f := s.ctx[c]
  match k with
  | 0x00 => f.cdef0
  | 0x04 => f.d.d1
  | 0x08 => f.d.d2
  | 0x0C => f.d.d3
  | 0x10 => pack [(0, 3, f.st.code), (8, 8, f.gen), (16, 6, f.scause.toNat), (22, 1, f.safe.toNat), (24, 5, f.fblk), (29, 3, f.fsrc)]
  | 0x14 => pack [(0, 16, s16 f.cur), (16, 16, sat 65535 f.grant)]
  | 0x18 => BitVec.ofNat 32 (wattHours f.energy)
  | 0x1C => pack [(0, 16, minutes (f.liveTime s.now)), (16, 16, sat 65535 (f.suspTime s.now / 1000000))]
  | _ => 0

/-- The number of contexts in a state. -/
def State.inState (s : State) (t : FlowSt) : Nat := (allCtx.filter fun c => s.ctx[c].st == t).length

def State.readFlow (s : State) (off : Nat) : Word :=
  let x := s.flow
  match off with
  | 0x00 => pack [(0, 8, s.usedCtx.length), (8, 8, s.inState .live), (16, 8, s.inState .suspended), (24, 1, x.busy.toNat), (25, 1, x.gensrc.toNat),
      (26, 1, (allCtx.any fun c => s.ctx[c].safe).toNat)]
  | 0x14 => pack [(0, 4, x.result), (7, 1, x.done.toNat), (8, 8, x.seq), (16, 16, x.handle.toNat)]
  | 0x18 => pack [(0, 16, x.stale), (16, 16, x.other)]
  | _ => match slot? 0x1000 0x20 160 off with
    | some (c, k) => s.readCtx c k
    | none => s.reg (0x0E0000 + off)

/-! ### AWN, RING, CAN (R392, R542, R546) -/

def State.readFeeder (s : State) (p : SPort) (k : Nat) : Word :=
  let x := s.fdr[p]
  match k with
  | 0x00 => s.reg (awnFcfgAt p)
  | 0x04 => pack [(0, 4, x.st.code), (4, 4, x.cause), (8, 4, x.lim)]
  | 0x08 => pack [(0, 16, x.vref / 100000), (16, 16, x.vout)]
  | 0x0C => pack [(0, 16, s16 x.cur), (16, 16, sat 65535 x.ilim)]
  | 0x10 => pack [(0, 16, x.starts), (16, 16, x.fstops)]
  | _ => 0

def State.readAwn (s : State) (off : Nat) : Word :=
  let x := s.awn
  match off with
  | 0x00 => pack [(0, 2, x.link.code), (4, 2, x.src), (6, 1, (decide (s.rampNow ≠ s.culm.target)).toNat), (7, 1, x.pend.isSome.toNat),
      (8, 8, x.tagexp), (16, 8, x.taglast.getD 0)]
  | 0x04 => s.reg awnCfgAt
  | 0x08 => s.reg awnCfg2At
  | 0x0C => pack [(0, 16, s.culm.target), (16, 16, s.rampNow)]
  | 0x10 => x.cmd
  | 0x14 => pack [(0, 16, x.rx), (16, 16, x.sup)]
  | 0x18 => pack [(0, 8, x.crc), (8, 8, x.seq), (16, 8, x.sync), (24, 8, x.txdrop)]
  | _ => match slot? 0x100 0x20 4 off with
    | some (p, k) => s.readFeeder p k
    | none => 0

def State.readRing (s : State) (off : Nat) : Word :=
  let x := s.ring
  let keys := s.fuse.keys.length
  match off with
  | 0x00 => pack [(0, 7, x.pos), (8, 2, (x.sides.toList.filter (·.st == 2)).length), (12, 1, s.authRequired.toNat), (13, 1, x.sess.isSome.toNat),
      (16, 7, x.sides[(0 : Side)].hop), (24, 7, x.sides[(1 : Side)].hop)]
  | 0x04 => BitVec.ofNat 32 s.fuse.sn.toNat
  | 0x08 => pack [(0, 16, s.fuse.sn.toNat / 2 ^ 32)]
  | 0x0C => pack [(0, 4, 2 ^ keys - 1), (4, 2, keys - 1), (16, 16, ((x.sess.bind (·.c)).getD 0))]
  | 0x50 => pack [(0, 16, x.rx), (16, 16, x.tx)]
  | 0x54 => pack [(0, 8, x.crc), (8, 8, x.auth), (16, 8, x.drop), (24, 8, x.hop)]
  | 0x58 => pack [(0, 8, x.xseq), (8, 8, (x.stookAt.map fun t => sat 255 ((s.now - t) / 1000)).getD 0), (16, 8, x.nrep), (24, 1, x.lost.toNat)]
  | _ => match slot? 0x40 4 2 off, slot? 0x100 4 4 off, slot? 0x1000 4 160 off with
    | some (q, 0), _, _ => pack [(0, 2, x.sides[q].st), (8, 8, x.sides[q].downs), (16, 16, x.sides[q].cv)]
    | _, some (p, 0), _ => s.reg (ringPstkAt p)
    | _, _, some (c, 0) => pack [(0, 1, s.ctx[c].paired.toNat), (8, 7, s.ctx[c].peer), (16, 16, sat 65535 s.ctx[c].peerGrant)]
    | _, _, _ => 0

def State.readBms (s : State) (k : Bms) (o : Nat) : Word :=
  let x := s.bms[k]
  match o with
  | 0x0 => pack [(0, 16, x.cvl), (16, 16, x.ccl)]
  | 0x4 => pack [(0, 16, x.dvl), (16, 16, x.dcl)]
  | 0x8 => pack [(0, 1, x.cp.toNat), (1, 1, x.dp.toNat), (2, 1, x.full.toNat), (3, 1, x.alarm.toNat), (4, 4, x.limCtr.getD 0), (8, 8, x.ncell),
      (20, 12, (x.limAt.map fun t => sat 4095 ((s.now - t) / 1000)).getD 4095)]
  | 0xC => pack [(0, 16, s16 (16 * x.tmin)), (16, 16, s16 (16 * x.tmax))]
  | _ => 0

def State.readCan (s : State) (off : Nat) : Word :=
  let x := s.can
  match off with
  | 0x00 => pack [(0, 2, x.bus), (8, 8, sat 255 x.tec), (16, 8, sat 255 x.recv)]
  | 0x04 => s.reg canCfgAt
  | 0x08 => pack [(0, 16, x.rx), (16, 16, x.tx)]
  | 0x0C => pack [(0, 8, x.rej), (8, 8, x.stale), (16, 8, x.drop)]
  | _ => match slot? 0x100 0x10 16 off with
    | some (k, o) => s.readBms k o
    | none => 0

/-! ### SENSE (R364) -/

/-- SENSE_XST.state: emptying, peer absent, transferring while an item waits, else idle (R360). -/
def State.xingState (s : State) (x : Xing) : Nat :=
  if s.xing[x].emptyAt.any (fun t => decide (s.now < t + emptyTime x)) then 2
  else if s.peerAbsent x then 3 else if s.xslots.any (fun q => q.x == x) || (x == 3 && !s.x3.isEmpty) then 1 else 0

/-- A channel's value and status: the temperature channels show the readings of their sensors. -/
def State.readChan (s : State) (n : Chan) : Word :=
  if h : n.val < 48 then
    let k := s.thm.sensors[n.val]
    pack [(0, 24, (inRange n.val k.raw % 2 ^ 24).toNat),
          (24, 2, if k.st = .off then 3 else if s.sense.ch[n].2 = 2 then 2 else if inRange n.val k.raw = k.raw then 0 else 1)]
  else
    let (v, st) := s.sense.ch[n]
    pack [(0, 24, (satInt 24 v % 2 ^ 24).toNat), (24, 2, st)]

def State.readSense (s : State) (off : Nat) : Word :=
  let x := s.sense
  match off with
  | 0x00 => pack [(0, 1, (allGroups.any s.wavesRun).toNat), (8, 7, bitsOf fun g : Group => x.gstall[g]), (16, 5, bitsOf s.peerAbsent)]
  | 0x04 => s.senseCfg
  | 0x08 => pack [(0, 10, x.vcore), (16, 12, x.tslow)]
  | _ => match slot? 0x100 0x10 7 off, slot? 0x200 0x10 5 off, slot? 0x1000 4 128 off with
    | some (g, 0), _, _ => pack [(0, 12, x.groups[g].itLast), (16, 12, x.groups[g].itMax)]
    | some (g, 4), _, _ => pack [(0, 12, x.groups[g].latLast), (16, 12, x.groups[g].latMax)]
    | some (g, 8), _, _ => BitVec.ofNat 32 x.groups[g].waves
    | _, some (k, 0), _ => pack [(0, 2, s.xingState k), (8, 8, s.xing[k].presets), (16, 8, s.xing[k].merged), (24, 8, s.xing[k].drops)]
    | _, some (k, 4), _ => pack [(0, 12, sat 4095 s.xing[k].last), (16, 12, sat 4095 s.xing[k].max)]
    | _, _, some (n, 0) => s.readChan n
    | _, _, _ => 0

/-! ### The register space (R549, R551) -/

/-- The value of a register of a block by its offset, where the block is served. -/
def State.readBlock (s : State) (b off : Nat) : Word :=
  if h : b < 21 ∧ hasFaults b = true ∧ 0x0F00 ≤ off ∧ off ≤ 0x0FFF then s.readFault ⟨b, h.1⟩ off
  else match b with
    | 0x00 => s.readSys off
    | 0x01 => s.readDom off
    | 0x02 => s.readWdg off
    | 0x03 => s.readLog off
    | 0x04 => s.readImg off
    | 0x05 => s.readFab off
    | 0x06 => s.readCulm off
    | 0x07 => s.readLoad off
    | 0x08 => s.readSrc off
    | 0x09 => s.readBat off
    | 0x0A => s.readChg off
    | 0x0B => s.readEst off
    | 0x0C => s.readThm off
    | 0x0D => s.readThr off
    | 0x0E => s.readFlow off
    | 0x0F => s.readAwn off
    | 0x10 => s.readRing off
    | 0x11 => s.readCan off
    | 0x12 => s.readSense off
    | 0x13 => s.readProf off
    | 0x14 => s.readNvs off
    | _ => 0

/-- The register at an address: 0 at a reserved offset; an RW register reads the last value written (R8). -/
def State.readReg (s : State) (a : Nat) : Word := (s.readBack a).readBlock (a / 0x10000) (a % 0x10000)

/-- A read through the register service (R551-R555): the word, and the state after it. An access error reads 0; a read of PROF_ELO
latches the entry's high word (R233); any other read changes nothing (R553). -/
def State.readWord (s : State) (r : Req) (a : Nat) : Word × State :=
  match s.accessCause a with
  | some c => (0, s.accessError c r a)
  | none =>
    let t := if a / 0x10000 = 0x13 ∧ a % 0x10000 < 0xC000 ∧ a % 8 = 0 then s.readElo (a % 0x10000 / 8)
      else if a / 0x10000 = 0x13 ∧ a % 0x10000 < 0xC000 ∧ a % 8 = 4 ∧ s.profIO.hi.any (fun q => q.1 == a % 0x10000 / 8) = true then
        { s with profIO := { s.profIO with hi := none } }
      else s
    (s.readReg a, t)

/-- The bytes of a word that a narrow read returns, numbered from the most significant (R550). -/
def narrowOf (v : Word) (off size : Nat) : Word := BitVec.ofNat 32 (v.toNat / 2 ^ (8 * (4 - off - size)) % 2 ^ (8 * size))

/-- What a processor's read of 1, 2 or 4 bytes at an address returns, and the state after it: a narrow read has the effect of the read of the
whole word (R550, R553). -/
def State.readAt (s : State) (r : Req) (addr : BitVec 24) (size : Nat) : Word × State :=
  let (v, t) := s.readWord r (addr.toNat / 4 * 4)
  (narrowOf v (addr.toNat % 4) size, t)

end Sys2Proof.Machine
end

