-- ==== Sys2Proof/Machine/Write.lean ====
section
/-!
DEFINITION. What a write of each register does (R8, R549-R568): the registers with behaviour of their own by the effects of their
chapters, every other one by storing the value, clamped; and the commands REGISTER_WRITE and SYS_CLRAERR.
-/

namespace Sys2Proof.Machine

/-! ### Registers with behaviour of their own -/

/-- A write of THR_GEN: mode 3 is stored as 0 (R341). -/
def State.writeGen (s : State) (v : Word) : State :=
  s.setReg thrGenAt (if v.bits 25 24 = 3 then v &&& 0x00FFFFFF else v)

/-- A write of a forecast slot: the COMMIT that follows starts the forecast afresh (R331). -/
def State.writeFc (s : State) (k : Fin 8) (v : Word) : State :=
  let t := s.setReg (thrFcAt k) v
  { t with thr := { t.thr with fcTouched := true } }

/-- LOG_FIRST armed, and the count of lost reports cleared (R453). -/
def State.armFirst (s : State) : State := { s with ret := { s.ret with armed := true } }
def State.zeroLost (s : State) : State := { s with ret := { s.ret with lost := 0 } }

/-- A write of LOG_CTL (R476). -/
def State.writeLogCtl (s : State) (v : Word) : State :=
  let s := if v.bit 0 then s.armFirst else s
  let s := if v.bit 1 then s.zeroLost else s
  if v.bit 2 then s.startLogErase else s

/-- SYS_AERR and SYS_AADR cleared (R559). -/
def State.clearAerr (s : State) : State := { s with sys := { cause := 0, req := 0, count := 0, addr := 0 } }

/-! ### The register space -/

/-- A write in the blocks of D0: SYS, DOM, WDG and LOG. -/
def State.writeD0 (s : State) (r : Req) (b off : Nat) (v : Word) : State :=
  match b, off with
  | 0x00, 0x20 => if v.bit 0 then s.clearAerr else s
  | 0x01, 0x04 => s.writeDomCtl v
  | 0x01, 0x08 => s.writeDomCfg v
  | 0x01, 0x14 => s.writeRtc v
  | 0x01, 0x18 => s.writeDomAlarm v
  | 0x02, 0x00 => s.writeWdgCfg r v
  | 0x02, 0x08 => s.wdgKey (v.bits 15 0)
  | 0x02, 0x20 => s.writeWdgCtl v
  | 0x02, 0x30 => s.writeHct v
  | 0x03, 0x10 => s.writeLogCtl v
  | 0x03, 0x14 => s.readRecord v
  | _, _ => s

/-- A write in the IMG block. -/
def State.writeImg (s : State) (off : Nat) (v : Word) : State :=
  match off with
  | 0x24 => s.writeImgCtl v
  | 0x28 => s.writeImgUpd v
  | _ => match slot? 0x200 4 64 off with
    | some (w, 0) => { s with img := { s.img with pbuf := vset s.img.pbuf w v } }
    | _ => s.setReg (0x040000 + off) v

/-- A write in the THR block: the shadowed registers, and COMMIT. -/
def State.writeThr (s : State) (off : Nat) (v : Word) : State :=
  match off with
  | 0x08 => s.commit v
  | 0x20 => s.writeGen v
  | _ => match slot? 0x40 4 8 off with
    | some (k, 0) => s.writeFc k v
    | _ => s.setReg (0x0D0000 + off) v

/-- A write in the RING block. -/
def State.writeRing (s : State) (authed : Bool) (off : Nat) (v : Word) : State :=
  match off with
  | 0x10 => s.writeRingCtl authed v
  | _ => match slot? 0x20 4 8 off with
    | some (w, 0) => { s with ring := { s.ring with key := vset s.ring.key w v } }
    | _ => s.setReg (0x100000 + off) v

/-- A write of an entry of the profile table (R233, R259). -/
def State.writeProf (s : State) (off : Nat) (v : Word) : State :=
  if 0xC000 ≤ off then s
  else if off % 8 = 0 then s.writeElo (off / 8) v
  else if off % 8 = 4 then s.writeEhi (off / 8) v
  else s

/-- A write to a register of a block by its offset, where the block is served: carried to the next iteration where a meeting point
carries the field (R22, R23), else acting at once. A reserved offset and a read-only register ignore it (R8, R551). -/
def State.writeBlock (s : State) (r : Req) (authed : Bool) (b off : Nat) (v : Word) : State :=
  if carries b off then s.carry (0x10000 * b + off) v
  else if b < 4 then s.writeD0 r b off v
  else match b with
    | 0x04 => s.writeImg off v
    | 0x0D => s.writeThr off v
    | 0x0E => if off = 0x10 then s.carryFlow (v.bits 3 0) (BitVec.ofNat 16 (v.bits 31 16)) else s.setReg (0x0E0000 + off) v
    | 0x10 => s.writeRing authed off v
    | 0x11 => if off = 0x04 then s.writeCanCfg v else s
    | 0x13 => s.writeProf off v
    | _ => s

/-- A word written through the register service (R551-R555). -/
def State.writeWord (s : State) (r : Req) (authed : Bool) (a : Nat) (v : Word) : State :=
  match s.accessCause a with
  | some c => s.accessError c r a
  | none => s.writeBlock r authed (a / 0x10000) (a % 0x10000) v

/-- REGISTER_WRITE: a whole word at an aligned address acts; a narrow write is discarded and recorded with cause 3 (R550). -/
def execRegisterWrite (r : Req) (addr : BitVec 24) (size : Nat) (v : Word) (s : State) : Ans :=
  if s.serviceRuns = false then .next s
  else if size ≠ 4 ∨ addr.toNat % 4 ≠ 0 then .next (s.accessError 3 r addr.toNat)
  else .next (s.writeWord r false addr.toNat v).settle

/-- SYS_CLRAERR. -/
def execSysClraerr (r : Req) (s : State) : Ans := .next (s.viaService r 0x000020 State.clearAerr)

end Sys2Proof.Machine
end

