-- ==== Sys2Proof/Machine/Ring.lean ====
section
/-!
DEFINITION. The requests that the host sends over the Sheaf Link: READ, WRITE, STAT, ASSIGN and HELLO, their replies, and the
replies the ring framer gives by itself (R510, R513, R517-R525).
-/

namespace Sys2Proof.Machine

/-! ### Requests and replies (R519-R521) -/

/-- Whether a frame is a host request of a type that the module takes: not a broadcast where authentication is required
(R524). -/
def State.takesHost (s : State) (f : Frame) (typ : Byte) : Bool :=
  s.takes f typ && f.src == 0 && !(s.authRequired && f.dst == 0xFF)

/-- The state with a request accepted: its seq, its counter in the session, and host contact (R465, R513, R525). -/
def State.accept (s : State) (f : Frame) : State := (((s.accepted f).contactBy f).usedCounter f)

/-- A request that ends in a status code of its own: nothing is executed (R519). -/
def State.refuse (s : State) (f : Frame) (status : Nat) : State :=
  (s.accept f).answer f (s.answerFrame f 0x12 (replyPayload status []))

/-- A request with its authentication and the restart of the control core judged (R519, R524); `g` is what follows. -/
def State.request (s : State) (f : Frame) (g : State → State) : State :=
  if s.authOk f = false then (s.accepted f).refuseAuth f
  else if s.serviceRuns = false then s.refuse f 1
  else g s

/-- READ and WRITE: the address, and whether it and the count are allowed (R519). -/
def addrOf (f : Frame) : Nat := (word32 (bodyOf f) 0).toNat
def addrOk (addr count : Nat) : Bool := addr % 4 == 0 && decide (addr ≤ 0xFFFFFF) && decide (1 ≤ count) && decide (count ≤ 63)

/-- The words of a READ, from an address upwards, and the state behind them (R519, R554). -/
def State.readWords (s : State) (addr : Nat) : Nat → List Word × State
  | 0 => ([], s)
  | n + 1 =>
    let (v, t) := s.readWord .host addr
    let (l, u) := t.readWords (addr + 4) n
    (v :: l, u)

/-- The words of a WRITE, one register at a time in ascending order, as one unit (R519, R554). -/
def State.writeWords (s : State) (authed : Bool) (addr : Nat) : List Word → State
  | [] => s
  | v :: l => ((s.writeWord .host authed addr v).settle).writeWords authed (addr + 4) l

/-- RING_READ: REPLY with the words read, or a status. -/
def execRingRead (f : Frame) (s : State) : Ans :=
  let n := byteAt (bodyOf f) 4
  .next (if s.takesHost f 0x10 = false then s
    else s.request f fun s =>
      if addrOk (addrOf f) n = false then s.refuse f 2
      else
        let (l, t) := (s.accept f).readWords (addrOf f) n
        t.answer f (s.answerFrame f 0x12 (replyPayload 0 l)))

/-- The words that a WRITE carries. -/
def wordsOf (f : Frame) : List Word := (List.range (((bodyOf f).length - 4) / 4)).map fun i => word32 (bodyOf f) (4 + 4 * i)

/-- RING_WRITE: the words written, REPLY with status 0, or a status. -/
def execRingWrite (f : Frame) (s : State) : Ans :=
  .next (if s.takesHost f 0x11 = false then s
    else s.request f fun s =>
      if addrOk (addrOf f) (wordsOf f).length = false ∨ (bodyOf f).length % 4 ≠ 0 then s.refuse f 2
      else ((s.accept f).writeWords (s.trailerOk f) (addrOf f) (wordsOf f)).answer f (s.answerFrame f 0x12 (replyPayload 0 [])))

/-- RING_REQUEST_BUSY: a READ or WRITE not taken within 400 us gets status 4. -/
def execRingRequestBusy (f : Frame) (us : Nat) (s : State) : Ans :=
  .next (if (s.takesHost f 0x10 = true ∨ s.takesHost f 0x11 = true) ∧ 400 < us then s.request f fun s => s.refuse f 4 else s)

/-- The STAT reply's payload (R510); while the control core restarts with the words last mirrored (R520). -/
def State.statPayload (s : State) : List Byte :=
  let run := s.serviceRuns
  wBytes (if run then s.domStat else s.ring.mirror.1) ++ wBytes (if run then s.logFsum else s.ring.mirror.2) ++
    bytes16 s.hcsLeft ++ [BitVec.ofNat 8 (s.warning.toNat + 2 * (!run).toNat), 0, 0, 0, 0, 0]

/-- RING_STAT_REQUEST: answered by the framer itself, restarting or not (R520); nothing but IDENT and REPLY leaves a module
without a position (R517). -/
def execRingStatRequest (f : Frame) (s : State) : Ans :=
  .next (if s.takesHost f 0x40 = false then s
    else if s.authOk f = false then (s.accepted f).refuseAuth f
    else
      let t := s.accept f
      if s.ring.pos = 0 then t else t.answer f (s.answerFrame f 0x40 t.statPayload))

/-- RING_RETRANSMISSION: a READ, WRITE, ASSIGN or STAT with the flag set and a known seq gets its stored reply, as it was
sent (R513). -/
def execRingRetransmission (f : Frame) (s : State) : Ans :=
  let known := f.typ = 0x10 ∨ f.typ = 0x11 ∨ f.typ = 0x03 ∨ f.typ = 0x40
  if s.ringUp = true ∧ f.src = 0 ∧ s.addressed f = true ∧ s.positioned f = true ∧ s.repeated f = true ∧ f.flags.getLsbD 1 = true ∧
      known ∧ ¬(s.authRequired = true ∧ f.dst = 0xFF) then
    if s.authOk f = false then .next (s.refuseAuth f)
    else
      let t := (s.contactBy f).usedCounter f
      match t.ring.replies.find? fun q => q.1 == f.typ.toNat && q.2.1 == f.seq.toNat with
      | some (_, _, g) => .next ((t.queueOn 0 g).queueOn 1 g)
      | none => .next t
  else .next s

/-- The frame types of R510. -/
def knownType (t : Byte) : Bool := [0x01, 0x02, 0x03, 0x10, 0x11, 0x12, 0x20, 0x21, 0x30, 0x31, 0x40].contains t.toNat

/-- RING_UNKNOWN_TYPE: REPLY with status 5, by the framer itself. -/
def execRingUnknownType (f : Frame) (s : State) : Ans :=
  .next (if s.takesHost f f.typ = false ∨ knownType f.typ = true then s
    else if s.authOk f = false then (s.accepted f).refuseAuth f
    else s.refuse f 5)

/-! ### Positions and sessions -/

/-- The position that ASSIGN gives. -/
def assignedOf (f : Frame) : Nat := byteAt f.payload 6

/-- ASSIGN: the position set or cleared, and REPLY with status 0 (R517). -/
def execAssign (f : Frame) (s : State) : Ans :=
  .next (if s.takesHost f 0x03 = false ∨ s.bySerial f = false ∨ 64 < assignedOf f then s
    else s.request f fun s =>
      let t := s.accept f
      let t := if assignedOf f = 0 then t.unplaced else { t with ring := { t.ring with pos := assignedOf f } }
      t.answer f ({ s with ring := { s.ring with pos := assignedOf f } }.answerFrame f 0x12 (replyPayload 0 [])))

/-- HELLO: a new session, answered with CHAL, whose nonce comes from the random source (R525). -/
def execHello (f : Frame) (nm : BitVec 128) (s : State) : Ans :=
  .next (if s.takesHost f 0x30 = false then s
    else if s.serviceRuns = false then s.refuse f 1
    else (((s.accepted f).contactBy f).helloEffect f nm))

end Sys2Proof.Machine
end

