-- ==== Sys2Proof/Machine/Dispatch.lean ====
section
/-! DEFINITION. The meaning of every command: one arm per row of the table, each one direct call of its meaning. -/

namespace Sys2Proof.Machine

def exec (i : Instr) (s : State) : Host.Outcome State Fault Refusal :=
  match i with
  -- Flows (R187-R220)
  | .flowCreate r h => Sys2Proof.Machine.execFlowCreate r h s
  | .flowModify r h => Sys2Proof.Machine.execFlowModify r h s
  | .flowSuspend r h => Sys2Proof.Machine.execFlowSuspend r h s
  | .flowResume r h => Sys2Proof.Machine.execFlowResume r h s
  | .flowDestroy r h => Sys2Proof.Machine.execFlowDestroy r h s
  | .flowOpInvalid r op h => Sys2Proof.Machine.execFlowOpInvalid r op h s
  | .flowOpeningDone c => Sys2Proof.Machine.execFlowOpeningDone c s
  | .flowClosingDone c cur => Sys2Proof.Machine.execFlowClosingDone c cur s
  | .flowClosingTimeout c cur => Sys2Proof.Machine.execFlowClosingTimeout c cur s
  -- Image update and activation (R395-R431)
  | .imgUpdOpen r => Sys2Proof.Machine.execImgUpdOpen r s
  | .imgUpdProgram r page => Sys2Proof.Machine.execImgUpdProgram r page s
  | .imgUpdClose r => Sys2Proof.Machine.execImgUpdClose r s
  | .imgUpdAbort r => Sys2Proof.Machine.execImgUpdAbort r s
  | .updateSessionTimeout => Sys2Proof.Machine.execUpdateSessionTimeout s
  | .imgActivate r bank drain dark => Sys2Proof.Machine.execImgActivate r bank drain dark s
  | .activationQuiescentPoint readErr prevReadErr testFailed => Sys2Proof.Machine.execActivationQuiescentPoint readErr prevReadErr testFailed s
  | .imgCancel r => Sys2Proof.Machine.execImgCancel r s
  | .activationTimeout => Sys2Proof.Machine.execActivationTimeout s
  | .bridgeHandback v heldUs => Sys2Proof.Machine.execBridgeHandback v heldUs s
  | .imgConfirm r => Sys2Proof.Machine.execImgConfirm r s
  | .trialExpiry => Sys2Proof.Machine.execTrialExpiry s
  | .imgRaisesv r => Sys2Proof.Machine.execImgRaisesv r s
  | .nvsProgramComplete ok => Sys2Proof.Machine.execNvsProgramComplete ok s
  | .nvsEraseComplete ok => Sys2Proof.Machine.execNvsEraseComplete ok s
  | .nvsOperationOvertime => Sys2Proof.Machine.execNvsOperationOvertime s
  -- Power states (R479-R506)
  | .domRun r testFailed => Sys2Proof.Machine.execDomRun r testFailed s
  | .domStandby r => Sys2Proof.Machine.execDomStandby r s
  | .domWatch r => Sys2Proof.Machine.execDomWatch r s
  | .domDormant r => Sys2Proof.Machine.execDomDormant r s
  | .idleToDormant => Sys2Proof.Machine.execIdleToDormant s
  | .stubbleDomainOff => Sys2Proof.Machine.execStubbleDomainOff s
  | .supplyStart feed hv loopClosed => Sys2Proof.Machine.execSupplyStart feed hv loopClosed s
  | .hvWake p ac mv heldMs => Sys2Proof.Machine.execHvWake p ac mv heldMs s
  | .wakeLoopRequest ohm1 ohm2 => Sys2Proof.Machine.execWakeLoopRequest ohm1 ohm2 s
  | .watchAlarm => Sys2Proof.Machine.execWatchAlarm s
  | .resetLoopClosed ohm => Sys2Proof.Machine.execResetLoopClosed ohm s
  | .resetLoopOpened ohm => Sys2Proof.Machine.execResetLoopOpened ohm s
  | .startup cal errs testFailed sensorsFailed => Sys2Proof.Machine.execStartup cal errs testFailed sensorsFailed s
  | .powerFail mv heldUs saveOk => Sys2Proof.Machine.execPowerFail mv heldUs saveOk s
  | .powerRestoredInHoldup mv heldUs => Sys2Proof.Machine.execPowerRestoredInHoldup mv heldUs s
  | .holdupSpent => Sys2Proof.Machine.execHoldupSpent s
  | .holdupNotReady lost => Sys2Proof.Machine.execHoldupNotReady lost s
  | .retentionSave ok => Sys2Proof.Machine.execRetentionSave ok s
  | .energyCheckpoint => Sys2Proof.Machine.execEnergyCheckpoint s
  | .safeLineReleased testFailed => Sys2Proof.Machine.execSafeLineReleased testFailed s
  -- Faults (R432-R444)
  | .faultOccurrence b sx obj => Sys2Proof.Machine.execFaultOccurrence b sx obj s
  | .graceTimerExpiry b sx obj => Sys2Proof.Machine.execGraceTimerExpiry b sx obj s
  | .retryDue b sx obj ok => Sys2Proof.Machine.execRetryDue b sx obj ok s
  | .faultLiveClear b sx obj => Sys2Proof.Machine.execFaultLiveClear b sx obj s
  | .fstW1cWrite r b v => Sys2Proof.Machine.execFstW1cWrite r b v s
  | .ffrcForce r b v => Sys2Proof.Machine.execFfrcForce r b v s
  | .fsevWrite r b v => Sys2Proof.Machine.execFsevWrite r b v s
  | .fmskWrite r b v => Sys2Proof.Machine.execFmskWrite r b v s
  | .parityError b => Sys2Proof.Machine.execParityError b s
  -- Event log (R445-R454)
  | .logReportArrival b sx => Sys2Proof.Machine.execLogReportArrival b sx s
  | .logGroupClose => Sys2Proof.Machine.execLogGroupClose s
  | .logCommit ok => Sys2Proof.Machine.execLogCommit ok s
  | .logStartupScan readable => Sys2Proof.Machine.execLogStartupScan readable s
  | .logRseqRead r seq => Sys2Proof.Machine.execLogRseqRead r seq s
  | .logClrfirst r => Sys2Proof.Machine.execLogClrfirst r s
  | .logClrlost r => Sys2Proof.Machine.execLogClrlost r s
  | .logErase r => Sys2Proof.Machine.execLogErase r s
  -- Watchdog and host contact (R455-R468)
  | .wdgCfgEnable r v => Sys2Proof.Machine.execWdgCfgEnable r v s
  | .wdgKeyWrite r key => Sys2Proof.Machine.execWdgKeyWrite r key s
  | .wdgExpiry => Sys2Proof.Machine.execWdgExpiry s
  | .wdgClockMonitorTrip => Sys2Proof.Machine.execWdgClockMonitorTrip s
  | .controlCoreRestartDone => Sys2Proof.Machine.execControlCoreRestartDone s
  | .wdgClrcnt r => Sys2Proof.Machine.execWdgClrcnt r s
  | .wdgHckick r => Sys2Proof.Machine.execWdgHckick r s
  | .wdgHctWrite r v => Sys2Proof.Machine.execWdgHctWrite r v s
  | .hostContactExpiry => Sys2Proof.Machine.execHostContactExpiry s
  | .hostContact f => Sys2Proof.Machine.execHostContact f s
  -- Thresher (R313-R343)
  | .thrCommit r v => Sys2Proof.Machine.execThrCommit r v s
  | .thrRoundLatch => Sys2Proof.Machine.execThrRoundLatch s
  | .thrRoundPublish handedOver setOk => Sys2Proof.Machine.execThrRoundPublish handedOver setOk s
  | .forecastExpiry => Sys2Proof.Machine.execForecastExpiry s
  | .gensetStartTimeout => Sys2Proof.Machine.execGensetStartTimeout s
  | .deferralEnd => Sys2Proof.Machine.execDeferralEnd s
  | .stookGrantLost => Sys2Proof.Machine.execStookGrantLost s
  -- Pipeline, core supply, crossings (R344-R366)
  | .pipelineWave g w => Sys2Proof.Machine.execPipelineWave g w s
  | .priorityWave g w => Sys2Proof.Machine.execPriorityWave g w s
  | .groupStall g us => Sys2Proof.Machine.execGroupStall g us s
  | .pipelineStall us => Sys2Proof.Machine.execPipelineStall us s
  | .driveCommandTimeout c us => Sys2Proof.Machine.execDriveCommandTimeout c us s
  | .coreSupplyAdjust tslow => Sys2Proof.Machine.execCoreSupplyAdjust tslow s
  | .coreSupplyFault mv heldUs => Sys2Proof.Machine.execCoreSupplyFault mv heldUs s
  | .crossingItemRaised x item => Sys2Proof.Machine.execCrossingItemRaised x item s
  | .crossingItemTaken x item lat => Sys2Proof.Machine.execCrossingItemTaken x item lat s
  | .crossingPeerReset x coreSide => Sys2Proof.Machine.execCrossingPeerReset x coreSide s
  -- Fabric (R73-R110)
  | .cellTrip c => Sys2Proof.Machine.execCellTrip c s
  | .cellStartChecksDone c o => Sys2Proof.Machine.execCellStartChecksDone c o s
  | .cellStartRetry c => Sys2Proof.Machine.execCellStartRetry c s
  | .migrationLatch o => Sys2Proof.Machine.execMigrationLatch o s
  | .migrationStepDone c => Sys2Proof.Machine.execMigrationStepDone c s
  | .migrationStepOvertime c => Sys2Proof.Machine.execMigrationStepOvertime c s
  | .shedOrder c => Sys2Proof.Machine.execShedOrder c s
  | .shedParked c share => Sys2Proof.Machine.execShedParked c share s
  | .parkHoldExpiry c => Sys2Proof.Machine.execParkHoldExpiry c s
  -- Culm, governor, stubble supply (R111-R139)
  | .culmPrechargeDone v heldUs => Sys2Proof.Machine.execCulmPrechargeDone v heldUs s
  | .shortfallShed v heldUs => Sys2Proof.Machine.execShortfallShed v heldUs s
  | .culmUnderVoltage v heldUs => Sys2Proof.Machine.execCulmUnderVoltage v heldUs s
  | .culmSurplusOpen v heldUs => Sys2Proof.Machine.execCulmSurplusOpen v heldUs s
  | .governorUpdate vStage vCulm eInd => Sys2Proof.Machine.execGovernorUpdate vStage vCulm eInd s
  | .governorTrip p item fallPct outward lt => Sys2Proof.Machine.execGovernorTrip p item fallPct outward lt s
  | .culmPceilWrite r p v => Sys2Proof.Machine.execCulmPceilWrite r p v s
  | .portDischargeEnd p v => Sys2Proof.Machine.execPortDischargeEnd p v s
  | .dischargeBoundMissed p v => Sys2Proof.Machine.execDischargeBoundMissed p v s
  | .dischargeElementHoldEnd p => Sys2Proof.Machine.execDischargeElementHoldEnd p s
  | .stubbleOverloadShed item => Sys2Proof.Machine.execStubbleOverloadShed item s
  | .stubbleSupplyTrip item => Sys2Proof.Machine.execStubbleSupplyTrip item s
  | .stubbleWindowLost v heldUs => Sys2Proof.Machine.execStubbleWindowLost v heldUs s
  -- Load branches (R119-R124)
  | .branchInstantTrip b item lt => Sys2Proof.Machine.execBranchInstantTrip b item lt s
  | .branchOverloadTrip b => Sys2Proof.Machine.execBranchOverloadTrip b s
  | .branchBackfeedTrip b rev heldUs => Sys2Proof.Machine.execBranchBackfeedTrip b rev heldUs s
  | .branchPrechargeDone b v => Sys2Proof.Machine.execBranchPrechargeDone b v s
  | .branchPrechargeFailed b v elapsedUs => Sys2Proof.Machine.execBranchPrechargeFailed b v elapsedUs s
  | .branchRetry b => Sys2Proof.Machine.execBranchRetry b s
  | .branchRestore b => Sys2Proof.Machine.execBranchRestore b s
  | .portSumOverload q sum heldUs => Sys2Proof.Machine.execPortSumOverload q sum heldUs s
  | .branchSwitchFailed b v heldUs => Sys2Proof.Machine.execBranchSwitchFailed b v heldUs s
  -- Source ports (R149-R186)
  | .srcPresenceMet p mv heldMs => Sys2Proof.Machine.execSrcPresenceMet p mv heldMs s
  | .srcPresenceLost p mv heldMs => Sys2Proof.Machine.execSrcPresenceLost p mv heldMs s
  | .srcQualificationFail p o => Sys2Proof.Machine.execSrcQualificationFail p o s
  | .srcStabilityRestart p dv df => Sys2Proof.Machine.execSrcStabilityRestart p dv df s
  | .srcQualified p o => Sys2Proof.Machine.execSrcQualified p o s
  | .arcSelfTest p detected ms => Sys2Proof.Machine.execArcSelfTest p detected ms s
  | .srcStartSupply p avail => Sys2Proof.Machine.execSrcStartSupply p avail s
  | .srcOrderedStop p => Sys2Proof.Machine.execSrcOrderedStop p s
  | .srcPvIdle p avail heldS => Sys2Proof.Machine.execSrcPvIdle p avail heldS s
  | .srcPvVocMeasure p voc est => Sys2Proof.Machine.execSrcPvVocMeasure p voc est s
  | .srcHoldTimeEnd p present riso => Sys2Proof.Machine.execSrcHoldTimeEnd p present riso s
  | .srcLoss p o => Sys2Proof.Machine.execSrcLoss p o s
  | .handOverComplete p durUs droop => Sys2Proof.Machine.execHandOverComplete p durUs droop s
  | .arcDetected p metric => Sys2Proof.Machine.execArcDetected p metric s
  | .srcOvercurrent p item heldUs => Sys2Proof.Machine.execSrcOvercurrent p item heldUs s
  | .srcHaltReleased p => Sys2Proof.Machine.execSrcHaltReleased p s
  | .srcRearm r p => Sys2Proof.Machine.execSrcRearm r p s
  | .srcRequal r p => Sys2Proof.Machine.execSrcRequal r p s
  | .srcSweep r p => Sys2Proof.Machine.execSrcSweep r p s
  | .mpptPerturb p power => Sys2Proof.Machine.execMpptPerturb p power s
  | .mpptSweepStart p fallPct => Sys2Proof.Machine.execMpptSweepStart p fallPct s
  | .mpptSweepDone p best => Sys2Proof.Machine.execMpptSweepDone p best s
  | .flapClear p => Sys2Proof.Machine.execFlapClear p s
  -- Battery ports (R221-R227)
  | .batTerminalInRange p mv => Sys2Proof.Machine.execBatTerminalInRange p mv s
  | .batQualifyTimeEnd p mv varPct10 => Sys2Proof.Machine.execBatQualifyTimeEnd p mv varPct10 s
  | .batPrechargeDone p vStage vTerm => Sys2Proof.Machine.execBatPrechargeDone p vStage vTerm s
  | .batPrechargeFailed p vStage vTerm => Sys2Proof.Machine.execBatPrechargeFailed p vStage vTerm s
  | .batAbsenceDetected p vTerm cur cmd heldNs clampE => Sys2Proof.Machine.execBatAbsenceDetected p vTerm cur cmd heldNs clampE s
  | .batProbe p fall => Sys2Proof.Machine.execBatProbe p fall s
  | .batHaltRelease p => Sys2Proof.Machine.execBatHaltRelease p s
  | .batOutOfRange p mv heldMs => Sys2Proof.Machine.execBatOutOfRange p mv heldMs s
  | .batIsolate r p => Sys2Proof.Machine.execBatIsolate r p s
  | .batIsolateSwitchOpen p cur heldUs => Sys2Proof.Machine.execBatIsolateSwitchOpen p cur heldUs s
  | .batConnect r p => Sys2Proof.Machine.execBatConnect r p s
  | .batRearm r p => Sys2Proof.Machine.execBatRearm r p s
  | .batOvercurrent p cur heldUs => Sys2Proof.Machine.execBatOvercurrent p cur heldUs s
  | .ntcFault p ohm => Sys2Proof.Machine.execNtcFault p ohm s
  -- Charging (R228-R249)
  | .chgQualifyCheck p ocv => Sys2Proof.Machine.execChgQualifyCheck p ocv s
  | .chgPhaseTransition p => Sys2Proof.Machine.execChgPhaseTransition p s
  | .phaseTmax p => Sys2Proof.Machine.execPhaseTmax p s
  | .safetyTimerExpiry p => Sys2Proof.Machine.execSafetyTimerExpiry p s
  | .preconditionCeilingHeld p mv heldS => Sys2Proof.Machine.execPreconditionCeilingHeld p mv heldS s
  | .absorbExit p cur heldS => Sys2Proof.Machine.execAbsorbExit p cur heldS s
  | .finishExit p rise01mV heldMin => Sys2Proof.Machine.execFinishExit p rise01mV heldMin s
  | .floatRebulk p mv cur heldS => Sys2Proof.Machine.execFloatRebulk p mv cur heldS s
  | .restRestartVoltage p mv heldS => Sys2Proof.Machine.execRestRestartVoltage p mv heldS s
  | .equalizeDue p => Sys2Proof.Machine.execEqualizeDue p s
  | .chgEq r p => Sys2Proof.Machine.execChgEq r p s
  | .chgEqcancel r p => Sys2Proof.Machine.execChgEqcancel r p s
  | .chgRestart r p => Sys2Proof.Machine.execChgRestart r p s
  | .thermalHold p tLow tHigh => Sys2Proof.Machine.execThermalHold p tLow tHigh s
  | .dvSample p vCell01 cur => Sys2Proof.Machine.execDvSample p vCell01 cur s
  | .dtdtSample p t slope heldS => Sys2Proof.Machine.execDtdtSample p t slope heldS s
  | .nickelHoldoffEnd p => Sys2Proof.Machine.execNickelHoldoffEnd p s
  | .kneeAnswer p a => Sys2Proof.Machine.execKneeAnswer p a s
  | .chgOverVoltage p mv heldMs => Sys2Proof.Machine.execChgOverVoltage p mv heldMs s
  | .bmsLivenessTimeout p => Sys2Proof.Machine.execBmsLivenessTimeout p s
  | .bmsVoltageExceeded p mv heldMs => Sys2Proof.Machine.execBmsVoltageExceeded p mv heldMs s
  | .profEloWrite r n v => Sys2Proof.Machine.execProfEloWrite r n v s
  | .profEhiWrite r n v => Sys2Proof.Machine.execProfEhiWrite r n v s
  | .profEloRead r n => Sys2Proof.Machine.execProfEloRead r n s
  | .profChkRequest r ref => Sys2Proof.Machine.execProfChkRequest r ref s
  -- Estimation (R260-R277)
  | .estPointDone p k re im iPert vPeak culmPk => Sys2Proof.Machine.execEstPointDone p k re im iPert vPeak culmPk s
  | .estSweepStart p => Sys2Proof.Machine.execEstSweepStart p s
  | .estSweepDone p => Sys2Proof.Machine.execEstSweepDone p s
  | .estSweepPauseExpiry p => Sys2Proof.Machine.execEstSweepPauseExpiry p s
  | .kneeBaseline p z1 z100 => Sys2Proof.Machine.execKneeBaseline p z1 z100 s
  | .kneeCheck p z1 z100 => Sys2Proof.Machine.execKneeCheck p z1 z100 s
  | .estSweep r p => Sys2Proof.Machine.execEstSweep r p s
  | .estAbort r p => Sys2Proof.Machine.execEstAbort r p s
  | .estNewbat r p => Sys2Proof.Machine.execEstNewbat r p s
  | .socCorrection p ev vCell01 => Sys2Proof.Machine.execSocCorrection p ev vCell01 s
  | .estSave => Sys2Proof.Machine.execEstSave s
  -- Thermal (R284-R307)
  | .thmSample raw => Sys2Proof.Machine.execThmSample raw s
  | .throttleTick => Sys2Proof.Machine.execThrottleTick s
  | .throttleRecovery => Sys2Proof.Machine.execThrottleRecovery s
  | .thermalShutdownReturn => Sys2Proof.Machine.execThermalShutdownReturn s
  | .sensorRetry sx raw => Sys2Proof.Machine.execSensorRetry sx raw s
  | .sensorReturn sx raw => Sys2Proof.Machine.execSensorReturn sx raw s
  | .throttleHoldEnd => Sys2Proof.Machine.execThrottleHoldEnd s
  | .dieOverTemperature c heldMs => Sys2Proof.Machine.execDieOverTemperature c heldMs s
  | .fanFailed f speedPct heldMs => Sys2Proof.Machine.execFanFailed f speedPct heldMs s
  | .fanRetry f reached rpm => Sys2Proof.Machine.execFanRetry f reached rpm s
  | .thmHistorySave => Sys2Proof.Machine.execThmHistorySave s
  | .modelConverged => Sys2Proof.Machine.execModelConverged s
  | .modelInvalid bad heldS => Sys2Proof.Machine.execModelInvalid bad heldS s
  -- Feeder (R367-R376)
  | .feederStartRequest p mv => Sys2Proof.Machine.execFeederStartRequest p mv s
  | .feederCheckPassed p vTerm vStage heldMs => Sys2Proof.Machine.execFeederCheckPassed p vTerm vStage heldMs s
  | .feederPrebiasDone p mv checksOk => Sys2Proof.Machine.execFeederPrebiasDone p mv checksOk s
  | .feederPrebiasTimeout p => Sys2Proof.Machine.execFeederPrebiasTimeout p s
  | .feederLimiting p vOut heldUs => Sys2Proof.Machine.execFeederLimiting p vOut heldUs s
  | .feederUnderVoltage p vOut heldMs => Sys2Proof.Machine.execFeederUnderVoltage p vOut heldMs s
  | .feederOverVoltage p vOut heldUs => Sys2Proof.Machine.execFeederOverVoltage p vOut heldUs s
  | .feederReverseCurrent p cur heldUs => Sys2Proof.Machine.execFeederReverseCurrent p cur heldUs s
  | .feederStop p => Sys2Proof.Machine.execFeederStop p s
  | .feederStopped p cur => Sys2Proof.Machine.execFeederStopped p cur s
  | .feederYield p vCulm heldUs => Sys2Proof.Machine.execFeederYield p vCulm heldUs s
  | .feederHaltReleased p vStage => Sys2Proof.Machine.execFeederHaltReleased p vStage s
  -- Awn link (R377-R389)
  | .awnSetpointFrame w => Sys2Proof.Machine.execAwnSetpointFrame w s
  | .awnQueryFrame w => Sys2Proof.Machine.execAwnQueryFrame w s
  | .awnKeepaliveFrame w => Sys2Proof.Machine.execAwnKeepaliveFrame w s
  | .awnReservedOpFrame w => Sys2Proof.Machine.execAwnReservedOpFrame w s
  | .awnFrameDiscarded => Sys2Proof.Machine.execAwnFrameDiscarded s
  | .awnSetpointArbitrate => Sys2Proof.Machine.execAwnSetpointArbitrate s
  | .awnSettled v heldUs => Sys2Proof.Machine.execAwnSettled v heldUs s
  | .awnUnsettled v => Sys2Proof.Machine.execAwnUnsettled v s
  | .awnLinkUp w => Sys2Proof.Machine.execAwnLinkUp w s
  | .awnLinkDown violations => Sys2Proof.Machine.execAwnLinkDown violations s
  | .awnLossholdExpiry => Sys2Proof.Machine.execAwnLossholdExpiry s
  | .awnStatusPeriod => Sys2Proof.Machine.execAwnStatusPeriod s
  | .awnReplyTransmit => Sys2Proof.Machine.execAwnReplyTransmit s
  | .awnCfgWrite r v => Sys2Proof.Machine.execAwnCfgWrite r v s
  -- Sheaf Link (R507-R529)
  | .ringSideUp sx aligned => Sys2Proof.Machine.execRingSideUp sx aligned s
  | .ringSideDown sx violations silentUs => Sys2Proof.Machine.execRingSideDown sx violations silentUs s
  | .ringFrameForward sx f crcOk => Sys2Proof.Machine.execRingFrameForward sx f crcOk s
  | .discover sx f => Sys2Proof.Machine.execDiscover sx f s
  | .identPeriodic => Sys2Proof.Machine.execIdentPeriodic s
  | .assign f => Sys2Proof.Machine.execAssign f s
  | .ringRead f => Sys2Proof.Machine.execRingRead f s
  | .ringWrite f => Sys2Proof.Machine.execRingWrite f s
  | .ringStatRequest f => Sys2Proof.Machine.execRingStatRequest f s
  | .ringRetransmission f => Sys2Proof.Machine.execRingRetransmission f s
  | .ringUnknownType f => Sys2Proof.Machine.execRingUnknownType f s
  | .ringRequestBusy f us => Sys2Proof.Machine.execRingRequestBusy f us s
  | .hello f nm => Sys2Proof.Machine.execHello f nm s
  | .stook f => Sys2Proof.Machine.execStook f s
  | .exchSend => Sys2Proof.Machine.execExchSend s
  | .exchReceived f => Sys2Proof.Machine.execExchReceived f s
  | .exchEvaluation => Sys2Proof.Machine.execExchEvaluation s
  | .stookMissing => Sys2Proof.Machine.execStookMissing s
  | .peerSilent c => Sys2Proof.Machine.execPeerSilent c s
  | .positionConflict f => Sys2Proof.Machine.execPositionConflict f s
  | .ringKeyprog r authed => Sys2Proof.Machine.execRingKeyprog r authed s
  | .ringEndsess r => Sys2Proof.Machine.execRingEndsess r s
  | .ringClrcnt r => Sys2Proof.Machine.execRingClrcnt r s
  -- CAN FD (R530-R538)
  | .canLimitsFrame k data => Sys2Proof.Machine.execCanLimitsFrame k data s
  | .canStateFrame k data => Sys2Proof.Machine.execCanStateFrame k data s
  | .moduleStatusSend p => Sys2Proof.Machine.execModuleStatusSend p s
  | .canBusOff => Sys2Proof.Machine.execCanBusOff s
  | .canErrorPassive => Sys2Proof.Machine.execCanErrorPassive s
  | .canBusDominant us => Sys2Proof.Machine.execCanBusDominant us s
  | .canCfgWrite r v => Sys2Proof.Machine.execCanCfgWrite r v s
  -- Remaining register commands (R485, R559, R561)
  | .domRtcWrite r v => Sys2Proof.Machine.execDomRtcWrite r v s
  | .sysClraerr r => Sys2Proof.Machine.execSysClraerr r s
  | .registerWrite r addr size v => Sys2Proof.Machine.execRegisterWrite r addr size v s
  -- Further events
  | .bmsDischargeLimitExpiry p => Sys2Proof.Machine.execBmsDischargeLimitExpiry p s
  | .holdupStoreReady => Sys2Proof.Machine.execHoldupStoreReady s
  | .canFrameSent => Sys2Proof.Machine.execCanFrameSent s
  | .ringOwnFrameSent sx => Sys2Proof.Machine.execRingOwnFrameSent sx s
  | .canErrorActiveRegained tec recx => Sys2Proof.Machine.execCanErrorActiveRegained tec recx s

end Sys2Proof.Machine
end

