-- ==== Sys2Proof/Machine/Tick.lean ====
section
/-!
DEFINITION. What time does when no command waits: one microsecond passes, after the effects that the spec puts at the next
pipeline iteration (R34, R196, R205, R434-R440). DESIGN CHOICE, assumption 1.
-/

namespace Sys2Proof.Machine

/-- A ring side that is Down begins Training at once (R508). -/
def SideRec.train (x : SideRec) : SideRec := if x.st = 0 then { x with st := 1 } else x

/-- The Awn link (R379), and the sides of the ring (R508). -/
def State.retrainAwn (s : State) : State :=
  if s.awn.link = .down then { s with awn := { s.awn with link := .training } } else s
def State.retrainRing (s : State) : State :=
  if s.domOn 1 then { s with ring := { s.ring with sides := s.ring.sides.map SideRec.train } } else s

/-- Links that are Down begin Training at once. -/
def State.retrain (s : State) : State :=
  (s.retrainAwn).retrainRing

/-- The iteration: what was deferred to it, flows that become Free, the bridge's level reached, idleness, Run and Degraded
(R482), the estimator (R266, R275), the feed of the housekeeping supply (R67), the drain of the culm (R135), and writes of the store put off (R298). -/
def State.nextIteration (s : State) : State :=
  ((((((((s.iterate.freeLeaving).bridge).followEsts).followIdle).followDegraded).followFeed).drainCulm).writeDue).iterationEnds

/-- The management processor mirrors DOM_STAT and LOG_FSUM into D1 every 10 ms (R520). -/
def State.mirrors (s : State) : State :=
  if s.serviceRuns = true ∧ s.now % 10000 = 0 then { s with ring := { s.ring with mirror := (s.domStat, s.logFsum) } } else s

/-- One microsecond. -/
def State.elapse (s : State) : State := { s with now := s.now + 1 }

/-- The tick. -/
def State.tick (s : State) : State := (s.nextIteration.retrain.mirrors).elapse

end Sys2Proof.Machine
end

