-- ==== Sys2Proof/Safety.lean ====
section
/-!
DEFINITION. What statements say of runs: the families of commands, which parts of the state each command can change, and the
invariant of the module's stores.
-/

namespace Sys2Proof.Machine

/-- The fields of the state, by name. -/
inductive Fld where
  | pending | now | freeN | deferred | flt | safeLine | halt | x3 | xing | xslots | rw | nv | prof | log | wdg
  | host | ret | slots | dom | img | nvs | sys | fuse | fab | groups | cells | culm | gov | branches | loads | src
  | hov | flow | ctx | bat | fdr | chg | profIO | bms | est | thm | thr | sense | awn | ring | can | energy
  deriving DecidableEq, Repr

/-- The state with the fields of a list set aside: two states that are equal so agree on every other field. -/
def State.but (s : State) (m : List Fld) : State :=
  { pending := if .pending ∈ m then State.reset.pending else s.pending
    now := if .now ∈ m then State.reset.now else s.now
    freeN := if .freeN ∈ m then State.reset.freeN else s.freeN
    deferred := if .deferred ∈ m then State.reset.deferred else s.deferred
    flt := if .flt ∈ m then State.reset.flt else s.flt
    safeLine := if .safeLine ∈ m then State.reset.safeLine else s.safeLine
    halt := if .halt ∈ m then State.reset.halt else s.halt
    x3 := if .x3 ∈ m then State.reset.x3 else s.x3
    xing := if .xing ∈ m then State.reset.xing else s.xing
    xslots := if .xslots ∈ m then State.reset.xslots else s.xslots
    rw := if .rw ∈ m then State.reset.rw else s.rw
    nv := if .nv ∈ m then State.reset.nv else s.nv
    prof := if .prof ∈ m then State.reset.prof else s.prof
    log := if .log ∈ m then State.reset.log else s.log
    wdg := if .wdg ∈ m then State.reset.wdg else s.wdg
    host := if .host ∈ m then State.reset.host else s.host
    ret := if .ret ∈ m then State.reset.ret else s.ret
    slots := if .slots ∈ m then State.reset.slots else s.slots
    dom := if .dom ∈ m then State.reset.dom else s.dom
    img := if .img ∈ m then State.reset.img else s.img
    nvs := if .nvs ∈ m then State.reset.nvs else s.nvs
    sys := if .sys ∈ m then State.reset.sys else s.sys
    fuse := if .fuse ∈ m then State.reset.fuse else s.fuse
    fab := if .fab ∈ m then State.reset.fab else s.fab
    groups := if .groups ∈ m then State.reset.groups else s.groups
    cells := if .cells ∈ m then State.reset.cells else s.cells
    culm := if .culm ∈ m then State.reset.culm else s.culm
    gov := if .gov ∈ m then State.reset.gov else s.gov
    branches := if .branches ∈ m then State.reset.branches else s.branches
    loads := if .loads ∈ m then State.reset.loads else s.loads
    src := if .src ∈ m then State.reset.src else s.src
    hov := if .hov ∈ m then State.reset.hov else s.hov
    flow := if .flow ∈ m then State.reset.flow else s.flow
    ctx := if .ctx ∈ m then State.reset.ctx else s.ctx
    bat := if .bat ∈ m then State.reset.bat else s.bat
    fdr := if .fdr ∈ m then State.reset.fdr else s.fdr
    chg := if .chg ∈ m then State.reset.chg else s.chg
    profIO := if .profIO ∈ m then State.reset.profIO else s.profIO
    bms := if .bms ∈ m then State.reset.bms else s.bms
    est := if .est ∈ m then State.reset.est else s.est
    thm := if .thm ∈ m then State.reset.thm else s.thm
    thr := if .thr ∈ m then State.reset.thr else s.thr
    sense := if .sense ∈ m then State.reset.sense else s.sense
    awn := if .awn ∈ m then State.reset.awn else s.awn
    ring := if .ring ∈ m then State.reset.ring else s.ring
    can := if .can ∈ m then State.reset.can else s.can
    energy := if .energy ∈ m then State.reset.energy else s.energy }

/-- Every field but those of a list is the same in both states. -/
def ChangesOnly (m : List Fld) (s t : State) : Prop := t.but m = s.but m

/-- Whether the register service carries out an access to an address: it runs, and the address has no access error (R551-R555). -/
def State.serves (s : State) (a : Nat) : Prop := s.serviceRuns = true ∧ s.accessCause a = none

/-- Whether an occurrence of a source on an object takes effect: the block has the source, its cause is not already present on
the object, and it is not masked (R433, R436). -/
def State.canOccur (s : State) (b : Blk) (src : Src) (obj : Nat) : Prop :=
  hasSource b.val src.val = true ∧ s.flt[b].live.contains ⟨src, obj⟩ = false ∧ s.masked b src = false

/-- The status bit of a source (R434). -/
def State.raised (s : State) (b : Blk) (src : Src) : Bool := s.flt[b].fst.getLsbD src.val

/-- The families of commands, by the chapters of the spec. -/
inductive Family where
  | flows | image | power | faults | log | watchdog | thresher | pipeline | fabric | culm | load
  | source | battery | charging | estimation | thermal | feeder | awn | ring | can | registers
  deriving DecidableEq, Repr

/-- The family of a command. -/
def family : Instr → Family
  | .flowCreate _ _ => .flows
  | .flowModify _ _ => .flows
  | .flowSuspend _ _ => .flows
  | .flowResume _ _ => .flows
  | .flowDestroy _ _ => .flows
  | .flowOpInvalid _ _ _ => .flows
  | .flowOpeningDone _ => .flows
  | .flowClosingDone _ _ => .flows
  | .flowClosingTimeout _ _ => .flows
  | .imgUpdOpen _ => .image
  | .imgUpdProgram _ _ => .image
  | .imgUpdClose _ => .image
  | .imgUpdAbort _ => .image
  | .updateSessionTimeout => .image
  | .imgActivate _ _ _ _ => .image
  | .activationQuiescentPoint _ _ _ => .image
  | .imgCancel _ => .image
  | .activationTimeout => .image
  | .bridgeHandback _ _ => .image
  | .imgConfirm _ => .image
  | .trialExpiry => .image
  | .imgRaisesv _ => .image
  | .nvsProgramComplete _ => .image
  | .nvsEraseComplete _ => .image
  | .nvsOperationOvertime => .image
  | .domRun _ _ => .power
  | .domStandby _ => .power
  | .domWatch _ => .power
  | .domDormant _ => .power
  | .idleToDormant => .power
  | .stubbleDomainOff => .power
  | .supplyStart _ _ _ => .power
  | .hvWake _ _ _ _ => .power
  | .wakeLoopRequest _ _ => .power
  | .watchAlarm => .power
  | .resetLoopClosed _ => .power
  | .resetLoopOpened _ => .power
  | .startup _ _ _ _ => .power
  | .powerFail _ _ _ => .power
  | .powerRestoredInHoldup _ _ => .power
  | .holdupSpent => .power
  | .holdupNotReady _ => .power
  | .retentionSave _ => .power
  | .energyCheckpoint => .power
  | .safeLineReleased _ => .power
  | .faultOccurrence _ _ _ => .faults
  | .graceTimerExpiry _ _ _ => .faults
  | .retryDue _ _ _ _ => .faults
  | .faultLiveClear _ _ _ => .faults
  | .fstW1cWrite _ _ _ => .faults
  | .ffrcForce _ _ _ => .faults
  | .fsevWrite _ _ _ => .faults
  | .fmskWrite _ _ _ => .faults
  | .parityError _ => .faults
  | .logReportArrival _ _ => .log
  | .logGroupClose => .log
  | .logCommit _ => .log
  | .logStartupScan _ => .log
  | .logRseqRead _ _ => .log
  | .logClrfirst _ => .log
  | .logClrlost _ => .log
  | .logErase _ => .log
  | .wdgCfgEnable _ _ => .watchdog
  | .wdgKeyWrite _ _ => .watchdog
  | .wdgExpiry => .watchdog
  | .wdgClockMonitorTrip => .watchdog
  | .controlCoreRestartDone => .watchdog
  | .wdgClrcnt _ => .watchdog
  | .wdgHckick _ => .watchdog
  | .wdgHctWrite _ _ => .watchdog
  | .hostContactExpiry => .watchdog
  | .hostContact _ => .watchdog
  | .thrCommit _ _ => .thresher
  | .thrRoundLatch => .thresher
  | .thrRoundPublish _ _ => .thresher
  | .forecastExpiry => .thresher
  | .gensetStartTimeout => .thresher
  | .deferralEnd => .thresher
  | .stookGrantLost => .thresher
  | .pipelineWave _ _ => .pipeline
  | .priorityWave _ _ => .pipeline
  | .groupStall _ _ => .pipeline
  | .pipelineStall _ => .pipeline
  | .driveCommandTimeout _ _ => .pipeline
  | .coreSupplyAdjust _ => .pipeline
  | .coreSupplyFault _ _ => .pipeline
  | .crossingItemRaised _ _ => .pipeline
  | .crossingItemTaken _ _ _ => .pipeline
  | .crossingPeerReset _ _ => .pipeline
  | .cellTrip _ => .fabric
  | .cellStartChecksDone _ _ => .fabric
  | .cellStartRetry _ => .fabric
  | .migrationLatch _ => .fabric
  | .migrationStepDone _ => .fabric
  | .migrationStepOvertime _ => .fabric
  | .shedOrder _ => .fabric
  | .shedParked _ _ => .fabric
  | .parkHoldExpiry _ => .fabric
  | .culmPrechargeDone _ _ => .culm
  | .shortfallShed _ _ => .culm
  | .culmUnderVoltage _ _ => .culm
  | .culmSurplusOpen _ _ => .culm
  | .governorUpdate _ _ _ => .culm
  | .governorTrip _ _ _ _ _ => .culm
  | .culmPceilWrite _ _ _ => .culm
  | .portDischargeEnd _ _ => .culm
  | .dischargeBoundMissed _ _ => .culm
  | .dischargeElementHoldEnd _ => .culm
  | .stubbleOverloadShed _ => .culm
  | .stubbleSupplyTrip _ => .culm
  | .stubbleWindowLost _ _ => .culm
  | .branchInstantTrip _ _ _ => .load
  | .branchOverloadTrip _ => .load
  | .branchBackfeedTrip _ _ _ => .load
  | .branchPrechargeDone _ _ => .load
  | .branchPrechargeFailed _ _ _ => .load
  | .branchRetry _ => .load
  | .branchRestore _ => .load
  | .portSumOverload _ _ _ => .load
  | .branchSwitchFailed _ _ _ => .load
  | .srcPresenceMet _ _ _ => .source
  | .srcPresenceLost _ _ _ => .source
  | .srcQualificationFail _ _ => .source
  | .srcStabilityRestart _ _ _ => .source
  | .srcQualified _ _ => .source
  | .arcSelfTest _ _ _ => .source
  | .srcStartSupply _ _ => .source
  | .srcOrderedStop _ => .source
  | .srcPvIdle _ _ _ => .source
  | .srcPvVocMeasure _ _ _ => .source
  | .srcHoldTimeEnd _ _ _ => .source
  | .srcLoss _ _ => .source
  | .handOverComplete _ _ _ => .source
  | .arcDetected _ _ => .source
  | .srcOvercurrent _ _ _ => .source
  | .srcHaltReleased _ => .source
  | .srcRearm _ _ => .source
  | .srcRequal _ _ => .source
  | .srcSweep _ _ => .source
  | .mpptPerturb _ _ => .source
  | .mpptSweepStart _ _ => .source
  | .mpptSweepDone _ _ => .source
  | .flapClear _ => .source
  | .batTerminalInRange _ _ => .battery
  | .batQualifyTimeEnd _ _ _ => .battery
  | .batPrechargeDone _ _ _ => .battery
  | .batPrechargeFailed _ _ _ => .battery
  | .batAbsenceDetected _ _ _ _ _ _ => .battery
  | .batProbe _ _ => .battery
  | .batHaltRelease _ => .battery
  | .batOutOfRange _ _ _ => .battery
  | .batIsolate _ _ => .battery
  | .batIsolateSwitchOpen _ _ _ => .battery
  | .batConnect _ _ => .battery
  | .batRearm _ _ => .battery
  | .batOvercurrent _ _ _ => .battery
  | .ntcFault _ _ => .battery
  | .chgQualifyCheck _ _ => .charging
  | .chgPhaseTransition _ => .charging
  | .phaseTmax _ => .charging
  | .safetyTimerExpiry _ => .charging
  | .preconditionCeilingHeld _ _ _ => .charging
  | .absorbExit _ _ _ => .charging
  | .finishExit _ _ _ => .charging
  | .floatRebulk _ _ _ _ => .charging
  | .restRestartVoltage _ _ _ => .charging
  | .equalizeDue _ => .charging
  | .chgEq _ _ => .charging
  | .chgEqcancel _ _ => .charging
  | .chgRestart _ _ => .charging
  | .thermalHold _ _ _ => .charging
  | .dvSample _ _ _ => .charging
  | .dtdtSample _ _ _ _ => .charging
  | .nickelHoldoffEnd _ => .charging
  | .kneeAnswer _ _ => .charging
  | .chgOverVoltage _ _ _ => .charging
  | .bmsLivenessTimeout _ => .charging
  | .bmsVoltageExceeded _ _ _ => .charging
  | .profEloWrite _ _ _ => .charging
  | .profEhiWrite _ _ _ => .charging
  | .profEloRead _ _ => .charging
  | .profChkRequest _ _ => .charging
  | .estPointDone _ _ _ _ _ _ _ => .estimation
  | .estSweepStart _ => .estimation
  | .estSweepDone _ => .estimation
  | .estSweepPauseExpiry _ => .estimation
  | .kneeBaseline _ _ _ => .estimation
  | .kneeCheck _ _ _ => .estimation
  | .estSweep _ _ => .estimation
  | .estAbort _ _ => .estimation
  | .estNewbat _ _ => .estimation
  | .socCorrection _ _ _ => .estimation
  | .estSave => .estimation
  | .thmSample _ => .thermal
  | .throttleTick => .thermal
  | .throttleRecovery => .thermal
  | .thermalShutdownReturn => .thermal
  | .sensorRetry _ _ => .thermal
  | .sensorReturn _ _ => .thermal
  | .throttleHoldEnd => .thermal
  | .dieOverTemperature _ _ => .thermal
  | .fanFailed _ _ _ => .thermal
  | .fanRetry _ _ _ => .thermal
  | .thmHistorySave => .thermal
  | .modelConverged => .thermal
  | .modelInvalid _ _ => .thermal
  | .feederStartRequest _ _ => .feeder
  | .feederCheckPassed _ _ _ _ => .feeder
  | .feederPrebiasDone _ _ _ => .feeder
  | .feederPrebiasTimeout _ => .feeder
  | .feederLimiting _ _ _ => .feeder
  | .feederUnderVoltage _ _ _ => .feeder
  | .feederOverVoltage _ _ _ => .feeder
  | .feederReverseCurrent _ _ _ => .feeder
  | .feederStop _ => .feeder
  | .feederStopped _ _ => .feeder
  | .feederYield _ _ _ => .feeder
  | .feederHaltReleased _ _ => .feeder
  | .awnSetpointFrame _ => .awn
  | .awnQueryFrame _ => .awn
  | .awnKeepaliveFrame _ => .awn
  | .awnReservedOpFrame _ => .awn
  | .awnFrameDiscarded => .awn
  | .awnSetpointArbitrate => .awn
  | .awnSettled _ _ => .awn
  | .awnUnsettled _ => .awn
  | .awnLinkUp _ => .awn
  | .awnLinkDown _ => .awn
  | .awnLossholdExpiry => .awn
  | .awnStatusPeriod => .awn
  | .awnReplyTransmit => .awn
  | .awnCfgWrite _ _ => .awn
  | .ringSideUp _ _ => .ring
  | .ringSideDown _ _ _ => .ring
  | .ringFrameForward _ _ _ => .ring
  | .discover _ _ => .ring
  | .identPeriodic => .ring
  | .assign _ => .ring
  | .ringRead _ => .ring
  | .ringWrite _ => .ring
  | .ringStatRequest _ => .ring
  | .ringRetransmission _ => .ring
  | .ringUnknownType _ => .ring
  | .ringRequestBusy _ _ => .ring
  | .hello _ _ => .ring
  | .stook _ => .ring
  | .exchSend => .ring
  | .exchReceived _ => .ring
  | .exchEvaluation => .ring
  | .stookMissing => .ring
  | .peerSilent _ => .ring
  | .positionConflict _ => .ring
  | .ringKeyprog _ _ => .ring
  | .ringEndsess _ => .ring
  | .ringClrcnt _ => .ring
  | .canLimitsFrame _ _ => .can
  | .canStateFrame _ _ => .can
  | .moduleStatusSend _ => .can
  | .canBusOff => .can
  | .canErrorPassive => .can
  | .canBusDominant _ => .can
  | .canCfgWrite _ _ => .can
  | .domRtcWrite _ _ => .registers
  | .sysClraerr _ => .registers
  | .registerWrite _ _ _ _ => .registers
  | .bmsDischargeLimitExpiry _ => .charging
  | .holdupStoreReady => .power
  | .canFrameSent => .can
  | .ringOwnFrameSent _ => .ring
  | .canErrorActiveRegained _ _ => .can

/-- What the hardware events of the moment can change: flows follow them, groups starve or recover, charge engines follow
their flows. -/
def settling : List Fld := [.groups, .ctx, .chg]

/-- What an occurrence of a fault source can change: the fault state and its report, the lines, and what the lines stop. -/
def reactions : List Fld :=
  [.deferred, .flt, .safeLine, .halt, .x3, .xing, .log, .ret, .dom, .img, .fab, .groups, .cells, .culm, .branches, .src, .ctx, .bat, .fdr, .chg, .est, .thr, .awn]

/-- What a command can change that reaches the whole register space, or restarts domains: all but the queue and the time. -/
def anything : List Fld :=
  [.freeN, .deferred, .flt, .safeLine, .halt, .x3, .xing, .xslots, .rw, .nv, .prof, .log, .wdg, .host, .ret,
   .slots, .dom, .img, .nvs, .sys, .fuse, .fab, .groups, .cells, .culm, .gov, .branches, .loads, .src, .hov,
   .flow, .ctx, .bat, .fdr, .chg, .profIO, .bms, .est, .thm, .thr, .sense, .awn, .ring, .can, .energy]

/-- What a command can change. Every other field stays as it is. -/
def footprint : Instr → List Fld
  | .flowCreate _ _ => [.deferred, .sys, .flow]
  | .flowModify _ _ => [.deferred, .sys, .flow]
  | .flowSuspend _ _ => [.deferred, .sys, .flow]
  | .flowResume _ _ => [.deferred, .sys, .flow]
  | .flowDestroy _ _ => [.deferred, .sys, .flow]
  | .flowOpInvalid _ _ _ => [.deferred, .sys, .flow]
  | .flowOpeningDone _ => settling
  | .flowClosingDone _ _ => [.xslots] ++ settling
  | .flowClosingTimeout _ _ => reactions
  | .imgUpdOpen _ => [.nvs, .sys] ++ reactions
  | .imgUpdProgram _ _ => [.nvs, .sys] ++ reactions
  | .imgUpdClose _ => [.sys] ++ reactions
  | .imgUpdAbort _ => [.img, .sys]
  | .updateSessionTimeout => reactions
  | .imgActivate _ _ _ _ => [.sys] ++ reactions
  | .activationQuiescentPoint _ _ _ => [.freeN, .xslots, .rw, .nv, .prof, .host, .nvs, .gov, .thm, .sense, .ring, .can] ++ reactions
  | .imgCancel _ => [.img, .sys, .culm]
  | .activationTimeout => [.img, .culm]
  | .bridgeHandback _ _ => [.img, .culm, .branches]
  | .imgConfirm _ => [.img, .sys]
  | .trialExpiry => reactions
  | .imgRaisesv _ => [.sys, .fuse]
  | .nvsProgramComplete _ => [.freeN, .nv, .nvs] ++ reactions
  | .nvsEraseComplete _ => [.freeN, .nv, .nvs] ++ reactions
  | .nvsOperationOvertime => reactions
  | .domRun _ _ => [.freeN, .xslots, .rw, .nv, .nvs, .sys, .ring, .can] ++ reactions
  | .domStandby _ => [.freeN, .xslots, .sys] ++ reactions
  | .domWatch _ => anything
  | .domDormant _ => anything
  | .idleToDormant => anything
  | .stubbleDomainOff => [.freeN, .xslots] ++ reactions
  | .supplyStart _ _ _ => anything
  | .hvWake _ _ _ _ => anything
  | .wakeLoopRequest _ _ => anything
  | .watchAlarm => anything
  | .resetLoopClosed _ => anything
  | .resetLoopOpened _ => anything
  | .startup _ _ _ _ => [.freeN, .xslots, .rw, .nv, .prof, .wdg, .host, .nvs, .gov, .flow, .thm, .sense, .ring, .can, .energy] ++ reactions
  | .powerFail _ _ _ => anything
  | .powerRestoredInHoldup _ _ => anything
  | .holdupSpent => anything
  | .holdupNotReady _ => reactions
  | .retentionSave _ => [.freeN, .slots] ++ reactions
  | .energyCheckpoint => [.deferred, .xing, .xslots, .awn]
  | .safeLineReleased _ => [.freeN, .xslots, .nv, .nvs, .ring, .can] ++ reactions
  | .faultOccurrence _ _ _ => [.xslots, .ring, .nvs] ++ reactions
  | .graceTimerExpiry _ _ _ => [.flt, .fab, .cells, .branches, .est] ++ settling
  | .retryDue _ _ _ _ => [.thm, .sense] ++ reactions
  | .faultLiveClear _ _ _ => [.flt, .safeLine, .halt]
  | .fstW1cWrite _ _ _ => [.deferred, .sys]
  | .ffrcForce _ _ _ => [.deferred, .sys]
  | .fsevWrite _ _ _ => [.deferred, .sys]
  | .fmskWrite _ _ _ => [.deferred, .sys]
  | .parityError _ => reactions
  | .logReportArrival _ _ => [.deferred, .x3, .log, .ret]
  | .logGroupClose => [.deferred, .log, .ret]
  | .logCommit _ => [.freeN, .nv, .nvs] ++ reactions
  | .logStartupScan _ => [.nvs] ++ reactions
  | .logRseqRead _ _ => [.log, .sys]
  | .logClrfirst _ => [.ret, .sys]
  | .logClrlost _ => [.ret, .sys]
  | .logErase _ => [.nvs, .sys] ++ reactions
  | .wdgCfgEnable _ _ => [.wdg, .ret, .sys]
  | .wdgKeyWrite _ _ => anything
  | .wdgExpiry => anything
  | .wdgClockMonitorTrip => anything
  | .controlCoreRestartDone => [.wdg, .dom, .thr]
  | .wdgClrcnt _ => [.ret, .sys]
  | .wdgHckick _ => [.host, .sys] ++ reactions
  | .wdgHctWrite _ _ => [.rw, .host, .sys]
  | .hostContactExpiry => [.host] ++ reactions
  | .hostContact _ => [.host] ++ reactions
  | .thrCommit _ _ => [.sys] ++ reactions
  | .thrRoundLatch => reactions
  | .thrRoundPublish _ _ => reactions
  | .forecastExpiry => reactions
  | .gensetStartTimeout => reactions
  | .deferralEnd => [.thr]
  | .stookGrantLost => reactions
  | .pipelineWave _ _ => [.freeN, .xslots, .rw, .prof, .loads, .flow, .profIO, .bms, .thm, .sense, .energy] ++ reactions
  | .priorityWave _ _ => [.freeN, .xslots, .rw, .prof, .loads, .flow, .profIO, .bms, .thm, .sense, .energy] ++ reactions
  | .groupStall _ _ => [.sense] ++ reactions
  | .pipelineStall _ => reactions
  | .driveCommandTimeout _ _ => [.fab, .cells] ++ settling
  | .coreSupplyAdjust _ => [.sense]
  | .coreSupplyFault _ _ => [.xslots, .ring] ++ reactions
  | .crossingItemRaised _ _ => [.deferred, .x3, .xing, .xslots, .log, .ret, .awn]
  | .crossingItemTaken _ _ _ => [.xslots, .bms] ++ reactions
  | .crossingPeerReset _ _ => [.xslots, .ring] ++ reactions
  | .cellTrip _ => reactions
  | .cellStartChecksDone _ _ => reactions
  | .cellStartRetry _ => [.deferred, .flt, .x3, .xing, .log, .ret, .fab, .groups, .cells]
  | .migrationLatch _ => [.fab, .cells, .thr]
  | .migrationStepDone _ => [.fab, .cells] ++ settling
  | .migrationStepOvertime _ => reactions
  | .shedOrder _ => [.groups, .cells, .thr]
  | .shedParked _ _ => [.cells]
  | .parkHoldExpiry _ => [.groups, .cells]
  | .culmPrechargeDone _ _ => [.culm, .branches]
  | .shortfallShed _ _ => reactions
  | .culmUnderVoltage _ _ => reactions
  | .culmSurplusOpen _ _ => reactions
  | .governorUpdate _ _ _ => [.gov]
  | .governorTrip _ _ _ _ _ => [.gov] ++ reactions
  | .culmPceilWrite _ _ _ => [.deferred, .sys]
  | .portDischargeEnd _ _ => reactions
  | .dischargeBoundMissed _ _ => [.gov] ++ reactions
  | .dischargeElementHoldEnd _ => [.src, .bat]
  | .stubbleOverloadShed _ => reactions
  | .stubbleSupplyTrip _ => reactions
  | .stubbleWindowLost _ _ => [.img, .culm, .branches]
  | .branchInstantTrip _ _ _ => [.gov] ++ reactions
  | .branchOverloadTrip _ => reactions
  | .branchBackfeedTrip _ _ _ => reactions
  | .branchPrechargeDone _ _ => reactions
  | .branchPrechargeFailed _ _ _ => reactions
  | .branchRetry _ => [.deferred, .flt, .x3, .xing, .log, .ret, .branches]
  | .branchRestore _ => [.culm, .branches]
  | .portSumOverload _ _ _ => [.loads] ++ reactions
  | .branchSwitchFailed _ _ _ => reactions
  | .srcPresenceMet _ _ _ => [.src]
  | .srcPresenceLost _ _ _ => [.src] ++ settling
  | .srcQualificationFail _ _ => reactions
  | .srcStabilityRestart _ _ _ => [.src]
  | .srcQualified _ _ => reactions
  | .arcSelfTest _ _ _ => reactions
  | .srcStartSupply _ _ => [.freeN, .cells, .src] ++ settling
  | .srcOrderedStop _ => [.fab, .cells, .src] ++ settling
  | .srcPvIdle _ _ _ => [.fab, .cells, .src] ++ settling
  | .srcPvVocMeasure _ _ _ => [.freeN, .cells, .src] ++ settling
  | .srcHoldTimeEnd _ _ _ => reactions
  | .srcLoss _ _ => reactions
  | .handOverComplete _ _ _ => [.hov] ++ reactions
  | .arcDetected _ _ => reactions
  | .srcOvercurrent _ _ _ => reactions
  | .srcHaltReleased _ => [.halt, .src]
  | .srcRearm _ _ => [.deferred, .sys]
  | .srcRequal _ _ => [.deferred, .sys]
  | .srcSweep _ _ => [.deferred, .sys]
  | .mpptPerturb _ _ => [.src]
  | .mpptSweepStart _ _ => [.src]
  | .mpptSweepDone _ _ => [.src]
  | .flapClear _ => [.src]
  | .batTerminalInRange _ _ => reactions
  | .batQualifyTimeEnd _ _ _ => reactions
  | .batPrechargeDone _ _ _ => [.rw] ++ reactions
  | .batPrechargeFailed _ _ _ => reactions
  | .batAbsenceDetected _ _ _ _ _ _ => reactions
  | .batProbe _ _ => reactions
  | .batHaltRelease _ => [.halt, .bat]
  | .batOutOfRange _ _ _ => reactions
  | .batIsolate _ _ => [.deferred, .sys]
  | .batIsolateSwitchOpen _ _ _ => [.fab, .cells, .bat] ++ settling
  | .batConnect _ _ => [.deferred, .sys]
  | .batRearm _ _ => [.deferred, .sys]
  | .batOvercurrent _ _ _ => reactions
  | .ntcFault _ _ => reactions
  | .chgQualifyCheck _ _ => reactions
  | .chgPhaseTransition _ => reactions
  | .phaseTmax _ => reactions
  | .safetyTimerExpiry _ => reactions
  | .preconditionCeilingHeld _ _ _ => reactions
  | .absorbExit _ _ _ => reactions
  | .finishExit _ _ _ => reactions
  | .floatRebulk _ _ _ _ => reactions
  | .restRestartVoltage _ _ _ => reactions
  | .equalizeDue _ => [.chg]
  | .chgEq _ _ => [.deferred, .sys]
  | .chgEqcancel _ _ => [.deferred, .sys]
  | .chgRestart _ _ => [.deferred, .sys]
  | .thermalHold _ _ _ => reactions
  | .dvSample _ _ _ => reactions
  | .dtdtSample _ _ _ _ => reactions
  | .nickelHoldoffEnd _ => [.chg]
  | .kneeAnswer _ _ => reactions
  | .chgOverVoltage _ _ _ => reactions
  | .bmsLivenessTimeout _ => reactions
  | .bmsVoltageExceeded _ _ _ => reactions
  | .profEloWrite _ _ _ => [.sys, .profIO]
  | .profEhiWrite _ _ _ => [.deferred, .sys, .profIO]
  | .profEloRead _ _ => [.sys, .profIO]
  | .profChkRequest _ _ => [.deferred, .sys]
  | .estPointDone _ _ _ _ _ _ _ => reactions
  | .estSweepStart _ => [.est]
  | .estSweepDone _ => [.rw] ++ reactions
  | .estSweepPauseExpiry _ => [.est]
  | .kneeBaseline _ _ _ => [.est]
  | .kneeCheck _ _ _ => reactions
  | .estSweep _ _ => [.deferred, .sys]
  | .estAbort _ _ => [.deferred, .sys]
  | .estNewbat _ _ => [.deferred, .sys]
  | .socCorrection _ _ _ => [.rw] ++ reactions
  | .estSave => [.xslots, .est]
  | .thmSample _ => [.freeN, .nvs, .thm] ++ reactions
  | .throttleTick => [.thm]
  | .throttleRecovery => [.thm]
  | .thermalShutdownReturn => [.safeLine, .thm]
  | .sensorRetry _ _ => [.freeN, .thm] ++ reactions
  | .sensorReturn _ _ => [.flt, .thm]
  | .throttleHoldEnd => [.thm]
  | .dieOverTemperature _ _ => reactions
  | .fanFailed _ _ _ => [.thm] ++ reactions
  | .fanRetry _ _ _ => [.thm] ++ reactions
  | .thmHistorySave => [.xslots]
  | .modelConverged => [.thm]
  | .modelInvalid _ _ => [.thm] ++ reactions
  | .feederStartRequest _ _ => reactions
  | .feederCheckPassed _ _ _ _ => reactions
  | .feederPrebiasDone _ _ _ => [.cells, .fdr] ++ settling
  | .feederPrebiasTimeout _ => reactions
  | .feederLimiting _ _ _ => [.fdr]
  | .feederUnderVoltage _ _ _ => reactions
  | .feederOverVoltage _ _ _ => reactions
  | .feederReverseCurrent _ _ _ => reactions
  | .feederStop _ => [.src, .fdr] ++ settling
  | .feederStopped _ _ => [.fab, .cells, .src, .fdr] ++ settling
  | .feederYield _ _ _ => [.fdr]
  | .feederHaltReleased _ _ => [.halt, .fdr]
  | .awnSetpointFrame _ => [.xslots] ++ reactions
  | .awnQueryFrame _ => [.xslots] ++ reactions
  | .awnKeepaliveFrame _ => [.xslots] ++ reactions
  | .awnReservedOpFrame _ => [.xslots] ++ reactions
  | .awnFrameDiscarded => [.freeN] ++ reactions
  | .awnSetpointArbitrate => [.xslots, .culm, .awn]
  | .awnSettled _ _ => [.awn]
  | .awnUnsettled _ => [.deferred, .awn]
  | .awnLinkUp _ => [.xslots] ++ reactions
  | .awnLinkDown _ => reactions
  | .awnLossholdExpiry => [.culm, .awn]
  | .awnStatusPeriod => [.awn]
  | .awnReplyTransmit => [.awn]
  | .awnCfgWrite _ _ => [.deferred, .sys]
  | .ringSideUp _ _ => [.ring] ++ reactions
  | .ringSideDown _ _ _ => [.ring] ++ reactions
  | .ringFrameForward _ _ _ => [.ring] ++ reactions
  | .discover _ _ => [.ring] ++ reactions
  | .identPeriodic => [.ring] ++ reactions
  | .assign _ => [.host, .ring] ++ reactions
  | .ringRead _ => [.host, .sys, .profIO, .ring] ++ reactions
  | .ringWrite _ => anything
  | .ringStatRequest _ => [.host, .ring] ++ reactions
  | .ringRetransmission _ => [.host, .ring] ++ reactions
  | .ringUnknownType _ => [.host, .ring] ++ reactions
  | .ringRequestBusy _ _ => [.host, .ring] ++ reactions
  | .hello _ _ => [.host, .ring] ++ reactions
  | .stook _ => [.ring] ++ reactions
  | .exchSend => [.ring] ++ reactions
  | .exchReceived _ => [.ring] ++ reactions
  | .exchEvaluation => [.ring] ++ settling
  | .stookMissing => [.thr, .ring]
  | .peerSilent _ => reactions
  | .positionConflict _ => [.ring] ++ reactions
  | .ringKeyprog _ _ => [.sys, .fuse]
  | .ringEndsess _ => [.sys, .ring]
  | .ringClrcnt _ => [.sys, .ring]
  | .canLimitsFrame _ _ => [.xslots, .bms, .can] ++ reactions
  | .canStateFrame _ _ => [.bms, .can] ++ reactions
  | .moduleStatusSend _ => [.can] ++ reactions
  | .canBusOff => [.can] ++ reactions
  | .canErrorPassive => [.freeN, .can] ++ reactions
  | .canBusDominant _ => reactions
  | .canCfgWrite _ _ => [.rw, .sys, .can] ++ reactions
  | .domRtcWrite _ _ => [.dom, .sys]
  | .sysClraerr _ => [.sys]
  | .registerWrite _ _ _ _ => anything
  | .bmsDischargeLimitExpiry _ => [.ctx, .chg]
  | .holdupStoreReady => [.freeN, .flt, .dom]
  | .canFrameSent => [.flt, .can]
  | .ringOwnFrameSent _ => [.ring]
  | .canErrorActiveRegained _ _ => [.can] ++ reactions

/-- The range of the store, base and length, on which the operation in progress works: a page, or the sector of an erase that is under
way (R298, R401, R409, R454). -/
def State.inProgress (s : State) : List (Nat × Nat) :=
  match s.nvs.ops with
  | .program b page _ :: _ => [(bankBase b + 256 * page.val, 256)]
  | o :: _ => [(4096 * (o.sectors.1 + s.nvs.sector), 4096)]
  | [] => []

/-- The slots of log records, and the sectors that they begin (R450). -/
def logRanges (l : List Staged) : List (Nat × Nat) :=
  l.flatMap fun q => (logAddr q.record.seq, 16) ::
    (if (q.record.seq + 4095) % 4096 % 256 = 0 then [(logAddr q.record.seq, 4096)] else [])

/-- The records that the next commit programs (R450, R495). -/
def State.toCommit (s : State) : List Staged := s.discardKnown.ret.staged.take (pageTake s.discardKnown.ret.staged)

/-- The ranges of the store that a command can change in a state: the slots of a commit, and after one that fails the slots from
the first record on; the range of the operation that ends or is broken off; the profile backing at an entry into Run (R400, R404,
R409, R450, R454, R462). Of a WRITE frame, which writes any registers, the whole store. -/
def State.storedBy (s : State) (c : Instr) : List (Nat × Nat) :=
  match c with
  | .logCommit true => logRanges s.toCommit
  | .logCommit false => logRanges (s.toCommit.take 1) ++ (s.toCommit.take 1).map fun q => (logAddr q.record.seq, 16 * s.toCommit.length)
  | .nvsProgramComplete _ => s.inProgress
  | .nvsEraseComplete _ => s.inProgress
  | .ringWrite _ => [(0, 0x80000)]
  | c => if .nv ∈ footprint c then (backingAt, 0xD000) :: s.inProgress else []

/-- The stores of the module in their canonical form, and at most four key slots programmed (R524): the non-volatile store, the
RW registers, and the profile table. -/
structure State.Inv (s : State) : Prop where
  nv : Memory.wf s.nv = true
  rw : swf regReset s.rw = true
  prof : swf (fun _ => (0 : Entry)) s.prof = true
  keys : s.fuse.keys.length ≤ 4

end Sys2Proof.Machine
end

