-- ==== Sys2Proof/Certificates/Slice0/Obligations.lean ====
section
/-!
DEFINITION. The statements for the provers: what each family of commands does, where it completes, what it leaves unchanged, and the
invariants that every step keeps.
-/

open Sys2Proof Sys2Proof.Machine

/-- FLOW_CMD (R22, R23, R198, R200): a command is discarded while another executes; else it executes from its write to the next iteration,
with busy 1 and done 0, and there its result stands and the sequence count advances. CREATE (R196, R198, R199): the result is the first
code that fails in the order 4, 13, 5, 6-9 and 12; an accepted CREATE copies the staged definition into the context, which is Opening, or
Suspended where the Safe line or Stubble holds the module, and keeps its generation, and no other context changes its definition or
generation. MODIFY, SUSPEND, RESUME, DESTROY and an invalid op (R199): the result is the first code that fails, in the order of the codes.
Choices of the model that stand behind it: assumptions 10, 24 and 25. Completion is concluded for: flowCreate, flowModify, flowSuspend,
flowResume, flowDestroy, flowOpInvalid. -/
def Obligations.FlowCommands : Prop :=
  (∀ (s : State) (r : Req) (h : BitVec 16), s.serves flowCmdAt → s.flow.busy = true →
      exec (.flowCreate r h) s = .next s ∧ exec (.flowModify r h) s = .next s ∧ exec (.flowSuspend r h) s = .next s ∧
      exec (.flowResume r h) s = .next s ∧ exec (.flowDestroy r h) s = .next s) ∧
  (∀ (s : State) (r : Req) (h : BitVec 16), s.serves flowCmdAt → s.flow.busy = false → s.deferred = [] →
      (∃ t, exec (.flowCreate r h) s = .next t ∧ t.flow.busy = true ∧ t.flow.done = false ∧ t.iterate.flow.busy = false ∧
        t.iterate.flow.done = true ∧ t.iterate.flow.seq = (s.flow.seq + 1) % 256 ∧
        t.iterate.flow.result = (if 160 ≤ h.toNat % 256 ∧ h.toNat % 256 ≠ 255 then 4
          else if s.img.image.isNone ∨ s.img.req.isSome = true then 13
          else match s.wanted (h.toNat % 256) with
            | none => 5
            | some _ => s.createCode s.staged)) ∧
      (∀ c, ¬(160 ≤ h.toNat % 256 ∧ h.toNat % 256 ≠ 255) → s.img.image.isSome = true → s.img.req = none →
        s.wanted (h.toNat % 256) = some c → s.createCode s.staged = 0 → s.host.exp = false →
        ∃ t, exec (.flowCreate r h) s = .next t ∧
          t.iterate.ctx[c].st = (if s.dom.st = .stubble ∨ s.safeLine ≠ [] then .suspended else .opening) ∧
          t.iterate.ctx[c].d = s.staged ∧ t.iterate.ctx[c].gen = s.ctx[c].gen ∧ t.iterate.ctx[c].cur = 0 ∧
          t.iterate.flow.result = 0 ∧ t.iterate.flow.handle = handleOf s.ctx[c].gen c ∧
          ∀ k, k ≠ c → t.iterate.ctx[k].d = s.ctx[k].d ∧ t.iterate.ctx[k].gen = s.ctx[k].gen ∧
            (s.ctx[k].st = .free ∨ s.ctx[k].st = .fenced → t.iterate.ctx[k] = s.ctx[k]))) ∧
  (∀ (s : State) (r : Req) (h : BitVec 16), s.serves flowCmdAt → s.flow.busy = false → s.deferred = [] →
      (∃ t, exec (.flowModify r h) s = .next t ∧ t.iterate.flow.done = true ∧ t.iterate.flow.seq = (s.flow.seq + 1) % 256 ∧
        t.iterate.flow.result = (match s.named h with
          | .inl code => code
          | .inr c => firstCode [(badModify s.ctx[c].d s.staged, 8), (s.badNewProf s.ctx[c].d s.staged, 9), (s.lost c, 10),
              (s.ctx[c].st != .opening && s.ctx[c].st != .live && s.ctx[c].st != .suspended, 11), (s.portHalted s.ctx[c].d, 12),
              (s.noChange, 13), (s.host.exp, 14)])) ∧
      (∃ t, exec (.flowSuspend r h) s = .next t ∧ t.iterate.flow.done = true ∧ t.iterate.flow.seq = (s.flow.seq + 1) % 256 ∧
        t.iterate.flow.result = (match s.named h with
          | .inl code => code
          | .inr c => firstCode [(s.lost c, 10), (s.ctx[c].st != .opening && s.ctx[c].st != .live, 11), (s.portHalted s.ctx[c].d, 12),
              (s.noChange, 13)])) ∧
      (∃ t, exec (.flowResume r h) s = .next t ∧ t.iterate.flow.done = true ∧ t.iterate.flow.seq = (s.flow.seq + 1) % 256 ∧
        t.iterate.flow.result = (match s.named h with
          | .inl code => code
          | .inr c => firstCode [(s.lost c, 10), (s.ctx[c].st != .suspended || !s.ctx[c].scause.getLsbD 0, 11),
              (s.portHalted s.ctx[c].d, 12), (s.noChange, 13)])) ∧
      (∃ t, exec (.flowDestroy r h) s = .next t ∧ t.iterate.flow.done = true ∧ t.iterate.flow.seq = (s.flow.seq + 1) % 256 ∧
        t.iterate.flow.result = (match s.named h with
          | .inl code => code
          | .inr c => firstCode [(s.lendsOn c, 6), (s.lost c, 10), (s.portHalted s.ctx[c].d, 12), (s.noImage, 13)])) ∧
      (∀ op : BitVec 4, 6 ≤ op.toNat → ∃ t, exec (.flowOpInvalid r op h) s = .next t ∧ t.iterate.flow.done = true ∧
        t.iterate.flow.seq = (s.flow.seq + 1) % 256 ∧ t.iterate.flow.result = 15))

/-- What an accepted MODIFY, SUSPEND, RESUME and DESTROY do to the flow at the iteration that takes them (R196, R198): the definition of
MODIFY stands whole, and the flow's state is what it is without it; SUSPEND sets cause bit 0, and a Live flow is Suspended; RESUME clears
it; DESTROY closes the flow. The end of opening and of closing (R196, R205): an Opening flow is Live with no cause, or Suspended with one;
a Closing flow whose current has fallen below 0.5 A leaves its context Free with the next generation; one that has not within its time is
Fenced, and FLOW source 0 occurs. Choices of the model that stand behind it: assumptions 24 and 26. Completion is concluded for:
flowModify, flowSuspend, flowResume, flowDestroy, flowOpeningDone, flowClosingDone, flowClosingTimeout. -/
def Obligations.FlowStates : Prop :=
  (∀ (s : State) (r : Req) (h : BitVec 16) (c : Ctx), s.serves flowCmdAt → s.flow.busy = false → s.deferred = [] →
      s.named h = .inr c → s.lost c = false → s.portHalted s.ctx[c].d = false → s.noChange = false →
      ((s.ctx[c].st = .opening ∨ s.ctx[c].st = .live ∨ s.ctx[c].st = .suspended) → badModify s.ctx[c].d s.staged = false →
        s.badNewProf s.ctx[c].d s.staged = false → s.host.exp = false →
        ∃ t, exec (.flowModify r h) s = .next t ∧ t.iterate.ctx[c].d = s.staged ∧ t.iterate.ctx[c].gen = s.ctx[c].gen ∧
          (s.settle.ctx[c].st = s.ctx[c].st → t.iterate.ctx[c].st = s.ctx[c].st) ∧
          ∀ k, k ≠ c → t.iterate.ctx[k].d = s.ctx[k].d ∧ t.iterate.ctx[k].gen = s.ctx[k].gen) ∧
      ((s.ctx[c].st = .opening ∨ s.ctx[c].st = .live) →
        ∃ t, exec (.flowSuspend r h) s = .next t ∧ t.iterate.ctx[c].scause.getLsbD 0 = true ∧
          (s.ctx[c].st = .live → t.iterate.ctx[c].st = .suspended)) ∧
      (s.ctx[c].st = .suspended → s.ctx[c].scause.getLsbD 0 = true →
        ∃ t, exec (.flowResume r h) s = .next t ∧ t.iterate.ctx[c].scause.getLsbD 0 = false ∧
          (t.iterate.ctx[c].st = .live ↔ t.iterate.ctx[c].scause = 0)) ∧
      (s.lendsOn c = false →
        ∃ t, exec (.flowDestroy r h) s = .next t ∧
          (s.ctx[c].st = .opening ∨ s.ctx[c].st = .live ∨ s.ctx[c].st = .suspended → t.iterate.ctx[c].st = .closing) ∧
          (s.ctx[c].st = .fenced → t.iterate.ctx[c].leaving = true) ∧
          (s.ctx[c].st = .closing → t.iterate.ctx[c].st = .closing ∧ t.iterate.ctx[c].closeI = s.ctx[c].closeI ∧
            t.iterate.ctx[c].since = s.ctx[c].since))) ∧
  ((∀ (s : State) (c : Ctx), s.ctx[c].st = .opening →
      ∃ t, exec (.flowOpeningDone c) s = .next t ∧
        ((t.ctx[c].st = .live ∧ t.ctx[c].scause = 0) ∨ (t.ctx[c].st = .suspended ∧ t.ctx[c].scause ≠ 0))) ∧
    (∀ (s : State) (c : Ctx) (cur : Int), s.ctx[c].st = .closing → cur.natAbs < 50 →
      ∃ t, exec (.flowClosingDone c cur) s = .next t ∧ t.ctx[c].st = .free ∧
        t.ctx[c].gen = if s.ctx[c].gen = 255 then 1 else s.ctx[c].gen + 1) ∧
    (∀ (s : State) (c : Ctx) (cur : Int), s.ctx[c].st = .closing → 50 ≤ cur.natAbs →
      s.ctx[c].since + s.closingBound c < s.now →
      ∃ u : State, exec (.flowClosingTimeout c cur) s = .next (u.occur bFLOW 0 c.val) ∧ u.ctx[c].st = .fenced ∧ u.ctx[c].cur = 0 ∧
        u.ctx[c].leaving = true ∧ u.ctx[c].fblk = 0x0E ∧ u.ctx[c].fsrc = 0))

/-- The update session (R409-R411): op 1 opens it and erases the inactive bank, op 2 programs a page once, op 3 closes it with the bank Valid,
or Invalid with the code of its check and IMG source 2, op 4 and the session's timeout leave the bank Invalid. Choices of the model that
stand behind it: assumptions 14 and 54. Completion is concluded for: imgUpdOpen, imgUpdProgram, imgUpdClose, imgUpdAbort,
updateSessionTimeout. -/
def Obligations.ImageUpdate : Prop :=
  (∀ (s : State) (r : Req), s.serves imgUpdAt → s.updBusy = false → s.img.sess = .closed → s.img.trial = false → s.img.req = none →
    ∃ t, exec (.imgUpdOpen r) s = .next t ∧ t.img.sess = .erasing ∧ t.img.banks[s.inactive].st = .writing ∧
      t.nvs.ops = s.nvs.ops ++ [.eraseBank s.inactive] ∧ t.img.udone = false) ∧
  (∀ (s : State) (r : Req) (page : BitVec 9), s.serves imgUpdAt → s.updBusy = false → s.img.sess = .opened →
    s.img.pages.contains page.toFin = false →
    (s.img.banks[s.inactive].st ≠ .active → ∃ t, exec (.imgUpdProgram r page) s = .next t ∧
      t.nvs.ops = s.nvs.ops ++ [.program s.inactive page.toFin s.img.pbuf] ∧ t.img.upage = page.toNat ∧ t.img.udone = false) ∧
    (s.img.banks[s.inactive].st = .active → ∃ u : State, exec (.imgUpdProgram r page) s =
      .next (u.occur bNVS 5 s.inactive.val) ∧ u.nvs.ops = s.nvs.ops ∧ u.nv = s.nv)) ∧
  (∀ (s : State) (r : Req), s.serves imgUpdAt → s.updBusy = false → s.img.sess = .opened → s.bankCode s.inactive = 0 →
    ∃ t, exec (.imgUpdClose r) s = .next t ∧ t.img.sess = .closed ∧ t.img.banks[s.inactive].st = .valid ∧ t.img.uresult = 0 ∧
      t.img.udone = true ∧ t.img.useq = (s.img.useq + 1) % 256) ∧
  (∀ (s : State) (r : Req), s.serves imgUpdAt → s.updBusy = false → s.img.sess = .opened → s.bankCode s.inactive ≠ 0 →
    ∃ u : State, exec (.imgUpdClose r) s = .next (u.occur bIMG 2 0) ∧ u.img.sess = .closed ∧ u.img.banks[s.inactive].st = .invalid ∧
      u.img.banks[s.inactive].cause = s.bankCode s.inactive ∧ u.img.uresult = s.bankCode s.inactive ∧ u.img.udone = true) ∧
  (∀ (s : State) (r : Req), s.serves imgUpdAt → s.updBusy = false → s.img.sess = .opened →
    ∃ t, exec (.imgUpdAbort r) s = .next t ∧ t.img.sess = .closed ∧ t.img.banks[s.inactive].st = .invalid ∧ t.img.uresult = 0 ∧
      t.img.udone = true) ∧
  (∀ s : State, s.img.sess = .opened → s.updBusy = false → s.writeHold = false →
    s.img.lastOp + 60000000 * (s.reg imgCfgAt).bits 23 16 ≤ s.now →
    ∃ u : State, exec .updateSessionTimeout s = .next (u.occur bIMG 7 0) ∧ u.img.sess = .closed ∧
      u.img.banks[s.inactive].st = .invalid)

/-- The store's operations (R401, R409, R430): a verified program leaves the page's bytes in the bank and every other byte as it was; a
verified erase leaves its sector erased and every other byte as it was, and goes on with the next sector of the bank or of the log; after
the last the session is open, or the log empty; an operation past twice its longest time is NVS source 6. Choices of the model that stand
behind it: assumptions 14 and 67. Completion is concluded for: nvsProgramComplete, nvsEraseComplete, nvsOperationOvertime. -/
def Obligations.StoreOperations : Prop :=
  (∀ (s : State) (b : Side) (page : Fin 512) (data : Vector Word 64) (l : List NvOp), Memory.wf s.nv = true →
    s.nvs.ops = .program b page data :: l → s.opRuns = true →
    ∃ t, exec (.nvsProgramComplete true) s = .next t ∧ t.nvs.ops = l ∧ t.img.uresult = 0 ∧ t.img.udone = true ∧
      (∀ i, i < 256 → Memory.read t.nv (bankBase b + 256 * page.val + i) =
        (data.toList.flatMap fun (w : Word) => wordBytes w.toNat).getD i 0) ∧
      (∀ a, a < bankBase b + 256 * page.val ∨ bankBase b + 256 * page.val + 256 ≤ a → Memory.read t.nv a = Memory.read s.nv a)) ∧
  (∀ (s : State) (o : NvOp) (l : List NvOp), s.nvs.ops = o :: l → o = .logErase ∨ (∃ b, o = .eraseBank b) → s.opRuns = true →
    let k := o.sectors.1 + s.nvs.sector
    ∃ t, exec (.nvsEraseComplete true) s = .next t ∧
      (∀ a, 4096 * k ≤ a → a < 4096 * k + 4096 → Memory.read t.nv a = 0xFF) ∧
      (∀ a, a < 4096 * k ∨ 4096 * k + 4096 ≤ a → Memory.read t.nv a = Memory.read s.nv a) ∧
      (s.nvs.sector + 1 < o.sectors.2 → t.nvs.ops = s.nvs.ops ∧ t.nvs.sector = s.nvs.sector + 1) ∧
      (o.sectors.2 ≤ s.nvs.sector + 1 → t.nvs.ops = l ∧
        (∀ b, o = .eraseBank b → t.img.sess = .opened ∧ t.img.uresult = 0 ∧ t.img.udone = true) ∧
        (o = .logErase → t.log.erase = false ∧ t.log.newest = 0))) ∧
  (∀ (s : State) (o : NvOp) (l : List NvOp), s.nvs.ops = o :: l → s.opRuns = true → s.nvs.since + 2 * o.longest ≤ s.now →
    exec .nvsOperationOvertime s = .next (s.occur bNVS 6 o.region true))

/-- Requests of activation, their refusals, their cancelling and their timeout (R412, R414). Choices of the model that stand behind it:
assumption 54. Completion is concluded for: imgActivate, imgCancel, activationTimeout. -/
def Obligations.ImageRequests : Prop :=
  (∀ (s : State) (r : Req) (bank drain dark : Bool), s.serves imgCtlAt →
    let b : Side := if bank then 1 else 0
    let code := (s.activateCode b dark).1
    (code = 0 → ∃ t, exec (.imgActivate r bank drain dark) s = .next t ∧ t.img.aseq = (s.img.aseq + 1) % 256 ∧
      t.img.adone = false ∧ t.img.asta = (if drain then .draining else .waiting) ∧
      ∃ q, t.img.req = some q ∧ q.bank = b ∧ q.drain = drain ∧ q.dark = dark) ∧
    (code ≠ 0 → code ≠ 5 → ∃ t, exec (.imgActivate r bank drain dark) s = .next t ∧ t.img.aseq = (s.img.aseq + 1) % 256 ∧
      t.img.aresult = code ∧ t.img.adone = true ∧ t.img.req = s.img.req) ∧
    (code = 5 → ∃ u : State, exec (.imgActivate r bank drain dark) s = .next u.failedTwice ∧ u.img.aresult = 5 ∧
      u.img.adone = true ∧ u.img.acause = (s.activateCode b dark).2)) ∧
  (∀ (s : State) (r : Req) (q : ActReq), s.serves imgCtlAt → s.img.req = some q → s.draining = true → q.byTrial = false →
    ∃ t, exec (.imgCancel r) s = .next t ∧ t.img.req = none ∧ t.img.asta = .none ∧ t.img.aresult = 8 ∧ t.img.adone = true) ∧
  (∀ (s : State) (q : ActReq), s.img.req = some q → s.draining = true → q.byTrial = false →
    q.at_ + 1000000 * (s.reg imgCfgAt).bits 15 8 ≤ s.now →
    ∃ t, exec .activationTimeout s = .next t ∧ t.img.req = none ∧ t.img.asta = .none ∧ t.img.aresult = 9 ∧ t.img.adone = true)

/-- The quiescent point, the hand-back, and the trial (R413-R416, R419-R421): with every context Free the named bank's image is in force and
every generation has advanced; the bridge ends; the trial is confirmed or expires; the security version rises. While the control core
restarts neither happens (R41). Choices of the model that stand behind it: assumption 54. Completion is concluded for:
activationQuiescentPoint, bridgeHandback, imgConfirm, trialExpiry, imgRaisesv. -/
def Obligations.ImageInForce : Prop :=
  (∀ (s : State) (q : ActReq) (d : ImageData) (failed : List Cell), s.img.req = some q → s.draining = true → q.plan = false →
    q.byTrial = false → s.usedCtx = [] → s.safeLine = [] → s.dom.coreRestart = none → s.bankImage q.bank = some d →
    ∃ (u : State) (standby : Bool),
      exec (.activationQuiescentPoint false false failed) s = .next ((u.afterActivation failed standby).startHostIfIdle) ∧
      u.img.image = some d ∧ u.img.act = q.bank ∧ u.img.aresult = 1 ∧ u.img.req = none ∧
      ∀ c : Ctx, u.ctx[c].st = .free ∧ u.ctx[c].gen = nextGen s.ctx[c].gen) ∧
  (∀ (s : State) (v heldUs : Nat), s.culm.supOn = true → s.inRun = true → s.draining = false → s.canSupply = true →
    50 * v ≤ 51 * s.culm.vset → 49 * s.culm.vset ≤ 50 * v → 10000 ≤ heldUs →
    ∃ t, exec (.bridgeHandback v heldUs) s = .next t ∧ t.culm.supOn = false ∧ t.culm.mode = .regulating ∧ t.img.bridge = false) ∧
  (∀ (s : State) (r : Req), s.serves imgCtlAt → s.img.trial = true → s.img.trialOver = false →
    ∃ t, exec (.imgConfirm r) s = .next t ∧ t.img.trial = false ∧ t.img.trialStarts = 0) ∧
  (∀ s : State, s.img.trial = true → s.img.trialOver = false → s.dom.coreRestart = none →
    60000000 * (s.reg imgCfgAt).bits 7 0 ≤ s.trialUsed → s.canOccur bIMG 5 0 → ∃ t, exec .trialExpiry s = .next t ∧ t.raised bIMG 5 = true) ∧
  (∀ (s : State) (r : Req), s.serves imgCtlAt → s.img.image.isSome = true → s.img.trial = false →
    ∃ t, exec (.imgRaisesv r) s = .next t ∧ t.fuse.minsv = max s.fuse.minsv (s.img.secver % 64))

/-- The state commands and sleep (R483, R488-R490, R501): DOM_CTL op 1 leads to Run, or to Stubble where the entry asserts the Safe line;
op 2 to Standby; ops 3 and 4, and idleness, to Watch and Dormant, or to a start-up where a wake cause comes during the entry; a Stubble
entered from Run switches the cell domains off; a released Safe line leads back. Choices of the model that stand behind
it: assumption 56. Completion is concluded for: domRun, domStandby, domWatch, domDormant, idleToDormant, stubbleDomainOff,
safeLineReleased. -/
def Obligations.ModuleStates : Prop :=
  (∀ (s : State) (r : Req) (failed : List Cell), s.serves domCtlAt → s.dom.st = .standby → s.img.image.isSome = true → s.safeLine = [] →
    ∃ t, exec (.domRun r failed) s = .next t ∧ (t.safeLine = [] → t.inRun = true) ∧ (t.safeLine ≠ [] → t.dom.st = .stubble)) ∧
  (∀ (s : State) (r : Req), s.serves domCtlAt → s.inRun = true → s.usedCtx = [] →
    ∃ u : State, exec (.domStandby r) s = .next ([8, 7, 6, 5, 4, 9].foldl State.powerOff u) ∧ u.dom.st = .standby ∧ u.culm.mode = .off) ∧
  (∀ (s : State) (r : Req), s.serves domCtlAt → s.dom.st = .standby → s.img.sess = .closed → s.img.req = none → s.wakeCause = false →
    (s.ret.domAlarm.toNat = 0 ∨ s.rtc < s.ret.domAlarm.toNat) →
    ∃ t, exec (.domWatch r) s = .next t ∧ t.ret.domAlarm = s.ret.domAlarm ∧ (s.wakeWaits = none → t.dom.st = .watch) ∧
      ∀ q, s.wakeWaits = some q → t.dom.st = .inReset ∧ t.dom.boot = true ∧ t.dom.wake = q.1 ∧ t.dom.cold = false) ∧
  (∀ (s : State) (r : Req), s.serves domCtlAt → s.dom.st = .standby → s.img.sess = .closed → s.img.req = none → s.wakeCause = false →
    (s.wakeWaits = none → ∃ t, exec (.domDormant r) s = .next t ∧ t.dom.st = .dormant ∧ t.nv = s.finishProgram.nv) ∧
    ∀ q, s.wakeWaits = some q → ∃ t, exec (.domDormant r) s = .next t ∧ t.dom.st = .inReset ∧ t.dom.boot = true ∧
      t.dom.wake = q.1 ∧ t.dom.cold = false) ∧
  (∀ (s : State) (t0 : Nat), s.idle = true → s.ret.domCfg.bits 15 8 ≠ 0 → s.dom.idleSince = some t0 →
    t0 + 60000000 * s.ret.domCfg.bits 15 8 ≤ s.now → s.wakeWaits = none →
    ∃ t, exec .idleToDormant s = .next t ∧ t.dom.st = .dormant) ∧
  (∀ s : State, s.dom.st = .stubble → s.dom.stubFromRun = true → s.dom.stubOff = false → s.dom.stubAt + 600000000 ≤ s.now →
    ∃ u : State, exec .stubbleDomainOff s = .next ([8, 7, 6, 5, 4].foldl State.powerOff u) ∧ u.dom.stubOff = true ∧
      ChangesOnly [.dom] s u) ∧
  (∀ (s : State) (failed : List Cell), s.dom.st = .stubble → s.safeLine = [] → s.img.req = none →
    (s.dom.stubFromRun = true → ∃ t, exec (.safeLineReleased failed) s = .next t ∧ (t.safeLine = [] → t.inRun = true) ∧
      (t.safeLine ≠ [] → t.dom.st = .stubble)) ∧
    (s.dom.stubFromRun = false → ∃ t, exec (.safeLineReleased failed) s = .next t ∧ t.dom.st = .standby))

/-- Wake, supply and loops (R49-R51, R62, R483): a wake cause starts the module up with its own code, cold from Dormant and from unpowered;
without one a started supply leaves the module Dormant; a closed RESET loop holds it in reset with D1-D11 off, and its opening starts it
up. Choices of the model that stand behind it: assumption 58. Completion is concluded for: supplyStart, hvWake, wakeLoopRequest,
watchAlarm, resetLoopClosed, resetLoopOpened. -/
def Obligations.WakeAndReset : Prop :=
  (∀ (s : State) (feed : Fin 8) (hv : Option SPort) (closed : Bool), s.dom.st = .unpowered → s.dom.failAt = none →
    ∃ t, exec (.supplyStart feed hv closed) s = .next t ∧
      (hv.isSome = true ∨ closed = true → t.dom.st = .inReset ∧
        (s.dom.resetLoop = false → t.dom.boot = true ∧ t.dom.cold = true ∧ t.dom.wake = .powerOn) ∧
        (s.dom.resetLoop = true → t.dom.boot = false)) ∧
      (hv = none → closed = false → t.dom.st = .dormant)) ∧
  (∀ (s : State) (p : SPort) (mv heldMs : Nat), (s.dom.st = .dormant ∨ s.dom.st = .watch) → s.dom.resetLoop = false → 100 ≤ heldMs →
    (50000 ≤ mv → ∃ t, exec (.hvWake p false mv heldMs) s = .next t ∧ t.dom.st = .inReset ∧ t.dom.boot = true ∧ t.dom.wake = .hv ∧
      t.dom.wport = p ∧ (t.dom.cold = true ↔ s.dom.st = .dormant)) ∧
    (70000 ≤ mv → ∃ t, exec (.hvWake p true mv heldMs) s = .next t ∧ t.dom.st = .inReset ∧ t.dom.boot = true ∧ t.dom.wake = .hv ∧
      t.dom.wport = p)) ∧
  (∀ (s : State) (a b : Nat), (s.dom.st = .dormant ∨ s.dom.st = .watch) → s.dom.resetLoop = false → a < 1000 → b < 1000 →
    ∃ t, exec (.wakeLoopRequest a b) s = .next t ∧ t.dom.st = .inReset ∧ t.dom.boot = true ∧ t.dom.wake = .loop) ∧
  (∀ s : State, s.dom.st = .watch → s.dom.resetLoop = false → s.ret.domAlarm.toNat ≠ 0 → s.ret.domAlarm.toNat ≤ s.rtc →
    ∃ t, exec .watchAlarm s = .next t ∧ t.dom.st = .inReset ∧ t.dom.boot = true ∧ t.dom.wake = .alarm ∧ t.dom.cold = false) ∧
  (∀ (s : State) (ohm : Nat), ohm < 1000 → s.powered = true →
    ∃ t, exec (.resetLoopClosed ohm) s = .next t ∧ t.dom.st = .inReset ∧ t.dom.resetLoop = true ∧ t.dom.boot = false ∧
      (s.dom.st ≠ .inReset → t.dom.on = 1)) ∧
  (∀ (s : State) (ohm : Nat), 100000 < ohm → s.dom.resetLoop = true → s.dom.st = .inReset →
    ∃ t, exec (.resetLoopOpened ohm) s = .next t ∧ t.dom.st = .inReset ∧ t.dom.boot = true ∧ t.dom.wake = .reset ∧
      t.dom.resetLoop = false ∧ t.ret.wdg.hold = false)

/-- Start-up and the loss of power (R486, R494, R496-R500): a start-up switches D1, D2, D3, D10 and D11 on before Standby; a power fail leaves
every domain off and a save of retained memory, which stands where it completes, but writes no slot before step 2 of a start-up (R501); power back in hold-up starts the module up, and a spent hold-up
leaves it unpowered. Choices of the model that stand behind it: assumptions 12, 56, 58 and 76. Completion is concluded for: startup,
powerFail, powerRestoredInHoldup, holdupSpent, holdupNotReady, retentionSave, energyCheckpoint, holdupStoreReady. -/
def Obligations.PowerAndRetention : Prop :=
  (∀ (s : State) (cal : Bool × Bool) (errs : Fin 3) (failed : List Cell) (sensors : List Sensor), s.dom.boot = true → s.domOn 0 = true →
    ∃ u : State, exec (.startup cal errs failed sensors) s = .next (u.reachStandby failed) ∧
      ∀ d ∈ [0, 1, 2, 3, 10, 11], u.domOn d = true) ∧
  (∀ (s : State) (mv heldUs : Nat) (ok : Bool), s.dom.st ≠ .unpowered → s.dom.st ≠ .dormant → s.dom.boot = false →
    (s.dom.st = .inReset → s.dom.cold = false) → mv < 16000 → 20 ≤ heldUs → ∃ t, exec (.powerFail mv heldUs ok) s = .next t ∧ t.dom.st = .unpowered ∧ t.dom.on = 0 ∧ t.dom.failAt = some s.now ∧
      t.ret.powerFail = true ∧ (ok = false → t.slots[s.olderSlot] = none) ∧
      (ok = true → ∃ q, t.slots[s.olderSlot] = some q ∧ q.saveCount = s.ret.saveCount + 1 ∧ q.powerFail = true)) ∧
  (∀ (s : State) (mv heldUs : Nat) (ok : Bool), s.dom.st = .inReset → s.dom.boot = true → mv < 16000 → 20 ≤ heldUs →
    ∃ t, exec (.powerFail mv heldUs ok) s = .next t ∧ t.dom.st = .unpowered ∧ t.slots = s.slots) ∧
  (∀ (s : State) (t0 mv heldUs : Nat), s.dom.failAt = some t0 → 18000 < mv → 1000 ≤ heldUs → s.dom.resetLoop = false →
    ∃ t, exec (.powerRestoredInHoldup mv heldUs) s = .next t ∧ t.dom.st = .inReset ∧ t.dom.boot = true ∧ t.dom.wake = .restored) ∧
  (∀ (s : State) (t0 : Nat), s.dom.failAt = some t0 → t0 + 20000 ≤ s.now →
    ∃ t, exec .holdupSpent s = .next t ∧ t.dom.st = .unpowered ∧ t.dom.on = 0 ∧ t.dom.failAt = none) ∧
  (∀ s : State, s.dom.holdReady = true → s.inRun = true →
    ∃ u : State, exec (.holdupNotReady true) s = .next (u.occur bDOM 2 0 true) ∧ u.dom.holdReady = false) ∧
  (∀ (s : State) (t0 : Nat), s.dom.holdReady = false → s.dom.supplyAt = some t0 → t0 + 10000000 ≤ s.now →
    exec (.holdupNotReady false) s = .next (s.occur bDOM 2 0 true)) ∧
  (∀ s : State, s.dom.supplyAt.isSome = true → ∃ t, exec .holdupStoreReady s = .next t ∧ t.dom.holdReady = true) ∧
  (∀ s : State, (s.dom.st = .standby ∨ s.inRun = true ∨ s.dom.st = .stubble) → s.retrying bDOM 7 0 = false →
    s.dom.savedAt + 1000000 ≤ s.now →
    ∃ t, exec (.retentionSave true) s = .next t ∧ t.dom.savedAt = s.now ∧
      ∃ q, t.slots[s.olderSlot] = some q ∧ q.saveCount = s.ret.saveCount + 1) ∧
  (∀ s : State, s.domOn 3 = true → ∃ t, exec .energyCheckpoint s = .next t ∧
    ∀ p : Port, ∃ q ∈ t.xslots, q.x = 3 ∧ q.item = .saveEnergy p ∧
      q.data = .energy (wattHours s.energy[p].1) (wattHours s.energy[p].2))

/-- An occurrence (R433, R434, R436): where the block has the source, its cause is not already present on the object and it is not masked, the
cause is live and the FST bit of the source is set, and no other FST bit of any block changes; a masked source is live and nothing else
follows; a cause already present is no occurrence, but each word that the store corrects, or cannot, is counted (R429). DOM source 0 of a domain that is on is the loss of its power (R30, R196): its ports'
halt lines and the Safe line are asserted, and with D3 every flow context is Free. Choices of the model that stand behind it: assumptions
18 and 19. Completion is concluded for: faultOccurrence. -/
def Obligations.Occurrence : Prop :=
  ∀ (s : State) (b : Blk) (src : Src) (obj : Nat), hasSource b.val src.val = true →
    (¬(b = bDOM ∧ src = 0 ∧ s.domOn obj = true) →
      (s.canOccur b src obj → ∃ t, exec (.faultOccurrence b src obj) s = .next t ∧ t.liveBit b src = true ∧
        ∀ k : Blk, t.flt[k].fst = if k = b then s.flt[k].fst ||| srcBit src else s.flt[k].fst) ∧
      (s.flt[b].live.contains ⟨src, obj⟩ = false → s.masked b src = true →
        ∃ t, exec (.faultOccurrence b src obj) s = .next t ∧ t.liveBit b src = true ∧
          ChangesOnly [.flt, .nvs] s t ∧ (b = bNVS ∨ t.nvs = s.nvs) ∧
          (∀ k : Blk, t.flt[k].fst = s.flt[k].fst) ∧ t.flt[b].retries = s.flt[b].retries ∧ t.flt[b].grace = s.flt[b].grace) ∧
      (s.flt[b].live.contains ⟨src, obj⟩ = true → ∃ t, exec (.faultOccurrence b src obj) s = .next t ∧ ChangesOnly [.nvs] s t ∧
        (b ≠ bNVS → t = s)) ∧
      (b = bNVS → ∃ t, exec (.faultOccurrence b src obj) s = .next t ∧
        (src = 0 → t.nvs.corr = min 65535 (s.nvs.corr + 1)) ∧ (src = 1 → t.nvs.uncorr = min 65535 (s.nvs.uncorr + 1)))) ∧
    (s.domOn obj = true → ∃ t, exec (.faultOccurrence bDOM 0 obj) s = .next t ∧
      (⟨bDOM, 0, obj, true⟩ : Driver) ∈ t.safeLine ∧ (∀ p ∈ linedPorts obj, (⟨bDOM, 0, obj, true⟩ : Driver) ∈ t.halt[p]) ∧
      (obj = 3 → ∀ c : Ctx, t.ctx[c].st = .free))

/-- Reactions and retries (R438, R439, R443): the Safe line is asserted by an occurrence of severity Safe that is not retried; a Degrade
source starts a grace timer of FGRC milliseconds, or acts at once where eight run; a retryable source is retried first, with no reaction.
What ends an occurrence (R434, R435, R438, R439, R443): a grace timer whose time has come acts if the severity is still Degrade, and in
the fabric fences the cell; a retry that is due ends, cancelled where another line holds its object, and waits for the object's own event
where its action has one; it restarts a tripped cell, 50 us after the trip at the earliest (R109); a cause
that ends leaves FST as it is and, where the FST bit is already clear and the live bit falls, releases the lines of the source. Choices of
the model that stand behind it: assumptions 17, 18 and 19. Completion is concluded for: faultOccurrence, graceTimerExpiry, retryDue,
faultLiveClear. -/
def Obligations.ReactionsAndTheirEnds : Prop :=
  (∀ (s : State) (b : Blk) (src : Src) (obj : Nat), ¬(b = bDOM ∧ src = 0 ∧ s.domOn obj = true) → s.canOccur b src obj →
      s.held b src obj = false →
      (s.flt[b].frty.getLsbD src.val = false → s.sevFor b src obj = 4 →
        ∃ t, exec (.faultOccurrence b src obj) s = .next t ∧ (⟨b, src, obj, true⟩ : Driver) ∈ t.safeLine) ∧
      (s.flt[b].frty.getLsbD src.val = false → s.sevFor b src obj = 2 → s.flt[b].grace.length < 8 →
        ∃ t, exec (.faultOccurrence b src obj) s = .next t ∧ t.safeLine = s.safeLine ∧ t.cells = s.cells ∧
          t.flt[b].grace = s.flt[b].grace ++ [⟨src, obj, s.now + 1000 * (s.reg (fgrcAddr b)).bits 7 0⟩]) ∧
      (s.flt[b].frty.getLsbD src.val = true → (s.flt[b].retries.any fun r => sameRetry b r.src src && r.obj == obj) = false →
        (s.flt[b].windows.any fun r => sameRetry b r.src src && r.obj == obj && decide (s.now < r.start + retryWindow b src)) = false →
        ∃ t, exec (.faultOccurrence b src obj) s = .next t ∧ t.retrying b src obj = true ∧ t.safeLine = s.safeLine ∧ t.halt = s.halt ∧
          t.flt[b].grace = s.flt[b].grace)) ∧
  (∀ (s : State) (b : Blk) (src : Src) (obj : Nat), s.dueGrace b src obj = true →
      ∃ t, exec (.graceTimerExpiry b src obj) s = .next t ∧
        t.flt[b].grace = s.flt[b].grace.filter (fun g => !(g.src == src && g.obj == obj)) ∧
        (s.sevFor b src obj ≠ 2 → t.cells = s.cells ∧ t.ctx = s.ctx ∧ t.branches = s.branches ∧ t.est = s.est) ∧
        (∀ c : Cell, s.sevFor b src obj = 2 → b = bFAB → obj = c.val → s.cells[c].st ≠ .off → t.cells[c].st = .fenced)) ∧
  (∀ (s : State) (b : Blk) (src : Src) (obj : Nat) (ok : Bool),
      (s.tooSoon b src obj = true → exec (.retryDue b src obj ok) s = .next s) ∧
      (s.tooSoon b src obj = false → s.otherLine b src obj = false → s.awaits b src obj = true →
        exec (.retryDue b src obj ok) s = .next s) ∧
      (s.tooSoon b src obj = false → s.retrying b src obj = true → s.otherLine b src obj = true ∨ s.awaits b src obj = false →
        ∃ t, exec (.retryDue b src obj ok) s = .next t ∧ t.retrying b src obj = false)) ∧
  (∀ (s : State) (c : Cell) (g : Group), s.tooSoon bFAB 0 c.val = false → s.retrying bFAB 0 c.val = true →
      s.otherLine bFAB 0 c.val = false → s.cells[c].st = .idle → s.cells[c].barred = false → s.cells[c].inMask = some g → s.halt[g.port] = [] → s.safeLine = [] →
      ∃ t, exec (.retryDue bFAB 0 c.val true) s = .next t ∧ t.cells[c].st = .starting) ∧
  (∀ (s : State) (b : Blk) (src : Src) (obj : Nat),
      ∃ t, exec (.faultLiveClear b src obj) s = .next t ∧ ((⟨src, obj⟩ : Cause) ∉ t.flt[b].live) ∧
        (∀ k : Blk, t.flt[k].fst = s.flt[k].fst) ∧
        (s.flt[b].fst.getLsbD src.val = false → t.liveBit b src = false → ∀ d : Driver, d.blk = b → d.src = src → d.reaction = true →
          d ∉ t.safeLine ∧ ∀ p : Port, d ∉ t.halt[p]))

/-- The writes to the fault registers act at the block's next iteration (R23, R434, R436, R437, R439, R440): FST clears what is written 1,
live bits to return at the iteration after; FFRC raises each forced source that is not masked, on the object that its index names; FSEV
and FMSK hold the values written, with the fixed fields, and a severity is in effect; masking ends the grace timers and retries of its
source, and a source unmasked while its cause is live occurs. Choices of the model that stand behind it: assumptions 1 and 18. Completion
is concluded for: fstW1cWrite, ffrcForce, fsevWrite, fmskWrite. -/
def Obligations.FaultWrites : Prop :=
  ∀ (s : State) (r : Req) (b : Blk) (v : Word), s.Inv → hasFaults b.val = true → s.deferred = [] →
    (s.serves (fstAddr b) → ∃ t, exec (.fstW1cWrite r b v) s = .next t ∧ t.flt = s.flt ∧
      ∀ i : Src, s.raised b i = true → t.iterate.raised b i = false → s.liveBit b i = true →
        ∃ m : BitVec 8, .relatch b m ∈ t.iterate.deferred ∧ m.getLsbD i.val = true) ∧
    (s.serves (ffrcAddr b) → ∃ t, exec (.ffrcForce r b v) s = .next t ∧ t.flt = s.flt ∧
      ∀ (i : Src) (obj : Nat), v.bit i.val = true → s.ffrcObj b i v = some obj → hasSource b.val i.val = true → s.masked b i = false →
        ((b ≠ bFAB ∧ b ≠ bFLOW) ∨ ∀ j : Src, j ≠ i → v.bit j.val = false) → t.iterate.raised b i = true) ∧
    (s.serves (fsevAddr b) → ∃ t, exec (.fsevWrite r b v) s = .next t ∧ t.flt = s.flt ∧
      t.iterate.reg (fsevAddr b) = enforceSev b.val (v &&& 0x00FFFFFF) ∧
      t.iterate.flt[b].sev = enforceSev b.val (v &&& 0x00FFFFFF)) ∧
    (s.serves (fmskAddr b) → ∃ t, exec (.fmskWrite r b v) s = .next t ∧ t.flt = s.flt ∧
      t.iterate.reg (fmskAddr b) = enforceMask b.val (v &&& 0xFF) ∧
      (∀ i : Src, t.iterate.masked b i = true →
        (∀ g ∈ t.iterate.flt[b].grace, g.src ≠ i) ∧ ∀ q ∈ t.iterate.flt[b].retries, q.src ≠ i) ∧
      (∀ (i : Src) (obj : Nat), s.masked b i = true → t.iterate.masked b i = false → (⟨i, obj⟩ : Cause) ∈ s.flt[b].live →
        t.iterate.raised b i = true))

/-- On an empty queue one microsecond passes (assumption 1). At the next iteration what waits alone happens (R23, R434, R437, R440): a carried
write has its effect and the flows follow, bits cleared while their source was live stand again, a severity is in effect, an entry of the
profile table stands whole (R233, R250), and the limits that a BMS sent act (R535). Choices of
the model that stand behind it: assumption 1. -/
def Obligations.NextIteration : Prop :=
  ∀ (s : State) (b : Blk), 
    (s.pending = [] → ∃ t, step s = .next t ∧ t.pending = [] ∧ t.now = s.now + 1) ∧
    (∀ (a : Nat) (v : Word), s.deferred = [.write a v] →
      s.iterate = (({ s with deferred := [] } : State).writeCarried a v).settle.iterationEnds) ∧
    (∀ m : BitVec 8, s.deferred = [.relatch b m] → s.iterate.flt[b].fst = s.flt[b].fst ||| (m &&& s.flive b) ∧
      s.iterate.deferred = []) ∧
    (s.deferred = [.severity b] → s.iterate.flt[b].sev = s.reg (fsevAddr b)) ∧
    (∀ (n : Nat) (w : BitVec 64), s.deferred = [.entry n w] →
      s.iterate = (({ s with deferred := [] } : State).putEntry n w).iterationEnds) ∧
    (∀ k : Bms, s.deferred = [.limits k] → s.iterate.bms[k].act = s.bms[k].came ∧ s.iterate.deferred = [])

/-- A parity error in the fault registers of a block asserts the Safe line (R29). Completion is concluded for: parityError. -/
def Obligations.ParityError : Prop :=
  ∀ (s : State) (b : Blk), hasFaults b.val = true → ∃ t, exec (.parityError b) s = .next t ∧ t.safeLine ≠ []

/-- A write of a status register clears each bit written as 1 by itself, a bit whose source occurs in this iteration apart; a write of zero
has no effect (R564). The FST registers are the W1C registers of the module; their writes act at the next iteration (R23). Completion is
concluded for: fstW1cWrite. -/
def Obligations.WriteOneToClear : Prop :=
  ∀ (s : State) (r : Req) (b : Blk), hasFaults b.val = true → s.serves (fstAddr b) → s.deferred = [] →
    (∃ t, exec (.fstW1cWrite r b 0) s = .next t ∧ t.iterate = s.settle.iterationEnds) ∧
    ∀ v : Word, ∃ t, exec (.fstW1cWrite r b v) s = .next t ∧
      ∀ i : Src, t.iterate.raised b i = (s.raised b i && !(v.bit i.val && !s.flt[b].occNow.getLsbD i.val))

/-- Arrival and groups (R445-R449): a report that leaves its slot of x3 joins the group that opened no more than 1 us ago, or opens one; a
group that closes stages its records in order of severity, with its opening time and the next record numbers, and stays open for a report
that arrives exactly 1 us after its opening; with 16 slots occupied and none matching, the count is lost. Choices of the model that stand behind it: assumption 16. Completion is concluded for: logReportArrival,
logGroupClose. -/
def Obligations.LogGroups : Prop :=
  (∀ (s : State) (b : Blk) (src : Src) (q : Report), s.x3 = [q] → q.blk = b → q.src = src →
    ∃ t, exec (.logReportArrival b src) s = .next t ∧ t.x3 = [] ∧ ∃ g, t.log.group = some g ∧
      { q with sev := s.sevRaw b src } ∈ g.reports ∧
      (∀ g₀, s.log.group = some g₀ → s.now ≤ g₀.openAt + 1 → g.openAt = g₀.openAt ∧ g₀.reports <+: g.reports) ∧
      (s.log.group = none → g.openAt = s.now ∧ g.sec = s.rtc ∧ g.usec = s.rtcUs)) ∧
  (∀ (s : State) (g : LogGroup) (r₁ r₂ : Report), s.log.group = some g → g.reports = [r₁, r₂] →
    (g.openAt + 1 < s.now ∨ g.openAt + 1 = s.now ∧ s.arrivalWaits = false) →
    r₁.blk ≠ r₂.blk → r₁.sev < r₂.sev → (s.ret.staged.any fun q => q.matches r₁ || q.matches r₂) = false →
    s.ret.staged.length ≤ 14 → r₁.count ≤ 255 → r₂.count ≤ 255 →
    ∃ t, exec .logGroupClose s = .next t ∧ t.log.group = none ∧ ∃ q₁ q₂ : LogRec,
      t.ret.staged = s.ret.staged ++ [⟨q₂, false, false⟩, ⟨q₁, false, false⟩] ∧
      q₂.seq = s.ret.nextSeq ∧ q₁.seq = nextSeq s.ret.nextSeq ∧ q₂.blk = r₂.blk ∧ q₁.blk = r₁.blk ∧ q₁.count = r₁.count ∧
      q₂.count = r₂.count ∧ q₁.sec = g.sec ∧ q₂.sec = g.sec ∧ q₁.usec = g.usec ∧ q₂.usec = g.usec) ∧
  (∀ (s : State) (g : LogGroup) (r : Report), s.log.group = some g → g.reports = [r] →
    (g.openAt + 1 < s.now ∨ g.openAt + 1 = s.now ∧ s.arrivalWaits = false) →
    (s.ret.staged.any fun q => q.matches r) = false → s.ret.staged.length = 16 →
    ∃ t, exec .logGroupClose s = .next t ∧ t.ret.staged = s.ret.staged ∧ t.ret.tally = s.ret.tally + r.count ∧
      t.ret.lost = min (2 ^ 32 - 1) (s.ret.lost + r.count)) ∧
  ∀ (s : State) (g : LogGroup), s.log.group = some g → (s.now ≤ g.openAt ∨ g.openAt + 1 = s.now ∧ s.arrivalWaits = true) →
    exec .logGroupClose s = .next s

/-- The log's store (R450-R454, R495): a commit that verifies leaves the record readable in its slot and takes it from the buffer, one that
does not leaves every record staged; the start-up scan fixes the next number; a record read answers the record in the store, or ok 0;
LOG_CTL arms LOG_FIRST, clears LOG_LOST and orders the erase. Choices of the model that stand behind it: assumptions 6 and 15. Completion
is concluded for: logCommit, logStartupScan, logRseqRead, logClrfirst, logClrlost, logErase. -/
def Obligations.LogStore : Prop :=
  (∀ (s : State) (q : Staged), s.Inv → s.canCommit = true → s.log.restored = false → s.ret.staged = [q] → s.ret.tally = 0 →
    s.retrying bLOG 1 0 = false →
    (∃ t, exec (.logCommit true) s = .next t ∧ t.ret.staged = [] ∧ t.log.newest = q.record.seq ∧
      Memory.readAll t.nv (logAddr q.record.seq) 16 = q.record.words.flatMap wordBytes) ∧
    (∃ u : State, exec (.logCommit false) s = .next ((u.occur bNVS 2 2).occur bLOG 1 0) ∧ u.log.commit = true ∧
      u.ret.staged = [{ q with programming := true }])) ∧
  (∀ s : State, s.log.scan = true → s.domOn 11 = true →
    (∃ t, exec (.logStartupScan true) s = .next t ∧ t.log.scan = false ∧ (∀ n ∈ s.logSeqs, n ≤ t.log.newest) ∧
      (t.log.newest = 0 ∨ t.log.newest ∈ s.logSeqs) ∧ (s.ret.staged = [] → t.ret.nextSeq = nextSeq t.log.newest) ∧
      (∀ q, s.log.found = 0 → s.ret.staged = [q] → t.ret.staged = [{ q with record := { q.record with seq := nextSeq t.log.newest } }])) ∧
    (∃ u : State, exec (.logStartupScan false) s = .next (((u.occur bNVS 1 2).countEcc bNVS 1).occur bLOG 2 0) ∧
      u.log.scan = false ∧ u.ret = s.ret)) ∧
  (∀ (s : State) (r : Req) (n : Word), s.serves 0x030014 → ∃ t, exec (.logRseqRead r n) s = .next t ∧ t.log.rdone = true ∧
    (s.log.erase = false → s.log.scan = false → n ≠ 0 → s.nvs.torn.contains (logAddr n.toNat / 256) = false →
      s.nvNat (logAddr n.toNat) 4 = n.toNat → t.log.rok = true ∧
      ∀ i : Fin 4, t.log.rw[i] = BitVec.ofNat 32 (s.nvNat (logAddr n.toNat + 4 * i.val) 4)) ∧
    (s.log.erase = true ∨ s.nvs.torn.contains (logAddr n.toNat / 256) = true ∨ s.nvNat (logAddr n.toNat) 4 ≠ n.toNat → t.log.rok = false ∧ ∀ i : Fin 4, t.log.rw[i] = 0)) ∧
  (∀ (s : State) (r : Req), s.serves 0x030010 →
    (∃ t, exec (.logClrfirst r) s = .next t ∧ t.ret.armed = true) ∧
    (∃ t, exec (.logClrlost r) s = .next t ∧ t.ret.lost = 0 ∧ t.ret.tally = s.ret.tally) ∧
    (s.log.erase = false → ∃ t, exec (.logErase r) s = .next t ∧ t.log.erase = true ∧ .logErase ∈ t.nvs.ops ∧ t.nv = s.nv))

/-- The ladder (R456, R460, R461, R463, R469): an expiry, a wrong or early key, and a clock that stops each take one step, which restarts
the control core, then the module up to N times, and then enters Hold with the Safe line; the clock changes over, with no second step in
the tick of an expiry; after a control-core restart the counter starts with its first period. Choices of the model that stand behind it: assumptions 13 and 59. Completion is concluded for:
wdgKeyWrite, wdgExpiry, wdgClockMonitorTrip, controlCoreRestartDone. -/
def Obligations.WatchdogLadder : Prop :=
  (∀ s : State, s.wdg.run = true → s.wdgPNow ≤ s.wdgMost → s.ret.wdg.hold = false →
    (s.ret.wdg.level = 0 → ∃ t, exec .wdgExpiry s = .next t ∧ t.ret.wdg.level = 1 ∧ t.ret.wdg.ccr = min 65535 (s.ret.wdg.ccr + 1) ∧
      t.ret.wdg.lastCause = 1 ∧ t.dom.coreRestart = some s.now ∧ t.wdg.run = false) ∧
    (s.ret.wdg.level = 1 → ∃ t, exec .wdgExpiry s = .next t ∧ t.ret.wdg.level = 2 ∧ t.ret.wdg.tries = 1 ∧
      t.ret.wdg.mr = min 65535 (s.ret.wdg.mr + 1) ∧ t.dom.st = .inReset ∧ t.dom.boot = true ∧ t.dom.wake = .watchdog) ∧
    (s.ret.wdg.level = 2 → s.ret.wdg.tries < s.fuse.nmax → ∃ t, exec .wdgExpiry s = .next t ∧ t.ret.wdg.level = 2 ∧
      t.ret.wdg.tries = s.ret.wdg.tries + 1 ∧ t.dom.boot = true) ∧
    (s.ret.wdg.level = 2 → s.fuse.nmax ≤ s.ret.wdg.tries → ∃ u : State, exec .wdgExpiry s = .next (u.occur bWDG 4 0) ∧
      u.ret.wdg.hold = true ∧ holdDriver ∈ u.safeLine ∧ u.wdg.run = false)) ∧
  (∀ (s : State) (r : Req) (key : BitVec 16), s.serves wdgKeyAt → s.wdg.run = true → s.wdg.clkCore = false → s.ret.wdg.hold = false →
    s.ret.wdg.level = 0 →
    ((s.wdg.armed = false ∧ key ≠ 0x6B1D ∨ s.wdg.armed = true ∧ key ≠ 0x94E2) → ∃ t, exec (.wdgKeyWrite r key) s = .next t ∧
      t.ret.wdg.level = 1 ∧ t.ret.wdg.lastCause = 2) ∧
    (s.wdg.armed = true → key = 0x94E2 → s.wdgTicks < s.wdgWNow → ∃ t, exec (.wdgKeyWrite r key) s = .next t ∧
      t.ret.wdg.level = 1 ∧ t.ret.wdg.lastCause = 3)) ∧
  (∀ s : State, s.wdg.lock = true → s.wdg.rootTripped = false → s.wdg.coreTripped = false → s.ret.wdg.hold = false →
    s.ret.wdg.level = 0 → s.stepInTick = false → ∃ t, exec .wdgClockMonitorTrip s = .next t ∧ t.wdg.clkCore = !s.wdg.clkCore ∧
      t.ret.wdg.level = 1 ∧ t.ret.wdg.lastCause = 4) ∧
  (∀ s : State, s.wdg.lock = true → s.wdg.rootTripped = false → s.wdg.coreTripped = false → s.stepInTick = true →
    ∃ u : State, exec .wdgClockMonitorTrip s = .next (u.occur bWDG 3 0) ∧ u.wdg.clkCore = !s.wdg.clkCore ∧ u.ret = s.ret) ∧
  (∀ s : State, s.wdg.lock = true → s.wdg.rootTripped = true → s.wdg.coreTripped = true → s.ret.wdg.hold = false →
    ∃ u : State, exec .wdgClockMonitorTrip s = .next (u.occur bWDG 4 0) ∧ u.ret.wdg.hold = true ∧ holdDriver ∈ u.safeLine) ∧
  (∀ s : State, s.dom.coreRestart.isSome = true → ∃ t, exec .controlCoreRestartDone s = .next t ∧ t.dom.coreRestart = none ∧
    (s.wdg.lock = true → s.ret.wdg.hold = false → t.wdg.run = true ∧ t.wdg.since = s.now ∧ t.wdg.firstPeriod = true) ∧
    (s.thr.st = .held → t.thr.st = .running))

/-- Host contact (R465-R468): a kick or a frame that counts restarts the timer and ends an expiry, with WDG source 6; the timer's end sets exp
and moves every flow to its safe profile; WDG_HCT restarts the count. The watchdog's start and service (R455-R459, R461): the first write
of WDG_CFG with en 1 starts and locks it; the two keys in order, the second from W on and below P, are a service; a service ends the
ladder where it is the 64th in a row. Choices of the model that stand behind it: assumption 59. Completion is concluded for: wdgCfgEnable,
wdgKeyWrite, wdgClrcnt, wdgHckick, wdgHctWrite, hostContactExpiry, hostContact. -/
def Obligations.WatchdogAndHostContact : Prop :=
  ((∀ (s : State) (r : Req), s.serves wdgCtlAt → s.kickCounts = true → s.host.run = true →
      ∃ u : State, u.host = { s.host with since := s.now, exp := false, zero := false } ∧ ChangesOnly [.host] s u ∧
        exec (.wdgHckick r) s = .next (if s.host.exp then u.occur bWDG 6 0 else u)) ∧
    (∀ (s : State) (r : Req), s.serves wdgCtlAt → s.kickCounts = false → exec (.wdgHckick r) s = .next s) ∧
    (∀ (s : State) (f : Frame), s.ringCounts = true → s.isContact f = true → s.host.run = true →
      ∃ u : State, u.host = { s.host with since := s.now, exp := false, zero := false } ∧ ChangesOnly [.host] s u ∧
        exec (.hostContact f) s = .next (if s.host.exp then u.occur bWDG 6 0 else u)) ∧
    (∀ (s : State) (f : Frame), s.isContact f = false → exec (.hostContact f) s = .next s) ∧
    (∀ (s : State) (r : Req) (v : Word), s.Inv → s.serves wdgHctAt → ∃ t, exec (.wdgHctWrite r v) s = .next t ∧ t.host.since = s.now ∧
      (1 ≤ (t.reg wdgHctAt).bits 9 0 ∧ (t.reg wdgHctAt).bits 9 0 ≤ 600) ∧
      (1 ≤ v.bits 9 0 → v.bits 9 0 ≤ 600 → (t.reg wdgHctAt).bits 9 0 = v.bits 9 0)) ∧
    (∀ s : State, s.host.since + s.hctUs = s.now → s.contactWaits = true → exec .hostContactExpiry s = .next s) ∧
    (∀ s : State, s.host.run = true → s.host.zero = false → s.host.since + s.hctUs ≤ s.now →
      s.host.since + s.hctUs < s.now ∨ s.contactWaits = false →
      ∃ t, exec .hostContactExpiry s = .next t ∧ t.host.exp = true ∧ t.host.nexp = min 255 (s.host.nexp + 1) ∧
        ∀ c : Ctx, s.ctx[c].st ≠ .free → t.ctx[c].safe = true)) ∧
  ((∀ (s : State) (r : Req) (v : Word), s.serves wdgCfgAt →
      (s.wdg.lock = false → v.bit 0 = true → ∃ t, exec (.wdgCfgEnable r v) s = .next t ∧ t.wdg.lock = true ∧ t.wdg.run = true ∧
        t.wdg.since = s.now ∧ t.wdg.clkCore = v.bit 1 ∧ wdgPeriod t.wdg.cfg = max 10 (min 60000 (v.bits 31 16)) ∧
        t.ret.wdg.level = 0 ∧ t.ret.wdg.tries = 0) ∧
      (s.wdg.lock = false → v.bit 0 = false → exec (.wdgCfgEnable r v) s = .next s) ∧
      (s.wdg.lock = true → ∃ t, exec (.wdgCfgEnable r v) s = .next t ∧ ChangesOnly [.sys] s t ∧ t.sys.cause = 4 ∧ t.sys.addr = wdgCfgAt)) ∧
    (∀ (s : State) (r : Req), s.serves wdgKeyAt → s.wdg.run = true → s.wdg.clkCore = false →
      (s.wdg.armed = false → ∃ t, exec (.wdgKeyWrite r 0x6B1D) s = .next t ∧ t.wdg = { s.wdg with armed := true } ∧
        ChangesOnly [.wdg] s t) ∧
      (s.wdg.armed = true → s.wdgWNow ≤ s.wdgTicks → s.wdgTicks < s.wdgPNow →
        ∃ t, exec (.wdgKeyWrite r 0x94E2) s = .next t ∧ t.wdg.armed = false ∧ t.wdg.since = s.now ∧ t.wdg.firstPeriod = false ∧
          t.wdg.good = min 64 (s.wdg.good + 1) ∧ (s.wdg.good < 63 → t.ret.wdg = s.ret.wdg) ∧
          (63 ≤ s.wdg.good → t.ret.wdg.level = 0))) ∧
    (∀ (s : State) (r : Req), s.serves wdgCtlAt → ∃ t, exec (.wdgClrcnt r) s = .next t ∧ t.ret.wdg = { s.ret.wdg with ccr := 0, mr := 0 }))

/-- THR_COMMIT (R33, R331, R337): the shadowed set is committed whole where its clamped window is not empty and vnom lies in it, the forecast
only where it was written; else THR source 1, and the committed set and the shadow registers stay. Thresher's timers (R330, R331, R333,
R334): the forecast expires after 2 h, a wanted generating set is reported each tstart, the deferral ends 60 s after cooling, and without
a broadcast for 30 ms the stook's grant no longer limits and lending stops. Choices of the model that stand behind it: assumptions 36 and
66. Completion is concluded for: thrCommit, forecastExpiry, gensetStartTimeout, deferralEnd, stookGrantLost. -/
def Obligations.BudgetsAndTimers : Prop :=
  (∀ (s : State) (r : Req) (v : Word), s.serves thrCommitAt →
      (v.bit 0 = false → exec (.thrCommit r v) s = .next s) ∧
      (v.bit 0 = true →
        let w := s.clampWin (s.reg thrCwinAt)
        let vnom := (s.reg thrCsetAt).bits 15 0
        (w.bits 15 0 ≤ vnom → vnom ≤ w.bits 31 16 → ∃ t, exec (.thrCommit r v) s = .next t ∧ t.thr.cres = 1 ∧
          t.thr.cseq = (s.thr.cseq + 1) % 256 ∧ t.thr.committed.cwin = w ∧ t.thr.committed.cset = s.reg thrCsetAt ∧
          t.thr.committed.budp = s.reg thrBudpAt ∧ t.thr.committed.budh = s.reg thrBudhAt ∧ t.thr.committed.gen = s.reg thrGenAt ∧
          (∀ g : Group, t.thr.committed.plim[g] = s.reg (thrPlimAt g)) ∧
          (∀ k : Fin 8, t.thr.committed.fc[k] = if s.thr.fcTouched then s.reg (thrFcAt k) else s.thr.committed.fc[k]) ∧
          t.thr.inForce = s.thr.inForce) ∧
        (vnom < w.bits 15 0 ∨ w.bits 31 16 < vnom → ∃ u : State, exec (.thrCommit r v) s = .next (u.occur bTHR 1 0) ∧
          u.thr.cres = 2 ∧ u.thr.committed = s.thr.committed ∧ u.rw = s.rw))) ∧
  ((∀ s : State, s.thr.fcValid = true → s.thr.fcStart + 7200000000 ≤ s.now →
      ∃ u : State, exec .forecastExpiry s = .next (u.occur bTHR 6 0) ∧ u.thr.fcValid = false) ∧
    (∀ s : State, s.thr.req = true → s.thr.reqAt + 1000000 * s.thr.inForce.gen.bits 23 16 ≤ s.now →
      ∃ u : State, exec .gensetStartTimeout s = .next (u.occur bTHR 4 0) ∧ u.thr.reqAt = s.now) ∧
    (∀ (s : State) (a : Nat), s.thr.defer = true → s.thr.coolAt = some a → a + 60000000 ≤ s.now →
      ∃ t, exec .deferralEnd s = .next t ∧ t.thr.defer = false) ∧
    (∀ (s : State) (a : Nat), s.thr.stklost = false → s.ring.stookAt = some a → a + 30000 ≤ s.now →
      ∃ u : State, exec .stookGrantLost s = .next (u.occur bTHR 2 0 true) ∧ u.thr.stk = 0xFFFF ∧
        u.thr.lend = 0 ∧ u.thr.stklost = true ∧ ∀ c : Ctx, s.ctx[c].d.kind = 6 → u.ctx[c].peerGrant = 0))

/-- A round is latched and published (R33, R313-R316): the latch computes the round under the committed set and leaves the set in force and
every grant as they are; at t_k the round's set takes force; the publication gives the flows that were Live at the latch the round's
grants and hands its orders over; an overrun publishes the last grants again without orders and reports THR source 0, and a set that
fails its check publishes them so with THR source 5; in Held no order is given, the flows of the last round have at most its grants, and
others none. Choices of the model that stand behind it: assumptions 35 and 100. Completion is concluded for: thrRoundLatch,
thrRoundPublish. -/
def Obligations.Rounds : Prop :=
  (∀ s : State, s.thr.st = .running → s.serviceRuns = true → s.nextRound ≤ s.now + 40 → s.thr.round = none →
    ∃ t q, exec .thrRoundLatch s = .next t ∧ t.thr.round = some q ∧ q.set = s.thr.committed ∧ t.thr.inForce = s.thr.inForce ∧
      t.thr.lastAt = s.now ∧
      (actSev bTHR 3 (s.sevRaw bTHR 3) ≠ 4 → q.flows = s.latched ∧ ∀ c : Ctx, t.ctx[c].grant = s.ctx[c].grant)) ∧
  (∀ (s : State) (q : Round), s.thr.st = .running → s.domOn 3 = true → s.nextRound ≤ s.now → s.thr.round = some q →
    ∃ t, exec (.thrRoundPublish true true) s = .next t ∧ t.thr.k = s.thr.k + 1 ∧ t.thr.round = none ∧ t.thr.inForce = q.set ∧ t.thr.orders = q.orders ∧
      t.thr.sheds = q.sheds ∧ ∀ c : Ctx, s.ctx[c].st = .live → q.live.contains c = true → t.ctx[c].grant = q.grants[c].cur) ∧
  (∀ (s : State) (q : Round), s.thr.st = .running → s.domOn 3 = true → s.nextRound ≤ s.now → s.thr.round = some q →
    ∃ u : State, exec (.thrRoundPublish true false) s = .next (u.occur bTHR 5 0).settle ∧ u.thr.failed = true ∧ u.thr.orders = [] ∧
      u.thr.sheds = [] ∧ u.thr.inForce = q.set) ∧
  (∀ (s : State) (setOk : Bool), s.thr.st = .running → s.domOn 3 = true → s.nextRound ≤ s.now →
    ∃ u : State, exec (.thrRoundPublish false setOk) s = .next (u.occur bTHR 0 0).settle ∧ u.thr.orders = [] ∧
      (∀ q : Round, s.thr.round = some q → u.thr.inForce = q.set) ∧
      ∀ (c : Ctx) (q : Round), s.thr.last = some q → q.flows.contains c = true → q.live.contains c = true ∨ s.ctx[c].st ≠ .live →
        u.ctx[c].grant ≤ q.grants[c].cur) ∧
  (∀ (s : State) (handed setOk : Bool), s.thr.st = .held → s.domOn 3 = true → s.nextRound ≤ s.now →
    ∃ t, exec (.thrRoundPublish handed setOk) s = .next t ∧ t.thr.st = .held ∧ t.thr.orders = [] ∧ t.thr.sheds = [] ∧
      ∀ c : Ctx, (∀ q : Round, s.thr.last = some q → q.flows.contains c = true → t.ctx[c].grant ≤ q.grants[c].cur) ∧
        ((∀ q : Round, s.thr.last = some q → q.flows.contains c = false) → t.ctx[c].grant = 0))

/-- No pass of the allocation grants a flow more than its ceiling (R317, R324), whatever the budgets; a flow that is not latched, or is
deferred (R330), is granted nothing. Choices of the model that stand behind it: assumption 35. -/
def Obligations.GrantsWithinCeilings : Prop :=
  ∀ (s : State) (die : Vector (Option Nat) 7) (pcap : Nat) (load : Int) (pthr : Nat) (c : Ctx),
    (s.allocate die pcap load pthr).1.grants[c].cur ≤ s.ceiling s.ctx[c] die ∧
    ((s.latched.contains c = false ∨ s.deferred? s.ctx[c] = true) → (s.allocate die pcap load pthr).1.grants[c].cur = 0)

/-- A wave (R344-R346, R349, R353, R355): a wave whose turn it is, and a priority wave at any turn, completes, stores the group's timing
figures, ends its stall, and leaves the culm voltage as measured; a wave that is not the next in the order does nothing; one with samples
older than those of its group's last priority wave is discarded, and one that a waiting priority wave overtakes waits. The stalls and the core supply (R30, R347,
R348, R351, R352): a group without a wave for 8 us and the whole pipeline are SENSE sources 3 and 4; a cell without commands for 10 us is
Idle; the supply steps by 10 mV within 0.60-0.90 V; outside 0.58-0.93 V it is a loss of D3, every line of whose blocks reads as asserted,
and the flow contexts are Free with the next generation. Choices of the model that stand behind it: assumptions 4, 32, 58, 68 and
107. Completion is concluded for: pipelineWave, priorityWave, groupStall, pipelineStall, driveCommandTimeout, coreSupplyAdjust,
coreSupplyFault. -/
def Obligations.WavesAndCoreSupply : Prop :=
  (∀ (s : State) (g : Group) (w : Wave),
      let done (t : State) : Prop := t.sense.groups[g].itLast = min 4095 w.tIter ∧ t.sense.groups[g].latLast = min 4095 w.tLat ∧
        t.sense.groups[g].waves = (s.sense.groups[g].waves + 1) % 2 ^ 32 ∧ t.sense.gstall[g] = false ∧ (t.culm.vmeas : Int) = w.vCulm
      (s.wavesRun g = true → s.prioWaits = false → s.deferred = [] → s.culm.drain = none → w.failed = [] →
        s.sense.ch[(109 : Chan)].2 ≠ 2 → 0 ≤ w.vCulm → w.vCulm ≤ 65000 →
        (s.turnOf = some g → (∀ a, s.sense.prioAt[g] = some a → a ≤ s.sampledAt w) →
          ∃ t, exec (.pipelineWave g w) s = .next t ∧ done t ∧ t.sense.turn = g + 1) ∧
        (s.sense.prio = [] → (∀ q ∈ s.sense.waiting, q.1 = g) →
          ∃ t, exec (.priorityWave g w) s = .next t ∧ done t ∧ t.sense.prioAt[g] = some (s.sampledAt w) ∧ t.sense.waiting = [])) ∧
      (s.turnOf ≠ some g → exec (.pipelineWave g w) s = .next s) ∧
      (∀ a, s.turnOf = some g → s.sense.prioAt[g] = some a → s.sampledAt w < a → exec (.pipelineWave g w) s = .next (s.passTurn g)) ∧
      (s.turnOf = some g → (∀ a, s.sense.prioAt[g] = some a → a ≤ s.sampledAt w) → s.prioWaits = true →
        ∃ t, exec (.pipelineWave g w) s = .next t ∧ t.sense.waiting = s.sense.waiting ++ [(g, w)] ∧ t.culm = s.culm ∧
          t.sense.groups = s.sense.groups) ∧
      (s.wavesRun g = true → s.prioWaits = true → ∃ t, exec (.priorityWave g w) s = .next t ∧ t.sense.prio = s.sense.prio ++ [(g, w)] ∧
        (∀ q ∈ t.sense.waiting, q.1 ≠ g) ∧ t.sense.groups = s.sense.groups) ∧
      (s.wavesRun g = false → s.prioWaits = true → exec (.priorityWave g w) s = .next s)) ∧
  ((∀ (s : State) (g : Group) (us : Nat), s.domOn 3 = true → 8 ≤ us → s.switching g ≠ [] →
      (∃ u : State, exec (.groupStall g us) s = .next (u.occur bSENSE 3 g.val true).settle ∧ u.sense.gstall[g] = true) ∧
      exec (.pipelineStall us) s = .next (s.occur bSENSE 4 0 true)) ∧
    (∀ (s : State) (c : Cell) (us : Nat), s.cells[c].st.running = true → 10 ≤ us →
      ∃ t, exec (.driveCommandTimeout c us) s = .next t ∧ t.cells[c].st = .idle ∧ t.cells[c].cur = 0 ∧ t.cells[c].dropped = true ∧
        ∀ m, s.migrOf c = some m → m ∉ t.fab.migs) ∧
    (∀ (s : State) (tslow : Nat), s.domOn 2 = true → 600 ≤ s.sense.vcore → s.sense.vcore ≤ 900 →
      ∃ t, exec (.coreSupplyAdjust tslow) s = .next t ∧ 600 ≤ t.sense.vcore ∧ t.sense.vcore ≤ 900 ∧ t.sense.tslow = min 4095 tslow ∧
        (s.senseCfg.bit 8 = true → t.sense.vcore = 900) ∧
        (t.sense.vcore = 900 ∨ (s.sense.vcore ≤ t.sense.vcore + 10 ∧ t.sense.vcore ≤ s.sense.vcore + 10))) ∧
    (∀ (s : State) (mv heldUs : Nat), s.domOn 2 = true → mv < 580 ∨ 930 < mv → 1 ≤ heldUs →
      ∃ t, exec (.coreSupplyFault mv heldUs) s = .next t ∧ (∀ p : Port, t.halt[p] ≠ []) ∧
        (∀ c : Cell, s.cells[c].st ≠ .off → t.cells[c].st = .fenced) ∧ t.safeLine ≠ [] ∧
        ∀ c : Ctx, t.ctx[c].st = .free ∧ t.ctx[c].gen = if s.ctx[c].gen = 255 then 1 else s.ctx[c].gen + 1))

/-- The crossings (R356, R357, R359, R360): an item of a kind is raised into its slot with the value of the moment, a later value replacing a
replace item and counting at a counted one, and a back-pressured one dropped and counted while the peer is absent; an item taken leaves
its slot, the receiver holds its value, and its latency is kept; the reset of a side empties the slots, advances presets and is SENSE
source 2. Choices of the model that stand behind it: assumptions 12, 60 and 91. Completion is concluded for: crossingItemRaised, crossingItemTaken, crossingPeerReset. -/
def Obligations.Crossings : Prop :=
  (∀ (s : State) (x : Xing) (i : XItem), itemKind x i = some 0 → (∃ t, exec (.crossingItemRaised x i) s = .next t ∧
    (∃ q ∈ t.xslots, q.x = x ∧ q.item = i ∧ q.data = s.itemData i) ∧
    ∀ q ∈ t.xslots, q.x = x → sameSlot q.item i = true → q = ⟨x, i, 1, s.itemData i⟩)) ∧
  (∀ (s : State) (x : Xing) (i : XItem), itemKind x i = some 1 → (∀ b k, i ≠ .report b k) → (∀ w, i ≠ .setpoint w) →
    s.xslots = [⟨x, i, 1, .own⟩] → ∃ t, exec (.crossingItemRaised x i) s = .next t ∧ t.xslots = [⟨x, i, 2, .own⟩] ∧
      t.xing[x].merged = min 255 (s.xing[x].merged + 1)) ∧
  (∀ (s : State) (x : Xing), itemKind x .backPressured = some 2 →
    (s.barsItem x .backPressured = true → s.xing[x].emptyAt ≠ some s.now → ∃ t, exec (.crossingItemRaised x .backPressured) s = .next t ∧ t.xslots = s.xslots ∧
      t.xing[x].drops = min 255 (s.xing[x].drops + 1)) ∧
    (s.barsItem x .backPressured = false ∨ s.xing[x].emptyAt = some s.now → ∃ t, exec (.crossingItemRaised x .backPressured) s = .next t ∧
      t.xslots = s.xslots ++ [⟨x, .backPressured, 1, .own⟩])) ∧
  (∀ (s : State) (b : Blk) (k : Src), b ≠ bDOM → b ≠ bWDG → b ≠ bLOG → s.x3 = [] →
    ∃ t, exec (.crossingItemRaised 3 (.report b k)) s = .next t ∧ t.x3 = [⟨b, k, .occurrence, false, 0, 1, 0⟩]) ∧
  (∀ (s : State) (x : Xing) (i : XItem) (lat n : Nat) (d : XData), s.barsItem x i = false → lat ≤ xingBound x → s.xslots = [⟨x, i, n, d⟩] →
    (itemKind x i = some 0 ∨ itemKind x i = some 2) →
    ∃ t, exec (.crossingItemTaken x i lat) s = .next t ∧ t.xslots = [] ∧ t.xing[x].last = min 4095 lat ∧
      t.xing[x].max = max s.xing[x].max (min 4095 lat) ∧
      (itemKind x i = some 0 → ∃ k ∈ t.xing[x].kept, k.item = i ∧ k.data = d) ∧
      ∀ k l, i = .bms k → d = .limits l → t.bms[k].came = l) ∧
  (∀ (s : State) (x : Xing) (coreSide : Bool), ∃ u t : State, exec (.crossingPeerReset x coreSide) s = .next t ∧
    ChangesOnly [.xing] (u.occur bSENSE 2 x.val) t ∧ (coreSide = false → s.domOn (clockedDomain x) = true → t.xing[x].ownAt = some s.now) ∧
    u.xing[x].presets = min 255 (s.xing[x].presets + 1) ∧
    ∀ q ∈ u.xslots, q.x = x → coreSide = true ∧ s.domOn 3 = true ∧ x ≠ 1 ∧ x ≠ 4 ∧ q.item ≠ .backPressured ∧ q.item ≠ .notice)

/-- Cells (R74, R86, R87, R94): a trip stops the cell and is FAB source 0; start checks that pass make it Active, a first failure is tried
again after 5 ms, and the next leaves it Idle; a shed cell ramps, parks, and leaves its group at the end of its hold. Choices of the model
that stand behind it: assumptions 17 and 33. Completion is concluded for: cellTrip, cellStartChecksDone, cellStartRetry, shedOrder,
shedParked, parkHoldExpiry. -/
def Obligations.CellStates : Prop :=
  (∀ (s : State) (c : Cell), s.cells[c].st.running = true →
    ∃ u : State, exec (.cellTrip c) s = .next (u.occur bFAB 0 c.val).settle ∧ u.cells[c].st = .idle ∧ u.cells[c].cur = 0 ∧
      u.cells[c].inMask = s.cells[c].inMask) ∧
  (∀ (s : State) (c : Cell) (o : StartObs), s.migrOf c = none → s.cells[c].st = .starting →
    (∀ t₀, s.cells[c].retryAt = some t₀ → exec (.cellStartChecksDone c o) s = .next s) ∧
    (startPass o = true → s.cells[c].retryAt = none → ∃ t, exec (.cellStartChecksDone c o) s = .next t ∧ t.cells[c].st = .active ∧
      t.cells[c].starts = min 65535 (s.cells[c].starts + 1)) ∧
    (startPass o = false → s.cells[c].retryAt = none → s.willRetry bFAB 2 c.val = true →
      ∃ u : State, exec (.cellStartChecksDone c o) s = .next (u.occur bFAB 2 c.val) ∧ u.cells[c].st = .starting ∧
        u.cells[c].startRetry = true ∧ u.cells[c].retryAt = some (s.now + 5000)) ∧
    (startPass o = false → s.cells[c].retryAt = none → s.willRetry bFAB 2 c.val = false →
      ∃ u : State, exec (.cellStartChecksDone c o) s = .next (u.occur bFAB 2 c.val).settle ∧ u.cells[c].st = .idle)) ∧
  (∀ (s : State) (c : Cell) (t₀ : Nat), s.cells[c].retryAt = some t₀ →
    (t₀ ≤ s.now → s.otherLine bFAB 2 c.val = false → ∃ t, exec (.cellStartRetry c) s = .next t ∧
      t.cells[c] = { s.cells[c] with retryAt := none, since := s.now } ∧ ChangesOnly [.cells, .flt] s t) ∧
    (t₀ ≤ s.now → s.otherLine bFAB 2 c.val = true → s.migrOf c = none → ∃ t, exec (.cellStartRetry c) s = .next t ∧
      t.cells[c].st = .idle ∧ t.retrying bFAB 2 c.val = false) ∧
    (s.now < t₀ → exec (.cellStartRetry c) s = .next s)) ∧
  (∀ (s : State) (c : Cell) (g : Group), s.cells[c].inMask = some g → (∀ k ∈ s.orderCells g c, s.cells[k].st = .active) →
    s.groups[g].cfg.minph ≤ ((s.members g).filter fun k => s.cells[k].st == .active && !(s.orderCells g c).contains k).length →
    ((s.members g).filter fun k => s.cells[k].st == .active && !(s.orderCells g c).contains k) ≠ [] →
    s.halt[g.port] = [] → s.safeLine = [] → s.thr.sheds.contains c = true →
    ∃ t, exec (.shedOrder c) s = .next t ∧ (∀ k ∈ s.orderCells g c, t.cells[k].st = .shedding) ∧
      ∀ k, k ∉ s.orderCells g c → t.cells[k] = s.cells[k]) ∧
  (∀ (s : State) (c : Cell) (share : Int), s.cells[c].st = .shedding → share.natAbs < 30 →
    ∃ t, exec (.shedParked c share) s = .next t ∧ t.cells[c].st = .parked ∧ t.cells[c].cur = 0 ∧ t.cells[c].inMask = s.cells[c].inMask) ∧
  (∀ (s : State) (c : Cell) (g : Group), s.cells[c].inMask = some g → s.cells[c].st = .parked →
    s.cells[c].since + 1000 * s.groups[g].cfg.hold ≤ s.now →
    ∃ t, exec (.parkHoldExpiry c) s = .next t ∧ t.cells[c].st = .idle ∧ t.cells[c].inMask = none ∧ t.cells[c].grp = none ∧
      t.cells[c].sel = s.cells[c].sel)

/-- Migrations (R89, R90, R92): an order that the fabric accepts makes each of its cells Migrating, or Starting where no group gives it, one
that it does not is recorded as refused; each step advances, step 5 once the checks of every cell have passed, and a failed check that
is not retried ends it; at step 6 the cells belong to the receiver and at step 7 they are Active and the migration completed; a step over
its bound is FAB source 4, a donor member Active again and another cell as it was before step 3, and Idle from there on. Choices of the model that
stand behind it: assumption 34. Completion is concluded for: cellStartChecksDone, migrationLatch, migrationStepDone,
migrationStepOvertime. -/
def Obligations.Migrations : Prop :=
  (∀ (s : State) (o : Order), s.thr.orders.contains o = true →
    (s.acceptsOrder o = true → ∃ t, exec (.migrationLatch o) s = .next t ∧
      (∀ c ∈ s.orderCells o.dest o.cell,
        ((s.donorOf c).isSome = true → t.cells[c].st = .migrating ∧ t.cells[c].grp = some o.dest) ∧
        (s.donorOf c = none → t.cells[c].st = .starting ∧ t.cells[c].grp = s.cells[c].grp)) ∧
      ∃ m ∈ t.fab.migs, m.cell = o.cell ∧ m.dest = o.dest ∧ m.donor = s.donorOf o.cell ∧ m.t0 = s.thr.ordersAt) ∧
    (s.acceptsOrder o = false → ∃ t, exec (.migrationLatch o) s = .next t ∧ t.fab.mlog.result = 3 ∧ t.fab.mlog.cell = o.cell.val ∧ t.fab.migs = s.fab.migs ∧
        t.cells = s.cells)) ∧
  (∀ (s : State) (c : Cell) (m : Migr), s.migrOf c = some m →
    (m.step < 4 ∨ m.step = 5 ∧ (∀ t₀, m.openAt = some t₀ → t₀ + 20 ≤ s.now) →
      ∃ t, exec (.migrationStepDone c) s = .next t ∧ (∃ k ∈ t.fab.migs, k.cell = m.cell ∧ k.step = m.step + 1) ∧
        (m.step = 2 → ∀ q ∈ m.parts, q.donor.isSome = true → t.cells[q.cell].selOpen = true ∧ t.cells[q.cell].inMask = none) ∧
        (m.step = 5 → ∀ q ∈ m.parts, t.cells[q.cell].inMask = some m.dest ∧ t.cells[q.cell].grp = some m.dest ∧
          t.cells[q.cell].sel = selFor q.cell m.dest ∧ t.cells[q.cell].selOpen = false)) ∧
    (m.step = 6 → ∃ t, exec (.migrationStepDone c) s = .next t ∧ (∀ q ∈ m.parts, t.cells[q.cell].st = .active) ∧
      t.fab.mlog.result = 0 ∧ t.fab.mlog.dest = m.dest.val ∧ ∀ k ∈ t.fab.migs, k.cell ≠ m.cell) ∧
    (∀ o, s.checksRun c = true →
      (startPass o = true → ∃ t, exec (.cellStartChecksDone c o) s = .next t ∧
        ∃ k ∈ t.fab.migs, k.cell = m.cell ∧ k.step = if (m.parts.all fun q => q.passed || q.cell == c) = true then 5 else 4) ∧
      (startPass o = false → s.willRetry bFAB 2 c.val = false →
        ∃ u : State, exec (.cellStartChecksDone c o) s = .next (u.occur bFAB 2 c.val).settle ∧ u.fab.mlog.result = 2 ∧
          (∀ k ∈ u.fab.migs, k.cell ≠ m.cell) ∧ ∀ q ∈ m.parts, u.cells[q.cell].st = .idle)) ∧
    (m.stepAt + stepBound (m.step + 1) < s.now → m.cells.Nodup →
      ∃ u : State, exec (.migrationStepOvertime c) s = .next (u.occur bFAB 4 m.cell.val).settle ∧ u.fab.mlog.result = 1 ∧
        (∀ k ∈ u.fab.migs, k.cell ≠ m.cell) ∧
        ∀ q ∈ m.parts, (3 ≤ m.step → u.cells[q.cell].st = .idle) ∧
          (m.step < 3 → u.cells[q.cell].st = if q.donor.isSome = true then .active else q.start)))

/-- The culm (R114-R117): within 2 % for 10 ms its precharge ends, it is Regulating and enabled branches precharge; with no flow to supply it,
it is Off and every branch open, one that was open in the state that it keeps (R120); a shortfall sheds the next priority level; an
under-voltage opens every branch in the same way, and a surplus those that
carry reverse current. The stubble supply (R137, R138): above 250 A it sheds a branch, at 400 A, at reverse current, and outside its
window it stops and every branch opens. Choices of the model that stand behind it: assumptions 39 and 53. Completion is concluded for:
culmPrechargeDone, shortfallShed, culmUnderVoltage, culmSurplusOpen, stubbleOverloadShed, stubbleSupplyTrip, stubbleWindowLost. -/
def Obligations.CulmAndStubbleSupply : Prop :=
  ((∀ (s : State) (v heldUs : Nat), s.culm.mode = .precharge →
      (s.canSupply = true → 50 * v ≤ 51 * s.culm.vset → 49 * s.culm.vset ≤ 50 * v → 10000 ≤ heldUs →
        ∃ t, exec (.culmPrechargeDone v heldUs) s = .next t ∧ t.culm.mode = .regulating ∧ t.culm.vmeas = min 65535 v ∧
          ∀ b : Branch, s.branches[b].st = .opened → s.branchEn b = true → s.branches[b].byHalt = false → s.branches[b].await = false →
            s.halt[b.side.loadPort] = [] → s.safeLine = [] → s.branches[b].vout ≤ min 65535 v + 1000 → t.branches[b].st = .precharge) ∧
      (s.canSupply = false → ∃ t, exec (.culmPrechargeDone v heldUs) s = .next t ∧ t.culm.mode = .off ∧
        ∀ b : Branch, t.branches[b].st = if s.branches[b].st.isOpen = true then s.branches[b].st else .opened)) ∧
    (∀ (s : State) (v heldUs : Nat), s.culm.mode = .regulating ∨ s.culm.mode = .shortfall → v < s.culm.msv → s.culm.shedLevels < 3 →
      1000 + 5000 * s.culm.shedLevels ≤ heldUs →
      ∃ t, exec (.shortfallShed v heldUs) s = .next t ∧ t.culm.shedLevels = s.culm.shedLevels + 1 ∧
        (∀ b : Branch, s.branches[b].st = .closed → s.branchPrio b = s.culm.shedLevels → t.branches[b].st ≠ .closed) ∧
        (actSev bLOAD 7 (s.sevRaw bLOAD 7) ≤ 1 → t.culm.mode = .shortfall ∧ ∀ b : Branch, t.branches[b].st =
          if s.branches[b].st = .closed ∧ s.branchPrio b = s.culm.shedLevels then .shed else s.branches[b].st)) ∧
    (∀ (s : State) (v heldUs : Nat), s.culm.mode ≠ .off → s.culm.mode ≠ .stubble → s.culm.mode ≠ .precharge → v < s.culm.uv →
      2000 ≤ heldUs → ∃ u : State, exec (.culmUnderVoltage v heldUs) s = .next (u.occur bCULM 1 0 true) ∧
        u.culm.mode = .underVoltage ∧
        ∀ b : Branch, u.branches[b].st = if s.branches[b].st.isOpen = true then s.branches[b].st else .opened) ∧
    (∀ (s : State) (v heldUs : Nat), 61000 ≤ v → 100 ≤ heldUs →
      ∃ u : State, exec (.culmSurplusOpen v heldUs) s = .next (if 62000 ≤ v then u.occur bCULM 0 0 else u) ∧ u.culm.vmeas = min 65535 v ∧
        ∀ b : Branch, u.branches[b].st = .closed → s.branches[b].cur ≤ 0)) ∧
  (∀ s : State, s.culm.supOn = true →
      (∀ (i : Nat) (b : Branch) (l : List Branch), 25000 < i → (∀ t₀, s.culm.supOver = some t₀ → t₀ + 10000 ≤ s.now) →
        s.shedOrder allBranches = b :: l →
        ∃ t, exec (.stubbleOverloadShed i) s = .next t ∧ t.culm.supOver = some s.now ∧ t.culm.supCur = i ∧ t.branches[b].st ≠ .closed) ∧
      (∀ i : Int, 40000 ≤ i ∨ i < 0 → ∃ u : State, exec (.stubbleSupplyTrip i) s = .next (u.occur bCULM 5 0) ∧ u.culm.supOn = false ∧
        ∀ b : Branch, u.branches[b].st = if s.branches[b].st.isOpen = true then s.branches[b].st else .opened) ∧
      (∀ v heldUs : Nat, v < 39500 ∨ 60500 < v → 1000 ≤ heldUs → ∃ t, exec (.stubbleWindowLost v heldUs) s = .next t ∧
        t.culm.supOn = false ∧ ∀ b : Branch, t.branches[b].st = if s.branches[b].st.isOpen = true then s.branches[b].st else .opened))

/-- The energy governor (R125-R134, R143): its limit of every port lies between the floor and saturation of R127, and is the latter where the
stored and terminal energies fit the ceiling; a trip drives the halt line and is CULM source 2; a ceiling is only lowered, to 250 mJ at
least, at the next iteration; a drain that ends, or misses its bound, is repeated once and then bars a restart; the hold of its element.
Choices of the model that stand behind it: assumptions 38 and 52. Completion is concluded for: governorUpdate, governorTrip,
culmPceilWrite, portDischargeEnd, dischargeBoundMissed, dischargeElementHoldEnd. -/
def Obligations.Governor : Prop :=
  (∀ (s : State) (vStage : Vector Nat 7) (vCulm : Nat) (eInd : Vector Nat 9), s.domOn 3 = true →
    ∃ t, exec (.governorUpdate vStage vCulm eInd) s = .next t ∧ ChangesOnly [.gov] s t ∧
      ∀ p : Port, iFloor p ≤ t.gov[p].ilim ∧ t.gov[p].ilim ≤ iSat p ∧
        ∀ h : p.val < 7, (t.gov[p].est = min 65535 (s.stored p vStage[p.val] vCulm eInd[p] / 1000000)) ∧
          (s.stored p vStage[p.val] vCulm eInd[p] + s.terminal p vStage[p.val] vCulm ≤ 1000000 * (s.reg (culmPceilAt p)).bits 13 0 →
            t.gov[p].ilim = iSat p)) ∧
  (∀ (s : State) (p : Port) (i fall : Nat) (outward : Bool) (lt : Nat), p.val < 7 → 100 * s.gov[p].ilim ≤ i ∨ (20 < fall ∧ outward = true) →
    ∃ u : State, exec (.governorTrip p i fall outward lt) s = .next ((u.occur bCULM 2 p.val).letThrough p lt) ∧
      (⟨bCULM, 2, p.val, false⟩ : Driver) ∈ u.halt[p] ∧ u.gov[p].tripAt = some s.now) ∧
  (∀ (s : State) (r : Req) (p : Port) (v : Word), s.Inv → s.serves (culmPceilAt p) →
    let old := (s.reg (culmPceilAt p)).bits 13 0
    s.deferred = [] → (max 250 (v.bits 13 0) ≤ old → ∃ t, exec (.culmPceilWrite r p v) s = .next t ∧ ChangesOnly [.deferred] s t ∧
      t.iterate.reg (culmPceilAt p) = BitVec.ofNat 32 (max 250 (v.bits 13 0)) ∧ t.iterate.culm = s.culm) ∧
    (old < max 250 (v.bits 13 0) → ∃ t, exec (.culmPceilWrite r p v) s = .next t ∧ ChangesOnly [.deferred] s t ∧ t.iterate.rw = s.rw ∧
      t.iterate.culm = { s.culm with ceilrej := min 255 (s.culm.ceilrej + 1) })) ∧
  (∀ (s : State) (p : Port) (x : StageRec) (v t₀ : Nat), s.stage? p = some x → x.drainAt = some t₀ → t₀ + 200000 ≤ s.now →
    ∃ t y, exec (.portDischargeEnd p v) s = .next t ∧ t.stage? p = some y ∧ y.drainAt = none ∧ y.ext = decide (s.drainBound p ≤ v)) ∧
  (∀ (s : State) (p : Port) (x : StageRec) (v t₀ : Nat), s.stage? p = some x → s.drainBound p ≤ v → x.drainAt = some t₀ →
    t₀ + s.drainTime p ≤ s.now → x.stuck = false →
    ∃ (u : State) (y : StageRec), exec (.dischargeBoundMissed p v) s = .next (u.occur bCULM 4 p.val) ∧ u.stage? p = some y ∧
      u.gov[p].vst = v ∧
      (s.willRetry bCULM 4 p.val = true → y.drainAt = some s.now ∧ y.again = true) ∧
      (s.willRetry bCULM 4 p.val = false → y.stuck = true ∧ (s.restartBound p ≤ v → u.stageBars p = true))) ∧
  (∀ (s : State) (p : Port) (x : StageRec), s.stage? p = some x → (∀ e ∈ x.events, e + 60000000 ≤ s.now) →
    ∃ t y, exec (.dischargeElementHoldEnd p) s = .next t ∧ t.stage? p = some y ∧ y.events = [] ∧ y.hold = false)

/-- The load branches (R119-R123, R147): each protection opens the branch, which waits for its retry where one is left and is Locked
otherwise, with its source; a precharge that succeeds closes it; a retry, once the culm is Regulating, and the restore order begin one; an overloaded port sheds its
first branch, and a switch that stays on is LOAD source 6. Choices of the model that stand behind it: assumptions 52 and 89. Completion is
concluded for: branchInstantTrip, branchOverloadTrip, branchBackfeedTrip, branchPrechargeDone, branchPrechargeFailed, branchRetry,
branchRestore, portSumOverload, branchSwitchFailed. -/
def Obligations.Branches : Prop :=
  ∀ (s : State) (b : Branch),
    (∀ i lt : Nat, s.branches[b].tripable s.now = true ∨ s.branches[b].st = .precharge → 100 * s.branchEff b ≤ i →
      ∃ u : State, exec (.branchInstantTrip b i lt) s = .next ((if u.branches[b].st = .tripped ∧ actSev bLOAD 0 (s.sevRaw bLOAD 0) = 2
          then u.occurHard bLOAD 0 b.val false else u.occur bLOAD 0 b.val).letThrough b.side.loadPort lt) ∧
        u.branches[b].st = (if s.retryLeft b 0 = true ∧ s.branches[b].retrying = none then .tripped else .locked) ∧
        u.branches[b].cause = 1 ∧ u.branches[b].cur = 0) ∧
    (s.branches[b].tripable s.now = true → s.overloaded b = true →
      ∃ u : State, exec (.branchOverloadTrip b) s = .next (if u.branches[b].st = .tripped ∧ actSev bLOAD 1 (s.sevRaw bLOAD 1) = 2
          then u.occurHard bLOAD 1 b.val false else u.occur bLOAD 1 b.val) ∧ u.branches[b].cause = 2 ∧
        u.branches[b].st = (if s.retryLeft b 1 = true ∧ s.branches[b].retrying = none then .tripped else .locked)) ∧
    (∀ rev heldUs : Nat, s.branches[b].tripable s.now = true →
      (s.branchRegen b = true ∧ s.branchTrip b < rev ∨ s.branchRegen b = false ∧ 500 < rev ∧ 100 ≤ heldUs) →
      ∃ u : State, exec (.branchBackfeedTrip b rev heldUs) s = .next (if u.branches[b].st = .tripped ∧
          actSev bLOAD 2 (s.sevRaw bLOAD 2) = 2 then u.occurHard bLOAD 2 b.val false else u.occur bLOAD 2 b.val) ∧
        u.branches[b].cause = 3 ∧
        u.branches[b].st = (if s.retryLeft b 2 = true ∧ s.branches[b].retrying = none then .tripped else .locked)) ∧
    (∀ v : Nat, s.branches[b].st = .precharge → v ≤ s.culm.vmeas + 1000 → s.culm.vmeas ≤ v + 1000 →
      ∃ t, exec (.branchPrechargeDone b v) s = .next t ∧ t.branches[b].st = .closed ∧ t.branches[b].s = 0 ∧ t.branches[b].vout = min 65535 v) ∧
    (∀ v us : Nat, s.branches[b].st = .precharge → (1000 ≤ us ∧ 10 * v < s.culm.vmeas ∨
        50000 ≤ us ∧ (s.culm.vmeas + 1000 < v ∨ v + 1000 < s.culm.vmeas)) →
      ∃ u : State, exec (.branchPrechargeFailed b v us) s = .next (if u.branches[b].st = .tripped ∧
          actSev bLOAD 3 (s.sevRaw bLOAD 3) = 2 then u.occurHard bLOAD 3 b.val false else u.occur bLOAD 3 b.val) ∧ u.branches[b].cause = 4 ∧
        u.branches[b].st = (if s.retryLeft b 3 = true ∧ s.branches[b].retrying = none then .tripped else .locked)) ∧
    (∀ t₀ : Nat, s.branches[b].st = .tripped → s.branches[b].retryDue = some t₀ → t₀ + 1000000 ≤ s.now →
      (s.otherLine bLOAD s.branches[b].trip b.val = false → s.branchEn b = true → s.fedFromOutside b = false → s.culm.mode ≠ .regulating →
        exec (.branchRetry b) s = .next s) ∧
      (s.otherLine bLOAD s.branches[b].trip b.val = false → s.branchEn b = true → s.culm.mode = .regulating →
        (s.branches[b].vout ≤ s.culm.vmeas + 1000 → ∃ t, exec (.branchRetry b) s = .next t ∧ t.branches[b].st = .precharge ∧
          t.branches[b].retrying = some s.branches[b].trip ∧ t.branches[b].retryAt = some s.now) ∧
        (s.culm.vmeas + 1000 < s.branches[b].vout → ∃ t, exec (.branchRetry b) s = .next t ∧
          t.branches[b] = { s.branches[b] with cause := 7 })) ∧
      (s.otherLine bLOAD s.branches[b].trip b.val = true ∨ s.branchEn b = false →
        ∃ t, exec (.branchRetry b) s = .next t ∧ t.branches[b].st = .opened ∧ t.retrying bLOAD s.branches[b].trip b.val = false)) ∧
    (∀ t₁ t₂ : Nat, s.waits b = true → s.firstToReturn b = true → s.culm.near = some t₁ → t₁ + 1000000 ≤ s.now →
      s.branches[b].spareSince = some t₂ → t₂ + 1000000 ≤ s.now → (∀ t₃, s.culm.restoredAt = some t₃ → t₃ + 100000 ≤ s.now) →
      s.dom.st ≠ .stubble → s.halt[b.side.loadPort] = [] → s.safeLine = [] → s.branches[b].vout ≤ s.culm.vmeas + 1000 →
      ∃ t, exec (.branchRestore b) s = .next t ∧ t.branches[b].st = .precharge ∧ t.culm.restoredAt = some s.now) ∧
    (∀ (sum us : Nat) (l : List Branch), 24000 < sum → 10000 ≤ us → (∀ t₀, s.loads[b.side].shedAt = some t₀ → t₀ + 10000 ≤ s.now) →
      s.shedOrder (allBranches.filter fun k => k.side == b.side) = b :: l →
      ∃ u : State, exec (.portSumOverload b.side sum us) s = .next (u.occur bLOAD 4 b.side.val) ∧ u.branches[b].st = .shed ∧
        ∀ k, k ≠ b → u.branches[k] = s.branches[k]) ∧
    (∀ v us : Nat, s.branches[b].st.isOpen = true → v ≤ s.culm.vmeas + 1000 → s.culm.vmeas ≤ v + 1000 → 1000 ≤ us →
      exec (.branchSwitchFailed b v us) s = .next (s.occur bLOAD 6 b.val true))

/-- Qualification (R152-R159, R173): the wake level held makes an Absent port Qualifying and its loss Absent again; a failed check holds the
port with its source, an unstable one restarts the timer; every check held for the qualification time makes it Ready; the arc self-test;
the end of the hold time; ten minutes without a loss clear flap. Choices of the model that stand behind it: assumption 37. Completion is
concluded for: srcPresenceMet, srcPresenceLost, srcQualificationFail, srcStabilityRestart, srcQualified, arcSelfTest, srcHoldTimeEnd,
flapClear. -/
def Obligations.SourceQualification : Prop :=
  ∀ (s : State) (p : SPort),
    (∀ mv ms : Nat, s.src[p].st = .absent → wakeLevel s.src[p].role ≤ mv → 100 ≤ ms → s.src[p].judgeAt + 100000 ≤ s.now →
      ∃ t, exec (.srcPresenceMet p mv ms) s = .next t ∧
      t.src[p].st = .qualifying ∧ t.src[p].since = s.now ∧ t.src[p].qv = s.reg (srcQvAt p)) ∧
    (∀ mv ms : Nat, s.src[p].st = .qualifying ∨ s.src[p].st = .ready → mv < loseLevel s.src[p].role → 100 ≤ ms →
      ∃ t, exec (.srcPresenceLost p mv ms) s = .next t ∧ t.src[p].st = .absent ∧ t.src[p].cause = 10) ∧
    (∀ (o : QualObs) (k : Src) (cause : Nat), s.src[p].st = .qualifying → s.src[p].failedCheck o = some (k, cause) →
      ∃ u : State, exec (.srcQualificationFail p o) s =
        .next (((u.occur bSRC k p.val).retryOutcome bSRC 7 p.val false).retryOutcome bCULM 2 p.val false) ∧
        u.src[p].st = .held ∧ u.src[p].cause = cause ∧
        u.src[p].qfails = (if k = 2 then s.src[p].qfails else min 65535 (s.src[p].qfails + 1))) ∧
    (∀ dv df : Nat, s.src[p].st = .qualifying → 500 < dv ∨ (s.src[p].role = .ac ∧ 50 < df) →
      ∃ t, exec (.srcStabilityRestart p dv df) s = .next t ∧ t.src[p] = { s.src[p] with since := s.now, cause := 4 }) ∧
    (∀ o : QualObs, s.src[p].st = .qualifying → s.src[p].failedCheck o = none →
      s.src[p].cls ≠ 0 ∨ s.src[p].arcen = false ∨ s.src[p].role = .ac ∨ s.src[p].arcPassed = true →
      s.src[p].since + s.srcTq p ≤ s.now → s.portFree p.port = true →
      ∃ t, exec (.srcQualified p o) s = .next t ∧ t.src[p].st = .ready ∧ t.src[p].lossV = s.src[p].qv.bits 15 0 ∧
        t.src[p].nomV = if s.src[p].role = .ac then o.vRms else o.vMean.toNat) ∧
    (s.src[p].st = .qualifying → s.src[p].cls = 0 → s.src[p].arcen = true → s.src[p].arcPassed = false →
      (∀ ms, ms ≤ 200 → ∃ t, exec (.arcSelfTest p true ms) s = .next t ∧ t.src[p].arcPassed = true) ∧
      (∀ ms, s.src[p].arcFailed = false → s.willRetry bSRC 4 p.val = true →
        ∃ u : State, exec (.arcSelfTest p false ms) s = .next (u.occur bSRC 4 p.val) ∧ u.src[p].arcFailed = true ∧
          u.src[p].st = .qualifying) ∧
      (∀ ms, s.src[p].arcFailed = true ∨ s.willRetry bSRC 4 p.val = false → ∃ u : State, exec (.arcSelfTest p false ms) s = .next (u.occur bSRC 4 p.val) ∧
        u.src[p].st = .locked ∧ u.src[p].cause = 6)) ∧
    (∀ riso : Nat, s.src[p].st = .held → s.src[p].since + s.srcHold p ≤ s.now →
      (s.src[p].isoFailed = false → s.src[p].isoTry = false ∨ s.src[p].qprot.bits 7 0 ≤ riso →
        (∃ t, exec (.srcHoldTimeEnd p true riso) s = .next t ∧ t.src[p].st = .qualifying) ∧
        (∃ t, exec (.srcHoldTimeEnd p false riso) s = .next t ∧ t.src[p].st = .absent)) ∧
      (s.src[p].isoFailed = true ∨ s.src[p].isoTry = true ∧ riso < s.src[p].qprot.bits 7 0 →
        ∀ present, ∃ t, exec (.srcHoldTimeEnd p present riso) s = .next t ∧ t.src[p].st = .locked ∧ t.src[p].cause = 5)) ∧
    (s.src[p].flap = true → (∀ t₀ ∈ s.src[p].lossAt, t₀ + 600000000 ≤ s.now) →
      ∃ t, exec (.flapClear p) s = .next t ∧ t.src[p].flap = false ∧ t.src[p].st = s.src[p].st)

/-- Supplying (R152, R165, R170): a Ready port whose conditions hold supplies from zero and the Idle members of its group start, but for one that a fence made Idle (R31); an ordered
stop ramps the draw and returns it to Ready; a class 0 port below its idle power stops, and its open-circuit voltage is measured each 60
s; the release of a halt line; rearm and requal, which act at the next iteration. Choices of the model that stand behind it: assumptions
28 and 37. Completion is concluded for: srcStartSupply, srcOrderedStop, srcPvIdle, srcPvVocMeasure, srcHaltReleased, srcRearm, srcRequal.
-/
def Obligations.SourceSupply : Prop :=
  ∀ (s : State) (p : SPort),
    (∀ avail : Nat, s.maySupply p avail = true → s.src[p].idle = false → ∃ t, exec (.srcStartSupply p avail) s = .next t ∧
      t.src[p].st = .supplying ∧ t.src[p].cur = 0 ∧
      ∀ c : Cell, s.cells[c].inMask = some p.group → s.cells[c].st = .idle → s.cells[c].barred = false → s.migrOf c = none →
        t.cells[c].st = .starting) ∧
    (s.src[p].st = .supplying → s.stopDue p = true →
      (s.src[p].cur = 0 → ∃ t, exec (.srcOrderedStop p) s = .next t ∧ t.src[p].st = .ready ∧ t.src[p].lim = 0) ∧
      (s.src[p].cur ≠ 0 → ∃ t, exec (.srcOrderedStop p) s = .next t ∧ t.src[p] = { s.src[p] with stopping := true })) ∧
    (∀ avail sec : Nat, s.src[p].st = .supplying → s.src[p].cls = 0 → s.src[p].role = .dc → avail < s.srcPmin p → 60 ≤ sec →
      ∃ t, exec (.srcPvIdle p avail sec) s = .next t ∧ t.src[p].idle = true ∧
        (s.src[p].cur = 0 → t.src[p].st = .ready) ∧ (s.src[p].cur ≠ 0 → t.src[p].stopping = true)) ∧
    (∀ voc est : Nat, s.src[p].st = .ready → s.src[p].cls = 0 → s.src[p].role = .dc → s.src[p].vocAt + 60000000 ≤ s.now →
      ∃ t, exec (.srcPvVocMeasure p voc est) s = .next t ∧ t.src[p].voc = min 65535 voc ∧ t.src[p].vocAt = s.now ∧
        (s.src[p].idle = true → 2 * s.srcPmin p < est → s.maySupply p est = true → t.src[p].st = .supplying)) ∧
    (s.src[p].st = .halted → s.src[p].hov = none → s.safeLine = [] → (∀ d ∈ s.halt[p.port], s.ownEnded p d = true) →
      ∃ t, exec (.srcHaltReleased p) s = .next t ∧ t.src[p].st = .absent ∧ t.halt[p.port] = []) ∧
    (∀ r : Req, s.serves (srcPctlAt p) → s.portFree p.port = true → s.deferred = [] →
      (s.src[p].st = .locked → s.flt[bSRC].fst.getLsbD s.src[p].lockSrc = false →
        ∃ t, exec (.srcRearm r p) s = .next t ∧ t.iterate.src[p].st = .absent) ∧
      (s.src[p].st = .ready → ∃ t, exec (.srcRequal r p) s = .next t ∧ t.iterate.src[p].st = .qualifying ∧
        t.iterate.src[p].since = s.now))

/-- Loss of a source (R172-R181, R185): a loss criterion makes the port Lost with its hand-over begun and counted; the hand-over's end makes
it what follows, a shortfall being source 6; a detected arc locks it; an overcurrent halts it with its own halt line. Choices of the model
that stand behind it: assumptions 38 and 39. Completion is concluded for: srcLoss, handOverComplete, arcDetected, srcOvercurrent. -/
def Obligations.SourceLoss : Prop :=
  ∀ (s : State) (p : SPort),
    (∀ o : LossObs, s.src[p].st = .supplying → s.src[p].lossMet o = true →
      ∃ u : State, exec (.srcLoss p o) s = .next (u.occur bSRC 5 p.val).settle ∧ u.src[p].st = .lost ∧ u.src[p].cause = 7 ∧
        u.src[p].cur = 0 ∧ u.src[p].hov = some (s.now, .absent) ∧ u.src[p].losses = min 65535 (s.src[p].losses + 1) ∧
        ∀ c : Cell, s.cells[c].grp = some p.group → s.cells[c].st = .active → s.fab.migs = [] → u.cells[c].st = .idle) ∧
    (∀ (durUs droop t₀ : Nat) (after : SrcState), s.src[p].hov = some (t₀, after) →
      ∃ u : State, exec (.handOverComplete p durUs droop) s = .next (if s.covered p then u else u.occur bSRC 6 p.val) ∧
        u.src[p].hov = none ∧ u.src[p].judgeAt = s.now ∧ u.src[p].st = (if s.src[p].st = .lost then after else s.src[p].st)) ∧
    (∀ metric : Nat, (s.src[p].st = .supplying ∨ (s.src[p].st = .lost ∨ s.src[p].st = .halted) ∧ ∃ a, s.src[p].hov = some (s.now, a)) →
      s.src[p].cls = 0 → s.src[p].arcen = true →
      ∃ u : State, exec (.arcDetected p metric) s = .next (u.occur bSRC 3 p.val).settle ∧ u.src[p].st = .locked ∧
        u.src[p].cause = 8 ∧ u.src[p].arcs = min 65535 (s.src[p].arcs + 1) ∧ u.src[p].metric = min 255 metric) ∧
    (∀ i us : Nat, s.src[p].st = .supplying → 11 * s.srcIlim p < 10 * i ∨ 3520 < i → 100 ≤ us →
      ∃ u : State, exec (.srcOvercurrent p i us) s = .next (u.occur bSRC 7 p.val) ∧ u.src[p].st = .halted ∧ u.src[p].cause = 11 ∧
        u.src[p].hov = some (s.now, .halted) ∧ (⟨bSRC, 7, p.val, false⟩ : Driver) ∈ u.halt[p.port])

/-- The tracker (R166-R169): a perturbation moves the reference within its window and reverses where the power fell; a sweep starts when it is
ordered or due and covered, is deferred where it is not covered, and ends, after its 64 points, at the best that the waves recorded.
Choices of the model that stand behind it:
assumption 63. Completion is concluded for: srcSweep, mpptPerturb, mpptSweepStart, mpptSweepDone. -/
def Obligations.Tracker : Prop :=
  ∀ (s : State) (p : SPort),
    (∀ power : Nat, s.tracks p = true → s.src[p].mppt.sweep = none →
      s.src[p].mppt.movedAt + 1000 * (s.reg (srcMpptAt p)).bits 7 0 ≤ s.now →
      ∃ t, exec (.mpptPerturb p power) s = .next t ∧ t.src[p].mppt.lastPower = power ∧ t.src[p].mppt.movedAt = s.now ∧
        t.src[p].mppt.avail = power ∧ 100 * s.src[p].lossV ≤ t.src[p].mppt.vref ∧
        t.src[p].mppt.vref ≤ max (100 * s.src[p].lossV) (100 * (s.reg (srcQvAt p)).bits 31 16) ∧
        (power < s.src[p].mppt.lastPower → t.src[p].mppt.up = (!s.src[p].mppt.up) ∧
          t.src[p].mppt.step = max 10 (s.src[p].mppt.step / 2)) ∧
        (s.src[p].mppt.lastPower ≤ power → t.src[p].mppt.up = s.src[p].mppt.up)) ∧
    (s.src[p].mppt.sweep = none →
      (∀ r : Req, s.serves (srcPctlAt p) → s.deferred = [] → s.sweepCovered p = true → s.src[p].cls = 0 → s.src[p].role = .dc →
        s.src[p].st = .supplying →
        ∃ t, exec (.srcSweep r p) s = .next t ∧ t.iterate.src[p].mppt.sweep.isSome = true) ∧
      (∀ fall : Nat, s.tracks p = true → (s.srcSweep p ≠ 0 ∧ s.src[p].mppt.sweptAt.getD s.src[p].since + s.srcSweep p ≤ s.now ∨
          20 < fall ∧ s.src[p].lim = 9) →
        (s.sweepCovered p = true →
          ∃ t, exec (.mpptSweepStart p fall) s = .next t ∧ t.src[p].mppt.sweep.isSome = true ∧ t.src[p].mppt.deferAt = none) ∧
        (s.sweepCovered p = false → s.src[p].mppt.deferAt = none →
          ∃ t, exec (.mpptSweepStart p fall) s = .next t ∧ t.src[p].mppt.sweep = none ∧ t.src[p].mppt.deferAt = some s.now))) ∧
    (∀ (best : Nat) (w : Sweep), s.src[p].mppt.sweep = some w →
      (w.start + 512000 ≤ s.now → ∃ t, exec (.mpptSweepDone p best) s = .next t ∧
        t.src[p].mppt.sweep = none ∧ t.src[p].mppt.sweptAt = some s.now ∧ t.src[p].mppt.heldRef = t.src[p].mppt.vref ∧
        (w.seen = true → t.src[p].mppt.vref = w.best) ∧
        (w.seen = false → t.src[p].mppt.vref =
          max (if w.half then max (100 * s.src[p].lossV) (8 * w.from_ / 10) else 100 * s.src[p].lossV)
            (min (100 * best) (95 * s.src[p].voc)))) ∧
      (s.now < w.start + 512000 → exec (.mpptSweepDone p best) s = .next s))

/-- Battery connection (R68, R221, R222, R226): an Absent terminal in range qualifies, a reversed one is BAT source 0; at the end of the
qualification time precharge begins, out of range it is Absent with source 1; a stage within 1 V closes the switch and the port is
Present; a failed precharge repeats once, then locks; isolate, connect and rearm act at the next iteration. Choices of the model that
stand behind it: assumption 38. Completion is concluded for: batTerminalInRange, batQualifyTimeEnd, batPrechargeDone, batPrechargeFailed,
batIsolate, batIsolateSwitchOpen, batConnect, batRearm. -/
def Obligations.BatteryConnection : Prop :=
  ∀ (s : State) (p : BPort), s.presenceRuns p = true → s.portFree p.port = true →
    (∀ mv : Int, s.bat[p].st = .absent →
      (20000 ≤ mv → mv ≤ 72000 → ∃ t, exec (.batTerminalInRange p mv) s = .next t ∧ t.bat[p].st = .qualifying ∧ t.bat[p].since = s.now) ∧
      (mv < -5000 → ∃ u : State, exec (.batTerminalInRange p mv) s = .next (u.occur bBAT 0 p.val true) ∧ u.bat[p].reversed = true ∧
        u.bat[p].st = .absent)) ∧
    (∀ (mv : Int) (var : Nat), s.bat[p].st = .qualifying →
      (mv < 20000 ∨ 72000 < mv → ∃ u : State, exec (.batQualifyTimeEnd p mv var) s =
        .next ((((u.occur bBAT 1 p.val).retryOutcome bBAT 7 p.val false).retryOutcome bCHG 6 p.val false).retryOutcome bCULM 2
          p.port.val false) ∧ u.bat[p].st = .absent ∧ u.bat[p].cause = 2 ∧ u.bat[p].qfails = min 65535 (s.bat[p].qfails + 1)) ∧
      (20000 ≤ mv → mv ≤ 72000 → var ≤ 20 → s.bat[p].pre = none → s.bat[p].preRetry = none → s.bat[p].since + s.batTq p ≤ s.now →
        s.stageBars p.port = false →
        ∃ t, exec (.batQualifyTimeEnd p mv var) s = .next t ∧ t.bat[p].pre = some s.now ∧ t.bat[p].st = .qualifying)) ∧
    (∀ a b : Int, s.bat[p].st = .qualifying → s.bat[p].pre.isSome = true → (a - b).natAbs ≤ 1000 →
      ∃ t, exec (.batPrechargeDone p a b) s = .next t ∧ t.bat[p].st = .present ∧ t.bat[p].sw = true) ∧
    (∀ (a b : Int) (t₀ : Nat), s.bat[p].st = .qualifying → s.bat[p].pre = some t₀ → t₀ + 50000 ≤ s.now → 1000 < (a - b).natAbs →
      (s.bat[p].preFailed = false → s.willRetry bBAT 4 p.val = true →
        ∃ u : State, exec (.batPrechargeFailed p a b) s = .next (u.occur bBAT 4 p.val) ∧ u.bat[p].preRetry = some s.now ∧
          u.bat[p].st = .qualifying) ∧
      (s.bat[p].preFailed = true ∨ s.willRetry bBAT 4 p.val = false → ∃ u : State, exec (.batPrechargeFailed p a b) s = .next (u.occur bBAT 4 p.val) ∧
        u.bat[p].st = .locked ∧ u.bat[p].cause = 4)) ∧
    (∀ r : Req, s.serves (batPctlAt p) → s.deferred = [] →
      (s.bat[p].st = .present → ∃ t, exec (.batIsolate r p) s = .next t ∧ t.iterate.bat[p].isolating = true ∧
        ∀ c : Ctx, s.ctx[c].st = .live → s.ctx[c].d.port = some p.port → t.iterate.ctx[c].st = .suspended) ∧
      (s.bat[p].st = .isolated → ∃ t, exec (.batConnect r p) s = .next t ∧ t.iterate.bat[p].st = .qualifying ∧
        t.iterate.bat[p].since = s.now) ∧
      (s.bat[p].st = .locked → s.flt[bBAT].fst.getLsbD 4 = false → ∃ t, exec (.batRearm r p) s = .next t ∧
        t.iterate.bat[p].st = .absent)) ∧
    (∀ (cur : Int) (us : Nat), s.bat[p].st = .present → s.bat[p].isolating = true →
      (cur.natAbs < 50 ∧ 1000 ≤ us ∨ s.bat[p].since + 15000 ≤ s.now) →
      ∃ t, exec (.batIsolateSwitchOpen p cur us) s = .next t ∧ t.bat[p].st = .isolated ∧ t.bat[p].sw = false ∧ t.bat[p].cur = 0)

/-- Battery protection (R48, R223-R225, R227, R257): absence opens the switch, arms the clamp and drives the halt line, for 10 ms; a voltage
out of range is source 1; an overcurrent is source 7 with cause 7; the NTC's reading, while it is measured, is judged against 400 kilohm
and 400 ohm. Choices of the model that stand behind it: assumptions 38 and 62. Completion is concluded for: batAbsenceDetected, batProbe,
batHaltRelease, batOutOfRange, batOvercurrent, ntcFault. -/
def Obligations.BatteryProtection : Prop :=
  ∀ (s : State) (p : BPort),
    (∀ (v cur cmd : Int) (ns e : Nat), s.bat[p].st = .present →
      ((∃ c, s.chgFlow p = some c) ∧ cur < 0 ∧ (s.chg[p].vtgt : Int) + 500 < v ∨
        200 ≤ cmd.natAbs ∧ 2 * cur.natAbs < cmd.natAbs ∧ 1000 ≤ ns) →
      ∃ t, exec (.batAbsenceDetected p v cur cmd ns e) s = .next t ∧ t.bat[p].st ≠ .present ∧ t.bat[p].sw = false ∧
        t.bat[p].clamp = true ∧ t.bat[p].removals = min 65535 (s.bat[p].removals + 1) ∧
        (⟨bBAT, 2, p.val, false⟩ : Driver) ∈ t.halt[p.port]) ∧
    (∀ fall : Nat, s.bat[p].st = .present → s.bat[p].cur.natAbs < 200 → 1000 < fall →
      ∃ t, exec (.batProbe p fall) s = .next t ∧ t.bat[p].st ≠ .present ∧ t.bat[p].sw = false ∧
        (⟨bBAT, 2, p.val, false⟩ : Driver) ∈ t.halt[p.port]) ∧
    (s.bat[p].st = .halted → s.safeLine = [] → (∀ d ∈ s.halt[p.port], s.batOwnEnded p d = true) →
      ∃ t, exec (.batHaltRelease p) s = .next t ∧ t.halt[p.port] = [] ∧ t.bat[p].st = .absent) ∧
    (∀ a : Nat, s.bat[p].absentAt = some a → a + 10000 ≤ s.now →
      ∃ t, exec (.batHaltRelease p) s = .next t ∧ t.bat[p].clamp = false ∧ (⟨bBAT, 2, p.val, false⟩ : Driver) ∉ t.halt[p.port]) ∧
    (∀ (mv : Int) (ms : Nat), s.bat[p].st = .present → mv < 19000 ∨ 73000 < mv → 10 ≤ ms →
      ∃ u : State, exec (.batOutOfRange p mv ms) s = .next (u.occur bBAT 1 p.val).settle ∧ u.bat[p].st = .absent ∧
        u.bat[p].sw = false ∧ u.bat[p].cause = 2) ∧
    (∀ cur us : Nat, s.bat[p].st = .present → 22000 < cur → 1000 ≤ us →
      ∃ t, exec (.batOvercurrent p cur us) s = .next t ∧ t.bat[p].cause = 7 ∧ t.bat[p].ocAt = some s.now ∧
        (s.canOccur bBAT 7 p.val → s.flt[bBAT].frty.getLsbD 7 = true → s.flt[bBAT].retries = [] → s.flt[bBAT].windows = [] →
          t.bat[p].st = .halted ∧ (⟨bBAT, 7, p.val, false⟩ : Driver) ∈ t.halt[p.port])) ∧
    (∀ ohm : Nat, (s.ntcMeasured = false → exec (.ntcFault p ohm) s = .next s) ∧
      (s.ntcMeasured = true → ∃ t, exec (.ntcFault p ohm) s = .next t ∧
      t.bat[p].ntc = if (s.reg (batPcfgAt p)).bit 8 = false then s.bat[p].ntc else if 400000 < ohm then 1 else if ohm < 400 then 2 else 0))

/-- The phase machine (R234-R236, R238, R242, R247, R248), for a Live Charge flow whose profile is valid and unchanged: each event of R235
leads to the phase that the table gives, with its cause, and the faults of plausibility, tmax and the safety timer occur. Choices of the
model that stand behind it: assumption 49. Completion is concluded for: chgQualifyCheck, chgPhaseTransition, phaseTmax, safetyTimerExpiry,
preconditionCeilingHeld, absorbExit, finishExit, floatRebulk, restRestartVoltage. -/
def Obligations.ChargePhases : Prop :=
  ∀ (s : State) (p : BPort) (c : Ctx) (w : Profile), s.chgFlow p = some c → s.ctx[c].st = .live → s.profile? s.ctx[c].d.prof = some w →
    s.chg[p].wc = some w →
    let x := s.chg[p]
    (∀ ocv : Int, x.phase = 0 → x.since + 2000000 ≤ s.now →
      (s.plausible w ocv = false → ∃ u : State, exec (.chgQualifyCheck p ocv) s = .next (u.occur bCHG 1 p.val) ∧
        u.chg[p].phase = 8 ∧ u.chg[p].frest = true ∧ u.chg[p].cause = 12) ∧
      (s.plausible w ocv = true → s.qualifyWait p w ≠ 0 → ∃ t, exec (.chgQualifyCheck p ocv) s = .next t ∧
        t.chg[p] = { x with wait := s.qualifyWait p w }) ∧
      (s.plausible w ocv = true → s.qualifyWait p w = 0 → ∃ t, exec (.chgQualifyCheck p ocv) s = .next t ∧
        t.chg[p].phase = (if (w.phase? 1).any (fun e => decide (10 * ocv < (w.ncell * e.vcell : Int))) then 1 else x.left.getD 2))) ∧
    (s.leavesForSafe p = false → s.chgHeld p = false →
      (x.phase = 2 → isNickel w.chem = false → 0 < x.vtgt → (x.vtgt : Int) ≤ s.bat[p].vterm →
        ∃ t, exec (.chgPhaseTransition p) s = .next t ∧ t.chg[p].phase = w.next 2 ∧ t.chg[p].cause = 1) ∧
      (∀ l, x.phase = 3 → w.lith = some l → s.bmsLive l = true → s.bms[l.bms].act.full = true →
        ∃ t, exec (.chgPhaseTransition p) s = .next t ∧ t.chg[p].phase = 8 ∧ t.chg[p].cause = 8)) ∧
    (s.leavesForSafe p = true → ∃ t, exec (.chgPhaseTransition p) s = .next t ∧ t.chg[p].phase = s.safeFloat p ∧ t.chg[p].cause = 13) ∧
    (∀ e, w.phase? x.phase = some e → s.phaseMax p ≠ 0 → x.phase ≠ 6 → s.chgHeld p = false →
      60000000 * s.phaseMax p ≤ (x.acct s.now).tphase →
      (x.phase = 7 → ∃ t, exec (.phaseTmax p) s = .next t ∧ t.chg[p].phase = 6 ∧ t.chg[p].cause = 2 ∧ t.chg[p].eqdue = false ∧
        t.chg[p].eqAt = s.now) ∧
      (x.phase ≠ 7 → e.ontmax = 0 → ∃ t, exec (.phaseTmax p) s = .next t ∧ t.chg[p].phase = w.next x.phase ∧ t.chg[p].cause = 2) ∧
      (x.phase ≠ 7 → e.ontmax ≠ 0 → ∃ u : State, exec (.phaseTmax p) s = .next (u.occur bCHG 1 p.val) ∧ u.chg[p].phase = 8 ∧
        u.chg[p].frest = true ∧ u.chg[p].cause = 12)) ∧
    (w.timer ≠ 0 → timed x.phase = true → 7200000000 * w.timer ≤ (x.acct s.now).tsafe →
      ∃ u : State, exec (.safetyTimerExpiry p) s = .next (u.occur bCHG 0 p.val) ∧ u.chg[p].phase = w.floatOrRest ∧ u.chg[p].cause = 6) ∧
    (∀ (mv : Int) (sec : Nat), s.chgHeld p = false → x.phase = 1 → 0 < x.vtgt → (x.vtgt : Int) ≤ mv → 10 ≤ sec →
      ∃ t, exec (.preconditionCeilingHeld p mv sec) s = .next t ∧ t.chg[p].phase = w.next 1 ∧ t.chg[p].cause = 1) ∧
    (∀ (e : PhaseEntry) (cur sec : Nat), x.phase = 3 → w.phase? 3 = some e → e.iexit ≠ 0 → cur ≤ 25 * e.iexit → 60 ≤ sec →
      s.inReg p = true → s.chgHeld p = false → ∃ t, exec (.absorbExit p cur sec) s = .next t ∧ t.chg[p].phase = w.next 3 ∧ t.chg[p].cause = 1) ∧
    (∀ rise min : Nat, s.chgHeld p = false → x.phase = 4 → rise < 10 → 30 ≤ min → ∃ t, exec (.finishExit p rise min) s = .next t ∧
      t.chg[p].phase = w.next 4 ∧ t.chg[p].cause = 1) ∧
    (∀ (mv : Int) (cur sec : Nat), s.chgHeld p = false → x.phase = 6 → 100 * mv < (99 * x.vtgt : Int) → 0 < x.itgt → x.itgt ≤ cur → 60 ≤ sec →
      ∃ t, exec (.floatRebulk p mv cur sec) s = .next t ∧ t.chg[p].phase = 2 ∧ t.chg[p].cause = 9 ∧ t.chg[p].tsafe = 0) ∧
    (∀ (mv : Int) (sec : Nat), x.phase = 8 → x.frest = false → mv < (w.ncell * w.vrest : Int) → 60 ≤ sec →
      ∃ t, exec (.restRestartVoltage p mv sec) s = .next t ∧ t.chg[p].phase = 0 ∧ t.chg[p].cause = 15 ∧ t.chg[p].ah = 0)

/-- Orders, temperature, over-voltage and the BMS (R235, R237, R238, R241-R244): CHG_PCTL, at the next iteration, makes an Equalize due,
cancels it and restarts from a fault rest, but not from a normal Rest; the interval makes one due; the temperature window holds and releases the phase; an over-voltage is
source 6, a BMS that is silent or whose limit is exceeded source 7; and its discharge limit lapses 60 s later. Choices of the model that
stand behind it: assumptions 44 and 49. Completion is concluded for: equalizeDue, chgEq, chgEqcancel, chgRestart, thermalHold,
chgOverVoltage, bmsLivenessTimeout, bmsVoltageExceeded, bmsDischargeLimitExpiry. -/
def Obligations.ChargeHolds : Prop :=
  ∀ (s : State) (p : BPort),
    (∀ r : Req, s.serves (chgPctlAt p) → s.portFree p.port = true → s.deferred = [] →
      (∃ t, exec (.chgEq r p) s = .next t ∧ t.iterate.chg[p].eqdue = true) ∧
      (∃ t, exec (.chgEqcancel r p) s = .next t ∧ t.iterate.chg[p].eqdue = false ∧ t.iterate.chg[p].eqOk = false) ∧
      (∀ c w, s.chg[p].phase = 7 → s.chg[p].portLeft = false → s.chgFlow p = some c → s.ctx[c].st = .live →
        s.profile? s.ctx[c].d.prof = some w → s.chg[p].wc = some w →
        ∃ t, exec (.chgEqcancel r p) s = .next t ∧ t.iterate.chg[p].phase = 6) ∧
      (∀ c, s.chg[p].phase = 8 → s.chg[p].frest = false → s.chg[p].portLeft = false → s.chgFlow p = some c → s.ctx[c].st = .live →
        ∃ t, exec (.chgRestart r p) s = .next t ∧ t.iterate.chg[p].phase = 8) ∧
      (∀ c w, s.chg[p].phase = 8 → s.chg[p].frest = true → s.chgFlow p = some c → s.ctx[c].st = .live → s.profile? s.ctx[c].d.prof = some w →
        ∃ t, exec (.chgRestart r p) s = .next t ∧ t.iterate.chg[p].phase = 0 ∧ t.iterate.chg[p].cause = 14 ∧
          t.iterate.chg[p].wc = some w)) ∧
    (∀ w, s.chg[p].wc = some w → (s.reg (chgPcfgAt p)).bit 1 = true → w.eqdays ≠ 0 →
      s.chg[p].eqAt + 86400000000 * w.eqdays ≤ s.now → ∃ t, exec (.equalizeDue p) s = .next t ∧ t.chg[p].eqdue = true) ∧
    (∀ (w : Profile) (lo hi : Int), s.chg[p].wc = some w → 1 ≤ s.chg[p].phase → s.chg[p].phase ≤ 7 →
      (s.chg[p].hold = false → lo < 16 * w.temp.tcmin ∨ 16 * w.temp.tcmax < hi →
        ∃ u : State, exec (.thermalHold p lo hi) s = .next (u.occur bCHG 2 p.val true) ∧ u.chg[p].hold = true ∧ u.chg[p].itgt = 0 ∧
          u.chg[p].counts = false) ∧
      (s.chg[p].hold = true → 16 * (w.temp.tcmin + 3) ≤ lo → hi ≤ 16 * (w.temp.tcmax - 3) →
        ∃ t, exec (.thermalHold p lo hi) s = .next t ∧ t.chg[p].hold = false ∧ (⟨2, p.val⟩ : Cause) ∉ t.flt[bCHG].live)) ∧
    (∀ (mv : Int) (ms : Nat), s.chgLive p = true → 0 < s.chg[p].vtgt → (102 * s.chg[p].vtgt : Int) < 100 * mv → 10 ≤ ms →
      s.bat[p].st = .present → s.canOccur bCHG 6 p.val →
      ∃ t, exec (.chgOverVoltage p mv ms) s = .next t ∧ t.raised bCHG 6 = true) ∧
    (∀ c, s.chgFlow p = some c → s.bmsMissing p = true →
      ∃ u : State, exec (.bmsLivenessTimeout p) s = .next (u.occur bCHG 7 p.val true) ∧
        (s.ctx[c].st = .live → u.ctx[c].st = .suspended ∧ u.ctx[c].scause.getLsbD 3 = true)) ∧
    (∀ (l : LithEntry) (mv : Int) (ms : Nat), s.lithium p = some l → s.bmsLive l = true → (10 * s.bms[l.bms].act.cvl : Int) < mv → 100 ≤ ms →
      ∃ u : State, exec (.bmsVoltageExceeded p mv ms) s = .next (u.occur bCHG 7 p.val) ∧ u.chg[p].bmsOver = true ∧ u.chg[p].itgt = 0) ∧
    (∀ l : LithEntry, s.lithium p = some l → s.disLapsed l = true → ∃ t, exec (.bmsDischargeLimitExpiry p) s = .next t ∧
      t.chg[p].disHold = true ∧ t.disLimit p = some 0 ∧ ∀ c, s.disFlow p = some c → t.ctx[c].cur = 0)

/-- The nickel terminations (R243-R246) in Bulk, under a profile without a knee check: armed by the end of its hold-off, the third window in a
row at dv below the peak ends Bulk with cause 3, a slope at dtdt for 60 s with cause 4, and tabs in Rest with cause 5; with a knee check
the candidate waits for the estimator's answer, which confirms it, or rejects it up to three times. Choices of the model that stand behind
it: assumptions 49 and 50. Completion is concluded for: dvSample, dtdtSample, nickelHoldoffEnd, kneeAnswer. -/
def Obligations.NickelEnd : Prop :=
  ∀ (s : State) (p : BPort) (c : Ctx) (w : Profile) (k : NickelEntry), s.chgFlow p = some c → s.ctx[c].st = .live →
    s.profile? s.ctx[c].d.prof = some w → s.chg[p].wc = some w → w.nickel = some k → isNickel w.chem = true → s.chg[p].phase = 2 →
    let x := s.chg[p]
    (∃ t, exec (.nickelHoldoffEnd p) s = .next t ∧ (t.chg[p].dvArmed = true ↔ x.dvArmed = true ∨ x.dvFrom ≤ s.now) ∧
      (t.chg[p].dtArmed = true ↔ x.dtArmed = true ∨ x.dtFrom ≤ s.now)) ∧
    (∀ v : Int, k.knee = false → v ≤ x.vpk → (k.dv : Int) ≤ x.vpk - v → x.block = 0 → x.n = 2 → x.dvArmed = true →
      s.chgHeld p = false →
      ∃ t, exec (.dvSample p v x.ipk) s = .next t ∧ t.chg[p].phase = w.next 2 ∧ t.chg[p].cause = 3) ∧
    (∀ v : Int, x.vpk < v → ∃ t, exec (.dvSample p v x.ipk) s = .next t ∧ t.chg[p].vpk = v ∧ t.chg[p].n = (if x.block = 0 ∧ k.dv = 0 then 1 else 0)) ∧
    (∀ (temp slope : Int) (sec : Nat), (s.setChg p { x with tbat := satInt 16 temp, dtdt := satInt 16 slope }).batTemp p ≠ none →
      ((16 * k.tabs : Int) ≤ temp → ∃ t, exec (.dtdtSample p temp slope sec) s = .next t ∧ t.chg[p].phase = 8 ∧ t.chg[p].cause = 5) ∧
      (temp < (16 * k.tabs : Int) → (k.dtdt : Int) ≤ slope → 60 ≤ sec → x.dtArmed = true → s.chgHeld p = false → k.knee = false →
        ∃ t, exec (.dtdtSample p temp slope sec) s = .next t ∧ t.chg[p].phase = w.next 2 ∧ t.chg[p].cause = 4) ∧
      (temp < (16 * k.tabs : Int) → (k.dtdt : Int) ≤ slope → 60 ≤ sec → x.dtArmed = true → s.chgHeld p = false → k.knee = true →
        x.cand = none →
        (s.kneeReady p = true → ∃ t, exec (.dtdtSample p temp slope sec) s = .next t ∧ t.chg[p].phase = 2 ∧
          t.chg[p].cand = some (4, s.now) ∧ t.est[p].st = .knee) ∧
        (s.kneeReady p = false → s.bat[p].st = .present → ∃ u : State, exec (.dtdtSample p temp slope sec) s =
          .next ((u.occur bCHG 5 p.val).occur bEST 3 p.val) ∧ u.chg[p].phase = w.next 2 ∧ u.chg[p].cause = 7))) ∧
    (∀ cause at_ : Nat, x.cand = some (cause, at_) → s.now ≤ at_ + 30000000 → s.bat[p].st = .present → s.chgHeld p = false →
      (∃ t, exec (.kneeAnswer p .confirmed) s = .next t ∧ t.chg[p].phase = w.next 2 ∧ t.chg[p].cause = cause) ∧
      (x.nrej < 3 → ∃ t, exec (.kneeAnswer p .notConfirmed) s = .next t ∧ t.chg[p].phase = 2 ∧ t.chg[p].cand = none ∧
        t.chg[p].nrej = x.nrej + 1 ∧ t.chg[p].vpk = x.smp.1 ∧ t.chg[p].ipk = x.smp.2) ∧
      (∃ u : State, exec (.kneeAnswer p .unavailable) s = .next ((u.occur bCHG 5 p.val).occur bEST 3 p.val) ∧ u.chg[p].phase = w.next 2 ∧ u.chg[p].cause = 7))

/-- Sweeps (R261, R265-R267, R270, R271): a due sweep starts on the allowed points; a point is judged by its culm ripple, its current and its
response, repeated once, invalid when the repeat fails too, and written when valid; the end publishes rhf and sets rconv on two consistent sweeps; a jump is source 2; no
valid point is source 1; a pause of 10 min restarts. Choices of the model that stand behind it: assumptions 4, 51, 108 and
109. Completion is concluded for: estPointDone, estSweepStart, estSweepDone, estSweepPauseExpiry. -/
def Obligations.Sweeps : Prop :=
  ∀ (s : State) (p : BPort),
    (∃ t, exec (.estSweepStart p) s = .next t ∧
      ((s.est[p].st = .waiting ∧ s.mayPerturb p = true ∧ s.sweepDue p = true →
        t.est[p].st = .sweeping ∧ t.est[p].todo = s.pointsNow p (s.sweepPoints p) ∧ t.est[p].fresh = 0) ∧
       (s.est[p].st = .paused ∧ s.mayPerturb p = true →
        t.est[p].st = .sweeping ∧ t.est[p].todo = s.pointsNow p s.est[p].todo ∧ t.est[p].fresh = s.est[p].fresh) ∧
       (s.mayPerturb p = false → t = s))) ∧
    (∀ (re im : Int) (pert peak culm : Nat) (k : Fin 15) (l : List (Fin 15)), s.est[p].st = .sweeping → s.est[p].todo = k :: l →
      s.pointOver p k = true → let cmd := s.estAmp p
      (50 < culm →
        (s.est[p].half = false → s.willRetry bEST 5 p.val = true →
          ∃ u : State, exec (.estPointDone p k re im pert peak culm) s = .next (u.occur bEST 5 p.val) ∧ u.est[p].half = true ∧
            u.est[p].todo = k :: l) ∧
        (s.est[p].half = true ∨ s.willRetry bEST 5 p.val = false →
          ∃ u : State, exec (.estPointDone p k re im pert peak culm) s = .next (u.occur bEST 5 p.val) ∧
            u.est[p].todo = s.pointsNow p l ∧ u.est[p].valid.getLsbD k.val = false)) ∧
      (culm ≤ 50 → (2 * pert < cmd ∨ 3 * cmd < 2 * pert) →
        (s.est[p].again = false → s.willRetry bEST 0 p.val = true →
          ∃ u : State, exec (.estPointDone p k re im pert peak culm) s = .next (u.occur bEST 0 p.val) ∧ u.est[p].again = true ∧
            u.est[p].todo = k :: l) ∧
        (s.est[p].again = true ∨ s.willRetry bEST 0 p.val = false →
          ∃ u : State, exec (.estPointDone p k re im pert peak culm) s = .next (u.occur bEST 0 p.val) ∧
            u.est[p].todo = s.pointsNow p l ∧ u.est[p].valid.getLsbD k.val = false)) ∧
      (culm ≤ 50 → cmd ≤ 2 * pert → 2 * pert ≤ 3 * cmd →
        ∃ t, exec (.estPointDone p k re im pert peak culm) s = .next t ∧ t.est[p].todo = s.pointsNow p l ∧
          (peak < 5 → t.est[p].valid.getLsbD k.val = false ∧ t.est[p].pz = s.est[p].pz) ∧
          (5 ≤ peak → t.est[p].valid.getLsbD k.val = true ∧ t.est[p].pz[k] = (satInt 16 re, satInt 16 im)))) ∧
    (s.est[p].st = .sweeping → s.est[p].todo = [] →
      (s.est[p].best = none → ∃ u : State, exec (.estSweepDone p) s = .next (u.occur bEST 1 p.val) ∧ u.est[p].st = .waiting ∧
        u.est[p].rhf = s.est[p].rhf ∧ u.est[p].rpol = s.est[p].polar s.est[p].rhf) ∧
      (∀ k, s.est[p].best = some k → s.est[p].rconv = false →
        ∃ t, exec (.estSweepDone p) s = .next t ∧ t.est[p].st = .waiting ∧ t.est[p].sweptAt = some s.now ∧
          t.est[p].rhf = sat 65535 s.est[p].pz[k].1.toNat ∧
          (t.est[p].rconv = true ↔ s.est[p].last = true ∧ sameTemp (s.batT p) s.est[p].lastT = true ∧
            100 * (max t.est[p].rhf s.est[p].rhf - min t.est[p].rhf s.est[p].rhf) ≤ 3 * t.est[p].rhf)) ∧
      (∀ k, s.est[p].best = some k → s.est[p].rconv = true → sameTemp (s.batT p) s.est[p].lastT = true →
        let r := sat 65535 s.est[p].pz[k].1.toNat
        30 * s.est[p].rhf < 100 * (max r s.est[p].rhf - min r s.est[p].rhf) →
        ∃ u : State, exec (.estSweepDone p) s = .next (u.occur bEST 2 p.val) ∧ u.est[p].rconv = false ∧ u.est[p].rhf = r)) ∧
    (s.est[p].st = .paused → s.est[p].pausedAt + 600000000 ≤ s.now →
      ∃ t, exec (.estSweepPauseExpiry p) s = .next t ∧ t.est[p].todo = s.sweepPoints p ∧ t.est[p].fresh = 0 ∧
        t.est[p].valid = 0)

/-- The knee, the orders and the history (R265, R268, R269, R274-R277): the lowest measurement of a Bulk is the baseline; a request is
answered at the end of its measurement; abort and newbat; the corrections set the state of charge; the history is saved over x3 every 60
s. Choices of the model that stand behind it: assumptions 12, 50, 51 and 93. Completion is concluded for: kneeBaseline, kneeCheck, estSweep, estAbort, estNewbat, socCorrection,
estSave. -/
def Obligations.KneeAndHistory : Prop :=
  ∀ (s : State) (p : BPort),
    (∀ z₁ z₂ : Int, s.nickelBulk p = true → s.mayPerturb p = true → s.kneeOver p = true → s.chg[p].cand = none →
      ∃ t, exec (.kneeBaseline p z₁ z₂) s = .next t ∧ t.est[p].dr = z₁ - z₂ ∧
        t.est[p].base = (match s.est[p].base with
          | some (b, z) => if z₁ - z₂ < b then some (z₁ - z₂, z₂) else some (b, z)
          | none => some (z₁ - z₂, z₂))) ∧
    (∀ z₁ z₂ : Int, s.chg[p].cand.isSome = true →
      (s.est[p].base = none ∨ s.mayPerturb p = false →
        exec (.kneeCheck p z₁ z₂) s = .next ((s.kneeAnswer p .unavailable).occur bEST 3 p.val)) ∧
      (∀ b z, s.est[p].base = some (b, z) → s.mayPerturb p = true → s.kneeOver p = false → exec (.kneeCheck p z₁ z₂) s = .next s) ∧
      (∀ b z, s.est[p].base = some (b, z) → s.mayPerturb p = true → s.kneeOver p = true →
        let w := s.reg (estPkcfAt p)
        let u := s.setEst p { s.est[p] with dr := z₁ - z₂ }
        (100 * (z₁ - z₂) < b * (100 + w.bits 7 0 : Nat) → exec (.kneeCheck p z₁ z₂) s = .next (u.kneeAnswer p .notConfirmed)) ∧
        (b * (100 + w.bits 7 0 : Nat) ≤ 100 * (z₁ - z₂) →
          ((100 * (z₂ - z).natAbs : Nat) ≤ w.bits 15 8 * z.natAbs →
            exec (.kneeCheck p z₁ z₂) s = .next (u.kneeAnswer p .confirmed)) ∧
          ((w.bits 15 8 * z.natAbs < (100 * (z₂ - z).natAbs : Nat)) →
            exec (.kneeCheck p z₁ z₂) s =
              .next (((u.setEst p { u.est[p] with rconv := false }).occur bEST 2 p.val).kneeAnswer p .notConfirmed))))) ∧
    (∀ r : Req, s.serves (estPctlAt p) → s.deferred = [] →
      (s.est[p].st = .waiting → s.mayPerturb p = false →
        ∃ t, exec (.estSweep r p) s = .next t ∧ t.iterate.est[p].ordered = true ∧ t.iterate.est[p].st = .waiting) ∧
      (s.est[p].st = .waiting → s.mayPerturb p = true →
        ∃ t, exec (.estSweep r p) s = .next t ∧ t.iterate.est[p].st = .sweeping ∧
          t.iterate.est[p].todo = s.pointsNow p (s.sweepPoints p)) ∧
      (s.est[p].st = .sweeping ∨ s.est[p].st = .paused →
        (∃ t, exec (.estSweep r p) s = .next t ∧ t.iterate.est = s.est) ∧
        ∃ t, exec (.estAbort r p) s = .next t ∧ t.iterate.est[p].st = .waiting ∧ t.iterate.est[p].todo = []) ∧
      ∃ t, exec (.estNewbat r p) s = .next t ∧ t.iterate.est[p].rconv = false ∧ t.iterate.est[p].qest = 0 ∧
        t.iterate.est[p].formed = false ∧ t.iterate.est[p].newbat = true) ∧
    (∀ (ev : Fin 5) (v : Int) (w : Profile), s.chg[p].wc = some w → s.estCap p ≠ 0 →
      (ev = 0 → s.chgLive p = true → s.chg[p].phase = 0 → s.est[p].formed = false → ∃ t, exec (.socCorrection p ev v) s = .next t ∧ t.est[p].formed = true ∧ t.est[p].src = 1 ∧
        t.est[p].q = (if isLead w.chem then leadSoc w.chem v else 500) * s.estFull p ∧
        t.est[p].unc = if isLead w.chem then 150 else 255) ∧
      (ev = 1 → s.rested p w.chem = true → ∃ t, exec (.socCorrection p ev v) s = .next t ∧ t.est[p].q = leadSoc w.chem v * s.estFull p ∧
        t.est[p].unc = 50 ∧ t.est[p].src = 2) ∧
      (ev = 2 → s.est[p].due = some 2 → ∃ u : State, exec (.socCorrection p ev v) s =
          .next (if s.soc p ≠ 0xFFFF ∧ s.soc p + 1500 < 10000 then u.occur bEST 4 p.val else u) ∧
        u.est[p].q = 1000 * s.estFull p ∧ u.est[p].unc = if isNickel w.chem then 30 else 20) ∧
      (ev = 3 → s.est[p].due = some 3 → ∃ t, exec (.socCorrection p ev v) s = .next t ∧ t.est[p].q = 0 ∧ t.est[p].unc = 50 ∧
        t.est[p].src = 4) ∧
      (ev = 4 → s.bat[p].st = .present → s.est[p].first = true → s.ret.est[p].valid = true → s.ret.est[p].soc ≠ 0xFFFF →
        50 * (max s.bat[p].vterm.toNat s.ret.est[p].v - min s.bat[p].vterm.toNat s.ret.est[p].v) ≤ s.ret.est[p].v →
        ∃ t, exec (.socCorrection p ev v) s = .next t ∧ t.est[p].q = s.ret.est[p].soc * s.estFull p / 10 ∧
          t.est[p].unc = sat 255 (s.ret.est[p].unc + 50) ∧ t.est[p].qest = s.ret.est[p].qest ∧ t.est[p].src = 5)) ∧
    (s.domOn 3 = true →
      (s.est[(0 : BPort)].savedAt + 60000000 ≤ s.now → ∃ t, exec .estSave s = .next t ∧
        (∃ q ∈ t.xslots, q.x = 3 ∧ q.item = .saveEst ∧ q.data = .est s.estSaves) ∧ ∀ k : BPort, t.est[k].savedAt = s.now) ∧
      (s.now < s.est[(0 : BPort)].savedAt + 60000000 → exec .estSave s = .next s))

/-- Sensors, model and fans (R286, R291, R292, R300-R302, R304-R306): a sample reports each Valid sensor's passing reading; a retry, or a
self-test repeated, passes or fails; a sensor returns, but not one that failed its self-test; the hold ends; a hot die is source 7; a slow
fan is source 4; nodes saved; the model converges or is invalid. Choices of the model that stand behind it: assumptions 20, 21 and 94. Completion is concluded for: thmSample,
sensorRetry, sensorReturn, throttleHoldEnd, dieOverTemperature, fanFailed, fanRetry, thmHistorySave, modelConverged, modelInvalid. -/
def Obligations.Sensors : Prop :=
  ∀ s : State, s.domOn 10 = true →
    (∀ raw : Vector Int 48, ∃ t, exec (.thmSample raw) s = .next t ∧
      (∀ k : Sensor, (s.thm.sensors[k].st = .off ∧ s.thm.sensors[k].testAt = none ∧ -880 ≤ raw[k] ∧ raw[k] ≤ 3200 ∨
          s.thm.sensors[k].st = .valid ∧ s.criterion k raw[k] = none) →
        t.thm.sensors[k].st = .valid ∧ t.thm.sensors[k].t = raw[k] ∧ t.thm.sensors[k].raw = raw[k]) ∧
      (∀ k : Sensor, t.thm.sensors[k].st = .valid → t.thm.sensors[k].t ≤ t.thm.tmax) ∧
      (t.safeLine = [] → ∀ k : Sensor, t.countsMax k = true → t.thm.sensors[k].t ≤ t.thm.tmax)) ∧
    (∀ (k : Sensor) (raw : Int), s.thm.sensors[k].st = .retry →
      (-880 ≤ raw → raw ≤ 3200 → s.thm.sensors[k].seen = false ∨ (raw - s.thm.sensors[k].t).natAbs ≤ 160 →
        ∃ t, exec (.sensorRetry k (some raw)) s = .next t ∧ t.thm.sensors[k].st = .valid ∧ t.thm.sensors[k].t = raw) ∧
      (raw < -880 ∨ 3200 < raw → ∃ t, exec (.sensorRetry k (some raw)) s = .next t ∧ t.thm.sensors[k].bad = true ∧
        t.thm.sensors[k].nfail = min 3 (s.thm.sensors[k].nfail + 1))) ∧
    (∀ (k : Sensor) (raw : Int) (t₀ : Nat), s.thm.sensors[k].st = .off → s.thm.sensors[k].testAt = some t₀ → t₀ + 10000 ≤ s.now →
      (-880 ≤ raw → raw ≤ 3200 → ∃ t, exec (.sensorRetry k (some raw)) s = .next t ∧ t.thm.sensors[k].st = .valid ∧
        t.thm.sensors[k].t = raw) ∧
      (raw < -880 ∨ 3200 < raw → ∃ u : State, exec (.sensorRetry k (some raw)) s = .next (u.occur bTHM 0 k.val) ∧
        u.thm.sensors[k].st = .retry) ∧
      (∃ t, exec (.sensorRetry k none) s = .next t ∧ t.thm.sensors[k].bad = true ∧ t.thm.sensors[k].cause = 5 ∧
        t.thm.sensors[k].nfail = s.thm.sensors[k].nfail)) ∧
    (∀ (k : Sensor) (raw : Int) (t₀ : Nat), s.thm.sensors[k].bad = true → s.thm.sensors[k].nfail < 3 →
      s.thm.sensors[k].passSince = some t₀ → t₀ + 60000000 ≤ s.now → -880 ≤ raw → raw ≤ 3200 →
      (raw - s.thm.sensors[k].node).natAbs ≤ 80 →
      (s.thm.sensors[k].selfBad = false → ∃ t, exec (.sensorReturn k raw) s = .next t ∧ t.thm.sensors[k].st = .valid ∧
        t.thm.sensors[k].t = raw ∧ ((⟨0, k.val⟩ : Cause) ∉ t.flt[bTHM].live)) ∧
      (s.thm.sensors[k].selfBad = true → exec (.sensorReturn k raw) s = .next s)) ∧
    (∀ t₀ : Nat, s.thm.hold = some t₀ → t₀ ≤ s.now → ∃ t, exec .throttleHoldEnd s = .next t ∧ t.thm.hold = none ∧
      t.thm.step = s.thm.step) ∧
    (∀ (c : Cell) (ms : Nat), 2400 < s.thm.die[c].1 → 100 ≤ ms → exec (.dieOverTemperature c ms) s = .next (s.occur bTHM 7 c.val)) ∧
    (∀ (f : Fan) (pct ms : Nat), s.thm.fans[f].st = 1 → pct < 50 → 5000 ≤ ms →
      ∃ t, exec (.fanFailed f pct ms) s = .next t ∧ t.thm.fans[f].cmd = 0 ∧
        t.thm.fans[f].st = if s.flt[bTHM].frty.getLsbD 4 = true ∧ s.masked bTHM 4 = false then 2 else 3) ∧
    (∀ (f : Fan) (ok : Bool) (rpm : Nat), s.thm.fans[f].st = 2 → s.thm.fans[f].since + 1000000 ≤ s.now →
      ∃ t, exec (.fanRetry f ok rpm) s = .next t ∧ t.thm.fans[f].st = (if ok then 1 else 3) ∧
        (ok = false → s.fuse.variantL = false → ∀ j : Fan, t.thm.fans[j].st = 1 → t.thm.fans[j].cmd = 100)) ∧
    (∃ t, exec .thmHistorySave s = .next t ∧ (∃ q ∈ t.xslots, q.x = 3 ∧ q.item = .saveThm ∧ q.data = .thm s.thmSaveOf) ∧
      t.thm = s.thm) ∧
    (∀ t₀ : Nat, (s.thm.okAt = some t₀ ∧ t₀ + 60000000 ≤ s.now ∨ s.thm.runAt = some t₀ ∧ t₀ + 600000000 ≤ s.now) →
      ∃ t, exec .modelConverged s = .next t ∧ t.thm.mconv = true) ∧
    (∀ (l : List Sensor) (sec : Nat), l.Nodup → (∀ k ∈ l, s.thm.sensors[k].st = .valid) → 4 ≤ l.length → 60 ≤ sec →
      ∃ u : State, exec (.modelInvalid l sec) s = .next (u.occur bTHM 5 0 true) ∧ u.thm.invalid = true ∧
        ∀ k : Sensor, u.thm.sensors[k].pred = s.thm.sensors[k].t)

/-- The throttle step (R294, R295, R297): it rises one step each 250 ms while the control temperature neither falls by 0.25 degC nor stands
below thr; it falls one step for each 2 s below thr less 5 degC; it leaves Shutdown at step 12, once nothing but the manager's own hold
is on the Safe line, which is then released. Choices of the model that stand behind it: assumptions 22 and 23. Completion is concluded for: throttleTick,
throttleRecovery, thermalShutdownReturn. -/
def Obligations.Throttle : Prop :=
  ∀ s : State, s.domOn 10 = true →
    (s.thm.cond = .descending ∨ s.thm.cond = .holding → s.thm.tickAt + 250000 ≤ s.now →
      (s.thm.tickT - s.thm.tctl < 4 → 16 * (s.thmThr : Int) ≤ s.thm.tctl →
        ∃ t, exec .throttleTick s = .next t ∧ t.thm.cond = .descending ∧
          t.thm.tickAt = s.thm.tickAt + (s.now - s.thm.tickAt) / 250000 * 250000 ∧ t.thm.tickT = s.thm.tctl ∧
          t.thm.step = if s.thm.hold.isSome then s.thm.step else min 16 (max s.thm.floor (s.thm.step + 1))) ∧
      (4 ≤ s.thm.tickT - s.thm.tctl ∨ s.thm.tctl < 16 * (s.thmThr : Int) →
        ∃ t, exec .throttleTick s = .next t ∧ t.thm.cond = .holding ∧ t.thm.step = s.thm.step ∧ t.thm.tickT = s.thm.tctl)) ∧
    (s.thm.cond = .recovering → s.thm.tickAt + 250000 ≤ s.now → ∃ t, exec .throttleTick s = .next t ∧ t.thm.cond = .recovering ∧
      t.thm.step = s.thm.step ∧ t.thm.tickT = s.thm.tctl) ∧
    (∀ t₀ : Nat, s.thm.cond = .holding ∨ s.thm.cond = .recovering → s.thm.coolSince = some t₀ → t₀ + 2000000 ≤ s.now →
      s.thm.hold = none →
      ∃ t, exec .throttleRecovery s = .next t ∧ t.thm.step = min 16 (max s.thm.floor (s.thm.step - 1)) ∧
        t.thm.cond = if s.thm.cond = .recovering ∧ t.thm.step = 0 then .normal else .recovering) ∧
    (∀ t₀ : Nat, s.thm.cond = .shutdown → s.thm.rsSince = some t₀ → t₀ + 10000000 ≤ s.now → s.liveBit bTHM 3 = false →
      ((∀ d ∈ s.safeLine, d = thermalDriver) → ∃ t, exec .thermalShutdownReturn s = .next t ∧ t.thm.cond = .holding ∧
        t.thm.step = max s.thm.floor 12 ∧ t.safeLine = []) ∧
      ((∃ d ∈ s.safeLine, d ≠ thermalDriver) → exec .thermalShutdownReturn s = .next s))

/-- A feeder port (R368-R373, R393): from Idle through Checking, Pre-bias and Ramping; halted for a pre-bias too slow, an under-voltage, an
over-voltage or a reverse current, with its cause and source; limiting and yielding; stopping, and back to Idle once its halt is released.
Choices of the model that stand behind it: assumptions 38 and 48. Completion is concluded for: feederStartRequest, feederCheckPassed,
feederPrebiasDone, feederPrebiasTimeout, feederLimiting, feederUnderVoltage, feederOverVoltage, feederReverseCurrent, feederStop,
feederStopped, feederYield, feederHaltReleased. -/
def Obligations.FeederPort : Prop :=
  ∀ (s : State) (p : SPort),
    (∀ mv : Nat, s.fdr[p].st = .idle → s.startRequest p = true → mv ≤ 30000 →
      ∃ t, exec (.feederStartRequest p mv) s = .next t ∧ t.fdr[p].st = .checking) ∧
    (∀ vt vs ms : Nat, s.fdr[p].st = .checking →
      (vt ≤ 30000 → vs ≤ 30000 → 100 ≤ ms → s.startRequest p = true → s.stageBars p.port = false →
        ∃ t, exec (.feederCheckPassed p vt vs ms) s = .next t ∧ t.fdr[p].st = .prebias ∧ t.fdr[p].since = s.now) ∧
      (30000 < vt → s.fdr[p].extSaid = false → ∃ u : State, exec (.feederCheckPassed p vt vs ms) s =
        .next (u.occur bAWN 4 p.val) ∧ u.fdr[p].st = .checking ∧ u.fdr[p].cause = 1 ∧ u.fdr[p].extSaid = true)) ∧
    (s.fdr[p].st = .prebias →
      (∀ mv : Nat, 63700 ≤ mv → s.startRequest p = true → ∃ t, exec (.feederPrebiasDone p mv true) s = .next t ∧
        t.fdr[p].st = .ramping ∧ t.fdr[p].vref = 65000000 ∧ t.fdr[p].starts = min 65535 (s.fdr[p].starts + 1)) ∧
      (s.fdr[p].since + 50000 ≤ s.now → ∃ u : State, exec (.feederPrebiasTimeout p) s = .next (u.occur bAWN 5 p.val) ∧
        u.fdr[p].st = .halted ∧ u.fdr[p].cause = 2 ∧ u.fdr[p].retryAt = some (s.now + 1000000))) ∧
    (∀ v us : Nat, (s.fdr[p].st = .running → 100 * v < 98 * s.fdrTarget p → s.fdr[p].ilim ≤ s.fdr[p].cur.natAbs → 1000 ≤ us →
        ∃ t, exec (.feederLimiting p v us) s = .next t ∧ t.fdr[p].st = .limiting) ∧
      (s.fdr[p].st = .limiting → 98 * s.fdrTarget p ≤ 100 * v → ∃ t, exec (.feederLimiting p v us) s = .next t ∧
        t.fdr[p].st = .running)) ∧
    (s.fdr[p].delivers = true →
      (∀ v ms : Nat, s.fdr[p].reduced = true → exec (.feederUnderVoltage p v ms) s = .next s) ∧
      (∀ v ms : Nat, s.fdr[p].reduced = false → 100000 * v < s.fdr[p].vref * s.fdrUv p → 10 ≤ ms →
        ∃ u : State, exec (.feederUnderVoltage p v ms) s = .next (u.occur bAWN 5 p.val) ∧ u.fdr[p].st = .halted ∧
          u.fdr[p].cause = 3 ∧ u.fdr[p].retryAt = some (s.now + 1000000) ∧ u.fdr[p].cur = 0) ∧
      (∀ v us : Nat, 11 * s.fdrTarget p < 10 * v ∨ 440000 < v → 10 ≤ us → ∃ u : State, exec (.feederOverVoltage p v us) s =
        .next (u.occur bAWN 6 p.val) ∧ u.fdr[p].st = .halted ∧ u.fdr[p].cause = 4 ∧ u.fdr[p].cur = 0) ∧
      (∀ (cur : Int) (us : Nat), 100 < cur → 100 ≤ us → ∃ u : State, exec (.feederReverseCurrent p cur us) s =
        .next (u.occur bAWN 7 p.val) ∧ u.fdr[p].st = .halted ∧ u.fdr[p].cause = 5 ∧ u.fdr[p].cur = 0) ∧
      (∀ v us : Nat, v < s.culm.msv → 500 ≤ us → ∃ t, exec (.feederYield p v us) s = .next t ∧ t.fdr[p].yield = true ∧
        t.fdr[p].st = s.fdr[p].st) ∧
      (∀ v us : Nat, s.culm.msv ≤ v → 49 * s.culm.vset ≤ 50 * v → 50 * v ≤ 51 * s.culm.vset → 10000 ≤ us →
        ∃ t, exec (.feederYield p v us) s = .next t ∧ t.fdr[p].yield = false ∧ t.fdr[p].st = s.fdr[p].st)) ∧
    (s.startRequest p = false →
      (s.fdr[p].st = .checking ∨ s.fdr[p].st = .prebias → ∃ t, exec (.feederStop p) s = .next t ∧ t.fdr[p].st = .idle) ∧
      (s.fdr[p].delivers = true → ∃ t, exec (.feederStop p) s = .next t ∧ t.fdr[p].st = .stopping ∧ t.fdr[p].cause = 7)) ∧
    (∀ cur : Int, s.fdr[p].st = .stopping → cur.natAbs < 50 → ∃ t, exec (.feederStopped p cur) s = .next t ∧
      t.fdr[p].st = .idle ∧ t.fdr[p].cur = 0) ∧
    (∀ v : Nat, s.fdr[p].st = .halted → s.safeLine = [] → (∀ d ∈ s.halt[p.port], s.ownEnded p d = true) → v < 30000 →
      (∀ a, s.fdr[p].retryAt = some a → a ≤ s.now) → s.stageBars p.port = false →
      ∃ t, exec (.feederHaltReleased p v) s = .next t ∧ t.fdr[p].st = .idle ∧ t.halt[p.port] = [])

/-- The frames of the link (R378, R382, R389): each valid frame on a link that is Up is answered with Received; a Setpoint with the expected
tag is passed to the core, a duplicate is answered again, any other tag is source 2; a Query, a Keepalive and a reserved op; a discarded
frame is source 1. Choices of the model that stand behind it: assumption 47. Completion is concluded for: awnSetpointFrame, awnQueryFrame,
awnKeepaliveFrame, awnReservedOpFrame, awnFrameDiscarded. -/
def Obligations.AwnFrames : Prop :=
  ∀ (s : State) (w : Word),
    (s.awnUp = true →
      (awnOp w = 0 → awnTag w = s.awn.tagexp → ∃ t, exec (.awnSetpointFrame w) s = .next t ∧
        (TxKind.received, received w) ∈ t.awn.txq ∧ t.awn.tagexp = (awnTag w + 1) % 256 ∧ t.awn.cmd = w ∧ t.awn.validAt = s.now ∧
        ∃ q ∈ t.xslots, q.x = 1 ∧ q.item = .setpoint w) ∧
      (∀ r, awnOp w = 0 → awnTag w ≠ s.awn.tagexp → s.awn.taglast = some (awnTag w) → s.awn.reply = some r → s.awn.txq.length ≤ 14 →
        ∃ t, exec (.awnSetpointFrame w) s = .next t ∧ t.xslots = s.xslots ∧ t.awn.tagexp = s.awn.tagexp ∧
          t.awn.txq = s.awn.txq ++ [(TxKind.received, received w), (TxKind.other, r)]) ∧
      (awnOp w = 0 → awnTag w ≠ s.awn.tagexp → s.awn.taglast ≠ some (awnTag w) →
        ∃ u : State, exec (.awnSetpointFrame w) s = .next (u.occur bAWN 2 0) ∧ u.xslots = s.xslots ∧ u.awn.tagexp = s.awn.tagexp ∧
          u.awn.seq = min 255 (s.awn.seq + 1) ∧ (TxKind.received, received w) ∈ u.awn.txq) ∧
      (awnOp w = 1 → s.awn.txq.length ≤ 14 → ∃ t, exec (.awnQueryFrame w) s = .next t ∧
        t.awn.txq = s.awn.txq ++ [(TxKind.received, received w), (TxKind.status, s.awnStatus)]) ∧
      (awnOp w = 2 → s.awn.txq.length ≤ 15 → ∃ t, exec (.awnKeepaliveFrame w) s = .next t ∧ t.awn.validAt = s.now ∧
        t.awn.txq = s.awn.txq ++ [(TxKind.received, received w)]) ∧
      (awnOp w = 3 → s.awn.txq.length ≤ 14 → ∃ t, exec (.awnReservedOpFrame w) s = .next t ∧
        t.awn.txq = s.awn.txq ++ [(TxKind.received, received w), (TxKind.other, awnReply 6 (awnTag w) 2 0)])) ∧
    (s.awn.link ≠ .disabled → s.domOn 9 = true → ∃ u : State, exec .awnFrameDiscarded s = .next (u.occur bAWN 1 0) ∧
      u.awn.crc = min 255 (s.awn.crc + 1) ∧ u.awn.txq = s.awn.txq)

/-- A setpoint at Arbitrate and what becomes of it (R113, R380, R383, R384): rejected with the culm Off or in Stubble, or with an activation
pending; else the setpoint ramps to the clamped target from its ramp value, superseding a pending command; settled or unsettled, it is
pending no more. Choices of the model that stand behind it: assumptions 30 and 47. Completion is concluded for: awnSetpointArbitrate,
awnSettled, awnUnsettled. -/
def Obligations.AwnSetpoints : Prop :=
  ∀ s : State,
    (∀ w : Word, s.domOn 3 = true → s.awnSlot = some w → s.awn.txq.length ≤ 14 →
      (s.culm.mode = .off ∨ s.culm.mode = .stubble ∨ s.img.req.isSome = true →
        ∃ t, exec .awnSetpointArbitrate s = .next t ∧ t.awnSlot = none ∧ t.culm = s.culm ∧ t.awn.pend = s.awn.pend ∧
          t.awn.txq = s.awn.txq ++ [(TxKind.other, awnReply 6 (awnTag w) 3 0)]) ∧
      (s.culm.mode ≠ .off → s.culm.mode ≠ .stubble → s.img.req = none →
        ∃ t, exec .awnSetpointArbitrate s = .next t ∧ t.awnSlot = none ∧ t.awn.pend = some (awnTag w) ∧
          t.awn.taglast = some (awnTag w) ∧ t.awn.src = 1 ∧ t.culm.target = s.awnTarget w ∧ t.culm.slew = s.awnSlew w ∧
          t.culm.slewFrom = s.rampNow ∧ t.culm.slewAt = s.now ∧
          t.awn.txq = s.awn.txq ++ (match s.awn.pend with
              | some old => [(TxKind.other, awnReply 3 old 0 (awnTag w))]
              | none => []) ++
            [(TxKind.other, awnReply 2 (awnTag w) (if s.awnTarget w = awnVset w then 0 else 1) (s.awnTarget w))])) ∧
    (∀ tag v us : Nat, s.awn.pend = some tag → s.awn.txq.length ≤ 15 →
      (s.rampEnd + 10 * (s.reg awnCfg2At).bits 7 0 ≤ s.now → 199 * s.culm.target ≤ 200 * v → 200 * v ≤ 201 * s.culm.target →
        10 * (s.reg awnCfg2At).bits 7 0 ≤ us → ∃ t, exec (.awnSettled v us) s = .next t ∧ t.awn.pend = none ∧
          t.awn.txq = s.awn.txq ++ [(TxKind.settled, awnReply 4 tag 0 s.culm.target)] ∧ t.culm = s.culm) ∧
      (s.rampEnd + 1000 * (s.reg awnCfg2At).bits 15 8 ≤ s.now → ∃ t, exec (.awnUnsettled v) s = .next t ∧ t.awn.pend = none ∧
        t.awn.txq = s.awn.txq ++ [(TxKind.other, awnReply 5 tag 0 v)] ∧ .occurs bAWN 3 0 ∈ t.deferred ∧ t.culm = s.culm))

/-- The link (R379, R386, R387): a valid frame brings it Up with tags from 0; it goes Down with source 0 and the setpoint held; after the hold
the setpoint goes to vnom at 1 V/ms; a Status frame each stper; Received frames go first and Status frames last; AWN_CFG.en trains or
disables it at the next iteration. Choices of the model that stand behind it: assumption 47. Completion is concluded for: awnLinkUp,
awnLinkDown, awnLossholdExpiry, awnStatusPeriod, awnReplyTransmit, awnCfgWrite. -/
def Obligations.AwnLink : Prop :=
  ∀ s : State,
    (∀ w : Word, s.awn.link = .training → s.peerAbsent 1 = false → ∃ t, exec (.awnLinkUp w) s = .next t ∧ t.awn.link = .up ∧
      (TxKind.received, received w) ∈ t.awn.txq ∧ t.awn.tagexp = if awnOp w = 0 ∧ awnTag w = 0 then 1 else 0) ∧
    (∀ n : Nat, s.awn.link = .up → 4 ≤ n ∨ s.awn.validAt + 1000 * (s.reg awnCfgAt).bits 23 16 ≤ s.now →
      ∃ u : State, exec (.awnLinkDown n) s = .next (u.occur bAWN 0 0 true) ∧ u.awn.link = .down ∧ u.awn.pend = none ∧
        u.awn.src = (if s.awn.src = 1 then 2 else s.awn.src) ∧ u.culm = s.culm) ∧
    (∀ t₀ : Nat, s.awn.src = 2 → s.awn.lostAt = some t₀ → (s.reg awnCfgAt).bits 15 8 ≠ 255 →
      t₀ + 100000 * (s.reg awnCfgAt).bits 15 8 ≤ s.now → ∃ t, exec .awnLossholdExpiry s = .next t ∧ t.awn.src = 0 ∧
        t.culm.target = s.thr.inForce.cset.bits 15 0 ∧ t.culm.slew = 1000 ∧ t.culm.slewFrom = s.rampNow) ∧
    (s.awn.link = .up → (s.reg awnCfg2At).bits 23 16 ≠ 0 → s.awn.statAt + 1000 * (s.reg awnCfg2At).bits 23 16 ≤ s.now →
      s.awn.txq.length ≤ 15 → ∃ t, exec .awnStatusPeriod s = .next t ∧ t.awn.statAt = s.now ∧
        t.awn.txq = s.awn.txq ++ [(TxKind.status, s.awnStatus)]) ∧
    (s.domOn 9 = true → s.awn.link ≠ .disabled → s.awn.txq ≠ [] → ∃ t, exec .awnReplyTransmit s = .next t ∧
      ∃ q ∈ s.awn.txq, t.awn.txq = s.awn.txq.erase q ∧ ((∃ r ∈ s.awn.txq, r.1 = TxKind.received) → q.1 = TxKind.received) ∧
        ((∃ r ∈ s.awn.txq, r.1 ≠ TxKind.status) → q.1 ≠ TxKind.status)) ∧
    (∀ (r : Req) (v : Word), s.serves awnCfgAt → s.Inv → s.deferred = [] →
      (v.bit 0 = true → s.domOn 9 = true → s.awn.link = .disabled → ∃ t, exec (.awnCfgWrite r v) s = .next t ∧
        t.iterate.awn.link = .training) ∧
      (v.bit 0 = false → ∃ t, exec (.awnCfgWrite r v) s = .next t ∧ t.iterate.awn.link = .disabled ∧
        (s.awn.link ≠ .disabled → t.iterate.awn.pend = none ∧ t.iterate.awn.txq = [] ∧ t.iterate.awn.src = 0)))

/-- Sides, forwarding and positions (R508, R511, R512, R514, R516-R518): a side comes Up, with IDENT where there is no position, and goes Down
as source 1; a frame leaves the other side with one hop more, unless it is the module's own or at its hop limit; DISCOVER, ASSIGN and a
position conflict. Choices of the model that stand behind it: assumption 42. Completion is concluded for: ringSideUp, ringSideDown,
ringFrameForward, discover, identPeriodic, assign, positionConflict, ringOwnFrameSent. -/
def Obligations.RingNode : Prop :=
  ∀ s : State, s.domOn 1 = true →
    (∀ (q : Side) (n : Nat), s.ring.sides[q].st ≠ 2 → 4 ≤ n → ∃ t, exec (.ringSideUp q n) s = .next t ∧ t.ring.sides[q].st = 2 ∧
      ((⟨1, q.val⟩ : Cause) ∉ t.flt[bRING].live) ∧ (s.ring.pos = 0 → s.ring.sides[q].own.length < 8 →
        ∃ g : Frame, g.typ = 0x02 ∧ g.dst = 0 ∧ g.src = 0xFE ∧ t.ring.sides[q].own = s.ring.sides[q].own ++ [g])) ∧
    (∀ (q : Side) (v us : Nat), s.ring.sides[q].st = 2 →
      (4 ≤ v ∨ 10 ≤ us → ∃ u : State, u.ring.sides[q].st = 0 ∧ u.ring.sides[q].downs = min 255 (s.ring.sides[q].downs + 1) ∧
        exec (.ringSideDown q v us) s = .next (if u.ring.sides.toList.all (·.st != 2)
          then (u.occur bRING 1 q.val true).occur bRING 2 0 true else u.occur bRING 1 q.val true)) ∧
      (∀ (f : Frame) (o : Side), o ≠ q →
        (s.ownFrame f = false → ¬(s.addressed f = true ∧ f.dst ≠ 0xFF) → f.hops.toNat < 64 → s.ring.sides[o].st = 2 →
          ∃ t, exec (.ringFrameForward q f true) s = .next t ∧ t.ring.sides[o].fwd = some { f with hops := f.hops + 1 } ∧
            t.ring.sides[o].spoilt = false) ∧
        (s.ownFrame f = true → exec (.ringFrameForward q f true) s = .next s) ∧
        (s.ownFrame f = false → s.addressed f = false → 64 ≤ f.hops.toNat → ∃ u : State,
          exec (.ringFrameForward q f true) s = .next (u.occur bRING 6 0) ∧ u.ring.hop = min 255 (s.ring.hop + 1) ∧
            u.ring.sides = s.ring.sides)) ∧
      (∀ f : Frame, f.typ = 0x01 → f.dst = 0xFF → ∃ t, exec (.discover q f) s = .next t ∧
        t.ring.sides[q].hop = f.hops.toNat % 128 ∧ (s.repeated f = false → (∀ x : Side, s.ring.sides[x].own.length < 8) →
          ∃ g : Frame, g.typ = 0x02 ∧ ∀ x : Side, t.ring.sides[x].own = s.ring.sides[x].own ++ [g])) ∧
      (s.ring.pos = 0 → s.ring.identAt + 1000000 ≤ s.now → (∀ x : Side, s.ring.sides[x].own.length < 8) →
        ∃ t, exec .identPeriodic s = .next t ∧ t.ring.identAt = s.now ∧
          ∃ g : Frame, g.typ = 0x02 ∧ ∀ x : Side, t.ring.sides[x].own = s.ring.sides[x].own ++ [g]) ∧
      (∀ (f : Frame) (l : List Frame), s.ring.sides[q].own = f :: l → ∃ t, exec (.ringOwnFrameSent q) s = .next t ∧
        t.ring.sides[q].own = l ∧ t.ring.tx = min 65535 (s.ring.tx + 1))) ∧
    (∀ f : Frame, (s.takesHost f 0x03 = true → s.bySerial f = true → assignedOf f ≤ 64 → s.authOk f = true → s.serviceRuns = true →
        (∀ x : Side, s.ring.sides[x].own.length < 8) → ∃ t, exec (.assign f) s = .next t ∧ t.ring.pos = assignedOf f ∧
          ∃ g : Frame, g.typ = 0x12 ∧ g.payload = [0, 0, 0, 0] ∧ ∀ x : Side, t.ring.sides[x].own = s.ring.sides[x].own ++ [g]) ∧
      (s.ringUp = true → s.ring.pos ≠ 0 → f.src.toNat = s.ring.pos → f.stag ≠ s.stag → ∃ u : State,
        exec (.positionConflict f) s = .next (u.occur bRING 4 0) ∧ u.ring.pos = 0))

/-- The host's requests (R513, R519, R520, R524, R525): a READ is answered with the words, a WRITE with status 0 after them; without
authentication status 3, while the core restarts 1, a bad address or count 2, not taken 4, an unknown type 5; STAT; a stored reply again;
HELLO; keys. Choices of the model that stand behind it: assumptions 8, 40 and 41. Completion is concluded for: ringRead, ringWrite,
ringStatRequest, ringRetransmission, ringUnknownType, ringRequestBusy, hello, ringKeyprog, ringEndsess, ringClrcnt. -/
def Obligations.RingRequests : Prop :=
  ∀ (s : State) (f : Frame), (∀ x : Side, s.ring.sides[x].own.length < 8) →
    let replies (t : State) (g : Frame) : Prop := ∀ x : Side, t.ring.sides[x].own = s.ring.sides[x].own ++ [g]
    let status (t : State) (n : Nat) : Prop := ∃ g : Frame, g.typ = 0x12 ∧ g.payload = [BitVec.ofNat 8 n, 0, 0, 0] ∧ replies t g
    (s.takesHost f 0x10 = true →
      (s.authOk f = false → ∃ u : State, exec (.ringRead f) s = .next (u.occur bRING 3 0) ∧ status u 3) ∧
      (s.authOk f = true → s.serviceRuns = false → ∃ t, exec (.ringRead f) s = .next t ∧ status t 1) ∧
      (s.authOk f = true → s.serviceRuns = true → addrOk (addrOf f) (byteAt (bodyOf f) 4) = false →
        ∃ t, exec (.ringRead f) s = .next t ∧ status t 2) ∧
      (s.authOk f = true → s.serviceRuns = true → addrOk (addrOf f) (byteAt (bodyOf f) 4) = true →
        ∃ t g, exec (.ringRead f) s = .next t ∧ g.typ = 0x12 ∧ replies t g ∧
          g.payload = replyPayload 0 ((s.accept f).readWords (addrOf f) (byteAt (bodyOf f) 4)).1) ∧
      (∀ us : Nat, 400 < us → s.authOk f = true → s.serviceRuns = true → ∃ t, exec (.ringRequestBusy f us) s = .next t ∧ status t 4)) ∧
    (s.takesHost f 0x11 = true → s.authOk f = true → s.serviceRuns = true →
      (addrOk (addrOf f) (wordsOf f).length = false ∨ (bodyOf f).length % 4 ≠ 0 → ∃ t, exec (.ringWrite f) s = .next t ∧ status t 2) ∧
      (∀ u : State, addrOk (addrOf f) (wordsOf f).length = true → (bodyOf f).length % 4 = 0 →
        u = (s.accept f).writeWords (s.trailerOk f) (addrOf f) (wordsOf f) → ∃ t g, exec (.ringWrite f) s = .next t ∧ t.rw = u.rw ∧
          g.payload = [0, 0, 0, 0] ∧ ∀ x : Side, u.ring.sides[x].own.length < 8 → t.ring.sides[x].own = u.ring.sides[x].own ++ [g])) ∧
    (s.takesHost f 0x40 = true → s.authOk f = true → s.ring.pos ≠ 0 → ∃ t g, exec (.ringStatRequest f) s = .next t ∧ g.typ = 0x40 ∧
      g.payload = (s.accept f).statPayload ∧ replies t g) ∧
    (∀ (g : Frame) (n : Nat × Nat), s.ringUp = true → f.src = 0 → s.addressed f = true → s.positioned f = true →
      s.repeated f = true → f.flags.getLsbD 1 = true → f.typ = 0x10 → s.authRequired = false →
      (s.ring.replies.find? fun q => q.1 == f.typ.toNat && q.2.1 == f.seq.toNat) = some (n.1, n.2, g) →
      ∃ t, exec (.ringRetransmission f) s = .next t ∧ replies t g ∧ t.rw = s.rw) ∧
    (s.takesHost f f.typ = true → knownType f.typ = false → s.authOk f = true → ∃ t, exec (.ringUnknownType f) s = .next t ∧ status t 5) ∧
    (∀ (k : Vector Word 8) (nm : BitVec 128), s.takesHost f 0x30 = true → s.serviceRuns = true → s.fuse.keys.getLast? = some k →
      s.ring.pos ≠ 0 → ∃ t g, exec (.hello f nm) s = .next t ∧ g.typ = 0x31 ∧ replies t g ∧
        (let key := Config.hmac k ((bodyOf f).take 16 ++ nonceBytes nm ++ snBytes s.fuse.sn)
         t.ring.sess = some { key := key, c := none } ∧ g.payload = nonceBytes nm ++ nonceBytes (mac key [0x4D]))) ∧
    (∀ (r : Req) (authed : Bool), s.serves ringCtlAt →
      (∃ t, exec (.ringKeyprog r authed) s = .next t ∧ t.fuse.keys = if s.fuse.keys.length < 4 ∧ (s.fuse.keys = [] ∨ authed = true ∧
        r = .host) then s.fuse.keys ++ [s.ring.key] else s.fuse.keys) ∧
      (∃ t, exec (.ringEndsess r) s = .next t ∧ t.ring.sess = none) ∧
      ∃ t, exec (.ringClrcnt r) s = .next t ∧ t.ring.rx = 0 ∧ t.ring.tx = 0 ∧ t.ring.crc = 0 ∧ t.ring.auth = 0)

/-- The stook exchange (R526-R528): a broadcast gives the module its grant and lend; the flows are reported; reports are kept and judged 5 ms
later; a matching entry pairs a flow and a report without one unpairs it; 30 ms without a broadcast take the grant away; a silent peer
suspends the flow, FLOW source 4. Choices of the model that stand behind it: assumption 36. Completion is concluded for: stook, exchSend,
exchReceived, exchEvaluation, stookMissing, peerSilent. -/
def Obligations.StookExchange : Prop :=
  ∀ s : State,
    (∀ f : Frame, f.src ≠ 0 → exec (.stook f) s = .next s) ∧
    (∀ f : Frame, s.ringUp = true → f.typ = 0x20 → f.dst = 0xFF → f.src = 0 → s.repeated f = false → ∃ t, exec (.stook f) s = .next t ∧
      (s.ring.pos ≠ 0 → 4 * s.ring.pos ≤ f.payload.length →
        t.thr.stk = word16 f.payload (4 * (s.ring.pos - 1)) ∧ t.thr.lend = word16 f.payload (4 * (s.ring.pos - 1) + 2)) ∧
      t.ring.stookAt = some s.now ∧ t.ring.xseq = f.seq.toNat ∧ t.ring.evalDue = true ∧ t.ring.lost = false ∧ t.ring.exch = []) ∧
    (s.ringUp = true → s.ring.sendDue = true → s.ring.pos ≠ 0 → s.exchFlows ≠ [] → (∀ x : Side, s.ring.sides[x].own.length < 8) →
      ∃ t g, exec .exchSend s = .next t ∧ g.typ = 0x21 ∧ g.dst = 0xFF ∧ g.payload = (s.exchFlows.take 64).flatMap s.exchEntry ∧
        (∀ x : Side, t.ring.sides[x].own = s.ring.sides[x].own ++ [g]) ∧ t.ring.sendDue = false ∧
        ∀ c ∈ s.exchFlows.take 64, s.ctx[c].d.kind = 5 → t.ctx[c].peerGrant = s.ctx[c].grant) ∧
    (∀ f : Frame, s.ringUp = true → f.typ = 0x21 → f.dst = 0xFF → s.ownFrame f = false → s.repeated f = false → s.ring.pos ≠ 0 →
      ∃ t, exec (.exchReceived f) s = .next t ∧ t.ring.exch = s.ring.exch ++ [(f.src.toNat, f.stag.toNat, f.payload)]) ∧
    (∀ t₀ : Nat, s.domOn 1 = true → s.ring.evalDue = true → s.ring.stookAt = some t₀ → t₀ + 5000 ≤ s.now →
      ∃ t, exec .exchEvaluation s = .next t ∧ t.ring.evalDue = false ∧ t.ring.nrep = min 255 s.ring.exch.length ∧
        ∀ c ∈ s.exchFlows, s.ring.pos ≠ 0 → s.stkOf s.ctx[c].d ≠ 0 →
          let peer := s.ctx[c].d.remote + 1
          let entry (e : Nat × Nat × Nat × Nat) : Prop :=
            e.1 = (if s.ctx[c].d.kind = 5 then 2 else 1) ∧ e.2.1 = s.stkOf s.ctx[c].d ∧ e.2.2.1 = s.ring.pos
          ((∃ q ∈ s.ring.exch, q.1 = peer ∧ ∃ e ∈ exchEntries q.2.2, entry e) → t.ctx[c].paired = true) ∧
          ((∃ q ∈ s.ring.exch, q.1 = peer) → (∀ q ∈ s.ring.exch, q.1 = peer → ∀ e ∈ exchEntries q.2.2, ¬entry e) →
            t.ctx[c].paired = false) ∧
          ((∀ q ∈ s.ring.exch, q.1 ≠ peer) → t.ctx[c].paired = s.ctx[c].paired ∧
            (s.ctx[c].d.kind = 6 → t.ctx[c].peerGrant = 0))) ∧
    (∀ t₀ : Nat, s.domOn 1 = true → s.ring.lost = false → s.ring.stookAt = some t₀ → t₀ + 30000 ≤ s.now →
      ∃ t, exec .stookMissing s = .next t ∧ t.thr.stk = 0xFFFF ∧ t.thr.lend = 0 ∧ t.ring.lost = true) ∧
    (∀ c : Ctx, (s.ctx[c].d.kind = 5 ∨ s.ctx[c].d.kind = 6) → s.ctx[c].st = .live ∨ s.ctx[c].st = .suspended →
      s.ctx[c].paired = true →
      (∀ q ∈ s.ring.peers, q.src = s.ctx[c].d.remote + 1 → q.stag = s.ctx[c].pstag → q.heard + 100000 ≤ s.now) →
      ∃ u : State, exec (.peerSilent c) s = .next (u.occur bFLOW 4 c.val) ∧ u.ctx[c].st = .suspended ∧
        u.ctx[c].scause.getLsbD 5 = true ∧ u.ctx[c].paired = false)

/-- The CAN interface (R533, R534, R537, R538, R540): a valid LIMITS frame with a new counter replaces the values and the age; an invalid one
is source 3, a repeated one is ignored and its eighth in a row is source 2; STATE and its alarms; MODULE STATUS; sending, bus-off, error
passive and active, dominance; CAN_CFG. Choices of the model that stand behind it: assumptions 43, 44, 45 and 46. Completion is concluded
for: canLimitsFrame, canStateFrame, moduleStatusSend, canBusOff, canErrorPassive, canBusDominant, canCfgWrite, canFrameSent,
canErrorActiveRegained. -/
def Obligations.CanInterface : Prop :=
  ∀ s : State,
    (∀ (k : Bms) (d : List Byte), s.canOn = true →
      (limitsValid d = false → ∃ u : State, exec (.canLimitsFrame k d) s = .next (u.occur bCAN 3 k.val) ∧ u.bms = s.bms ∧
        u.can.rej = min 255 (s.can.rej + 1)) ∧
      (limitsValid d = true → s.bms[k].limCtr ≠ some (byteAt d 0) → ∃ t, exec (.canLimitsFrame k d) s = .next t ∧
        t.bms[k].limAt = some s.now ∧ t.bms[k].limCtr = some (byteAt d 0) ∧ t.bms[k].cp = (d.getD 1 0).getLsbD 0 ∧
        t.bms[k].dp = (d.getD 1 0).getLsbD 1 ∧ t.bms[k].full = (d.getD 1 0).getLsbD 2 ∧ t.bms[k].ncell = byteAt d 2 ∧
        t.bms[k].cvl = word16 d 4 ∧ t.bms[k].ccl = word16 d 6 ∧ t.bms[k].dcl = word16 d 8 ∧ t.bms[k].dvl = word16 d 10 ∧
        (∃ q ∈ t.xslots, q.x = 2 ∧ q.item = .bms k) ∧ ∀ j : Bms, j ≠ k → t.bms[j] = s.bms[j]) ∧
      (limitsValid d = true → s.bms[k].limCtr = some (byteAt d 0) →
        (s.bms[k].staleRow < 7 → ∃ t, exec (.canLimitsFrame k d) s = .next t ∧ t.can.stale = min 255 (s.can.stale + 1) ∧
          t.bms[k] = { s.bms[k] with staleRow := s.bms[k].staleRow + 1 }) ∧
        (s.bms[k].staleRow = 7 → ∃ u : State, exec (.canLimitsFrame k d) s = .next (u.occur bCAN 2 k.val) ∧
          u.can.stale = min 255 (s.can.stale + 1) ∧ u.bms[k].limAt = s.bms[k].limAt)) ∧
      (stateValid d = true → s.bms[k].stCtr ≠ some (byteAt d 0) →
        (byteAt d 1 = 0 → ∃ t, exec (.canStateFrame k d) s = .next t ∧ t.bms[k].stAt = some s.now ∧ t.bms[k].alarm = false ∧
          t.bms[k].limAt = s.bms[k].limAt ∧ t.bms[k].tmin = signedOf 8 (byteAt d 12) ∧ t.bms[k].tmax = signedOf 8 (byteAt d 13) ∧
          ((⟨5, k.val⟩ : Cause) ∉ t.flt[bCAN].live)) ∧
        (byteAt d 1 ≠ 0 → ∃ u : State, exec (.canStateFrame k d) s = .next (u.occur bCAN 5 k.val true) ∧ u.bms[k].alarm = true))) ∧
    (∀ (p : BPort) (l : LithEntry), s.lithium p = some l → s.can.bus ≠ 3 → s.domOn 1 = true →
      s.can.sentAt[p] + 10000 * (s.reg canCfgAt).bits 31 24 ≤ s.now →
      let m := (0x40 * (s.reg canCfgAt).bits 21 16 + 4 * l.bms.val + p.val, s.moduleStatus p l)
      ∃ t, exec (.moduleStatusSend p) s = .next t ∧ t.can.sentAt[p] = s.now ∧ t.can.ctr[p] = (s.can.ctr[p] + 1) % 16 ∧
        t.can.txq = if s.can.txq.length < 8 then s.can.txq ++ [m] else s.can.txq.tail ++ [m]) ∧
    (∀ m l, s.can.txq = m :: l → s.canOn = true → ∃ t, exec .canFrameSent s = .next t ∧ t.can.txq = l ∧
      t.can.tx = min 65535 (s.can.tx + 1)) ∧
    (s.canOn = true → ∃ u : State, exec .canBusOff s = .next (u.occur bCAN 1 0 true) ∧ u.can.bus = 2) ∧
    (s.can.bus = 0 → s.domOn 1 = true → ∃ u : State, exec .canErrorPassive s = .next (u.occur bCAN 0 0 true) ∧ u.can.bus = 1) ∧
    (∀ a b : Nat, s.can.bus = 1 ∨ s.can.bus = 2 → s.domOn 1 = true → ∃ t, exec (.canErrorActiveRegained a b) s = .next t ∧
      t.can.bus = 0 ∧ t.can.tec = min 255 a ∧ t.can.recv = min 255 b) ∧
    (∀ us : Nat, s.canOn = true → 1000 ≤ us → exec (.canBusDominant us) s = .next (s.occur bCAN 6 0 true)) ∧
    (∀ (r : Req) (v : Word), s.serves canCfgAt → s.Inv →
      (canCfgBad v = true → exec (.canCfgWrite r v) s = .next s) ∧
      (canCfgBad v = false → ∃ t, exec (.canCfgWrite r v) s = .next t ∧ (t.reg canCfgAt).bit 0 = v.bit 0 ∧
        (t.reg canCfgAt).bits 31 24 = max 1 (v.bits 31 24) ∧
        ((s.reg canCfgAt).bit 0 ≠ v.bit 0 → t.can.txq = [] ∧ t.can.tec = 0 ∧ t.can.bus = if v.bit 0 ∧ s.domOn 1 then 0 else 3)))

/-- Writes through the register service (R485, R550-R555, R559, R561): DOM_RTC sets the clock; a narrow or unaligned write is discarded with
cause 3, an unmapped one with cause 1, one to a block whose domain is off with cause 2, each counted; a plain register keeps the word with
its fields clamped and its reserved bits 0; CLRAERR clears the record. The profile table (R230, R233): a PROF_ELO write is held apart, the
PROF_EHI write to the same entry stores both words together at the next iteration, and one without its pair is torn and stores nothing; a
PROF_ELO read latches the high word; a check answers its code at the next iteration. Choices of the model that stand behind it: assumptions 10 and 61. Completion is concluded for:
profEloWrite, profEhiWrite, profEloRead, profChkRequest, domRtcWrite, sysClraerr, registerWrite. -/
def Obligations.RegisterAndProfileWrites : Prop :=
  (∀ (s : State) (r : Req), s.serviceRuns = true →
      (∀ v : Word, s.serves domRtcAt → ∃ t, exec (.domRtcWrite r v) s = .next t ∧ t.rtc = v.toNat ∧ t.dom.rtcv = true) ∧
      (∀ (a : BitVec 24) (n : Nat) (v : Word), n ≠ 4 ∨ a.toNat % 4 ≠ 0 → ∃ t, exec (.registerWrite r a n v) s = .next t ∧
        ChangesOnly [.sys] s t ∧ t.sys.cause = 3 ∧ t.sys.req = r.code ∧ t.sys.addr = a.toNat ∧
        t.sys.count = min 65535 (s.sys.count + 1)) ∧
      (∀ (a : BitVec 24) (c : Nat) (v : Word), a.toNat % 4 = 0 → s.accessCause a.toNat = some c →
        (21 ≤ a.toNat / 0x10000 → c = 1) ∧ (a.toNat / 0x10000 < 21 → s.domOn (homeDomain (a.toNat / 0x10000)) = false → c = 2) ∧
        ∃ t, exec (.registerWrite r a 4 v) s = .next t ∧ t.sys.cause = c ∧ t.sys.req = r.code ∧ t.sys.addr = a.toNat ∧
          t.sys.count = min 65535 (s.sys.count + 1) ∧ t.rw = s.rw) ∧
      (∀ v : Word, s.Inv → s.serves thrBudpAt → ∃ t q, exec (.registerWrite r (BitVec.ofNat 24 thrBudpAt) 4 v) s = .next t ∧
        regSpecAt thrBudpAt = some q ∧ t.reg thrBudpAt = q.accept v ∧ ∀ a : Nat, a ≠ thrBudpAt → t.reg a = s.reg a) ∧
      (∃ t, exec (.sysClraerr r) s = .next t ∧ (s.accessCause 0x20 = none → t.sys.cause = 0 ∧ t.sys.count = 0 ∧ t.sys.addr = 0))) ∧
  (∀ (s : State) (r : Req) (n : Fin 6144) (v : Word), s.Inv →
      (s.serves (profEloAt n.val) → (∃ t, exec (.profEloWrite r n v) s = .next t ∧ t.prof = s.prof ∧ t.profIO.lo = some (n.val, v)) ∧
        (∃ t, exec (.profEloRead r n) s = .next t ∧ ∃ hi : Word, t.profIO.hi = some (n.val, hi) ∧ ∀ i, i < 32 →
          hi.getLsbD i = (s.entries.entry n.val).getLsbD (32 + i))) ∧
      (s.serves (profEhiAt n.val) →
        (∀ lo : Word, s.deferred = [] → s.profIO.lo = some (n.val, lo) → ∃ t, exec (.profEhiWrite r n v) s = .next t ∧
          t.profIO.lo = none ∧ t.prof = s.prof ∧ t.iterate.entry n.val = BitVec.ofNat 64 (v.toNat * 2 ^ 32 + lo.toNat) ∧
          ∀ k, k ≠ n.val → t.iterate.entry k = s.entry k) ∧
        ((∀ lo : Word, s.profIO.lo ≠ some (n.val, lo)) → ∃ t, exec (.profEhiWrite r n v) s = .next t ∧ t.prof = s.prof ∧
          t.profIO.torn = min 65535 (s.profIO.torn + 1))) ∧
      (∀ ref : BitVec 13, s.serves profChkAt → s.deferred = [] → ∃ t, exec (.profChkRequest r ref) s = .next t ∧
        ChangesOnly [.deferred] s t ∧ t.iterate.profIO.cdone = true ∧ t.iterate.profIO.cres = s.profileCheck ref.toNat))

/-- What the commands of flows, image, power, faults, log, watchdog, Thresher, pipeline, ring and registers leave unchanged: every field of
the state outside the command's footprint. -/
def Obligations.ControlFrames : Prop :=
  ∀ (c : Instr) (s t : State), family c ∈ [Family.flows, .image, .power, .faults, .log, .watchdog, .thresher, .pipeline, .ring,
    .registers] → exec c s = .next t → ChangesOnly (footprint c) s t

/-- What the commands of the fabric, the culm, loads, sources, batteries, charging, estimation, temperatures, feeders, Awn and CAN leave
unchanged: every field of the state outside the command's footprint. -/
def Obligations.PortFrames : Prop :=
  ∀ (c : Instr) (s t : State), family c ∈ [Family.fabric, .culm, .load, .source, .battery, .charging, .estimation, .thermal, .feeder,
    .awn, .can] → exec c s = .next t → ChangesOnly (footprint c) s t

/-- Commands that change one record: of the module, only that record of the named cell or port differs behind them; of a write that waits for
the iteration, nothing but the queue of what waits, and at the iteration only that record, and what the flows make of it, differs. Choices
of the model that stand behind it: assumption 1. -/
def Obligations.RecordFrames : Prop :=
  ∀ s t : State,
    (∀ (c : Cell) (i : Int), exec (.shedParked c i) s = .next t → t = s.setCell c t.cells[c]) ∧
    (∀ (p : SPort) (a b : Nat), (exec (.srcPresenceMet p a b) s = .next t ∨ exec (.srcStabilityRestart p a b) s = .next t ∨
      exec (.mpptPerturb p a) s = .next t ∨ exec (.mpptSweepStart p a) s = .next t ∨ exec (.mpptSweepDone p a) s = .next t ∨
      exec (.flapClear p) s = .next t) → t = s.setSrc p t.src[p]) ∧
    (∀ (r : Req) (p : SPort) (c : Instr), s.serves (srcPctlAt p) → c = .srcRearm r p ∨ c = .srcSweep r p → exec c s = .next t →
      ChangesOnly [.deferred] s t ∧ (s.deferred = [] → ∃ x, t.iterate = ((s.setSrc p x).settle).iterationEnds)) ∧
    (∀ (r : Req) (p : BPort) (c : Instr), s.serves (batPctlAt p) → c = .batConnect r p ∨ c = .batRearm r p → exec c s = .next t →
      ChangesOnly [.deferred] s t ∧ (s.deferred = [] → ∃ x, t.iterate = ((s.setBat p x).settle).iterationEnds)) ∧
    (∀ p : BPort, (exec (.equalizeDue p) s = .next t ∨ exec (.nickelHoldoffEnd p) s = .next t) → t = s.setChg p t.chg[p]) ∧
    (∀ (r : Req) (p : BPort), s.serves (chgPctlAt p) → exec (.chgEq r p) s = .next t →
      ChangesOnly [.deferred] s t ∧ (s.deferred = [] → ∃ x, t.iterate = ((s.setChg p x).settle).iterationEnds)) ∧
    (∀ (p : BPort) (a b : Int), (exec (.estSweepStart p) s = .next t ∨ exec (.estSweepPauseExpiry p) s = .next t ∨
      exec (.kneeBaseline p a b) s = .next t) → t = s.setEst p t.est[p]) ∧
    (∀ (r : Req) (p : BPort) (c : Instr), s.serves (estPctlAt p) → c = .estSweep r p ∨ c = .estAbort r p → exec c s = .next t →
      ChangesOnly [.deferred] s t ∧ (s.deferred = [] → ∃ x, t.iterate = ((s.setEst p x).settle).iterationEnds)) ∧
    (∀ (p : SPort) (a b : Nat), (exec (.feederLimiting p a b) s = .next t ∨ exec (.feederYield p a b) s = .next t) →
      t = s.setFdr p t.fdr[p]) ∧
    (∀ p : Port, exec (.dischargeElementHoldEnd p) s = .next t → ∃ x, t = s.setStage p x) ∧
    (∀ (p : Port) (v : Nat), (∀ x, s.stage? p = some x → x.again = false) → exec (.portDischargeEnd p v) s = .next t →
      ∃ x, t = s.setStage p x)

/-- Memory: every byte of the non-volatile store outside the ranges that a command stores to reads as before; a command whose footprint does
not hold the store changes no byte of it. -/
def Obligations.StoreFrame : Prop :=
  ∀ (c : Instr) (s t : State) (a : Nat), exec c s = .next t → (∀ q ∈ s.storedBy c, a < q.1 ∨ q.1 + q.2 ≤ a) →
    Memory.read t.nv a = Memory.read s.nv a

/-- A step with a command at the front of the queue is that command's meaning on the state with the queue's rest. Choices of the model that
stand behind it: assumption 65. -/
def Obligations.StepRunsFront : Prop :=
  ∀ (s : State) (c : Instr) (l : List Instr), step { s with pending := c :: l } = exec c { s with pending := l }

/-- The state after reset: no command waits, the store is erased and no reset value is overwritten, so every RW configuration register reads
its reset value of the register map (R560); the module is unpowered with every domain off, every context is Free, no line is asserted and
no fault stands. Which machine state reset is, and the store's bytes, are the model's choices. Choices of the model that stand behind it:
assumptions 3, 5, 7 and 67. -/
def Obligations.ResetValues : Prop :=
  State.reset.pending = [] ∧ (∀ a : Nat, Memory.read State.reset.nv a = 0xFF) ∧ (∀ a : Nat, State.reset.reg a = regReset a) ∧
  State.reset.reg awnCfgAt = 0x0A0A3200 ∧ State.reset.reg canCfgAt = 0x0A180501 ∧ State.reset.reg wdgHctAt = 0x0001001E ∧
  State.reset.dom.st = .unpowered ∧ (∀ d : Nat, State.reset.domOn d = false) ∧ (∀ c : Ctx, State.reset.ctx[c].st = .free) ∧
  State.reset.safeLine = [] ∧ (∀ p : Port, State.reset.halt[p] = []) ∧
  (∀ b : Blk, State.reset.flt[b].fst = 0 ∧ State.reset.flt[b].live = [])

/-- The module's stores are in their canonical form after reset, with at most four keys programmed. Choices of the model that stand behind it:
assumption 3. -/
def Obligations.ResetInvariant : Prop :=
  State.reset.Inv

/-- Every step keeps the stores canonical, and never programs a fifth key (R524): for every command, and for the passing of time. -/
def Obligations.InvariantKept : Prop :=
  ∀ s t : State, s.Inv → step s = .next t → t.Inv

/-- While an image is being applied (R555), a read of a block of D3 or D10 answers 0 and a write of one is discarded, each with cause 5 in the
access record and nothing else changed behind it; a block of D0, D1 or D11 whose domain is on is served; every block has one of these home
domains. -/
def Obligations.AccessWhileApplying : Prop :=
  ∀ (s : State) (r : Req) (a : BitVec 24) (v : Word), s.img.asta = .applying → a.toNat / 0x10000 < 21 → s.serviceRuns = true →
    s.domOn (homeDomain (a.toNat / 0x10000)) = true → a.toNat % 4 = 0 →
    (homeDomain (a.toNat / 0x10000) = 3 ∨ homeDomain (a.toNat / 0x10000) = 10 →
      ∃ u : State, ChangesOnly [.sys] s u ∧ u.sys.cause = 5 ∧ u.sys.req = r.code ∧ u.sys.addr = a.toNat ∧
        u.sys.count = min 65535 (s.sys.count + 1) ∧ s.readWord r a.toNat = (0, u) ∧
        exec (.registerWrite r a 4 v) s = .next u.settle) ∧
    (homeDomain (a.toNat / 0x10000) ≠ 3 → homeDomain (a.toNat / 0x10000) ≠ 10 → s.serves a.toNat) ∧
    homeDomain (a.toNat / 0x10000) ∈ [0, 1, 3, 10, 11]
end

