-- ==== Sys2Proof/Laws/FrameBase.lean ====
section
/-!
SUPPORT. What a record update of the state, a fold and an access leave where the fields they write are set aside.
-/

namespace Sys2Proof.Machine

set_option linter.unusedTactic false
set_option linter.unreachableTactic false
set_option linter.unusedSimpArgs false
set_option linter.unusedVariables false

@[simp] theorem set_pending_but {m : List Fld} (s : State) x0 (h0 : Fld.pending ∈ m) :
    ({ s with pending := x0 } : State).but m = s.but m := by
  simp only [State.but, h0, if_true]
@[simp] theorem set_now_but {m : List Fld} (s : State) x0 (h0 : Fld.now ∈ m) :
    ({ s with now := x0 } : State).but m = s.but m := by
  simp only [State.but, h0, if_true]
@[simp] theorem set_freeN_but {m : List Fld} (s : State) x0 (h0 : Fld.freeN ∈ m) :
    ({ s with freeN := x0 } : State).but m = s.but m := by
  simp only [State.but, h0, if_true]
@[simp] theorem set_deferred_but {m : List Fld} (s : State) x0 (h0 : Fld.deferred ∈ m) :
    ({ s with deferred := x0 } : State).but m = s.but m := by
  simp only [State.but, h0, if_true]
@[simp] theorem set_flt_but {m : List Fld} (s : State) x0 (h0 : Fld.flt ∈ m) :
    ({ s with flt := x0 } : State).but m = s.but m := by
  simp only [State.but, h0, if_true]
@[simp] theorem set_safeLine_but {m : List Fld} (s : State) x0 (h0 : Fld.safeLine ∈ m) :
    ({ s with safeLine := x0 } : State).but m = s.but m := by
  simp only [State.but, h0, if_true]
@[simp] theorem set_halt_but {m : List Fld} (s : State) x0 (h0 : Fld.halt ∈ m) :
    ({ s with halt := x0 } : State).but m = s.but m := by
  simp only [State.but, h0, if_true]
@[simp] theorem set_x3_but {m : List Fld} (s : State) x0 (h0 : Fld.x3 ∈ m) :
    ({ s with x3 := x0 } : State).but m = s.but m := by
  simp only [State.but, h0, if_true]
@[simp] theorem set_xing_but {m : List Fld} (s : State) x0 (h0 : Fld.xing ∈ m) :
    ({ s with xing := x0 } : State).but m = s.but m := by
  simp only [State.but, h0, if_true]
@[simp] theorem set_xslots_but {m : List Fld} (s : State) x0 (h0 : Fld.xslots ∈ m) :
    ({ s with xslots := x0 } : State).but m = s.but m := by
  simp only [State.but, h0, if_true]
@[simp] theorem set_rw_but {m : List Fld} (s : State) x0 (h0 : Fld.rw ∈ m) :
    ({ s with rw := x0 } : State).but m = s.but m := by
  simp only [State.but, h0, if_true]
@[simp] theorem set_nv_but {m : List Fld} (s : State) x0 (h0 : Fld.nv ∈ m) :
    ({ s with nv := x0 } : State).but m = s.but m := by
  simp only [State.but, h0, if_true]
@[simp] theorem set_prof_but {m : List Fld} (s : State) x0 (h0 : Fld.prof ∈ m) :
    ({ s with prof := x0 } : State).but m = s.but m := by
  simp only [State.but, h0, if_true]
@[simp] theorem set_log_but {m : List Fld} (s : State) x0 (h0 : Fld.log ∈ m) :
    ({ s with log := x0 } : State).but m = s.but m := by
  simp only [State.but, h0, if_true]
@[simp] theorem set_wdg_but {m : List Fld} (s : State) x0 (h0 : Fld.wdg ∈ m) :
    ({ s with wdg := x0 } : State).but m = s.but m := by
  simp only [State.but, h0, if_true]
@[simp] theorem set_host_but {m : List Fld} (s : State) x0 (h0 : Fld.host ∈ m) :
    ({ s with host := x0 } : State).but m = s.but m := by
  simp only [State.but, h0, if_true]
@[simp] theorem set_ret_but {m : List Fld} (s : State) x0 (h0 : Fld.ret ∈ m) :
    ({ s with ret := x0 } : State).but m = s.but m := by
  simp only [State.but, h0, if_true]
@[simp] theorem set_slots_but {m : List Fld} (s : State) x0 (h0 : Fld.slots ∈ m) :
    ({ s with slots := x0 } : State).but m = s.but m := by
  simp only [State.but, h0, if_true]
@[simp] theorem set_dom_but {m : List Fld} (s : State) x0 (h0 : Fld.dom ∈ m) :
    ({ s with dom := x0 } : State).but m = s.but m := by
  simp only [State.but, h0, if_true]
@[simp] theorem set_img_but {m : List Fld} (s : State) x0 (h0 : Fld.img ∈ m) :
    ({ s with img := x0 } : State).but m = s.but m := by
  simp only [State.but, h0, if_true]
@[simp] theorem set_nvs_but {m : List Fld} (s : State) x0 (h0 : Fld.nvs ∈ m) :
    ({ s with nvs := x0 } : State).but m = s.but m := by
  simp only [State.but, h0, if_true]
@[simp] theorem set_sys_but {m : List Fld} (s : State) x0 (h0 : Fld.sys ∈ m) :
    ({ s with sys := x0 } : State).but m = s.but m := by
  simp only [State.but, h0, if_true]
@[simp] theorem set_fuse_but {m : List Fld} (s : State) x0 (h0 : Fld.fuse ∈ m) :
    ({ s with fuse := x0 } : State).but m = s.but m := by
  simp only [State.but, h0, if_true]
@[simp] theorem set_fab_but {m : List Fld} (s : State) x0 (h0 : Fld.fab ∈ m) :
    ({ s with fab := x0 } : State).but m = s.but m := by
  simp only [State.but, h0, if_true]
@[simp] theorem set_groups_but {m : List Fld} (s : State) x0 (h0 : Fld.groups ∈ m) :
    ({ s with groups := x0 } : State).but m = s.but m := by
  simp only [State.but, h0, if_true]
@[simp] theorem set_cells_but {m : List Fld} (s : State) x0 (h0 : Fld.cells ∈ m) :
    ({ s with cells := x0 } : State).but m = s.but m := by
  simp only [State.but, h0, if_true]
@[simp] theorem set_culm_but {m : List Fld} (s : State) x0 (h0 : Fld.culm ∈ m) :
    ({ s with culm := x0 } : State).but m = s.but m := by
  simp only [State.but, h0, if_true]
@[simp] theorem set_gov_but {m : List Fld} (s : State) x0 (h0 : Fld.gov ∈ m) :
    ({ s with gov := x0 } : State).but m = s.but m := by
  simp only [State.but, h0, if_true]
@[simp] theorem set_branches_but {m : List Fld} (s : State) x0 (h0 : Fld.branches ∈ m) :
    ({ s with branches := x0 } : State).but m = s.but m := by
  simp only [State.but, h0, if_true]
@[simp] theorem set_loads_but {m : List Fld} (s : State) x0 (h0 : Fld.loads ∈ m) :
    ({ s with loads := x0 } : State).but m = s.but m := by
  simp only [State.but, h0, if_true]
@[simp] theorem set_src_but {m : List Fld} (s : State) x0 (h0 : Fld.src ∈ m) :
    ({ s with src := x0 } : State).but m = s.but m := by
  simp only [State.but, h0, if_true]
@[simp] theorem set_hov_but {m : List Fld} (s : State) x0 (h0 : Fld.hov ∈ m) :
    ({ s with hov := x0 } : State).but m = s.but m := by
  simp only [State.but, h0, if_true]
@[simp] theorem set_flow_but {m : List Fld} (s : State) x0 (h0 : Fld.flow ∈ m) :
    ({ s with flow := x0 } : State).but m = s.but m := by
  simp only [State.but, h0, if_true]
@[simp] theorem set_ctx_but {m : List Fld} (s : State) x0 (h0 : Fld.ctx ∈ m) :
    ({ s with ctx := x0 } : State).but m = s.but m := by
  simp only [State.but, h0, if_true]
@[simp] theorem set_bat_but {m : List Fld} (s : State) x0 (h0 : Fld.bat ∈ m) :
    ({ s with bat := x0 } : State).but m = s.but m := by
  simp only [State.but, h0, if_true]
@[simp] theorem set_fdr_but {m : List Fld} (s : State) x0 (h0 : Fld.fdr ∈ m) :
    ({ s with fdr := x0 } : State).but m = s.but m := by
  simp only [State.but, h0, if_true]
@[simp] theorem set_chg_but {m : List Fld} (s : State) x0 (h0 : Fld.chg ∈ m) :
    ({ s with chg := x0 } : State).but m = s.but m := by
  simp only [State.but, h0, if_true]
@[simp] theorem set_profIO_but {m : List Fld} (s : State) x0 (h0 : Fld.profIO ∈ m) :
    ({ s with profIO := x0 } : State).but m = s.but m := by
  simp only [State.but, h0, if_true]
@[simp] theorem set_bms_but {m : List Fld} (s : State) x0 (h0 : Fld.bms ∈ m) :
    ({ s with bms := x0 } : State).but m = s.but m := by
  simp only [State.but, h0, if_true]
@[simp] theorem set_est_but {m : List Fld} (s : State) x0 (h0 : Fld.est ∈ m) :
    ({ s with est := x0 } : State).but m = s.but m := by
  simp only [State.but, h0, if_true]
@[simp] theorem set_thm_but {m : List Fld} (s : State) x0 (h0 : Fld.thm ∈ m) :
    ({ s with thm := x0 } : State).but m = s.but m := by
  simp only [State.but, h0, if_true]
@[simp] theorem set_thr_but {m : List Fld} (s : State) x0 (h0 : Fld.thr ∈ m) :
    ({ s with thr := x0 } : State).but m = s.but m := by
  simp only [State.but, h0, if_true]
@[simp] theorem set_sense_but {m : List Fld} (s : State) x0 (h0 : Fld.sense ∈ m) :
    ({ s with sense := x0 } : State).but m = s.but m := by
  simp only [State.but, h0, if_true]
@[simp] theorem set_awn_but {m : List Fld} (s : State) x0 (h0 : Fld.awn ∈ m) :
    ({ s with awn := x0 } : State).but m = s.but m := by
  simp only [State.but, h0, if_true]
@[simp] theorem set_ring_but {m : List Fld} (s : State) x0 (h0 : Fld.ring ∈ m) :
    ({ s with ring := x0 } : State).but m = s.but m := by
  simp only [State.but, h0, if_true]
@[simp] theorem set_can_but {m : List Fld} (s : State) x0 (h0 : Fld.can ∈ m) :
    ({ s with can := x0 } : State).but m = s.but m := by
  simp only [State.but, h0, if_true]
@[simp] theorem set_energy_but {m : List Fld} (s : State) x0 (h0 : Fld.energy ∈ m) :
    ({ s with energy := x0 } : State).but m = s.but m := by
  simp only [State.but, h0, if_true]
@[simp] theorem set_safeLine_halt_but {m : List Fld} (s : State) x0 x1 (h0 : Fld.safeLine ∈ m)
    (h1 : Fld.halt ∈ m) : ({ s with safeLine := x0, halt := x1 } : State).but m = s.but m := by
  simp only [State.but, h0, h1, if_true]
@[simp] theorem set_log_nvs_but {m : List Fld} (s : State) x0 x1 (h0 : Fld.log ∈ m) (h1 : Fld.nvs ∈ m) :
    ({ s with log := x0, nvs := x1 } : State).but m = s.but m := by
  simp only [State.but, h0, h1, if_true]
@[simp] theorem set_wdg_ret_but {m : List Fld} (s : State) x0 x1 (h0 : Fld.wdg ∈ m) (h1 : Fld.ret ∈ m) :
    ({ s with wdg := x0, ret := x1 } : State).but m = s.but m := by
  simp only [State.but, h0, h1, if_true]
@[simp] theorem set_log_ret_but {m : List Fld} (s : State) x0 x1 (h0 : Fld.log ∈ m) (h1 : Fld.ret ∈ m) :
    ({ s with log := x0, ret := x1 } : State).but m = s.but m := by
  simp only [State.but, h0, h1, if_true]
@[simp] theorem set_x3_ret_but {m : List Fld} (s : State) x0 x1 (h0 : Fld.x3 ∈ m) (h1 : Fld.ret ∈ m) :
    ({ s with x3 := x0, ret := x1 } : State).but m = s.but m := by
  simp only [State.but, h0, h1, if_true]
@[simp] theorem set_culm_loads_but {m : List Fld} (s : State) x0 x1 (h0 : Fld.culm ∈ m) (h1 : Fld.loads ∈ m) :
    ({ s with culm := x0, loads := x1 } : State).but m = s.but m := by
  simp only [State.but, h0, h1, if_true]
@[simp] theorem set_thr_ring_but {m : List Fld} (s : State) x0 x1 (h0 : Fld.thr ∈ m) (h1 : Fld.ring ∈ m) :
    ({ s with thr := x0, ring := x1 } : State).but m = s.but m := by
  simp only [State.but, h0, h1, if_true]
@[simp] theorem set_groups_ctx_thr_but {m : List Fld} (s : State) x0 x1 x2 (h0 : Fld.groups ∈ m)
    (h1 : Fld.ctx ∈ m) (h2 : Fld.thr ∈ m) :
    ({ s with groups := x0, ctx := x1, thr := x2 } : State).but m = s.but m := by
  simp only [State.but, h0, h1, h2, if_true]
@[simp] theorem set_deferred_awn_but {m : List Fld} (s : State) x0 x1 (h0 : Fld.deferred ∈ m) (h1 : Fld.awn ∈ m) :
    ({ s with deferred := x0, awn := x1 } : State).but m = s.but m := by
  simp only [State.but, h0, h1, if_true]
@[simp] theorem set_nvs_thm_but {m : List Fld} (s : State) x0 x1 (h0 : Fld.nvs ∈ m) (h1 : Fld.thm ∈ m) :
    ({ s with nvs := x0, thm := x1 } : State).but m = s.but m := by
  simp only [State.but, h0, h1, if_true]
@[simp] theorem set_ctx_thr_but {m : List Fld} (s : State) x0 x1 (h0 : Fld.ctx ∈ m) (h1 : Fld.thr ∈ m) :
    ({ s with ctx := x0, thr := x1 } : State).but m = s.but m := by
  simp only [State.but, h0, h1, if_true]
@[simp] theorem set_host_dom_but {m : List Fld} (s : State) x0 x1 (h0 : Fld.host ∈ m) (h1 : Fld.dom ∈ m) :
    ({ s with host := x0, dom := x1 } : State).but m = s.but m := by
  simp only [State.but, h0, h1, if_true]
@[simp] theorem set_dom_img_but {m : List Fld} (s : State) x0 x1 (h0 : Fld.dom ∈ m) (h1 : Fld.img ∈ m) :
    ({ s with dom := x0, img := x1 } : State).but m = s.but m := by
  simp only [State.but, h0, h1, if_true]
@[simp] theorem set_img_nvs_thm_but {m : List Fld} (s : State) x0 x1 x2 (h0 : Fld.img ∈ m) (h1 : Fld.nvs ∈ m)
    (h2 : Fld.thm ∈ m) : ({ s with img := x0, nvs := x1, thm := x2 } : State).but m = s.but m := by
  simp only [State.but, h0, h1, h2, if_true]
@[simp] theorem set_safeLine_wdg_ret_but {m : List Fld} (s : State) x0 x1 x2 (h0 : Fld.safeLine ∈ m)
    (h1 : Fld.wdg ∈ m) (h2 : Fld.ret ∈ m) :
    ({ s with safeLine := x0, wdg := x1, ret := x2 } : State).but m = s.but m := by
  simp only [State.but, h0, h1, h2, if_true]
@[simp] theorem set_x3_xing_xslots_ret_sense_but {m : List Fld} (s : State) x0 x1 x2 x3 x4 (h0 : Fld.x3 ∈ m)
    (h1 : Fld.xing ∈ m) (h2 : Fld.xslots ∈ m) (h3 : Fld.ret ∈ m) (h4 : Fld.sense ∈ m) :
    ({ s with x3 := x0, xing := x1, xslots := x2, ret := x3, sense := x4 } : State).but m = s.but m := by
  simp only [State.but, h0, h1, h2, h3, h4, if_true]
@[simp] theorem set_prof_profIO_but {m : List Fld} (s : State) x0 x1 (h0 : Fld.prof ∈ m) (h1 : Fld.profIO ∈ m) :
    ({ s with prof := x0, profIO := x1 } : State).but m = s.but m := by
  simp only [State.but, h0, h1, if_true]
@[simp] theorem set_nv_img_but {m : List Fld} (s : State) x0 x1 (h0 : Fld.nv ∈ m) (h1 : Fld.img ∈ m) :
    ({ s with nv := x0, img := x1 } : State).but m = s.but m := by
  simp only [State.but, h0, h1, if_true]
@[simp] theorem set_deferred_flt_safeLine_rw_log_wdg_host_dom_but {m : List Fld}
    (s : State) x0 x1 x2 x3 x4 x5 x6 x7 (h0 : Fld.deferred ∈ m) (h1 : Fld.flt ∈ m) (h2 : Fld.safeLine ∈ m)
    (h3 : Fld.rw ∈ m) (h4 : Fld.log ∈ m) (h5 : Fld.wdg ∈ m) (h6 : Fld.host ∈ m) (h7 : Fld.dom ∈ m) :
    ({ s with deferred := x0, flt := x1, safeLine := x2, rw := x3, log := x4, wdg := x5, host := x6, dom := x7 } : State).but m = s.but m := by
  simp only [State.but, h0, h1, h2, h3, h4, h5, h6, h7, if_true]
@[simp] theorem set_ret_slots_dom_but {m : List Fld} (s : State) x0 x1 x2 (h0 : Fld.ret ∈ m) (h1 : Fld.slots ∈ m)
    (h2 : Fld.dom ∈ m) : ({ s with ret := x0, slots := x1, dom := x2 } : State).but m = s.but m := by
  simp only [State.but, h0, h1, h2, if_true]
@[simp] theorem set_ret_dom_but {m : List Fld} (s : State) x0 x1 (h0 : Fld.ret ∈ m) (h1 : Fld.dom ∈ m) :
    ({ s with ret := x0, dom := x1 } : State).but m = s.but m := by
  simp only [State.but, h0, h1, if_true]
@[simp] theorem set_nv_log_but {m : List Fld} (s : State) x0 x1 (h0 : Fld.nv ∈ m) (h1 : Fld.log ∈ m) :
    ({ s with nv := x0, log := x1 } : State).but m = s.but m := by
  simp only [State.but, h0, h1, if_true]
@[simp] theorem set_ret_flow_ctx_but {m : List Fld} (s : State) x0 x1 x2 (h0 : Fld.ret ∈ m) (h1 : Fld.flow ∈ m)
    (h2 : Fld.ctx ∈ m) : ({ s with ret := x0, flow := x1, ctx := x2 } : State).but m = s.but m := by
  simp only [State.but, h0, h1, h2, if_true]
@[simp] theorem set_img_culm_but {m : List Fld} (s : State) x0 x1 (h0 : Fld.img ∈ m) (h1 : Fld.culm ∈ m) :
    ({ s with img := x0, culm := x1 } : State).but m = s.but m := by
  simp only [State.but, h0, h1, if_true]
@[simp] theorem set_safeLine_thm_but {m : List Fld} (s : State) x0 x1 (h0 : Fld.safeLine ∈ m) (h1 : Fld.thm ∈ m) :
    ({ s with safeLine := x0, thm := x1 } : State).but m = s.but m := by
  simp only [State.but, h0, h1, if_true]
@[simp] theorem set_dom_ring_but {m : List Fld} (s : State) x0 x1 (h0 : Fld.dom ∈ m) (h1 : Fld.ring ∈ m) :
    ({ s with dom := x0, ring := x1 } : State).but m = s.but m := by
  simp only [State.but, h0, h1, if_true]
@[simp] theorem set_deferred_flt_but {m : List Fld} (s : State) x0 x1 (h0 : Fld.deferred ∈ m) (h1 : Fld.flt ∈ m) :
    ({ s with deferred := x0, flt := x1 } : State).but m = s.but m := by
  simp only [State.but, h0, h1, if_true]
@[simp] theorem set_prof_img_but {m : List Fld} (s : State) x0 x1 (h0 : Fld.prof ∈ m) (h1 : Fld.img ∈ m) :
    ({ s with prof := x0, img := x1 } : State).but m = s.but m := by
  simp only [State.but, h0, h1, if_true]
@[simp] theorem set_deferred_ret_but {m : List Fld} (s : State) x0 x1 (h0 : Fld.deferred ∈ m) (h1 : Fld.ret ∈ m) :
    ({ s with deferred := x0, ret := x1 } : State).but m = s.but m := by
  simp only [State.but, h0, h1, if_true]
@[simp] theorem set_prof_host_img_fab_groups_cells_culm_gov_branches_src_bat_fdr_chg_est_but {m : List Fld}
    (s : State) x0 x1 x2 x3 x4 x5 x6 x7 x8 x9 x10 x11 x12 x13 (h0 : Fld.prof ∈ m) (h1 : Fld.host ∈ m)
    (h2 : Fld.img ∈ m) (h3 : Fld.fab ∈ m) (h4 : Fld.groups ∈ m) (h5 : Fld.cells ∈ m) (h6 : Fld.culm ∈ m)
    (h7 : Fld.gov ∈ m) (h8 : Fld.branches ∈ m) (h9 : Fld.src ∈ m) (h10 : Fld.bat ∈ m) (h11 : Fld.fdr ∈ m)
    (h12 : Fld.chg ∈ m) (h13 : Fld.est ∈ m) :
    ({ s with prof := x0, host := x1, img := x2, fab := x3, groups := x4, cells := x5, culm := x6, gov := x7, branches := x8, src := x9, bat := x10, fdr := x11, chg := x12, est := x13 } : State).but m = s.but m := by
  simp only [State.but, h0, h1, h2, h3, h4, h5, h6, h7, h8, h9, h10, h11, h12, h13, if_true]
@[simp] theorem set_deferred_x3_xing_xslots_ret_sense_but {m : List Fld} (s : State) x0 x1 x2 x3 x4 x5
    (h0 : Fld.deferred ∈ m) (h1 : Fld.x3 ∈ m) (h2 : Fld.xing ∈ m) (h3 : Fld.xslots ∈ m) (h4 : Fld.ret ∈ m)
    (h5 : Fld.sense ∈ m) :
    ({ s with deferred := x0, x3 := x1, xing := x2, xslots := x3, ret := x4, sense := x5 } : State).but m = s.but m := by
  simp only [State.but, h0, h1, h2, h3, h4, h5, if_true]
@[simp] theorem set_deferred_x3_ret_but {m : List Fld} (s : State) x0 x1 x2 (h0 : Fld.deferred ∈ m)
    (h1 : Fld.x3 ∈ m) (h2 : Fld.ret ∈ m) :
    ({ s with deferred := x0, x3 := x1, ret := x2 } : State).but m = s.but m := by
  simp only [State.but, h0, h1, h2, if_true]
@[simp] theorem set_src_bat_but {m : List Fld} (s : State) x0 x1 (h0 : Fld.src ∈ m) (h1 : Fld.bat ∈ m) :
    ({ s with src := x0, bat := x1 } : State).but m = s.but m := by
  simp only [State.but, h0, h1, if_true]
@[simp] theorem set_nv_nvs_but {m : List Fld} (s : State) x0 x1 (h0 : Fld.nv ∈ m) (h1 : Fld.nvs ∈ m) :
    ({ s with nv := x0, nvs := x1 } : State).but m = s.but m := by
  simp only [State.but, h0, h1, if_true]
@[simp] theorem set_nv_nvs_log_but {m : List Fld} (s : State) x0 x1 x2 (h0 : Fld.nv ∈ m) (h1 : Fld.nvs ∈ m)
    (h2 : Fld.log ∈ m) : ({ s with nv := x0, nvs := x1, log := x2 } : State).but m = s.but m := by
  simp only [State.but, h0, h1, h2, if_true]
@[simp] theorem set_nv_log_nvs_but {m : List Fld} (s : State) x0 x1 x2 (h0 : Fld.nv ∈ m) (h1 : Fld.log ∈ m)
    (h2 : Fld.nvs ∈ m) : ({ s with nv := x0, log := x1, nvs := x2 } : State).but m = s.but m := by
  simp only [State.but, h0, h1, h2, if_true]
@[simp] theorem set_deferred_profIO_but {m : List Fld} (s : State) x0 x1 (h0 : Fld.deferred ∈ m)
    (h1 : Fld.profIO ∈ m) : ({ s with deferred := x0, profIO := x1 } : State).but m = s.but m := by
  simp only [State.but, h0, h1, if_true]
@[simp] theorem set_xing_sense_but {m : List Fld} (s : State) x0 x1 (h0 : Fld.xing ∈ m) (h1 : Fld.sense ∈ m) :
    ({ s with xing := x0, sense := x1 } : State).but m = s.but m := by
  simp only [State.but, h0, h1, if_true]
@[simp] theorem set_sense_xing_but {m : List Fld} (s : State) x0 x1 (h0 : Fld.sense ∈ m) (h1 : Fld.xing ∈ m) :
    ({ s with sense := x0, xing := x1 } : State).but m = s.but m := by
  simp only [State.but, h0, h1, if_true]
theorem but_ite {m : List Fld} {c : Prop} [Decidable c] (a b : State) :
    (if c then a else b).but m = if c then a.but m else b.but m := by
  split <;> rfl
@[simp] theorem forEach_but {m : List Fld} {α : Type} (l : List α) (f : State → α → State) (s : State)
    (h : ∀ s a, (f s a).but m = s.but m) : (forEach l f s).but m = s.but m := by
  induction l generalizing s with
  | nil => rfl
  | cons a l ih => exact (ih (f s a)).trans (h s a)
@[simp] theorem foldl_but {m : List Fld} {α : Type} (l : List α) (f : State → α → State) (s : State)
    (h : ∀ s a, (f s a).but m = s.but m) : (l.foldl f s).but m = s.but m := forEach_but l f s h


/-! ### The state with fields set aside -/

theorem but_pending {fs : List Fld} {s t : State} (h : t.but fs = s.but fs)
    (hn : Fld.pending ∉ fs) : t.pending = s.pending := by
  have e := congrArg State.pending h
  simpa only [State.but, if_neg hn] using e
theorem but_now {fs : List Fld} {s t : State} (h : t.but fs = s.but fs) (hn : Fld.now ∉ fs) : t.now = s.now := by
  have e := congrArg State.now h
  simpa only [State.but, if_neg hn] using e
theorem but_freeN {fs : List Fld} {s t : State} (h : t.but fs = s.but fs)
    (hn : Fld.freeN ∉ fs) : t.freeN = s.freeN := by
  have e := congrArg State.freeN h
  simpa only [State.but, if_neg hn] using e
theorem but_deferred {fs : List Fld} {s t : State} (h : t.but fs = s.but fs)
    (hn : Fld.deferred ∉ fs) : t.deferred = s.deferred := by
  have e := congrArg State.deferred h
  simpa only [State.but, if_neg hn] using e
theorem but_flt {fs : List Fld} {s t : State} (h : t.but fs = s.but fs) (hn : Fld.flt ∉ fs) : t.flt = s.flt := by
  have e := congrArg State.flt h
  simpa only [State.but, if_neg hn] using e
theorem but_safeLine {fs : List Fld} {s t : State} (h : t.but fs = s.but fs)
    (hn : Fld.safeLine ∉ fs) : t.safeLine = s.safeLine := by
  have e := congrArg State.safeLine h
  simpa only [State.but, if_neg hn] using e
theorem but_halt {fs : List Fld} {s t : State} (h : t.but fs = s.but fs) (hn : Fld.halt ∉ fs) : t.halt = s.halt := by
  have e := congrArg State.halt h
  simpa only [State.but, if_neg hn] using e
theorem but_x3 {fs : List Fld} {s t : State} (h : t.but fs = s.but fs) (hn : Fld.x3 ∉ fs) : t.x3 = s.x3 := by
  have e := congrArg State.x3 h
  simpa only [State.but, if_neg hn] using e
theorem but_xing {fs : List Fld} {s t : State} (h : t.but fs = s.but fs) (hn : Fld.xing ∉ fs) : t.xing = s.xing := by
  have e := congrArg State.xing h
  simpa only [State.but, if_neg hn] using e
theorem but_xslots {fs : List Fld} {s t : State} (h : t.but fs = s.but fs)
    (hn : Fld.xslots ∉ fs) : t.xslots = s.xslots := by
  have e := congrArg State.xslots h
  simpa only [State.but, if_neg hn] using e
theorem but_rw {fs : List Fld} {s t : State} (h : t.but fs = s.but fs) (hn : Fld.rw ∉ fs) : t.rw = s.rw := by
  have e := congrArg State.rw h
  simpa only [State.but, if_neg hn] using e
theorem but_nv {fs : List Fld} {s t : State} (h : t.but fs = s.but fs) (hn : Fld.nv ∉ fs) : t.nv = s.nv := by
  have e := congrArg State.nv h
  simpa only [State.but, if_neg hn] using e
theorem but_prof {fs : List Fld} {s t : State} (h : t.but fs = s.but fs) (hn : Fld.prof ∉ fs) : t.prof = s.prof := by
  have e := congrArg State.prof h
  simpa only [State.but, if_neg hn] using e
theorem but_log {fs : List Fld} {s t : State} (h : t.but fs = s.but fs) (hn : Fld.log ∉ fs) : t.log = s.log := by
  have e := congrArg State.log h
  simpa only [State.but, if_neg hn] using e
theorem but_wdg {fs : List Fld} {s t : State} (h : t.but fs = s.but fs) (hn : Fld.wdg ∉ fs) : t.wdg = s.wdg := by
  have e := congrArg State.wdg h
  simpa only [State.but, if_neg hn] using e
theorem but_host {fs : List Fld} {s t : State} (h : t.but fs = s.but fs) (hn : Fld.host ∉ fs) : t.host = s.host := by
  have e := congrArg State.host h
  simpa only [State.but, if_neg hn] using e
theorem but_ret {fs : List Fld} {s t : State} (h : t.but fs = s.but fs) (hn : Fld.ret ∉ fs) : t.ret = s.ret := by
  have e := congrArg State.ret h
  simpa only [State.but, if_neg hn] using e
theorem but_slots {fs : List Fld} {s t : State} (h : t.but fs = s.but fs)
    (hn : Fld.slots ∉ fs) : t.slots = s.slots := by
  have e := congrArg State.slots h
  simpa only [State.but, if_neg hn] using e
theorem but_dom {fs : List Fld} {s t : State} (h : t.but fs = s.but fs) (hn : Fld.dom ∉ fs) : t.dom = s.dom := by
  have e := congrArg State.dom h
  simpa only [State.but, if_neg hn] using e
theorem but_img {fs : List Fld} {s t : State} (h : t.but fs = s.but fs) (hn : Fld.img ∉ fs) : t.img = s.img := by
  have e := congrArg State.img h
  simpa only [State.but, if_neg hn] using e
theorem but_nvs {fs : List Fld} {s t : State} (h : t.but fs = s.but fs) (hn : Fld.nvs ∉ fs) : t.nvs = s.nvs := by
  have e := congrArg State.nvs h
  simpa only [State.but, if_neg hn] using e
theorem but_sys {fs : List Fld} {s t : State} (h : t.but fs = s.but fs) (hn : Fld.sys ∉ fs) : t.sys = s.sys := by
  have e := congrArg State.sys h
  simpa only [State.but, if_neg hn] using e
theorem but_fuse {fs : List Fld} {s t : State} (h : t.but fs = s.but fs) (hn : Fld.fuse ∉ fs) : t.fuse = s.fuse := by
  have e := congrArg State.fuse h
  simpa only [State.but, if_neg hn] using e
theorem but_fab {fs : List Fld} {s t : State} (h : t.but fs = s.but fs) (hn : Fld.fab ∉ fs) : t.fab = s.fab := by
  have e := congrArg State.fab h
  simpa only [State.but, if_neg hn] using e
theorem but_groups {fs : List Fld} {s t : State} (h : t.but fs = s.but fs)
    (hn : Fld.groups ∉ fs) : t.groups = s.groups := by
  have e := congrArg State.groups h
  simpa only [State.but, if_neg hn] using e
theorem but_cells {fs : List Fld} {s t : State} (h : t.but fs = s.but fs)
    (hn : Fld.cells ∉ fs) : t.cells = s.cells := by
  have e := congrArg State.cells h
  simpa only [State.but, if_neg hn] using e
theorem but_culm {fs : List Fld} {s t : State} (h : t.but fs = s.but fs) (hn : Fld.culm ∉ fs) : t.culm = s.culm := by
  have e := congrArg State.culm h
  simpa only [State.but, if_neg hn] using e
theorem but_gov {fs : List Fld} {s t : State} (h : t.but fs = s.but fs) (hn : Fld.gov ∉ fs) : t.gov = s.gov := by
  have e := congrArg State.gov h
  simpa only [State.but, if_neg hn] using e
theorem but_branches {fs : List Fld} {s t : State} (h : t.but fs = s.but fs)
    (hn : Fld.branches ∉ fs) : t.branches = s.branches := by
  have e := congrArg State.branches h
  simpa only [State.but, if_neg hn] using e
theorem but_loads {fs : List Fld} {s t : State} (h : t.but fs = s.but fs)
    (hn : Fld.loads ∉ fs) : t.loads = s.loads := by
  have e := congrArg State.loads h
  simpa only [State.but, if_neg hn] using e
theorem but_src {fs : List Fld} {s t : State} (h : t.but fs = s.but fs) (hn : Fld.src ∉ fs) : t.src = s.src := by
  have e := congrArg State.src h
  simpa only [State.but, if_neg hn] using e
theorem but_hov {fs : List Fld} {s t : State} (h : t.but fs = s.but fs) (hn : Fld.hov ∉ fs) : t.hov = s.hov := by
  have e := congrArg State.hov h
  simpa only [State.but, if_neg hn] using e
theorem but_flow {fs : List Fld} {s t : State} (h : t.but fs = s.but fs) (hn : Fld.flow ∉ fs) : t.flow = s.flow := by
  have e := congrArg State.flow h
  simpa only [State.but, if_neg hn] using e
theorem but_ctx {fs : List Fld} {s t : State} (h : t.but fs = s.but fs) (hn : Fld.ctx ∉ fs) : t.ctx = s.ctx := by
  have e := congrArg State.ctx h
  simpa only [State.but, if_neg hn] using e
theorem but_bat {fs : List Fld} {s t : State} (h : t.but fs = s.but fs) (hn : Fld.bat ∉ fs) : t.bat = s.bat := by
  have e := congrArg State.bat h
  simpa only [State.but, if_neg hn] using e
theorem but_fdr {fs : List Fld} {s t : State} (h : t.but fs = s.but fs) (hn : Fld.fdr ∉ fs) : t.fdr = s.fdr := by
  have e := congrArg State.fdr h
  simpa only [State.but, if_neg hn] using e
theorem but_chg {fs : List Fld} {s t : State} (h : t.but fs = s.but fs) (hn : Fld.chg ∉ fs) : t.chg = s.chg := by
  have e := congrArg State.chg h
  simpa only [State.but, if_neg hn] using e
theorem but_profIO {fs : List Fld} {s t : State} (h : t.but fs = s.but fs)
    (hn : Fld.profIO ∉ fs) : t.profIO = s.profIO := by
  have e := congrArg State.profIO h
  simpa only [State.but, if_neg hn] using e
theorem but_bms {fs : List Fld} {s t : State} (h : t.but fs = s.but fs) (hn : Fld.bms ∉ fs) : t.bms = s.bms := by
  have e := congrArg State.bms h
  simpa only [State.but, if_neg hn] using e
theorem but_est {fs : List Fld} {s t : State} (h : t.but fs = s.but fs) (hn : Fld.est ∉ fs) : t.est = s.est := by
  have e := congrArg State.est h
  simpa only [State.but, if_neg hn] using e
theorem but_thm {fs : List Fld} {s t : State} (h : t.but fs = s.but fs) (hn : Fld.thm ∉ fs) : t.thm = s.thm := by
  have e := congrArg State.thm h
  simpa only [State.but, if_neg hn] using e
theorem but_thr {fs : List Fld} {s t : State} (h : t.but fs = s.but fs) (hn : Fld.thr ∉ fs) : t.thr = s.thr := by
  have e := congrArg State.thr h
  simpa only [State.but, if_neg hn] using e
theorem but_sense {fs : List Fld} {s t : State} (h : t.but fs = s.but fs)
    (hn : Fld.sense ∉ fs) : t.sense = s.sense := by
  have e := congrArg State.sense h
  simpa only [State.but, if_neg hn] using e
theorem but_awn {fs : List Fld} {s t : State} (h : t.but fs = s.but fs) (hn : Fld.awn ∉ fs) : t.awn = s.awn := by
  have e := congrArg State.awn h
  simpa only [State.but, if_neg hn] using e
theorem but_ring {fs : List Fld} {s t : State} (h : t.but fs = s.but fs) (hn : Fld.ring ∉ fs) : t.ring = s.ring := by
  have e := congrArg State.ring h
  simpa only [State.but, if_neg hn] using e
theorem but_can {fs : List Fld} {s t : State} (h : t.but fs = s.but fs) (hn : Fld.can ∉ fs) : t.can = s.can := by
  have e := congrArg State.can h
  simpa only [State.but, if_neg hn] using e
theorem but_energy {fs : List Fld} {s t : State} (h : t.but fs = s.but fs)
    (hn : Fld.energy ∉ fs) : t.energy = s.energy := by
  have e := congrArg State.energy h
  simpa only [State.but, if_neg hn] using e

@[simp] theorem viaService_but {fs : List Fld} (s : State) (r : Req) (a : Nat) (f : State → State)
    (h : ∀ s, (f s).but fs = s.but fs) (hsys : Fld.sys ∈ fs) : (s.viaService r a f).but fs = s.but fs := by
  have hs (c : Nat) : (s.accessError c r a).but fs = s.but fs := by
    unfold State.accessError
    simp [*]
  unfold State.viaService
  repeat' (first | done | split | simp [*])

end Sys2Proof.Machine
end

