-- ==== Sys2Proof/Laws/FrameCore.lean ====
section
/-!
SUPPORT. What the shared operations of the fault system and the power plane change of the state: each operation leaves every field that its lemma does not name.
-/

namespace Sys2Proof.Machine

set_option linter.unusedTactic false
set_option linter.unreachableTactic false
set_option linter.unusedSimpArgs false
set_option linter.unusedVariables false

@[simp] theorem putReg_but {fs : List Fld} (s : State) (a : Nat) (v : Word) (hrw : Fld.rw ∈ fs) :
    (State.putReg s a v).but fs = s.but fs := by
  unfold State.putReg
  simp [*]

@[simp] theorem setReg_but {fs : List Fld} (s : State) (a : Nat) (v : Word) (hrw : Fld.rw ∈ fs) :
    (State.setReg s a v).but fs = s.but fs := by
  unfold State.setReg
  split <;> simp [*]

@[simp] theorem setCell_but {fs : List Fld} (s : State) (c : Cell) (x : CellRec) (hcells : Fld.cells ∈ fs) :
    (State.setCell s c x).but fs = s.but fs := by
  unfold State.setCell
  simp [*]

@[simp] theorem setGroup_but {fs : List Fld} (s : State) (g : Group) (x : GroupRec) (hgroups : Fld.groups ∈ fs) :
    (State.setGroup s g x).but fs = s.but fs := by
  unfold State.setGroup
  simp [*]

@[simp] theorem setGov_but {fs : List Fld} (s : State) (p : Port) (x : GovRec) (hgov : Fld.gov ∈ fs) :
    (State.setGov s p x).but fs = s.but fs := by
  unfold State.setGov
  simp [*]

@[simp] theorem setBranch_but {fs : List Fld} (s : State) (b : Branch) (x : BranchRec)
    (hbranches : Fld.branches ∈ fs) :
    (State.setBranch s b x).but fs = s.but fs := by
  unfold State.setBranch
  simp [*]

@[simp] theorem setSrc_but {fs : List Fld} (s : State) (p : SPort) (x : SrcRec) (hsrc : Fld.src ∈ fs) :
    (State.setSrc s p x).but fs = s.but fs := by
  unfold State.setSrc
  simp [*]

@[simp] theorem setCtx_but {fs : List Fld} (s : State) (c : Ctx) (x : FlowCtx) (hctx : Fld.ctx ∈ fs) :
    (State.setCtx s c x).but fs = s.but fs := by
  unfold State.setCtx
  simp [*]

@[simp] theorem setBat_but {fs : List Fld} (s : State) (p : BPort) (x : BatRec) (hbat : Fld.bat ∈ fs) :
    (State.setBat s p x).but fs = s.but fs := by
  unfold State.setBat
  simp [*]

@[simp] theorem setFdr_but {fs : List Fld} (s : State) (p : SPort) (x : FdrRec) (hfdr : Fld.fdr ∈ fs) :
    (State.setFdr s p x).but fs = s.but fs := by
  unfold State.setFdr
  simp [*]

@[simp] theorem setChg_but {fs : List Fld} (s : State) (p : BPort) (x : ChgRec) (hchg : Fld.chg ∈ fs) :
    (State.setChg s p x).but fs = s.but fs := by
  unfold State.setChg
  simp [*]

@[simp] theorem setEst_but {fs : List Fld} (s : State) (p : BPort) (x : EstRec) (hest : Fld.est ∈ fs) :
    (State.setEst s p x).but fs = s.but fs := by
  unfold State.setEst
  simp [*]

@[simp] theorem setSensor_but {fs : List Fld} (s : State) (k : Sensor) (x : SensorRec) (hthm : Fld.thm ∈ fs) :
    (State.setSensor s k x).but fs = s.but fs := by
  unfold State.setSensor
  simp [*]

@[simp] theorem setFan_but {fs : List Fld} (s : State) (f : Fan) (x : FanRec) (hthm : Fld.thm ∈ fs) :
    (State.setFan s f x).but fs = s.but fs := by
  unfold State.setFan
  simp [*]

@[simp] theorem setBms_but {fs : List Fld} (s : State) (k : Bms) (x : BmsRec) (hbms : Fld.bms ∈ fs) :
    (State.setBms s k x).but fs = s.but fs := by
  unfold State.setBms
  simp [*]

@[simp] theorem setFlt_but {fs : List Fld} (s : State) (b : Blk) (x : BlkFault) (hflt : Fld.flt ∈ fs) :
    (State.setFlt s b x).but fs = s.but fs := by
  unfold State.setFlt
  simp [*]

@[simp] theorem setHalt_but {fs : List Fld} (s : State) (p : Port) (x : List Driver) (hhalt : Fld.halt ∈ fs) :
    (State.setHalt s p x).but fs = s.but fs := by
  unfold State.setHalt
  simp [*]

@[simp] theorem setXing_but {fs : List Fld} (s : State) (x : Xing) (r : XingRec) (hxing : Fld.xing ∈ fs) :
    (State.setXing s x r).but fs = s.but fs := by
  unfold State.setXing
  simp [*]

@[simp] theorem drew_but {fs : List Fld} (s : State) (hfreeN : Fld.freeN ∈ fs) :
    (State.drew s).but fs = s.but fs := by
  unfold State.drew
  simp [*]

@[simp] theorem drewMany_but {fs : List Fld} (s : State) (n : Nat) (hfreeN : Fld.freeN ∈ fs) :
    (State.drewMany s n).but fs = s.but fs := by
  unfold State.drewMany
  simp [*]

@[simp] theorem setStage_but {fs : List Fld} (s : State) (p : Port) (x : StageRec) (hsrc : Fld.src ∈ fs)
    (hbat : Fld.bat ∈ fs) :
    (State.setStage s p x).but fs = s.but fs := by
  unfold State.setStage
  split <;> simp [*]

@[simp] theorem putValue_but {fs : List Fld} (s : State) (q : XSlot) (hxslots : Fld.xslots ∈ fs) :
    (State.putValue s q).but fs = s.but fs := by
  unfold State.putValue
  repeat' (first | done | intro _ | split | rw [forEach_but] | rw [foldl_but] | simp +zetaDelta [*, but_ite] | extract_lets | (simp only [State.but, *, if_true]; done))

@[simp] theorem saveGen_but {fs : List Fld} (s : State) (c : Ctx) (hxslots : Fld.xslots ∈ fs) :
    (State.saveGen s c).but fs = s.but fs := by
  unfold State.saveGen
  repeat' (first | done | intro _ | split | rw [forEach_but] | rw [foldl_but] | simp +zetaDelta [*, but_ite] | extract_lets | (simp only [State.but, *, if_true]; done))

@[simp] theorem settleChg_but {fs : List Fld} (s : State) (p : BPort) (hchg : Fld.chg ∈ fs) :
    (State.settleChg s p).but fs = s.but fs := by
  unfold State.settleChg
  extract_lets
  (repeat' split) <;> simp +zetaDelta [*]

@[simp] theorem endMigr_but {fs : List Fld} (s : State) (m : Migr) (result : Nat) (hfab : Fld.fab ∈ fs)
    (hgroups : Fld.groups ∈ fs) (hcells : Fld.cells ∈ fs) :
    (State.endMigr s m result).but fs = s.but fs := by
  unfold State.endMigr
  split <;> simp [*]

@[simp] theorem idleCell_but {fs : List Fld} (s : State) (c : Cell) (hcells : Fld.cells ∈ fs) :
    (State.idleCell s c).but fs = s.but fs := by
  unfold State.idleCell
  simp [*]

@[simp] theorem giveBack_but {fs : List Fld} (s : State) (q : Part) (hcells : Fld.cells ∈ fs) :
    (State.giveBack s q).but fs = s.but fs := by
  unfold State.giveBack
  split <;> simp [*]

@[simp] theorem backToDonor_but {fs : List Fld} (s : State) (m : Migr) (hcells : Fld.cells ∈ fs) :
    (State.backToDonor s m).but fs = s.but fs := by
  unfold State.backToDonor
  simp [*]

@[simp] theorem idleParts_but {fs : List Fld} (s : State) (m : Migr) (hcells : Fld.cells ∈ fs) :
    (State.idleParts s m).but fs = s.but fs := by
  unfold State.idleParts
  repeat' (first | done | intro _ | split | rw [forEach_but] | rw [foldl_but] | simp +zetaDelta [*, but_ite] | extract_lets | (simp only [State.but, *, if_true]; done))

@[simp] theorem freePartners_but {fs : List Fld} (s : State) (m : Migr) (c : Cell) (hcells : Fld.cells ∈ fs) :
    (State.freePartners s m c).but fs = s.but fs := by
  unfold State.freePartners
  split <;> simp [*]

@[simp] theorem haltPart_but {fs : List Fld} (g : Group) (s : State) (q : Part) (hcells : Fld.cells ∈ fs) :
    (State.haltPart g s q).but fs = s.but fs := by
  unfold State.haltPart
  repeat' (first | done | intro _ | split | rw [forEach_but] | rw [foldl_but] | simp +zetaDelta [*, but_ite] | extract_lets | (simp only [State.but, *, if_true]; done))

@[simp] theorem haltMigr_but {fs : List Fld} (g : Group) (s : State) (m : Migr) (hfab : Fld.fab ∈ fs)
    (hgroups : Fld.groups ∈ fs) (hcells : Fld.cells ∈ fs) :
    (State.haltMigr g s m).but fs = s.but fs := by
  unfold State.haltMigr
  (repeat' split) <;> simp [*]

@[simp] theorem undrop_but {fs : List Fld} (s : State) (c : Cell) (hcells : Fld.cells ∈ fs) :
    (State.undrop s c).but fs = s.but fs := by
  unfold State.undrop
  repeat' (first | done | intro _ | split | rw [forEach_but] | rw [foldl_but] | simp +zetaDelta [*, but_ite] | extract_lets | (simp only [State.but, *, if_true]; done))

@[simp] theorem stopGroup_but {fs : List Fld} (s : State) (g : Group) (hfab : Fld.fab ∈ fs)
    (hgroups : Fld.groups ∈ fs) (hcells : Fld.cells ∈ fs) :
    (State.stopGroup s g).but fs = s.but fs := by
  unfold State.stopGroup
  repeat' (first | done | intro _ | split | rw [forEach_but] | rw [foldl_but] | simp +zetaDelta [*, but_ite] | extract_lets | (simp only [State.but, *, if_true]; done))

@[simp] theorem restGroup_but {fs : List Fld} (s : State) (g : Group) (hfab : Fld.fab ∈ fs)
    (hgroups : Fld.groups ∈ fs) (hcells : Fld.cells ∈ fs) :
    (State.restGroup s g).but fs = s.but fs := by
  unfold State.restGroup
  repeat' (first | done | intro _ | split | rw [forEach_but] | rw [foldl_but] | simp +zetaDelta [*, but_ite] | extract_lets | (simp only [State.but, *, if_true]; done))

@[simp] theorem stopAll_but {fs : List Fld} (s : State) (hfab : Fld.fab ∈ fs) (hgroups : Fld.groups ∈ fs)
    (hcells : Fld.cells ∈ fs) :
    (State.stopAll s).but fs = s.but fs := by
  unfold State.stopAll
  repeat' (first | done | intro _ | split | rw [forEach_but] | rw [foldl_but] | simp +zetaDelta [*, but_ite] | extract_lets | (simp only [State.but, *, if_true]; done))

@[simp] theorem fenceCell_but {fs : List Fld} (s : State) (c : Cell) (d : Driver) (hfab : Fld.fab ∈ fs)
    (hgroups : Fld.groups ∈ fs) (hcells : Fld.cells ∈ fs) :
    (State.fenceCell s c d).but fs = s.but fs := by
  unfold State.fenceCell
  extract_lets
  (repeat' split) <;> simp +zetaDelta [*]

@[simp] theorem stopEst_but {fs : List Fld} (s : State) (p : Nat) (src : Src) (hest : Fld.est ∈ fs) :
    (State.stopEst s p src).but fs = s.but fs := by
  unfold State.stopEst
  split <;> simp [*]

@[simp] theorem fencePair_but {fs : List Fld} (s : State) (k : Nat) (d : Driver) (hfab : Fld.fab ∈ fs)
    (hgroups : Fld.groups ∈ fs) (hcells : Fld.cells ∈ fs) :
    (State.fencePair s k d).but fs = s.but fs := by
  unfold State.fencePair
  split <;> simp [*]

@[simp] theorem zeroGrants_but {fs : List Fld} (s : State) (hctx : Fld.ctx ∈ fs) (hthr : Fld.thr ∈ fs) :
    (State.zeroGrants s).but fs = s.but fs := by
  unfold State.zeroGrants
  simp [*]

@[simp] theorem zeroThresher_but {fs : List Fld} (s : State) (hctx : Fld.ctx ∈ fs) (hthr : Fld.thr ∈ fs) :
    (State.zeroThresher s).but fs = s.but fs := by
  unfold State.zeroThresher
  split <;> simp [*]

@[simp] theorem settleGroup_but {fs : List Fld} (s : State) (g : Group) (hgroups : Fld.groups ∈ fs) :
    (State.settleGroup s g).but fs = s.but fs := by
  unfold State.settleGroup
  simp [*]

@[simp] theorem settleFlows_but {fs : List Fld} (s : State) (hctx : Fld.ctx ∈ fs) :
    (State.settleFlows s).but fs = s.but fs := by
  unfold State.settleFlows
  simp [*]

@[simp] theorem settle_but {fs : List Fld} (s : State) (hgroups : Fld.groups ∈ fs) (hctx : Fld.ctx ∈ fs)
    (hchg : Fld.chg ∈ fs) :
    (State.settle s).but fs = s.but fs := by
  unfold State.settle
  simp [*]

@[simp] theorem freeCtx_but {fs : List Fld} (s : State) (c : Ctx) (hxslots : Fld.xslots ∈ fs) (hctx : Fld.ctx ∈ fs) :
    (State.freeCtx s c).but fs = s.but fs := by
  unfold State.freeCtx
  simp [*]

@[simp] theorem fenceFlow_but {fs : List Fld} (s : State) (c : Ctx) (b : Blk) (src : Src) (hfab : Fld.fab ∈ fs)
    (hgroups : Fld.groups ∈ fs) (hcells : Fld.cells ∈ fs) (hctx : Fld.ctx ∈ fs) :
    (State.fenceFlow s c b src).but fs = s.but fs := by
  unfold State.fenceFlow
  extract_lets
  (repeat' split) <;> simp +zetaDelta [*]

@[simp] theorem haltGroup_but {fs : List Fld} (s : State) (p : Port) (hfab : Fld.fab ∈ fs)
    (hgroups : Fld.groups ∈ fs) (hcells : Fld.cells ∈ fs) :
    (State.haltGroup s p).but fs = s.but fs := by
  unfold State.haltGroup
  split <;> simp [*]

@[simp] theorem haltSource_but {fs : List Fld} (s : State) (p : Port) (hsrc : Fld.src ∈ fs) (hfdr : Fld.fdr ∈ fs) :
    (State.haltSource s p).but fs = s.but fs := by
  unfold State.haltSource
  split <;> simp [*]

@[simp] theorem haltBattery_but {fs : List Fld} (s : State) (p : Port) (hbat : Fld.bat ∈ fs) :
    (State.haltBattery s p).but fs = s.but fs := by
  unfold State.haltBattery
  (repeat' split) <;> simp [*]

@[simp] theorem haltBranches_but {fs : List Fld} (s : State) (p : Port) (hbranches : Fld.branches ∈ fs) :
    (State.haltBranches s p).but fs = s.but fs := by
  unfold State.haltBranches
  split <;> simp [*]

@[simp] theorem haltPort_but {fs : List Fld} (s : State) (p : Port) (hfab : Fld.fab ∈ fs)
    (hgroups : Fld.groups ∈ fs) (hcells : Fld.cells ∈ fs) (hbranches : Fld.branches ∈ fs) (hsrc : Fld.src ∈ fs)
    (hbat : Fld.bat ∈ fs) (hfdr : Fld.fdr ∈ fs) :
    (State.haltPort s p).but fs = s.but fs := by
  unfold State.haltPort
  simp [*]

@[simp] theorem holdSource_but {fs : List Fld} (s : State) (p : Port) (hsrc : Fld.src ∈ fs) (hfdr : Fld.fdr ∈ fs) :
    (State.holdSource s p).but fs = s.but fs := by
  unfold State.holdSource
  split <;> simp [*]

@[simp] theorem holdBattery_but {fs : List Fld} (s : State) (p : Port) (hbat : Fld.bat ∈ fs) :
    (State.holdBattery s p).but fs = s.but fs := by
  unfold State.holdBattery
  split <;> simp [*]

@[simp] theorem holdPort_but {fs : List Fld} (s : State) (p : Port) (hsrc : Fld.src ∈ fs) (hbat : Fld.bat ∈ fs)
    (hfdr : Fld.fdr ∈ fs) :
    (State.holdPort s p).but fs = s.but fs := by
  unfold State.holdPort
  simp [*]

@[simp] theorem assertHalt_but {fs : List Fld} (s : State) (p : Port) (d : Driver) (hhalt : Fld.halt ∈ fs)
    (hfab : Fld.fab ∈ fs) (hgroups : Fld.groups ∈ fs) (hcells : Fld.cells ∈ fs) (hbranches : Fld.branches ∈ fs)
    (hsrc : Fld.src ∈ fs) (hctx : Fld.ctx ∈ fs) (hbat : Fld.bat ∈ fs) (hfdr : Fld.fdr ∈ fs) (hchg : Fld.chg ∈ fs) :
    (State.assertHalt s p d).but fs = s.but fs := by
  unfold State.assertHalt
  (repeat' split) <;> simp [*]

@[simp] theorem shedBranch_but {fs : List Fld} (s : State) (b : Branch) (hbranches : Fld.branches ∈ fs) :
    (State.shedBranch s b).but fs = s.but fs := by
  unfold State.shedBranch
  simp [*]

@[simp] theorem openBranch_but {fs : List Fld} (s : State) (b : Branch) (hbranches : Fld.branches ∈ fs) :
    (State.openBranch s b).but fs = s.but fs := by
  unfold State.openBranch
  simp [*]

@[simp] theorem openAll_but {fs : List Fld} (s : State) (hbranches : Fld.branches ∈ fs) :
    (State.openAll s).but fs = s.but fs := by
  unfold State.openAll
  repeat' (first | done | intro _ | split | rw [forEach_but] | rw [foldl_but] | simp +zetaDelta [*, but_ite] | extract_lets | (simp only [State.but, *, if_true]; done))

@[simp] theorem stopSupply_but {fs : List Fld} (s : State) (himg : Fld.img ∈ fs) (hculm : Fld.culm ∈ fs)
    (hbranches : Fld.branches ∈ fs) :
    (State.stopSupply s).but fs = s.but fs := by
  unfold State.stopSupply
  simp [*]

@[simp] theorem shedTo250_but {fs : List Fld} (s : State) (l : List Branch) (hdeferred : Fld.deferred ∈ fs)
    (hbranches : Fld.branches ∈ fs) :
    (State.shedTo250 s l).but fs = s.but fs := by
  induction l generalizing s with
  | nil => rfl
  | cons b l ih =>
    unfold State.shedTo250
    split
    · rfl
    · rw [ih]
      simp [*]

@[simp] theorem openUnsettled_but {fs : List Fld} (s : State) (b : Branch) (hbranches : Fld.branches ∈ fs) :
    (State.openUnsettled s b).but fs = s.but fs := by
  unfold State.openUnsettled
  (repeat' split) <;> simp [*]

@[simp] theorem safeLoads_but {fs : List Fld} (s : State) (hdeferred : Fld.deferred ∈ fs) (hculm : Fld.culm ∈ fs)
    (hbranches : Fld.branches ∈ fs) :
    (State.safeLoads s).but fs = s.but fs := by
  unfold State.safeLoads
  repeat' (first | done | intro _ | split | rw [forEach_but] | rw [foldl_but] | simp +zetaDelta [*, but_ite] | extract_lets | (simp only [State.but, *, if_true]; done))

@[simp] theorem safePorts_but {fs : List Fld} (s : State) (hsrc : Fld.src ∈ fs) (hbat : Fld.bat ∈ fs)
    (hfdr : Fld.fdr ∈ fs) :
    (State.safePorts s).but fs = s.but fs := by
  unfold State.safePorts
  repeat' (first | done | intro _ | split | rw [forEach_but] | rw [foldl_but] | simp +zetaDelta [*, but_ite] | extract_lets | (simp only [State.but, *, if_true]; done))

@[simp] theorem safeActivation_but {fs : List Fld} (s : State) (himg : Fld.img ∈ fs) :
    (State.safeActivation s).but fs = s.but fs := by
  unfold State.safeActivation
  (repeat' split) <;> simp [*]

@[simp] theorem enterStubble_but {fs : List Fld} (s : State) (hdom : Fld.dom ∈ fs) (himg : Fld.img ∈ fs)
    (hctx : Fld.ctx ∈ fs) (hthr : Fld.thr ∈ fs) :
    (State.enterStubble s).but fs = s.but fs := by
  unfold State.enterStubble
  split <;> simp [*]

@[simp] theorem unsettle_but {fs : List Fld} (s : State) (v : Nat) (hdeferred : Fld.deferred ∈ fs)
    (hawn : Fld.awn ∈ fs) :
    (State.unsettle s v).but fs = s.but fs := by
  unfold State.unsettle
  split <;> simp [*]

@[simp] theorem assertSafe_but {fs : List Fld} (s : State) (d : Driver) (hdeferred : Fld.deferred ∈ fs)
    (hsafeLine : Fld.safeLine ∈ fs) (hdom : Fld.dom ∈ fs) (himg : Fld.img ∈ fs) (hfab : Fld.fab ∈ fs)
    (hgroups : Fld.groups ∈ fs) (hcells : Fld.cells ∈ fs) (hculm : Fld.culm ∈ fs) (hbranches : Fld.branches ∈ fs)
    (hsrc : Fld.src ∈ fs) (hctx : Fld.ctx ∈ fs) (hbat : Fld.bat ∈ fs) (hfdr : Fld.fdr ∈ fs) (hchg : Fld.chg ∈ fs)
    (hthr : Fld.thr ∈ fs) (hawn : Fld.awn ∈ fs) :
    (State.assertSafe s d).but fs = s.but fs := by
  unfold State.assertSafe
  extract_lets
  (repeat' split) <;> simp +zetaDelta [*]

@[simp] theorem freeAll_but {fs : List Fld} (s : State) (hxslots : Fld.xslots ∈ fs) (hctx : Fld.ctx ∈ fs) :
    (State.freeAll s).but fs = s.but fs := by
  unfold State.freeAll
  simp [*]

@[simp] theorem loseLines_but {fs : List Fld} (s : State) (dom : Nat) (d : Driver) (hdeferred : Fld.deferred ∈ fs)
    (hsafeLine : Fld.safeLine ∈ fs) (hhalt : Fld.halt ∈ fs) (hxslots : Fld.xslots ∈ fs) (hdom : Fld.dom ∈ fs)
    (himg : Fld.img ∈ fs) (hfab : Fld.fab ∈ fs) (hgroups : Fld.groups ∈ fs) (hcells : Fld.cells ∈ fs)
    (hculm : Fld.culm ∈ fs) (hbranches : Fld.branches ∈ fs) (hsrc : Fld.src ∈ fs) (hctx : Fld.ctx ∈ fs)
    (hbat : Fld.bat ∈ fs) (hfdr : Fld.fdr ∈ fs) (hchg : Fld.chg ∈ fs) (hthr : Fld.thr ∈ fs) (hawn : Fld.awn ∈ fs) :
    (State.loseLines s dom d).but fs = s.but fs := by
  unfold State.loseLines
  split <;> simp [*]

@[simp] theorem shutdown_but {fs : List Fld} (s : State) (hdeferred : Fld.deferred ∈ fs)
    (hsafeLine : Fld.safeLine ∈ fs) (hdom : Fld.dom ∈ fs) (himg : Fld.img ∈ fs) (hfab : Fld.fab ∈ fs)
    (hgroups : Fld.groups ∈ fs) (hcells : Fld.cells ∈ fs) (hculm : Fld.culm ∈ fs) (hbranches : Fld.branches ∈ fs)
    (hsrc : Fld.src ∈ fs) (hctx : Fld.ctx ∈ fs) (hbat : Fld.bat ∈ fs) (hfdr : Fld.fdr ∈ fs) (hchg : Fld.chg ∈ fs)
    (hthm : Fld.thm ∈ fs) (hthr : Fld.thr ∈ fs) (hawn : Fld.awn ∈ fs) :
    (State.shutdown s).but fs = s.but fs := by
  unfold State.shutdown
  split <;> simp [*]

@[simp] theorem failSensor_but {fs : List Fld} (s : State) (k : Sensor) (cause : Nat) (count : optParam Bool true)
    (hdeferred : Fld.deferred ∈ fs) (hthm : Fld.thm ∈ fs) :
    (State.failSensor s k cause count).but fs = s.but fs := by
  unfold State.failSensor
  repeat' (first | done | intro _ | split | rw [forEach_but] | rw [foldl_but] | simp +zetaDelta [*, but_ite] | extract_lets | (simp only [State.but, *, if_true]; done))

@[simp] theorem failChannel_but {fs : List Fld} (s : State) (n : Nat) (hdeferred : Fld.deferred ∈ fs)
    (hfab : Fld.fab ∈ fs) (hgroups : Fld.groups ∈ fs) (hcells : Fld.cells ∈ fs) (hthm : Fld.thm ∈ fs)
    (hsense : Fld.sense ∈ fs) :
    (State.failChannel s n).but fs = s.but fs := by
  unfold State.failChannel
  (repeat' split) <;> simp [*]

@[simp] theorem degradeSense_but {fs : List Fld} (s : State) (src : Src) (n : Nat) (hfab : Fld.fab ∈ fs)
    (hgroups : Fld.groups ∈ fs) (hcells : Fld.cells ∈ fs) (hctx : Fld.ctx ∈ fs) (hchg : Fld.chg ∈ fs) :
    (State.degradeSense s src n).but fs = s.but fs := by
  unfold State.degradeSense
  (repeat' split) <;> simp [*]

@[simp] theorem clearHolds_but {fs : List Fld} (s : State) (b : Blk) (v : BitVec 8) (hest : Fld.est ∈ fs)
    (hsense : Fld.sense ∈ fs) :
    (State.clearHolds s b v).but fs = s.but fs := by
  unfold State.clearHolds
  (repeat' split) <;> simp [*]

@[simp] theorem warn_but {fs : List Fld} (s : State) (b : Blk) (hflt : Fld.flt ∈ fs) :
    (State.warn s b).but fs = s.but fs := by
  unfold State.warn
  repeat' (first | done | intro _ | split | rw [forEach_but] | rw [foldl_but] | simp +zetaDelta [*, but_ite] | extract_lets | (simp only [State.but, *, if_true]; done))

@[simp] theorem endWarn_but {fs : List Fld} (s : State) (hflt : Fld.flt ∈ fs) :
    (State.endWarn s).but fs = s.but fs := by
  unfold State.endWarn
  repeat' (first | done | intro _ | split | rw [forEach_but] | rw [foldl_but] | simp +zetaDelta [*, but_ite] | extract_lets | (simp only [State.but, *, if_true]; done))

@[simp] theorem stage_but {fs : List Fld} (s : State) (sec : Nat) (usec : Nat) (r : Report)
    (hdeferred : Fld.deferred ∈ fs) (hret : Fld.ret ∈ fs) :
    (State.stage s sec usec r).but fs = s.but fs := by
  unfold State.stage
  repeat' (first | done | intro _ | split | rw [forEach_but] | rw [foldl_but] | simp +zetaDelta [*, but_ite] | extract_lets | (simp only [State.but, *, if_true]; done))

@[simp] theorem stageLost_but {fs : List Fld} (s : State) (hdeferred : Fld.deferred ∈ fs) (hret : Fld.ret ∈ fs) :
    (State.stageLost s).but fs = s.but fs := by
  unfold State.stageLost
  extract_lets
  (repeat' split) <;> simp +zetaDelta [*]

@[simp] theorem closeGroup_but {fs : List Fld} (s : State) (hdeferred : Fld.deferred ∈ fs) (hlog : Fld.log ∈ fs)
    (hret : Fld.ret ∈ fs) :
    (State.closeGroup s).but fs = s.but fs := by
  unfold State.closeGroup
  split <;> simp [*]

@[simp] theorem arrive_but {fs : List Fld} (s : State) (r : Report) (hdeferred : Fld.deferred ∈ fs)
    (hlog : Fld.log ∈ fs) (hret : Fld.ret ∈ fs) :
    (State.arrive s r).but fs = s.but fs := by
  unfold State.arrive
  extract_lets
  (repeat' split) <;> simp +zetaDelta [*]

@[simp] theorem report_but {fs : List Fld} (s : State) (b : Blk) (src : Src) (kind : Kind) (forced : Bool)
    (idx : Nat) (hdeferred : Fld.deferred ∈ fs) (hx3 : Fld.x3 ∈ fs) (hxing : Fld.xing ∈ fs) (hlog : Fld.log ∈ fs)
    (hret : Fld.ret ∈ fs) :
    (State.report s b src kind forced idx).but fs = s.but fs := by
  unfold State.report
  repeat' (first | done | intro _ | split | rw [forEach_but] | rw [foldl_but] | simp +zetaDelta [*, but_ite] | extract_lets | (simp only [State.but, *, if_true]; done))

@[simp] theorem degrade_but {fs : List Fld} (s : State) (b : Blk) (src : Src) (obj : Nat) (hfab : Fld.fab ∈ fs)
    (hgroups : Fld.groups ∈ fs) (hcells : Fld.cells ∈ fs) (hbranches : Fld.branches ∈ fs) (hctx : Fld.ctx ∈ fs)
    (hchg : Fld.chg ∈ fs) (hest : Fld.est ∈ fs) :
    (State.degrade s b src obj).but fs = s.but fs := by
  unfold State.degrade
  (repeat' split) <;> simp [*]

@[simp] theorem reactLines_but {fs : List Fld} (s : State) (b : Blk) (src : Src) (obj : Nat)
    (hdeferred : Fld.deferred ∈ fs) (hsafeLine : Fld.safeLine ∈ fs) (hhalt : Fld.halt ∈ fs) (hdom : Fld.dom ∈ fs)
    (himg : Fld.img ∈ fs) (hfab : Fld.fab ∈ fs) (hgroups : Fld.groups ∈ fs) (hcells : Fld.cells ∈ fs)
    (hculm : Fld.culm ∈ fs) (hbranches : Fld.branches ∈ fs) (hsrc : Fld.src ∈ fs) (hctx : Fld.ctx ∈ fs)
    (hbat : Fld.bat ∈ fs) (hfdr : Fld.fdr ∈ fs) (hchg : Fld.chg ∈ fs) (hthr : Fld.thr ∈ fs) (hawn : Fld.awn ∈ fs) :
    (State.reactLines s b src obj).but fs = s.but fs := by
  unfold State.reactLines
  repeat' (first | done | intro _ | split | rw [forEach_but] | rw [foldl_but] | simp +zetaDelta [*, but_ite] | extract_lets | (simp only [State.but, *, if_true]; done))

@[simp] theorem react_but {fs : List Fld} (s : State) (b : Blk) (src : Src) (obj : Nat)
    (hdeferred : Fld.deferred ∈ fs) (hflt : Fld.flt ∈ fs) (hsafeLine : Fld.safeLine ∈ fs) (hhalt : Fld.halt ∈ fs)
    (hdom : Fld.dom ∈ fs) (himg : Fld.img ∈ fs) (hfab : Fld.fab ∈ fs) (hgroups : Fld.groups ∈ fs)
    (hcells : Fld.cells ∈ fs) (hculm : Fld.culm ∈ fs) (hbranches : Fld.branches ∈ fs) (hsrc : Fld.src ∈ fs)
    (hctx : Fld.ctx ∈ fs) (hbat : Fld.bat ∈ fs) (hfdr : Fld.fdr ∈ fs) (hchg : Fld.chg ∈ fs) (hest : Fld.est ∈ fs)
    (hthr : Fld.thr ∈ fs) (hawn : Fld.awn ∈ fs) :
    (State.react s b src obj).but fs = s.but fs := by
  unfold State.react
  extract_lets
  (repeat' split) <;> simp +zetaDelta [*]

@[simp] theorem retryLost_but {fs : List Fld} (s : State) (b : Blk) (src : Src) (obj : Nat) (hsrc : Fld.src ∈ fs) :
    (State.retryLost s b src obj).but fs = s.but fs := by
  unfold State.retryLost
  (repeat' split) <;> simp [*]

@[simp] theorem markLive_but {fs : List Fld} (s₀ : State) (b : Blk) (src : Src) (obj : Nat) (stays : Bool)
    (hflt : Fld.flt ∈ fs) :
    (State.markLive s₀ b src obj stays).but fs = s₀.but fs := by
  unfold State.markLive
  simp [*]

@[simp] theorem latch_but {fs : List Fld} (s : State) (b : Blk) (src : Src) (hflt : Fld.flt ∈ fs) :
    (State.latch s b src).but fs = s.but fs := by
  unfold State.latch
  simp [*]

@[simp] theorem beginRetry_but {fs : List Fld} (s : State) (b : Blk) (src : Src) (obj : Nat) (hflt : Fld.flt ∈ fs) :
    (State.beginRetry s b src obj).but fs = s.but fs := by
  unfold State.beginRetry
  repeat' (first | done | intro _ | split | rw [forEach_but] | rw [foldl_but] | simp +zetaDelta [*, but_ite] | extract_lets | (simp only [State.but, *, if_true]; done))

@[simp] theorem occurred_but {fs : List Fld} (s : State) (b : Blk) (src : Src) (obj : Nat)
    (hdeferred : Fld.deferred ∈ fs) (hflt : Fld.flt ∈ fs) (hsafeLine : Fld.safeLine ∈ fs) (hhalt : Fld.halt ∈ fs)
    (hx3 : Fld.x3 ∈ fs) (hxing : Fld.xing ∈ fs) (hlog : Fld.log ∈ fs) (hret : Fld.ret ∈ fs) (hdom : Fld.dom ∈ fs)
    (himg : Fld.img ∈ fs) (hfab : Fld.fab ∈ fs) (hgroups : Fld.groups ∈ fs) (hcells : Fld.cells ∈ fs)
    (hculm : Fld.culm ∈ fs) (hbranches : Fld.branches ∈ fs) (hsrc : Fld.src ∈ fs) (hctx : Fld.ctx ∈ fs)
    (hbat : Fld.bat ∈ fs) (hfdr : Fld.fdr ∈ fs) (hchg : Fld.chg ∈ fs) (hest : Fld.est ∈ fs) (hthr : Fld.thr ∈ fs)
    (hawn : Fld.awn ∈ fs) :
    (State.occurred s b src obj).but fs = s.but fs := by
  unfold State.occurred
  extract_lets
  (repeat' split) <;> simp +zetaDelta [*]

@[simp] theorem occur_but {fs : List Fld} (s : State) (b : Blk) (src : Src) (obj : Nat) (stays : Bool)
    (hdeferred : Fld.deferred ∈ fs) (hflt : Fld.flt ∈ fs) (hsafeLine : Fld.safeLine ∈ fs) (hhalt : Fld.halt ∈ fs)
    (hx3 : Fld.x3 ∈ fs) (hxing : Fld.xing ∈ fs) (hlog : Fld.log ∈ fs) (hret : Fld.ret ∈ fs) (hdom : Fld.dom ∈ fs)
    (himg : Fld.img ∈ fs) (hfab : Fld.fab ∈ fs) (hgroups : Fld.groups ∈ fs) (hcells : Fld.cells ∈ fs)
    (hculm : Fld.culm ∈ fs) (hbranches : Fld.branches ∈ fs) (hsrc : Fld.src ∈ fs) (hctx : Fld.ctx ∈ fs)
    (hbat : Fld.bat ∈ fs) (hfdr : Fld.fdr ∈ fs) (hchg : Fld.chg ∈ fs) (hest : Fld.est ∈ fs) (hthr : Fld.thr ∈ fs)
    (hawn : Fld.awn ∈ fs) :
    (State.occur s b src obj stays).but fs = s.but fs := by
  unfold State.occur
  extract_lets
  (repeat' split) <;> simp +zetaDelta [*]

@[simp] theorem occurHard_but {fs : List Fld} (s : State) (b : Blk) (src : Src) (obj : Nat)
    (stays : optParam Bool true) (hdeferred : Fld.deferred ∈ fs) (hflt : Fld.flt ∈ fs)
    (hsafeLine : Fld.safeLine ∈ fs) (hhalt : Fld.halt ∈ fs) (hx3 : Fld.x3 ∈ fs) (hxing : Fld.xing ∈ fs)
    (hlog : Fld.log ∈ fs) (hret : Fld.ret ∈ fs) (hdom : Fld.dom ∈ fs) (himg : Fld.img ∈ fs) (hfab : Fld.fab ∈ fs)
    (hgroups : Fld.groups ∈ fs) (hcells : Fld.cells ∈ fs) (hculm : Fld.culm ∈ fs) (hbranches : Fld.branches ∈ fs)
    (hsrc : Fld.src ∈ fs) (hctx : Fld.ctx ∈ fs) (hbat : Fld.bat ∈ fs) (hfdr : Fld.fdr ∈ fs) (hchg : Fld.chg ∈ fs)
    (hest : Fld.est ∈ fs) (hthr : Fld.thr ∈ fs) (hawn : Fld.awn ∈ fs) :
    (State.occurHard s b src obj stays).but fs = s.but fs := by
  unfold State.occurHard
  extract_lets
  (repeat' split) <;> simp +zetaDelta [*]

@[simp] theorem endCause_but {fs : List Fld} (s : State) (b : Blk) (src : Src) (obj : Nat) (hflt : Fld.flt ∈ fs) :
    (State.endCause s b src obj).but fs = s.but fs := by
  unfold State.endCause
  simp [*]

@[simp] theorem releaseLines_but {fs : List Fld} (s : State) (b : Blk) (hsafeLine : Fld.safeLine ∈ fs)
    (hhalt : Fld.halt ∈ fs) :
    (State.releaseLines s b).but fs = s.but fs := by
  unfold State.releaseLines
  simp [*]

@[simp] theorem forcedReport_but {fs : List Fld} (s : State) (b : Blk) (src : Src) (obj : Nat)
    (hdeferred : Fld.deferred ∈ fs) (hflt : Fld.flt ∈ fs) (hx3 : Fld.x3 ∈ fs) (hxing : Fld.xing ∈ fs)
    (hlog : Fld.log ∈ fs) (hret : Fld.ret ∈ fs) (hsrc : Fld.src ∈ fs) :
    (State.forcedReport s b src obj).but fs = s.but fs := by
  unfold State.forcedReport
  extract_lets
  (repeat' split) <;> simp +zetaDelta [*]

@[simp] theorem unconverge_but {fs : List Fld} (s : State) (b : Blk) (src : Src) (obj : Nat) (hest : Fld.est ∈ fs) :
    (State.unconverge s b src obj).but fs = s.but fs := by
  unfold State.unconverge
  (repeat' split) <;> simp [*]

theorem forcedSpecial_but {fs : List Fld} {s t : State} {b : Blk} {src : Src} {obj : Nat}
    (h : s.forcedSpecial b src obj = some t) (hdeferred : Fld.deferred ∈ fs) (hsafeLine : Fld.safeLine ∈ fs)
    (hdom : Fld.dom ∈ fs) (himg : Fld.img ∈ fs) (hfab : Fld.fab ∈ fs) (hgroups : Fld.groups ∈ fs)
    (hcells : Fld.cells ∈ fs) (hculm : Fld.culm ∈ fs) (hbranches : Fld.branches ∈ fs) (hsrc : Fld.src ∈ fs)
    (hctx : Fld.ctx ∈ fs) (hbat : Fld.bat ∈ fs) (hfdr : Fld.fdr ∈ fs) (hchg : Fld.chg ∈ fs) (hthm : Fld.thm ∈ fs)
    (hthr : Fld.thr ∈ fs) (hawn : Fld.awn ∈ fs) :
    t.but fs = s.but fs := by
  unfold State.forcedSpecial at h
  repeat' (split at h)
  all_goals (cases h <;> simp [*])

@[simp] theorem forced_but {fs : List Fld} (s : State) (b : Blk) (src : Src) (obj : Nat)
    (hdeferred : Fld.deferred ∈ fs) (hflt : Fld.flt ∈ fs) (hsafeLine : Fld.safeLine ∈ fs) (hhalt : Fld.halt ∈ fs)
    (hx3 : Fld.x3 ∈ fs) (hxing : Fld.xing ∈ fs) (hlog : Fld.log ∈ fs) (hret : Fld.ret ∈ fs) (hdom : Fld.dom ∈ fs)
    (himg : Fld.img ∈ fs) (hfab : Fld.fab ∈ fs) (hgroups : Fld.groups ∈ fs) (hcells : Fld.cells ∈ fs)
    (hculm : Fld.culm ∈ fs) (hbranches : Fld.branches ∈ fs) (hsrc : Fld.src ∈ fs) (hctx : Fld.ctx ∈ fs)
    (hbat : Fld.bat ∈ fs) (hfdr : Fld.fdr ∈ fs) (hchg : Fld.chg ∈ fs) (hest : Fld.est ∈ fs) (hthm : Fld.thm ∈ fs)
    (hthr : Fld.thr ∈ fs) (hsense : Fld.sense ∈ fs) (hawn : Fld.awn ∈ fs) :
    (State.forced s b src obj).but fs = s.but fs := by
  unfold State.forced
  repeat' (first | done | split | simp +zetaDelta [*, but_ite] | extract_lets | (rename_i h; rw [forcedSpecial_but h] <;> simp [*]))

@[simp] theorem dropRetry_but {fs : List Fld} (s : State) (b : Blk) (src : Src) (obj : Nat) (hflt : Fld.flt ∈ fs) :
    (State.dropRetry s b src obj).but fs = s.but fs := by
  unfold State.dropRetry
  simp [*]

@[simp] theorem retryOutcome_but {fs : List Fld} (s : State) (b : Blk) (src : Src) (obj : Nat) (ok : Bool)
    (hdeferred : Fld.deferred ∈ fs) (hflt : Fld.flt ∈ fs) (hsafeLine : Fld.safeLine ∈ fs) (hhalt : Fld.halt ∈ fs)
    (hx3 : Fld.x3 ∈ fs) (hxing : Fld.xing ∈ fs) (hlog : Fld.log ∈ fs) (hret : Fld.ret ∈ fs) (hdom : Fld.dom ∈ fs)
    (himg : Fld.img ∈ fs) (hfab : Fld.fab ∈ fs) (hgroups : Fld.groups ∈ fs) (hcells : Fld.cells ∈ fs)
    (hculm : Fld.culm ∈ fs) (hbranches : Fld.branches ∈ fs) (hsrc : Fld.src ∈ fs) (hctx : Fld.ctx ∈ fs)
    (hbat : Fld.bat ∈ fs) (hfdr : Fld.fdr ∈ fs) (hchg : Fld.chg ∈ fs) (hest : Fld.est ∈ fs) (hthr : Fld.thr ∈ fs)
    (hawn : Fld.awn ∈ fs) :
    (State.retryOutcome s b src obj ok).but fs = s.but fs := by
  unfold State.retryOutcome
  (repeat' split) <;> simp [*]

@[simp] theorem cancelRetry_but {fs : List Fld} (s : State) (b : Blk) (src : Src) (obj : Nat)
    (hdeferred : Fld.deferred ∈ fs) (hflt : Fld.flt ∈ fs) (hx3 : Fld.x3 ∈ fs) (hxing : Fld.xing ∈ fs)
    (hlog : Fld.log ∈ fs) (hret : Fld.ret ∈ fs) :
    (State.cancelRetry s b src obj).but fs = s.but fs := by
  unfold State.cancelRetry
  split <;> simp [*]

@[simp] theorem accessError_but {fs : List Fld} (s : State) (cause : Nat) (r : Req) (addr : Nat)
    (hsys : Fld.sys ∈ fs) :
    (State.accessError s cause r addr).but fs = s.but fs := by
  unfold State.accessError
  simp [*]

@[simp] theorem carry_but {fs : List Fld} (s : State) (addr : Nat) (v : Word) (hdeferred : Fld.deferred ∈ fs) :
    (State.carry s addr v).but fs = s.but fs := by
  unfold State.carry
  simp [*]

@[simp] theorem carryFault_but {fs : List Fld} (s : State) (b : Blk) (addr : Nat) (v : Word)
    (hdeferred : Fld.deferred ∈ fs) :
    (State.carryFault s b addr v).but fs = s.but fs := by
  unfold State.carryFault
  split <;> simp [*]

@[simp] theorem dropReports_but {fs : List Fld} (s : State) (hdeferred : Fld.deferred ∈ fs) (hx3 : Fld.x3 ∈ fs)
    (hret : Fld.ret ∈ fs) :
    (State.dropReports s).but fs = s.but fs := by
  unfold State.dropReports
  simp [*]

@[simp] theorem newTags_but {fs : List Fld} (s : State) (hawn : Fld.awn ∈ fs) :
    (State.newTags s).but fs = s.but fs := by
  unfold State.newTags
  simp [*]

@[simp] theorem newSeqs_but {fs : List Fld} (s : State) (hring : Fld.ring ∈ fs) :
    (State.newSeqs s).but fs = s.but fs := by
  unfold State.newSeqs
  simp [*]

@[simp] theorem emptySlots_but {fs : List Fld} (s : State) (x : Xing) (coreSide : Bool) (restartOnly : Bool)
    (hxing : Fld.xing ∈ fs) (hxslots : Fld.xslots ∈ fs) :
    (State.emptySlots s x coreSide restartOnly).but fs = s.but fs := by
  unfold State.emptySlots
  repeat' (first | done | intro _ | split | rw [forEach_but] | rw [foldl_but] | simp +zetaDelta [*, but_ite] | extract_lets | (simp only [State.but, *, if_true]; done))

@[simp] theorem emptyXing_but {fs : List Fld} (s : State) (x : Xing) (coreSide : Bool) (restartOnly : Bool)
    (hdeferred : Fld.deferred ∈ fs) (hflt : Fld.flt ∈ fs) (hsafeLine : Fld.safeLine ∈ fs) (hhalt : Fld.halt ∈ fs)
    (hx3 : Fld.x3 ∈ fs) (hxing : Fld.xing ∈ fs) (hxslots : Fld.xslots ∈ fs) (hlog : Fld.log ∈ fs)
    (hret : Fld.ret ∈ fs) (hdom : Fld.dom ∈ fs) (himg : Fld.img ∈ fs) (hfab : Fld.fab ∈ fs)
    (hgroups : Fld.groups ∈ fs) (hcells : Fld.cells ∈ fs) (hculm : Fld.culm ∈ fs) (hbranches : Fld.branches ∈ fs)
    (hsrc : Fld.src ∈ fs) (hctx : Fld.ctx ∈ fs) (hbat : Fld.bat ∈ fs) (hfdr : Fld.fdr ∈ fs) (hchg : Fld.chg ∈ fs)
    (hest : Fld.est ∈ fs) (hthr : Fld.thr ∈ fs) (hawn : Fld.awn ∈ fs) (hring : Fld.ring ∈ fs) :
    (State.emptyXing s x coreSide restartOnly).but fs = s.but fs := by
  unfold State.emptyXing
  (repeat' split) <;> simp [*]

@[simp] theorem loseDomain_but {fs : List Fld} (s : State) (dom : Nat) (d : Driver)
    (hdeferred : Fld.deferred ∈ fs) (hflt : Fld.flt ∈ fs) (hsafeLine : Fld.safeLine ∈ fs) (hhalt : Fld.halt ∈ fs)
    (hx3 : Fld.x3 ∈ fs) (hxing : Fld.xing ∈ fs) (hxslots : Fld.xslots ∈ fs) (hlog : Fld.log ∈ fs)
    (hret : Fld.ret ∈ fs) (hdom : Fld.dom ∈ fs) (himg : Fld.img ∈ fs) (hfab : Fld.fab ∈ fs)
    (hgroups : Fld.groups ∈ fs) (hcells : Fld.cells ∈ fs) (hculm : Fld.culm ∈ fs) (hbranches : Fld.branches ∈ fs)
    (hsrc : Fld.src ∈ fs) (hctx : Fld.ctx ∈ fs) (hbat : Fld.bat ∈ fs) (hfdr : Fld.fdr ∈ fs) (hchg : Fld.chg ∈ fs)
    (hest : Fld.est ∈ fs) (hthr : Fld.thr ∈ fs) (hawn : Fld.awn ∈ fs) (hring : Fld.ring ∈ fs) :
    (State.loseDomain s dom d).but fs = s.but fs := by
  unfold State.loseDomain
  (repeat' split) <;> simp [*]

@[simp] theorem countEcc_but {fs : List Fld} (s : State) (b : Blk) (src : Src) (hnvs : Fld.nvs ∈ fs) :
    (State.countEcc s b src).but fs = s.but fs := by
  unfold State.countEcc
  repeat' (first | done | intro _ | split | rw [forEach_but] | rw [foldl_but] | simp +zetaDelta [*, but_ite] | extract_lets | (simp only [State.but, *, if_true]; done))

@[simp] theorem dropGrace_but {fs : List Fld} (s : State) (b : Blk) (p : Grace → Bool) (hflt : Fld.flt ∈ fs) :
    (State.dropGrace s b p).but fs = s.but fs := by
  unfold State.dropGrace
  simp [*]

@[simp] theorem failedRepeat_but {fs : List Fld} (s : State) (b : Blk) (src : Src) (obj : Nat) (ok : Bool)
    (hdeferred : Fld.deferred ∈ fs) (hflt : Fld.flt ∈ fs) (hsafeLine : Fld.safeLine ∈ fs) (hhalt : Fld.halt ∈ fs)
    (hx3 : Fld.x3 ∈ fs) (hxing : Fld.xing ∈ fs) (hlog : Fld.log ∈ fs) (hret : Fld.ret ∈ fs) (hdom : Fld.dom ∈ fs)
    (himg : Fld.img ∈ fs) (hfab : Fld.fab ∈ fs) (hgroups : Fld.groups ∈ fs) (hcells : Fld.cells ∈ fs)
    (hculm : Fld.culm ∈ fs) (hbranches : Fld.branches ∈ fs) (hsrc : Fld.src ∈ fs) (hctx : Fld.ctx ∈ fs)
    (hbat : Fld.bat ∈ fs) (hfdr : Fld.fdr ∈ fs) (hchg : Fld.chg ∈ fs) (hest : Fld.est ∈ fs) (hthm : Fld.thm ∈ fs)
    (hthr : Fld.thr ∈ fs) (hsense : Fld.sense ∈ fs) (hawn : Fld.awn ∈ fs) :
    (State.failedRepeat s b src obj ok).but fs = s.but fs := by
  unfold State.failedRepeat
  split <;> simp [*]

@[simp] theorem restartTripped_but {fs : List Fld} (s : State) (n : Nat) (hcells : Fld.cells ∈ fs) :
    (State.restartTripped s n).but fs = s.but fs := by
  unfold State.restartTripped
  (repeat' split) <;> simp [*]

@[simp] theorem repeatAction_but {fs : List Fld} (s : State) (b : Blk) (src : Src) (obj : Nat) (ok : Bool)
    (hdeferred : Fld.deferred ∈ fs) (hflt : Fld.flt ∈ fs) (hsafeLine : Fld.safeLine ∈ fs) (hhalt : Fld.halt ∈ fs)
    (hx3 : Fld.x3 ∈ fs) (hxing : Fld.xing ∈ fs) (hlog : Fld.log ∈ fs) (hret : Fld.ret ∈ fs) (hdom : Fld.dom ∈ fs)
    (himg : Fld.img ∈ fs) (hfab : Fld.fab ∈ fs) (hgroups : Fld.groups ∈ fs) (hcells : Fld.cells ∈ fs)
    (hculm : Fld.culm ∈ fs) (hbranches : Fld.branches ∈ fs) (hsrc : Fld.src ∈ fs) (hctx : Fld.ctx ∈ fs)
    (hbat : Fld.bat ∈ fs) (hfdr : Fld.fdr ∈ fs) (hchg : Fld.chg ∈ fs) (hest : Fld.est ∈ fs) (hthm : Fld.thm ∈ fs)
    (hthr : Fld.thr ∈ fs) (hsense : Fld.sense ∈ fs) (hawn : Fld.awn ∈ fs) :
    (State.repeatAction s b src obj ok).but fs = s.but fs := by
  unfold State.repeatAction
  split <;> simp [*]

@[simp] theorem afterClear_but {fs : List Fld} (s : State) (b : Blk) (cleared : BitVec 8) (hflt : Fld.flt ∈ fs)
    (hsafeLine : Fld.safeLine ∈ fs) (hhalt : Fld.halt ∈ fs) (hest : Fld.est ∈ fs) (hsense : Fld.sense ∈ fs) :
    (State.afterClear s b cleared).but fs = s.but fs := by
  unfold State.afterClear
  simp [*]

@[simp] theorem w1c_but {fs : List Fld} (s : State) (b : Blk) (v : Word) (hdeferred : Fld.deferred ∈ fs)
    (hflt : Fld.flt ∈ fs) (hsafeLine : Fld.safeLine ∈ fs) (hhalt : Fld.halt ∈ fs) (hest : Fld.est ∈ fs)
    (hsense : Fld.sense ∈ fs) :
    (State.w1c s b v).but fs = s.but fs := by
  unfold State.w1c
  extract_lets
  (repeat' split) <;> simp +zetaDelta [*]

@[simp] theorem force_but {fs : List Fld} (s : State) (b : Blk) (v : Word) (hdeferred : Fld.deferred ∈ fs)
    (hflt : Fld.flt ∈ fs) (hsafeLine : Fld.safeLine ∈ fs) (hhalt : Fld.halt ∈ fs) (hx3 : Fld.x3 ∈ fs)
    (hxing : Fld.xing ∈ fs) (hlog : Fld.log ∈ fs) (hret : Fld.ret ∈ fs) (hdom : Fld.dom ∈ fs)
    (himg : Fld.img ∈ fs) (hfab : Fld.fab ∈ fs) (hgroups : Fld.groups ∈ fs) (hcells : Fld.cells ∈ fs)
    (hculm : Fld.culm ∈ fs) (hbranches : Fld.branches ∈ fs) (hsrc : Fld.src ∈ fs) (hctx : Fld.ctx ∈ fs)
    (hbat : Fld.bat ∈ fs) (hfdr : Fld.fdr ∈ fs) (hchg : Fld.chg ∈ fs) (hest : Fld.est ∈ fs) (hthm : Fld.thm ∈ fs)
    (hthr : Fld.thr ∈ fs) (hsense : Fld.sense ∈ fs) (hawn : Fld.awn ∈ fs) :
    (State.force s b v).but fs = s.but fs := by
  unfold State.force
  repeat' (first | done | intro _ | split | rw [forEach_but] | rw [foldl_but] | simp +zetaDelta [*, but_ite] | extract_lets | (simp only [State.but, *, if_true]; done))

@[simp] theorem applySeverity_but {fs : List Fld} (s₀ : State) (b : Blk) (hdeferred : Fld.deferred ∈ fs)
    (hflt : Fld.flt ∈ fs) (hsafeLine : Fld.safeLine ∈ fs) (hhalt : Fld.halt ∈ fs) (hdom : Fld.dom ∈ fs)
    (himg : Fld.img ∈ fs) (hfab : Fld.fab ∈ fs) (hgroups : Fld.groups ∈ fs) (hcells : Fld.cells ∈ fs)
    (hculm : Fld.culm ∈ fs) (hbranches : Fld.branches ∈ fs) (hsrc : Fld.src ∈ fs) (hctx : Fld.ctx ∈ fs)
    (hbat : Fld.bat ∈ fs) (hfdr : Fld.fdr ∈ fs) (hchg : Fld.chg ∈ fs) (hthr : Fld.thr ∈ fs) (hawn : Fld.awn ∈ fs) :
    (State.applySeverity s₀ b).but fs = s₀.but fs := by
  unfold State.applySeverity
  repeat' (first | done | intro _ | split | rw [forEach_but] | rw [foldl_but] | simp +zetaDelta [*, but_ite] | extract_lets | (simp only [State.but, *, if_true]; done))

@[simp] theorem writeSev_but {fs : List Fld} (s : State) (b : Blk) (v : Word) (hdeferred : Fld.deferred ∈ fs)
    (hflt : Fld.flt ∈ fs) (hsafeLine : Fld.safeLine ∈ fs) (hhalt : Fld.halt ∈ fs) (hrw : Fld.rw ∈ fs)
    (hdom : Fld.dom ∈ fs) (himg : Fld.img ∈ fs) (hfab : Fld.fab ∈ fs) (hgroups : Fld.groups ∈ fs)
    (hcells : Fld.cells ∈ fs) (hculm : Fld.culm ∈ fs) (hbranches : Fld.branches ∈ fs) (hsrc : Fld.src ∈ fs)
    (hctx : Fld.ctx ∈ fs) (hbat : Fld.bat ∈ fs) (hfdr : Fld.fdr ∈ fs) (hchg : Fld.chg ∈ fs) (hthr : Fld.thr ∈ fs)
    (hawn : Fld.awn ∈ fs) :
    (State.writeSev s b v).but fs = s.but fs := by
  unfold State.writeSev
  simp [*]

@[simp] theorem writeMask_but {fs : List Fld} (s : State) (b : Blk) (v : Word) (hdeferred : Fld.deferred ∈ fs)
    (hflt : Fld.flt ∈ fs) (hsafeLine : Fld.safeLine ∈ fs) (hhalt : Fld.halt ∈ fs) (hx3 : Fld.x3 ∈ fs)
    (hxing : Fld.xing ∈ fs) (hrw : Fld.rw ∈ fs) (hlog : Fld.log ∈ fs) (hret : Fld.ret ∈ fs) (hdom : Fld.dom ∈ fs)
    (himg : Fld.img ∈ fs) (hfab : Fld.fab ∈ fs) (hgroups : Fld.groups ∈ fs) (hcells : Fld.cells ∈ fs)
    (hculm : Fld.culm ∈ fs) (hbranches : Fld.branches ∈ fs) (hsrc : Fld.src ∈ fs) (hctx : Fld.ctx ∈ fs)
    (hbat : Fld.bat ∈ fs) (hfdr : Fld.fdr ∈ fs) (hchg : Fld.chg ∈ fs) (hest : Fld.est ∈ fs) (hthr : Fld.thr ∈ fs)
    (hawn : Fld.awn ∈ fs) :
    (State.writeMask s b v).but fs = s.but fs := by
  unfold State.writeMask
  repeat' (first | done | intro _ | split | rw [forEach_but] | rw [foldl_but] | simp +zetaDelta [*, but_ite] | extract_lets | (simp only [State.but, *, if_true]; done))

@[simp] theorem writeFault_but {fs : List Fld} (s : State) (b : Blk) (off : Nat) (v : Word)
    (hdeferred : Fld.deferred ∈ fs) (hflt : Fld.flt ∈ fs) (hsafeLine : Fld.safeLine ∈ fs) (hhalt : Fld.halt ∈ fs)
    (hx3 : Fld.x3 ∈ fs) (hxing : Fld.xing ∈ fs) (hrw : Fld.rw ∈ fs) (hlog : Fld.log ∈ fs) (hret : Fld.ret ∈ fs)
    (hdom : Fld.dom ∈ fs) (himg : Fld.img ∈ fs) (hfab : Fld.fab ∈ fs) (hgroups : Fld.groups ∈ fs)
    (hcells : Fld.cells ∈ fs) (hculm : Fld.culm ∈ fs) (hbranches : Fld.branches ∈ fs) (hsrc : Fld.src ∈ fs)
    (hctx : Fld.ctx ∈ fs) (hbat : Fld.bat ∈ fs) (hfdr : Fld.fdr ∈ fs) (hchg : Fld.chg ∈ fs) (hest : Fld.est ∈ fs)
    (hthm : Fld.thm ∈ fs) (hthr : Fld.thr ∈ fs) (hsense : Fld.sense ∈ fs) (hawn : Fld.awn ∈ fs) :
    (State.writeFault s b off v).but fs = s.but fs := by
  unfold State.writeFault
  split <;> simp [*]

@[simp] theorem askStore_but {fs : List Fld} (s : State) (o : NvOp) (hdeferred : Fld.deferred ∈ fs)
    (hflt : Fld.flt ∈ fs) (hsafeLine : Fld.safeLine ∈ fs) (hhalt : Fld.halt ∈ fs) (hx3 : Fld.x3 ∈ fs)
    (hxing : Fld.xing ∈ fs) (hlog : Fld.log ∈ fs) (hret : Fld.ret ∈ fs) (hdom : Fld.dom ∈ fs)
    (himg : Fld.img ∈ fs) (hnvs : Fld.nvs ∈ fs) (hfab : Fld.fab ∈ fs) (hgroups : Fld.groups ∈ fs)
    (hcells : Fld.cells ∈ fs) (hculm : Fld.culm ∈ fs) (hbranches : Fld.branches ∈ fs) (hsrc : Fld.src ∈ fs)
    (hctx : Fld.ctx ∈ fs) (hbat : Fld.bat ∈ fs) (hfdr : Fld.fdr ∈ fs) (hchg : Fld.chg ∈ fs) (hest : Fld.est ∈ fs)
    (hthr : Fld.thr ∈ fs) (hawn : Fld.awn ∈ fs) :
    (State.askStore s o).but fs = s.but fs := by
  unfold State.askStore
  (repeat' split) <;> simp [*]

@[simp] theorem nextOp_but {fs : List Fld} (s : State) (hflt : Fld.flt ∈ fs) (hnvs : Fld.nvs ∈ fs) :
    (State.nextOp s).but fs = s.but fs := by
  unfold State.nextOp
  split <;> simp [*]

@[simp] theorem nextSector_but {fs : List Fld} (s : State) (hnvs : Fld.nvs ∈ fs) :
    (State.nextSector s).but fs = s.but fs := by
  unfold State.nextSector
  repeat' (first | done | intro _ | split | rw [forEach_but] | rw [foldl_but] | simp +zetaDelta [*, but_ite] | extract_lets | (simp only [State.but, *, if_true]; done))

@[simp] theorem repeatOp_but {fs : List Fld} (s : State) (hnvs : Fld.nvs ∈ fs) :
    (State.repeatOp s).but fs = s.but fs := by
  unfold State.repeatOp
  simp [*]

@[simp] theorem wearSectors_but {fs : List Fld} (s : State) (first : Nat) (n : Nat)
    (hdeferred : Fld.deferred ∈ fs) (hflt : Fld.flt ∈ fs) (hsafeLine : Fld.safeLine ∈ fs) (hhalt : Fld.halt ∈ fs)
    (hx3 : Fld.x3 ∈ fs) (hxing : Fld.xing ∈ fs) (hlog : Fld.log ∈ fs) (hret : Fld.ret ∈ fs) (hdom : Fld.dom ∈ fs)
    (himg : Fld.img ∈ fs) (hnvs : Fld.nvs ∈ fs) (hfab : Fld.fab ∈ fs) (hgroups : Fld.groups ∈ fs)
    (hcells : Fld.cells ∈ fs) (hculm : Fld.culm ∈ fs) (hbranches : Fld.branches ∈ fs) (hsrc : Fld.src ∈ fs)
    (hctx : Fld.ctx ∈ fs) (hbat : Fld.bat ∈ fs) (hfdr : Fld.fdr ∈ fs) (hchg : Fld.chg ∈ fs) (hest : Fld.est ∈ fs)
    (hthr : Fld.thr ∈ fs) (hawn : Fld.awn ∈ fs) :
    (State.wearSectors s first n).but fs = s.but fs := by
  unfold State.wearSectors
  simp [*]

@[simp] theorem eraseBytes_but {fs : List Fld} (s : State) (a : Nat) (n : Nat) (hnv : Fld.nv ∈ fs)
    (hnvs : Fld.nvs ∈ fs) :
    (State.eraseBytes s a n).but fs = s.but fs := by
  unfold State.eraseBytes
  simp [*]

@[simp] theorem spoil_but {fs : List Fld} (s : State) (a : Nat) (n : Nat) (hfreeN : Fld.freeN ∈ fs)
    (hnv : Fld.nv ∈ fs) (hnvs : Fld.nvs ∈ fs) :
    (State.spoil s a n).but fs = s.but fs := by
  unfold State.spoil
  simp [*]

@[simp] theorem spoilErase_but {fs : List Fld} (s : State) (o : NvOp) (hfreeN : Fld.freeN ∈ fs)
    (hnv : Fld.nv ∈ fs) (hnvs : Fld.nvs ∈ fs) :
    (State.spoilErase s o).but fs = s.but fs := by
  unfold State.spoilErase
  split
  · exact spoil_but _ _ _ hfreeN hnv hnvs
  · rfl

@[simp] theorem eraseFor_but {fs : List Fld} (s : State) (seq : Nat) (hdeferred : Fld.deferred ∈ fs)
    (hflt : Fld.flt ∈ fs) (hsafeLine : Fld.safeLine ∈ fs) (hhalt : Fld.halt ∈ fs) (hx3 : Fld.x3 ∈ fs)
    (hxing : Fld.xing ∈ fs) (hnv : Fld.nv ∈ fs) (hlog : Fld.log ∈ fs) (hret : Fld.ret ∈ fs) (hdom : Fld.dom ∈ fs)
    (himg : Fld.img ∈ fs) (hnvs : Fld.nvs ∈ fs) (hfab : Fld.fab ∈ fs) (hgroups : Fld.groups ∈ fs)
    (hcells : Fld.cells ∈ fs) (hculm : Fld.culm ∈ fs) (hbranches : Fld.branches ∈ fs) (hsrc : Fld.src ∈ fs)
    (hctx : Fld.ctx ∈ fs) (hbat : Fld.bat ∈ fs) (hfdr : Fld.fdr ∈ fs) (hchg : Fld.chg ∈ fs) (hest : Fld.est ∈ fs)
    (hthr : Fld.thr ∈ fs) (hawn : Fld.awn ∈ fs) :
    (State.eraseFor s seq).but fs = s.but fs := by
  unfold State.eraseFor
  extract_lets
  (repeat' split) <;> simp +zetaDelta [*]

@[simp] theorem programRec_but {fs : List Fld} (s : State) (q : Staged) (hdeferred : Fld.deferred ∈ fs)
    (hflt : Fld.flt ∈ fs) (hsafeLine : Fld.safeLine ∈ fs) (hhalt : Fld.halt ∈ fs) (hx3 : Fld.x3 ∈ fs)
    (hxing : Fld.xing ∈ fs) (hnv : Fld.nv ∈ fs) (hlog : Fld.log ∈ fs) (hret : Fld.ret ∈ fs) (hdom : Fld.dom ∈ fs)
    (himg : Fld.img ∈ fs) (hnvs : Fld.nvs ∈ fs) (hfab : Fld.fab ∈ fs) (hgroups : Fld.groups ∈ fs)
    (hcells : Fld.cells ∈ fs) (hculm : Fld.culm ∈ fs) (hbranches : Fld.branches ∈ fs) (hsrc : Fld.src ∈ fs)
    (hctx : Fld.ctx ∈ fs) (hbat : Fld.bat ∈ fs) (hfdr : Fld.fdr ∈ fs) (hchg : Fld.chg ∈ fs) (hest : Fld.est ∈ fs)
    (hthr : Fld.thr ∈ fs) (hawn : Fld.awn ∈ fs) :
    (State.programRec s q).but fs = s.but fs := by
  unfold State.programRec
  simp [*]

@[simp] theorem discardKnown_but {fs : List Fld} (s : State) (hlog : Fld.log ∈ fs) (hret : Fld.ret ∈ fs) :
    (State.discardKnown s).but fs = s.but fs := by
  unfold State.discardKnown
  split <;> simp [*]

@[simp] theorem failCommit_but {fs : List Fld} (s : State) (n : Nat) (hfreeN : Fld.freeN ∈ fs)
    (hdeferred : Fld.deferred ∈ fs) (hflt : Fld.flt ∈ fs) (hsafeLine : Fld.safeLine ∈ fs) (hhalt : Fld.halt ∈ fs)
    (hx3 : Fld.x3 ∈ fs) (hxing : Fld.xing ∈ fs) (hnv : Fld.nv ∈ fs) (hlog : Fld.log ∈ fs) (hret : Fld.ret ∈ fs)
    (hdom : Fld.dom ∈ fs) (himg : Fld.img ∈ fs) (hnvs : Fld.nvs ∈ fs) (hfab : Fld.fab ∈ fs)
    (hgroups : Fld.groups ∈ fs) (hcells : Fld.cells ∈ fs) (hculm : Fld.culm ∈ fs) (hbranches : Fld.branches ∈ fs)
    (hsrc : Fld.src ∈ fs) (hctx : Fld.ctx ∈ fs) (hbat : Fld.bat ∈ fs) (hfdr : Fld.fdr ∈ fs) (hchg : Fld.chg ∈ fs)
    (hest : Fld.est ∈ fs) (hthr : Fld.thr ∈ fs) (hawn : Fld.awn ∈ fs) :
    (State.failCommit s n).but fs = s.but fs := by
  unfold State.failCommit
  split
  · rename_i q _ _
    have h := eraseFor_but s q.record.seq hdeferred hflt hsafeLine hhalt hx3 hxing hnv hlog hret hdom himg hnvs hfab hgroups hcells
      hculm hbranches hsrc hctx hbat hfdr hchg hest hthr hawn
    rw [spoil_but _ _ _ hfreeN hnv hnvs, ← h]
    generalize s.eraseFor q.record.seq = t
    simp only [State.but, hret, if_true]
  · rfl

@[simp] theorem renumbered_but {fs : List Fld} (s : State) (high : Nat) (hret : Fld.ret ∈ fs) :
    (State.renumbered s high).but fs = s.but fs := by
  unfold State.renumbered
  repeat' (first | done | intro _ | split | rw [forEach_but] | rw [foldl_but] | simp +zetaDelta [*, but_ite] | extract_lets | (simp only [State.but, *, if_true]; done))

@[simp] theorem readRecord_but {fs : List Fld} (s : State) (seq : Word) (hlog : Fld.log ∈ fs) :
    (State.readRecord s seq).but fs = s.but fs := by
  unfold State.readRecord
  simp [*]

@[simp] theorem startLogErase_but {fs : List Fld} (s : State) (hdeferred : Fld.deferred ∈ fs)
    (hflt : Fld.flt ∈ fs) (hsafeLine : Fld.safeLine ∈ fs) (hhalt : Fld.halt ∈ fs) (hx3 : Fld.x3 ∈ fs)
    (hxing : Fld.xing ∈ fs) (hlog : Fld.log ∈ fs) (hret : Fld.ret ∈ fs) (hdom : Fld.dom ∈ fs)
    (himg : Fld.img ∈ fs) (hnvs : Fld.nvs ∈ fs) (hfab : Fld.fab ∈ fs) (hgroups : Fld.groups ∈ fs)
    (hcells : Fld.cells ∈ fs) (hculm : Fld.culm ∈ fs) (hbranches : Fld.branches ∈ fs) (hsrc : Fld.src ∈ fs)
    (hctx : Fld.ctx ∈ fs) (hbat : Fld.bat ∈ fs) (hfdr : Fld.fdr ∈ fs) (hchg : Fld.chg ∈ fs) (hest : Fld.est ∈ fs)
    (hthr : Fld.thr ∈ fs) (hawn : Fld.awn ∈ fs) :
    (State.startLogErase s).but fs = s.but fs := by
  unfold State.startLogErase
  split <;> simp [*]

@[simp] theorem activate_but {fs : List Fld} (s : State) (c : Cell) (hcells : Fld.cells ∈ fs) :
    (State.activate s c).but fs = s.but fs := by
  unfold State.activate
  simp [*]

@[simp] theorem stepMigr_but {fs : List Fld} (s : State) (m : Migr) (step : Nat) (hfab : Fld.fab ∈ fs) :
    (State.stepMigr s m step).but fs = s.but fs := by
  unfold State.stepMigr
  simp [*]

@[simp] theorem passPart_but {fs : List Fld} (s : State) (m : Migr) (c : Cell) (hfab : Fld.fab ∈ fs) :
    (State.passPart s m c).but fs = s.but fs := by
  unfold State.passPart
  repeat' (first | done | intro _ | split | rw [forEach_but] | rw [foldl_but] | simp +zetaDelta [*, but_ite] | extract_lets | (simp only [State.but, *, if_true]; done))

@[simp] theorem awaitRetry_but {fs : List Fld} (s : State) (c : Cell) (hcells : Fld.cells ∈ fs) :
    (State.awaitRetry s c).but fs = s.but fs := by
  unfold State.awaitRetry
  repeat' (first | done | intro _ | split | rw [forEach_but] | rw [foldl_but] | simp +zetaDelta [*, but_ite] | extract_lets | (simp only [State.but, *, if_true]; done))

@[simp] theorem joinOrder_but {fs : List Fld} (g : Group) (s : State) (q : Part) (hcells : Fld.cells ∈ fs) :
    (State.joinOrder g s q).but fs = s.but fs := by
  unfold State.joinOrder
  repeat' (first | done | intro _ | split | rw [forEach_but] | rw [foldl_but] | simp +zetaDelta [*, but_ite] | extract_lets | (simp only [State.but, *, if_true]; done))

@[simp] theorem stepCell_but {fs : List Fld} (g : Group) (step : Nat) (s : State) (q : Part)
    (hcells : Fld.cells ∈ fs) :
    (State.stepCell g step s q).but fs = s.but fs := by
  unfold State.stepCell
  split <;> simp [*]

@[simp] theorem returnPart_but {fs : List Fld} (s : State) (q : Part) (hcells : Fld.cells ∈ fs) :
    (State.returnPart s q).but fs = s.but fs := by
  unfold State.returnPart
  repeat' (first | done | intro _ | split | rw [forEach_but] | rw [foldl_but] | simp +zetaDelta [*, but_ite] | extract_lets | (simp only [State.but, *, if_true]; done))

@[simp] theorem abortShed_but {fs : List Fld} (s : State) (g : Group) (hcells : Fld.cells ∈ fs) :
    (State.abortShed s g).but fs = s.but fs := by
  unfold State.abortShed
  repeat' (first | done | intro _ | split | rw [forEach_but] | rw [foldl_but] | simp +zetaDelta [*, but_ite] | extract_lets | (simp only [State.but, *, if_true]; done))

@[simp] theorem startMembers_but {fs : List Fld} (s : State) (g : Group) (hcells : Fld.cells ∈ fs) :
    (State.startMembers s g).but fs = s.but fs := by
  unfold State.startMembers
  repeat' (first | done | intro _ | split | rw [forEach_but] | rw [foldl_but] | simp +zetaDelta [*, but_ite] | extract_lets | (simp only [State.but, *, if_true]; done))

end Sys2Proof.Machine
end

