-- ==== Sys2Proof/Laws/FramePorts.lean ====
section
/-!
SUPPORT. What the ports, flows and charging change of the state: each operation leaves every field that its lemma does not name.
-/

namespace Sys2Proof.Machine

set_option linter.unusedTactic false
set_option linter.unreachableTactic false
set_option linter.unusedSimpArgs false
set_option linter.unusedVariables false

@[simp] theorem startPrecharge_but {fs : List Fld} (s : State) (b : Branch) (hbranches : Fld.branches ∈ fs) :
    (State.startPrecharge s b).but fs = s.but fs := by
  unfold State.startPrecharge
  simp [*]

@[simp] theorem tryPrecharge_but {fs : List Fld} (s : State) (b : Branch) (hbranches : Fld.branches ∈ fs) :
    (State.tryPrecharge s b).but fs = s.but fs := by
  unfold State.tryPrecharge
  split <;> simp [*]

@[simp] theorem closeBranch_but {fs : List Fld} (s : State) (b : Branch) (hbranches : Fld.branches ∈ fs) :
    (State.closeBranch s b).but fs = s.but fs := by
  unfold State.closeBranch
  extract_lets
  (repeat' split) <;> simp +zetaDelta [*]

@[simp] theorem tripBranch_but {fs : List Fld} (s : State) (b : Branch) (cause : Nat) (src : Src)
    (hdeferred : Fld.deferred ∈ fs) (hflt : Fld.flt ∈ fs) (hsafeLine : Fld.safeLine ∈ fs) (hhalt : Fld.halt ∈ fs)
    (hx3 : Fld.x3 ∈ fs) (hxing : Fld.xing ∈ fs) (hlog : Fld.log ∈ fs) (hret : Fld.ret ∈ fs) (hdom : Fld.dom ∈ fs)
    (himg : Fld.img ∈ fs) (hfab : Fld.fab ∈ fs) (hgroups : Fld.groups ∈ fs) (hcells : Fld.cells ∈ fs)
    (hculm : Fld.culm ∈ fs) (hbranches : Fld.branches ∈ fs) (hsrc : Fld.src ∈ fs) (hctx : Fld.ctx ∈ fs)
    (hbat : Fld.bat ∈ fs) (hfdr : Fld.fdr ∈ fs) (hchg : Fld.chg ∈ fs) (hest : Fld.est ∈ fs) (hthr : Fld.thr ∈ fs)
    (hawn : Fld.awn ∈ fs) :
    (State.tripBranch s b cause src).but fs = s.but fs := by
  unfold State.tripBranch
  extract_lets
  (repeat' split) <;> simp +zetaDelta [*]

@[simp] theorem letThrough_but {fs : List Fld} (s : State) (p : Port) (lt : Nat) (hdeferred : Fld.deferred ∈ fs)
    (hflt : Fld.flt ∈ fs) (hsafeLine : Fld.safeLine ∈ fs) (hhalt : Fld.halt ∈ fs) (hx3 : Fld.x3 ∈ fs)
    (hxing : Fld.xing ∈ fs) (hlog : Fld.log ∈ fs) (hret : Fld.ret ∈ fs) (hdom : Fld.dom ∈ fs)
    (himg : Fld.img ∈ fs) (hfab : Fld.fab ∈ fs) (hgroups : Fld.groups ∈ fs) (hcells : Fld.cells ∈ fs)
    (hculm : Fld.culm ∈ fs) (hgov : Fld.gov ∈ fs) (hbranches : Fld.branches ∈ fs) (hsrc : Fld.src ∈ fs)
    (hctx : Fld.ctx ∈ fs) (hbat : Fld.bat ∈ fs) (hfdr : Fld.fdr ∈ fs) (hchg : Fld.chg ∈ fs) (hest : Fld.est ∈ fs)
    (hthr : Fld.thr ∈ fs) (hawn : Fld.awn ∈ fs) :
    (State.letThrough s p lt).but fs = s.but fs := by
  unfold State.letThrough
  extract_lets
  (repeat' split) <;> simp +zetaDelta [*]

@[simp] theorem shedFirst_but {fs : List Fld} (s : State) (bs : List Branch) (src : Src) (obj : Branch → Nat)
    (hdeferred : Fld.deferred ∈ fs) (hflt : Fld.flt ∈ fs) (hsafeLine : Fld.safeLine ∈ fs) (hhalt : Fld.halt ∈ fs)
    (hx3 : Fld.x3 ∈ fs) (hxing : Fld.xing ∈ fs) (hlog : Fld.log ∈ fs) (hret : Fld.ret ∈ fs) (hdom : Fld.dom ∈ fs)
    (himg : Fld.img ∈ fs) (hfab : Fld.fab ∈ fs) (hgroups : Fld.groups ∈ fs) (hcells : Fld.cells ∈ fs)
    (hculm : Fld.culm ∈ fs) (hbranches : Fld.branches ∈ fs) (hsrc : Fld.src ∈ fs) (hctx : Fld.ctx ∈ fs)
    (hbat : Fld.bat ∈ fs) (hfdr : Fld.fdr ∈ fs) (hchg : Fld.chg ∈ fs) (hest : Fld.est ∈ fs) (hthr : Fld.thr ∈ fs)
    (hawn : Fld.awn ∈ fs) :
    (State.shedFirst s bs src obj).but fs = s.but fs := by
  unfold State.shedFirst
  split <;> simp [*]

@[simp] theorem releaseBranch_but {fs : List Fld} (s : State) (b : Branch) (hdeferred : Fld.deferred ∈ fs)
    (hflt : Fld.flt ∈ fs) (hx3 : Fld.x3 ∈ fs) (hxing : Fld.xing ∈ fs) (hlog : Fld.log ∈ fs) (hret : Fld.ret ∈ fs)
    (hbranches : Fld.branches ∈ fs) :
    (State.releaseBranch s b).but fs = s.but fs := by
  unfold State.releaseBranch
  repeat' (first | done | intro _ | split | rw [forEach_but] | rw [foldl_but] | simp +zetaDelta [*, but_ite] | extract_lets | (simp only [State.but, *, if_true]; done))

@[simp] theorem switchBranch_but {fs : List Fld} (s : State) (b : Branch) (hdeferred : Fld.deferred ∈ fs)
    (hflt : Fld.flt ∈ fs) (hx3 : Fld.x3 ∈ fs) (hxing : Fld.xing ∈ fs) (hlog : Fld.log ∈ fs) (hret : Fld.ret ∈ fs)
    (hbranches : Fld.branches ∈ fs) :
    (State.switchBranch s b).but fs = s.but fs := by
  unfold State.switchBranch
  extract_lets
  (repeat' split) <;> simp +zetaDelta [*]

@[simp] theorem writeBctl_but {fs : List Fld} (s : State) (b : Branch) (v : Word) (hdeferred : Fld.deferred ∈ fs)
    (hflt : Fld.flt ∈ fs) (hx3 : Fld.x3 ∈ fs) (hxing : Fld.xing ∈ fs) (hrw : Fld.rw ∈ fs) (hlog : Fld.log ∈ fs)
    (hret : Fld.ret ∈ fs) (hbranches : Fld.branches ∈ fs) :
    (State.writeBctl s b v).but fs = s.but fs := by
  unfold State.writeBctl
  simp [*]

@[simp] theorem culmOff_but {fs : List Fld} (s : State) (hculm : Fld.culm ∈ fs) (hbranches : Fld.branches ∈ fs) :
    (State.culmOff s).but fs = s.but fs := by
  unfold State.culmOff
  simp [*]

@[simp] theorem writeCeiling_but {fs : List Fld} (s : State) (p : Port) (v : Word) (hrw : Fld.rw ∈ fs)
    (hculm : Fld.culm ∈ fs) :
    (State.writeCeiling s p v).but fs = s.but fs := by
  unfold State.writeCeiling
  extract_lets
  (repeat' split) <;> simp +zetaDelta [*]

@[simp] theorem drainMet_but {fs : List Fld} (s : State) (p : Port) (x : StageRec) (hdeferred : Fld.deferred ∈ fs)
    (hflt : Fld.flt ∈ fs) (hsafeLine : Fld.safeLine ∈ fs) (hhalt : Fld.halt ∈ fs) (hx3 : Fld.x3 ∈ fs)
    (hxing : Fld.xing ∈ fs) (hlog : Fld.log ∈ fs) (hret : Fld.ret ∈ fs) (hdom : Fld.dom ∈ fs)
    (himg : Fld.img ∈ fs) (hfab : Fld.fab ∈ fs) (hgroups : Fld.groups ∈ fs) (hcells : Fld.cells ∈ fs)
    (hculm : Fld.culm ∈ fs) (hbranches : Fld.branches ∈ fs) (hsrc : Fld.src ∈ fs) (hctx : Fld.ctx ∈ fs)
    (hbat : Fld.bat ∈ fs) (hfdr : Fld.fdr ∈ fs) (hchg : Fld.chg ∈ fs) (hest : Fld.est ∈ fs) (hthr : Fld.thr ∈ fs)
    (hawn : Fld.awn ∈ fs) :
    (State.drainMet s p x).but fs = s.but fs := by
  unfold State.drainMet
  split <;> simp [*]

@[simp] theorem drainCulm_but {fs : List Fld} (s : State) (hfreeN : Fld.freeN ∈ fs) (hculm : Fld.culm ∈ fs) :
    (State.drainCulm s).but fs = s.but fs := by
  unfold State.drainCulm
  (repeat' split) <;> simp [*]

@[simp] theorem startQualify_but {fs : List Fld} (s : State) (p : SPort) (hsrc : Fld.src ∈ fs) :
    (State.startQualify s p).but fs = s.but fs := by
  unfold State.startQualify
  simp [*]

@[simp] theorem supply_but {fs : List Fld} (s : State) (p : SPort) (avail : Nat) (hfreeN : Fld.freeN ∈ fs)
    (hgroups : Fld.groups ∈ fs) (hcells : Fld.cells ∈ fs) (hsrc : Fld.src ∈ fs) (hctx : Fld.ctx ∈ fs)
    (hchg : Fld.chg ∈ fs) :
    (State.supply s p avail).but fs = s.but fs := by
  unfold State.supply
  simp [*]

@[simp] theorem toReady_but {fs : List Fld} (s : State) (p : SPort) (hfab : Fld.fab ∈ fs)
    (hgroups : Fld.groups ∈ fs) (hcells : Fld.cells ∈ fs) (hsrc : Fld.src ∈ fs) (hctx : Fld.ctx ∈ fs)
    (hchg : Fld.chg ∈ fs) :
    (State.toReady s p).but fs = s.but fs := by
  unfold State.toReady
  simp [*]

@[simp] theorem countLoss_but {fs : List Fld} (s : State) (p : SPort) (hsrc : Fld.src ∈ fs) :
    (State.countLoss s p).but fs = s.but fs := by
  unfold State.countLoss
  simp [*]

@[simp] theorem dropOwn_but {fs : List Fld} (s : State) (p : SPort) (hhalt : Fld.halt ∈ fs) :
    (State.dropOwn s p).but fs = s.but fs := by
  unfold State.dropOwn
  simp [*]

@[simp] theorem rearmSrc_but {fs : List Fld} (s : State) (p : SPort) (hsrc : Fld.src ∈ fs) :
    (State.rearmSrc s p).but fs = s.but fs := by
  unfold State.rearmSrc
  extract_lets
  (repeat' split) <;> simp +zetaDelta [*]

@[simp] theorem requalSrc_but {fs : List Fld} (s : State) (p : SPort) (hgroups : Fld.groups ∈ fs)
    (hsrc : Fld.src ∈ fs) (hctx : Fld.ctx ∈ fs) (hchg : Fld.chg ∈ fs) :
    (State.requalSrc s p).but fs = s.but fs := by
  unfold State.requalSrc
  split <;> simp [*]

@[simp] theorem carryFlow_but {fs : List Fld} (s : State) (op : Nat) (h : BitVec 16)
    (hdeferred : Fld.deferred ∈ fs) (hflow : Fld.flow ∈ fs) :
    (State.carryFlow s op h).but fs = s.but fs := by
  unfold State.carryFlow
  split <;> simp [*]

@[simp] theorem flowResult_but {fs : List Fld} (s : State) (code : Nat) (idx : Nat) (h : BitVec 16)
    (hdeferred : Fld.deferred ∈ fs) (hflt : Fld.flt ∈ fs) (hsafeLine : Fld.safeLine ∈ fs) (hhalt : Fld.halt ∈ fs)
    (hx3 : Fld.x3 ∈ fs) (hxing : Fld.xing ∈ fs) (hlog : Fld.log ∈ fs) (hret : Fld.ret ∈ fs) (hdom : Fld.dom ∈ fs)
    (himg : Fld.img ∈ fs) (hfab : Fld.fab ∈ fs) (hgroups : Fld.groups ∈ fs) (hcells : Fld.cells ∈ fs)
    (hculm : Fld.culm ∈ fs) (hbranches : Fld.branches ∈ fs) (hsrc : Fld.src ∈ fs) (hflow : Fld.flow ∈ fs)
    (hctx : Fld.ctx ∈ fs) (hbat : Fld.bat ∈ fs) (hfdr : Fld.fdr ∈ fs) (hchg : Fld.chg ∈ fs) (hest : Fld.est ∈ fs)
    (hthr : Fld.thr ∈ fs) (hawn : Fld.awn ∈ fs) :
    (State.flowResult s code idx h).but fs = s.but fs := by
  unfold State.flowResult
  (repeat' split) <;> simp [*]

@[simp] theorem openFlow_but {fs : List Fld} (s : State) (c : Ctx) (d : FlowDef) (hdeferred : Fld.deferred ∈ fs)
    (hflt : Fld.flt ∈ fs) (hsafeLine : Fld.safeLine ∈ fs) (hhalt : Fld.halt ∈ fs) (hx3 : Fld.x3 ∈ fs)
    (hxing : Fld.xing ∈ fs) (hlog : Fld.log ∈ fs) (hret : Fld.ret ∈ fs) (hdom : Fld.dom ∈ fs)
    (himg : Fld.img ∈ fs) (hfab : Fld.fab ∈ fs) (hgroups : Fld.groups ∈ fs) (hcells : Fld.cells ∈ fs)
    (hculm : Fld.culm ∈ fs) (hbranches : Fld.branches ∈ fs) (hsrc : Fld.src ∈ fs) (hctx : Fld.ctx ∈ fs)
    (hbat : Fld.bat ∈ fs) (hfdr : Fld.fdr ∈ fs) (hchg : Fld.chg ∈ fs) (hest : Fld.est ∈ fs) (hthr : Fld.thr ∈ fs)
    (hawn : Fld.awn ∈ fs) :
    (State.openFlow s c d).but fs = s.but fs := by
  unfold State.openFlow
  repeat' (first | done | intro _ | split | rw [forEach_but] | rw [foldl_but] | simp +zetaDelta [*, but_ite] | extract_lets | (simp only [State.but, *, if_true]; done))

@[simp] theorem createWith_but {fs : List Fld} (s : State) (h : BitVec 16) (d : FlowDef)
    (hdeferred : Fld.deferred ∈ fs) (hflt : Fld.flt ∈ fs) (hsafeLine : Fld.safeLine ∈ fs) (hhalt : Fld.halt ∈ fs)
    (hx3 : Fld.x3 ∈ fs) (hxing : Fld.xing ∈ fs) (hlog : Fld.log ∈ fs) (hret : Fld.ret ∈ fs) (hdom : Fld.dom ∈ fs)
    (himg : Fld.img ∈ fs) (hfab : Fld.fab ∈ fs) (hgroups : Fld.groups ∈ fs) (hcells : Fld.cells ∈ fs)
    (hculm : Fld.culm ∈ fs) (hbranches : Fld.branches ∈ fs) (hsrc : Fld.src ∈ fs) (hflow : Fld.flow ∈ fs)
    (hctx : Fld.ctx ∈ fs) (hbat : Fld.bat ∈ fs) (hfdr : Fld.fdr ∈ fs) (hchg : Fld.chg ∈ fs) (hest : Fld.est ∈ fs)
    (hthr : Fld.thr ∈ fs) (hawn : Fld.awn ∈ fs) :
    (State.createWith s h d).but fs = s.but fs := by
  unfold State.createWith
  extract_lets
  (repeat' split) <;> simp +zetaDelta [*]

@[simp] theorem modifyFlow_but {fs : List Fld} (s : State) (h : BitVec 16) (d : FlowDef)
    (hdeferred : Fld.deferred ∈ fs) (hflt : Fld.flt ∈ fs) (hsafeLine : Fld.safeLine ∈ fs) (hhalt : Fld.halt ∈ fs)
    (hx3 : Fld.x3 ∈ fs) (hxing : Fld.xing ∈ fs) (hlog : Fld.log ∈ fs) (hret : Fld.ret ∈ fs) (hdom : Fld.dom ∈ fs)
    (himg : Fld.img ∈ fs) (hfab : Fld.fab ∈ fs) (hgroups : Fld.groups ∈ fs) (hcells : Fld.cells ∈ fs)
    (hculm : Fld.culm ∈ fs) (hbranches : Fld.branches ∈ fs) (hsrc : Fld.src ∈ fs) (hflow : Fld.flow ∈ fs)
    (hctx : Fld.ctx ∈ fs) (hbat : Fld.bat ∈ fs) (hfdr : Fld.fdr ∈ fs) (hchg : Fld.chg ∈ fs) (hest : Fld.est ∈ fs)
    (hthr : Fld.thr ∈ fs) (hawn : Fld.awn ∈ fs) :
    (State.modifyFlow s h d).but fs = s.but fs := by
  unfold State.modifyFlow
  repeat' (first | done | intro _ | split | rw [forEach_but] | rw [foldl_but] | simp +zetaDelta [*, but_ite] | extract_lets | (simp only [State.but, *, if_true]; done))

@[simp] theorem suspendFlow_but {fs : List Fld} (s : State) (h : BitVec 16) (hdeferred : Fld.deferred ∈ fs)
    (hflt : Fld.flt ∈ fs) (hsafeLine : Fld.safeLine ∈ fs) (hhalt : Fld.halt ∈ fs) (hx3 : Fld.x3 ∈ fs)
    (hxing : Fld.xing ∈ fs) (hlog : Fld.log ∈ fs) (hret : Fld.ret ∈ fs) (hdom : Fld.dom ∈ fs)
    (himg : Fld.img ∈ fs) (hfab : Fld.fab ∈ fs) (hgroups : Fld.groups ∈ fs) (hcells : Fld.cells ∈ fs)
    (hculm : Fld.culm ∈ fs) (hbranches : Fld.branches ∈ fs) (hsrc : Fld.src ∈ fs) (hflow : Fld.flow ∈ fs)
    (hctx : Fld.ctx ∈ fs) (hbat : Fld.bat ∈ fs) (hfdr : Fld.fdr ∈ fs) (hchg : Fld.chg ∈ fs) (hest : Fld.est ∈ fs)
    (hthr : Fld.thr ∈ fs) (hawn : Fld.awn ∈ fs) :
    (State.suspendFlow s h).but fs = s.but fs := by
  unfold State.suspendFlow
  repeat' (first | done | intro _ | split | rw [forEach_but] | rw [foldl_but] | simp +zetaDelta [*, but_ite] | extract_lets | (simp only [State.but, *, if_true]; done))

@[simp] theorem resumeFlow_but {fs : List Fld} (s : State) (h : BitVec 16) (hdeferred : Fld.deferred ∈ fs)
    (hflt : Fld.flt ∈ fs) (hsafeLine : Fld.safeLine ∈ fs) (hhalt : Fld.halt ∈ fs) (hx3 : Fld.x3 ∈ fs)
    (hxing : Fld.xing ∈ fs) (hlog : Fld.log ∈ fs) (hret : Fld.ret ∈ fs) (hdom : Fld.dom ∈ fs)
    (himg : Fld.img ∈ fs) (hfab : Fld.fab ∈ fs) (hgroups : Fld.groups ∈ fs) (hcells : Fld.cells ∈ fs)
    (hculm : Fld.culm ∈ fs) (hbranches : Fld.branches ∈ fs) (hsrc : Fld.src ∈ fs) (hflow : Fld.flow ∈ fs)
    (hctx : Fld.ctx ∈ fs) (hbat : Fld.bat ∈ fs) (hfdr : Fld.fdr ∈ fs) (hchg : Fld.chg ∈ fs) (hest : Fld.est ∈ fs)
    (hthr : Fld.thr ∈ fs) (hawn : Fld.awn ∈ fs) :
    (State.resumeFlow s h).but fs = s.but fs := by
  unfold State.resumeFlow
  repeat' (first | done | intro _ | split | rw [forEach_but] | rw [foldl_but] | simp +zetaDelta [*, but_ite] | extract_lets | (simp only [State.but, *, if_true]; done))

@[simp] theorem closeFlow_but {fs : List Fld} (s : State) (c : Ctx) (hgroups : Fld.groups ∈ fs)
    (hctx : Fld.ctx ∈ fs) (hchg : Fld.chg ∈ fs) :
    (State.closeFlow s c).but fs = s.but fs := by
  unfold State.closeFlow
  extract_lets
  (repeat' split) <;> simp +zetaDelta [*]

@[simp] theorem destroyFlow_but {fs : List Fld} (s : State) (h : BitVec 16) (hdeferred : Fld.deferred ∈ fs)
    (hflt : Fld.flt ∈ fs) (hsafeLine : Fld.safeLine ∈ fs) (hhalt : Fld.halt ∈ fs) (hx3 : Fld.x3 ∈ fs)
    (hxing : Fld.xing ∈ fs) (hlog : Fld.log ∈ fs) (hret : Fld.ret ∈ fs) (hdom : Fld.dom ∈ fs)
    (himg : Fld.img ∈ fs) (hfab : Fld.fab ∈ fs) (hgroups : Fld.groups ∈ fs) (hcells : Fld.cells ∈ fs)
    (hculm : Fld.culm ∈ fs) (hbranches : Fld.branches ∈ fs) (hsrc : Fld.src ∈ fs) (hflow : Fld.flow ∈ fs)
    (hctx : Fld.ctx ∈ fs) (hbat : Fld.bat ∈ fs) (hfdr : Fld.fdr ∈ fs) (hchg : Fld.chg ∈ fs) (hest : Fld.est ∈ fs)
    (hthr : Fld.thr ∈ fs) (hawn : Fld.awn ∈ fs) :
    (State.destroyFlow s h).but fs = s.but fs := by
  unfold State.destroyFlow
  repeat' (first | done | intro _ | split | rw [forEach_but] | rw [foldl_but] | simp +zetaDelta [*, but_ite] | extract_lets | (simp only [State.but, *, if_true]; done))

@[simp] theorem writeFlowCmd_but {fs : List Fld} (s : State) (v : Word) (hdeferred : Fld.deferred ∈ fs)
    (hflt : Fld.flt ∈ fs) (hsafeLine : Fld.safeLine ∈ fs) (hhalt : Fld.halt ∈ fs) (hx3 : Fld.x3 ∈ fs)
    (hxing : Fld.xing ∈ fs) (hlog : Fld.log ∈ fs) (hret : Fld.ret ∈ fs) (hdom : Fld.dom ∈ fs)
    (himg : Fld.img ∈ fs) (hfab : Fld.fab ∈ fs) (hgroups : Fld.groups ∈ fs) (hcells : Fld.cells ∈ fs)
    (hculm : Fld.culm ∈ fs) (hbranches : Fld.branches ∈ fs) (hsrc : Fld.src ∈ fs) (hflow : Fld.flow ∈ fs)
    (hctx : Fld.ctx ∈ fs) (hbat : Fld.bat ∈ fs) (hfdr : Fld.fdr ∈ fs) (hchg : Fld.chg ∈ fs) (hest : Fld.est ∈ fs)
    (hthr : Fld.thr ∈ fs) (hawn : Fld.awn ∈ fs) :
    (State.writeFlowCmd s v).but fs = s.but fs := by
  unfold State.writeFlowCmd
  split <;> simp [*]

@[simp] theorem drainOne_but {fs : List Fld} (drain : Bool) (s : State) (c : Ctx) (hgroups : Fld.groups ∈ fs)
    (hctx : Fld.ctx ∈ fs) (hchg : Fld.chg ∈ fs) :
    (State.drainOne drain s c).but fs = s.but fs := by
  unfold State.drainOne
  extract_lets
  (repeat' split) <;> simp +zetaDelta [*]

@[simp] theorem drain_but {fs : List Fld} (s : State) (hgroups : Fld.groups ∈ fs) (hctx : Fld.ctx ∈ fs)
    (hchg : Fld.chg ∈ fs) :
    (State.drain s).but fs = s.but fs := by
  unfold State.drain
  (repeat' split) <;> simp [*]

@[simp] theorem freeLeaving_but {fs : List Fld} (s : State) (hxslots : Fld.xslots ∈ fs)
    (hgroups : Fld.groups ∈ fs) (hctx : Fld.ctx ∈ fs) (hchg : Fld.chg ∈ fs) :
    (State.freeLeaving s).but fs = s.but fs := by
  unfold State.freeLeaving
  repeat' (first | done | intro _ | split | rw [forEach_but] | rw [foldl_but] | simp +zetaDelta [*, but_ite] | extract_lets | (simp only [State.but, *, if_true]; done))

@[simp] theorem discardPoint_but {fs : List Fld} (s : State) (p : BPort) (us : Nat) (hest : Fld.est ∈ fs) :
    (State.discardPoint s p us).but fs = s.but fs := by
  unfold State.discardPoint
  split <;> simp [*]

@[simp] theorem skipPoint_but {fs : List Fld} (s : State) (p : BPort) (hest : Fld.est ∈ fs) :
    (State.skipPoint s p).but fs = s.but fs := by
  unfold State.skipPoint
  simp [*]

@[simp] theorem pauseSweep_but {fs : List Fld} (s : State) (p : BPort) (hest : Fld.est ∈ fs) :
    (State.pauseSweep s p).but fs = s.but fs := by
  unfold State.pauseSweep
  split <;> simp [*]

@[simp] theorem startKnee_but {fs : List Fld} (s : State) (p : BPort) (at_ : Nat) (hest : Fld.est ∈ fs) :
    (State.startKnee s p at_).but fs = s.but fs := by
  unfold State.startKnee
  simp [*]

@[simp] theorem endKnee_but {fs : List Fld} (s : State) (p : BPort) (hest : Fld.est ∈ fs) :
    (State.endKnee s p).but fs = s.but fs := by
  unfold State.endKnee
  split <;> simp [*]

@[simp] theorem countCharge_but {fs : List Fld} (s : State) (p : BPort) (cur : Int) (ns : Nat) (hest : Fld.est ∈ fs) :
    (State.countCharge s p cur ns).but fs = s.but fs := by
  unfold State.countCharge
  simp [*]

@[simp] theorem setSoc_but {fs : List Fld} (s : State) (p : BPort) (perMille : Nat) (unc : Nat) (src : Nat)
    (hest : Fld.est ∈ fs) :
    (State.setSoc s p perMille unc src).but fs = s.but fs := by
  unfold State.setSoc
  simp [*]

@[simp] theorem correctFirst_but {fs : List Fld} (s : State) (p : BPort) (chem : Nat) (vCell01 : Int)
    (hest : Fld.est ∈ fs) :
    (State.correctFirst s p chem vCell01).but fs = s.but fs := by
  unfold State.correctFirst
  (repeat' split) <;> simp [*]

@[simp] theorem markDue_but {fs : List Fld} (s : State) (p : BPort) (ev : Fin 5) (hest : Fld.est ∈ fs) :
    (State.markDue s p ev).but fs = s.but fs := by
  unfold State.markDue
  simp [*]

@[simp] theorem estTransit_but {fs : List Fld} (s : State) (p : BPort) (phase : Nat) (cause : Nat)
    (hest : Fld.est ∈ fs) :
    (State.estTransit s p phase cause).but fs = s.but fs := by
  unfold State.estTransit
  repeat' (first | done | intro _ | split | rw [forEach_but] | rw [foldl_but] | simp +zetaDelta [*, but_ite] | extract_lets | (simp only [State.but, *, if_true]; done))

@[simp] theorem recopy_but {fs : List Fld} (s : State) (p : BPort) (hdeferred : Fld.deferred ∈ fs)
    (hflt : Fld.flt ∈ fs) (hsafeLine : Fld.safeLine ∈ fs) (hhalt : Fld.halt ∈ fs) (hx3 : Fld.x3 ∈ fs)
    (hxing : Fld.xing ∈ fs) (hlog : Fld.log ∈ fs) (hret : Fld.ret ∈ fs) (hdom : Fld.dom ∈ fs)
    (himg : Fld.img ∈ fs) (hfab : Fld.fab ∈ fs) (hgroups : Fld.groups ∈ fs) (hcells : Fld.cells ∈ fs)
    (hculm : Fld.culm ∈ fs) (hbranches : Fld.branches ∈ fs) (hsrc : Fld.src ∈ fs) (hctx : Fld.ctx ∈ fs)
    (hbat : Fld.bat ∈ fs) (hfdr : Fld.fdr ∈ fs) (hchg : Fld.chg ∈ fs) (hest : Fld.est ∈ fs) (hthr : Fld.thr ∈ fs)
    (hawn : Fld.awn ∈ fs) :
    (State.recopy s p).1.but fs = s.but fs := by
  unfold State.recopy
  repeat' (first | done | split | simp +zetaDelta [*] | extract_lets)

@[simp] theorem transit_but {fs : List Fld} (s : State) (p : BPort) (f : Profile → Nat) (cause : Nat)
    (frest : Bool) (hdeferred : Fld.deferred ∈ fs) (hflt : Fld.flt ∈ fs) (hsafeLine : Fld.safeLine ∈ fs)
    (hhalt : Fld.halt ∈ fs) (hx3 : Fld.x3 ∈ fs) (hxing : Fld.xing ∈ fs) (hlog : Fld.log ∈ fs)
    (hret : Fld.ret ∈ fs) (hdom : Fld.dom ∈ fs) (himg : Fld.img ∈ fs) (hfab : Fld.fab ∈ fs)
    (hgroups : Fld.groups ∈ fs) (hcells : Fld.cells ∈ fs) (hculm : Fld.culm ∈ fs) (hbranches : Fld.branches ∈ fs)
    (hsrc : Fld.src ∈ fs) (hctx : Fld.ctx ∈ fs) (hbat : Fld.bat ∈ fs) (hfdr : Fld.fdr ∈ fs) (hchg : Fld.chg ∈ fs)
    (hest : Fld.est ∈ fs) (hthr : Fld.thr ∈ fs) (hawn : Fld.awn ∈ fs) :
    (State.transit s p f cause frest).but fs = s.but fs := by
  have hr : (s.recopy p).1.but fs = s.but fs := by simp [*]
  unfold State.transit
  repeat' (first | done | split | (rename_i h; rw [h] at hr; simp [*]; done) | simp +zetaDelta [*] | extract_lets)

@[simp] theorem requalify_but {fs : List Fld} (s : State) (p : BPort) (cause : Nat)
    (hdeferred : Fld.deferred ∈ fs) (hflt : Fld.flt ∈ fs) (hsafeLine : Fld.safeLine ∈ fs) (hhalt : Fld.halt ∈ fs)
    (hx3 : Fld.x3 ∈ fs) (hxing : Fld.xing ∈ fs) (hlog : Fld.log ∈ fs) (hret : Fld.ret ∈ fs) (hdom : Fld.dom ∈ fs)
    (himg : Fld.img ∈ fs) (hfab : Fld.fab ∈ fs) (hgroups : Fld.groups ∈ fs) (hcells : Fld.cells ∈ fs)
    (hculm : Fld.culm ∈ fs) (hbranches : Fld.branches ∈ fs) (hsrc : Fld.src ∈ fs) (hctx : Fld.ctx ∈ fs)
    (hbat : Fld.bat ∈ fs) (hfdr : Fld.fdr ∈ fs) (hchg : Fld.chg ∈ fs) (hest : Fld.est ∈ fs) (hthr : Fld.thr ∈ fs)
    (hawn : Fld.awn ∈ fs) :
    (State.requalify s p cause).but fs = s.but fs := by
  have hr : (s.recopy p).1.but fs = s.but fs := by simp [*]
  unfold State.requalify
  repeat' (first | done | split | (rename_i h; rw [h] at hr; simp [*]; done) | simp +zetaDelta [*] | extract_lets)

@[simp] theorem qualified_but {fs : List Fld} (s : State) (p : BPort) (w : Profile) (ocv : Int)
    (hdeferred : Fld.deferred ∈ fs) (hflt : Fld.flt ∈ fs) (hsafeLine : Fld.safeLine ∈ fs) (hhalt : Fld.halt ∈ fs)
    (hx3 : Fld.x3 ∈ fs) (hxing : Fld.xing ∈ fs) (hlog : Fld.log ∈ fs) (hret : Fld.ret ∈ fs) (hdom : Fld.dom ∈ fs)
    (himg : Fld.img ∈ fs) (hfab : Fld.fab ∈ fs) (hgroups : Fld.groups ∈ fs) (hcells : Fld.cells ∈ fs)
    (hculm : Fld.culm ∈ fs) (hbranches : Fld.branches ∈ fs) (hsrc : Fld.src ∈ fs) (hctx : Fld.ctx ∈ fs)
    (hbat : Fld.bat ∈ fs) (hfdr : Fld.fdr ∈ fs) (hchg : Fld.chg ∈ fs) (hest : Fld.est ∈ fs) (hthr : Fld.thr ∈ fs)
    (hawn : Fld.awn ∈ fs) :
    (State.qualified s p w ocv).but fs = s.but fs := by
  have hr : (s.recopy p).1.but fs = s.but fs := by simp [*]
  unfold State.qualified
  extract_lets
  split
  · simp [*]
  · split
    · split <;> (rename_i h; rw [h] at hr; simp [*])
    · simp [*]

@[simp] theorem qualifyWith_but {fs : List Fld} (s : State) (p : BPort) (w : Profile) (ocv : Int)
    (hdeferred : Fld.deferred ∈ fs) (hflt : Fld.flt ∈ fs) (hsafeLine : Fld.safeLine ∈ fs) (hhalt : Fld.halt ∈ fs)
    (hx3 : Fld.x3 ∈ fs) (hxing : Fld.xing ∈ fs) (hlog : Fld.log ∈ fs) (hret : Fld.ret ∈ fs) (hdom : Fld.dom ∈ fs)
    (himg : Fld.img ∈ fs) (hfab : Fld.fab ∈ fs) (hgroups : Fld.groups ∈ fs) (hcells : Fld.cells ∈ fs)
    (hculm : Fld.culm ∈ fs) (hbranches : Fld.branches ∈ fs) (hsrc : Fld.src ∈ fs) (hctx : Fld.ctx ∈ fs)
    (hbat : Fld.bat ∈ fs) (hfdr : Fld.fdr ∈ fs) (hchg : Fld.chg ∈ fs) (hest : Fld.est ∈ fs) (hthr : Fld.thr ∈ fs)
    (hawn : Fld.awn ∈ fs) :
    (State.qualifyWith s p w ocv).but fs = s.but fs := by
  unfold State.qualifyWith
  (repeat' split) <;> simp [*]

@[simp] theorem markEq_but {fs : List Fld} (s : State) (p : BPort) (hchg : Fld.chg ∈ fs) :
    (State.markEq s p).but fs = s.but fs := by
  unfold State.markEq
  simp [*]

@[simp] theorem cancelEq_but {fs : List Fld} (s : State) (p : BPort) (hdeferred : Fld.deferred ∈ fs)
    (hflt : Fld.flt ∈ fs) (hsafeLine : Fld.safeLine ∈ fs) (hhalt : Fld.halt ∈ fs) (hx3 : Fld.x3 ∈ fs)
    (hxing : Fld.xing ∈ fs) (hlog : Fld.log ∈ fs) (hret : Fld.ret ∈ fs) (hdom : Fld.dom ∈ fs)
    (himg : Fld.img ∈ fs) (hfab : Fld.fab ∈ fs) (hgroups : Fld.groups ∈ fs) (hcells : Fld.cells ∈ fs)
    (hculm : Fld.culm ∈ fs) (hbranches : Fld.branches ∈ fs) (hsrc : Fld.src ∈ fs) (hctx : Fld.ctx ∈ fs)
    (hbat : Fld.bat ∈ fs) (hfdr : Fld.fdr ∈ fs) (hchg : Fld.chg ∈ fs) (hest : Fld.est ∈ fs) (hthr : Fld.thr ∈ fs)
    (hawn : Fld.awn ∈ fs) :
    (State.cancelEq s p).but fs = s.but fs := by
  unfold State.cancelEq
  extract_lets
  (repeat' split) <;> simp +zetaDelta [*]

@[simp] theorem restartChg_but {fs : List Fld} (s : State) (p : BPort) (hdeferred : Fld.deferred ∈ fs)
    (hflt : Fld.flt ∈ fs) (hsafeLine : Fld.safeLine ∈ fs) (hhalt : Fld.halt ∈ fs) (hx3 : Fld.x3 ∈ fs)
    (hxing : Fld.xing ∈ fs) (hlog : Fld.log ∈ fs) (hret : Fld.ret ∈ fs) (hdom : Fld.dom ∈ fs)
    (himg : Fld.img ∈ fs) (hfab : Fld.fab ∈ fs) (hgroups : Fld.groups ∈ fs) (hcells : Fld.cells ∈ fs)
    (hculm : Fld.culm ∈ fs) (hbranches : Fld.branches ∈ fs) (hsrc : Fld.src ∈ fs) (hctx : Fld.ctx ∈ fs)
    (hbat : Fld.bat ∈ fs) (hfdr : Fld.fdr ∈ fs) (hchg : Fld.chg ∈ fs) (hest : Fld.est ∈ fs) (hthr : Fld.thr ∈ fs)
    (hawn : Fld.awn ∈ fs) :
    (State.restartChg s p).but fs = s.but fs := by
  unfold State.restartChg
  split <;> simp [*]

@[simp] theorem writeChgPctl_but {fs : List Fld} (s : State) (p : BPort) (v : Word)
    (hdeferred : Fld.deferred ∈ fs) (hflt : Fld.flt ∈ fs) (hsafeLine : Fld.safeLine ∈ fs) (hhalt : Fld.halt ∈ fs)
    (hx3 : Fld.x3 ∈ fs) (hxing : Fld.xing ∈ fs) (hlog : Fld.log ∈ fs) (hret : Fld.ret ∈ fs) (hdom : Fld.dom ∈ fs)
    (himg : Fld.img ∈ fs) (hfab : Fld.fab ∈ fs) (hgroups : Fld.groups ∈ fs) (hcells : Fld.cells ∈ fs)
    (hculm : Fld.culm ∈ fs) (hbranches : Fld.branches ∈ fs) (hsrc : Fld.src ∈ fs) (hctx : Fld.ctx ∈ fs)
    (hbat : Fld.bat ∈ fs) (hfdr : Fld.fdr ∈ fs) (hchg : Fld.chg ∈ fs) (hest : Fld.est ∈ fs) (hthr : Fld.thr ∈ fs)
    (hawn : Fld.awn ∈ fs) :
    (State.writeChgPctl s p v).but fs = s.but fs := by
  unfold State.writeChgPctl
  (repeat' split) <;> simp [*]

@[simp] theorem tempLost_but {fs : List Fld} (s : State) (p : BPort) (hdeferred : Fld.deferred ∈ fs)
    (hflt : Fld.flt ∈ fs) (hsafeLine : Fld.safeLine ∈ fs) (hhalt : Fld.halt ∈ fs) (hx3 : Fld.x3 ∈ fs)
    (hxing : Fld.xing ∈ fs) (hlog : Fld.log ∈ fs) (hret : Fld.ret ∈ fs) (hdom : Fld.dom ∈ fs)
    (himg : Fld.img ∈ fs) (hfab : Fld.fab ∈ fs) (hgroups : Fld.groups ∈ fs) (hcells : Fld.cells ∈ fs)
    (hculm : Fld.culm ∈ fs) (hbranches : Fld.branches ∈ fs) (hsrc : Fld.src ∈ fs) (hctx : Fld.ctx ∈ fs)
    (hbat : Fld.bat ∈ fs) (hfdr : Fld.fdr ∈ fs) (hchg : Fld.chg ∈ fs) (hest : Fld.est ∈ fs) (hthr : Fld.thr ∈ fs)
    (hawn : Fld.awn ∈ fs) :
    (State.tempLost s p).but fs = s.but fs := by
  unfold State.tempLost
  (repeat' split) <;> simp [*]

@[simp] theorem kneeAnswer_but {fs : List Fld} (s : State) (p : BPort) (a : Knee) (hdeferred : Fld.deferred ∈ fs)
    (hflt : Fld.flt ∈ fs) (hsafeLine : Fld.safeLine ∈ fs) (hhalt : Fld.halt ∈ fs) (hx3 : Fld.x3 ∈ fs)
    (hxing : Fld.xing ∈ fs) (hlog : Fld.log ∈ fs) (hret : Fld.ret ∈ fs) (hdom : Fld.dom ∈ fs)
    (himg : Fld.img ∈ fs) (hfab : Fld.fab ∈ fs) (hgroups : Fld.groups ∈ fs) (hcells : Fld.cells ∈ fs)
    (hculm : Fld.culm ∈ fs) (hbranches : Fld.branches ∈ fs) (hsrc : Fld.src ∈ fs) (hctx : Fld.ctx ∈ fs)
    (hbat : Fld.bat ∈ fs) (hfdr : Fld.fdr ∈ fs) (hchg : Fld.chg ∈ fs) (hest : Fld.est ∈ fs) (hthr : Fld.thr ∈ fs)
    (hawn : Fld.awn ∈ fs) :
    (State.kneeAnswer s p a).but fs = s.but fs := by
  unfold State.kneeAnswer
  repeat' (first | done | intro _ | split | rw [forEach_but] | rw [foldl_but] | simp +zetaDelta [*, but_ite] | extract_lets | (simp only [State.but, *, if_true]; done))

@[simp] theorem candidate_but {fs : List Fld} (s : State) (p : BPort) (cause : Nat)
    (hdeferred : Fld.deferred ∈ fs) (hflt : Fld.flt ∈ fs) (hsafeLine : Fld.safeLine ∈ fs) (hhalt : Fld.halt ∈ fs)
    (hx3 : Fld.x3 ∈ fs) (hxing : Fld.xing ∈ fs) (hlog : Fld.log ∈ fs) (hret : Fld.ret ∈ fs) (hdom : Fld.dom ∈ fs)
    (himg : Fld.img ∈ fs) (hfab : Fld.fab ∈ fs) (hgroups : Fld.groups ∈ fs) (hcells : Fld.cells ∈ fs)
    (hculm : Fld.culm ∈ fs) (hbranches : Fld.branches ∈ fs) (hsrc : Fld.src ∈ fs) (hctx : Fld.ctx ∈ fs)
    (hbat : Fld.bat ∈ fs) (hfdr : Fld.fdr ∈ fs) (hchg : Fld.chg ∈ fs) (hest : Fld.est ∈ fs) (hthr : Fld.thr ∈ fs)
    (hawn : Fld.awn ∈ fs) :
    (State.candidate s p cause).but fs = s.but fs := by
  unfold State.candidate
  (repeat' split) <;> simp [*]

@[simp] theorem writeElo_but {fs : List Fld} (s : State) (n : Nat) (v : Word) (hprofIO : Fld.profIO ∈ fs) :
    (State.writeElo s n v).but fs = s.but fs := by
  unfold State.writeElo
  simp [*]

@[simp] theorem putEntry_but {fs : List Fld} (s : State) (n : Nat) (w : BitVec 64) (hprof : Fld.prof ∈ fs) :
    (State.putEntry s n w).but fs = s.but fs := by
  unfold State.putEntry
  repeat' (first | done | intro _ | split | rw [forEach_but] | rw [foldl_but] | simp +zetaDelta [*, but_ite] | extract_lets | (simp only [State.but, *, if_true]; done))

@[simp] theorem entries_but {fs : List Fld} (s : State) (hprof : Fld.prof ∈ fs) :
    (State.entries s).but fs = s.but fs := by
  unfold State.entries
  repeat' (first | done | intro _ | split | rw [forEach_but] | rw [foldl_but] | simp +zetaDelta [*, but_ite] | extract_lets | (simp only [State.but, *, if_true]; done))

@[simp] theorem writeEhi_but {fs : List Fld} (s : State) (n : Nat) (v : Word) (hdeferred : Fld.deferred ∈ fs)
    (hprofIO : Fld.profIO ∈ fs) :
    (State.writeEhi s n v).but fs = s.but fs := by
  unfold State.writeEhi
  repeat' (first | done | intro _ | split | rw [forEach_but] | rw [foldl_but] | simp +zetaDelta [*, but_ite] | extract_lets | (simp only [State.but, *, if_true]; done))

@[simp] theorem readElo_but {fs : List Fld} (s : State) (n : Nat) (hprofIO : Fld.profIO ∈ fs) :
    (State.readElo s n).but fs = s.but fs := by
  unfold State.readElo
  simp [*]

@[simp] theorem checkProfile_but {fs : List Fld} (s : State) (ref : Nat) (hprofIO : Fld.profIO ∈ fs) :
    (State.checkProfile s ref).but fs = s.but fs := by
  unfold State.checkProfile
  simp [*]

@[simp] theorem startSweep_but {fs : List Fld} (s : State) (p : BPort) (hest : Fld.est ∈ fs) :
    (State.startSweep s p).but fs = s.but fs := by
  unfold State.startSweep
  extract_lets
  (repeat' split) <;> simp +zetaDelta [*]

@[simp] theorem nextPoint_but {fs : List Fld} (s : State) (p : BPort) (hest : Fld.est ∈ fs) :
    (State.nextPoint s p).but fs = s.but fs := by
  unfold State.nextPoint
  simp [*]

@[simp] theorem badPoint_but {fs : List Fld} (s : State) (p : BPort) (k : Fin 15) (hest : Fld.est ∈ fs) :
    (State.badPoint s p k).but fs = s.but fs := by
  unfold State.badPoint
  simp [*]

@[simp] theorem goodPoint_but {fs : List Fld} (s : State) (p : BPort) (k : Fin 15) (re : Int) (im : Int)
    (hest : Fld.est ∈ fs) :
    (State.goodPoint s p k re im).but fs = s.but fs := by
  unfold State.goodPoint
  simp [*]

@[simp] theorem repeatPoint_but {fs : List Fld} (s : State) (p : BPort) (again : Bool) (half : Bool)
    (hest : Fld.est ∈ fs) :
    (State.repeatPoint s p again half).but fs = s.but fs := by
  unfold State.repeatPoint
  simp [*]

@[simp] theorem kneeUnavailable_but {fs : List Fld} (s : State) (p : BPort) (hdeferred : Fld.deferred ∈ fs)
    (hflt : Fld.flt ∈ fs) (hsafeLine : Fld.safeLine ∈ fs) (hhalt : Fld.halt ∈ fs) (hx3 : Fld.x3 ∈ fs)
    (hxing : Fld.xing ∈ fs) (hlog : Fld.log ∈ fs) (hret : Fld.ret ∈ fs) (hdom : Fld.dom ∈ fs)
    (himg : Fld.img ∈ fs) (hfab : Fld.fab ∈ fs) (hgroups : Fld.groups ∈ fs) (hcells : Fld.cells ∈ fs)
    (hculm : Fld.culm ∈ fs) (hbranches : Fld.branches ∈ fs) (hsrc : Fld.src ∈ fs) (hctx : Fld.ctx ∈ fs)
    (hbat : Fld.bat ∈ fs) (hfdr : Fld.fdr ∈ fs) (hchg : Fld.chg ∈ fs) (hest : Fld.est ∈ fs) (hthr : Fld.thr ∈ fs)
    (hawn : Fld.awn ∈ fs) :
    (State.kneeUnavailable s p).but fs = s.but fs := by
  unfold State.kneeUnavailable
  split <;> simp [*]

@[simp] theorem estRemoved_but {fs : List Fld} (s : State) (p : BPort) (hdeferred : Fld.deferred ∈ fs)
    (hflt : Fld.flt ∈ fs) (hsafeLine : Fld.safeLine ∈ fs) (hhalt : Fld.halt ∈ fs) (hx3 : Fld.x3 ∈ fs)
    (hxing : Fld.xing ∈ fs) (hlog : Fld.log ∈ fs) (hret : Fld.ret ∈ fs) (hdom : Fld.dom ∈ fs)
    (himg : Fld.img ∈ fs) (hfab : Fld.fab ∈ fs) (hgroups : Fld.groups ∈ fs) (hcells : Fld.cells ∈ fs)
    (hculm : Fld.culm ∈ fs) (hbranches : Fld.branches ∈ fs) (hsrc : Fld.src ∈ fs) (hctx : Fld.ctx ∈ fs)
    (hbat : Fld.bat ∈ fs) (hfdr : Fld.fdr ∈ fs) (hchg : Fld.chg ∈ fs) (hest : Fld.est ∈ fs) (hthr : Fld.thr ∈ fs)
    (hawn : Fld.awn ∈ fs) :
    (State.estRemoved s p).but fs = s.but fs := by
  unfold State.estRemoved
  simp [*]

@[simp] theorem beginBaseline_but {fs : List Fld} (s : State) (p : BPort) (hest : Fld.est ∈ fs) :
    (State.beginBaseline s p).but fs = s.but fs := by
  unfold State.beginBaseline
  repeat' (first | done | intro _ | split | rw [forEach_but] | rw [foldl_but] | simp +zetaDelta [*, but_ite] | extract_lets | (simp only [State.but, *, if_true]; done))

@[simp] theorem discardKnee_but {fs : List Fld} (s : State) (p : BPort) (hdeferred : Fld.deferred ∈ fs)
    (hflt : Fld.flt ∈ fs) (hsafeLine : Fld.safeLine ∈ fs) (hhalt : Fld.halt ∈ fs) (hx3 : Fld.x3 ∈ fs)
    (hxing : Fld.xing ∈ fs) (hlog : Fld.log ∈ fs) (hret : Fld.ret ∈ fs) (hdom : Fld.dom ∈ fs)
    (himg : Fld.img ∈ fs) (hfab : Fld.fab ∈ fs) (hgroups : Fld.groups ∈ fs) (hcells : Fld.cells ∈ fs)
    (hculm : Fld.culm ∈ fs) (hbranches : Fld.branches ∈ fs) (hsrc : Fld.src ∈ fs) (hctx : Fld.ctx ∈ fs)
    (hbat : Fld.bat ∈ fs) (hfdr : Fld.fdr ∈ fs) (hchg : Fld.chg ∈ fs) (hest : Fld.est ∈ fs) (hthr : Fld.thr ∈ fs)
    (hawn : Fld.awn ∈ fs) :
    (State.discardKnee s p).but fs = s.but fs := by
  unfold State.discardKnee
  repeat' (first | done | intro _ | split | rw [forEach_but] | rw [foldl_but] | simp +zetaDelta [*, but_ite] | extract_lets | (simp only [State.but, *, if_true]; done))

@[simp] theorem discardWork_but {fs : List Fld} (s : State) (p : BPort) (us : Nat) (hdeferred : Fld.deferred ∈ fs)
    (hflt : Fld.flt ∈ fs) (hsafeLine : Fld.safeLine ∈ fs) (hhalt : Fld.halt ∈ fs) (hx3 : Fld.x3 ∈ fs)
    (hxing : Fld.xing ∈ fs) (hlog : Fld.log ∈ fs) (hret : Fld.ret ∈ fs) (hdom : Fld.dom ∈ fs)
    (himg : Fld.img ∈ fs) (hfab : Fld.fab ∈ fs) (hgroups : Fld.groups ∈ fs) (hcells : Fld.cells ∈ fs)
    (hculm : Fld.culm ∈ fs) (hbranches : Fld.branches ∈ fs) (hsrc : Fld.src ∈ fs) (hctx : Fld.ctx ∈ fs)
    (hbat : Fld.bat ∈ fs) (hfdr : Fld.fdr ∈ fs) (hchg : Fld.chg ∈ fs) (hest : Fld.est ∈ fs) (hthr : Fld.thr ∈ fs)
    (hawn : Fld.awn ∈ fs) :
    (State.discardWork s p us).but fs = s.but fs := by
  unfold State.discardWork
  repeat' (first | done | intro _ | split | rw [forEach_but] | rw [foldl_but] | simp +zetaDelta [*, but_ite] | extract_lets | (simp only [State.but, *, if_true]; done))

@[simp] theorem orderSweep_but {fs : List Fld} (s : State) (p : BPort) (hest : Fld.est ∈ fs) :
    (State.orderSweep s p).but fs = s.but fs := by
  unfold State.orderSweep
  split <;> simp [*]

@[simp] theorem abortEst_but {fs : List Fld} (s : State) (p : BPort) (hest : Fld.est ∈ fs) :
    (State.abortEst s p).but fs = s.but fs := by
  unfold State.abortEst
  (repeat' split) <;> simp [*]

@[simp] theorem newBattery_but {fs : List Fld} (s : State) (p : BPort) (hrw : Fld.rw ∈ fs) (hret : Fld.ret ∈ fs)
    (hest : Fld.est ∈ fs) :
    (State.newBattery s p).but fs = s.but fs := by
  unfold State.newBattery
  simp [*]

@[simp] theorem writeEstPctl_but {fs : List Fld} (s : State) (p : BPort) (v : Word) (hrw : Fld.rw ∈ fs)
    (hret : Fld.ret ∈ fs) (hest : Fld.est ∈ fs) :
    (State.writeEstPctl s p v).but fs = s.but fs := by
  unfold State.writeEstPctl
  (repeat' split) <;> simp [*]

@[simp] theorem enterQest_but {fs : List Fld} (s : State) (p : BPort) (ah : Nat) (hest : Fld.est ∈ fs) :
    (State.enterQest s p ah).but fs = s.but fs := by
  unfold State.enterQest
  simp [*]

@[simp] theorem correctRest_but {fs : List Fld} (s : State) (p : BPort) (chem : Nat) (vCell01 : Int)
    (hest : Fld.est ∈ fs) :
    (State.correctRest s p chem vCell01).but fs = s.but fs := by
  unfold State.correctRest
  repeat' (first | done | intro _ | split | rw [forEach_but] | rw [foldl_but] | simp +zetaDelta [*, but_ite] | extract_lets | (simp only [State.but, *, if_true]; done))

@[simp] theorem correctFull_but {fs : List Fld} (s : State) (p : BPort) (chem : Nat)
    (hdeferred : Fld.deferred ∈ fs) (hflt : Fld.flt ∈ fs) (hsafeLine : Fld.safeLine ∈ fs) (hhalt : Fld.halt ∈ fs)
    (hx3 : Fld.x3 ∈ fs) (hxing : Fld.xing ∈ fs) (hlog : Fld.log ∈ fs) (hret : Fld.ret ∈ fs) (hdom : Fld.dom ∈ fs)
    (himg : Fld.img ∈ fs) (hfab : Fld.fab ∈ fs) (hgroups : Fld.groups ∈ fs) (hcells : Fld.cells ∈ fs)
    (hculm : Fld.culm ∈ fs) (hbranches : Fld.branches ∈ fs) (hsrc : Fld.src ∈ fs) (hctx : Fld.ctx ∈ fs)
    (hbat : Fld.bat ∈ fs) (hfdr : Fld.fdr ∈ fs) (hchg : Fld.chg ∈ fs) (hest : Fld.est ∈ fs) (hthr : Fld.thr ∈ fs)
    (hawn : Fld.awn ∈ fs) :
    (State.correctFull s p chem).but fs = s.but fs := by
  unfold State.correctFull
  extract_lets
  (repeat' split) <;> simp +zetaDelta [*]

@[simp] theorem correctCut_but {fs : List Fld} (s : State) (p : BPort) (hest : Fld.est ∈ fs) :
    (State.correctCut s p).but fs = s.but fs := by
  unfold State.correctCut
  split <;> simp [*]

@[simp] theorem correctDue_but {fs : List Fld} (s : State) (p : BPort) (hdeferred : Fld.deferred ∈ fs)
    (hflt : Fld.flt ∈ fs) (hsafeLine : Fld.safeLine ∈ fs) (hhalt : Fld.halt ∈ fs) (hx3 : Fld.x3 ∈ fs)
    (hxing : Fld.xing ∈ fs) (hlog : Fld.log ∈ fs) (hret : Fld.ret ∈ fs) (hdom : Fld.dom ∈ fs)
    (himg : Fld.img ∈ fs) (hfab : Fld.fab ∈ fs) (hgroups : Fld.groups ∈ fs) (hcells : Fld.cells ∈ fs)
    (hculm : Fld.culm ∈ fs) (hbranches : Fld.branches ∈ fs) (hsrc : Fld.src ∈ fs) (hctx : Fld.ctx ∈ fs)
    (hbat : Fld.bat ∈ fs) (hfdr : Fld.fdr ∈ fs) (hchg : Fld.chg ∈ fs) (hest : Fld.est ∈ fs) (hthr : Fld.thr ∈ fs)
    (hawn : Fld.awn ∈ fs) :
    (State.correctDue s p).but fs = s.but fs := by
  unfold State.correctDue
  (repeat' split) <;> simp [*]

@[simp] theorem restoreHistory_but {fs : List Fld} (s : State) (p : BPort) (v : Nat) (hrw : Fld.rw ∈ fs)
    (hest : Fld.est ∈ fs) :
    (State.restoreHistory s p v).but fs = s.but fs := by
  unfold State.restoreHistory
  repeat' (first | done | intro _ | split | rw [forEach_but] | rw [foldl_but] | simp +zetaDelta [*, but_ite] | extract_lets | (simp only [State.but, *, if_true]; done))

@[simp] theorem followEst_but {fs : List Fld} (s : State) (p : BPort) (hdeferred : Fld.deferred ∈ fs)
    (hflt : Fld.flt ∈ fs) (hsafeLine : Fld.safeLine ∈ fs) (hhalt : Fld.halt ∈ fs) (hx3 : Fld.x3 ∈ fs)
    (hxing : Fld.xing ∈ fs) (hlog : Fld.log ∈ fs) (hret : Fld.ret ∈ fs) (hdom : Fld.dom ∈ fs)
    (himg : Fld.img ∈ fs) (hfab : Fld.fab ∈ fs) (hgroups : Fld.groups ∈ fs) (hcells : Fld.cells ∈ fs)
    (hculm : Fld.culm ∈ fs) (hbranches : Fld.branches ∈ fs) (hsrc : Fld.src ∈ fs) (hctx : Fld.ctx ∈ fs)
    (hbat : Fld.bat ∈ fs) (hfdr : Fld.fdr ∈ fs) (hchg : Fld.chg ∈ fs) (hest : Fld.est ∈ fs) (hthr : Fld.thr ∈ fs)
    (hawn : Fld.awn ∈ fs) :
    (State.followEst s p).but fs = s.but fs := by
  unfold State.followEst
  repeat' (first | done | intro _ | split | rw [forEach_but] | rw [foldl_but] | simp +zetaDelta [*, but_ite] | extract_lets | (simp only [State.but, *, if_true]; done))

@[simp] theorem followEsts_but {fs : List Fld} (s : State) (hdeferred : Fld.deferred ∈ fs) (hflt : Fld.flt ∈ fs)
    (hsafeLine : Fld.safeLine ∈ fs) (hhalt : Fld.halt ∈ fs) (hx3 : Fld.x3 ∈ fs) (hxing : Fld.xing ∈ fs)
    (hlog : Fld.log ∈ fs) (hret : Fld.ret ∈ fs) (hdom : Fld.dom ∈ fs) (himg : Fld.img ∈ fs) (hfab : Fld.fab ∈ fs)
    (hgroups : Fld.groups ∈ fs) (hcells : Fld.cells ∈ fs) (hculm : Fld.culm ∈ fs) (hbranches : Fld.branches ∈ fs)
    (hsrc : Fld.src ∈ fs) (hctx : Fld.ctx ∈ fs) (hbat : Fld.bat ∈ fs) (hfdr : Fld.fdr ∈ fs) (hchg : Fld.chg ∈ fs)
    (hest : Fld.est ∈ fs) (hthr : Fld.thr ∈ fs) (hawn : Fld.awn ∈ fs) :
    (State.followEsts s).but fs = s.but fs := by
  unfold State.followEsts
  simp [*]

@[simp] theorem absent_but {fs : List Fld} (s : State) (p : BPort) (underCurrent : Bool) (clampE : Nat)
    (hdeferred : Fld.deferred ∈ fs) (hflt : Fld.flt ∈ fs) (hsafeLine : Fld.safeLine ∈ fs) (hhalt : Fld.halt ∈ fs)
    (hx3 : Fld.x3 ∈ fs) (hxing : Fld.xing ∈ fs) (hlog : Fld.log ∈ fs) (hret : Fld.ret ∈ fs) (hdom : Fld.dom ∈ fs)
    (himg : Fld.img ∈ fs) (hfab : Fld.fab ∈ fs) (hgroups : Fld.groups ∈ fs) (hcells : Fld.cells ∈ fs)
    (hculm : Fld.culm ∈ fs) (hbranches : Fld.branches ∈ fs) (hsrc : Fld.src ∈ fs) (hctx : Fld.ctx ∈ fs)
    (hbat : Fld.bat ∈ fs) (hfdr : Fld.fdr ∈ fs) (hchg : Fld.chg ∈ fs) (hest : Fld.est ∈ fs) (hthr : Fld.thr ∈ fs)
    (hawn : Fld.awn ∈ fs) :
    (State.absent s p underCurrent clampE).but fs = s.but fs := by
  unfold State.absent
  (repeat' split) <;> simp [*]

@[simp] theorem rampOut_but {fs : List Fld} (p : BPort) (s : State) (c : Ctx) (hctx : Fld.ctx ∈ fs) :
    (State.rampOut p s c).but fs = s.but fs := by
  unfold State.rampOut
  extract_lets
  (repeat' split) <;> simp +zetaDelta [*]

@[simp] theorem isolate_but {fs : List Fld} (s : State) (p : BPort) (hgroups : Fld.groups ∈ fs)
    (hctx : Fld.ctx ∈ fs) (hbat : Fld.bat ∈ fs) (hchg : Fld.chg ∈ fs) :
    (State.isolate s p).but fs = s.but fs := by
  unfold State.isolate
  split <;> simp [*]

@[simp] theorem connect_but {fs : List Fld} (s : State) (p : BPort) (hbat : Fld.bat ∈ fs) :
    (State.connect s p).but fs = s.but fs := by
  unfold State.connect
  split <;> simp [*]

@[simp] theorem rearmBat_but {fs : List Fld} (s : State) (p : BPort) (hbat : Fld.bat ∈ fs) :
    (State.rearmBat s p).but fs = s.but fs := by
  unfold State.rearmBat
  split <;> simp [*]

@[simp] theorem writeBatPctl_but {fs : List Fld} (s : State) (p : BPort) (v : Word) (hgroups : Fld.groups ∈ fs)
    (hctx : Fld.ctx ∈ fs) (hbat : Fld.bat ∈ fs) (hchg : Fld.chg ∈ fs) :
    (State.writeBatPctl s p v).but fs = s.but fs := by
  unfold State.writeBatPctl
  (repeat' split) <;> simp [*]

@[simp] theorem ntcUnused_but {fs : List Fld} (s : State) (p : BPort) (hdeferred : Fld.deferred ∈ fs)
    (hflt : Fld.flt ∈ fs) (hsafeLine : Fld.safeLine ∈ fs) (hhalt : Fld.halt ∈ fs) (hx3 : Fld.x3 ∈ fs)
    (hxing : Fld.xing ∈ fs) (hlog : Fld.log ∈ fs) (hret : Fld.ret ∈ fs) (hdom : Fld.dom ∈ fs)
    (himg : Fld.img ∈ fs) (hfab : Fld.fab ∈ fs) (hgroups : Fld.groups ∈ fs) (hcells : Fld.cells ∈ fs)
    (hculm : Fld.culm ∈ fs) (hbranches : Fld.branches ∈ fs) (hsrc : Fld.src ∈ fs) (hctx : Fld.ctx ∈ fs)
    (hbat : Fld.bat ∈ fs) (hfdr : Fld.fdr ∈ fs) (hchg : Fld.chg ∈ fs) (hest : Fld.est ∈ fs) (hthr : Fld.thr ∈ fs)
    (hawn : Fld.awn ∈ fs) :
    (State.ntcUnused s p).but fs = s.but fs := by
  unfold State.ntcUnused
  simp [*]

@[simp] theorem sampleSensor_but {fs : List Fld} (raw : Vector Int 48) (s : State) (k : Sensor)
    (hdeferred : Fld.deferred ∈ fs) (hflt : Fld.flt ∈ fs) (hsafeLine : Fld.safeLine ∈ fs) (hhalt : Fld.halt ∈ fs)
    (hx3 : Fld.x3 ∈ fs) (hxing : Fld.xing ∈ fs) (hlog : Fld.log ∈ fs) (hret : Fld.ret ∈ fs) (hdom : Fld.dom ∈ fs)
    (himg : Fld.img ∈ fs) (hfab : Fld.fab ∈ fs) (hgroups : Fld.groups ∈ fs) (hcells : Fld.cells ∈ fs)
    (hculm : Fld.culm ∈ fs) (hbranches : Fld.branches ∈ fs) (hsrc : Fld.src ∈ fs) (hctx : Fld.ctx ∈ fs)
    (hbat : Fld.bat ∈ fs) (hfdr : Fld.fdr ∈ fs) (hchg : Fld.chg ∈ fs) (hest : Fld.est ∈ fs) (hthm : Fld.thm ∈ fs)
    (hthr : Fld.thr ∈ fs) (hawn : Fld.awn ∈ fs) :
    (State.sampleSensor raw s k).but fs = s.but fs := by
  unfold State.sampleSensor
  extract_lets
  (repeat' split) <;> simp +zetaDelta [*]

@[simp] theorem substituteAll_but {fs : List Fld} (s : State) (hfreeN : Fld.freeN ∈ fs) (hthm : Fld.thm ∈ fs) :
    (State.substituteAll s).but fs = s.but fs := by
  unfold State.substituteAll
  simp [*]

@[simp] theorem formMax_but {fs : List Fld} (s : State) (hthm : Fld.thm ∈ fs) :
    (State.formMax s).but fs = s.but fs := by
  unfold State.formMax
  extract_lets
  (repeat' split) <;> simp +zetaDelta [*]

@[simp] theorem correctRef_but {fs : List Fld} (s : State) (hthm : Fld.thm ∈ fs) :
    (State.correctRef s).but fs = s.but fs := by
  unfold State.correctRef
  simp [*]

@[simp] theorem predict_but {fs : List Fld} (s : State) (hthm : Fld.thm ∈ fs) :
    (State.predict s).but fs = s.but fs := by
  unfold State.predict
  simp [*]

@[simp] theorem updateNodes_but {fs : List Fld} (s : State) (hthm : Fld.thm ∈ fs) :
    (State.updateNodes s).but fs = s.but fs := by
  unfold State.updateNodes
  simp [*]

@[simp] theorem judgeModel_but {fs : List Fld} (s : State) (hthm : Fld.thm ∈ fs) :
    (State.judgeModel s).but fs = s.but fs := by
  unfold State.judgeModel
  simp [*]

@[simp] theorem modelUpdate_but {fs : List Fld} (s : State) (hthm : Fld.thm ∈ fs) :
    (State.modelUpdate s).but fs = s.but fs := by
  unfold State.modelUpdate
  simp [*]

@[simp] theorem modelStart_but {fs : List Fld} (s : State) (hthm : Fld.thm ∈ fs) :
    (State.modelStart s).but fs = s.but fs := by
  unfold State.modelStart
  repeat' (first | done | intro _ | split | rw [forEach_but] | rw [foldl_but] | simp +zetaDelta [*, but_ite] | extract_lets | (simp only [State.but, *, if_true]; done))

@[simp] theorem modelRecovery_but {fs : List Fld} (s : State) (hflt : Fld.flt ∈ fs) (hthm : Fld.thm ∈ fs) :
    (State.modelRecovery s).but fs = s.but fs := by
  unfold State.modelRecovery
  (repeat' split) <;> simp [*]

@[simp] theorem beginHold_but {fs : List Fld} (s : State) (hnvs : Fld.nvs ∈ fs) (hthm : Fld.thm ∈ fs) :
    (State.beginHold s).but fs = s.but fs := by
  unfold State.beginHold
  simp [*]

@[simp] theorem endHold_but {fs : List Fld} (s : State) (himg : Fld.img ∈ fs) (hnvs : Fld.nvs ∈ fs)
    (hthm : Fld.thm ∈ fs) :
    (State.endHold s).but fs = s.but fs := by
  unfold State.endHold
  simp [*]

@[simp] theorem thresholds_but {fs : List Fld} (s : State) (hdeferred : Fld.deferred ∈ fs) (hflt : Fld.flt ∈ fs)
    (hsafeLine : Fld.safeLine ∈ fs) (hhalt : Fld.halt ∈ fs) (hx3 : Fld.x3 ∈ fs) (hxing : Fld.xing ∈ fs)
    (hlog : Fld.log ∈ fs) (hret : Fld.ret ∈ fs) (hdom : Fld.dom ∈ fs) (himg : Fld.img ∈ fs) (hnvs : Fld.nvs ∈ fs)
    (hfab : Fld.fab ∈ fs) (hgroups : Fld.groups ∈ fs) (hcells : Fld.cells ∈ fs) (hculm : Fld.culm ∈ fs)
    (hbranches : Fld.branches ∈ fs) (hsrc : Fld.src ∈ fs) (hctx : Fld.ctx ∈ fs) (hbat : Fld.bat ∈ fs)
    (hfdr : Fld.fdr ∈ fs) (hchg : Fld.chg ∈ fs) (hest : Fld.est ∈ fs) (hthm : Fld.thm ∈ fs) (hthr : Fld.thr ∈ fs)
    (hawn : Fld.awn ∈ fs) :
    (State.thresholds s).but fs = s.but fs := by
  unfold State.thresholds
  repeat' (first | done | intro _ | split | rw [forEach_but] | rw [foldl_but] | simp +zetaDelta [*, but_ite] | extract_lets | (simp only [State.but, *, if_true]; done))

@[simp] theorem throttleSample_but {fs : List Fld} (s : State) (hthm : Fld.thm ∈ fs) :
    (State.throttleSample s).but fs = s.but fs := by
  unfold State.throttleSample
  extract_lets
  (repeat' split) <;> simp +zetaDelta [*]

@[simp] theorem shutdownSample_but {fs : List Fld} (s : State) (hdeferred : Fld.deferred ∈ fs)
    (hflt : Fld.flt ∈ fs) (hsafeLine : Fld.safeLine ∈ fs) (hhalt : Fld.halt ∈ fs) (hx3 : Fld.x3 ∈ fs)
    (hxing : Fld.xing ∈ fs) (hlog : Fld.log ∈ fs) (hret : Fld.ret ∈ fs) (hdom : Fld.dom ∈ fs)
    (himg : Fld.img ∈ fs) (hfab : Fld.fab ∈ fs) (hgroups : Fld.groups ∈ fs) (hcells : Fld.cells ∈ fs)
    (hculm : Fld.culm ∈ fs) (hbranches : Fld.branches ∈ fs) (hsrc : Fld.src ∈ fs) (hctx : Fld.ctx ∈ fs)
    (hbat : Fld.bat ∈ fs) (hfdr : Fld.fdr ∈ fs) (hchg : Fld.chg ∈ fs) (hest : Fld.est ∈ fs) (hthm : Fld.thm ∈ fs)
    (hthr : Fld.thr ∈ fs) (hawn : Fld.awn ∈ fs) :
    (State.shutdownSample s).but fs = s.but fs := by
  unfold State.shutdownSample
  (repeat' split) <;> simp [*]

@[simp] theorem supplyHot_but {fs : List Fld} (s : State) (himg : Fld.img ∈ fs) (hculm : Fld.culm ∈ fs)
    (hbranches : Fld.branches ∈ fs) :
    (State.supplyHot s).but fs = s.but fs := by
  unfold State.supplyHot
  extract_lets
  (repeat' split) <;> simp +zetaDelta [*]

@[simp] theorem runFans_but {fs : List Fld} (s : State) (hthm : Fld.thm ∈ fs) :
    (State.runFans s).but fs = s.but fs := by
  unfold State.runFans
  split <;> simp [*]

@[simp] theorem fanSpeeds_but {fs : List Fld} (s : State) (hfreeN : Fld.freeN ∈ fs) (hthm : Fld.thm ∈ fs) :
    (State.fanSpeeds s).but fs = s.but fs := by
  unfold State.fanSpeeds
  repeat' (first | done | intro _ | split | rw [forEach_but] | rw [foldl_but] | simp +zetaDelta [*, but_ite] | extract_lets | (simp only [State.but, *, if_true]; done))

@[simp] theorem deferCool_but {fs : List Fld} (s : State) (hthr : Fld.thr ∈ fs) :
    (State.deferCool s).but fs = s.but fs := by
  unfold State.deferCool
  repeat' (first | done | intro _ | split | rw [forEach_but] | rw [foldl_but] | simp +zetaDelta [*, but_ite] | extract_lets | (simp only [State.but, *, if_true]; done))

@[simp] theorem retryFailed_but {fs : List Fld} (s : State) (k : Sensor) (cause : Nat) (count : Bool)
    (hfreeN : Fld.freeN ∈ fs) (hdeferred : Fld.deferred ∈ fs) (hflt : Fld.flt ∈ fs)
    (hsafeLine : Fld.safeLine ∈ fs) (hhalt : Fld.halt ∈ fs) (hx3 : Fld.x3 ∈ fs) (hxing : Fld.xing ∈ fs)
    (hlog : Fld.log ∈ fs) (hret : Fld.ret ∈ fs) (hdom : Fld.dom ∈ fs) (himg : Fld.img ∈ fs) (hfab : Fld.fab ∈ fs)
    (hgroups : Fld.groups ∈ fs) (hcells : Fld.cells ∈ fs) (hculm : Fld.culm ∈ fs) (hbranches : Fld.branches ∈ fs)
    (hsrc : Fld.src ∈ fs) (hctx : Fld.ctx ∈ fs) (hbat : Fld.bat ∈ fs) (hfdr : Fld.fdr ∈ fs) (hchg : Fld.chg ∈ fs)
    (hest : Fld.est ∈ fs) (hthm : Fld.thm ∈ fs) (hthr : Fld.thr ∈ fs) (hawn : Fld.awn ∈ fs) :
    (State.retryFailed s k cause count).but fs = s.but fs := by
  unfold State.retryFailed
  simp [*]

@[simp] theorem takeFloor_but {fs : List Fld} (s : State) (hthm : Fld.thm ∈ fs) :
    (State.takeFloor s).but fs = s.but fs := by
  unfold State.takeFloor
  repeat' (first | done | intro _ | split | rw [forEach_but] | rw [foldl_but] | simp +zetaDelta [*, but_ite] | extract_lets | (simp only [State.but, *, if_true]; done))

end Sys2Proof.Machine
end

