-- ==== Sys2Proof/Laws/FrameControl.lean ====
section
/-!
SUPPORT. What the limits, the round of Thresher and the links change of the state: each operation leaves every field that its lemma does not name.
-/

namespace Sys2Proof.Machine

set_option linter.unusedTactic false
set_option linter.unreachableTactic false
set_option linter.unusedSimpArgs false
set_option linter.unusedVariables false

@[simp] theorem wantSweep_but {fs : List Fld} (s : State) (p : SPort) (hsrc : Fld.src ∈ fs) :
    (State.wantSweep s p).but fs = s.but fs := by
  unfold State.wantSweep
  extract_lets
  (repeat' split) <;> simp +zetaDelta [*]

@[simp] theorem retrySweep_but {fs : List Fld} (s : State) (p : SPort) (hsrc : Fld.src ∈ fs) :
    (State.retrySweep s p).but fs = s.but fs := by
  unfold State.retrySweep
  split <;> simp [*]

@[simp] theorem sweepSrc_but {fs : List Fld} (s : State) (p : SPort) (hsrc : Fld.src ∈ fs) :
    (State.sweepSrc s p).but fs = s.but fs := by
  unfold State.sweepSrc
  split <;> simp [*]

@[simp] theorem writePctl_but {fs : List Fld} (s : State) (p : SPort) (v : Word) (hgroups : Fld.groups ∈ fs)
    (hsrc : Fld.src ∈ fs) (hctx : Fld.ctx ∈ fs) (hchg : Fld.chg ∈ fs) :
    (State.writePctl s p v).but fs = s.but fs := by
  unfold State.writePctl
  (repeat' split) <;> simp [*]

@[simp] theorem followSweep_but {fs : List Fld} (s : State) (p : SPort) (hsrc : Fld.src ∈ fs) :
    (State.followSweep s p).but fs = s.but fs := by
  unfold State.followSweep
  extract_lets
  (repeat' split) <;> simp +zetaDelta [*]

@[simp] theorem commit_but {fs : List Fld} (s : State) (v : Word) (hdeferred : Fld.deferred ∈ fs)
    (hflt : Fld.flt ∈ fs) (hsafeLine : Fld.safeLine ∈ fs) (hhalt : Fld.halt ∈ fs) (hx3 : Fld.x3 ∈ fs)
    (hxing : Fld.xing ∈ fs) (hlog : Fld.log ∈ fs) (hret : Fld.ret ∈ fs) (hdom : Fld.dom ∈ fs)
    (himg : Fld.img ∈ fs) (hfab : Fld.fab ∈ fs) (hgroups : Fld.groups ∈ fs) (hcells : Fld.cells ∈ fs)
    (hculm : Fld.culm ∈ fs) (hbranches : Fld.branches ∈ fs) (hsrc : Fld.src ∈ fs) (hctx : Fld.ctx ∈ fs)
    (hbat : Fld.bat ∈ fs) (hfdr : Fld.fdr ∈ fs) (hchg : Fld.chg ∈ fs) (hest : Fld.est ∈ fs) (hthr : Fld.thr ∈ fs)
    (hawn : Fld.awn ∈ fs) :
    (State.commit s v).but fs = s.but fs := by
  unfold State.commit
  extract_lets
  (repeat' split) <;> simp +zetaDelta [*]

@[simp] theorem retarget_but {fs : List Fld} (s : State) (target : Nat) (slew : Nat) (hculm : Fld.culm ∈ fs) :
    (State.retarget s target slew).but fs = s.but fs := by
  unfold State.retarget
  simp [*]

@[simp] theorem commitSetpoint_but {fs : List Fld} (s : State) (hculm : Fld.culm ∈ fs) :
    (State.commitSetpoint s).but fs = s.but fs := by
  unfold State.commitSetpoint
  extract_lets
  (repeat' split) <;> simp +zetaDelta [*]

@[simp] theorem peakRule_but {fs : List Fld} (s : State) (pthr : Nat) (dt : Nat) (hdeferred : Fld.deferred ∈ fs)
    (hflt : Fld.flt ∈ fs) (hsafeLine : Fld.safeLine ∈ fs) (hhalt : Fld.halt ∈ fs) (hx3 : Fld.x3 ∈ fs)
    (hxing : Fld.xing ∈ fs) (hlog : Fld.log ∈ fs) (hret : Fld.ret ∈ fs) (hdom : Fld.dom ∈ fs)
    (himg : Fld.img ∈ fs) (hfab : Fld.fab ∈ fs) (hgroups : Fld.groups ∈ fs) (hcells : Fld.cells ∈ fs)
    (hculm : Fld.culm ∈ fs) (hbranches : Fld.branches ∈ fs) (hsrc : Fld.src ∈ fs) (hctx : Fld.ctx ∈ fs)
    (hbat : Fld.bat ∈ fs) (hfdr : Fld.fdr ∈ fs) (hchg : Fld.chg ∈ fs) (hest : Fld.est ∈ fs) (hthr : Fld.thr ∈ fs)
    (hawn : Fld.awn ∈ fs) :
    (State.peakRule s pthr dt).but fs = s.but fs := by
  unfold State.peakRule
  extract_lets
  (repeat' split) <;> simp +zetaDelta [*]

@[simp] theorem firstUse_but {fs : List Fld} (s : State) (hthr : Fld.thr ∈ fs) :
    (State.firstUse s).but fs = s.but fs := by
  unfold State.firstUse
  extract_lets
  (repeat' split) <;> simp +zetaDelta [*]

@[simp] theorem deferRule_but {fs : List Fld} (s : State) (dt : Nat) (hthr : Fld.thr ∈ fs) :
    (State.deferRule s dt).but fs = s.but fs := by
  unfold State.deferRule
  repeat' (first | done | intro _ | split | rw [forEach_but] | rw [foldl_but] | simp +zetaDelta [*, but_ite] | extract_lets | (simp only [State.but, *, if_true]; done))

@[simp] theorem genRule_but {fs : List Fld} (s : State) (t : Nat) (load : Int) (die : Vector (Option Nat) 7)
    (hthr : Fld.thr ∈ fs) :
    (State.genRule s t load die).but fs = s.but fs := by
  unfold State.genRule
  simp [*]

@[simp] theorem loseLending_but {fs : List Fld} (s : State) (hctx : Fld.ctx ∈ fs) :
    (State.loseLending s).but fs = s.but fs := by
  unfold State.loseLending
  simp [*]

@[simp] theorem eqEnd_but {fs : List Fld} (s : State) (p : BPort) (hchg : Fld.chg ∈ fs) :
    (State.eqEnd s p).but fs = s.but fs := by
  unfold State.eqEnd
  extract_lets
  (repeat' split) <;> simp +zetaDelta [*]

@[simp] theorem eqSurplus_but {fs : List Fld} (s : State) (u : Nat) (p : BPort) (hthr : Fld.thr ∈ fs) :
    (State.eqSurplus s u p).but fs = s.but fs := by
  unfold State.eqSurplus
  simp [*]

@[simp] theorem eqStart_but {fs : List Fld} (s : State) (class3 : Bool) (p : BPort) (hchg : Fld.chg ∈ fs) :
    (State.eqStart s class3 p).but fs = s.but fs := by
  unfold State.eqStart
  extract_lets
  (repeat' split) <;> simp +zetaDelta [*]

@[simp] theorem eqRule_but {fs : List Fld} (s : State) (u : Nat) (class3 : Bool) (hchg : Fld.chg ∈ fs)
    (hthr : Fld.thr ∈ fs) :
    (State.eqRule s u class3).but fs = s.but fs := by
  unfold State.eqRule
  simp [*]

@[simp] theorem fullRule_but {fs : List Fld} (s : State) (die : Vector (Option Nat) 7) (hgroups : Fld.groups ∈ fs) :
    (State.fullRule s die).but fs = s.but fs := by
  unfold State.fullRule
  simp [*]

@[simp] theorem underSet_but {fs : List Fld} (s : State) (set : ThrSet) (start : Nat) (valid : Bool)
    (hthr : Fld.thr ∈ fs) :
    (State.underSet s set start valid).but fs = s.but fs := by
  unfold State.underSet
  simp [*]

@[simp] theorem underCommit_but {fs : List Fld} (s : State) (tk : Nat) (hthr : Fld.thr ∈ fs) :
    (State.underCommit s tk).but fs = s.but fs := by
  unfold State.underCommit
  split <;> simp [*]

@[simp] theorem keepRound_but {fs : List Fld} (s : State) (q : Round) (l : List Ctx) (hthr : Fld.thr ∈ fs) :
    (State.keepRound s q l).but fs = s.but fs := by
  unfold State.keepRound
  simp [*]

@[simp] theorem grantEach_but {fs : List Fld} (s : State) (q : Round) (l : List Ctx) (hctx : Fld.ctx ∈ fs) :
    (State.grantEach s q l).1.but fs = s.but fs := by
  induction l generalizing s q with
  | nil => rfl
  | cons c l ih =>
    unfold State.grantEach
    rw [ih]
    simp [*]

@[simp] theorem grantLate_but {fs : List Fld} (s : State) (q : Round) (hctx : Fld.ctx ∈ fs) (hthr : Fld.thr ∈ fs) :
    (State.grantLate s q).but fs = s.but fs := by
  unfold State.grantLate
  simp [*]

@[simp] theorem publish_but {fs : List Fld} (s : State) (q : Round) (hgroups : Fld.groups ∈ fs)
    (hctx : Fld.ctx ∈ fs) (hthr : Fld.thr ∈ fs) :
    (State.publish s q).but fs = s.but fs := by
  unfold State.publish
  simp [*]

@[simp] theorem republish_but {fs : List Fld} (s : State) (held : Bool) (hctx : Fld.ctx ∈ fs) (hthr : Fld.thr ∈ fs) :
    (State.republish s held).but fs = s.but fs := by
  unfold State.republish
  extract_lets
  (repeat' split) <;> simp +zetaDelta [*]

@[simp] theorem roundBegins_but {fs : List Fld} (s : State) (hculm : Fld.culm ∈ fs) (hthr : Fld.thr ∈ fs) :
    (State.roundBegins s).but fs = s.but fs := by
  unfold State.roundBegins
  split <;> simp [*]

@[simp] theorem retrySweeps_but {fs : List Fld} (s : State) (hsrc : Fld.src ∈ fs) :
    (State.retrySweeps s).but fs = s.but fs := by
  unfold State.retrySweeps
  simp [*]

@[simp] theorem thrStart_but {fs : List Fld} (s : State) (hdeferred : Fld.deferred ∈ fs) (hflt : Fld.flt ∈ fs)
    (hsafeLine : Fld.safeLine ∈ fs) (hhalt : Fld.halt ∈ fs) (hx3 : Fld.x3 ∈ fs) (hxing : Fld.xing ∈ fs)
    (hlog : Fld.log ∈ fs) (hret : Fld.ret ∈ fs) (hdom : Fld.dom ∈ fs) (himg : Fld.img ∈ fs) (hfab : Fld.fab ∈ fs)
    (hgroups : Fld.groups ∈ fs) (hcells : Fld.cells ∈ fs) (hculm : Fld.culm ∈ fs) (hbranches : Fld.branches ∈ fs)
    (hsrc : Fld.src ∈ fs) (hctx : Fld.ctx ∈ fs) (hbat : Fld.bat ∈ fs) (hfdr : Fld.fdr ∈ fs) (hchg : Fld.chg ∈ fs)
    (hest : Fld.est ∈ fs) (hthr : Fld.thr ∈ fs) (hawn : Fld.awn ∈ fs) :
    (State.thrStart s).but fs = s.but fs := by
  unfold State.thrStart
  repeat' (first | done | intro _ | split | rw [forEach_but] | rw [foldl_but] | simp +zetaDelta [*, but_ite] | extract_lets | (simp only [State.but, *, if_true]; done))

@[simp] theorem thrHold_but {fs : List Fld} (s : State) (hthr : Fld.thr ∈ fs) :
    (State.thrHold s).but fs = s.but fs := by
  unfold State.thrHold
  split <;> simp [*]

@[simp] theorem thrResume_but {fs : List Fld} (s : State) (hthr : Fld.thr ∈ fs) :
    (State.thrResume s).but fs = s.but fs := by
  unfold State.thrResume
  split <;> simp [*]

@[simp] theorem thrStop_but {fs : List Fld} (s : State) (hctx : Fld.ctx ∈ fs) (hthr : Fld.thr ∈ fs) :
    (State.thrStop s).but fs = s.but fs := by
  unfold State.thrStop
  simp [*]

@[simp] theorem drainFeeder_but {fs : List Fld} (s : State) (p : SPort) (hsrc : Fld.src ∈ fs) :
    (State.drainFeeder s p).but fs = s.but fs := by
  unfold State.drainFeeder
  simp [*]

@[simp] theorem external_but {fs : List Fld} (s : State) (p : SPort) (mv : Nat) (hdeferred : Fld.deferred ∈ fs)
    (hflt : Fld.flt ∈ fs) (hsafeLine : Fld.safeLine ∈ fs) (hhalt : Fld.halt ∈ fs) (hx3 : Fld.x3 ∈ fs)
    (hxing : Fld.xing ∈ fs) (hlog : Fld.log ∈ fs) (hret : Fld.ret ∈ fs) (hdom : Fld.dom ∈ fs)
    (himg : Fld.img ∈ fs) (hfab : Fld.fab ∈ fs) (hgroups : Fld.groups ∈ fs) (hcells : Fld.cells ∈ fs)
    (hculm : Fld.culm ∈ fs) (hbranches : Fld.branches ∈ fs) (hsrc : Fld.src ∈ fs) (hctx : Fld.ctx ∈ fs)
    (hbat : Fld.bat ∈ fs) (hfdr : Fld.fdr ∈ fs) (hchg : Fld.chg ∈ fs) (hest : Fld.est ∈ fs) (hthr : Fld.thr ∈ fs)
    (hawn : Fld.awn ∈ fs) :
    (State.external s p mv).but fs = s.but fs := by
  unfold State.external
  split <;> simp [*]

@[simp] theorem haltFeeder_but {fs : List Fld} (s : State) (p : SPort) (cause : Nat) (src : Src)
    (hdeferred : Fld.deferred ∈ fs) (hflt : Fld.flt ∈ fs) (hsafeLine : Fld.safeLine ∈ fs) (hhalt : Fld.halt ∈ fs)
    (hx3 : Fld.x3 ∈ fs) (hxing : Fld.xing ∈ fs) (hlog : Fld.log ∈ fs) (hret : Fld.ret ∈ fs) (hdom : Fld.dom ∈ fs)
    (himg : Fld.img ∈ fs) (hfab : Fld.fab ∈ fs) (hgroups : Fld.groups ∈ fs) (hcells : Fld.cells ∈ fs)
    (hculm : Fld.culm ∈ fs) (hbranches : Fld.branches ∈ fs) (hsrc : Fld.src ∈ fs) (hctx : Fld.ctx ∈ fs)
    (hbat : Fld.bat ∈ fs) (hfdr : Fld.fdr ∈ fs) (hchg : Fld.chg ∈ fs) (hest : Fld.est ∈ fs) (hthr : Fld.thr ∈ fs)
    (hawn : Fld.awn ∈ fs) :
    (State.haltFeeder s p cause src).but fs = s.but fs := by
  unfold State.haltFeeder
  simp [*]

@[simp] theorem awnTake_but {fs : List Fld} (s : State) (hxslots : Fld.xslots ∈ fs) :
    (State.awnTake s).but fs = s.but fs := by
  unfold State.awnTake
  simp [*]

@[simp] theorem arbitrate_but {fs : List Fld} (s : State) (hxslots : Fld.xslots ∈ fs) (hculm : Fld.culm ∈ fs)
    (hawn : Fld.awn ∈ fs) :
    (State.arbitrate s).but fs = s.but fs := by
  unfold State.arbitrate
  extract_lets
  (repeat' split) <;> simp +zetaDelta [*]

@[simp] theorem saturated_but {fs : List Fld} (s : State) (x : Xing) (was : Nat) (is : Nat)
    (hdeferred : Fld.deferred ∈ fs) :
    (State.saturated s x was is).but fs = s.but fs := by
  unfold State.saturated
  split <;> simp [*]

@[simp] theorem raise_but {fs : List Fld} (s : State) (x : Xing) (i : XItem) (hdeferred : Fld.deferred ∈ fs)
    (hxing : Fld.xing ∈ fs) (hxslots : Fld.xslots ∈ fs) (hawn : Fld.awn ∈ fs) :
    (State.raise s x i).but fs = s.but fs := by
  unfold State.raise
  repeat' (first | done | intro _ | split | rw [forEach_but] | rw [foldl_but] | simp +zetaDelta [*, but_ite] | extract_lets | (simp only [State.but, *, if_true]; done))

@[simp] theorem takeSave_but {fs : List Fld} (s : State) (i : XItem) (d : XData) (hret : Fld.ret ∈ fs) :
    (State.takeSave s i d).but fs = s.but fs := by
  unfold State.takeSave
  split <;> simp [*]

@[simp] theorem keepValue_but {fs : List Fld} (s : State) (q : XSlot) (hxing : Fld.xing ∈ fs) :
    (State.keepValue s q).but fs = s.but fs := by
  unfold State.keepValue
  repeat' (first | done | intro _ | split | rw [forEach_but] | rw [foldl_but] | simp +zetaDelta [*, but_ite] | extract_lets | (simp only [State.but, *, if_true]; done))

@[simp] theorem takeItem_but {fs : List Fld} (s : State) (q : XSlot) (hdeferred : Fld.deferred ∈ fs)
    (hxing : Fld.xing ∈ fs) (hret : Fld.ret ∈ fs) (hbms : Fld.bms ∈ fs) (hthr : Fld.thr ∈ fs) :
    (State.takeItem s q).but fs = s.but fs := by
  unfold State.takeItem
  (repeat' split) <;> simp [*]

@[simp] theorem tookIn_but {fs : List Fld} (s : State) (x : Xing) (lat : Nat) (hdeferred : Fld.deferred ∈ fs)
    (hflt : Fld.flt ∈ fs) (hsafeLine : Fld.safeLine ∈ fs) (hhalt : Fld.halt ∈ fs) (hx3 : Fld.x3 ∈ fs)
    (hxing : Fld.xing ∈ fs) (hlog : Fld.log ∈ fs) (hret : Fld.ret ∈ fs) (hdom : Fld.dom ∈ fs)
    (himg : Fld.img ∈ fs) (hfab : Fld.fab ∈ fs) (hgroups : Fld.groups ∈ fs) (hcells : Fld.cells ∈ fs)
    (hculm : Fld.culm ∈ fs) (hbranches : Fld.branches ∈ fs) (hsrc : Fld.src ∈ fs) (hctx : Fld.ctx ∈ fs)
    (hbat : Fld.bat ∈ fs) (hfdr : Fld.fdr ∈ fs) (hchg : Fld.chg ∈ fs) (hest : Fld.est ∈ fs) (hthr : Fld.thr ∈ fs)
    (hawn : Fld.awn ∈ fs) :
    (State.tookIn s x lat).but fs = s.but fs := by
  unfold State.tookIn
  split <;> simp [*]

@[simp] theorem awnValid_but {fs : List Fld} (s : State) (w : Word) (hdeferred : Fld.deferred ∈ fs)
    (hflt : Fld.flt ∈ fs) (hsafeLine : Fld.safeLine ∈ fs) (hhalt : Fld.halt ∈ fs) (hx3 : Fld.x3 ∈ fs)
    (hxing : Fld.xing ∈ fs) (hlog : Fld.log ∈ fs) (hret : Fld.ret ∈ fs) (hdom : Fld.dom ∈ fs)
    (himg : Fld.img ∈ fs) (hfab : Fld.fab ∈ fs) (hgroups : Fld.groups ∈ fs) (hcells : Fld.cells ∈ fs)
    (hculm : Fld.culm ∈ fs) (hbranches : Fld.branches ∈ fs) (hsrc : Fld.src ∈ fs) (hctx : Fld.ctx ∈ fs)
    (hbat : Fld.bat ∈ fs) (hfdr : Fld.fdr ∈ fs) (hchg : Fld.chg ∈ fs) (hest : Fld.est ∈ fs) (hthr : Fld.thr ∈ fs)
    (hawn : Fld.awn ∈ fs) :
    (State.awnValid s w).but fs = s.but fs := by
  unfold State.awnValid
  extract_lets
  (repeat' split) <;> simp +zetaDelta [*]

@[simp] theorem awnSetpoint_but {fs : List Fld} (s : State) (w : Word) (hdeferred : Fld.deferred ∈ fs)
    (hflt : Fld.flt ∈ fs) (hsafeLine : Fld.safeLine ∈ fs) (hhalt : Fld.halt ∈ fs) (hx3 : Fld.x3 ∈ fs)
    (hxing : Fld.xing ∈ fs) (hxslots : Fld.xslots ∈ fs) (hlog : Fld.log ∈ fs) (hret : Fld.ret ∈ fs)
    (hdom : Fld.dom ∈ fs) (himg : Fld.img ∈ fs) (hfab : Fld.fab ∈ fs) (hgroups : Fld.groups ∈ fs)
    (hcells : Fld.cells ∈ fs) (hculm : Fld.culm ∈ fs) (hbranches : Fld.branches ∈ fs) (hsrc : Fld.src ∈ fs)
    (hctx : Fld.ctx ∈ fs) (hbat : Fld.bat ∈ fs) (hfdr : Fld.fdr ∈ fs) (hchg : Fld.chg ∈ fs) (hest : Fld.est ∈ fs)
    (hthr : Fld.thr ∈ fs) (hawn : Fld.awn ∈ fs) :
    (State.awnSetpoint s w).but fs = s.but fs := by
  unfold State.awnSetpoint
  extract_lets
  (repeat' split) <;> simp +zetaDelta [*]

@[simp] theorem awnFrame_but {fs : List Fld} (s : State) (w : Word) (hdeferred : Fld.deferred ∈ fs)
    (hflt : Fld.flt ∈ fs) (hsafeLine : Fld.safeLine ∈ fs) (hhalt : Fld.halt ∈ fs) (hx3 : Fld.x3 ∈ fs)
    (hxing : Fld.xing ∈ fs) (hxslots : Fld.xslots ∈ fs) (hlog : Fld.log ∈ fs) (hret : Fld.ret ∈ fs)
    (hdom : Fld.dom ∈ fs) (himg : Fld.img ∈ fs) (hfab : Fld.fab ∈ fs) (hgroups : Fld.groups ∈ fs)
    (hcells : Fld.cells ∈ fs) (hculm : Fld.culm ∈ fs) (hbranches : Fld.branches ∈ fs) (hsrc : Fld.src ∈ fs)
    (hctx : Fld.ctx ∈ fs) (hbat : Fld.bat ∈ fs) (hfdr : Fld.fdr ∈ fs) (hchg : Fld.chg ∈ fs) (hest : Fld.est ∈ fs)
    (hthr : Fld.thr ∈ fs) (hawn : Fld.awn ∈ fs) :
    (State.awnFrame s w).but fs = s.but fs := by
  unfold State.awnFrame
  split <;> simp [*]

@[simp] theorem toNominal_but {fs : List Fld} (s : State) (hculm : Fld.culm ∈ fs) (hawn : Fld.awn ∈ fs) :
    (State.toNominal s).but fs = s.but fs := by
  unfold State.toNominal
  simp [*]

@[simp] theorem followAwn_but {fs : List Fld} (s : State) (hculm : Fld.culm ∈ fs) (hawn : Fld.awn ∈ fs) :
    (State.followAwn s).but fs = s.but fs := by
  unfold State.followAwn
  extract_lets
  (repeat' split) <;> simp +zetaDelta [*]

@[simp] theorem writeAwnCfg_but {fs : List Fld} (s : State) (v : Word) (hrw : Fld.rw ∈ fs) (hculm : Fld.culm ∈ fs)
    (hawn : Fld.awn ∈ fs) :
    (State.writeAwnCfg s v).but fs = s.but fs := by
  unfold State.writeAwnCfg
  simp [*]

@[simp] theorem writeQv_but {fs : List Fld} (s : State) (p : SPort) (v : Word) (hrw : Fld.rw ∈ fs) :
    (State.writeQv s p v).but fs = s.but fs := by
  unfold State.writeQv
  simp [*]

@[simp] theorem writeBatPcfg_but {fs : List Fld} (s : State) (p : BPort) (v : Word)
    (hdeferred : Fld.deferred ∈ fs) (hflt : Fld.flt ∈ fs) (hsafeLine : Fld.safeLine ∈ fs) (hhalt : Fld.halt ∈ fs)
    (hx3 : Fld.x3 ∈ fs) (hxing : Fld.xing ∈ fs) (hrw : Fld.rw ∈ fs) (hlog : Fld.log ∈ fs) (hret : Fld.ret ∈ fs)
    (hdom : Fld.dom ∈ fs) (himg : Fld.img ∈ fs) (hfab : Fld.fab ∈ fs) (hgroups : Fld.groups ∈ fs)
    (hcells : Fld.cells ∈ fs) (hculm : Fld.culm ∈ fs) (hbranches : Fld.branches ∈ fs) (hsrc : Fld.src ∈ fs)
    (hctx : Fld.ctx ∈ fs) (hbat : Fld.bat ∈ fs) (hfdr : Fld.fdr ∈ fs) (hchg : Fld.chg ∈ fs) (hest : Fld.est ∈ fs)
    (hthr : Fld.thr ∈ fs) (hawn : Fld.awn ∈ fs) :
    (State.writeBatPcfg s p v).but fs = s.but fs := by
  unfold State.writeBatPcfg
  extract_lets
  (repeat' split) <;> simp +zetaDelta [*]

@[simp] theorem writeEstPcfg_but {fs : List Fld} (s : State) (p : BPort) (v : Word)
    (hdeferred : Fld.deferred ∈ fs) (hflt : Fld.flt ∈ fs) (hsafeLine : Fld.safeLine ∈ fs) (hhalt : Fld.halt ∈ fs)
    (hx3 : Fld.x3 ∈ fs) (hxing : Fld.xing ∈ fs) (hrw : Fld.rw ∈ fs) (hlog : Fld.log ∈ fs) (hret : Fld.ret ∈ fs)
    (hdom : Fld.dom ∈ fs) (himg : Fld.img ∈ fs) (hfab : Fld.fab ∈ fs) (hgroups : Fld.groups ∈ fs)
    (hcells : Fld.cells ∈ fs) (hculm : Fld.culm ∈ fs) (hbranches : Fld.branches ∈ fs) (hsrc : Fld.src ∈ fs)
    (hctx : Fld.ctx ∈ fs) (hbat : Fld.bat ∈ fs) (hfdr : Fld.fdr ∈ fs) (hchg : Fld.chg ∈ fs) (hest : Fld.est ∈ fs)
    (hthr : Fld.thr ∈ fs) (hawn : Fld.awn ∈ fs) :
    (State.writeEstPcfg s p v).but fs = s.but fs := by
  unfold State.writeEstPcfg
  extract_lets
  (repeat' split) <;> simp +zetaDelta [*]

@[simp] theorem writePort_but {fs : List Fld} (s : State) (b : Nat) (off : Nat) (v : Word)
    (hdeferred : Fld.deferred ∈ fs) (hflt : Fld.flt ∈ fs) (hsafeLine : Fld.safeLine ∈ fs) (hhalt : Fld.halt ∈ fs)
    (hx3 : Fld.x3 ∈ fs) (hxing : Fld.xing ∈ fs) (hrw : Fld.rw ∈ fs) (hlog : Fld.log ∈ fs) (hret : Fld.ret ∈ fs)
    (hdom : Fld.dom ∈ fs) (himg : Fld.img ∈ fs) (hfab : Fld.fab ∈ fs) (hgroups : Fld.groups ∈ fs)
    (hcells : Fld.cells ∈ fs) (hculm : Fld.culm ∈ fs) (hbranches : Fld.branches ∈ fs) (hsrc : Fld.src ∈ fs)
    (hctx : Fld.ctx ∈ fs) (hbat : Fld.bat ∈ fs) (hfdr : Fld.fdr ∈ fs) (hchg : Fld.chg ∈ fs) (hest : Fld.est ∈ fs)
    (hthr : Fld.thr ∈ fs) (hawn : Fld.awn ∈ fs) :
    (State.writePort s b off v).but fs = s.but fs := by
  unfold State.writePort
  (repeat' split) <;> simp [*]

@[simp] theorem writeEndpoint_but {fs : List Fld} (s : State) (b off a : Nat) (v : Word)
    (hdeferred : Fld.deferred ∈ fs) (hflt : Fld.flt ∈ fs) (hsafeLine : Fld.safeLine ∈ fs) (hhalt : Fld.halt ∈ fs)
    (hx3 : Fld.x3 ∈ fs) (hxing : Fld.xing ∈ fs) (hrw : Fld.rw ∈ fs) (hlog : Fld.log ∈ fs) (hret : Fld.ret ∈ fs)
    (hdom : Fld.dom ∈ fs) (himg : Fld.img ∈ fs) (hfab : Fld.fab ∈ fs) (hgroups : Fld.groups ∈ fs)
    (hcells : Fld.cells ∈ fs) (hculm : Fld.culm ∈ fs) (hbranches : Fld.branches ∈ fs) (hsrc : Fld.src ∈ fs)
    (hflow : Fld.flow ∈ fs) (hctx : Fld.ctx ∈ fs) (hbat : Fld.bat ∈ fs) (hfdr : Fld.fdr ∈ fs)
    (hchg : Fld.chg ∈ fs) (hprofIO : Fld.profIO ∈ fs) (hest : Fld.est ∈ fs) (hthr : Fld.thr ∈ fs)
    (hawn : Fld.awn ∈ fs) :
    (State.writeEndpoint s b off a v).but fs = s.but fs := by
  unfold State.writeEndpoint
  (repeat' split) <;> first | rfl | simp only [writePort_but, writeCeiling_but, writeBctl_but, writeFlowCmd_but, writeAwnCfg_but, setReg_but, checkProfile_but, *]

@[simp] theorem writeCarried_but {fs : List Fld} (s : State) (a : Nat) (v : Word) (hdeferred : Fld.deferred ∈ fs)
    (hflt : Fld.flt ∈ fs) (hsafeLine : Fld.safeLine ∈ fs) (hhalt : Fld.halt ∈ fs) (hx3 : Fld.x3 ∈ fs)
    (hxing : Fld.xing ∈ fs) (hrw : Fld.rw ∈ fs) (hlog : Fld.log ∈ fs) (hret : Fld.ret ∈ fs) (hdom : Fld.dom ∈ fs)
    (himg : Fld.img ∈ fs) (hfab : Fld.fab ∈ fs) (hgroups : Fld.groups ∈ fs) (hcells : Fld.cells ∈ fs)
    (hculm : Fld.culm ∈ fs) (hbranches : Fld.branches ∈ fs) (hsrc : Fld.src ∈ fs) (hflow : Fld.flow ∈ fs)
    (hctx : Fld.ctx ∈ fs) (hbat : Fld.bat ∈ fs) (hfdr : Fld.fdr ∈ fs) (hchg : Fld.chg ∈ fs)
    (hprofIO : Fld.profIO ∈ fs) (hest : Fld.est ∈ fs) (hthm : Fld.thm ∈ fs) (hthr : Fld.thr ∈ fs)
    (hsense : Fld.sense ∈ fs) (hawn : Fld.awn ∈ fs) :
    (State.writeCarried s a v).but fs = s.but fs := by
  unfold State.writeCarried
  repeat' (first | done | intro _ | split | rw [forEach_but] | rw [foldl_but] | simp +zetaDelta [*, but_ite] | extract_lets | (simp only [State.but, *, if_true]; done))

@[simp] theorem runDeferred_but {fs : List Fld} (s : State) (o : Deferred) (hdeferred : Fld.deferred ∈ fs)
    (hflt : Fld.flt ∈ fs) (hsafeLine : Fld.safeLine ∈ fs) (hhalt : Fld.halt ∈ fs) (hx3 : Fld.x3 ∈ fs)
    (hxing : Fld.xing ∈ fs) (hrw : Fld.rw ∈ fs) (hprof : Fld.prof ∈ fs) (hlog : Fld.log ∈ fs)
    (hret : Fld.ret ∈ fs) (hdom : Fld.dom ∈ fs) (himg : Fld.img ∈ fs) (hfab : Fld.fab ∈ fs)
    (hgroups : Fld.groups ∈ fs) (hcells : Fld.cells ∈ fs) (hculm : Fld.culm ∈ fs) (hbranches : Fld.branches ∈ fs)
    (hsrc : Fld.src ∈ fs) (hflow : Fld.flow ∈ fs) (hctx : Fld.ctx ∈ fs) (hbat : Fld.bat ∈ fs)
    (hfdr : Fld.fdr ∈ fs) (hchg : Fld.chg ∈ fs) (hprofIO : Fld.profIO ∈ fs) (hbms : Fld.bms ∈ fs)
    (hest : Fld.est ∈ fs) (hthm : Fld.thm ∈ fs) (hthr : Fld.thr ∈ fs) (hsense : Fld.sense ∈ fs)
    (hawn : Fld.awn ∈ fs) :
    (State.runDeferred s o).but fs = s.but fs := by
  unfold State.runDeferred
  repeat' (first | done | intro _ | split | rw [foldl_but] | simp +zetaDelta [*] | extract_lets)

@[simp] theorem iterationEnds_but {fs : List Fld} (s : State) (hflt : Fld.flt ∈ fs) :
    (State.iterationEnds s).but fs = s.but fs := by
  unfold State.iterationEnds
  simp [*]

@[simp] theorem iterateOn_but {fs : List Fld} (s : State) (p : Deferred → Bool) (hdeferred : Fld.deferred ∈ fs)
    (hflt : Fld.flt ∈ fs) (hsafeLine : Fld.safeLine ∈ fs) (hhalt : Fld.halt ∈ fs) (hx3 : Fld.x3 ∈ fs)
    (hxing : Fld.xing ∈ fs) (hrw : Fld.rw ∈ fs) (hprof : Fld.prof ∈ fs) (hlog : Fld.log ∈ fs)
    (hret : Fld.ret ∈ fs) (hdom : Fld.dom ∈ fs) (himg : Fld.img ∈ fs) (hfab : Fld.fab ∈ fs)
    (hgroups : Fld.groups ∈ fs) (hcells : Fld.cells ∈ fs) (hculm : Fld.culm ∈ fs) (hbranches : Fld.branches ∈ fs)
    (hsrc : Fld.src ∈ fs) (hflow : Fld.flow ∈ fs) (hctx : Fld.ctx ∈ fs) (hbat : Fld.bat ∈ fs)
    (hfdr : Fld.fdr ∈ fs) (hchg : Fld.chg ∈ fs) (hprofIO : Fld.profIO ∈ fs) (hbms : Fld.bms ∈ fs)
    (hest : Fld.est ∈ fs) (hthm : Fld.thm ∈ fs) (hthr : Fld.thr ∈ fs) (hsense : Fld.sense ∈ fs)
    (hawn : Fld.awn ∈ fs) :
    (State.iterateOn s p).but fs = s.but fs := by
  unfold State.iterateOn
  simp [*]

@[simp] theorem iterate_but {fs : List Fld} (s : State) (hdeferred : Fld.deferred ∈ fs) (hflt : Fld.flt ∈ fs)
    (hsafeLine : Fld.safeLine ∈ fs) (hhalt : Fld.halt ∈ fs) (hx3 : Fld.x3 ∈ fs) (hxing : Fld.xing ∈ fs)
    (hrw : Fld.rw ∈ fs) (hprof : Fld.prof ∈ fs) (hlog : Fld.log ∈ fs) (hret : Fld.ret ∈ fs) (hdom : Fld.dom ∈ fs)
    (himg : Fld.img ∈ fs) (hfab : Fld.fab ∈ fs) (hgroups : Fld.groups ∈ fs) (hcells : Fld.cells ∈ fs)
    (hculm : Fld.culm ∈ fs) (hbranches : Fld.branches ∈ fs) (hsrc : Fld.src ∈ fs) (hflow : Fld.flow ∈ fs)
    (hctx : Fld.ctx ∈ fs) (hbat : Fld.bat ∈ fs) (hfdr : Fld.fdr ∈ fs) (hchg : Fld.chg ∈ fs)
    (hprofIO : Fld.profIO ∈ fs) (hbms : Fld.bms ∈ fs) (hest : Fld.est ∈ fs) (hthm : Fld.thm ∈ fs)
    (hthr : Fld.thr ∈ fs) (hsense : Fld.sense ∈ fs) (hawn : Fld.awn ∈ fs) :
    (State.iterate s).but fs = s.but fs := by
  unfold State.iterate
  simp [*]

@[simp] theorem iterateFor_but {fs : List Fld} (s : State) (g : Group) (hdeferred : Fld.deferred ∈ fs)
    (hflt : Fld.flt ∈ fs) (hsafeLine : Fld.safeLine ∈ fs) (hhalt : Fld.halt ∈ fs) (hx3 : Fld.x3 ∈ fs)
    (hxing : Fld.xing ∈ fs) (hrw : Fld.rw ∈ fs) (hprof : Fld.prof ∈ fs) (hlog : Fld.log ∈ fs)
    (hret : Fld.ret ∈ fs) (hdom : Fld.dom ∈ fs) (himg : Fld.img ∈ fs) (hfab : Fld.fab ∈ fs)
    (hgroups : Fld.groups ∈ fs) (hcells : Fld.cells ∈ fs) (hculm : Fld.culm ∈ fs) (hbranches : Fld.branches ∈ fs)
    (hsrc : Fld.src ∈ fs) (hflow : Fld.flow ∈ fs) (hctx : Fld.ctx ∈ fs) (hbat : Fld.bat ∈ fs)
    (hfdr : Fld.fdr ∈ fs) (hchg : Fld.chg ∈ fs) (hprofIO : Fld.profIO ∈ fs) (hbms : Fld.bms ∈ fs)
    (hest : Fld.est ∈ fs) (hthm : Fld.thm ∈ fs) (hthr : Fld.thr ∈ fs) (hsense : Fld.sense ∈ fs)
    (hawn : Fld.awn ∈ fs) :
    (State.iterateFor s g).but fs = s.but fs := by
  unfold State.iterateFor
  simp [*]

@[simp] theorem asStored_but {fs : List Fld} (s : State) (a : Nat) (v : Word) (hrw : Fld.rw ∈ fs)
    (hculm : Fld.culm ∈ fs) :
    (State.asStored s a v).but fs = s.but fs := by
  unfold State.asStored
  repeat' (first | done | intro _ | split | rw [forEach_but] | rw [foldl_but] | simp +zetaDelta [*, but_ite] | extract_lets | (simp only [State.but, *, if_true]; done))

@[simp] theorem readBack_but {fs : List Fld} (s : State) (a : Nat) (hrw : Fld.rw ∈ fs) (hprof : Fld.prof ∈ fs)
    (hculm : Fld.culm ∈ fs) :
    (State.readBack s a).but fs = s.but fs := by
  unfold State.readBack
  repeat' (first | done | intro _ | split | rw [forEach_but] | rw [foldl_but] | simp +zetaDelta [*, but_ite] | extract_lets | (simp only [State.but, *, if_true]; done))

@[simp] theorem canReject_but {fs : List Fld} (s : State) (k : Bms) (hdeferred : Fld.deferred ∈ fs)
    (hflt : Fld.flt ∈ fs) (hsafeLine : Fld.safeLine ∈ fs) (hhalt : Fld.halt ∈ fs) (hx3 : Fld.x3 ∈ fs)
    (hxing : Fld.xing ∈ fs) (hlog : Fld.log ∈ fs) (hret : Fld.ret ∈ fs) (hdom : Fld.dom ∈ fs)
    (himg : Fld.img ∈ fs) (hfab : Fld.fab ∈ fs) (hgroups : Fld.groups ∈ fs) (hcells : Fld.cells ∈ fs)
    (hculm : Fld.culm ∈ fs) (hbranches : Fld.branches ∈ fs) (hsrc : Fld.src ∈ fs) (hctx : Fld.ctx ∈ fs)
    (hbat : Fld.bat ∈ fs) (hfdr : Fld.fdr ∈ fs) (hchg : Fld.chg ∈ fs) (hest : Fld.est ∈ fs) (hthr : Fld.thr ∈ fs)
    (hawn : Fld.awn ∈ fs) (hcan : Fld.can ∈ fs) :
    (State.canReject s k).but fs = s.but fs := by
  unfold State.canReject
  simp [*]

@[simp] theorem canQueue_but {fs : List Fld} (s : State) (id : Nat) (d : List Byte)
    (hdeferred : Fld.deferred ∈ fs) (hflt : Fld.flt ∈ fs) (hsafeLine : Fld.safeLine ∈ fs) (hhalt : Fld.halt ∈ fs)
    (hx3 : Fld.x3 ∈ fs) (hxing : Fld.xing ∈ fs) (hlog : Fld.log ∈ fs) (hret : Fld.ret ∈ fs) (hdom : Fld.dom ∈ fs)
    (himg : Fld.img ∈ fs) (hfab : Fld.fab ∈ fs) (hgroups : Fld.groups ∈ fs) (hcells : Fld.cells ∈ fs)
    (hculm : Fld.culm ∈ fs) (hbranches : Fld.branches ∈ fs) (hsrc : Fld.src ∈ fs) (hctx : Fld.ctx ∈ fs)
    (hbat : Fld.bat ∈ fs) (hfdr : Fld.fdr ∈ fs) (hchg : Fld.chg ∈ fs) (hest : Fld.est ∈ fs) (hthr : Fld.thr ∈ fs)
    (hawn : Fld.awn ∈ fs) (hcan : Fld.can ∈ fs) :
    (State.canQueue s id d).but fs = s.but fs := by
  unfold State.canQueue
  extract_lets
  (repeat' split) <;> simp +zetaDelta [*]

@[simp] theorem errorActive_but {fs : List Fld} (s : State) (hdeferred : Fld.deferred ∈ fs) (hflt : Fld.flt ∈ fs)
    (hsafeLine : Fld.safeLine ∈ fs) (hhalt : Fld.halt ∈ fs) (hx3 : Fld.x3 ∈ fs) (hxing : Fld.xing ∈ fs)
    (hlog : Fld.log ∈ fs) (hret : Fld.ret ∈ fs) (hdom : Fld.dom ∈ fs) (himg : Fld.img ∈ fs) (hfab : Fld.fab ∈ fs)
    (hgroups : Fld.groups ∈ fs) (hcells : Fld.cells ∈ fs) (hculm : Fld.culm ∈ fs) (hbranches : Fld.branches ∈ fs)
    (hsrc : Fld.src ∈ fs) (hctx : Fld.ctx ∈ fs) (hbat : Fld.bat ∈ fs) (hfdr : Fld.fdr ∈ fs) (hchg : Fld.chg ∈ fs)
    (hest : Fld.est ∈ fs) (hthr : Fld.thr ∈ fs) (hawn : Fld.awn ∈ fs) :
    (State.errorActive s).but fs = s.but fs := by
  unfold State.errorActive
  repeat' (first | done | intro _ | split | rw [forEach_but] | rw [foldl_but] | simp +zetaDelta [*, but_ite] | extract_lets | (simp only [State.but, *, if_true]; done))

@[simp] theorem canRestart_but {fs : List Fld} (s : State) (hdeferred : Fld.deferred ∈ fs) (hflt : Fld.flt ∈ fs)
    (hsafeLine : Fld.safeLine ∈ fs) (hhalt : Fld.halt ∈ fs) (hx3 : Fld.x3 ∈ fs) (hxing : Fld.xing ∈ fs)
    (hlog : Fld.log ∈ fs) (hret : Fld.ret ∈ fs) (hdom : Fld.dom ∈ fs) (himg : Fld.img ∈ fs) (hfab : Fld.fab ∈ fs)
    (hgroups : Fld.groups ∈ fs) (hcells : Fld.cells ∈ fs) (hculm : Fld.culm ∈ fs) (hbranches : Fld.branches ∈ fs)
    (hsrc : Fld.src ∈ fs) (hctx : Fld.ctx ∈ fs) (hbat : Fld.bat ∈ fs) (hfdr : Fld.fdr ∈ fs) (hchg : Fld.chg ∈ fs)
    (hest : Fld.est ∈ fs) (hthr : Fld.thr ∈ fs) (hawn : Fld.awn ∈ fs) (hcan : Fld.can ∈ fs) :
    (State.canRestart s).but fs = s.but fs := by
  unfold State.canRestart
  extract_lets
  (repeat' split) <;> simp +zetaDelta [*]

@[simp] theorem writeCanCfg_but {fs : List Fld} (s : State) (v : Word) (hdeferred : Fld.deferred ∈ fs)
    (hflt : Fld.flt ∈ fs) (hsafeLine : Fld.safeLine ∈ fs) (hhalt : Fld.halt ∈ fs) (hx3 : Fld.x3 ∈ fs)
    (hxing : Fld.xing ∈ fs) (hrw : Fld.rw ∈ fs) (hlog : Fld.log ∈ fs) (hret : Fld.ret ∈ fs) (hdom : Fld.dom ∈ fs)
    (himg : Fld.img ∈ fs) (hfab : Fld.fab ∈ fs) (hgroups : Fld.groups ∈ fs) (hcells : Fld.cells ∈ fs)
    (hculm : Fld.culm ∈ fs) (hbranches : Fld.branches ∈ fs) (hsrc : Fld.src ∈ fs) (hctx : Fld.ctx ∈ fs)
    (hbat : Fld.bat ∈ fs) (hfdr : Fld.fdr ∈ fs) (hchg : Fld.chg ∈ fs) (hest : Fld.est ∈ fs) (hthr : Fld.thr ∈ fs)
    (hawn : Fld.awn ∈ fs) (hcan : Fld.can ∈ fs) :
    (State.writeCanCfg s v).but fs = s.but fs := by
  unfold State.writeCanCfg
  extract_lets
  (repeat' split) <;> simp +zetaDelta [*]

@[simp] theorem heard_but {fs : List Fld} (s : State) (f : Frame) (seq : Option Nat) (hring : Fld.ring ∈ fs) :
    (State.heard s f seq).but fs = s.but fs := by
  unfold State.heard
  simp [*]

@[simp] theorem copyCame_but {fs : List Fld} (s : State) (f : Frame) (side : Option Side)
    (hdeferred : Fld.deferred ∈ fs) (hflt : Fld.flt ∈ fs) (hsafeLine : Fld.safeLine ∈ fs) (hhalt : Fld.halt ∈ fs)
    (hx3 : Fld.x3 ∈ fs) (hxing : Fld.xing ∈ fs) (hlog : Fld.log ∈ fs) (hret : Fld.ret ∈ fs) (hdom : Fld.dom ∈ fs)
    (himg : Fld.img ∈ fs) (hfab : Fld.fab ∈ fs) (hgroups : Fld.groups ∈ fs) (hcells : Fld.cells ∈ fs)
    (hculm : Fld.culm ∈ fs) (hbranches : Fld.branches ∈ fs) (hsrc : Fld.src ∈ fs) (hctx : Fld.ctx ∈ fs)
    (hbat : Fld.bat ∈ fs) (hfdr : Fld.fdr ∈ fs) (hchg : Fld.chg ∈ fs) (hest : Fld.est ∈ fs) (hthr : Fld.thr ∈ fs)
    (hawn : Fld.awn ∈ fs) (hring : Fld.ring ∈ fs) :
    (State.copyCame s f side).but fs = s.but fs := by
  unfold State.copyCame
  repeat' (first | done | intro _ | split | rw [forEach_but] | rw [foldl_but] | simp +zetaDelta [*, but_ite] | extract_lets | (simp only [State.but, *, if_true]; done))

@[simp] theorem accepted_but {fs : List Fld} (s : State) (f : Frame) (hdeferred : Fld.deferred ∈ fs)
    (hflt : Fld.flt ∈ fs) (hsafeLine : Fld.safeLine ∈ fs) (hhalt : Fld.halt ∈ fs) (hx3 : Fld.x3 ∈ fs)
    (hxing : Fld.xing ∈ fs) (hlog : Fld.log ∈ fs) (hret : Fld.ret ∈ fs) (hdom : Fld.dom ∈ fs)
    (himg : Fld.img ∈ fs) (hfab : Fld.fab ∈ fs) (hgroups : Fld.groups ∈ fs) (hcells : Fld.cells ∈ fs)
    (hculm : Fld.culm ∈ fs) (hbranches : Fld.branches ∈ fs) (hsrc : Fld.src ∈ fs) (hctx : Fld.ctx ∈ fs)
    (hbat : Fld.bat ∈ fs) (hfdr : Fld.fdr ∈ fs) (hchg : Fld.chg ∈ fs) (hest : Fld.est ∈ fs) (hthr : Fld.thr ∈ fs)
    (hawn : Fld.awn ∈ fs) (hring : Fld.ring ∈ fs) :
    (State.accepted s f).but fs = s.but fs := by
  unfold State.accepted
  simp [*]

@[simp] theorem setSide_but {fs : List Fld} (s : State) (q : Side) (x : SideRec) (hring : Fld.ring ∈ fs) :
    (State.setSide s q x).but fs = s.but fs := by
  unfold State.setSide
  simp [*]

@[simp] theorem queueOn_but {fs : List Fld} (s : State) (q : Side) (f : Frame) (hdeferred : Fld.deferred ∈ fs)
    (hflt : Fld.flt ∈ fs) (hsafeLine : Fld.safeLine ∈ fs) (hhalt : Fld.halt ∈ fs) (hx3 : Fld.x3 ∈ fs)
    (hxing : Fld.xing ∈ fs) (hlog : Fld.log ∈ fs) (hret : Fld.ret ∈ fs) (hdom : Fld.dom ∈ fs)
    (himg : Fld.img ∈ fs) (hfab : Fld.fab ∈ fs) (hgroups : Fld.groups ∈ fs) (hcells : Fld.cells ∈ fs)
    (hculm : Fld.culm ∈ fs) (hbranches : Fld.branches ∈ fs) (hsrc : Fld.src ∈ fs) (hctx : Fld.ctx ∈ fs)
    (hbat : Fld.bat ∈ fs) (hfdr : Fld.fdr ∈ fs) (hchg : Fld.chg ∈ fs) (hest : Fld.est ∈ fs) (hthr : Fld.thr ∈ fs)
    (hawn : Fld.awn ∈ fs) (hring : Fld.ring ∈ fs) :
    (State.queueOn s q f).but fs = s.but fs := by
  unfold State.queueOn
  extract_lets
  (repeat' split) <;> simp +zetaDelta [*]

@[simp] theorem usedSeq_but {fs : List Fld} (s : State) (hring : Fld.ring ∈ fs) :
    (State.usedSeq s).but fs = s.but fs := by
  unfold State.usedSeq
  simp [*]

@[simp] theorem send_but {fs : List Fld} (s : State) (f : Frame) (hdeferred : Fld.deferred ∈ fs)
    (hflt : Fld.flt ∈ fs) (hsafeLine : Fld.safeLine ∈ fs) (hhalt : Fld.halt ∈ fs) (hx3 : Fld.x3 ∈ fs)
    (hxing : Fld.xing ∈ fs) (hlog : Fld.log ∈ fs) (hret : Fld.ret ∈ fs) (hdom : Fld.dom ∈ fs)
    (himg : Fld.img ∈ fs) (hfab : Fld.fab ∈ fs) (hgroups : Fld.groups ∈ fs) (hcells : Fld.cells ∈ fs)
    (hculm : Fld.culm ∈ fs) (hbranches : Fld.branches ∈ fs) (hsrc : Fld.src ∈ fs) (hctx : Fld.ctx ∈ fs)
    (hbat : Fld.bat ∈ fs) (hfdr : Fld.fdr ∈ fs) (hchg : Fld.chg ∈ fs) (hest : Fld.est ∈ fs) (hthr : Fld.thr ∈ fs)
    (hawn : Fld.awn ∈ fs) (hring : Fld.ring ∈ fs) :
    (State.send s f).but fs = s.but fs := by
  unfold State.send
  simp [*]

@[simp] theorem sendIdent_but {fs : List Fld} (s : State) (hdeferred : Fld.deferred ∈ fs) (hflt : Fld.flt ∈ fs)
    (hsafeLine : Fld.safeLine ∈ fs) (hhalt : Fld.halt ∈ fs) (hx3 : Fld.x3 ∈ fs) (hxing : Fld.xing ∈ fs)
    (hlog : Fld.log ∈ fs) (hret : Fld.ret ∈ fs) (hdom : Fld.dom ∈ fs) (himg : Fld.img ∈ fs) (hfab : Fld.fab ∈ fs)
    (hgroups : Fld.groups ∈ fs) (hcells : Fld.cells ∈ fs) (hculm : Fld.culm ∈ fs) (hbranches : Fld.branches ∈ fs)
    (hsrc : Fld.src ∈ fs) (hctx : Fld.ctx ∈ fs) (hbat : Fld.bat ∈ fs) (hfdr : Fld.fdr ∈ fs) (hchg : Fld.chg ∈ fs)
    (hest : Fld.est ∈ fs) (hthr : Fld.thr ∈ fs) (hawn : Fld.awn ∈ fs) (hring : Fld.ring ∈ fs) :
    (State.sendIdent s).but fs = s.but fs := by
  unfold State.sendIdent
  simp [*]

@[simp] theorem unplaced_but {fs : List Fld} (s : State) (hthr : Fld.thr ∈ fs) (hring : Fld.ring ∈ fs) :
    (State.unplaced s).but fs = s.but fs := by
  unfold State.unplaced
  repeat' (first | done | intro _ | split | rw [forEach_but] | rw [foldl_but] | simp +zetaDelta [*, but_ite] | extract_lets | (simp only [State.but, *, if_true]; done))

@[simp] theorem conflict_but {fs : List Fld} (s : State) (f : Frame) (hdeferred : Fld.deferred ∈ fs)
    (hflt : Fld.flt ∈ fs) (hsafeLine : Fld.safeLine ∈ fs) (hhalt : Fld.halt ∈ fs) (hx3 : Fld.x3 ∈ fs)
    (hxing : Fld.xing ∈ fs) (hlog : Fld.log ∈ fs) (hret : Fld.ret ∈ fs) (hdom : Fld.dom ∈ fs)
    (himg : Fld.img ∈ fs) (hfab : Fld.fab ∈ fs) (hgroups : Fld.groups ∈ fs) (hcells : Fld.cells ∈ fs)
    (hculm : Fld.culm ∈ fs) (hbranches : Fld.branches ∈ fs) (hsrc : Fld.src ∈ fs) (hctx : Fld.ctx ∈ fs)
    (hbat : Fld.bat ∈ fs) (hfdr : Fld.fdr ∈ fs) (hchg : Fld.chg ∈ fs) (hest : Fld.est ∈ fs) (hthr : Fld.thr ∈ fs)
    (hawn : Fld.awn ∈ fs) (hring : Fld.ring ∈ fs) :
    (State.conflict s f).but fs = s.but fs := by
  unfold State.conflict
  repeat' (first | done | intro _ | split | rw [forEach_but] | rw [foldl_but] | simp +zetaDelta [*, but_ite] | extract_lets | (simp only [State.but, *, if_true]; done))

@[simp] theorem usedCounter_but {fs : List Fld} (s : State) (f : Frame) (hring : Fld.ring ∈ fs) :
    (State.usedCounter s f).but fs = s.but fs := by
  unfold State.usedCounter
  (repeat' split) <;> simp [*]

@[simp] theorem answer_but {fs : List Fld} (s : State) (req : Frame) (f : Frame) (hdeferred : Fld.deferred ∈ fs)
    (hflt : Fld.flt ∈ fs) (hsafeLine : Fld.safeLine ∈ fs) (hhalt : Fld.halt ∈ fs) (hx3 : Fld.x3 ∈ fs)
    (hxing : Fld.xing ∈ fs) (hlog : Fld.log ∈ fs) (hret : Fld.ret ∈ fs) (hdom : Fld.dom ∈ fs)
    (himg : Fld.img ∈ fs) (hfab : Fld.fab ∈ fs) (hgroups : Fld.groups ∈ fs) (hcells : Fld.cells ∈ fs)
    (hculm : Fld.culm ∈ fs) (hbranches : Fld.branches ∈ fs) (hsrc : Fld.src ∈ fs) (hctx : Fld.ctx ∈ fs)
    (hbat : Fld.bat ∈ fs) (hfdr : Fld.fdr ∈ fs) (hchg : Fld.chg ∈ fs) (hest : Fld.est ∈ fs) (hthr : Fld.thr ∈ fs)
    (hawn : Fld.awn ∈ fs) (hring : Fld.ring ∈ fs) :
    (State.answer s req f).but fs = s.but fs := by
  unfold State.answer
  simp [*]

@[simp] theorem refuseAuth_but {fs : List Fld} (s : State) (f : Frame) (hdeferred : Fld.deferred ∈ fs)
    (hflt : Fld.flt ∈ fs) (hsafeLine : Fld.safeLine ∈ fs) (hhalt : Fld.halt ∈ fs) (hx3 : Fld.x3 ∈ fs)
    (hxing : Fld.xing ∈ fs) (hlog : Fld.log ∈ fs) (hret : Fld.ret ∈ fs) (hdom : Fld.dom ∈ fs)
    (himg : Fld.img ∈ fs) (hfab : Fld.fab ∈ fs) (hgroups : Fld.groups ∈ fs) (hcells : Fld.cells ∈ fs)
    (hculm : Fld.culm ∈ fs) (hbranches : Fld.branches ∈ fs) (hsrc : Fld.src ∈ fs) (hctx : Fld.ctx ∈ fs)
    (hbat : Fld.bat ∈ fs) (hfdr : Fld.fdr ∈ fs) (hchg : Fld.chg ∈ fs) (hest : Fld.est ∈ fs) (hthr : Fld.thr ∈ fs)
    (hawn : Fld.awn ∈ fs) (hring : Fld.ring ∈ fs) :
    (State.refuseAuth s f).but fs = s.but fs := by
  unfold State.refuseAuth
  simp [*]

@[simp] theorem helloEffect_but {fs : List Fld} (s : State) (f : Frame) (nm : BitVec 128)
    (hdeferred : Fld.deferred ∈ fs) (hflt : Fld.flt ∈ fs) (hsafeLine : Fld.safeLine ∈ fs) (hhalt : Fld.halt ∈ fs)
    (hx3 : Fld.x3 ∈ fs) (hxing : Fld.xing ∈ fs) (hlog : Fld.log ∈ fs) (hret : Fld.ret ∈ fs) (hdom : Fld.dom ∈ fs)
    (himg : Fld.img ∈ fs) (hfab : Fld.fab ∈ fs) (hgroups : Fld.groups ∈ fs) (hcells : Fld.cells ∈ fs)
    (hculm : Fld.culm ∈ fs) (hbranches : Fld.branches ∈ fs) (hsrc : Fld.src ∈ fs) (hctx : Fld.ctx ∈ fs)
    (hbat : Fld.bat ∈ fs) (hfdr : Fld.fdr ∈ fs) (hchg : Fld.chg ∈ fs) (hest : Fld.est ∈ fs) (hthr : Fld.thr ∈ fs)
    (hawn : Fld.awn ∈ fs) (hring : Fld.ring ∈ fs) :
    (State.helloEffect s f nm).but fs = s.but fs := by
  unfold State.helloEffect
  repeat' (first | done | intro _ | split | rw [forEach_but] | rw [foldl_but] | simp +zetaDelta [*, but_ite] | extract_lets | (simp only [State.but, *, if_true]; done))

@[simp] theorem keyprog_but {fs : List Fld} (s : State) (authed : Bool) (hfuse : Fld.fuse ∈ fs) :
    (State.keyprog s authed).but fs = s.but fs := by
  unfold State.keyprog
  split <;> simp [*]

@[simp] theorem endSession_but {fs : List Fld} (s : State) (hring : Fld.ring ∈ fs) :
    (State.endSession s).but fs = s.but fs := by
  unfold State.endSession
  simp [*]

@[simp] theorem clearRing_but {fs : List Fld} (s : State) (hring : Fld.ring ∈ fs) :
    (State.clearRing s).but fs = s.but fs := by
  unfold State.clearRing
  simp [*]

@[simp] theorem writeRingCtl_but {fs : List Fld} (s : State) (authed : Bool) (v : Word) (hfuse : Fld.fuse ∈ fs)
    (hring : Fld.ring ∈ fs) :
    (State.writeRingCtl s authed v).but fs = s.but fs := by
  unfold State.writeRingCtl
  (repeat' split) <;> simp [*]

@[simp] theorem evaluate_but {fs : List Fld} (s : State) (c : Ctx) (hctx : Fld.ctx ∈ fs) :
    (State.evaluate s c).but fs = s.but fs := by
  unfold State.evaluate
  repeat' (first | done | intro _ | split | rw [forEach_but] | rw [foldl_but] | simp +zetaDelta [*, but_ite] | extract_lets | (simp only [State.but, *, if_true]; done))

@[simp] theorem ringReset_but {fs : List Fld} (s : State) (hdeferred : Fld.deferred ∈ fs) (hflt : Fld.flt ∈ fs)
    (hsafeLine : Fld.safeLine ∈ fs) (hhalt : Fld.halt ∈ fs) (hx3 : Fld.x3 ∈ fs) (hxing : Fld.xing ∈ fs)
    (hlog : Fld.log ∈ fs) (hret : Fld.ret ∈ fs) (hdom : Fld.dom ∈ fs) (himg : Fld.img ∈ fs) (hfab : Fld.fab ∈ fs)
    (hgroups : Fld.groups ∈ fs) (hcells : Fld.cells ∈ fs) (hculm : Fld.culm ∈ fs) (hbranches : Fld.branches ∈ fs)
    (hsrc : Fld.src ∈ fs) (hctx : Fld.ctx ∈ fs) (hbat : Fld.bat ∈ fs) (hfdr : Fld.fdr ∈ fs) (hchg : Fld.chg ∈ fs)
    (hest : Fld.est ∈ fs) (hthr : Fld.thr ∈ fs) (hawn : Fld.awn ∈ fs) (hring : Fld.ring ∈ fs) (hcan : Fld.can ∈ fs) :
    (State.ringReset s).but fs = s.but fs := by
  unfold State.ringReset
  simp [*]

end Sys2Proof.Machine
end

