-- ==== Sys2Proof/Laws/FrameModule.lean ====
section
/-!
SUPPORT. What images, power states, the watchdog, the pipeline and the register space change of the state: each operation leaves every field that its lemma does not name.
-/

namespace Sys2Proof.Machine

set_option linter.unusedTactic false
set_option linter.unreachableTactic false
set_option linter.unusedSimpArgs false
set_option linter.unusedVariables false

@[simp] theorem applyRegs_but {fs : List Fld} (s : State) (d : ImageData) (hdeferred : Fld.deferred ∈ fs)
    (hflt : Fld.flt ∈ fs) (hsafeLine : Fld.safeLine ∈ fs) (hhalt : Fld.halt ∈ fs) (hx3 : Fld.x3 ∈ fs)
    (hxing : Fld.xing ∈ fs) (hrw : Fld.rw ∈ fs) (hlog : Fld.log ∈ fs) (hret : Fld.ret ∈ fs) (hdom : Fld.dom ∈ fs)
    (himg : Fld.img ∈ fs) (hfab : Fld.fab ∈ fs) (hgroups : Fld.groups ∈ fs) (hcells : Fld.cells ∈ fs)
    (hculm : Fld.culm ∈ fs) (hbranches : Fld.branches ∈ fs) (hsrc : Fld.src ∈ fs) (hctx : Fld.ctx ∈ fs)
    (hbat : Fld.bat ∈ fs) (hfdr : Fld.fdr ∈ fs) (hchg : Fld.chg ∈ fs) (hest : Fld.est ∈ fs) (hthr : Fld.thr ∈ fs)
    (hawn : Fld.awn ∈ fs) :
    (State.applyRegs s d).but fs = s.but fs := by
  unfold State.applyRegs
  repeat' (first | done | intro _ | split | rw [forEach_but] | rw [foldl_but] | simp +zetaDelta [*, but_ite] | extract_lets | (simp only [State.but, *, if_true]; done))

@[simp] theorem applyBudgets_but {fs : List Fld} (s : State) (hctx : Fld.ctx ∈ fs) (hthr : Fld.thr ∈ fs) :
    (State.applyBudgets s).but fs = s.but fs := by
  unfold State.applyBudgets
  simp [*]

@[simp] theorem emptyCrossings_but {fs : List Fld} (s : State) (hdeferred : Fld.deferred ∈ fs) (hx3 : Fld.x3 ∈ fs)
    (hxing : Fld.xing ∈ fs) (hxslots : Fld.xslots ∈ fs) (hret : Fld.ret ∈ fs) :
    (State.emptyCrossings s).but fs = s.but fs := by
  unfold State.emptyCrossings
  repeat' (first | done | intro _ | split | rw [forEach_but] | rw [foldl_but] | simp +zetaDelta [*, but_ite] | extract_lets | (simp only [State.but, *, if_true]; done))

@[simp] theorem applySense_but {fs : List Fld} (s : State) (hxing : Fld.xing ∈ fs) (hsense : Fld.sense ∈ fs) :
    (State.applySense s).but fs = s.but fs := by
  unfold State.applySense
  repeat' (first | done | intro _ | split | rw [forEach_but] | rw [foldl_but] | simp +zetaDelta [*, but_ite] | extract_lets | (simp only [State.but, *, if_true]; done))

@[simp] theorem applyThermal_but {fs : List Fld} (s : State) (calOk : Bool) (hdeferred : Fld.deferred ∈ fs)
    (hflt : Fld.flt ∈ fs) (hsafeLine : Fld.safeLine ∈ fs) (hhalt : Fld.halt ∈ fs) (hx3 : Fld.x3 ∈ fs)
    (hxing : Fld.xing ∈ fs) (hlog : Fld.log ∈ fs) (hret : Fld.ret ∈ fs) (hdom : Fld.dom ∈ fs)
    (himg : Fld.img ∈ fs) (hfab : Fld.fab ∈ fs) (hgroups : Fld.groups ∈ fs) (hcells : Fld.cells ∈ fs)
    (hculm : Fld.culm ∈ fs) (hbranches : Fld.branches ∈ fs) (hsrc : Fld.src ∈ fs) (hctx : Fld.ctx ∈ fs)
    (hbat : Fld.bat ∈ fs) (hfdr : Fld.fdr ∈ fs) (hchg : Fld.chg ∈ fs) (hest : Fld.est ∈ fs) (hthm : Fld.thm ∈ fs)
    (hthr : Fld.thr ∈ fs) (hawn : Fld.awn ∈ fs) :
    (State.applyThermal s calOk).but fs = s.but fs := by
  unfold State.applyThermal
  split <;> simp [*]

@[simp] theorem applySetpoint_but {fs : List Fld} (s : State) (hculm : Fld.culm ∈ fs) :
    (State.applySetpoint s).but fs = s.but fs := by
  unfold State.applySetpoint
  split <;> simp [*]

@[simp] theorem applyImage_but {fs : List Fld} (s : State) (d : ImageData) (failed : List Cell)
    (hdeferred : Fld.deferred ∈ fs) (hflt : Fld.flt ∈ fs) (hsafeLine : Fld.safeLine ∈ fs) (hhalt : Fld.halt ∈ fs)
    (hx3 : Fld.x3 ∈ fs) (hxing : Fld.xing ∈ fs) (hrw : Fld.rw ∈ fs) (hprof : Fld.prof ∈ fs) (hlog : Fld.log ∈ fs)
    (hhost : Fld.host ∈ fs) (hret : Fld.ret ∈ fs) (hdom : Fld.dom ∈ fs) (himg : Fld.img ∈ fs)
    (hfab : Fld.fab ∈ fs) (hgroups : Fld.groups ∈ fs) (hcells : Fld.cells ∈ fs) (hculm : Fld.culm ∈ fs)
    (hgov : Fld.gov ∈ fs) (hbranches : Fld.branches ∈ fs) (hsrc : Fld.src ∈ fs) (hctx : Fld.ctx ∈ fs)
    (hbat : Fld.bat ∈ fs) (hfdr : Fld.fdr ∈ fs) (hchg : Fld.chg ∈ fs) (hest : Fld.est ∈ fs) (hthm : Fld.thm ∈ fs)
    (hthr : Fld.thr ∈ fs) (hsense : Fld.sense ∈ fs) (hawn : Fld.awn ∈ fs) :
    (State.applyImage s d failed).but fs = s.but fs := by
  unfold State.applyImage
  simp [*]

@[simp] theorem startFlow_but {fs : List Fld} (s : State) (d : FlowDef) (hdeferred : Fld.deferred ∈ fs)
    (hflt : Fld.flt ∈ fs) (hsafeLine : Fld.safeLine ∈ fs) (hhalt : Fld.halt ∈ fs) (hx3 : Fld.x3 ∈ fs)
    (hxing : Fld.xing ∈ fs) (hlog : Fld.log ∈ fs) (hret : Fld.ret ∈ fs) (hdom : Fld.dom ∈ fs)
    (himg : Fld.img ∈ fs) (hfab : Fld.fab ∈ fs) (hgroups : Fld.groups ∈ fs) (hcells : Fld.cells ∈ fs)
    (hculm : Fld.culm ∈ fs) (hbranches : Fld.branches ∈ fs) (hsrc : Fld.src ∈ fs) (hctx : Fld.ctx ∈ fs)
    (hbat : Fld.bat ∈ fs) (hfdr : Fld.fdr ∈ fs) (hchg : Fld.chg ∈ fs) (hest : Fld.est ∈ fs) (hthr : Fld.thr ∈ fs)
    (hawn : Fld.awn ∈ fs) :
    (State.startFlow s d).but fs = s.but fs := by
  unfold State.startFlow
  (repeat' split) <;> simp [*]

@[simp] theorem startFlows_but {fs : List Fld} (s : State) (hdeferred : Fld.deferred ∈ fs) (hflt : Fld.flt ∈ fs)
    (hsafeLine : Fld.safeLine ∈ fs) (hhalt : Fld.halt ∈ fs) (hx3 : Fld.x3 ∈ fs) (hxing : Fld.xing ∈ fs)
    (hlog : Fld.log ∈ fs) (hret : Fld.ret ∈ fs) (hdom : Fld.dom ∈ fs) (himg : Fld.img ∈ fs) (hfab : Fld.fab ∈ fs)
    (hgroups : Fld.groups ∈ fs) (hcells : Fld.cells ∈ fs) (hculm : Fld.culm ∈ fs) (hbranches : Fld.branches ∈ fs)
    (hsrc : Fld.src ∈ fs) (hctx : Fld.ctx ∈ fs) (hbat : Fld.bat ∈ fs) (hfdr : Fld.fdr ∈ fs) (hchg : Fld.chg ∈ fs)
    (hest : Fld.est ∈ fs) (hthr : Fld.thr ∈ fs) (hawn : Fld.awn ∈ fs) :
    (State.startFlows s).but fs = s.but fs := by
  unfold State.startFlows
  split <;> simp [*]

@[simp] theorem setBank_but {fs : List Fld} (s : State) (b : Side) (x : BankRec) (himg : Fld.img ∈ fs) :
    (State.setBank s b x).but fs = s.but fs := by
  unfold State.setBank
  simp [*]

@[simp] theorem writeBoot_but {fs : List Fld} (s : State) (himg : Fld.img ∈ fs) :
    (State.writeBoot s).but fs = s.but fs := by
  unfold State.writeBoot
  split <;> simp [*]

@[simp] theorem cutBoot_but {fs : List Fld} (s : State) (hfreeN : Fld.freeN ∈ fs) (himg : Fld.img ∈ fs) :
    (State.cutBoot s).but fs = s.but fs := by
  unfold State.cutBoot
  repeat' (first | done | intro _ | split | rw [forEach_but] | rw [foldl_but] | simp +zetaDelta [*, but_ite] | extract_lets | (simp only [State.but, *, if_true]; done))

@[simp] theorem identify_but {fs : List Fld} (s : State) (b : Side) (hflt : Fld.flt ∈ fs) (himg : Fld.img ∈ fs) :
    (State.identify s b).but fs = s.but fs := by
  unfold State.identify
  simp [*]

@[simp] theorem rewriteBacking_but {fs : List Fld} (s : State) (hdeferred : Fld.deferred ∈ fs)
    (hflt : Fld.flt ∈ fs) (hsafeLine : Fld.safeLine ∈ fs) (hhalt : Fld.halt ∈ fs) (hx3 : Fld.x3 ∈ fs)
    (hxing : Fld.xing ∈ fs) (hnv : Fld.nv ∈ fs) (hlog : Fld.log ∈ fs) (hret : Fld.ret ∈ fs) (hdom : Fld.dom ∈ fs)
    (himg : Fld.img ∈ fs) (hnvs : Fld.nvs ∈ fs) (hfab : Fld.fab ∈ fs) (hgroups : Fld.groups ∈ fs)
    (hcells : Fld.cells ∈ fs) (hculm : Fld.culm ∈ fs) (hbranches : Fld.branches ∈ fs) (hsrc : Fld.src ∈ fs)
    (hctx : Fld.ctx ∈ fs) (hbat : Fld.bat ∈ fs) (hfdr : Fld.fdr ∈ fs) (hchg : Fld.chg ∈ fs) (hest : Fld.est ∈ fs)
    (hthr : Fld.thr ∈ fs) (hawn : Fld.awn ∈ fs) :
    (State.rewriteBacking s).but fs = s.but fs := by
  unfold State.rewriteBacking
  split <;> simp [*]

@[simp] theorem writeDue_but {fs : List Fld} (s : State) (hdeferred : Fld.deferred ∈ fs) (hflt : Fld.flt ∈ fs)
    (hsafeLine : Fld.safeLine ∈ fs) (hhalt : Fld.halt ∈ fs) (hx3 : Fld.x3 ∈ fs) (hxing : Fld.xing ∈ fs)
    (hnv : Fld.nv ∈ fs) (hlog : Fld.log ∈ fs) (hret : Fld.ret ∈ fs) (hdom : Fld.dom ∈ fs) (himg : Fld.img ∈ fs)
    (hnvs : Fld.nvs ∈ fs) (hfab : Fld.fab ∈ fs) (hgroups : Fld.groups ∈ fs) (hcells : Fld.cells ∈ fs)
    (hculm : Fld.culm ∈ fs) (hbranches : Fld.branches ∈ fs) (hsrc : Fld.src ∈ fs) (hctx : Fld.ctx ∈ fs)
    (hbat : Fld.bat ∈ fs) (hfdr : Fld.fdr ∈ fs) (hchg : Fld.chg ∈ fs) (hest : Fld.est ∈ fs) (hthr : Fld.thr ∈ fs)
    (hawn : Fld.awn ∈ fs) :
    (State.writeDue s).but fs = s.but fs := by
  unfold State.writeDue
  repeat' (first | done | intro _ | split | rw [forEach_but] | rw [foldl_but] | simp +zetaDelta [*, but_ite] | extract_lets | (simp only [State.but, *, if_true]; done))

@[simp] theorem loadTable_but {fs : List Fld} (s : State) (hprof : Fld.prof ∈ fs) (himg : Fld.img ∈ fs) :
    (State.loadTable s).but fs = s.but fs := by
  unfold State.loadTable
  split <;> simp [*]

@[simp] theorem resolveWriting_but {fs : List Fld} (s : State) (hdeferred : Fld.deferred ∈ fs)
    (hflt : Fld.flt ∈ fs) (hsafeLine : Fld.safeLine ∈ fs) (hhalt : Fld.halt ∈ fs) (hx3 : Fld.x3 ∈ fs)
    (hxing : Fld.xing ∈ fs) (hlog : Fld.log ∈ fs) (hret : Fld.ret ∈ fs) (hdom : Fld.dom ∈ fs)
    (himg : Fld.img ∈ fs) (hfab : Fld.fab ∈ fs) (hgroups : Fld.groups ∈ fs) (hcells : Fld.cells ∈ fs)
    (hculm : Fld.culm ∈ fs) (hbranches : Fld.branches ∈ fs) (hsrc : Fld.src ∈ fs) (hctx : Fld.ctx ∈ fs)
    (hbat : Fld.bat ∈ fs) (hfdr : Fld.fdr ∈ fs) (hchg : Fld.chg ∈ fs) (hest : Fld.est ∈ fs) (hthr : Fld.thr ∈ fs)
    (hawn : Fld.awn ∈ fs) :
    (State.resolveWriting s).but fs = s.but fs := by
  unfold State.resolveWriting
  repeat' (first | done | intro _ | split | rw [forEach_but] | rw [foldl_but] | simp +zetaDelta [*, but_ite] | extract_lets | (simp only [State.but, *, if_true]; done))

@[simp] theorem invalidBank_but {fs : List Fld} (s : State) (b : Side) (code : Nat) (himg : Fld.img ∈ fs) :
    (State.invalidBank s b code).but fs = s.but fs := by
  unfold State.invalidBank
  simp [*]

@[simp] theorem failedTwice_but {fs : List Fld} (s : State) (hdeferred : Fld.deferred ∈ fs) (hflt : Fld.flt ∈ fs)
    (hsafeLine : Fld.safeLine ∈ fs) (hhalt : Fld.halt ∈ fs) (hx3 : Fld.x3 ∈ fs) (hxing : Fld.xing ∈ fs)
    (hlog : Fld.log ∈ fs) (hret : Fld.ret ∈ fs) (hdom : Fld.dom ∈ fs) (himg : Fld.img ∈ fs) (hfab : Fld.fab ∈ fs)
    (hgroups : Fld.groups ∈ fs) (hcells : Fld.cells ∈ fs) (hculm : Fld.culm ∈ fs) (hbranches : Fld.branches ∈ fs)
    (hsrc : Fld.src ∈ fs) (hctx : Fld.ctx ∈ fs) (hbat : Fld.bat ∈ fs) (hfdr : Fld.fdr ∈ fs) (hchg : Fld.chg ∈ fs)
    (hest : Fld.est ∈ fs) (hthr : Fld.thr ∈ fs) (hawn : Fld.awn ∈ fs) :
    (State.failedTwice s).but fs = s.but fs := by
  unfold State.failedTwice
  repeat' (first | done | intro _ | split | rw [forEach_but] | rw [foldl_but] | simp +zetaDelta [*, but_ite] | extract_lets | (simp only [State.but, *, if_true]; done))

@[simp] theorem takeBank_but {fs : List Fld} (s : State) (b : Side) (hdeferred : Fld.deferred ∈ fs)
    (hflt : Fld.flt ∈ fs) (hsafeLine : Fld.safeLine ∈ fs) (hhalt : Fld.halt ∈ fs) (hx3 : Fld.x3 ∈ fs)
    (hxing : Fld.xing ∈ fs) (hrw : Fld.rw ∈ fs) (hprof : Fld.prof ∈ fs) (hlog : Fld.log ∈ fs)
    (hhost : Fld.host ∈ fs) (hret : Fld.ret ∈ fs) (hdom : Fld.dom ∈ fs) (himg : Fld.img ∈ fs)
    (hfab : Fld.fab ∈ fs) (hgroups : Fld.groups ∈ fs) (hcells : Fld.cells ∈ fs) (hculm : Fld.culm ∈ fs)
    (hgov : Fld.gov ∈ fs) (hbranches : Fld.branches ∈ fs) (hsrc : Fld.src ∈ fs) (hctx : Fld.ctx ∈ fs)
    (hbat : Fld.bat ∈ fs) (hfdr : Fld.fdr ∈ fs) (hchg : Fld.chg ∈ fs) (hest : Fld.est ∈ fs) (hthm : Fld.thm ∈ fs)
    (hthr : Fld.thr ∈ fs) (hsense : Fld.sense ∈ fs) (hawn : Fld.awn ∈ fs) :
    (State.takeBank s b).but fs = s.but fs := by
  unfold State.takeBank
  split <;> simp [*]

@[simp] theorem noBank_but {fs : List Fld} (s : State) (hdeferred : Fld.deferred ∈ fs) (hflt : Fld.flt ∈ fs)
    (hsafeLine : Fld.safeLine ∈ fs) (hhalt : Fld.halt ∈ fs) (hx3 : Fld.x3 ∈ fs) (hxing : Fld.xing ∈ fs)
    (hlog : Fld.log ∈ fs) (hret : Fld.ret ∈ fs) (hdom : Fld.dom ∈ fs) (himg : Fld.img ∈ fs) (hfab : Fld.fab ∈ fs)
    (hgroups : Fld.groups ∈ fs) (hcells : Fld.cells ∈ fs) (hculm : Fld.culm ∈ fs) (hbranches : Fld.branches ∈ fs)
    (hsrc : Fld.src ∈ fs) (hctx : Fld.ctx ∈ fs) (hbat : Fld.bat ∈ fs) (hfdr : Fld.fdr ∈ fs) (hchg : Fld.chg ∈ fs)
    (hest : Fld.est ∈ fs) (hthr : Fld.thr ∈ fs) (hawn : Fld.awn ∈ fs) :
    (State.noBank s).but fs = s.but fs := by
  unfold State.noBank
  simp [*]

@[simp] theorem takeOther_but {fs : List Fld} (s : State) (b : Side) (hdeferred : Fld.deferred ∈ fs)
    (hflt : Fld.flt ∈ fs) (hsafeLine : Fld.safeLine ∈ fs) (hhalt : Fld.halt ∈ fs) (hx3 : Fld.x3 ∈ fs)
    (hxing : Fld.xing ∈ fs) (hrw : Fld.rw ∈ fs) (hprof : Fld.prof ∈ fs) (hlog : Fld.log ∈ fs)
    (hhost : Fld.host ∈ fs) (hret : Fld.ret ∈ fs) (hdom : Fld.dom ∈ fs) (himg : Fld.img ∈ fs)
    (hfab : Fld.fab ∈ fs) (hgroups : Fld.groups ∈ fs) (hcells : Fld.cells ∈ fs) (hculm : Fld.culm ∈ fs)
    (hgov : Fld.gov ∈ fs) (hbranches : Fld.branches ∈ fs) (hsrc : Fld.src ∈ fs) (hctx : Fld.ctx ∈ fs)
    (hbat : Fld.bat ∈ fs) (hfdr : Fld.fdr ∈ fs) (hchg : Fld.chg ∈ fs) (hest : Fld.est ∈ fs) (hthm : Fld.thm ∈ fs)
    (hthr : Fld.thr ∈ fs) (hsense : Fld.sense ∈ fs) (hawn : Fld.awn ∈ fs) :
    (State.takeOther s b).but fs = s.but fs := by
  unfold State.takeOther
  extract_lets
  (repeat' split) <;> simp +zetaDelta [*]

@[simp] theorem readBank_but {fs : List Fld} (s : State) (b : Side) (e : Bool) (hfreeN : Fld.freeN ∈ fs)
    (hdeferred : Fld.deferred ∈ fs) (hflt : Fld.flt ∈ fs) (hsafeLine : Fld.safeLine ∈ fs) (hhalt : Fld.halt ∈ fs)
    (hx3 : Fld.x3 ∈ fs) (hxing : Fld.xing ∈ fs) (hlog : Fld.log ∈ fs) (hret : Fld.ret ∈ fs) (hdom : Fld.dom ∈ fs)
    (himg : Fld.img ∈ fs) (hnvs : Fld.nvs ∈ fs) (hfab : Fld.fab ∈ fs) (hgroups : Fld.groups ∈ fs)
    (hcells : Fld.cells ∈ fs) (hculm : Fld.culm ∈ fs) (hbranches : Fld.branches ∈ fs) (hsrc : Fld.src ∈ fs)
    (hctx : Fld.ctx ∈ fs) (hbat : Fld.bat ∈ fs) (hfdr : Fld.fdr ∈ fs) (hchg : Fld.chg ∈ fs) (hest : Fld.est ∈ fs)
    (hthr : Fld.thr ∈ fs) (hawn : Fld.awn ∈ fs) :
    (State.readBank s b e).1.but fs = s.but fs := by
  unfold State.readBank
  repeat' (first | done | split | simp +zetaDelta [*] | extract_lets)

@[simp] theorem tryCandidate_but {fs : List Fld} (s : State) (b : Side) (errs : Fin 3) (hfreeN : Fld.freeN ∈ fs)
    (hdeferred : Fld.deferred ∈ fs) (hflt : Fld.flt ∈ fs) (hsafeLine : Fld.safeLine ∈ fs) (hhalt : Fld.halt ∈ fs)
    (hx3 : Fld.x3 ∈ fs) (hxing : Fld.xing ∈ fs) (hrw : Fld.rw ∈ fs) (hprof : Fld.prof ∈ fs) (hlog : Fld.log ∈ fs)
    (hhost : Fld.host ∈ fs) (hret : Fld.ret ∈ fs) (hdom : Fld.dom ∈ fs) (himg : Fld.img ∈ fs)
    (hnvs : Fld.nvs ∈ fs) (hfab : Fld.fab ∈ fs) (hgroups : Fld.groups ∈ fs) (hcells : Fld.cells ∈ fs)
    (hculm : Fld.culm ∈ fs) (hgov : Fld.gov ∈ fs) (hbranches : Fld.branches ∈ fs) (hsrc : Fld.src ∈ fs)
    (hctx : Fld.ctx ∈ fs) (hbat : Fld.bat ∈ fs) (hfdr : Fld.fdr ∈ fs) (hchg : Fld.chg ∈ fs) (hest : Fld.est ∈ fs)
    (hthm : Fld.thm ∈ fs) (hthr : Fld.thr ∈ fs) (hsense : Fld.sense ∈ fs) (hawn : Fld.awn ∈ fs) :
    (State.tryCandidate s b errs).but fs = s.but fs := by
  have h (t : State) (e : Bool) : (t.readBank b e).1.but fs = t.but fs := by simp [*]
  unfold State.tryCandidate
  split
  rename_i t code he
  have ht : t.but fs = s.but fs := by
    rw [← h s (errs != 0), he]
  split
  · simp [*]
  · extract_lets again u
    have hu : u.but fs = s.but fs := by
      rw [← ht]
      simp [u, *]
    split
    · split
      rename_i v code' hv
      have hv' : v.but fs = s.but fs := by
        rw [← hu, ← h u (errs == 2), hv]
      extract_lets w
      have hw : w.but fs = s.but fs := by
        rw [← hv']
        simp [w, *]
      split <;> simp [*]
    · simp [*]

@[simp] theorem loadBoth_but {fs : List Fld} (s : State) (hdeferred : Fld.deferred ∈ fs) (hflt : Fld.flt ∈ fs)
    (hsafeLine : Fld.safeLine ∈ fs) (hhalt : Fld.halt ∈ fs) (hx3 : Fld.x3 ∈ fs) (hxing : Fld.xing ∈ fs)
    (hrw : Fld.rw ∈ fs) (hprof : Fld.prof ∈ fs) (hlog : Fld.log ∈ fs) (hhost : Fld.host ∈ fs)
    (hret : Fld.ret ∈ fs) (hdom : Fld.dom ∈ fs) (himg : Fld.img ∈ fs) (hfab : Fld.fab ∈ fs)
    (hgroups : Fld.groups ∈ fs) (hcells : Fld.cells ∈ fs) (hculm : Fld.culm ∈ fs) (hgov : Fld.gov ∈ fs)
    (hbranches : Fld.branches ∈ fs) (hsrc : Fld.src ∈ fs) (hctx : Fld.ctx ∈ fs) (hbat : Fld.bat ∈ fs)
    (hfdr : Fld.fdr ∈ fs) (hchg : Fld.chg ∈ fs) (hest : Fld.est ∈ fs) (hthm : Fld.thm ∈ fs) (hthr : Fld.thr ∈ fs)
    (hsense : Fld.sense ∈ fs) (hawn : Fld.awn ∈ fs) :
    (State.loadBoth s).but fs = s.but fs := by
  unfold State.loadBoth
  extract_lets
  (repeat' split) <;> simp +zetaDelta [*]

@[simp] theorem takeRecord_but {fs : List Fld} (s : State) (r : BootRec) (hdeferred : Fld.deferred ∈ fs)
    (hflt : Fld.flt ∈ fs) (hsafeLine : Fld.safeLine ∈ fs) (hhalt : Fld.halt ∈ fs) (hx3 : Fld.x3 ∈ fs)
    (hxing : Fld.xing ∈ fs) (hlog : Fld.log ∈ fs) (hret : Fld.ret ∈ fs) (hdom : Fld.dom ∈ fs)
    (himg : Fld.img ∈ fs) (hfab : Fld.fab ∈ fs) (hgroups : Fld.groups ∈ fs) (hcells : Fld.cells ∈ fs)
    (hculm : Fld.culm ∈ fs) (hbranches : Fld.branches ∈ fs) (hsrc : Fld.src ∈ fs) (hctx : Fld.ctx ∈ fs)
    (hbat : Fld.bat ∈ fs) (hfdr : Fld.fdr ∈ fs) (hchg : Fld.chg ∈ fs) (hest : Fld.est ∈ fs) (hthr : Fld.thr ∈ fs)
    (hawn : Fld.awn ∈ fs) :
    (State.takeRecord s r).but fs = s.but fs := by
  unfold State.takeRecord
  repeat' (first | done | intro _ | split | rw [forEach_but] | rw [foldl_but] | simp +zetaDelta [*, but_ite] | extract_lets | (simp only [State.but, *, if_true]; done))

@[simp] theorem loadRecord_but {fs : List Fld} (s : State) (r : BootRec) (errs : Fin 3) (hfreeN : Fld.freeN ∈ fs)
    (hdeferred : Fld.deferred ∈ fs) (hflt : Fld.flt ∈ fs) (hsafeLine : Fld.safeLine ∈ fs) (hhalt : Fld.halt ∈ fs)
    (hx3 : Fld.x3 ∈ fs) (hxing : Fld.xing ∈ fs) (hrw : Fld.rw ∈ fs) (hprof : Fld.prof ∈ fs) (hlog : Fld.log ∈ fs)
    (hhost : Fld.host ∈ fs) (hret : Fld.ret ∈ fs) (hdom : Fld.dom ∈ fs) (himg : Fld.img ∈ fs)
    (hnvs : Fld.nvs ∈ fs) (hfab : Fld.fab ∈ fs) (hgroups : Fld.groups ∈ fs) (hcells : Fld.cells ∈ fs)
    (hculm : Fld.culm ∈ fs) (hgov : Fld.gov ∈ fs) (hbranches : Fld.branches ∈ fs) (hsrc : Fld.src ∈ fs)
    (hctx : Fld.ctx ∈ fs) (hbat : Fld.bat ∈ fs) (hfdr : Fld.fdr ∈ fs) (hchg : Fld.chg ∈ fs) (hest : Fld.est ∈ fs)
    (hthm : Fld.thm ∈ fs) (hthr : Fld.thr ∈ fs) (hsense : Fld.sense ∈ fs) (hawn : Fld.awn ∈ fs) :
    (State.loadRecord s r errs).but fs = s.but fs := by
  unfold State.loadRecord
  repeat' (first | done | intro _ | split | rw [forEach_but] | rw [foldl_but] | simp +zetaDelta [*, but_ite] | extract_lets | (simp only [State.but, *, if_true]; done))

@[simp] theorem loadImage_but {fs : List Fld} (s : State) (cal : Bool × Bool) (errs : Fin 3)
    (hfreeN : Fld.freeN ∈ fs) (hdeferred : Fld.deferred ∈ fs) (hflt : Fld.flt ∈ fs)
    (hsafeLine : Fld.safeLine ∈ fs) (hhalt : Fld.halt ∈ fs) (hx3 : Fld.x3 ∈ fs) (hxing : Fld.xing ∈ fs)
    (hrw : Fld.rw ∈ fs) (hprof : Fld.prof ∈ fs) (hlog : Fld.log ∈ fs) (hhost : Fld.host ∈ fs)
    (hret : Fld.ret ∈ fs) (hdom : Fld.dom ∈ fs) (himg : Fld.img ∈ fs) (hnvs : Fld.nvs ∈ fs) (hfab : Fld.fab ∈ fs)
    (hgroups : Fld.groups ∈ fs) (hcells : Fld.cells ∈ fs) (hculm : Fld.culm ∈ fs) (hgov : Fld.gov ∈ fs)
    (hbranches : Fld.branches ∈ fs) (hsrc : Fld.src ∈ fs) (hctx : Fld.ctx ∈ fs) (hbat : Fld.bat ∈ fs)
    (hfdr : Fld.fdr ∈ fs) (hchg : Fld.chg ∈ fs) (hest : Fld.est ∈ fs) (hthm : Fld.thm ∈ fs) (hthr : Fld.thr ∈ fs)
    (hsense : Fld.sense ∈ fs) (hawn : Fld.awn ∈ fs) :
    (State.loadImage s cal errs).but fs = s.but fs := by
  unfold State.loadImage
  repeat' (first | done | intro _ | split | rw [forEach_but] | rw [foldl_but] | simp +zetaDelta [*, but_ite] | extract_lets | (simp only [State.but, *, if_true]; done))

@[simp] theorem followDegraded_but {fs : List Fld} (s : State) (hdom : Fld.dom ∈ fs) :
    (State.followDegraded s).but fs = s.but fs := by
  unfold State.followDegraded
  (repeat' split) <;> simp [*]

@[simp] theorem refuseDomain_but {fs : List Fld} (s : State) (d : Nat) (cause : Nat)
    (hdeferred : Fld.deferred ∈ fs) (hflt : Fld.flt ∈ fs) (hsafeLine : Fld.safeLine ∈ fs) (hhalt : Fld.halt ∈ fs)
    (hx3 : Fld.x3 ∈ fs) (hxing : Fld.xing ∈ fs) (hlog : Fld.log ∈ fs) (hret : Fld.ret ∈ fs) (hdom : Fld.dom ∈ fs)
    (himg : Fld.img ∈ fs) (hfab : Fld.fab ∈ fs) (hgroups : Fld.groups ∈ fs) (hcells : Fld.cells ∈ fs)
    (hculm : Fld.culm ∈ fs) (hbranches : Fld.branches ∈ fs) (hsrc : Fld.src ∈ fs) (hctx : Fld.ctx ∈ fs)
    (hbat : Fld.bat ∈ fs) (hfdr : Fld.fdr ∈ fs) (hchg : Fld.chg ∈ fs) (hest : Fld.est ∈ fs) (hthr : Fld.thr ∈ fs)
    (hawn : Fld.awn ∈ fs) :
    (State.refuseDomain s d cause).but fs = s.but fs := by
  unfold State.refuseDomain
  split <;> simp [*]

@[simp] theorem selfTest_but {fs : List Fld} (failed : List Cell) (s : State) (c : Cell)
    (hdeferred : Fld.deferred ∈ fs) (hflt : Fld.flt ∈ fs) (hsafeLine : Fld.safeLine ∈ fs) (hhalt : Fld.halt ∈ fs)
    (hx3 : Fld.x3 ∈ fs) (hxing : Fld.xing ∈ fs) (hlog : Fld.log ∈ fs) (hret : Fld.ret ∈ fs) (hdom : Fld.dom ∈ fs)
    (himg : Fld.img ∈ fs) (hfab : Fld.fab ∈ fs) (hgroups : Fld.groups ∈ fs) (hcells : Fld.cells ∈ fs)
    (hculm : Fld.culm ∈ fs) (hbranches : Fld.branches ∈ fs) (hsrc : Fld.src ∈ fs) (hctx : Fld.ctx ∈ fs)
    (hbat : Fld.bat ∈ fs) (hfdr : Fld.fdr ∈ fs) (hchg : Fld.chg ∈ fs) (hest : Fld.est ∈ fs) (hthr : Fld.thr ∈ fs)
    (hawn : Fld.awn ∈ fs) :
    (State.selfTest failed s c).but fs = s.but fs := by
  unfold State.selfTest
  extract_lets
  (repeat' split) <;> simp +zetaDelta [*]

@[simp] theorem powerOn_but {fs : List Fld} (failed : List Cell) (s : State) (d : Nat)
    (hdeferred : Fld.deferred ∈ fs) (hflt : Fld.flt ∈ fs) (hsafeLine : Fld.safeLine ∈ fs) (hhalt : Fld.halt ∈ fs)
    (hx3 : Fld.x3 ∈ fs) (hxing : Fld.xing ∈ fs) (hlog : Fld.log ∈ fs) (hret : Fld.ret ∈ fs) (hdom : Fld.dom ∈ fs)
    (himg : Fld.img ∈ fs) (hfab : Fld.fab ∈ fs) (hgroups : Fld.groups ∈ fs) (hcells : Fld.cells ∈ fs)
    (hculm : Fld.culm ∈ fs) (hbranches : Fld.branches ∈ fs) (hsrc : Fld.src ∈ fs) (hctx : Fld.ctx ∈ fs)
    (hbat : Fld.bat ∈ fs) (hfdr : Fld.fdr ∈ fs) (hchg : Fld.chg ∈ fs) (hest : Fld.est ∈ fs) (hthr : Fld.thr ∈ fs)
    (hawn : Fld.awn ∈ fs) (hring : Fld.ring ∈ fs) (hcan : Fld.can ∈ fs) :
    (State.powerOn failed s d).but fs = s.but fs := by
  unfold State.powerOn
  (repeat' split) <;> simp [*]

@[simp] theorem maskLines_but {fs : List Fld} (s : State) (d : Nat) (hhalt : Fld.halt ∈ fs) :
    (State.maskLines s d).but fs = s.but fs := by
  unfold State.maskLines
  simp [*]

@[simp] theorem cut_but {fs : List Fld} (s : State) (d : Nat) (hfreeN : Fld.freeN ∈ fs)
    (hdeferred : Fld.deferred ∈ fs) (hflt : Fld.flt ∈ fs) (hsafeLine : Fld.safeLine ∈ fs) (hhalt : Fld.halt ∈ fs)
    (hx3 : Fld.x3 ∈ fs) (hxing : Fld.xing ∈ fs) (hxslots : Fld.xslots ∈ fs) (hlog : Fld.log ∈ fs)
    (hret : Fld.ret ∈ fs) (hdom : Fld.dom ∈ fs) (himg : Fld.img ∈ fs) (hfab : Fld.fab ∈ fs)
    (hgroups : Fld.groups ∈ fs) (hcells : Fld.cells ∈ fs) (hculm : Fld.culm ∈ fs) (hbranches : Fld.branches ∈ fs)
    (hsrc : Fld.src ∈ fs) (hctx : Fld.ctx ∈ fs) (hbat : Fld.bat ∈ fs) (hfdr : Fld.fdr ∈ fs) (hchg : Fld.chg ∈ fs)
    (hest : Fld.est ∈ fs) (hthr : Fld.thr ∈ fs) (hawn : Fld.awn ∈ fs) :
    (State.cut s d).but fs = s.but fs := by
  unfold State.cut
  repeat' (first | done | intro _ | split | rw [forEach_but] | rw [foldl_but] | simp +zetaDelta [*, but_ite] | extract_lets | (simp only [State.but, *, if_true]; done))

@[simp] theorem powerOff_but {fs : List Fld} (s : State) (d : Nat) (hfreeN : Fld.freeN ∈ fs)
    (hdeferred : Fld.deferred ∈ fs) (hflt : Fld.flt ∈ fs) (hsafeLine : Fld.safeLine ∈ fs) (hhalt : Fld.halt ∈ fs)
    (hx3 : Fld.x3 ∈ fs) (hxing : Fld.xing ∈ fs) (hxslots : Fld.xslots ∈ fs) (hlog : Fld.log ∈ fs)
    (hret : Fld.ret ∈ fs) (hdom : Fld.dom ∈ fs) (himg : Fld.img ∈ fs) (hfab : Fld.fab ∈ fs)
    (hgroups : Fld.groups ∈ fs) (hcells : Fld.cells ∈ fs) (hculm : Fld.culm ∈ fs) (hbranches : Fld.branches ∈ fs)
    (hsrc : Fld.src ∈ fs) (hctx : Fld.ctx ∈ fs) (hbat : Fld.bat ∈ fs) (hfdr : Fld.fdr ∈ fs) (hchg : Fld.chg ∈ fs)
    (hest : Fld.est ∈ fs) (hthr : Fld.thr ∈ fs) (hawn : Fld.awn ∈ fs) :
    (State.powerOff s d).but fs = s.but fs := by
  unfold State.powerOff
  (repeat' split) <;> simp [*]

@[simp] theorem runDomains_but {fs : List Fld} (failed : List Cell) (s : State) (hfreeN : Fld.freeN ∈ fs)
    (hdeferred : Fld.deferred ∈ fs) (hflt : Fld.flt ∈ fs) (hsafeLine : Fld.safeLine ∈ fs) (hhalt : Fld.halt ∈ fs)
    (hx3 : Fld.x3 ∈ fs) (hxing : Fld.xing ∈ fs) (hxslots : Fld.xslots ∈ fs) (hlog : Fld.log ∈ fs)
    (hret : Fld.ret ∈ fs) (hdom : Fld.dom ∈ fs) (himg : Fld.img ∈ fs) (hfab : Fld.fab ∈ fs)
    (hgroups : Fld.groups ∈ fs) (hcells : Fld.cells ∈ fs) (hculm : Fld.culm ∈ fs) (hbranches : Fld.branches ∈ fs)
    (hsrc : Fld.src ∈ fs) (hctx : Fld.ctx ∈ fs) (hbat : Fld.bat ∈ fs) (hfdr : Fld.fdr ∈ fs) (hchg : Fld.chg ∈ fs)
    (hest : Fld.est ∈ fs) (hthr : Fld.thr ∈ fs) (hawn : Fld.awn ∈ fs) (hring : Fld.ring ∈ fs) (hcan : Fld.can ∈ fs) :
    (State.runDomains failed s).but fs = s.but fs := by
  unfold State.runDomains
  repeat' (first | done | intro _ | split | rw [forEach_but] | rw [foldl_but] | simp +zetaDelta [*, but_ite] | extract_lets | (simp only [State.but, *, if_true]; done))

@[simp] theorem restoreBranches_but {fs : List Fld} (s : State) (hrw : Fld.rw ∈ fs) :
    (State.restoreBranches s).but fs = s.but fs := by
  unfold State.restoreBranches
  simp [*]

@[simp] theorem toRun_but {fs : List Fld} (s : State) (hdeferred : Fld.deferred ∈ fs) (hflt : Fld.flt ∈ fs)
    (hsafeLine : Fld.safeLine ∈ fs) (hhalt : Fld.halt ∈ fs) (hx3 : Fld.x3 ∈ fs) (hxing : Fld.xing ∈ fs)
    (hnv : Fld.nv ∈ fs) (hlog : Fld.log ∈ fs) (hret : Fld.ret ∈ fs) (hdom : Fld.dom ∈ fs) (himg : Fld.img ∈ fs)
    (hnvs : Fld.nvs ∈ fs) (hfab : Fld.fab ∈ fs) (hgroups : Fld.groups ∈ fs) (hcells : Fld.cells ∈ fs)
    (hculm : Fld.culm ∈ fs) (hbranches : Fld.branches ∈ fs) (hsrc : Fld.src ∈ fs) (hctx : Fld.ctx ∈ fs)
    (hbat : Fld.bat ∈ fs) (hfdr : Fld.fdr ∈ fs) (hchg : Fld.chg ∈ fs) (hest : Fld.est ∈ fs) (hthr : Fld.thr ∈ fs)
    (hawn : Fld.awn ∈ fs) :
    (State.toRun s).but fs = s.but fs := by
  unfold State.toRun
  simp [*]

@[simp] theorem orStubble_but {fs : List Fld} (s : State) (hdom : Fld.dom ∈ fs) (himg : Fld.img ∈ fs)
    (hgroups : Fld.groups ∈ fs) (hctx : Fld.ctx ∈ fs) (hchg : Fld.chg ∈ fs) (hthr : Fld.thr ∈ fs) :
    (State.orStubble s).but fs = s.but fs := by
  unfold State.orStubble
  repeat' (first | done | intro _ | split | rw [forEach_but] | rw [foldl_but] | simp +zetaDelta [*, but_ite] | extract_lets | (simp only [State.but, *, if_true]; done))

@[simp] theorem runEntry_but {fs : List Fld} (s : State) (failed : List Cell) (hfreeN : Fld.freeN ∈ fs)
    (hdeferred : Fld.deferred ∈ fs) (hflt : Fld.flt ∈ fs) (hsafeLine : Fld.safeLine ∈ fs) (hhalt : Fld.halt ∈ fs)
    (hx3 : Fld.x3 ∈ fs) (hxing : Fld.xing ∈ fs) (hxslots : Fld.xslots ∈ fs) (hrw : Fld.rw ∈ fs)
    (hnv : Fld.nv ∈ fs) (hlog : Fld.log ∈ fs) (hret : Fld.ret ∈ fs) (hdom : Fld.dom ∈ fs) (himg : Fld.img ∈ fs)
    (hnvs : Fld.nvs ∈ fs) (hfab : Fld.fab ∈ fs) (hgroups : Fld.groups ∈ fs) (hcells : Fld.cells ∈ fs)
    (hculm : Fld.culm ∈ fs) (hbranches : Fld.branches ∈ fs) (hsrc : Fld.src ∈ fs) (hctx : Fld.ctx ∈ fs)
    (hbat : Fld.bat ∈ fs) (hfdr : Fld.fdr ∈ fs) (hchg : Fld.chg ∈ fs) (hest : Fld.est ∈ fs) (hthr : Fld.thr ∈ fs)
    (hawn : Fld.awn ∈ fs) (hring : Fld.ring ∈ fs) (hcan : Fld.can ∈ fs) :
    (State.runEntry s failed).but fs = s.but fs := by
  unfold State.runEntry
  simp [*]

@[simp] theorem stopGroups_but {fs : List Fld} (s : State) (hfab : Fld.fab ∈ fs) (hgroups : Fld.groups ∈ fs)
    (hcells : Fld.cells ∈ fs) :
    (State.stopGroups s).but fs = s.but fs := by
  unfold State.stopGroups
  simp [*]

@[simp] theorem restPorts_but {fs : List Fld} (s : State) (hsrc : Fld.src ∈ fs) (hfdr : Fld.fdr ∈ fs) :
    (State.restPorts s).but fs = s.but fs := by
  unfold State.restPorts
  repeat' (first | done | intro _ | split | rw [forEach_but] | rw [foldl_but] | simp +zetaDelta [*, but_ite] | extract_lets | (simp only [State.but, *, if_true]; done))

@[simp] theorem toStandby_but {fs : List Fld} (s : State) (hfreeN : Fld.freeN ∈ fs)
    (hdeferred : Fld.deferred ∈ fs) (hflt : Fld.flt ∈ fs) (hsafeLine : Fld.safeLine ∈ fs) (hhalt : Fld.halt ∈ fs)
    (hx3 : Fld.x3 ∈ fs) (hxing : Fld.xing ∈ fs) (hxslots : Fld.xslots ∈ fs) (hlog : Fld.log ∈ fs)
    (hret : Fld.ret ∈ fs) (hdom : Fld.dom ∈ fs) (himg : Fld.img ∈ fs) (hfab : Fld.fab ∈ fs)
    (hgroups : Fld.groups ∈ fs) (hcells : Fld.cells ∈ fs) (hculm : Fld.culm ∈ fs) (hbranches : Fld.branches ∈ fs)
    (hsrc : Fld.src ∈ fs) (hctx : Fld.ctx ∈ fs) (hbat : Fld.bat ∈ fs) (hfdr : Fld.fdr ∈ fs) (hchg : Fld.chg ∈ fs)
    (hest : Fld.est ∈ fs) (hthr : Fld.thr ∈ fs) (hawn : Fld.awn ∈ fs) :
    (State.toStandby s).but fs = s.but fs := by
  unfold State.toStandby
  simp [*]

@[simp] theorem refuseState_but {fs : List Fld} (s : State) (hdeferred : Fld.deferred ∈ fs) (hflt : Fld.flt ∈ fs)
    (hsafeLine : Fld.safeLine ∈ fs) (hhalt : Fld.halt ∈ fs) (hx3 : Fld.x3 ∈ fs) (hxing : Fld.xing ∈ fs)
    (hlog : Fld.log ∈ fs) (hret : Fld.ret ∈ fs) (hdom : Fld.dom ∈ fs) (himg : Fld.img ∈ fs) (hfab : Fld.fab ∈ fs)
    (hgroups : Fld.groups ∈ fs) (hcells : Fld.cells ∈ fs) (hculm : Fld.culm ∈ fs) (hbranches : Fld.branches ∈ fs)
    (hsrc : Fld.src ∈ fs) (hctx : Fld.ctx ∈ fs) (hbat : Fld.bat ∈ fs) (hfdr : Fld.fdr ∈ fs) (hchg : Fld.chg ∈ fs)
    (hest : Fld.est ∈ fs) (hthr : Fld.thr ∈ fs) (hawn : Fld.awn ∈ fs) :
    (State.refuseState s).but fs = s.but fs := by
  unfold State.refuseState
  simp [*]

@[simp] theorem orderRun_but {fs : List Fld} (s : State) (failed : List Cell) (hfreeN : Fld.freeN ∈ fs)
    (hdeferred : Fld.deferred ∈ fs) (hflt : Fld.flt ∈ fs) (hsafeLine : Fld.safeLine ∈ fs) (hhalt : Fld.halt ∈ fs)
    (hx3 : Fld.x3 ∈ fs) (hxing : Fld.xing ∈ fs) (hxslots : Fld.xslots ∈ fs) (hrw : Fld.rw ∈ fs)
    (hnv : Fld.nv ∈ fs) (hlog : Fld.log ∈ fs) (hret : Fld.ret ∈ fs) (hdom : Fld.dom ∈ fs) (himg : Fld.img ∈ fs)
    (hnvs : Fld.nvs ∈ fs) (hfab : Fld.fab ∈ fs) (hgroups : Fld.groups ∈ fs) (hcells : Fld.cells ∈ fs)
    (hculm : Fld.culm ∈ fs) (hbranches : Fld.branches ∈ fs) (hsrc : Fld.src ∈ fs) (hctx : Fld.ctx ∈ fs)
    (hbat : Fld.bat ∈ fs) (hfdr : Fld.fdr ∈ fs) (hchg : Fld.chg ∈ fs) (hest : Fld.est ∈ fs) (hthr : Fld.thr ∈ fs)
    (hawn : Fld.awn ∈ fs) (hring : Fld.ring ∈ fs) (hcan : Fld.can ∈ fs) :
    (State.orderRun s failed).but fs = s.but fs := by
  unfold State.orderRun
  split <;> simp [*]

@[simp] theorem orderStandby_but {fs : List Fld} (s : State) (hfreeN : Fld.freeN ∈ fs)
    (hdeferred : Fld.deferred ∈ fs) (hflt : Fld.flt ∈ fs) (hsafeLine : Fld.safeLine ∈ fs) (hhalt : Fld.halt ∈ fs)
    (hx3 : Fld.x3 ∈ fs) (hxing : Fld.xing ∈ fs) (hxslots : Fld.xslots ∈ fs) (hlog : Fld.log ∈ fs)
    (hret : Fld.ret ∈ fs) (hdom : Fld.dom ∈ fs) (himg : Fld.img ∈ fs) (hfab : Fld.fab ∈ fs)
    (hgroups : Fld.groups ∈ fs) (hcells : Fld.cells ∈ fs) (hculm : Fld.culm ∈ fs) (hbranches : Fld.branches ∈ fs)
    (hsrc : Fld.src ∈ fs) (hctx : Fld.ctx ∈ fs) (hbat : Fld.bat ∈ fs) (hfdr : Fld.fdr ∈ fs) (hchg : Fld.chg ∈ fs)
    (hest : Fld.est ∈ fs) (hthr : Fld.thr ∈ fs) (hawn : Fld.awn ∈ fs) :
    (State.orderStandby s).but fs = s.but fs := by
  unfold State.orderStandby
  split <;> simp [*]

@[simp] theorem saveSlot_but {fs : List Fld} (s : State) (k : Side) (ok : Bool) (hret : Fld.ret ∈ fs)
    (hslots : Fld.slots ∈ fs) (hdom : Fld.dom ∈ fs) :
    (State.saveSlot s k ok).but fs = s.but fs := by
  unfold State.saveSlot
  simp [*]

@[simp] theorem finishProgram_but {fs : List Fld} (s : State) (hfreeN : Fld.freeN ∈ fs) (hnv : Fld.nv ∈ fs)
    (hnvs : Fld.nvs ∈ fs) :
    (State.finishProgram s).but fs = s.but fs := by
  unfold State.finishProgram
  split
  · split
    · simp [*]
    · rfl
  · split
    · exact spoilErase_but _ _ hfreeN hnv hnvs
    · rfl
  · rfl

@[simp] theorem keepStages_but {fs : List Fld} (s t : State) (hsrc : Fld.src ∈ fs) (hbat : Fld.bat ∈ fs) :
    (State.keepStages s t).but fs = t.but fs := by
  unfold State.keepStages
  simp [*]

@[simp] theorem domainReset_but {fs : List Fld} (s : State) (hpending : Fld.pending ∈ fs) (hnow : Fld.now ∈ fs)
    (hfreeN : Fld.freeN ∈ fs) (hdeferred : Fld.deferred ∈ fs) (hflt : Fld.flt ∈ fs)
    (hsafeLine : Fld.safeLine ∈ fs) (hhalt : Fld.halt ∈ fs) (hx3 : Fld.x3 ∈ fs) (hxing : Fld.xing ∈ fs)
    (hxslots : Fld.xslots ∈ fs) (hrw : Fld.rw ∈ fs) (hnv : Fld.nv ∈ fs) (hprof : Fld.prof ∈ fs)
    (hlog : Fld.log ∈ fs) (hwdg : Fld.wdg ∈ fs) (hhost : Fld.host ∈ fs) (hret : Fld.ret ∈ fs)
    (hslots : Fld.slots ∈ fs) (hdom : Fld.dom ∈ fs) (himg : Fld.img ∈ fs) (hnvs : Fld.nvs ∈ fs)
    (hsys : Fld.sys ∈ fs) (hfuse : Fld.fuse ∈ fs) (hfab : Fld.fab ∈ fs) (hgroups : Fld.groups ∈ fs)
    (hcells : Fld.cells ∈ fs) (hculm : Fld.culm ∈ fs) (hgov : Fld.gov ∈ fs) (hbranches : Fld.branches ∈ fs)
    (hloads : Fld.loads ∈ fs) (hsrc : Fld.src ∈ fs) (hhov : Fld.hov ∈ fs) (hflow : Fld.flow ∈ fs)
    (hctx : Fld.ctx ∈ fs) (hbat : Fld.bat ∈ fs) (hfdr : Fld.fdr ∈ fs) (hchg : Fld.chg ∈ fs)
    (hprofIO : Fld.profIO ∈ fs) (hbms : Fld.bms ∈ fs) (hest : Fld.est ∈ fs) (hthm : Fld.thm ∈ fs)
    (hthr : Fld.thr ∈ fs) (hsense : Fld.sense ∈ fs) (hawn : Fld.awn ∈ fs) (hring : Fld.ring ∈ fs)
    (hcan : Fld.can ∈ fs) (henergy : Fld.energy ∈ fs) :
    (State.domainReset s).but fs = s.but fs := by
  unfold State.domainReset
  repeat' (first | done | intro _ | split | rw [forEach_but] | rw [foldl_but] | simp +zetaDelta [*, but_ite] | extract_lets | (simp only [State.but, *, if_true]; done))

@[simp] theorem coldReset_but {fs : List Fld} (s : State) (hpending : Fld.pending ∈ fs) (hnow : Fld.now ∈ fs)
    (hfreeN : Fld.freeN ∈ fs) (hdeferred : Fld.deferred ∈ fs) (hflt : Fld.flt ∈ fs)
    (hsafeLine : Fld.safeLine ∈ fs) (hhalt : Fld.halt ∈ fs) (hx3 : Fld.x3 ∈ fs) (hxing : Fld.xing ∈ fs)
    (hxslots : Fld.xslots ∈ fs) (hrw : Fld.rw ∈ fs) (hnv : Fld.nv ∈ fs) (hprof : Fld.prof ∈ fs)
    (hlog : Fld.log ∈ fs) (hwdg : Fld.wdg ∈ fs) (hhost : Fld.host ∈ fs) (hret : Fld.ret ∈ fs)
    (hslots : Fld.slots ∈ fs) (hdom : Fld.dom ∈ fs) (himg : Fld.img ∈ fs) (hnvs : Fld.nvs ∈ fs)
    (hsys : Fld.sys ∈ fs) (hfuse : Fld.fuse ∈ fs) (hfab : Fld.fab ∈ fs) (hgroups : Fld.groups ∈ fs)
    (hcells : Fld.cells ∈ fs) (hculm : Fld.culm ∈ fs) (hgov : Fld.gov ∈ fs) (hbranches : Fld.branches ∈ fs)
    (hloads : Fld.loads ∈ fs) (hsrc : Fld.src ∈ fs) (hhov : Fld.hov ∈ fs) (hflow : Fld.flow ∈ fs)
    (hctx : Fld.ctx ∈ fs) (hbat : Fld.bat ∈ fs) (hfdr : Fld.fdr ∈ fs) (hchg : Fld.chg ∈ fs)
    (hprofIO : Fld.profIO ∈ fs) (hbms : Fld.bms ∈ fs) (hest : Fld.est ∈ fs) (hthm : Fld.thm ∈ fs)
    (hthr : Fld.thr ∈ fs) (hsense : Fld.sense ∈ fs) (hawn : Fld.awn ∈ fs) (hring : Fld.ring ∈ fs)
    (hcan : Fld.can ∈ fs) (henergy : Fld.energy ∈ fs) :
    (State.coldReset s).but fs = s.but fs := by
  unfold State.coldReset
  simp [*]

@[simp] theorem beginBoot_but {fs : List Fld} (s : State) (cold : Bool) (wake : Wake) (port : SPort)
    (hpending : Fld.pending ∈ fs) (hnow : Fld.now ∈ fs) (hfreeN : Fld.freeN ∈ fs) (hdeferred : Fld.deferred ∈ fs)
    (hflt : Fld.flt ∈ fs) (hsafeLine : Fld.safeLine ∈ fs) (hhalt : Fld.halt ∈ fs) (hx3 : Fld.x3 ∈ fs)
    (hxing : Fld.xing ∈ fs) (hxslots : Fld.xslots ∈ fs) (hrw : Fld.rw ∈ fs) (hnv : Fld.nv ∈ fs)
    (hprof : Fld.prof ∈ fs) (hlog : Fld.log ∈ fs) (hwdg : Fld.wdg ∈ fs) (hhost : Fld.host ∈ fs)
    (hret : Fld.ret ∈ fs) (hslots : Fld.slots ∈ fs) (hdom : Fld.dom ∈ fs) (himg : Fld.img ∈ fs)
    (hnvs : Fld.nvs ∈ fs) (hsys : Fld.sys ∈ fs) (hfuse : Fld.fuse ∈ fs) (hfab : Fld.fab ∈ fs)
    (hgroups : Fld.groups ∈ fs) (hcells : Fld.cells ∈ fs) (hculm : Fld.culm ∈ fs) (hgov : Fld.gov ∈ fs)
    (hbranches : Fld.branches ∈ fs) (hloads : Fld.loads ∈ fs) (hsrc : Fld.src ∈ fs) (hhov : Fld.hov ∈ fs)
    (hflow : Fld.flow ∈ fs) (hctx : Fld.ctx ∈ fs) (hbat : Fld.bat ∈ fs) (hfdr : Fld.fdr ∈ fs)
    (hchg : Fld.chg ∈ fs) (hprofIO : Fld.profIO ∈ fs) (hbms : Fld.bms ∈ fs) (hest : Fld.est ∈ fs)
    (hthm : Fld.thm ∈ fs) (hthr : Fld.thr ∈ fs) (hsense : Fld.sense ∈ fs) (hawn : Fld.awn ∈ fs)
    (hring : Fld.ring ∈ fs) (hcan : Fld.can ∈ fs) (henergy : Fld.energy ∈ fs) :
    (State.beginBoot s cold wake port).but fs = s.but fs := by
  unfold State.beginBoot
  split <;> simp [*]

@[simp] theorem restoreCopy_but {fs : List Fld} (s : State) (hdeferred : Fld.deferred ∈ fs) (hflt : Fld.flt ∈ fs)
    (hsafeLine : Fld.safeLine ∈ fs) (hhalt : Fld.halt ∈ fs) (hx3 : Fld.x3 ∈ fs) (hxing : Fld.xing ∈ fs)
    (hlog : Fld.log ∈ fs) (hret : Fld.ret ∈ fs) (hdom : Fld.dom ∈ fs) (himg : Fld.img ∈ fs) (hfab : Fld.fab ∈ fs)
    (hgroups : Fld.groups ∈ fs) (hcells : Fld.cells ∈ fs) (hculm : Fld.culm ∈ fs) (hbranches : Fld.branches ∈ fs)
    (hsrc : Fld.src ∈ fs) (hctx : Fld.ctx ∈ fs) (hbat : Fld.bat ∈ fs) (hfdr : Fld.fdr ∈ fs) (hchg : Fld.chg ∈ fs)
    (hest : Fld.est ∈ fs) (hthr : Fld.thr ∈ fs) (hawn : Fld.awn ∈ fs) :
    (State.restoreCopy s).but fs = s.but fs := by
  unfold State.restoreCopy
  split <;> simp [*]

@[simp] theorem bootMemory_but {fs : List Fld} (s : State) (hdeferred : Fld.deferred ∈ fs) (hflt : Fld.flt ∈ fs)
    (hsafeLine : Fld.safeLine ∈ fs) (hhalt : Fld.halt ∈ fs) (hx3 : Fld.x3 ∈ fs) (hxing : Fld.xing ∈ fs)
    (hlog : Fld.log ∈ fs) (hret : Fld.ret ∈ fs) (hdom : Fld.dom ∈ fs) (himg : Fld.img ∈ fs) (hfab : Fld.fab ∈ fs)
    (hgroups : Fld.groups ∈ fs) (hcells : Fld.cells ∈ fs) (hculm : Fld.culm ∈ fs) (hbranches : Fld.branches ∈ fs)
    (hsrc : Fld.src ∈ fs) (hctx : Fld.ctx ∈ fs) (hbat : Fld.bat ∈ fs) (hfdr : Fld.fdr ∈ fs) (hchg : Fld.chg ∈ fs)
    (hest : Fld.est ∈ fs) (hthr : Fld.thr ∈ fs) (hawn : Fld.awn ∈ fs) :
    (State.bootMemory s).but fs = s.but fs := by
  unfold State.bootMemory
  repeat' (first | done | intro _ | split | rw [forEach_but] | rw [foldl_but] | simp +zetaDelta [*, but_ite] | extract_lets | (simp only [State.but, *, if_true]; done))

@[simp] theorem bootFlows_but {fs : List Fld} (s : State) (hret : Fld.ret ∈ fs) (hflow : Fld.flow ∈ fs)
    (hctx : Fld.ctx ∈ fs) :
    (State.bootFlows s).but fs = s.but fs := by
  unfold State.bootFlows
  simp [*]

@[simp] theorem bootThermal_but {fs : List Fld} (s : State) (hthm : Fld.thm ∈ fs) :
    (State.bootThermal s).but fs = s.but fs := by
  unfold State.bootThermal
  extract_lets
  (repeat' split) <;> simp +zetaDelta [*]

@[simp] theorem bootEnergy_but {fs : List Fld} (s : State) (henergy : Fld.energy ∈ fs) :
    (State.bootEnergy s).but fs = s.but fs := by
  unfold State.bootEnergy
  split <;> simp [*]

@[simp] theorem bootLog_but {fs : List Fld} (s : State) (hdeferred : Fld.deferred ∈ fs) (hflt : Fld.flt ∈ fs)
    (hlog : Fld.log ∈ fs) (hret : Fld.ret ∈ fs) :
    (State.bootLog s).but fs = s.but fs := by
  unfold State.bootLog
  extract_lets
  (repeat' split) <;> simp +zetaDelta [*]

@[simp] theorem failSelfTest_but {fs : List Fld} (s : State) (k : Sensor) (hdeferred : Fld.deferred ∈ fs)
    (hflt : Fld.flt ∈ fs) (hsafeLine : Fld.safeLine ∈ fs) (hhalt : Fld.halt ∈ fs) (hx3 : Fld.x3 ∈ fs)
    (hxing : Fld.xing ∈ fs) (hlog : Fld.log ∈ fs) (hret : Fld.ret ∈ fs) (hdom : Fld.dom ∈ fs)
    (himg : Fld.img ∈ fs) (hfab : Fld.fab ∈ fs) (hgroups : Fld.groups ∈ fs) (hcells : Fld.cells ∈ fs)
    (hculm : Fld.culm ∈ fs) (hbranches : Fld.branches ∈ fs) (hsrc : Fld.src ∈ fs) (hctx : Fld.ctx ∈ fs)
    (hbat : Fld.bat ∈ fs) (hfdr : Fld.fdr ∈ fs) (hchg : Fld.chg ∈ fs) (hest : Fld.est ∈ fs) (hthm : Fld.thm ∈ fs)
    (hthr : Fld.thr ∈ fs) (hawn : Fld.awn ∈ fs) :
    (State.failSelfTest s k).but fs = s.but fs := by
  unfold State.failSelfTest
  split <;> simp [*]

@[simp] theorem releaseCore_but {fs : List Fld} (s : State) (hwdg : Fld.wdg ∈ fs) :
    (State.releaseCore s).but fs = s.but fs := by
  unfold State.releaseCore
  simp [*]

@[simp] theorem startHostTimer_but {fs : List Fld} (s : State) (hhost : Fld.host ∈ fs) :
    (State.startHostTimer s).but fs = s.but fs := by
  unfold State.startHostTimer
  split <;> simp [*]

@[simp] theorem reachStandby_but {fs : List Fld} (s : State) (failed : List Cell) (hfreeN : Fld.freeN ∈ fs)
    (hdeferred : Fld.deferred ∈ fs) (hflt : Fld.flt ∈ fs) (hsafeLine : Fld.safeLine ∈ fs) (hhalt : Fld.halt ∈ fs)
    (hx3 : Fld.x3 ∈ fs) (hxing : Fld.xing ∈ fs) (hxslots : Fld.xslots ∈ fs) (hrw : Fld.rw ∈ fs)
    (hnv : Fld.nv ∈ fs) (hlog : Fld.log ∈ fs) (hret : Fld.ret ∈ fs) (hdom : Fld.dom ∈ fs) (himg : Fld.img ∈ fs)
    (hnvs : Fld.nvs ∈ fs) (hfab : Fld.fab ∈ fs) (hgroups : Fld.groups ∈ fs) (hcells : Fld.cells ∈ fs)
    (hculm : Fld.culm ∈ fs) (hbranches : Fld.branches ∈ fs) (hsrc : Fld.src ∈ fs) (hctx : Fld.ctx ∈ fs)
    (hbat : Fld.bat ∈ fs) (hfdr : Fld.fdr ∈ fs) (hchg : Fld.chg ∈ fs) (hest : Fld.est ∈ fs) (hthr : Fld.thr ∈ fs)
    (hawn : Fld.awn ∈ fs) (hring : Fld.ring ∈ fs) (hcan : Fld.can ∈ fs) :
    (State.reachStandby s failed).but fs = s.but fs := by
  unfold State.reachStandby
  extract_lets
  (repeat' split) <;> simp +zetaDelta [*]

@[simp] theorem supplyOn_but {fs : List Fld} (s : State) (hdom : Fld.dom ∈ fs) :
    (State.supplyOn s).but fs = s.but fs := by
  unfold State.supplyOn
  simp [*]

@[simp] theorem wakeUp_but {fs : List Fld} (s : State) (w : Wake) (p : SPort) (hpending : Fld.pending ∈ fs)
    (hnow : Fld.now ∈ fs) (hfreeN : Fld.freeN ∈ fs) (hdeferred : Fld.deferred ∈ fs) (hflt : Fld.flt ∈ fs)
    (hsafeLine : Fld.safeLine ∈ fs) (hhalt : Fld.halt ∈ fs) (hx3 : Fld.x3 ∈ fs) (hxing : Fld.xing ∈ fs)
    (hxslots : Fld.xslots ∈ fs) (hrw : Fld.rw ∈ fs) (hnv : Fld.nv ∈ fs) (hprof : Fld.prof ∈ fs)
    (hlog : Fld.log ∈ fs) (hwdg : Fld.wdg ∈ fs) (hhost : Fld.host ∈ fs) (hret : Fld.ret ∈ fs)
    (hslots : Fld.slots ∈ fs) (hdom : Fld.dom ∈ fs) (himg : Fld.img ∈ fs) (hnvs : Fld.nvs ∈ fs)
    (hsys : Fld.sys ∈ fs) (hfuse : Fld.fuse ∈ fs) (hfab : Fld.fab ∈ fs) (hgroups : Fld.groups ∈ fs)
    (hcells : Fld.cells ∈ fs) (hculm : Fld.culm ∈ fs) (hgov : Fld.gov ∈ fs) (hbranches : Fld.branches ∈ fs)
    (hloads : Fld.loads ∈ fs) (hsrc : Fld.src ∈ fs) (hhov : Fld.hov ∈ fs) (hflow : Fld.flow ∈ fs)
    (hctx : Fld.ctx ∈ fs) (hbat : Fld.bat ∈ fs) (hfdr : Fld.fdr ∈ fs) (hchg : Fld.chg ∈ fs)
    (hprofIO : Fld.profIO ∈ fs) (hbms : Fld.bms ∈ fs) (hest : Fld.est ∈ fs) (hthm : Fld.thm ∈ fs)
    (hthr : Fld.thr ∈ fs) (hsense : Fld.sense ∈ fs) (hawn : Fld.awn ∈ fs) (hring : Fld.ring ∈ fs)
    (hcan : Fld.can ∈ fs) (henergy : Fld.energy ∈ fs) :
    (State.wakeUp s w p).but fs = s.but fs := by
  unfold State.wakeUp
  (repeat' split) <;> simp [*]

@[simp] theorem followFeed_but {fs : List Fld} (s : State) (hdom : Fld.dom ∈ fs) :
    (State.followFeed s).but fs = s.but fs := by
  unfold State.followFeed
  (repeat' split) <;> simp [*]

@[simp] theorem feedFrom_but {fs : List Fld} (s : State) (x : DomRec) (hdom : Fld.dom ∈ fs) :
    (State.feedFrom s x).but fs = s.but fs := by
  unfold State.feedFrom
  repeat' (first | done | intro _ | split | rw [forEach_but] | rw [foldl_but] | simp +zetaDelta [*, but_ite] | extract_lets | (simp only [State.but, *, if_true]; done))

@[simp] theorem endHoldByLoop_but {fs : List Fld} (s : State) (hsafeLine : Fld.safeLine ∈ fs)
    (hwdg : Fld.wdg ∈ fs) (hret : Fld.ret ∈ fs) :
    (State.endHoldByLoop s).but fs = s.but fs := by
  unfold State.endHoldByLoop
  split <;> simp [*]

@[simp] theorem sleep_but {fs : List Fld} (s : State) (to_ : ModState) (hpending : Fld.pending ∈ fs)
    (hnow : Fld.now ∈ fs) (hfreeN : Fld.freeN ∈ fs) (hdeferred : Fld.deferred ∈ fs) (hflt : Fld.flt ∈ fs)
    (hsafeLine : Fld.safeLine ∈ fs) (hhalt : Fld.halt ∈ fs) (hx3 : Fld.x3 ∈ fs) (hxing : Fld.xing ∈ fs)
    (hxslots : Fld.xslots ∈ fs) (hrw : Fld.rw ∈ fs) (hnv : Fld.nv ∈ fs) (hprof : Fld.prof ∈ fs)
    (hlog : Fld.log ∈ fs) (hwdg : Fld.wdg ∈ fs) (hhost : Fld.host ∈ fs) (hret : Fld.ret ∈ fs)
    (hslots : Fld.slots ∈ fs) (hdom : Fld.dom ∈ fs) (himg : Fld.img ∈ fs) (hnvs : Fld.nvs ∈ fs)
    (hsys : Fld.sys ∈ fs) (hfuse : Fld.fuse ∈ fs) (hfab : Fld.fab ∈ fs) (hgroups : Fld.groups ∈ fs)
    (hcells : Fld.cells ∈ fs) (hculm : Fld.culm ∈ fs) (hgov : Fld.gov ∈ fs) (hbranches : Fld.branches ∈ fs)
    (hloads : Fld.loads ∈ fs) (hsrc : Fld.src ∈ fs) (hhov : Fld.hov ∈ fs) (hflow : Fld.flow ∈ fs)
    (hctx : Fld.ctx ∈ fs) (hbat : Fld.bat ∈ fs) (hfdr : Fld.fdr ∈ fs) (hchg : Fld.chg ∈ fs)
    (hprofIO : Fld.profIO ∈ fs) (hbms : Fld.bms ∈ fs) (hest : Fld.est ∈ fs) (hthm : Fld.thm ∈ fs)
    (hthr : Fld.thr ∈ fs) (hsense : Fld.sense ∈ fs) (hawn : Fld.awn ∈ fs) (hring : Fld.ring ∈ fs)
    (hcan : Fld.can ∈ fs) (henergy : Fld.energy ∈ fs) :
    (State.sleep s to_).but fs = s.but fs := by
  unfold State.sleep
  extract_lets
  (repeat' split) <;> (simp +zetaDelta [*, but_ite]; try (split <;> simp [*]))

@[simp] theorem orderSleep_but {fs : List Fld} (s : State) (to_ : ModState) (hpending : Fld.pending ∈ fs)
    (hnow : Fld.now ∈ fs) (hfreeN : Fld.freeN ∈ fs) (hdeferred : Fld.deferred ∈ fs) (hflt : Fld.flt ∈ fs)
    (hsafeLine : Fld.safeLine ∈ fs) (hhalt : Fld.halt ∈ fs) (hx3 : Fld.x3 ∈ fs) (hxing : Fld.xing ∈ fs)
    (hxslots : Fld.xslots ∈ fs) (hrw : Fld.rw ∈ fs) (hnv : Fld.nv ∈ fs) (hprof : Fld.prof ∈ fs)
    (hlog : Fld.log ∈ fs) (hwdg : Fld.wdg ∈ fs) (hhost : Fld.host ∈ fs) (hret : Fld.ret ∈ fs)
    (hslots : Fld.slots ∈ fs) (hdom : Fld.dom ∈ fs) (himg : Fld.img ∈ fs) (hnvs : Fld.nvs ∈ fs)
    (hsys : Fld.sys ∈ fs) (hfuse : Fld.fuse ∈ fs) (hfab : Fld.fab ∈ fs) (hgroups : Fld.groups ∈ fs)
    (hcells : Fld.cells ∈ fs) (hculm : Fld.culm ∈ fs) (hgov : Fld.gov ∈ fs) (hbranches : Fld.branches ∈ fs)
    (hloads : Fld.loads ∈ fs) (hsrc : Fld.src ∈ fs) (hhov : Fld.hov ∈ fs) (hflow : Fld.flow ∈ fs)
    (hctx : Fld.ctx ∈ fs) (hbat : Fld.bat ∈ fs) (hfdr : Fld.fdr ∈ fs) (hchg : Fld.chg ∈ fs)
    (hprofIO : Fld.profIO ∈ fs) (hbms : Fld.bms ∈ fs) (hest : Fld.est ∈ fs) (hthm : Fld.thm ∈ fs)
    (hthr : Fld.thr ∈ fs) (hsense : Fld.sense ∈ fs) (hawn : Fld.awn ∈ fs) (hring : Fld.ring ∈ fs)
    (hcan : Fld.can ∈ fs) (henergy : Fld.energy ∈ fs) :
    (State.orderSleep s to_).but fs = s.but fs := by
  unfold State.orderSleep
  extract_lets
  (repeat' split) <;> simp +zetaDelta [*]

@[simp] theorem followIdle_but {fs : List Fld} (s : State) (hdom : Fld.dom ∈ fs) :
    (State.followIdle s).but fs = s.but fs := by
  unfold State.followIdle
  (repeat' split) <;> simp [*]

@[simp] theorem holdCulm_but {fs : List Fld} (s : State) (hculm : Fld.culm ∈ fs) :
    (State.holdCulm s).but fs = s.but fs := by
  unfold State.holdCulm
  split <;> simp [*]

@[simp] theorem returnFromStubble_but {fs : List Fld} (s : State) (failed : List Cell) (hfreeN : Fld.freeN ∈ fs)
    (hdeferred : Fld.deferred ∈ fs) (hflt : Fld.flt ∈ fs) (hsafeLine : Fld.safeLine ∈ fs) (hhalt : Fld.halt ∈ fs)
    (hx3 : Fld.x3 ∈ fs) (hxing : Fld.xing ∈ fs) (hxslots : Fld.xslots ∈ fs) (hnv : Fld.nv ∈ fs)
    (hlog : Fld.log ∈ fs) (hret : Fld.ret ∈ fs) (hdom : Fld.dom ∈ fs) (himg : Fld.img ∈ fs) (hnvs : Fld.nvs ∈ fs)
    (hfab : Fld.fab ∈ fs) (hgroups : Fld.groups ∈ fs) (hcells : Fld.cells ∈ fs) (hculm : Fld.culm ∈ fs)
    (hbranches : Fld.branches ∈ fs) (hsrc : Fld.src ∈ fs) (hctx : Fld.ctx ∈ fs) (hbat : Fld.bat ∈ fs)
    (hfdr : Fld.fdr ∈ fs) (hchg : Fld.chg ∈ fs) (hest : Fld.est ∈ fs) (hthr : Fld.thr ∈ fs) (hawn : Fld.awn ∈ fs)
    (hring : Fld.ring ∈ fs) (hcan : Fld.can ∈ fs) :
    (State.returnFromStubble s failed).but fs = s.but fs := by
  unfold State.returnFromStubble
  split <;> simp [*]

@[simp] theorem cutStore_but {fs : List Fld} (s : State) (hfreeN : Fld.freeN ∈ fs) (hnv : Fld.nv ∈ fs)
    (hnvs : Fld.nvs ∈ fs) :
    (State.cutStore s).but fs = s.but fs := by
  unfold State.cutStore
  repeat' (first | done | intro _ | split | rw [forEach_but] | rw [foldl_but] | simp +zetaDelta [*, but_ite] | extract_lets | (simp only [State.but, *, if_true]; done))

@[simp] theorem writeRtc_but {fs : List Fld} (s : State) (v : Word) (hdom : Fld.dom ∈ fs) :
    (State.writeRtc s v).but fs = s.but fs := by
  unfold State.writeRtc
  simp [*]

@[simp] theorem writeDomCfg_but {fs : List Fld} (s : State) (v : Word) (hret : Fld.ret ∈ fs) :
    (State.writeDomCfg s v).but fs = s.but fs := by
  unfold State.writeDomCfg
  simp [*]

@[simp] theorem writeDomAlarm_but {fs : List Fld} (s : State) (v : Word) (hret : Fld.ret ∈ fs) :
    (State.writeDomAlarm s v).but fs = s.but fs := by
  unfold State.writeDomAlarm
  simp [*]

@[simp] theorem writeDomCtl_but {fs : List Fld} (s : State) (v : Word) (hpending : Fld.pending ∈ fs)
    (hnow : Fld.now ∈ fs) (hfreeN : Fld.freeN ∈ fs) (hdeferred : Fld.deferred ∈ fs) (hflt : Fld.flt ∈ fs)
    (hsafeLine : Fld.safeLine ∈ fs) (hhalt : Fld.halt ∈ fs) (hx3 : Fld.x3 ∈ fs) (hxing : Fld.xing ∈ fs)
    (hxslots : Fld.xslots ∈ fs) (hrw : Fld.rw ∈ fs) (hnv : Fld.nv ∈ fs) (hprof : Fld.prof ∈ fs)
    (hlog : Fld.log ∈ fs) (hwdg : Fld.wdg ∈ fs) (hhost : Fld.host ∈ fs) (hret : Fld.ret ∈ fs)
    (hslots : Fld.slots ∈ fs) (hdom : Fld.dom ∈ fs) (himg : Fld.img ∈ fs) (hnvs : Fld.nvs ∈ fs)
    (hsys : Fld.sys ∈ fs) (hfuse : Fld.fuse ∈ fs) (hfab : Fld.fab ∈ fs) (hgroups : Fld.groups ∈ fs)
    (hcells : Fld.cells ∈ fs) (hculm : Fld.culm ∈ fs) (hgov : Fld.gov ∈ fs) (hbranches : Fld.branches ∈ fs)
    (hloads : Fld.loads ∈ fs) (hsrc : Fld.src ∈ fs) (hhov : Fld.hov ∈ fs) (hflow : Fld.flow ∈ fs)
    (hctx : Fld.ctx ∈ fs) (hbat : Fld.bat ∈ fs) (hfdr : Fld.fdr ∈ fs) (hchg : Fld.chg ∈ fs)
    (hprofIO : Fld.profIO ∈ fs) (hbms : Fld.bms ∈ fs) (hest : Fld.est ∈ fs) (hthm : Fld.thm ∈ fs)
    (hthr : Fld.thr ∈ fs) (hsense : Fld.sense ∈ fs) (hawn : Fld.awn ∈ fs) (hring : Fld.ring ∈ fs)
    (hcan : Fld.can ∈ fs) (henergy : Fld.energy ∈ fs) :
    (State.writeDomCtl s v).but fs = s.but fs := by
  unfold State.writeDomCtl
  split <;> simp [*]

@[simp] theorem updResult_but {fs : List Fld} (s : State) (code : Nat) (himg : Fld.img ∈ fs) :
    (State.updResult s code).but fs = s.but fs := by
  unfold State.updResult
  simp [*]

@[simp] theorem updStart_but {fs : List Fld} (s : State) (himg : Fld.img ∈ fs) :
    (State.updStart s).but fs = s.but fs := by
  unfold State.updStart
  simp [*]

@[simp] theorem updOpen_but {fs : List Fld} (s : State) (hdeferred : Fld.deferred ∈ fs) (hflt : Fld.flt ∈ fs)
    (hsafeLine : Fld.safeLine ∈ fs) (hhalt : Fld.halt ∈ fs) (hx3 : Fld.x3 ∈ fs) (hxing : Fld.xing ∈ fs)
    (hlog : Fld.log ∈ fs) (hret : Fld.ret ∈ fs) (hdom : Fld.dom ∈ fs) (himg : Fld.img ∈ fs) (hnvs : Fld.nvs ∈ fs)
    (hfab : Fld.fab ∈ fs) (hgroups : Fld.groups ∈ fs) (hcells : Fld.cells ∈ fs) (hculm : Fld.culm ∈ fs)
    (hbranches : Fld.branches ∈ fs) (hsrc : Fld.src ∈ fs) (hctx : Fld.ctx ∈ fs) (hbat : Fld.bat ∈ fs)
    (hfdr : Fld.fdr ∈ fs) (hchg : Fld.chg ∈ fs) (hest : Fld.est ∈ fs) (hthr : Fld.thr ∈ fs) (hawn : Fld.awn ∈ fs) :
    (State.updOpen s).but fs = s.but fs := by
  unfold State.updOpen
  (repeat' split) <;> simp [*]

@[simp] theorem updProgram_but {fs : List Fld} (s : State) (page : Fin 512) (hdeferred : Fld.deferred ∈ fs)
    (hflt : Fld.flt ∈ fs) (hsafeLine : Fld.safeLine ∈ fs) (hhalt : Fld.halt ∈ fs) (hx3 : Fld.x3 ∈ fs)
    (hxing : Fld.xing ∈ fs) (hlog : Fld.log ∈ fs) (hret : Fld.ret ∈ fs) (hdom : Fld.dom ∈ fs)
    (himg : Fld.img ∈ fs) (hnvs : Fld.nvs ∈ fs) (hfab : Fld.fab ∈ fs) (hgroups : Fld.groups ∈ fs)
    (hcells : Fld.cells ∈ fs) (hculm : Fld.culm ∈ fs) (hbranches : Fld.branches ∈ fs) (hsrc : Fld.src ∈ fs)
    (hctx : Fld.ctx ∈ fs) (hbat : Fld.bat ∈ fs) (hfdr : Fld.fdr ∈ fs) (hchg : Fld.chg ∈ fs) (hest : Fld.est ∈ fs)
    (hthr : Fld.thr ∈ fs) (hawn : Fld.awn ∈ fs) :
    (State.updProgram s page).but fs = s.but fs := by
  unfold State.updProgram
  repeat' (first | done | intro _ | split | rw [forEach_but] | rw [foldl_but] | simp +zetaDelta [*, but_ite] | extract_lets | (simp only [State.but, *, if_true]; done))

@[simp] theorem dropSession_but {fs : List Fld} (s : State) (himg : Fld.img ∈ fs) :
    (State.dropSession s).but fs = s.but fs := by
  unfold State.dropSession
  simp [*]

@[simp] theorem updClose_but {fs : List Fld} (s : State) (hdeferred : Fld.deferred ∈ fs) (hflt : Fld.flt ∈ fs)
    (hsafeLine : Fld.safeLine ∈ fs) (hhalt : Fld.halt ∈ fs) (hx3 : Fld.x3 ∈ fs) (hxing : Fld.xing ∈ fs)
    (hlog : Fld.log ∈ fs) (hret : Fld.ret ∈ fs) (hdom : Fld.dom ∈ fs) (himg : Fld.img ∈ fs) (hfab : Fld.fab ∈ fs)
    (hgroups : Fld.groups ∈ fs) (hcells : Fld.cells ∈ fs) (hculm : Fld.culm ∈ fs) (hbranches : Fld.branches ∈ fs)
    (hsrc : Fld.src ∈ fs) (hctx : Fld.ctx ∈ fs) (hbat : Fld.bat ∈ fs) (hfdr : Fld.fdr ∈ fs) (hchg : Fld.chg ∈ fs)
    (hest : Fld.est ∈ fs) (hthr : Fld.thr ∈ fs) (hawn : Fld.awn ∈ fs) :
    (State.updClose s).but fs = s.but fs := by
  unfold State.updClose
  extract_lets
  (repeat' split) <;> simp +zetaDelta [*]

@[simp] theorem updAbort_but {fs : List Fld} (s : State) (himg : Fld.img ∈ fs) :
    (State.updAbort s).but fs = s.but fs := by
  unfold State.updAbort
  (repeat' split) <;> simp [*]

@[simp] theorem writeImgUpd_but {fs : List Fld} (s : State) (v : Word) (hdeferred : Fld.deferred ∈ fs)
    (hflt : Fld.flt ∈ fs) (hsafeLine : Fld.safeLine ∈ fs) (hhalt : Fld.halt ∈ fs) (hx3 : Fld.x3 ∈ fs)
    (hxing : Fld.xing ∈ fs) (hlog : Fld.log ∈ fs) (hret : Fld.ret ∈ fs) (hdom : Fld.dom ∈ fs)
    (himg : Fld.img ∈ fs) (hnvs : Fld.nvs ∈ fs) (hfab : Fld.fab ∈ fs) (hgroups : Fld.groups ∈ fs)
    (hcells : Fld.cells ∈ fs) (hculm : Fld.culm ∈ fs) (hbranches : Fld.branches ∈ fs) (hsrc : Fld.src ∈ fs)
    (hctx : Fld.ctx ∈ fs) (hbat : Fld.bat ∈ fs) (hfdr : Fld.fdr ∈ fs) (hchg : Fld.chg ∈ fs) (hest : Fld.est ∈ fs)
    (hthr : Fld.thr ∈ fs) (hawn : Fld.awn ∈ fs) :
    (State.writeImgUpd s v).but fs = s.but fs := by
  unfold State.writeImgUpd
  split <;> simp [*]

@[simp] theorem erased_but {fs : List Fld} (s : State) (o : NvOp) (hflt : Fld.flt ∈ fs) (hlog : Fld.log ∈ fs)
    (himg : Fld.img ∈ fs) (hnvs : Fld.nvs ∈ fs) :
    (State.erased s o).but fs = s.but fs := by
  unfold State.erased
  repeat' (first | done | intro _ | split | rw [foldl_but] | simp +zetaDelta [*] | extract_lets)

@[simp] theorem sectorErased_but {fs : List Fld} (s : State) (o : NvOp) (hdeferred : Fld.deferred ∈ fs)
    (hflt : Fld.flt ∈ fs) (hsafeLine : Fld.safeLine ∈ fs) (hhalt : Fld.halt ∈ fs) (hx3 : Fld.x3 ∈ fs)
    (hxing : Fld.xing ∈ fs) (hnv : Fld.nv ∈ fs) (hlog : Fld.log ∈ fs) (hret : Fld.ret ∈ fs) (hdom : Fld.dom ∈ fs)
    (himg : Fld.img ∈ fs) (hnvs : Fld.nvs ∈ fs) (hfab : Fld.fab ∈ fs) (hgroups : Fld.groups ∈ fs)
    (hcells : Fld.cells ∈ fs) (hculm : Fld.culm ∈ fs) (hbranches : Fld.branches ∈ fs) (hsrc : Fld.src ∈ fs)
    (hctx : Fld.ctx ∈ fs) (hbat : Fld.bat ∈ fs) (hfdr : Fld.fdr ∈ fs) (hchg : Fld.chg ∈ fs) (hest : Fld.est ∈ fs)
    (hthr : Fld.thr ∈ fs) (hawn : Fld.awn ∈ fs) :
    (State.sectorErased s o).but fs = s.but fs := by
  unfold State.sectorErased
  repeat' (first | done | intro _ | split | rw [forEach_but] | rw [foldl_but] | simp +zetaDelta [*, but_ite] | extract_lets | (simp only [State.but, *, if_true]; done))

@[simp] theorem notErased_but {fs : List Fld} (s : State) (o : NvOp) (hdeferred : Fld.deferred ∈ fs)
    (hflt : Fld.flt ∈ fs) (hsafeLine : Fld.safeLine ∈ fs) (hhalt : Fld.halt ∈ fs) (hx3 : Fld.x3 ∈ fs)
    (hxing : Fld.xing ∈ fs) (hlog : Fld.log ∈ fs) (hret : Fld.ret ∈ fs) (hdom : Fld.dom ∈ fs)
    (himg : Fld.img ∈ fs) (hnvs : Fld.nvs ∈ fs) (hfab : Fld.fab ∈ fs) (hgroups : Fld.groups ∈ fs)
    (hcells : Fld.cells ∈ fs) (hculm : Fld.culm ∈ fs) (hbranches : Fld.branches ∈ fs) (hsrc : Fld.src ∈ fs)
    (hctx : Fld.ctx ∈ fs) (hbat : Fld.bat ∈ fs) (hfdr : Fld.fdr ∈ fs) (hchg : Fld.chg ∈ fs) (hest : Fld.est ∈ fs)
    (hthr : Fld.thr ∈ fs) (hawn : Fld.awn ∈ fs) :
    (State.notErased s o).but fs = s.but fs := by
  unfold State.notErased
  repeat' (first | done | intro _ | split | rw [foldl_but] | simp +zetaDelta [*] | extract_lets)

@[simp] theorem bridge_but {fs : List Fld} (s : State) (himg : Fld.img ∈ fs) (hculm : Fld.culm ∈ fs) :
    (State.bridge s).but fs = s.but fs := by
  unfold State.bridge
  (repeat' split) <;> simp [*]

@[simp] theorem releaseSetpoint_but {fs : List Fld} (s : State) (hculm : Fld.culm ∈ fs) :
    (State.releaseSetpoint s).but fs = s.but fs := by
  unfold State.releaseSetpoint
  simp [*]

@[simp] theorem cancelActivation_but {fs : List Fld} (s : State) (result : Nat) (himg : Fld.img ∈ fs)
    (hculm : Fld.culm ∈ fs) :
    (State.cancelActivation s result).but fs = s.but fs := by
  unfold State.cancelActivation
  repeat' (first | done | intro _ | split | rw [forEach_but] | rw [foldl_but] | simp +zetaDelta [*, but_ite] | extract_lets | (simp only [State.but, *, if_true]; done))

@[simp] theorem atBridge_but {fs : List Fld} (s : State) (hculm : Fld.culm ∈ fs) :
    (State.atBridge s).but fs = s.but fs := by
  unfold State.atBridge
  repeat' (first | done | intro _ | split | rw [forEach_but] | rw [foldl_but] | simp +zetaDelta [*, but_ite] | extract_lets | (simp only [State.but, *, if_true]; done))

@[simp] theorem beginActivation_but {fs : List Fld} (s : State) (b : Side) (drain : Bool) (dark : Bool)
    (byTrial : Bool) (himg : Fld.img ∈ fs) (hgroups : Fld.groups ∈ fs) (hculm : Fld.culm ∈ fs)
    (hctx : Fld.ctx ∈ fs) (hchg : Fld.chg ∈ fs) :
    (State.beginActivation s b drain dark byTrial).but fs = s.but fs := by
  unfold State.beginActivation
  repeat' (first | done | intro _ | split | rw [forEach_but] | rw [foldl_but] | simp +zetaDelta [*, but_ite] | extract_lets | (simp only [State.but, *, if_true]; done))

@[simp] theorem failBank_but {fs : List Fld} (s : State) (b : Side) (code : Nat) (himg : Fld.img ∈ fs) :
    (State.failBank s b code).but fs = s.but fs := by
  unfold State.failBank
  split <;> simp [*]

@[simp] theorem requestImage_but {fs : List Fld} (s : State) (b : Side) (drain : Bool) (dark : Bool)
    (hdeferred : Fld.deferred ∈ fs) (hflt : Fld.flt ∈ fs) (hsafeLine : Fld.safeLine ∈ fs) (hhalt : Fld.halt ∈ fs)
    (hx3 : Fld.x3 ∈ fs) (hxing : Fld.xing ∈ fs) (hlog : Fld.log ∈ fs) (hret : Fld.ret ∈ fs) (hdom : Fld.dom ∈ fs)
    (himg : Fld.img ∈ fs) (hfab : Fld.fab ∈ fs) (hgroups : Fld.groups ∈ fs) (hcells : Fld.cells ∈ fs)
    (hculm : Fld.culm ∈ fs) (hbranches : Fld.branches ∈ fs) (hsrc : Fld.src ∈ fs) (hctx : Fld.ctx ∈ fs)
    (hbat : Fld.bat ∈ fs) (hfdr : Fld.fdr ∈ fs) (hchg : Fld.chg ∈ fs) (hest : Fld.est ∈ fs) (hthr : Fld.thr ∈ fs)
    (hawn : Fld.awn ∈ fs) :
    (State.requestImage s b drain dark).but fs = s.but fs := by
  unfold State.requestImage
  (repeat' split) <;> simp [*]

@[simp] theorem cancelByCommand_but {fs : List Fld} (s : State) (himg : Fld.img ∈ fs) (hculm : Fld.culm ∈ fs) :
    (State.cancelByCommand s).but fs = s.but fs := by
  unfold State.cancelByCommand
  split <;> simp [*]

@[simp] theorem trialAfter_but {fs : List Fld} (s : State) (b : Side) (himg : Fld.img ∈ fs) :
    (State.trialAfter s b).but fs = s.but fs := by
  unfold State.trialAfter
  extract_lets
  (repeat' split) <;> simp +zetaDelta [*]

@[simp] theorem quiesce_but {fs : List Fld} (s : State) (hfab : Fld.fab ∈ fs) (hgroups : Fld.groups ∈ fs)
    (hcells : Fld.cells ∈ fs) (hculm : Fld.culm ∈ fs) (hbranches : Fld.branches ∈ fs) (hsrc : Fld.src ∈ fs)
    (hfdr : Fld.fdr ∈ fs) :
    (State.quiesce s).but fs = s.but fs := by
  unfold State.quiesce
  extract_lets
  (repeat' split) <;> simp +zetaDelta [*]

@[simp] theorem putBank_but {fs : List Fld} (s : State) (b : Side) (d : ImageData) (failed : List Cell)
    (hdeferred : Fld.deferred ∈ fs) (hflt : Fld.flt ∈ fs) (hsafeLine : Fld.safeLine ∈ fs) (hhalt : Fld.halt ∈ fs)
    (hx3 : Fld.x3 ∈ fs) (hxing : Fld.xing ∈ fs) (hxslots : Fld.xslots ∈ fs) (hrw : Fld.rw ∈ fs)
    (hprof : Fld.prof ∈ fs) (hlog : Fld.log ∈ fs) (hhost : Fld.host ∈ fs) (hret : Fld.ret ∈ fs)
    (hdom : Fld.dom ∈ fs) (himg : Fld.img ∈ fs) (hfab : Fld.fab ∈ fs) (hgroups : Fld.groups ∈ fs)
    (hcells : Fld.cells ∈ fs) (hculm : Fld.culm ∈ fs) (hgov : Fld.gov ∈ fs) (hbranches : Fld.branches ∈ fs)
    (hsrc : Fld.src ∈ fs) (hctx : Fld.ctx ∈ fs) (hbat : Fld.bat ∈ fs) (hfdr : Fld.fdr ∈ fs) (hchg : Fld.chg ∈ fs)
    (hest : Fld.est ∈ fs) (hthm : Fld.thm ∈ fs) (hthr : Fld.thr ∈ fs) (hsense : Fld.sense ∈ fs)
    (hawn : Fld.awn ∈ fs) :
    (State.putBank s b d failed).but fs = s.but fs := by
  unfold State.putBank
  repeat' (first | done | intro _ | split | rw [forEach_but] | rw [foldl_but] | simp +zetaDelta [*, but_ite] | extract_lets | (simp only [State.but, *, if_true]; done))

@[simp] theorem bridged_but {fs : List Fld} (s : State) (hculm : Fld.culm ∈ fs) :
    (State.bridged s).but fs = s.but fs := by
  unfold State.bridged
  repeat' (first | done | intro _ | split | rw [forEach_but] | rw [foldl_but] | simp +zetaDelta [*, but_ite] | extract_lets | (simp only [State.but, *, if_true]; done))

@[simp] theorem afterActivation_but {fs : List Fld} (s : State) (failed : List Cell) (standby : Bool)
    (hfreeN : Fld.freeN ∈ fs) (hdeferred : Fld.deferred ∈ fs) (hflt : Fld.flt ∈ fs)
    (hsafeLine : Fld.safeLine ∈ fs) (hhalt : Fld.halt ∈ fs) (hx3 : Fld.x3 ∈ fs) (hxing : Fld.xing ∈ fs)
    (hxslots : Fld.xslots ∈ fs) (hnv : Fld.nv ∈ fs) (hlog : Fld.log ∈ fs) (hret : Fld.ret ∈ fs)
    (hdom : Fld.dom ∈ fs) (himg : Fld.img ∈ fs) (hnvs : Fld.nvs ∈ fs) (hfab : Fld.fab ∈ fs)
    (hgroups : Fld.groups ∈ fs) (hcells : Fld.cells ∈ fs) (hculm : Fld.culm ∈ fs) (hbranches : Fld.branches ∈ fs)
    (hsrc : Fld.src ∈ fs) (hctx : Fld.ctx ∈ fs) (hbat : Fld.bat ∈ fs) (hfdr : Fld.fdr ∈ fs) (hchg : Fld.chg ∈ fs)
    (hest : Fld.est ∈ fs) (hthr : Fld.thr ∈ fs) (hawn : Fld.awn ∈ fs) (hring : Fld.ring ∈ fs) (hcan : Fld.can ∈ fs) :
    (State.afterActivation s failed standby).but fs = s.but fs := by
  unfold State.afterActivation
  split <;> simp [*]

@[simp] theorem withoutImage_but {fs : List Fld} (s : State) (hdeferred : Fld.deferred ∈ fs) (hflt : Fld.flt ∈ fs)
    (hsafeLine : Fld.safeLine ∈ fs) (hhalt : Fld.halt ∈ fs) (hx3 : Fld.x3 ∈ fs) (hxing : Fld.xing ∈ fs)
    (hlog : Fld.log ∈ fs) (hhost : Fld.host ∈ fs) (hret : Fld.ret ∈ fs) (hdom : Fld.dom ∈ fs)
    (himg : Fld.img ∈ fs) (hfab : Fld.fab ∈ fs) (hgroups : Fld.groups ∈ fs) (hcells : Fld.cells ∈ fs)
    (hculm : Fld.culm ∈ fs) (hbranches : Fld.branches ∈ fs) (hsrc : Fld.src ∈ fs) (hctx : Fld.ctx ∈ fs)
    (hbat : Fld.bat ∈ fs) (hfdr : Fld.fdr ∈ fs) (hchg : Fld.chg ∈ fs) (hest : Fld.est ∈ fs) (hthr : Fld.thr ∈ fs)
    (hawn : Fld.awn ∈ fs) :
    (State.withoutImage s).but fs = s.but fs := by
  unfold State.withoutImage
  simp [*]

@[simp] theorem unreadable_but {fs : List Fld} (s : State) (b : Side) (hdeferred : Fld.deferred ∈ fs)
    (hflt : Fld.flt ∈ fs) (hsafeLine : Fld.safeLine ∈ fs) (hhalt : Fld.halt ∈ fs) (hx3 : Fld.x3 ∈ fs)
    (hxing : Fld.xing ∈ fs) (hlog : Fld.log ∈ fs) (hret : Fld.ret ∈ fs) (hdom : Fld.dom ∈ fs)
    (himg : Fld.img ∈ fs) (hnvs : Fld.nvs ∈ fs) (hfab : Fld.fab ∈ fs) (hgroups : Fld.groups ∈ fs)
    (hcells : Fld.cells ∈ fs) (hculm : Fld.culm ∈ fs) (hbranches : Fld.branches ∈ fs) (hsrc : Fld.src ∈ fs)
    (hctx : Fld.ctx ∈ fs) (hbat : Fld.bat ∈ fs) (hfdr : Fld.fdr ∈ fs) (hchg : Fld.chg ∈ fs) (hest : Fld.est ∈ fs)
    (hthr : Fld.thr ∈ fs) (hawn : Fld.awn ∈ fs) :
    (State.unreadable s b).but fs = s.but fs := by
  unfold State.unreadable
  repeat' (first | done | intro _ | split | rw [forEach_but] | rw [foldl_but] | simp +zetaDelta [*, but_ite] | extract_lets | (simp only [State.but, *, if_true]; done))

@[simp] theorem revert_but {fs : List Fld} (s : State) (prevReadErr : Bool) (failed : List Cell) (standby : Bool)
    (b : Side) (hfreeN : Fld.freeN ∈ fs) (hdeferred : Fld.deferred ∈ fs) (hflt : Fld.flt ∈ fs)
    (hsafeLine : Fld.safeLine ∈ fs) (hhalt : Fld.halt ∈ fs) (hx3 : Fld.x3 ∈ fs) (hxing : Fld.xing ∈ fs)
    (hxslots : Fld.xslots ∈ fs) (hrw : Fld.rw ∈ fs) (hnv : Fld.nv ∈ fs) (hprof : Fld.prof ∈ fs)
    (hlog : Fld.log ∈ fs) (hhost : Fld.host ∈ fs) (hret : Fld.ret ∈ fs) (hdom : Fld.dom ∈ fs)
    (himg : Fld.img ∈ fs) (hnvs : Fld.nvs ∈ fs) (hfab : Fld.fab ∈ fs) (hgroups : Fld.groups ∈ fs)
    (hcells : Fld.cells ∈ fs) (hculm : Fld.culm ∈ fs) (hgov : Fld.gov ∈ fs) (hbranches : Fld.branches ∈ fs)
    (hsrc : Fld.src ∈ fs) (hctx : Fld.ctx ∈ fs) (hbat : Fld.bat ∈ fs) (hfdr : Fld.fdr ∈ fs) (hchg : Fld.chg ∈ fs)
    (hest : Fld.est ∈ fs) (hthm : Fld.thm ∈ fs) (hthr : Fld.thr ∈ fs) (hsense : Fld.sense ∈ fs)
    (hawn : Fld.awn ∈ fs) (hring : Fld.ring ∈ fs) (hcan : Fld.can ∈ fs) :
    (State.revert s prevReadErr failed standby b).but fs = s.but fs := by
  unfold State.revert
  extract_lets
  (repeat' split) <;> simp +zetaDelta [*]

@[simp] theorem startHostIfIdle_but {fs : List Fld} (s : State) (hhost : Fld.host ∈ fs) :
    (State.startHostIfIdle s).but fs = s.but fs := by
  unfold State.startHostIfIdle
  split <;> simp [*]

@[simp] theorem confirm_but {fs : List Fld} (s : State) (himg : Fld.img ∈ fs) :
    (State.confirm s).but fs = s.but fs := by
  unfold State.confirm
  split <;> simp [*]

@[simp] theorem raiseSv_but {fs : List Fld} (s : State) (hfuse : Fld.fuse ∈ fs) :
    (State.raiseSv s).but fs = s.but fs := by
  unfold State.raiseSv
  split <;> simp [*]

@[simp] theorem writeImgCtl_but {fs : List Fld} (s : State) (v : Word) (hdeferred : Fld.deferred ∈ fs)
    (hflt : Fld.flt ∈ fs) (hsafeLine : Fld.safeLine ∈ fs) (hhalt : Fld.halt ∈ fs) (hx3 : Fld.x3 ∈ fs)
    (hxing : Fld.xing ∈ fs) (hlog : Fld.log ∈ fs) (hret : Fld.ret ∈ fs) (hdom : Fld.dom ∈ fs)
    (himg : Fld.img ∈ fs) (hfuse : Fld.fuse ∈ fs) (hfab : Fld.fab ∈ fs) (hgroups : Fld.groups ∈ fs)
    (hcells : Fld.cells ∈ fs) (hculm : Fld.culm ∈ fs) (hbranches : Fld.branches ∈ fs) (hsrc : Fld.src ∈ fs)
    (hctx : Fld.ctx ∈ fs) (hbat : Fld.bat ∈ fs) (hfdr : Fld.fdr ∈ fs) (hchg : Fld.chg ∈ fs) (hest : Fld.est ∈ fs)
    (hthr : Fld.thr ∈ fs) (hawn : Fld.awn ∈ fs) :
    (State.writeImgCtl s v).but fs = s.but fs := by
  unfold State.writeImgCtl
  (repeat' split) <;> simp [*]

@[simp] theorem abortSession_but {fs : List Fld} (s : State) (hfreeN : Fld.freeN ∈ fs)
    (hdeferred : Fld.deferred ∈ fs) (hflt : Fld.flt ∈ fs) (hsafeLine : Fld.safeLine ∈ fs) (hhalt : Fld.halt ∈ fs)
    (hx3 : Fld.x3 ∈ fs) (hxing : Fld.xing ∈ fs) (hnv : Fld.nv ∈ fs) (hlog : Fld.log ∈ fs) (hret : Fld.ret ∈ fs)
    (hdom : Fld.dom ∈ fs) (himg : Fld.img ∈ fs) (hnvs : Fld.nvs ∈ fs) (hfab : Fld.fab ∈ fs)
    (hgroups : Fld.groups ∈ fs) (hcells : Fld.cells ∈ fs) (hculm : Fld.culm ∈ fs) (hbranches : Fld.branches ∈ fs)
    (hsrc : Fld.src ∈ fs) (hctx : Fld.ctx ∈ fs) (hbat : Fld.bat ∈ fs) (hfdr : Fld.fdr ∈ fs) (hchg : Fld.chg ∈ fs)
    (hest : Fld.est ∈ fs) (hthr : Fld.thr ∈ fs) (hawn : Fld.awn ∈ fs) :
    (State.abortSession s).but fs = s.but fs := by
  unfold State.abortSession
  split <;> simp [*]

@[simp] theorem restartCore_but {fs : List Fld} (s : State) (hfreeN : Fld.freeN ∈ fs)
    (hdeferred : Fld.deferred ∈ fs) (hflt : Fld.flt ∈ fs) (hsafeLine : Fld.safeLine ∈ fs) (hhalt : Fld.halt ∈ fs)
    (hx3 : Fld.x3 ∈ fs) (hxing : Fld.xing ∈ fs) (hxslots : Fld.xslots ∈ fs) (hnv : Fld.nv ∈ fs)
    (hlog : Fld.log ∈ fs) (hret : Fld.ret ∈ fs) (hdom : Fld.dom ∈ fs) (himg : Fld.img ∈ fs) (hnvs : Fld.nvs ∈ fs)
    (hfab : Fld.fab ∈ fs) (hgroups : Fld.groups ∈ fs) (hcells : Fld.cells ∈ fs) (hculm : Fld.culm ∈ fs)
    (hbranches : Fld.branches ∈ fs) (hsrc : Fld.src ∈ fs) (hctx : Fld.ctx ∈ fs) (hbat : Fld.bat ∈ fs)
    (hfdr : Fld.fdr ∈ fs) (hchg : Fld.chg ∈ fs) (hest : Fld.est ∈ fs) (hthr : Fld.thr ∈ fs) (hawn : Fld.awn ∈ fs)
    (hring : Fld.ring ∈ fs) :
    (State.restartCore s).but fs = s.but fs := by
  unfold State.restartCore
  simp [*]

@[simp] theorem lastStep_but {fs : List Fld} (s : State) (cause : Nat) (step : Nat) (tries : Nat)
    (hret : Fld.ret ∈ fs) :
    (State.lastStep s cause step tries).but fs = s.but fs := by
  unfold State.lastStep
  simp [*]

@[simp] theorem stopCounter_but {fs : List Fld} (s : State) (hwdg : Fld.wdg ∈ fs) :
    (State.stopCounter s).but fs = s.but fs := by
  unfold State.stopCounter
  simp [*]

@[simp] theorem ladderCore_but {fs : List Fld} (s : State) (cause : Nat) (hfreeN : Fld.freeN ∈ fs)
    (hdeferred : Fld.deferred ∈ fs) (hflt : Fld.flt ∈ fs) (hsafeLine : Fld.safeLine ∈ fs) (hhalt : Fld.halt ∈ fs)
    (hx3 : Fld.x3 ∈ fs) (hxing : Fld.xing ∈ fs) (hxslots : Fld.xslots ∈ fs) (hnv : Fld.nv ∈ fs)
    (hlog : Fld.log ∈ fs) (hwdg : Fld.wdg ∈ fs) (hret : Fld.ret ∈ fs) (hdom : Fld.dom ∈ fs) (himg : Fld.img ∈ fs)
    (hnvs : Fld.nvs ∈ fs) (hfab : Fld.fab ∈ fs) (hgroups : Fld.groups ∈ fs) (hcells : Fld.cells ∈ fs)
    (hculm : Fld.culm ∈ fs) (hbranches : Fld.branches ∈ fs) (hsrc : Fld.src ∈ fs) (hctx : Fld.ctx ∈ fs)
    (hbat : Fld.bat ∈ fs) (hfdr : Fld.fdr ∈ fs) (hchg : Fld.chg ∈ fs) (hest : Fld.est ∈ fs) (hthr : Fld.thr ∈ fs)
    (hawn : Fld.awn ∈ fs) (hring : Fld.ring ∈ fs) :
    (State.ladderCore s cause).but fs = s.but fs := by
  unfold State.ladderCore
  simp [*]

@[simp] theorem ladderModule_but {fs : List Fld} (s : State) (cause : Nat) (tries : Nat)
    (hpending : Fld.pending ∈ fs) (hnow : Fld.now ∈ fs) (hfreeN : Fld.freeN ∈ fs) (hdeferred : Fld.deferred ∈ fs)
    (hflt : Fld.flt ∈ fs) (hsafeLine : Fld.safeLine ∈ fs) (hhalt : Fld.halt ∈ fs) (hx3 : Fld.x3 ∈ fs)
    (hxing : Fld.xing ∈ fs) (hxslots : Fld.xslots ∈ fs) (hrw : Fld.rw ∈ fs) (hnv : Fld.nv ∈ fs)
    (hprof : Fld.prof ∈ fs) (hlog : Fld.log ∈ fs) (hwdg : Fld.wdg ∈ fs) (hhost : Fld.host ∈ fs)
    (hret : Fld.ret ∈ fs) (hslots : Fld.slots ∈ fs) (hdom : Fld.dom ∈ fs) (himg : Fld.img ∈ fs)
    (hnvs : Fld.nvs ∈ fs) (hsys : Fld.sys ∈ fs) (hfuse : Fld.fuse ∈ fs) (hfab : Fld.fab ∈ fs)
    (hgroups : Fld.groups ∈ fs) (hcells : Fld.cells ∈ fs) (hculm : Fld.culm ∈ fs) (hgov : Fld.gov ∈ fs)
    (hbranches : Fld.branches ∈ fs) (hloads : Fld.loads ∈ fs) (hsrc : Fld.src ∈ fs) (hhov : Fld.hov ∈ fs)
    (hflow : Fld.flow ∈ fs) (hctx : Fld.ctx ∈ fs) (hbat : Fld.bat ∈ fs) (hfdr : Fld.fdr ∈ fs)
    (hchg : Fld.chg ∈ fs) (hprofIO : Fld.profIO ∈ fs) (hbms : Fld.bms ∈ fs) (hest : Fld.est ∈ fs)
    (hthm : Fld.thm ∈ fs) (hthr : Fld.thr ∈ fs) (hsense : Fld.sense ∈ fs) (hawn : Fld.awn ∈ fs)
    (hring : Fld.ring ∈ fs) (hcan : Fld.can ∈ fs) (henergy : Fld.energy ∈ fs) :
    (State.ladderModule s cause tries).but fs = s.but fs := by
  unfold State.ladderModule
  simp [*]

@[simp] theorem ladderHold_but {fs : List Fld} (s : State) (cause : Nat) (hdeferred : Fld.deferred ∈ fs)
    (hflt : Fld.flt ∈ fs) (hsafeLine : Fld.safeLine ∈ fs) (hhalt : Fld.halt ∈ fs) (hx3 : Fld.x3 ∈ fs)
    (hxing : Fld.xing ∈ fs) (hlog : Fld.log ∈ fs) (hwdg : Fld.wdg ∈ fs) (hret : Fld.ret ∈ fs)
    (hdom : Fld.dom ∈ fs) (himg : Fld.img ∈ fs) (hfab : Fld.fab ∈ fs) (hgroups : Fld.groups ∈ fs)
    (hcells : Fld.cells ∈ fs) (hculm : Fld.culm ∈ fs) (hbranches : Fld.branches ∈ fs) (hsrc : Fld.src ∈ fs)
    (hctx : Fld.ctx ∈ fs) (hbat : Fld.bat ∈ fs) (hfdr : Fld.fdr ∈ fs) (hchg : Fld.chg ∈ fs) (hest : Fld.est ∈ fs)
    (hthr : Fld.thr ∈ fs) (hawn : Fld.awn ∈ fs) :
    (State.ladderHold s cause).but fs = s.but fs := by
  unfold State.ladderHold
  simp [*]

@[simp] theorem ladder_but {fs : List Fld} (s : State) (cause : Nat) (hpending : Fld.pending ∈ fs)
    (hnow : Fld.now ∈ fs) (hfreeN : Fld.freeN ∈ fs) (hdeferred : Fld.deferred ∈ fs) (hflt : Fld.flt ∈ fs)
    (hsafeLine : Fld.safeLine ∈ fs) (hhalt : Fld.halt ∈ fs) (hx3 : Fld.x3 ∈ fs) (hxing : Fld.xing ∈ fs)
    (hxslots : Fld.xslots ∈ fs) (hrw : Fld.rw ∈ fs) (hnv : Fld.nv ∈ fs) (hprof : Fld.prof ∈ fs)
    (hlog : Fld.log ∈ fs) (hwdg : Fld.wdg ∈ fs) (hhost : Fld.host ∈ fs) (hret : Fld.ret ∈ fs)
    (hslots : Fld.slots ∈ fs) (hdom : Fld.dom ∈ fs) (himg : Fld.img ∈ fs) (hnvs : Fld.nvs ∈ fs)
    (hsys : Fld.sys ∈ fs) (hfuse : Fld.fuse ∈ fs) (hfab : Fld.fab ∈ fs) (hgroups : Fld.groups ∈ fs)
    (hcells : Fld.cells ∈ fs) (hculm : Fld.culm ∈ fs) (hgov : Fld.gov ∈ fs) (hbranches : Fld.branches ∈ fs)
    (hloads : Fld.loads ∈ fs) (hsrc : Fld.src ∈ fs) (hhov : Fld.hov ∈ fs) (hflow : Fld.flow ∈ fs)
    (hctx : Fld.ctx ∈ fs) (hbat : Fld.bat ∈ fs) (hfdr : Fld.fdr ∈ fs) (hchg : Fld.chg ∈ fs)
    (hprofIO : Fld.profIO ∈ fs) (hbms : Fld.bms ∈ fs) (hest : Fld.est ∈ fs) (hthm : Fld.thm ∈ fs)
    (hthr : Fld.thr ∈ fs) (hsense : Fld.sense ∈ fs) (hawn : Fld.awn ∈ fs) (hring : Fld.ring ∈ fs)
    (hcan : Fld.can ∈ fs) (henergy : Fld.energy ∈ fs) :
    (State.ladder s cause).but fs = s.but fs := by
  unfold State.ladder
  extract_lets
  (repeat' split) <;> simp +zetaDelta [*]

@[simp] theorem wdgTrip_but {fs : List Fld} (s : State) (src : Src) (cause : Nat) (hpending : Fld.pending ∈ fs)
    (hnow : Fld.now ∈ fs) (hfreeN : Fld.freeN ∈ fs) (hdeferred : Fld.deferred ∈ fs) (hflt : Fld.flt ∈ fs)
    (hsafeLine : Fld.safeLine ∈ fs) (hhalt : Fld.halt ∈ fs) (hx3 : Fld.x3 ∈ fs) (hxing : Fld.xing ∈ fs)
    (hxslots : Fld.xslots ∈ fs) (hrw : Fld.rw ∈ fs) (hnv : Fld.nv ∈ fs) (hprof : Fld.prof ∈ fs)
    (hlog : Fld.log ∈ fs) (hwdg : Fld.wdg ∈ fs) (hhost : Fld.host ∈ fs) (hret : Fld.ret ∈ fs)
    (hslots : Fld.slots ∈ fs) (hdom : Fld.dom ∈ fs) (himg : Fld.img ∈ fs) (hnvs : Fld.nvs ∈ fs)
    (hsys : Fld.sys ∈ fs) (hfuse : Fld.fuse ∈ fs) (hfab : Fld.fab ∈ fs) (hgroups : Fld.groups ∈ fs)
    (hcells : Fld.cells ∈ fs) (hculm : Fld.culm ∈ fs) (hgov : Fld.gov ∈ fs) (hbranches : Fld.branches ∈ fs)
    (hloads : Fld.loads ∈ fs) (hsrc : Fld.src ∈ fs) (hhov : Fld.hov ∈ fs) (hflow : Fld.flow ∈ fs)
    (hctx : Fld.ctx ∈ fs) (hbat : Fld.bat ∈ fs) (hfdr : Fld.fdr ∈ fs) (hchg : Fld.chg ∈ fs)
    (hprofIO : Fld.profIO ∈ fs) (hbms : Fld.bms ∈ fs) (hest : Fld.est ∈ fs) (hthm : Fld.thm ∈ fs)
    (hthr : Fld.thr ∈ fs) (hsense : Fld.sense ∈ fs) (hawn : Fld.awn ∈ fs) (hring : Fld.ring ∈ fs)
    (hcan : Fld.can ∈ fs) (henergy : Fld.energy ∈ fs) :
    (State.wdgTrip s src cause).but fs = s.but fs := by
  unfold State.wdgTrip
  simp [*]

@[simp] theorem writeWdgCfg_but {fs : List Fld} (s : State) (r : Req) (v : Word) (hwdg : Fld.wdg ∈ fs)
    (hret : Fld.ret ∈ fs) (hsys : Fld.sys ∈ fs) :
    (State.writeWdgCfg s r v).but fs = s.but fs := by
  unfold State.writeWdgCfg
  (repeat' split) <;> simp [*]

@[simp] theorem service_but {fs : List Fld} (s : State) (hwdg : Fld.wdg ∈ fs) (hret : Fld.ret ∈ fs) :
    (State.service s).but fs = s.but fs := by
  unfold State.service
  extract_lets
  (repeat' split) <;> simp +zetaDelta [*]

@[simp] theorem wdgKey_but {fs : List Fld} (s : State) (key : Nat) (hpending : Fld.pending ∈ fs)
    (hnow : Fld.now ∈ fs) (hfreeN : Fld.freeN ∈ fs) (hdeferred : Fld.deferred ∈ fs) (hflt : Fld.flt ∈ fs)
    (hsafeLine : Fld.safeLine ∈ fs) (hhalt : Fld.halt ∈ fs) (hx3 : Fld.x3 ∈ fs) (hxing : Fld.xing ∈ fs)
    (hxslots : Fld.xslots ∈ fs) (hrw : Fld.rw ∈ fs) (hnv : Fld.nv ∈ fs) (hprof : Fld.prof ∈ fs)
    (hlog : Fld.log ∈ fs) (hwdg : Fld.wdg ∈ fs) (hhost : Fld.host ∈ fs) (hret : Fld.ret ∈ fs)
    (hslots : Fld.slots ∈ fs) (hdom : Fld.dom ∈ fs) (himg : Fld.img ∈ fs) (hnvs : Fld.nvs ∈ fs)
    (hsys : Fld.sys ∈ fs) (hfuse : Fld.fuse ∈ fs) (hfab : Fld.fab ∈ fs) (hgroups : Fld.groups ∈ fs)
    (hcells : Fld.cells ∈ fs) (hculm : Fld.culm ∈ fs) (hgov : Fld.gov ∈ fs) (hbranches : Fld.branches ∈ fs)
    (hloads : Fld.loads ∈ fs) (hsrc : Fld.src ∈ fs) (hhov : Fld.hov ∈ fs) (hflow : Fld.flow ∈ fs)
    (hctx : Fld.ctx ∈ fs) (hbat : Fld.bat ∈ fs) (hfdr : Fld.fdr ∈ fs) (hchg : Fld.chg ∈ fs)
    (hprofIO : Fld.profIO ∈ fs) (hbms : Fld.bms ∈ fs) (hest : Fld.est ∈ fs) (hthm : Fld.thm ∈ fs)
    (hthr : Fld.thr ∈ fs) (hsense : Fld.sense ∈ fs) (hawn : Fld.awn ∈ fs) (hring : Fld.ring ∈ fs)
    (hcan : Fld.can ∈ fs) (henergy : Fld.energy ∈ fs) :
    (State.wdgKey s key).but fs = s.but fs := by
  unfold State.wdgKey
  extract_lets
  (repeat' split) <;> simp +zetaDelta [*]

@[simp] theorem clearRestarts_but {fs : List Fld} (s : State) (hret : Fld.ret ∈ fs) :
    (State.clearRestarts s).but fs = s.but fs := by
  unfold State.clearRestarts
  simp [*]

@[simp] theorem contact_but {fs : List Fld} (s : State) (hdeferred : Fld.deferred ∈ fs) (hflt : Fld.flt ∈ fs)
    (hsafeLine : Fld.safeLine ∈ fs) (hhalt : Fld.halt ∈ fs) (hx3 : Fld.x3 ∈ fs) (hxing : Fld.xing ∈ fs)
    (hlog : Fld.log ∈ fs) (hhost : Fld.host ∈ fs) (hret : Fld.ret ∈ fs) (hdom : Fld.dom ∈ fs)
    (himg : Fld.img ∈ fs) (hfab : Fld.fab ∈ fs) (hgroups : Fld.groups ∈ fs) (hcells : Fld.cells ∈ fs)
    (hculm : Fld.culm ∈ fs) (hbranches : Fld.branches ∈ fs) (hsrc : Fld.src ∈ fs) (hctx : Fld.ctx ∈ fs)
    (hbat : Fld.bat ∈ fs) (hfdr : Fld.fdr ∈ fs) (hchg : Fld.chg ∈ fs) (hest : Fld.est ∈ fs) (hthr : Fld.thr ∈ fs)
    (hawn : Fld.awn ∈ fs) :
    (State.contact s).but fs = s.but fs := by
  unfold State.contact
  (repeat' split) <;> simp [*]

@[simp] theorem kick_but {fs : List Fld} (s : State) (hdeferred : Fld.deferred ∈ fs) (hflt : Fld.flt ∈ fs)
    (hsafeLine : Fld.safeLine ∈ fs) (hhalt : Fld.halt ∈ fs) (hx3 : Fld.x3 ∈ fs) (hxing : Fld.xing ∈ fs)
    (hlog : Fld.log ∈ fs) (hhost : Fld.host ∈ fs) (hret : Fld.ret ∈ fs) (hdom : Fld.dom ∈ fs)
    (himg : Fld.img ∈ fs) (hfab : Fld.fab ∈ fs) (hgroups : Fld.groups ∈ fs) (hcells : Fld.cells ∈ fs)
    (hculm : Fld.culm ∈ fs) (hbranches : Fld.branches ∈ fs) (hsrc : Fld.src ∈ fs) (hctx : Fld.ctx ∈ fs)
    (hbat : Fld.bat ∈ fs) (hfdr : Fld.fdr ∈ fs) (hchg : Fld.chg ∈ fs) (hest : Fld.est ∈ fs) (hthr : Fld.thr ∈ fs)
    (hawn : Fld.awn ∈ fs) :
    (State.kick s).but fs = s.but fs := by
  unfold State.kick
  split <;> simp [*]

@[simp] theorem writeWdgCtl_but {fs : List Fld} (s : State) (v : Word) (hdeferred : Fld.deferred ∈ fs)
    (hflt : Fld.flt ∈ fs) (hsafeLine : Fld.safeLine ∈ fs) (hhalt : Fld.halt ∈ fs) (hx3 : Fld.x3 ∈ fs)
    (hxing : Fld.xing ∈ fs) (hlog : Fld.log ∈ fs) (hhost : Fld.host ∈ fs) (hret : Fld.ret ∈ fs)
    (hdom : Fld.dom ∈ fs) (himg : Fld.img ∈ fs) (hfab : Fld.fab ∈ fs) (hgroups : Fld.groups ∈ fs)
    (hcells : Fld.cells ∈ fs) (hculm : Fld.culm ∈ fs) (hbranches : Fld.branches ∈ fs) (hsrc : Fld.src ∈ fs)
    (hctx : Fld.ctx ∈ fs) (hbat : Fld.bat ∈ fs) (hfdr : Fld.fdr ∈ fs) (hchg : Fld.chg ∈ fs) (hest : Fld.est ∈ fs)
    (hthr : Fld.thr ∈ fs) (hawn : Fld.awn ∈ fs) :
    (State.writeWdgCtl s v).but fs = s.but fs := by
  unfold State.writeWdgCtl
  (repeat' split) <;> simp [*]

@[simp] theorem writeHct_but {fs : List Fld} (s : State) (v : Word) (hrw : Fld.rw ∈ fs) (hhost : Fld.host ∈ fs) :
    (State.writeHct s v).but fs = s.but fs := by
  unfold State.writeHct
  simp [*]

@[simp] theorem toSafeProfile_but {fs : List Fld} (s : State) (c : Ctx) (hdeferred : Fld.deferred ∈ fs)
    (hflt : Fld.flt ∈ fs) (hsafeLine : Fld.safeLine ∈ fs) (hhalt : Fld.halt ∈ fs) (hx3 : Fld.x3 ∈ fs)
    (hxing : Fld.xing ∈ fs) (hlog : Fld.log ∈ fs) (hret : Fld.ret ∈ fs) (hdom : Fld.dom ∈ fs)
    (himg : Fld.img ∈ fs) (hfab : Fld.fab ∈ fs) (hgroups : Fld.groups ∈ fs) (hcells : Fld.cells ∈ fs)
    (hculm : Fld.culm ∈ fs) (hbranches : Fld.branches ∈ fs) (hsrc : Fld.src ∈ fs) (hctx : Fld.ctx ∈ fs)
    (hbat : Fld.bat ∈ fs) (hfdr : Fld.fdr ∈ fs) (hchg : Fld.chg ∈ fs) (hest : Fld.est ∈ fs) (hthr : Fld.thr ∈ fs)
    (hawn : Fld.awn ∈ fs) :
    (State.toSafeProfile s c).but fs = s.but fs := by
  unfold State.toSafeProfile
  repeat' (first | done | intro _ | split | rw [forEach_but] | rw [foldl_but] | simp +zetaDelta [*, but_ite] | extract_lets | (simp only [State.but, *, if_true]; done))

@[simp] theorem contactBy_but {fs : List Fld} (s : State) (f : Frame) (hdeferred : Fld.deferred ∈ fs)
    (hflt : Fld.flt ∈ fs) (hsafeLine : Fld.safeLine ∈ fs) (hhalt : Fld.halt ∈ fs) (hx3 : Fld.x3 ∈ fs)
    (hxing : Fld.xing ∈ fs) (hlog : Fld.log ∈ fs) (hhost : Fld.host ∈ fs) (hret : Fld.ret ∈ fs)
    (hdom : Fld.dom ∈ fs) (himg : Fld.img ∈ fs) (hfab : Fld.fab ∈ fs) (hgroups : Fld.groups ∈ fs)
    (hcells : Fld.cells ∈ fs) (hculm : Fld.culm ∈ fs) (hbranches : Fld.branches ∈ fs) (hsrc : Fld.src ∈ fs)
    (hctx : Fld.ctx ∈ fs) (hbat : Fld.bat ∈ fs) (hfdr : Fld.fdr ∈ fs) (hchg : Fld.chg ∈ fs) (hest : Fld.est ∈ fs)
    (hthr : Fld.thr ∈ fs) (hawn : Fld.awn ∈ fs) :
    (State.contactBy s f).but fs = s.but fs := by
  unfold State.contactBy
  split <;> simp [*]

@[simp] theorem convert_but {fs : List Fld} (failed : List Chan) (s : State) (q : Nat × Int)
    (hdeferred : Fld.deferred ∈ fs) (hflt : Fld.flt ∈ fs) (hsafeLine : Fld.safeLine ∈ fs) (hhalt : Fld.halt ∈ fs)
    (hx3 : Fld.x3 ∈ fs) (hxing : Fld.xing ∈ fs) (hlog : Fld.log ∈ fs) (hret : Fld.ret ∈ fs) (hdom : Fld.dom ∈ fs)
    (himg : Fld.img ∈ fs) (hfab : Fld.fab ∈ fs) (hgroups : Fld.groups ∈ fs) (hcells : Fld.cells ∈ fs)
    (hculm : Fld.culm ∈ fs) (hbranches : Fld.branches ∈ fs) (hsrc : Fld.src ∈ fs) (hctx : Fld.ctx ∈ fs)
    (hbat : Fld.bat ∈ fs) (hfdr : Fld.fdr ∈ fs) (hchg : Fld.chg ∈ fs) (hest : Fld.est ∈ fs) (hthm : Fld.thm ∈ fs)
    (hthr : Fld.thr ∈ fs) (hsense : Fld.sense ∈ fs) (hawn : Fld.awn ∈ fs) :
    (State.convert failed s q).but fs = s.but fs := by
  unfold State.convert
  repeat' (first | done | intro _ | split | rw [forEach_but] | rw [foldl_but] | simp +zetaDelta [*, but_ite] | extract_lets | (simp only [State.but, *, if_true]; done))

@[simp] theorem figures_but {fs : List Fld} (s : State) (g : Group) (w : Wave) (hdeferred : Fld.deferred ∈ fs)
    (hflt : Fld.flt ∈ fs) (hsafeLine : Fld.safeLine ∈ fs) (hhalt : Fld.halt ∈ fs) (hx3 : Fld.x3 ∈ fs)
    (hxing : Fld.xing ∈ fs) (hlog : Fld.log ∈ fs) (hret : Fld.ret ∈ fs) (hdom : Fld.dom ∈ fs)
    (himg : Fld.img ∈ fs) (hfab : Fld.fab ∈ fs) (hgroups : Fld.groups ∈ fs) (hcells : Fld.cells ∈ fs)
    (hculm : Fld.culm ∈ fs) (hbranches : Fld.branches ∈ fs) (hsrc : Fld.src ∈ fs) (hctx : Fld.ctx ∈ fs)
    (hbat : Fld.bat ∈ fs) (hfdr : Fld.fdr ∈ fs) (hchg : Fld.chg ∈ fs) (hest : Fld.est ∈ fs) (hthr : Fld.thr ∈ fs)
    (hsense : Fld.sense ∈ fs) (hawn : Fld.awn ∈ fs) :
    (State.figures s g w).but fs = s.but fs := by
  unfold State.figures
  extract_lets
  (repeat' split) <;> simp +zetaDelta [*]

@[simp] theorem measureCulm_but {fs : List Fld} (s : State) (ns : Nat) (hculm : Fld.culm ∈ fs)
    (hbranches : Fld.branches ∈ fs) (hloads : Fld.loads ∈ fs) :
    (State.measureCulm s ns).but fs = s.but fs := by
  unfold State.measureCulm
  repeat' (first | done | intro _ | split | rw [forEach_but] | rw [foldl_but] | simp +zetaDelta [*, but_ite] | extract_lets | (simp only [State.but, *, if_true]; done))

@[simp] theorem portEnergy_but {fs : List Fld} (s : State) (p : Port) (mv : Nat) (i : Int) (ns : Nat)
    (henergy : Fld.energy ∈ fs) :
    (State.portEnergy s p mv i ns).but fs = s.but fs := by
  unfold State.portEnergy
  simp [*]

@[simp] theorem countLoad_but {fs : List Fld} (s : State) (ns : Nat) (hthr : Fld.thr ∈ fs)
    (henergy : Fld.energy ∈ fs) :
    (State.countLoad s ns).but fs = s.but fs := by
  unfold State.countLoad
  simp [*]

@[simp] theorem judgeCulm_but {fs : List Fld} (s : State) (hdeferred : Fld.deferred ∈ fs) (hflt : Fld.flt ∈ fs)
    (hsafeLine : Fld.safeLine ∈ fs) (hhalt : Fld.halt ∈ fs) (hx3 : Fld.x3 ∈ fs) (hxing : Fld.xing ∈ fs)
    (hlog : Fld.log ∈ fs) (hret : Fld.ret ∈ fs) (hdom : Fld.dom ∈ fs) (himg : Fld.img ∈ fs) (hfab : Fld.fab ∈ fs)
    (hgroups : Fld.groups ∈ fs) (hcells : Fld.cells ∈ fs) (hculm : Fld.culm ∈ fs) (hbranches : Fld.branches ∈ fs)
    (hsrc : Fld.src ∈ fs) (hctx : Fld.ctx ∈ fs) (hbat : Fld.bat ∈ fs) (hfdr : Fld.fdr ∈ fs) (hchg : Fld.chg ∈ fs)
    (hest : Fld.est ∈ fs) (hthr : Fld.thr ∈ fs) (hawn : Fld.awn ∈ fs) :
    (State.judgeCulm s).but fs = s.but fs := by
  unfold State.judgeCulm
  repeat' (first | done | intro _ | split | rw [forEach_but] | rw [foldl_but] | simp +zetaDelta [*, but_ite] | extract_lets | (simp only [State.but, *, if_true]; done))

@[simp] theorem measureSrc_but {fs : List Fld} (s : State) (p : SPort) (w : Wave) (hsrc : Fld.src ∈ fs)
    (hfdr : Fld.fdr ∈ fs) :
    (State.measureSrc s p w).but fs = s.but fs := by
  unfold State.measureSrc
  extract_lets
  (repeat' split) <;> simp +zetaDelta [*]

@[simp] theorem measureBat_but {fs : List Fld} (s : State) (p : BPort) (w : Wave) (hbat : Fld.bat ∈ fs)
    (hchg : Fld.chg ∈ fs) (hest : Fld.est ∈ fs) :
    (State.measureBat s p w).but fs = s.but fs := by
  unfold State.measureBat
  extract_lets
  (repeat' split) <;> simp +zetaDelta [*]

@[simp] theorem measurePort_but {fs : List Fld} (s : State) (g : Group) (w : Wave) (hsrc : Fld.src ∈ fs)
    (hbat : Fld.bat ∈ fs) (hfdr : Fld.fdr ∈ fs) (hchg : Fld.chg ∈ fs) (hest : Fld.est ∈ fs) :
    (State.measurePort s g w).but fs = s.but fs := by
  unfold State.measurePort
  split <;> simp [*]

@[simp] theorem measureCell_but {fs : List Fld} (g : Group) (s : State) (q : Cell × Int × Nat)
    (hcells : Fld.cells ∈ fs) :
    (State.measureCell g s q).but fs = s.but fs := by
  unfold State.measureCell
  extract_lets
  (repeat' split) <;> simp +zetaDelta [*]

@[simp] theorem measureFlow_but {fs : List Fld} (mv : Nat) (i : Int) (ns : Nat) (s : State) (c : Ctx)
    (hctx : Fld.ctx ∈ fs) (hthr : Fld.thr ∈ fs) :
    (State.measureFlow mv i ns s c).but fs = s.but fs := by
  unfold State.measureFlow
  extract_lets
  (repeat' split) <;> simp +zetaDelta [*]

@[simp] theorem countPort_but {fs : List Fld} (s : State) (g : Group) (ns : Nat) (hctx : Fld.ctx ∈ fs)
    (hchg : Fld.chg ∈ fs) (hest : Fld.est ∈ fs) (hthr : Fld.thr ∈ fs) (henergy : Fld.energy ∈ fs) :
    (State.countPort s g ns).but fs = s.but fs := by
  unfold State.countPort
  repeat' (first | done | intro _ | split | rw [forEach_but] | rw [foldl_but] | simp +zetaDelta [*, but_ite] | extract_lets | (simp only [State.but, *, if_true]; done))

@[simp] theorem estimate_but {fs : List Fld} (s : State) (g : Group) (w : Wave) (hdeferred : Fld.deferred ∈ fs)
    (hflt : Fld.flt ∈ fs) (hsafeLine : Fld.safeLine ∈ fs) (hhalt : Fld.halt ∈ fs) (hx3 : Fld.x3 ∈ fs)
    (hxing : Fld.xing ∈ fs) (hlog : Fld.log ∈ fs) (hret : Fld.ret ∈ fs) (hdom : Fld.dom ∈ fs)
    (himg : Fld.img ∈ fs) (hfab : Fld.fab ∈ fs) (hgroups : Fld.groups ∈ fs) (hcells : Fld.cells ∈ fs)
    (hculm : Fld.culm ∈ fs) (hbranches : Fld.branches ∈ fs) (hloads : Fld.loads ∈ fs) (hsrc : Fld.src ∈ fs)
    (hctx : Fld.ctx ∈ fs) (hbat : Fld.bat ∈ fs) (hfdr : Fld.fdr ∈ fs) (hchg : Fld.chg ∈ fs) (hest : Fld.est ∈ fs)
    (hthm : Fld.thm ∈ fs) (hthr : Fld.thr ∈ fs) (hsense : Fld.sense ∈ fs) (hawn : Fld.awn ∈ fs)
    (henergy : Fld.energy ∈ fs) :
    (State.estimate s g w).but fs = s.but fs := by
  unfold State.estimate
  simp [*]

@[simp] theorem prechargeCulm_but {fs : List Fld} (s : State) (hculm : Fld.culm ∈ fs) :
    (State.prechargeCulm s).but fs = s.but fs := by
  unfold State.prechargeCulm
  simp [*]

@[simp] theorem followCulm_but {fs : List Fld} (s : State) (hflt : Fld.flt ∈ fs) (hsafeLine : Fld.safeLine ∈ fs)
    (hhalt : Fld.halt ∈ fs) (hculm : Fld.culm ∈ fs) (hbranches : Fld.branches ∈ fs) :
    (State.followCulm s).but fs = s.but fs := by
  unfold State.followCulm
  extract_lets a c b
  have ha : a.but fs = s.but fs := by
    simp only [a]
    split <;> simp [*]
  have hb : b.but fs = s.but fs := by
    rw [← ha]
    exact set_culm_but a _ hculm
  (repeat' split) <;> simp [*]

@[simp] theorem followBranch_but {fs : List Fld} (spare : Nat) (s : State) (b : Branch)
    (hbranches : Fld.branches ∈ fs) :
    (State.followBranch spare s b).but fs = s.but fs := by
  unfold State.followBranch
  extract_lets
  (repeat' split) <;> simp +zetaDelta [*]

@[simp] theorem followBranches_but {fs : List Fld} (s : State) (hbranches : Fld.branches ∈ fs) :
    (State.followBranches s).but fs = s.but fs := by
  unfold State.followBranches
  simp [*]

@[simp] theorem chargePhase_but {fs : List Fld} (s : State) (p : BPort) (c : Ctx) (w : Profile) (e : PhaseEntry)
    (ns : Nat) (hchg : Fld.chg ∈ fs) :
    (State.chargePhase s p c w e ns).but fs = s.but fs := by
  unfold State.chargePhase
  simp [*]

@[simp] theorem chargeStep_but {fs : List Fld} (s : State) (p : BPort) (ns : Nat) (hchg : Fld.chg ∈ fs) :
    (State.chargeStep s p ns).but fs = s.but fs := by
  unfold State.chargeStep
  split <;> simp [*]

@[simp] theorem sweepStep_but {fs : List Fld} (s : State) (p : BPort) (changed : Bool) (hest : Fld.est ∈ fs) :
    (State.sweepStep s p changed).but fs = s.but fs := by
  unfold State.sweepStep
  extract_lets
  (repeat' split) <;> simp +zetaDelta [*]

@[simp] theorem estStep_but {fs : List Fld} (s : State) (p : BPort) (hdeferred : Fld.deferred ∈ fs)
    (hflt : Fld.flt ∈ fs) (hsafeLine : Fld.safeLine ∈ fs) (hhalt : Fld.halt ∈ fs) (hx3 : Fld.x3 ∈ fs)
    (hxing : Fld.xing ∈ fs) (hlog : Fld.log ∈ fs) (hret : Fld.ret ∈ fs) (hdom : Fld.dom ∈ fs)
    (himg : Fld.img ∈ fs) (hfab : Fld.fab ∈ fs) (hgroups : Fld.groups ∈ fs) (hcells : Fld.cells ∈ fs)
    (hculm : Fld.culm ∈ fs) (hbranches : Fld.branches ∈ fs) (hsrc : Fld.src ∈ fs) (hctx : Fld.ctx ∈ fs)
    (hbat : Fld.bat ∈ fs) (hfdr : Fld.fdr ∈ fs) (hchg : Fld.chg ∈ fs) (hest : Fld.est ∈ fs) (hthr : Fld.thr ∈ fs)
    (hawn : Fld.awn ∈ fs) :
    (State.estStep s p).but fs = s.but fs := by
  unfold State.estStep
  extract_lets
  (repeat' split) <;> simp +zetaDelta [*]

@[simp] theorem followFold_but {fs : List Fld} (s : State) (p : SPort) (ns : Nat) (hsrc : Fld.src ∈ fs) :
    (State.followFold s p ns).but fs = s.but fs := by
  unfold State.followFold
  split <;> simp [*]

@[simp] theorem curtail_but {fs : List Fld} (s : State) (p : SPort) (c : Ctx) (lim : Nat) (hsrc : Fld.src ∈ fs) :
    (State.curtail s p c lim).but fs = s.but fs := by
  unfold State.curtail
  extract_lets
  (repeat' split) <;> simp +zetaDelta [*]

@[simp] theorem noteAvail_but {fs : List Fld} (s : State) (p : SPort) (lim : Nat) (pAvail : Nat)
    (hsrc : Fld.src ∈ fs) :
    (State.noteAvail s p lim pAvail).but fs = s.but fs := by
  unfold State.noteAvail
  repeat' (first | done | intro _ | split | rw [forEach_but] | rw [foldl_but] | simp +zetaDelta [*, but_ite] | extract_lets | (simp only [State.but, *, if_true]; done))

@[simp] theorem commandFlow_but {fs : List Fld} (share : List (Ctx × Nat)) (pAvail ns : Nat) (s : State) (c : Ctx)
    (hsrc : Fld.src ∈ fs) (hctx : Fld.ctx ∈ fs) :
    (State.commandFlow share pAvail ns s c).but fs = s.but fs := by
  have ht (x : FlowCtx) (b : Bool) : (if b then s.setCtx c x else s).but fs = s.but fs := by
    cases b <;> simp [*]
  unfold State.commandFlow
  extract_lets f stop source cmd t
  have h : t.but fs = s.but fs := ht _ _
  split
  · split
    · exact (curtail_but _ _ _ _ hsrc).trans ((noteAvail_but _ _ _ _ hsrc).trans h)
    · exact h
  · exact h

@[simp] theorem judgeFlow_but {fs : List Fld} (s : State) (c : Ctx) (hdeferred : Fld.deferred ∈ fs)
    (hflt : Fld.flt ∈ fs) (hsafeLine : Fld.safeLine ∈ fs) (hhalt : Fld.halt ∈ fs) (hx3 : Fld.x3 ∈ fs)
    (hxing : Fld.xing ∈ fs) (hlog : Fld.log ∈ fs) (hret : Fld.ret ∈ fs) (hdom : Fld.dom ∈ fs)
    (himg : Fld.img ∈ fs) (hfab : Fld.fab ∈ fs) (hgroups : Fld.groups ∈ fs) (hcells : Fld.cells ∈ fs)
    (hculm : Fld.culm ∈ fs) (hbranches : Fld.branches ∈ fs) (hsrc : Fld.src ∈ fs) (hctx : Fld.ctx ∈ fs)
    (hbat : Fld.bat ∈ fs) (hfdr : Fld.fdr ∈ fs) (hchg : Fld.chg ∈ fs) (hest : Fld.est ∈ fs) (hthr : Fld.thr ∈ fs)
    (hawn : Fld.awn ∈ fs) :
    (State.judgeFlow s c).but fs = s.but fs := by
  unfold State.judgeFlow
  extract_lets
  (repeat' split) <;> simp +zetaDelta [*]

@[simp] theorem cutOff_but {fs : List Fld} (s : State) (c : Ctx) (hctx : Fld.ctx ∈ fs) (hchg : Fld.chg ∈ fs)
    (hest : Fld.est ∈ fs) :
    (State.cutOff s c).but fs = s.but fs := by
  unfold State.cutOff
  repeat' (first | done | intro _ | split | rw [forEach_but] | rw [foldl_but] | simp +zetaDelta [*, but_ite] | extract_lets | (simp only [State.but, *, if_true]; done))

@[simp] theorem feederStep_but {fs : List Fld} (s : State) (p : SPort) (ns : Nat) (hfdr : Fld.fdr ∈ fs) :
    (State.feederStep s p ns).but fs = s.but fs := by
  unfold State.feederStep
  extract_lets
  (repeat' split) <;> simp +zetaDelta [*]

@[simp] theorem portTargets_but {fs : List Fld} (s : State) (g : Group) (ns : Nat) (hdeferred : Fld.deferred ∈ fs)
    (hflt : Fld.flt ∈ fs) (hsafeLine : Fld.safeLine ∈ fs) (hhalt : Fld.halt ∈ fs) (hx3 : Fld.x3 ∈ fs)
    (hxing : Fld.xing ∈ fs) (hlog : Fld.log ∈ fs) (hret : Fld.ret ∈ fs) (hdom : Fld.dom ∈ fs)
    (himg : Fld.img ∈ fs) (hfab : Fld.fab ∈ fs) (hgroups : Fld.groups ∈ fs) (hcells : Fld.cells ∈ fs)
    (hculm : Fld.culm ∈ fs) (hbranches : Fld.branches ∈ fs) (hsrc : Fld.src ∈ fs) (hctx : Fld.ctx ∈ fs)
    (hbat : Fld.bat ∈ fs) (hfdr : Fld.fdr ∈ fs) (hchg : Fld.chg ∈ fs) (hest : Fld.est ∈ fs) (hthr : Fld.thr ∈ fs)
    (hawn : Fld.awn ∈ fs) :
    (State.portTargets s g ns).but fs = s.but fs := by
  unfold State.portTargets
  (repeat' split) <;> simp [*]

@[simp] theorem regulate_but {fs : List Fld} (s : State) (g : Group) (pAvail : Nat) (hfreeN : Fld.freeN ∈ fs)
    (hdeferred : Fld.deferred ∈ fs) (hflt : Fld.flt ∈ fs) (hsafeLine : Fld.safeLine ∈ fs) (hhalt : Fld.halt ∈ fs)
    (hx3 : Fld.x3 ∈ fs) (hxing : Fld.xing ∈ fs) (hlog : Fld.log ∈ fs) (hret : Fld.ret ∈ fs) (hdom : Fld.dom ∈ fs)
    (himg : Fld.img ∈ fs) (hfab : Fld.fab ∈ fs) (hgroups : Fld.groups ∈ fs) (hcells : Fld.cells ∈ fs)
    (hculm : Fld.culm ∈ fs) (hbranches : Fld.branches ∈ fs) (hsrc : Fld.src ∈ fs) (hctx : Fld.ctx ∈ fs)
    (hbat : Fld.bat ∈ fs) (hfdr : Fld.fdr ∈ fs) (hchg : Fld.chg ∈ fs) (hest : Fld.est ∈ fs) (hthr : Fld.thr ∈ fs)
    (hawn : Fld.awn ∈ fs) :
    (State.regulate s g pAvail).but fs = s.but fs := by
  unfold State.regulate
  simp [*]

@[simp] theorem rangeRule_but {fs : List Fld} (s : State) (g : Group) (hdeferred : Fld.deferred ∈ fs)
    (hflt : Fld.flt ∈ fs) (hsafeLine : Fld.safeLine ∈ fs) (hhalt : Fld.halt ∈ fs) (hx3 : Fld.x3 ∈ fs)
    (hxing : Fld.xing ∈ fs) (hlog : Fld.log ∈ fs) (hret : Fld.ret ∈ fs) (hdom : Fld.dom ∈ fs)
    (himg : Fld.img ∈ fs) (hfab : Fld.fab ∈ fs) (hgroups : Fld.groups ∈ fs) (hcells : Fld.cells ∈ fs)
    (hculm : Fld.culm ∈ fs) (hbranches : Fld.branches ∈ fs) (hsrc : Fld.src ∈ fs) (hctx : Fld.ctx ∈ fs)
    (hbat : Fld.bat ∈ fs) (hfdr : Fld.fdr ∈ fs) (hchg : Fld.chg ∈ fs) (hest : Fld.est ∈ fs) (hthr : Fld.thr ∈ fs)
    (hawn : Fld.awn ∈ fs) :
    (State.rangeRule s g).but fs = s.but fs := by
  unfold State.rangeRule
  extract_lets
  (repeat' split) <;> simp +zetaDelta [*]

@[simp] theorem modulate_but {fs : List Fld} (s : State) (g : Group) (hfreeN : Fld.freeN ∈ fs)
    (hdeferred : Fld.deferred ∈ fs) (hflt : Fld.flt ∈ fs) (hsafeLine : Fld.safeLine ∈ fs) (hhalt : Fld.halt ∈ fs)
    (hx3 : Fld.x3 ∈ fs) (hxing : Fld.xing ∈ fs) (hlog : Fld.log ∈ fs) (hret : Fld.ret ∈ fs) (hdom : Fld.dom ∈ fs)
    (himg : Fld.img ∈ fs) (hfab : Fld.fab ∈ fs) (hgroups : Fld.groups ∈ fs) (hcells : Fld.cells ∈ fs)
    (hculm : Fld.culm ∈ fs) (hbranches : Fld.branches ∈ fs) (hsrc : Fld.src ∈ fs) (hctx : Fld.ctx ∈ fs)
    (hbat : Fld.bat ∈ fs) (hfdr : Fld.fdr ∈ fs) (hchg : Fld.chg ∈ fs) (hest : Fld.est ∈ fs) (hthr : Fld.thr ∈ fs)
    (hawn : Fld.awn ∈ fs) :
    (State.modulate s g).but fs = s.but fs := by
  unfold State.modulate
  extract_lets
  (repeat' split) <;> simp +zetaDelta [*]

@[simp] theorem guardDonor_but {fs : List Fld} (g : Group) (s : State) (m : Migr) (hfab : Fld.fab ∈ fs)
    (hgroups : Fld.groups ∈ fs) (hcells : Fld.cells ∈ fs) :
    (State.guardDonor g s m).but fs = s.but fs := by
  unfold State.guardDonor
  extract_lets
  (repeat' split) <;> simp +zetaDelta [*]

@[simp] theorem noteAbove_but {fs : List Fld} (s : State) (g : Group) (high : Bool) (hsense : Fld.sense ∈ fs) :
    (State.noteAbove s g high).but fs = s.but fs := by
  unfold State.noteAbove
  simp [*]

@[simp] theorem guardShed_but {fs : List Fld} (s : State) (g : Group) (hcells : Fld.cells ∈ fs)
    (hsense : Fld.sense ∈ fs) :
    (State.guardShed s g).but fs = s.but fs := by
  unfold State.guardShed
  extract_lets
  (repeat' split) <;> simp +zetaDelta [*]

@[simp] theorem restartDropped_but {fs : List Fld} (g : Group) (s : State) (c : Cell) (hcells : Fld.cells ∈ fs) :
    (State.restartDropped g s c).but fs = s.but fs := by
  unfold State.restartDropped
  extract_lets
  (repeat' split) <;> simp +zetaDelta [*]

@[simp] theorem handOver_but {fs : List Fld} (s : State) (g : Group) (hfreeN : Fld.freeN ∈ fs)
    (hcells : Fld.cells ∈ fs) :
    (State.handOver s g).but fs = s.but fs := by
  unfold State.handOver
  repeat' (first | done | intro _ | split | rw [forEach_but] | rw [foldl_but] | simp +zetaDelta [*, but_ite] | extract_lets | (simp only [State.but, *, if_true]; done))

@[simp] theorem drive_but {fs : List Fld} (s : State) (g : Group) (hfreeN : Fld.freeN ∈ fs)
    (hdeferred : Fld.deferred ∈ fs) (hflt : Fld.flt ∈ fs) (hsafeLine : Fld.safeLine ∈ fs) (hhalt : Fld.halt ∈ fs)
    (hx3 : Fld.x3 ∈ fs) (hxing : Fld.xing ∈ fs) (hlog : Fld.log ∈ fs) (hret : Fld.ret ∈ fs) (hdom : Fld.dom ∈ fs)
    (himg : Fld.img ∈ fs) (hfab : Fld.fab ∈ fs) (hgroups : Fld.groups ∈ fs) (hcells : Fld.cells ∈ fs)
    (hculm : Fld.culm ∈ fs) (hbranches : Fld.branches ∈ fs) (hsrc : Fld.src ∈ fs) (hctx : Fld.ctx ∈ fs)
    (hbat : Fld.bat ∈ fs) (hfdr : Fld.fdr ∈ fs) (hchg : Fld.chg ∈ fs) (hest : Fld.est ∈ fs) (hthr : Fld.thr ∈ fs)
    (hsense : Fld.sense ∈ fs) (hawn : Fld.awn ∈ fs) :
    (State.drive s g).but fs = s.but fs := by
  unfold State.drive
  simp [*]

@[simp] theorem wave_but {fs : List Fld} (s : State) (g : Group) (w : Wave) (hfreeN : Fld.freeN ∈ fs)
    (hdeferred : Fld.deferred ∈ fs) (hflt : Fld.flt ∈ fs) (hsafeLine : Fld.safeLine ∈ fs) (hhalt : Fld.halt ∈ fs)
    (hx3 : Fld.x3 ∈ fs) (hxing : Fld.xing ∈ fs) (hxslots : Fld.xslots ∈ fs) (hrw : Fld.rw ∈ fs)
    (hprof : Fld.prof ∈ fs) (hlog : Fld.log ∈ fs) (hret : Fld.ret ∈ fs) (hdom : Fld.dom ∈ fs)
    (himg : Fld.img ∈ fs) (hfab : Fld.fab ∈ fs) (hgroups : Fld.groups ∈ fs) (hcells : Fld.cells ∈ fs)
    (hculm : Fld.culm ∈ fs) (hbranches : Fld.branches ∈ fs) (hloads : Fld.loads ∈ fs) (hsrc : Fld.src ∈ fs)
    (hflow : Fld.flow ∈ fs) (hctx : Fld.ctx ∈ fs) (hbat : Fld.bat ∈ fs) (hfdr : Fld.fdr ∈ fs)
    (hchg : Fld.chg ∈ fs) (hprofIO : Fld.profIO ∈ fs) (hbms : Fld.bms ∈ fs) (hest : Fld.est ∈ fs)
    (hthm : Fld.thm ∈ fs) (hthr : Fld.thr ∈ fs) (hsense : Fld.sense ∈ fs) (hawn : Fld.awn ∈ fs)
    (henergy : Fld.energy ∈ fs) :
    (State.wave s g w).but fs = s.but fs := by
  unfold State.wave
  simp [*]

@[simp] theorem passTurn_but {fs : List Fld} (s : State) (g : Group) (hsense : Fld.sense ∈ fs) :
    (State.passTurn s g).but fs = s.but fs := by
  unfold State.passTurn
  repeat' (first | done | intro _ | split | rw [forEach_but] | rw [foldl_but] | simp +zetaDelta [*, but_ite] | extract_lets | (simp only [State.but, *, if_true]; done))

@[simp] theorem runWaves_but {fs : List Fld} (s : State) (hfreeN : Fld.freeN ∈ fs) (hdeferred : Fld.deferred ∈ fs)
    (hflt : Fld.flt ∈ fs) (hsafeLine : Fld.safeLine ∈ fs) (hhalt : Fld.halt ∈ fs) (hx3 : Fld.x3 ∈ fs)
    (hxing : Fld.xing ∈ fs) (hxslots : Fld.xslots ∈ fs) (hrw : Fld.rw ∈ fs) (hprof : Fld.prof ∈ fs)
    (hlog : Fld.log ∈ fs) (hret : Fld.ret ∈ fs) (hdom : Fld.dom ∈ fs) (himg : Fld.img ∈ fs) (hfab : Fld.fab ∈ fs)
    (hgroups : Fld.groups ∈ fs) (hcells : Fld.cells ∈ fs) (hculm : Fld.culm ∈ fs) (hbranches : Fld.branches ∈ fs)
    (hloads : Fld.loads ∈ fs) (hsrc : Fld.src ∈ fs) (hflow : Fld.flow ∈ fs) (hctx : Fld.ctx ∈ fs)
    (hbat : Fld.bat ∈ fs) (hfdr : Fld.fdr ∈ fs) (hchg : Fld.chg ∈ fs) (hprofIO : Fld.profIO ∈ fs)
    (hbms : Fld.bms ∈ fs) (hest : Fld.est ∈ fs) (hthm : Fld.thm ∈ fs) (hthr : Fld.thr ∈ fs)
    (hsense : Fld.sense ∈ fs) (hawn : Fld.awn ∈ fs) (henergy : Fld.energy ∈ fs) :
    (State.runWaves s).but fs = s.but fs := by
  unfold State.runWaves
  repeat' (first | done | intro _ | split | rw [forEach_but] | rw [foldl_but] | simp +zetaDelta [*, but_ite] | extract_lets | (simp only [State.but, *, if_true]; done))

@[simp] theorem writeGen_but {fs : List Fld} (s : State) (v : Word) (hrw : Fld.rw ∈ fs) :
    (State.writeGen s v).but fs = s.but fs := by
  unfold State.writeGen
  simp [*]

@[simp] theorem writeFc_but {fs : List Fld} (s : State) (k : Fin 8) (v : Word) (hrw : Fld.rw ∈ fs)
    (hthr : Fld.thr ∈ fs) :
    (State.writeFc s k v).but fs = s.but fs := by
  unfold State.writeFc
  simp [*]

@[simp] theorem armFirst_but {fs : List Fld} (s : State) (hret : Fld.ret ∈ fs) :
    (State.armFirst s).but fs = s.but fs := by
  unfold State.armFirst
  simp [*]

@[simp] theorem zeroLost_but {fs : List Fld} (s : State) (hret : Fld.ret ∈ fs) :
    (State.zeroLost s).but fs = s.but fs := by
  unfold State.zeroLost
  simp [*]

@[simp] theorem writeLogCtl_but {fs : List Fld} (s : State) (v : Word) (hdeferred : Fld.deferred ∈ fs)
    (hflt : Fld.flt ∈ fs) (hsafeLine : Fld.safeLine ∈ fs) (hhalt : Fld.halt ∈ fs) (hx3 : Fld.x3 ∈ fs)
    (hxing : Fld.xing ∈ fs) (hlog : Fld.log ∈ fs) (hret : Fld.ret ∈ fs) (hdom : Fld.dom ∈ fs)
    (himg : Fld.img ∈ fs) (hnvs : Fld.nvs ∈ fs) (hfab : Fld.fab ∈ fs) (hgroups : Fld.groups ∈ fs)
    (hcells : Fld.cells ∈ fs) (hculm : Fld.culm ∈ fs) (hbranches : Fld.branches ∈ fs) (hsrc : Fld.src ∈ fs)
    (hctx : Fld.ctx ∈ fs) (hbat : Fld.bat ∈ fs) (hfdr : Fld.fdr ∈ fs) (hchg : Fld.chg ∈ fs) (hest : Fld.est ∈ fs)
    (hthr : Fld.thr ∈ fs) (hawn : Fld.awn ∈ fs) :
    (State.writeLogCtl s v).but fs = s.but fs := by
  unfold State.writeLogCtl
  (repeat' split) <;> simp [*]

@[simp] theorem clearAerr_but {fs : List Fld} (s : State) (hsys : Fld.sys ∈ fs) :
    (State.clearAerr s).but fs = s.but fs := by
  unfold State.clearAerr
  simp [*]

@[simp] theorem writeD0_but {fs : List Fld} (s : State) (r : Req) (b : Nat) (off : Nat) (v : Word)
    (hpending : Fld.pending ∈ fs) (hnow : Fld.now ∈ fs) (hfreeN : Fld.freeN ∈ fs) (hdeferred : Fld.deferred ∈ fs)
    (hflt : Fld.flt ∈ fs) (hsafeLine : Fld.safeLine ∈ fs) (hhalt : Fld.halt ∈ fs) (hx3 : Fld.x3 ∈ fs)
    (hxing : Fld.xing ∈ fs) (hxslots : Fld.xslots ∈ fs) (hrw : Fld.rw ∈ fs) (hnv : Fld.nv ∈ fs)
    (hprof : Fld.prof ∈ fs) (hlog : Fld.log ∈ fs) (hwdg : Fld.wdg ∈ fs) (hhost : Fld.host ∈ fs)
    (hret : Fld.ret ∈ fs) (hslots : Fld.slots ∈ fs) (hdom : Fld.dom ∈ fs) (himg : Fld.img ∈ fs)
    (hnvs : Fld.nvs ∈ fs) (hsys : Fld.sys ∈ fs) (hfuse : Fld.fuse ∈ fs) (hfab : Fld.fab ∈ fs)
    (hgroups : Fld.groups ∈ fs) (hcells : Fld.cells ∈ fs) (hculm : Fld.culm ∈ fs) (hgov : Fld.gov ∈ fs)
    (hbranches : Fld.branches ∈ fs) (hloads : Fld.loads ∈ fs) (hsrc : Fld.src ∈ fs) (hhov : Fld.hov ∈ fs)
    (hflow : Fld.flow ∈ fs) (hctx : Fld.ctx ∈ fs) (hbat : Fld.bat ∈ fs) (hfdr : Fld.fdr ∈ fs)
    (hchg : Fld.chg ∈ fs) (hprofIO : Fld.profIO ∈ fs) (hbms : Fld.bms ∈ fs) (hest : Fld.est ∈ fs)
    (hthm : Fld.thm ∈ fs) (hthr : Fld.thr ∈ fs) (hsense : Fld.sense ∈ fs) (hawn : Fld.awn ∈ fs)
    (hring : Fld.ring ∈ fs) (hcan : Fld.can ∈ fs) (henergy : Fld.energy ∈ fs) :
    (State.writeD0 s r b off v).but fs = s.but fs := by
  unfold State.writeD0
  (repeat' split) <;> simp [*]

@[simp] theorem writeImg_but {fs : List Fld} (s : State) (off : Nat) (v : Word) (hdeferred : Fld.deferred ∈ fs)
    (hflt : Fld.flt ∈ fs) (hsafeLine : Fld.safeLine ∈ fs) (hhalt : Fld.halt ∈ fs) (hx3 : Fld.x3 ∈ fs)
    (hxing : Fld.xing ∈ fs) (hrw : Fld.rw ∈ fs) (hlog : Fld.log ∈ fs) (hret : Fld.ret ∈ fs) (hdom : Fld.dom ∈ fs)
    (himg : Fld.img ∈ fs) (hnvs : Fld.nvs ∈ fs) (hfuse : Fld.fuse ∈ fs) (hfab : Fld.fab ∈ fs)
    (hgroups : Fld.groups ∈ fs) (hcells : Fld.cells ∈ fs) (hculm : Fld.culm ∈ fs) (hbranches : Fld.branches ∈ fs)
    (hsrc : Fld.src ∈ fs) (hctx : Fld.ctx ∈ fs) (hbat : Fld.bat ∈ fs) (hfdr : Fld.fdr ∈ fs) (hchg : Fld.chg ∈ fs)
    (hest : Fld.est ∈ fs) (hthr : Fld.thr ∈ fs) (hawn : Fld.awn ∈ fs) :
    (State.writeImg s off v).but fs = s.but fs := by
  unfold State.writeImg
  (repeat' split) <;> simp [*]

@[simp] theorem writeThr_but {fs : List Fld} (s : State) (off : Nat) (v : Word) (hdeferred : Fld.deferred ∈ fs)
    (hflt : Fld.flt ∈ fs) (hsafeLine : Fld.safeLine ∈ fs) (hhalt : Fld.halt ∈ fs) (hx3 : Fld.x3 ∈ fs)
    (hxing : Fld.xing ∈ fs) (hrw : Fld.rw ∈ fs) (hlog : Fld.log ∈ fs) (hret : Fld.ret ∈ fs) (hdom : Fld.dom ∈ fs)
    (himg : Fld.img ∈ fs) (hfab : Fld.fab ∈ fs) (hgroups : Fld.groups ∈ fs) (hcells : Fld.cells ∈ fs)
    (hculm : Fld.culm ∈ fs) (hbranches : Fld.branches ∈ fs) (hsrc : Fld.src ∈ fs) (hctx : Fld.ctx ∈ fs)
    (hbat : Fld.bat ∈ fs) (hfdr : Fld.fdr ∈ fs) (hchg : Fld.chg ∈ fs) (hest : Fld.est ∈ fs) (hthr : Fld.thr ∈ fs)
    (hawn : Fld.awn ∈ fs) :
    (State.writeThr s off v).but fs = s.but fs := by
  unfold State.writeThr
  (repeat' split) <;> simp [*]

@[simp] theorem writeRing_but {fs : List Fld} (s : State) (authed : Bool) (off : Nat) (v : Word)
    (hrw : Fld.rw ∈ fs) (hfuse : Fld.fuse ∈ fs) (hring : Fld.ring ∈ fs) :
    (State.writeRing s authed off v).but fs = s.but fs := by
  unfold State.writeRing
  (repeat' split) <;> simp [*]

@[simp] theorem writeProf_but {fs : List Fld} (s : State) (off : Nat) (v : Word) (hdeferred : Fld.deferred ∈ fs)
    (hprofIO : Fld.profIO ∈ fs) :
    (State.writeProf s off v).but fs = s.but fs := by
  unfold State.writeProf
  (repeat' split) <;> simp [*]

@[simp] theorem writeBlock_but {fs : List Fld} (s : State) (r : Req) (authed : Bool) (b : Nat) (off : Nat)
    (v : Word) (hpending : Fld.pending ∈ fs) (hnow : Fld.now ∈ fs) (hfreeN : Fld.freeN ∈ fs)
    (hdeferred : Fld.deferred ∈ fs) (hflt : Fld.flt ∈ fs) (hsafeLine : Fld.safeLine ∈ fs) (hhalt : Fld.halt ∈ fs)
    (hx3 : Fld.x3 ∈ fs) (hxing : Fld.xing ∈ fs) (hxslots : Fld.xslots ∈ fs) (hrw : Fld.rw ∈ fs)
    (hnv : Fld.nv ∈ fs) (hprof : Fld.prof ∈ fs) (hlog : Fld.log ∈ fs) (hwdg : Fld.wdg ∈ fs)
    (hhost : Fld.host ∈ fs) (hret : Fld.ret ∈ fs) (hslots : Fld.slots ∈ fs) (hdom : Fld.dom ∈ fs)
    (himg : Fld.img ∈ fs) (hnvs : Fld.nvs ∈ fs) (hsys : Fld.sys ∈ fs) (hfuse : Fld.fuse ∈ fs)
    (hfab : Fld.fab ∈ fs) (hgroups : Fld.groups ∈ fs) (hcells : Fld.cells ∈ fs) (hculm : Fld.culm ∈ fs)
    (hgov : Fld.gov ∈ fs) (hbranches : Fld.branches ∈ fs) (hloads : Fld.loads ∈ fs) (hsrc : Fld.src ∈ fs)
    (hhov : Fld.hov ∈ fs) (hflow : Fld.flow ∈ fs) (hctx : Fld.ctx ∈ fs) (hbat : Fld.bat ∈ fs)
    (hfdr : Fld.fdr ∈ fs) (hchg : Fld.chg ∈ fs) (hprofIO : Fld.profIO ∈ fs) (hbms : Fld.bms ∈ fs)
    (hest : Fld.est ∈ fs) (hthm : Fld.thm ∈ fs) (hthr : Fld.thr ∈ fs) (hsense : Fld.sense ∈ fs)
    (hawn : Fld.awn ∈ fs) (hring : Fld.ring ∈ fs) (hcan : Fld.can ∈ fs) (henergy : Fld.energy ∈ fs) :
    (State.writeBlock s r authed b off v).but fs = s.but fs := by
  unfold State.writeBlock
  (repeat' split) <;> simp [*]

@[simp] theorem writeWord_but {fs : List Fld} (s : State) (r : Req) (authed : Bool) (a : Nat) (v : Word)
    (hpending : Fld.pending ∈ fs) (hnow : Fld.now ∈ fs) (hfreeN : Fld.freeN ∈ fs) (hdeferred : Fld.deferred ∈ fs)
    (hflt : Fld.flt ∈ fs) (hsafeLine : Fld.safeLine ∈ fs) (hhalt : Fld.halt ∈ fs) (hx3 : Fld.x3 ∈ fs)
    (hxing : Fld.xing ∈ fs) (hxslots : Fld.xslots ∈ fs) (hrw : Fld.rw ∈ fs) (hnv : Fld.nv ∈ fs)
    (hprof : Fld.prof ∈ fs) (hlog : Fld.log ∈ fs) (hwdg : Fld.wdg ∈ fs) (hhost : Fld.host ∈ fs)
    (hret : Fld.ret ∈ fs) (hslots : Fld.slots ∈ fs) (hdom : Fld.dom ∈ fs) (himg : Fld.img ∈ fs)
    (hnvs : Fld.nvs ∈ fs) (hsys : Fld.sys ∈ fs) (hfuse : Fld.fuse ∈ fs) (hfab : Fld.fab ∈ fs)
    (hgroups : Fld.groups ∈ fs) (hcells : Fld.cells ∈ fs) (hculm : Fld.culm ∈ fs) (hgov : Fld.gov ∈ fs)
    (hbranches : Fld.branches ∈ fs) (hloads : Fld.loads ∈ fs) (hsrc : Fld.src ∈ fs) (hhov : Fld.hov ∈ fs)
    (hflow : Fld.flow ∈ fs) (hctx : Fld.ctx ∈ fs) (hbat : Fld.bat ∈ fs) (hfdr : Fld.fdr ∈ fs)
    (hchg : Fld.chg ∈ fs) (hprofIO : Fld.profIO ∈ fs) (hbms : Fld.bms ∈ fs) (hest : Fld.est ∈ fs)
    (hthm : Fld.thm ∈ fs) (hthr : Fld.thr ∈ fs) (hsense : Fld.sense ∈ fs) (hawn : Fld.awn ∈ fs)
    (hring : Fld.ring ∈ fs) (hcan : Fld.can ∈ fs) (henergy : Fld.energy ∈ fs) :
    (State.writeWord s r authed a v).but fs = s.but fs := by
  unfold State.writeWord
  split <;> simp [*]

@[simp] theorem accept_but {fs : List Fld} (s : State) (f : Frame) (hdeferred : Fld.deferred ∈ fs)
    (hflt : Fld.flt ∈ fs) (hsafeLine : Fld.safeLine ∈ fs) (hhalt : Fld.halt ∈ fs) (hx3 : Fld.x3 ∈ fs)
    (hxing : Fld.xing ∈ fs) (hlog : Fld.log ∈ fs) (hhost : Fld.host ∈ fs) (hret : Fld.ret ∈ fs)
    (hdom : Fld.dom ∈ fs) (himg : Fld.img ∈ fs) (hfab : Fld.fab ∈ fs) (hgroups : Fld.groups ∈ fs)
    (hcells : Fld.cells ∈ fs) (hculm : Fld.culm ∈ fs) (hbranches : Fld.branches ∈ fs) (hsrc : Fld.src ∈ fs)
    (hctx : Fld.ctx ∈ fs) (hbat : Fld.bat ∈ fs) (hfdr : Fld.fdr ∈ fs) (hchg : Fld.chg ∈ fs) (hest : Fld.est ∈ fs)
    (hthr : Fld.thr ∈ fs) (hawn : Fld.awn ∈ fs) (hring : Fld.ring ∈ fs) :
    (State.accept s f).but fs = s.but fs := by
  unfold State.accept
  simp [*]

@[simp] theorem refuse_but {fs : List Fld} (s : State) (f : Frame) (status : Nat) (hdeferred : Fld.deferred ∈ fs)
    (hflt : Fld.flt ∈ fs) (hsafeLine : Fld.safeLine ∈ fs) (hhalt : Fld.halt ∈ fs) (hx3 : Fld.x3 ∈ fs)
    (hxing : Fld.xing ∈ fs) (hlog : Fld.log ∈ fs) (hhost : Fld.host ∈ fs) (hret : Fld.ret ∈ fs)
    (hdom : Fld.dom ∈ fs) (himg : Fld.img ∈ fs) (hfab : Fld.fab ∈ fs) (hgroups : Fld.groups ∈ fs)
    (hcells : Fld.cells ∈ fs) (hculm : Fld.culm ∈ fs) (hbranches : Fld.branches ∈ fs) (hsrc : Fld.src ∈ fs)
    (hctx : Fld.ctx ∈ fs) (hbat : Fld.bat ∈ fs) (hfdr : Fld.fdr ∈ fs) (hchg : Fld.chg ∈ fs) (hest : Fld.est ∈ fs)
    (hthr : Fld.thr ∈ fs) (hawn : Fld.awn ∈ fs) (hring : Fld.ring ∈ fs) :
    (State.refuse s f status).but fs = s.but fs := by
  unfold State.refuse
  simp [*]

@[simp] theorem writeWords_but {fs : List Fld} (s : State) (authed : Bool) (a : Nat) (l : List Word)
    (hpending : Fld.pending ∈ fs) (hnow : Fld.now ∈ fs) (hfreeN : Fld.freeN ∈ fs) (hdeferred : Fld.deferred ∈ fs)
    (hflt : Fld.flt ∈ fs) (hsafeLine : Fld.safeLine ∈ fs) (hhalt : Fld.halt ∈ fs) (hx3 : Fld.x3 ∈ fs)
    (hxing : Fld.xing ∈ fs) (hxslots : Fld.xslots ∈ fs) (hrw : Fld.rw ∈ fs) (hnv : Fld.nv ∈ fs)
    (hprof : Fld.prof ∈ fs) (hlog : Fld.log ∈ fs) (hwdg : Fld.wdg ∈ fs) (hhost : Fld.host ∈ fs)
    (hret : Fld.ret ∈ fs) (hslots : Fld.slots ∈ fs) (hdom : Fld.dom ∈ fs) (himg : Fld.img ∈ fs)
    (hnvs : Fld.nvs ∈ fs) (hsys : Fld.sys ∈ fs) (hfuse : Fld.fuse ∈ fs) (hfab : Fld.fab ∈ fs)
    (hgroups : Fld.groups ∈ fs) (hcells : Fld.cells ∈ fs) (hculm : Fld.culm ∈ fs) (hgov : Fld.gov ∈ fs)
    (hbranches : Fld.branches ∈ fs) (hloads : Fld.loads ∈ fs) (hsrc : Fld.src ∈ fs) (hhov : Fld.hov ∈ fs)
    (hflow : Fld.flow ∈ fs) (hctx : Fld.ctx ∈ fs) (hbat : Fld.bat ∈ fs) (hfdr : Fld.fdr ∈ fs)
    (hchg : Fld.chg ∈ fs) (hprofIO : Fld.profIO ∈ fs) (hbms : Fld.bms ∈ fs) (hest : Fld.est ∈ fs)
    (hthm : Fld.thm ∈ fs) (hthr : Fld.thr ∈ fs) (hsense : Fld.sense ∈ fs) (hawn : Fld.awn ∈ fs)
    (hring : Fld.ring ∈ fs) (hcan : Fld.can ∈ fs) (henergy : Fld.energy ∈ fs) :
    (State.writeWords s authed a l).but fs = s.but fs := by
  induction l generalizing s a with
  | nil => rfl
  | cons v l ih =>
    unfold State.writeWords
    rw [ih]
    simp [*]

@[simp] theorem retrainAwn_but {fs : List Fld} (s : State) (hawn : Fld.awn ∈ fs) :
    (State.retrainAwn s).but fs = s.but fs := by
  unfold State.retrainAwn
  split <;> simp [*]

@[simp] theorem retrainRing_but {fs : List Fld} (s : State) (hring : Fld.ring ∈ fs) :
    (State.retrainRing s).but fs = s.but fs := by
  unfold State.retrainRing
  split <;> simp [*]

@[simp] theorem retrain_but {fs : List Fld} (s : State) (hawn : Fld.awn ∈ fs) (hring : Fld.ring ∈ fs) :
    (State.retrain s).but fs = s.but fs := by
  unfold State.retrain
  simp [*]

@[simp] theorem nextIteration_but {fs : List Fld} (s : State) (hfreeN : Fld.freeN ∈ fs)
    (hdeferred : Fld.deferred ∈ fs) (hflt : Fld.flt ∈ fs) (hsafeLine : Fld.safeLine ∈ fs) (hhalt : Fld.halt ∈ fs)
    (hx3 : Fld.x3 ∈ fs) (hxing : Fld.xing ∈ fs) (hxslots : Fld.xslots ∈ fs) (hrw : Fld.rw ∈ fs)
    (hnv : Fld.nv ∈ fs) (hprof : Fld.prof ∈ fs) (hlog : Fld.log ∈ fs) (hret : Fld.ret ∈ fs) (hdom : Fld.dom ∈ fs)
    (himg : Fld.img ∈ fs) (hnvs : Fld.nvs ∈ fs) (hfab : Fld.fab ∈ fs) (hgroups : Fld.groups ∈ fs)
    (hcells : Fld.cells ∈ fs) (hculm : Fld.culm ∈ fs) (hbranches : Fld.branches ∈ fs) (hsrc : Fld.src ∈ fs)
    (hflow : Fld.flow ∈ fs) (hctx : Fld.ctx ∈ fs) (hbat : Fld.bat ∈ fs) (hfdr : Fld.fdr ∈ fs)
    (hchg : Fld.chg ∈ fs) (hprofIO : Fld.profIO ∈ fs) (hbms : Fld.bms ∈ fs) (hest : Fld.est ∈ fs)
    (hthm : Fld.thm ∈ fs) (hthr : Fld.thr ∈ fs) (hsense : Fld.sense ∈ fs) (hawn : Fld.awn ∈ fs) :
    (State.nextIteration s).but fs = s.but fs := by
  unfold State.nextIteration
  simp [*]

@[simp] theorem mirrors_but {fs : List Fld} (s : State) (hring : Fld.ring ∈ fs) :
    (State.mirrors s).but fs = s.but fs := by
  unfold State.mirrors
  repeat' (first | done | intro _ | split | rw [forEach_but] | rw [foldl_but] | simp +zetaDelta [*, but_ite] | extract_lets | (simp only [State.but, *, if_true]; done))

@[simp] theorem elapse_but {fs : List Fld} (s : State) (hnow : Fld.now ∈ fs) :
    (State.elapse s).but fs = s.but fs := by
  unfold State.elapse
  simp [*]

@[simp] theorem tick_but {fs : List Fld} (s : State) (hnow : Fld.now ∈ fs) (hfreeN : Fld.freeN ∈ fs)
    (hdeferred : Fld.deferred ∈ fs) (hflt : Fld.flt ∈ fs) (hsafeLine : Fld.safeLine ∈ fs) (hhalt : Fld.halt ∈ fs)
    (hx3 : Fld.x3 ∈ fs) (hxing : Fld.xing ∈ fs) (hxslots : Fld.xslots ∈ fs) (hrw : Fld.rw ∈ fs)
    (hnv : Fld.nv ∈ fs) (hprof : Fld.prof ∈ fs) (hlog : Fld.log ∈ fs) (hret : Fld.ret ∈ fs) (hdom : Fld.dom ∈ fs)
    (himg : Fld.img ∈ fs) (hnvs : Fld.nvs ∈ fs) (hfab : Fld.fab ∈ fs) (hgroups : Fld.groups ∈ fs)
    (hcells : Fld.cells ∈ fs) (hculm : Fld.culm ∈ fs) (hbranches : Fld.branches ∈ fs) (hsrc : Fld.src ∈ fs)
    (hflow : Fld.flow ∈ fs) (hctx : Fld.ctx ∈ fs) (hbat : Fld.bat ∈ fs) (hfdr : Fld.fdr ∈ fs)
    (hchg : Fld.chg ∈ fs) (hprofIO : Fld.profIO ∈ fs) (hbms : Fld.bms ∈ fs) (hest : Fld.est ∈ fs)
    (hthm : Fld.thm ∈ fs) (hthr : Fld.thr ∈ fs) (hsense : Fld.sense ∈ fs) (hawn : Fld.awn ∈ fs)
    (hring : Fld.ring ∈ fs) :
    (State.tick s).but fs = s.but fs := by
  unfold State.tick
  simp [*]

end Sys2Proof.Machine
end

