-- ==== Sys2Proof/Laws/State.lean ====
section
/-!
SUPPORT. What each update of the state leaves of each field, and what the elements of an updated array are.
-/

namespace Sys2Proof.Machine

/-! ### Arrays -/

@[simp] theorem vset_same {α : Type} {n : Nat} (v : Vector α n) (i : Fin n) (x : α) : (vset v i x)[i.val] = x := by
  simp [vset]

theorem vset_other {α : Type} {n : Nat} (v : Vector α n) (i j : Fin n) (x : α) (h : i ≠ j) :
    (vset v i x)[j.val] = v[j.val] := by
  have h' : i.val ≠ j.val := fun e => h (Fin.ext e)
  simp [vset, h']

/-- The element of an updated array at any place. -/
theorem vset_get {α : Type} {n : Nat} (v : Vector α n) (i j : Fin n) (x : α) : (vset v i x)[j.val] = if i = j then x else v[j.val] := by
  by_cases h : i = j
  · subst h
    simp
  · rw [if_neg h, vset_other _ _ _ _ h]

/-! ### Updates, field by field -/

@[simp] theorem setCell_pending (s : State) (c : Cell) (x : CellRec) : (s.setCell c x).pending = s.pending := rfl
@[simp] theorem setCell_now (s : State) (c : Cell) (x : CellRec) : (s.setCell c x).now = s.now := rfl
@[simp] theorem setCell_freeN (s : State) (c : Cell) (x : CellRec) : (s.setCell c x).freeN = s.freeN := rfl
@[simp] theorem setCell_deferred (s : State) (c : Cell) (x : CellRec) : (s.setCell c x).deferred = s.deferred := rfl
@[simp] theorem setCell_flt (s : State) (c : Cell) (x : CellRec) : (s.setCell c x).flt = s.flt := rfl
@[simp] theorem setCell_safeLine (s : State) (c : Cell) (x : CellRec) : (s.setCell c x).safeLine = s.safeLine := rfl
@[simp] theorem setCell_halt (s : State) (c : Cell) (x : CellRec) : (s.setCell c x).halt = s.halt := rfl
@[simp] theorem setCell_x3 (s : State) (c : Cell) (x : CellRec) : (s.setCell c x).x3 = s.x3 := rfl
@[simp] theorem setCell_xing (s : State) (c : Cell) (x : CellRec) : (s.setCell c x).xing = s.xing := rfl
@[simp] theorem setCell_xslots (s : State) (c : Cell) (x : CellRec) : (s.setCell c x).xslots = s.xslots := rfl
@[simp] theorem setCell_rw (s : State) (c : Cell) (x : CellRec) : (s.setCell c x).rw = s.rw := rfl
@[simp] theorem setCell_nv (s : State) (c : Cell) (x : CellRec) : (s.setCell c x).nv = s.nv := rfl
@[simp] theorem setCell_prof (s : State) (c : Cell) (x : CellRec) : (s.setCell c x).prof = s.prof := rfl
@[simp] theorem setCell_log (s : State) (c : Cell) (x : CellRec) : (s.setCell c x).log = s.log := rfl
@[simp] theorem setCell_wdg (s : State) (c : Cell) (x : CellRec) : (s.setCell c x).wdg = s.wdg := rfl
@[simp] theorem setCell_host (s : State) (c : Cell) (x : CellRec) : (s.setCell c x).host = s.host := rfl
@[simp] theorem setCell_ret (s : State) (c : Cell) (x : CellRec) : (s.setCell c x).ret = s.ret := rfl
@[simp] theorem setCell_slots (s : State) (c : Cell) (x : CellRec) : (s.setCell c x).slots = s.slots := rfl
@[simp] theorem setCell_dom (s : State) (c : Cell) (x : CellRec) : (s.setCell c x).dom = s.dom := rfl
@[simp] theorem setCell_img (s : State) (c : Cell) (x : CellRec) : (s.setCell c x).img = s.img := rfl
@[simp] theorem setCell_nvs (s : State) (c : Cell) (x : CellRec) : (s.setCell c x).nvs = s.nvs := rfl
@[simp] theorem setCell_sys (s : State) (c : Cell) (x : CellRec) : (s.setCell c x).sys = s.sys := rfl
@[simp] theorem setCell_fuse (s : State) (c : Cell) (x : CellRec) : (s.setCell c x).fuse = s.fuse := rfl
@[simp] theorem setCell_fab (s : State) (c : Cell) (x : CellRec) : (s.setCell c x).fab = s.fab := rfl
@[simp] theorem setCell_groups (s : State) (c : Cell) (x : CellRec) : (s.setCell c x).groups = s.groups := rfl
@[simp] theorem setCell_culm (s : State) (c : Cell) (x : CellRec) : (s.setCell c x).culm = s.culm := rfl
@[simp] theorem setCell_gov (s : State) (c : Cell) (x : CellRec) : (s.setCell c x).gov = s.gov := rfl
@[simp] theorem setCell_branches (s : State) (c : Cell) (x : CellRec) : (s.setCell c x).branches = s.branches := rfl
@[simp] theorem setCell_loads (s : State) (c : Cell) (x : CellRec) : (s.setCell c x).loads = s.loads := rfl
@[simp] theorem setCell_src (s : State) (c : Cell) (x : CellRec) : (s.setCell c x).src = s.src := rfl
@[simp] theorem setCell_hov (s : State) (c : Cell) (x : CellRec) : (s.setCell c x).hov = s.hov := rfl
@[simp] theorem setCell_flow (s : State) (c : Cell) (x : CellRec) : (s.setCell c x).flow = s.flow := rfl
@[simp] theorem setCell_ctx (s : State) (c : Cell) (x : CellRec) : (s.setCell c x).ctx = s.ctx := rfl
@[simp] theorem setCell_bat (s : State) (c : Cell) (x : CellRec) : (s.setCell c x).bat = s.bat := rfl
@[simp] theorem setCell_fdr (s : State) (c : Cell) (x : CellRec) : (s.setCell c x).fdr = s.fdr := rfl
@[simp] theorem setCell_chg (s : State) (c : Cell) (x : CellRec) : (s.setCell c x).chg = s.chg := rfl
@[simp] theorem setCell_profIO (s : State) (c : Cell) (x : CellRec) : (s.setCell c x).profIO = s.profIO := rfl
@[simp] theorem setCell_bms (s : State) (c : Cell) (x : CellRec) : (s.setCell c x).bms = s.bms := rfl
@[simp] theorem setCell_est (s : State) (c : Cell) (x : CellRec) : (s.setCell c x).est = s.est := rfl
@[simp] theorem setCell_thm (s : State) (c : Cell) (x : CellRec) : (s.setCell c x).thm = s.thm := rfl
@[simp] theorem setCell_thr (s : State) (c : Cell) (x : CellRec) : (s.setCell c x).thr = s.thr := rfl
@[simp] theorem setCell_sense (s : State) (c : Cell) (x : CellRec) : (s.setCell c x).sense = s.sense := rfl
@[simp] theorem setCell_awn (s : State) (c : Cell) (x : CellRec) : (s.setCell c x).awn = s.awn := rfl
@[simp] theorem setCell_ring (s : State) (c : Cell) (x : CellRec) : (s.setCell c x).ring = s.ring := rfl
@[simp] theorem setCell_can (s : State) (c : Cell) (x : CellRec) : (s.setCell c x).can = s.can := rfl
@[simp] theorem setCell_energy (s : State) (c : Cell) (x : CellRec) : (s.setCell c x).energy = s.energy := rfl
@[simp] theorem setCell_cells (s : State) (c : Cell) (x : CellRec) : (s.setCell c x).cells = vset s.cells c x := rfl
@[simp] theorem setGroup_pending (s : State) (g : Group) (x : GroupRec) : (s.setGroup g x).pending = s.pending := rfl
@[simp] theorem setGroup_now (s : State) (g : Group) (x : GroupRec) : (s.setGroup g x).now = s.now := rfl
@[simp] theorem setGroup_freeN (s : State) (g : Group) (x : GroupRec) : (s.setGroup g x).freeN = s.freeN := rfl
@[simp] theorem setGroup_deferred (s : State) (g : Group) (x : GroupRec) : (s.setGroup g x).deferred = s.deferred := rfl
@[simp] theorem setGroup_flt (s : State) (g : Group) (x : GroupRec) : (s.setGroup g x).flt = s.flt := rfl
@[simp] theorem setGroup_safeLine (s : State) (g : Group) (x : GroupRec) : (s.setGroup g x).safeLine = s.safeLine := rfl
@[simp] theorem setGroup_halt (s : State) (g : Group) (x : GroupRec) : (s.setGroup g x).halt = s.halt := rfl
@[simp] theorem setGroup_x3 (s : State) (g : Group) (x : GroupRec) : (s.setGroup g x).x3 = s.x3 := rfl
@[simp] theorem setGroup_xing (s : State) (g : Group) (x : GroupRec) : (s.setGroup g x).xing = s.xing := rfl
@[simp] theorem setGroup_xslots (s : State) (g : Group) (x : GroupRec) : (s.setGroup g x).xslots = s.xslots := rfl
@[simp] theorem setGroup_rw (s : State) (g : Group) (x : GroupRec) : (s.setGroup g x).rw = s.rw := rfl
@[simp] theorem setGroup_nv (s : State) (g : Group) (x : GroupRec) : (s.setGroup g x).nv = s.nv := rfl
@[simp] theorem setGroup_prof (s : State) (g : Group) (x : GroupRec) : (s.setGroup g x).prof = s.prof := rfl
@[simp] theorem setGroup_log (s : State) (g : Group) (x : GroupRec) : (s.setGroup g x).log = s.log := rfl
@[simp] theorem setGroup_wdg (s : State) (g : Group) (x : GroupRec) : (s.setGroup g x).wdg = s.wdg := rfl
@[simp] theorem setGroup_host (s : State) (g : Group) (x : GroupRec) : (s.setGroup g x).host = s.host := rfl
@[simp] theorem setGroup_ret (s : State) (g : Group) (x : GroupRec) : (s.setGroup g x).ret = s.ret := rfl
@[simp] theorem setGroup_slots (s : State) (g : Group) (x : GroupRec) : (s.setGroup g x).slots = s.slots := rfl
@[simp] theorem setGroup_dom (s : State) (g : Group) (x : GroupRec) : (s.setGroup g x).dom = s.dom := rfl
@[simp] theorem setGroup_img (s : State) (g : Group) (x : GroupRec) : (s.setGroup g x).img = s.img := rfl
@[simp] theorem setGroup_nvs (s : State) (g : Group) (x : GroupRec) : (s.setGroup g x).nvs = s.nvs := rfl
@[simp] theorem setGroup_sys (s : State) (g : Group) (x : GroupRec) : (s.setGroup g x).sys = s.sys := rfl
@[simp] theorem setGroup_fuse (s : State) (g : Group) (x : GroupRec) : (s.setGroup g x).fuse = s.fuse := rfl
@[simp] theorem setGroup_fab (s : State) (g : Group) (x : GroupRec) : (s.setGroup g x).fab = s.fab := rfl
@[simp] theorem setGroup_cells (s : State) (g : Group) (x : GroupRec) : (s.setGroup g x).cells = s.cells := rfl
@[simp] theorem setGroup_culm (s : State) (g : Group) (x : GroupRec) : (s.setGroup g x).culm = s.culm := rfl
@[simp] theorem setGroup_gov (s : State) (g : Group) (x : GroupRec) : (s.setGroup g x).gov = s.gov := rfl
@[simp] theorem setGroup_branches (s : State) (g : Group) (x : GroupRec) : (s.setGroup g x).branches = s.branches := rfl
@[simp] theorem setGroup_loads (s : State) (g : Group) (x : GroupRec) : (s.setGroup g x).loads = s.loads := rfl
@[simp] theorem setGroup_src (s : State) (g : Group) (x : GroupRec) : (s.setGroup g x).src = s.src := rfl
@[simp] theorem setGroup_hov (s : State) (g : Group) (x : GroupRec) : (s.setGroup g x).hov = s.hov := rfl
@[simp] theorem setGroup_flow (s : State) (g : Group) (x : GroupRec) : (s.setGroup g x).flow = s.flow := rfl
@[simp] theorem setGroup_ctx (s : State) (g : Group) (x : GroupRec) : (s.setGroup g x).ctx = s.ctx := rfl
@[simp] theorem setGroup_bat (s : State) (g : Group) (x : GroupRec) : (s.setGroup g x).bat = s.bat := rfl
@[simp] theorem setGroup_fdr (s : State) (g : Group) (x : GroupRec) : (s.setGroup g x).fdr = s.fdr := rfl
@[simp] theorem setGroup_chg (s : State) (g : Group) (x : GroupRec) : (s.setGroup g x).chg = s.chg := rfl
@[simp] theorem setGroup_profIO (s : State) (g : Group) (x : GroupRec) : (s.setGroup g x).profIO = s.profIO := rfl
@[simp] theorem setGroup_bms (s : State) (g : Group) (x : GroupRec) : (s.setGroup g x).bms = s.bms := rfl
@[simp] theorem setGroup_est (s : State) (g : Group) (x : GroupRec) : (s.setGroup g x).est = s.est := rfl
@[simp] theorem setGroup_thm (s : State) (g : Group) (x : GroupRec) : (s.setGroup g x).thm = s.thm := rfl
@[simp] theorem setGroup_thr (s : State) (g : Group) (x : GroupRec) : (s.setGroup g x).thr = s.thr := rfl
@[simp] theorem setGroup_sense (s : State) (g : Group) (x : GroupRec) : (s.setGroup g x).sense = s.sense := rfl
@[simp] theorem setGroup_awn (s : State) (g : Group) (x : GroupRec) : (s.setGroup g x).awn = s.awn := rfl
@[simp] theorem setGroup_ring (s : State) (g : Group) (x : GroupRec) : (s.setGroup g x).ring = s.ring := rfl
@[simp] theorem setGroup_can (s : State) (g : Group) (x : GroupRec) : (s.setGroup g x).can = s.can := rfl
@[simp] theorem setGroup_energy (s : State) (g : Group) (x : GroupRec) : (s.setGroup g x).energy = s.energy := rfl
@[simp] theorem setGroup_groups (s : State) (g : Group) (x : GroupRec) : (s.setGroup g x).groups = vset s.groups g x := rfl
@[simp] theorem setGov_pending (s : State) (p : Port) (x : GovRec) : (s.setGov p x).pending = s.pending := rfl
@[simp] theorem setGov_now (s : State) (p : Port) (x : GovRec) : (s.setGov p x).now = s.now := rfl
@[simp] theorem setGov_freeN (s : State) (p : Port) (x : GovRec) : (s.setGov p x).freeN = s.freeN := rfl
@[simp] theorem setGov_deferred (s : State) (p : Port) (x : GovRec) : (s.setGov p x).deferred = s.deferred := rfl
@[simp] theorem setGov_flt (s : State) (p : Port) (x : GovRec) : (s.setGov p x).flt = s.flt := rfl
@[simp] theorem setGov_safeLine (s : State) (p : Port) (x : GovRec) : (s.setGov p x).safeLine = s.safeLine := rfl
@[simp] theorem setGov_halt (s : State) (p : Port) (x : GovRec) : (s.setGov p x).halt = s.halt := rfl
@[simp] theorem setGov_x3 (s : State) (p : Port) (x : GovRec) : (s.setGov p x).x3 = s.x3 := rfl
@[simp] theorem setGov_xing (s : State) (p : Port) (x : GovRec) : (s.setGov p x).xing = s.xing := rfl
@[simp] theorem setGov_xslots (s : State) (p : Port) (x : GovRec) : (s.setGov p x).xslots = s.xslots := rfl
@[simp] theorem setGov_rw (s : State) (p : Port) (x : GovRec) : (s.setGov p x).rw = s.rw := rfl
@[simp] theorem setGov_nv (s : State) (p : Port) (x : GovRec) : (s.setGov p x).nv = s.nv := rfl
@[simp] theorem setGov_prof (s : State) (p : Port) (x : GovRec) : (s.setGov p x).prof = s.prof := rfl
@[simp] theorem setGov_log (s : State) (p : Port) (x : GovRec) : (s.setGov p x).log = s.log := rfl
@[simp] theorem setGov_wdg (s : State) (p : Port) (x : GovRec) : (s.setGov p x).wdg = s.wdg := rfl
@[simp] theorem setGov_host (s : State) (p : Port) (x : GovRec) : (s.setGov p x).host = s.host := rfl
@[simp] theorem setGov_ret (s : State) (p : Port) (x : GovRec) : (s.setGov p x).ret = s.ret := rfl
@[simp] theorem setGov_slots (s : State) (p : Port) (x : GovRec) : (s.setGov p x).slots = s.slots := rfl
@[simp] theorem setGov_dom (s : State) (p : Port) (x : GovRec) : (s.setGov p x).dom = s.dom := rfl
@[simp] theorem setGov_img (s : State) (p : Port) (x : GovRec) : (s.setGov p x).img = s.img := rfl
@[simp] theorem setGov_nvs (s : State) (p : Port) (x : GovRec) : (s.setGov p x).nvs = s.nvs := rfl
@[simp] theorem setGov_sys (s : State) (p : Port) (x : GovRec) : (s.setGov p x).sys = s.sys := rfl
@[simp] theorem setGov_fuse (s : State) (p : Port) (x : GovRec) : (s.setGov p x).fuse = s.fuse := rfl
@[simp] theorem setGov_fab (s : State) (p : Port) (x : GovRec) : (s.setGov p x).fab = s.fab := rfl
@[simp] theorem setGov_groups (s : State) (p : Port) (x : GovRec) : (s.setGov p x).groups = s.groups := rfl
@[simp] theorem setGov_cells (s : State) (p : Port) (x : GovRec) : (s.setGov p x).cells = s.cells := rfl
@[simp] theorem setGov_culm (s : State) (p : Port) (x : GovRec) : (s.setGov p x).culm = s.culm := rfl
@[simp] theorem setGov_branches (s : State) (p : Port) (x : GovRec) : (s.setGov p x).branches = s.branches := rfl
@[simp] theorem setGov_loads (s : State) (p : Port) (x : GovRec) : (s.setGov p x).loads = s.loads := rfl
@[simp] theorem setGov_src (s : State) (p : Port) (x : GovRec) : (s.setGov p x).src = s.src := rfl
@[simp] theorem setGov_hov (s : State) (p : Port) (x : GovRec) : (s.setGov p x).hov = s.hov := rfl
@[simp] theorem setGov_flow (s : State) (p : Port) (x : GovRec) : (s.setGov p x).flow = s.flow := rfl
@[simp] theorem setGov_ctx (s : State) (p : Port) (x : GovRec) : (s.setGov p x).ctx = s.ctx := rfl
@[simp] theorem setGov_bat (s : State) (p : Port) (x : GovRec) : (s.setGov p x).bat = s.bat := rfl
@[simp] theorem setGov_fdr (s : State) (p : Port) (x : GovRec) : (s.setGov p x).fdr = s.fdr := rfl
@[simp] theorem setGov_chg (s : State) (p : Port) (x : GovRec) : (s.setGov p x).chg = s.chg := rfl
@[simp] theorem setGov_profIO (s : State) (p : Port) (x : GovRec) : (s.setGov p x).profIO = s.profIO := rfl
@[simp] theorem setGov_bms (s : State) (p : Port) (x : GovRec) : (s.setGov p x).bms = s.bms := rfl
@[simp] theorem setGov_est (s : State) (p : Port) (x : GovRec) : (s.setGov p x).est = s.est := rfl
@[simp] theorem setGov_thm (s : State) (p : Port) (x : GovRec) : (s.setGov p x).thm = s.thm := rfl
@[simp] theorem setGov_thr (s : State) (p : Port) (x : GovRec) : (s.setGov p x).thr = s.thr := rfl
@[simp] theorem setGov_sense (s : State) (p : Port) (x : GovRec) : (s.setGov p x).sense = s.sense := rfl
@[simp] theorem setGov_awn (s : State) (p : Port) (x : GovRec) : (s.setGov p x).awn = s.awn := rfl
@[simp] theorem setGov_ring (s : State) (p : Port) (x : GovRec) : (s.setGov p x).ring = s.ring := rfl
@[simp] theorem setGov_can (s : State) (p : Port) (x : GovRec) : (s.setGov p x).can = s.can := rfl
@[simp] theorem setGov_energy (s : State) (p : Port) (x : GovRec) : (s.setGov p x).energy = s.energy := rfl
@[simp] theorem setGov_gov (s : State) (p : Port) (x : GovRec) : (s.setGov p x).gov = vset s.gov p x := rfl
@[simp] theorem setBranch_pending (s : State) (b : Branch) (x : BranchRec) : (s.setBranch b x).pending = s.pending := rfl
@[simp] theorem setBranch_now (s : State) (b : Branch) (x : BranchRec) : (s.setBranch b x).now = s.now := rfl
@[simp] theorem setBranch_freeN (s : State) (b : Branch) (x : BranchRec) : (s.setBranch b x).freeN = s.freeN := rfl
@[simp] theorem setBranch_deferred (s : State) (b : Branch) (x : BranchRec) : (s.setBranch b x).deferred = s.deferred := rfl
@[simp] theorem setBranch_flt (s : State) (b : Branch) (x : BranchRec) : (s.setBranch b x).flt = s.flt := rfl
@[simp] theorem setBranch_safeLine (s : State) (b : Branch) (x : BranchRec) : (s.setBranch b x).safeLine = s.safeLine := rfl
@[simp] theorem setBranch_halt (s : State) (b : Branch) (x : BranchRec) : (s.setBranch b x).halt = s.halt := rfl
@[simp] theorem setBranch_x3 (s : State) (b : Branch) (x : BranchRec) : (s.setBranch b x).x3 = s.x3 := rfl
@[simp] theorem setBranch_xing (s : State) (b : Branch) (x : BranchRec) : (s.setBranch b x).xing = s.xing := rfl
@[simp] theorem setBranch_xslots (s : State) (b : Branch) (x : BranchRec) : (s.setBranch b x).xslots = s.xslots := rfl
@[simp] theorem setBranch_rw (s : State) (b : Branch) (x : BranchRec) : (s.setBranch b x).rw = s.rw := rfl
@[simp] theorem setBranch_nv (s : State) (b : Branch) (x : BranchRec) : (s.setBranch b x).nv = s.nv := rfl
@[simp] theorem setBranch_prof (s : State) (b : Branch) (x : BranchRec) : (s.setBranch b x).prof = s.prof := rfl
@[simp] theorem setBranch_log (s : State) (b : Branch) (x : BranchRec) : (s.setBranch b x).log = s.log := rfl
@[simp] theorem setBranch_wdg (s : State) (b : Branch) (x : BranchRec) : (s.setBranch b x).wdg = s.wdg := rfl
@[simp] theorem setBranch_host (s : State) (b : Branch) (x : BranchRec) : (s.setBranch b x).host = s.host := rfl
@[simp] theorem setBranch_ret (s : State) (b : Branch) (x : BranchRec) : (s.setBranch b x).ret = s.ret := rfl
@[simp] theorem setBranch_slots (s : State) (b : Branch) (x : BranchRec) : (s.setBranch b x).slots = s.slots := rfl
@[simp] theorem setBranch_dom (s : State) (b : Branch) (x : BranchRec) : (s.setBranch b x).dom = s.dom := rfl
@[simp] theorem setBranch_img (s : State) (b : Branch) (x : BranchRec) : (s.setBranch b x).img = s.img := rfl
@[simp] theorem setBranch_nvs (s : State) (b : Branch) (x : BranchRec) : (s.setBranch b x).nvs = s.nvs := rfl
@[simp] theorem setBranch_sys (s : State) (b : Branch) (x : BranchRec) : (s.setBranch b x).sys = s.sys := rfl
@[simp] theorem setBranch_fuse (s : State) (b : Branch) (x : BranchRec) : (s.setBranch b x).fuse = s.fuse := rfl
@[simp] theorem setBranch_fab (s : State) (b : Branch) (x : BranchRec) : (s.setBranch b x).fab = s.fab := rfl
@[simp] theorem setBranch_groups (s : State) (b : Branch) (x : BranchRec) : (s.setBranch b x).groups = s.groups := rfl
@[simp] theorem setBranch_cells (s : State) (b : Branch) (x : BranchRec) : (s.setBranch b x).cells = s.cells := rfl
@[simp] theorem setBranch_culm (s : State) (b : Branch) (x : BranchRec) : (s.setBranch b x).culm = s.culm := rfl
@[simp] theorem setBranch_gov (s : State) (b : Branch) (x : BranchRec) : (s.setBranch b x).gov = s.gov := rfl
@[simp] theorem setBranch_loads (s : State) (b : Branch) (x : BranchRec) : (s.setBranch b x).loads = s.loads := rfl
@[simp] theorem setBranch_src (s : State) (b : Branch) (x : BranchRec) : (s.setBranch b x).src = s.src := rfl
@[simp] theorem setBranch_hov (s : State) (b : Branch) (x : BranchRec) : (s.setBranch b x).hov = s.hov := rfl
@[simp] theorem setBranch_flow (s : State) (b : Branch) (x : BranchRec) : (s.setBranch b x).flow = s.flow := rfl
@[simp] theorem setBranch_ctx (s : State) (b : Branch) (x : BranchRec) : (s.setBranch b x).ctx = s.ctx := rfl
@[simp] theorem setBranch_bat (s : State) (b : Branch) (x : BranchRec) : (s.setBranch b x).bat = s.bat := rfl
@[simp] theorem setBranch_fdr (s : State) (b : Branch) (x : BranchRec) : (s.setBranch b x).fdr = s.fdr := rfl
@[simp] theorem setBranch_chg (s : State) (b : Branch) (x : BranchRec) : (s.setBranch b x).chg = s.chg := rfl
@[simp] theorem setBranch_profIO (s : State) (b : Branch) (x : BranchRec) : (s.setBranch b x).profIO = s.profIO := rfl
@[simp] theorem setBranch_bms (s : State) (b : Branch) (x : BranchRec) : (s.setBranch b x).bms = s.bms := rfl
@[simp] theorem setBranch_est (s : State) (b : Branch) (x : BranchRec) : (s.setBranch b x).est = s.est := rfl
@[simp] theorem setBranch_thm (s : State) (b : Branch) (x : BranchRec) : (s.setBranch b x).thm = s.thm := rfl
@[simp] theorem setBranch_thr (s : State) (b : Branch) (x : BranchRec) : (s.setBranch b x).thr = s.thr := rfl
@[simp] theorem setBranch_sense (s : State) (b : Branch) (x : BranchRec) : (s.setBranch b x).sense = s.sense := rfl
@[simp] theorem setBranch_awn (s : State) (b : Branch) (x : BranchRec) : (s.setBranch b x).awn = s.awn := rfl
@[simp] theorem setBranch_ring (s : State) (b : Branch) (x : BranchRec) : (s.setBranch b x).ring = s.ring := rfl
@[simp] theorem setBranch_can (s : State) (b : Branch) (x : BranchRec) : (s.setBranch b x).can = s.can := rfl
@[simp] theorem setBranch_energy (s : State) (b : Branch) (x : BranchRec) : (s.setBranch b x).energy = s.energy := rfl
@[simp] theorem setBranch_branches (s : State) (b : Branch) (x : BranchRec) : (s.setBranch b x).branches = vset s.branches b x := rfl
@[simp] theorem setSrc_pending (s : State) (p : SPort) (x : SrcRec) : (s.setSrc p x).pending = s.pending := rfl
@[simp] theorem setSrc_now (s : State) (p : SPort) (x : SrcRec) : (s.setSrc p x).now = s.now := rfl
@[simp] theorem setSrc_freeN (s : State) (p : SPort) (x : SrcRec) : (s.setSrc p x).freeN = s.freeN := rfl
@[simp] theorem setSrc_deferred (s : State) (p : SPort) (x : SrcRec) : (s.setSrc p x).deferred = s.deferred := rfl
@[simp] theorem setSrc_flt (s : State) (p : SPort) (x : SrcRec) : (s.setSrc p x).flt = s.flt := rfl
@[simp] theorem setSrc_safeLine (s : State) (p : SPort) (x : SrcRec) : (s.setSrc p x).safeLine = s.safeLine := rfl
@[simp] theorem setSrc_halt (s : State) (p : SPort) (x : SrcRec) : (s.setSrc p x).halt = s.halt := rfl
@[simp] theorem setSrc_x3 (s : State) (p : SPort) (x : SrcRec) : (s.setSrc p x).x3 = s.x3 := rfl
@[simp] theorem setSrc_xing (s : State) (p : SPort) (x : SrcRec) : (s.setSrc p x).xing = s.xing := rfl
@[simp] theorem setSrc_xslots (s : State) (p : SPort) (x : SrcRec) : (s.setSrc p x).xslots = s.xslots := rfl
@[simp] theorem setSrc_rw (s : State) (p : SPort) (x : SrcRec) : (s.setSrc p x).rw = s.rw := rfl
@[simp] theorem setSrc_nv (s : State) (p : SPort) (x : SrcRec) : (s.setSrc p x).nv = s.nv := rfl
@[simp] theorem setSrc_prof (s : State) (p : SPort) (x : SrcRec) : (s.setSrc p x).prof = s.prof := rfl
@[simp] theorem setSrc_log (s : State) (p : SPort) (x : SrcRec) : (s.setSrc p x).log = s.log := rfl
@[simp] theorem setSrc_wdg (s : State) (p : SPort) (x : SrcRec) : (s.setSrc p x).wdg = s.wdg := rfl
@[simp] theorem setSrc_host (s : State) (p : SPort) (x : SrcRec) : (s.setSrc p x).host = s.host := rfl
@[simp] theorem setSrc_ret (s : State) (p : SPort) (x : SrcRec) : (s.setSrc p x).ret = s.ret := rfl
@[simp] theorem setSrc_slots (s : State) (p : SPort) (x : SrcRec) : (s.setSrc p x).slots = s.slots := rfl
@[simp] theorem setSrc_dom (s : State) (p : SPort) (x : SrcRec) : (s.setSrc p x).dom = s.dom := rfl
@[simp] theorem setSrc_img (s : State) (p : SPort) (x : SrcRec) : (s.setSrc p x).img = s.img := rfl
@[simp] theorem setSrc_nvs (s : State) (p : SPort) (x : SrcRec) : (s.setSrc p x).nvs = s.nvs := rfl
@[simp] theorem setSrc_sys (s : State) (p : SPort) (x : SrcRec) : (s.setSrc p x).sys = s.sys := rfl
@[simp] theorem setSrc_fuse (s : State) (p : SPort) (x : SrcRec) : (s.setSrc p x).fuse = s.fuse := rfl
@[simp] theorem setSrc_fab (s : State) (p : SPort) (x : SrcRec) : (s.setSrc p x).fab = s.fab := rfl
@[simp] theorem setSrc_groups (s : State) (p : SPort) (x : SrcRec) : (s.setSrc p x).groups = s.groups := rfl
@[simp] theorem setSrc_cells (s : State) (p : SPort) (x : SrcRec) : (s.setSrc p x).cells = s.cells := rfl
@[simp] theorem setSrc_culm (s : State) (p : SPort) (x : SrcRec) : (s.setSrc p x).culm = s.culm := rfl
@[simp] theorem setSrc_gov (s : State) (p : SPort) (x : SrcRec) : (s.setSrc p x).gov = s.gov := rfl
@[simp] theorem setSrc_branches (s : State) (p : SPort) (x : SrcRec) : (s.setSrc p x).branches = s.branches := rfl
@[simp] theorem setSrc_loads (s : State) (p : SPort) (x : SrcRec) : (s.setSrc p x).loads = s.loads := rfl
@[simp] theorem setSrc_hov (s : State) (p : SPort) (x : SrcRec) : (s.setSrc p x).hov = s.hov := rfl
@[simp] theorem setSrc_flow (s : State) (p : SPort) (x : SrcRec) : (s.setSrc p x).flow = s.flow := rfl
@[simp] theorem setSrc_ctx (s : State) (p : SPort) (x : SrcRec) : (s.setSrc p x).ctx = s.ctx := rfl
@[simp] theorem setSrc_bat (s : State) (p : SPort) (x : SrcRec) : (s.setSrc p x).bat = s.bat := rfl
@[simp] theorem setSrc_fdr (s : State) (p : SPort) (x : SrcRec) : (s.setSrc p x).fdr = s.fdr := rfl
@[simp] theorem setSrc_chg (s : State) (p : SPort) (x : SrcRec) : (s.setSrc p x).chg = s.chg := rfl
@[simp] theorem setSrc_profIO (s : State) (p : SPort) (x : SrcRec) : (s.setSrc p x).profIO = s.profIO := rfl
@[simp] theorem setSrc_bms (s : State) (p : SPort) (x : SrcRec) : (s.setSrc p x).bms = s.bms := rfl
@[simp] theorem setSrc_est (s : State) (p : SPort) (x : SrcRec) : (s.setSrc p x).est = s.est := rfl
@[simp] theorem setSrc_thm (s : State) (p : SPort) (x : SrcRec) : (s.setSrc p x).thm = s.thm := rfl
@[simp] theorem setSrc_thr (s : State) (p : SPort) (x : SrcRec) : (s.setSrc p x).thr = s.thr := rfl
@[simp] theorem setSrc_sense (s : State) (p : SPort) (x : SrcRec) : (s.setSrc p x).sense = s.sense := rfl
@[simp] theorem setSrc_awn (s : State) (p : SPort) (x : SrcRec) : (s.setSrc p x).awn = s.awn := rfl
@[simp] theorem setSrc_ring (s : State) (p : SPort) (x : SrcRec) : (s.setSrc p x).ring = s.ring := rfl
@[simp] theorem setSrc_can (s : State) (p : SPort) (x : SrcRec) : (s.setSrc p x).can = s.can := rfl
@[simp] theorem setSrc_energy (s : State) (p : SPort) (x : SrcRec) : (s.setSrc p x).energy = s.energy := rfl
@[simp] theorem setSrc_src (s : State) (p : SPort) (x : SrcRec) : (s.setSrc p x).src = vset s.src p x := rfl
@[simp] theorem setCtx_pending (s : State) (c : Ctx) (x : FlowCtx) : (s.setCtx c x).pending = s.pending := rfl
@[simp] theorem setCtx_now (s : State) (c : Ctx) (x : FlowCtx) : (s.setCtx c x).now = s.now := rfl
@[simp] theorem setCtx_freeN (s : State) (c : Ctx) (x : FlowCtx) : (s.setCtx c x).freeN = s.freeN := rfl
@[simp] theorem setCtx_deferred (s : State) (c : Ctx) (x : FlowCtx) : (s.setCtx c x).deferred = s.deferred := rfl
@[simp] theorem setCtx_flt (s : State) (c : Ctx) (x : FlowCtx) : (s.setCtx c x).flt = s.flt := rfl
@[simp] theorem setCtx_safeLine (s : State) (c : Ctx) (x : FlowCtx) : (s.setCtx c x).safeLine = s.safeLine := rfl
@[simp] theorem setCtx_halt (s : State) (c : Ctx) (x : FlowCtx) : (s.setCtx c x).halt = s.halt := rfl
@[simp] theorem setCtx_x3 (s : State) (c : Ctx) (x : FlowCtx) : (s.setCtx c x).x3 = s.x3 := rfl
@[simp] theorem setCtx_xing (s : State) (c : Ctx) (x : FlowCtx) : (s.setCtx c x).xing = s.xing := rfl
@[simp] theorem setCtx_xslots (s : State) (c : Ctx) (x : FlowCtx) : (s.setCtx c x).xslots = s.xslots := rfl
@[simp] theorem setCtx_rw (s : State) (c : Ctx) (x : FlowCtx) : (s.setCtx c x).rw = s.rw := rfl
@[simp] theorem setCtx_nv (s : State) (c : Ctx) (x : FlowCtx) : (s.setCtx c x).nv = s.nv := rfl
@[simp] theorem setCtx_prof (s : State) (c : Ctx) (x : FlowCtx) : (s.setCtx c x).prof = s.prof := rfl
@[simp] theorem setCtx_log (s : State) (c : Ctx) (x : FlowCtx) : (s.setCtx c x).log = s.log := rfl
@[simp] theorem setCtx_wdg (s : State) (c : Ctx) (x : FlowCtx) : (s.setCtx c x).wdg = s.wdg := rfl
@[simp] theorem setCtx_host (s : State) (c : Ctx) (x : FlowCtx) : (s.setCtx c x).host = s.host := rfl
@[simp] theorem setCtx_ret (s : State) (c : Ctx) (x : FlowCtx) : (s.setCtx c x).ret = s.ret := rfl
@[simp] theorem setCtx_slots (s : State) (c : Ctx) (x : FlowCtx) : (s.setCtx c x).slots = s.slots := rfl
@[simp] theorem setCtx_dom (s : State) (c : Ctx) (x : FlowCtx) : (s.setCtx c x).dom = s.dom := rfl
@[simp] theorem setCtx_img (s : State) (c : Ctx) (x : FlowCtx) : (s.setCtx c x).img = s.img := rfl
@[simp] theorem setCtx_nvs (s : State) (c : Ctx) (x : FlowCtx) : (s.setCtx c x).nvs = s.nvs := rfl
@[simp] theorem setCtx_sys (s : State) (c : Ctx) (x : FlowCtx) : (s.setCtx c x).sys = s.sys := rfl
@[simp] theorem setCtx_fuse (s : State) (c : Ctx) (x : FlowCtx) : (s.setCtx c x).fuse = s.fuse := rfl
@[simp] theorem setCtx_fab (s : State) (c : Ctx) (x : FlowCtx) : (s.setCtx c x).fab = s.fab := rfl
@[simp] theorem setCtx_groups (s : State) (c : Ctx) (x : FlowCtx) : (s.setCtx c x).groups = s.groups := rfl
@[simp] theorem setCtx_cells (s : State) (c : Ctx) (x : FlowCtx) : (s.setCtx c x).cells = s.cells := rfl
@[simp] theorem setCtx_culm (s : State) (c : Ctx) (x : FlowCtx) : (s.setCtx c x).culm = s.culm := rfl
@[simp] theorem setCtx_gov (s : State) (c : Ctx) (x : FlowCtx) : (s.setCtx c x).gov = s.gov := rfl
@[simp] theorem setCtx_branches (s : State) (c : Ctx) (x : FlowCtx) : (s.setCtx c x).branches = s.branches := rfl
@[simp] theorem setCtx_loads (s : State) (c : Ctx) (x : FlowCtx) : (s.setCtx c x).loads = s.loads := rfl
@[simp] theorem setCtx_src (s : State) (c : Ctx) (x : FlowCtx) : (s.setCtx c x).src = s.src := rfl
@[simp] theorem setCtx_hov (s : State) (c : Ctx) (x : FlowCtx) : (s.setCtx c x).hov = s.hov := rfl
@[simp] theorem setCtx_flow (s : State) (c : Ctx) (x : FlowCtx) : (s.setCtx c x).flow = s.flow := rfl
@[simp] theorem setCtx_bat (s : State) (c : Ctx) (x : FlowCtx) : (s.setCtx c x).bat = s.bat := rfl
@[simp] theorem setCtx_fdr (s : State) (c : Ctx) (x : FlowCtx) : (s.setCtx c x).fdr = s.fdr := rfl
@[simp] theorem setCtx_chg (s : State) (c : Ctx) (x : FlowCtx) : (s.setCtx c x).chg = s.chg := rfl
@[simp] theorem setCtx_profIO (s : State) (c : Ctx) (x : FlowCtx) : (s.setCtx c x).profIO = s.profIO := rfl
@[simp] theorem setCtx_bms (s : State) (c : Ctx) (x : FlowCtx) : (s.setCtx c x).bms = s.bms := rfl
@[simp] theorem setCtx_est (s : State) (c : Ctx) (x : FlowCtx) : (s.setCtx c x).est = s.est := rfl
@[simp] theorem setCtx_thm (s : State) (c : Ctx) (x : FlowCtx) : (s.setCtx c x).thm = s.thm := rfl
@[simp] theorem setCtx_thr (s : State) (c : Ctx) (x : FlowCtx) : (s.setCtx c x).thr = s.thr := rfl
@[simp] theorem setCtx_sense (s : State) (c : Ctx) (x : FlowCtx) : (s.setCtx c x).sense = s.sense := rfl
@[simp] theorem setCtx_awn (s : State) (c : Ctx) (x : FlowCtx) : (s.setCtx c x).awn = s.awn := rfl
@[simp] theorem setCtx_ring (s : State) (c : Ctx) (x : FlowCtx) : (s.setCtx c x).ring = s.ring := rfl
@[simp] theorem setCtx_can (s : State) (c : Ctx) (x : FlowCtx) : (s.setCtx c x).can = s.can := rfl
@[simp] theorem setCtx_energy (s : State) (c : Ctx) (x : FlowCtx) : (s.setCtx c x).energy = s.energy := rfl
@[simp] theorem setCtx_ctx (s : State) (c : Ctx) (x : FlowCtx) : (s.setCtx c x).ctx = vset s.ctx c x := rfl
@[simp] theorem setBat_pending (s : State) (p : BPort) (x : BatRec) : (s.setBat p x).pending = s.pending := rfl
@[simp] theorem setBat_now (s : State) (p : BPort) (x : BatRec) : (s.setBat p x).now = s.now := rfl
@[simp] theorem setBat_freeN (s : State) (p : BPort) (x : BatRec) : (s.setBat p x).freeN = s.freeN := rfl
@[simp] theorem setBat_deferred (s : State) (p : BPort) (x : BatRec) : (s.setBat p x).deferred = s.deferred := rfl
@[simp] theorem setBat_flt (s : State) (p : BPort) (x : BatRec) : (s.setBat p x).flt = s.flt := rfl
@[simp] theorem setBat_safeLine (s : State) (p : BPort) (x : BatRec) : (s.setBat p x).safeLine = s.safeLine := rfl
@[simp] theorem setBat_halt (s : State) (p : BPort) (x : BatRec) : (s.setBat p x).halt = s.halt := rfl
@[simp] theorem setBat_x3 (s : State) (p : BPort) (x : BatRec) : (s.setBat p x).x3 = s.x3 := rfl
@[simp] theorem setBat_xing (s : State) (p : BPort) (x : BatRec) : (s.setBat p x).xing = s.xing := rfl
@[simp] theorem setBat_xslots (s : State) (p : BPort) (x : BatRec) : (s.setBat p x).xslots = s.xslots := rfl
@[simp] theorem setBat_rw (s : State) (p : BPort) (x : BatRec) : (s.setBat p x).rw = s.rw := rfl
@[simp] theorem setBat_nv (s : State) (p : BPort) (x : BatRec) : (s.setBat p x).nv = s.nv := rfl
@[simp] theorem setBat_prof (s : State) (p : BPort) (x : BatRec) : (s.setBat p x).prof = s.prof := rfl
@[simp] theorem setBat_log (s : State) (p : BPort) (x : BatRec) : (s.setBat p x).log = s.log := rfl
@[simp] theorem setBat_wdg (s : State) (p : BPort) (x : BatRec) : (s.setBat p x).wdg = s.wdg := rfl
@[simp] theorem setBat_host (s : State) (p : BPort) (x : BatRec) : (s.setBat p x).host = s.host := rfl
@[simp] theorem setBat_ret (s : State) (p : BPort) (x : BatRec) : (s.setBat p x).ret = s.ret := rfl
@[simp] theorem setBat_slots (s : State) (p : BPort) (x : BatRec) : (s.setBat p x).slots = s.slots := rfl
@[simp] theorem setBat_dom (s : State) (p : BPort) (x : BatRec) : (s.setBat p x).dom = s.dom := rfl
@[simp] theorem setBat_img (s : State) (p : BPort) (x : BatRec) : (s.setBat p x).img = s.img := rfl
@[simp] theorem setBat_nvs (s : State) (p : BPort) (x : BatRec) : (s.setBat p x).nvs = s.nvs := rfl
@[simp] theorem setBat_sys (s : State) (p : BPort) (x : BatRec) : (s.setBat p x).sys = s.sys := rfl
@[simp] theorem setBat_fuse (s : State) (p : BPort) (x : BatRec) : (s.setBat p x).fuse = s.fuse := rfl
@[simp] theorem setBat_fab (s : State) (p : BPort) (x : BatRec) : (s.setBat p x).fab = s.fab := rfl
@[simp] theorem setBat_groups (s : State) (p : BPort) (x : BatRec) : (s.setBat p x).groups = s.groups := rfl
@[simp] theorem setBat_cells (s : State) (p : BPort) (x : BatRec) : (s.setBat p x).cells = s.cells := rfl
@[simp] theorem setBat_culm (s : State) (p : BPort) (x : BatRec) : (s.setBat p x).culm = s.culm := rfl
@[simp] theorem setBat_gov (s : State) (p : BPort) (x : BatRec) : (s.setBat p x).gov = s.gov := rfl
@[simp] theorem setBat_branches (s : State) (p : BPort) (x : BatRec) : (s.setBat p x).branches = s.branches := rfl
@[simp] theorem setBat_loads (s : State) (p : BPort) (x : BatRec) : (s.setBat p x).loads = s.loads := rfl
@[simp] theorem setBat_src (s : State) (p : BPort) (x : BatRec) : (s.setBat p x).src = s.src := rfl
@[simp] theorem setBat_hov (s : State) (p : BPort) (x : BatRec) : (s.setBat p x).hov = s.hov := rfl
@[simp] theorem setBat_flow (s : State) (p : BPort) (x : BatRec) : (s.setBat p x).flow = s.flow := rfl
@[simp] theorem setBat_ctx (s : State) (p : BPort) (x : BatRec) : (s.setBat p x).ctx = s.ctx := rfl
@[simp] theorem setBat_fdr (s : State) (p : BPort) (x : BatRec) : (s.setBat p x).fdr = s.fdr := rfl
@[simp] theorem setBat_chg (s : State) (p : BPort) (x : BatRec) : (s.setBat p x).chg = s.chg := rfl
@[simp] theorem setBat_profIO (s : State) (p : BPort) (x : BatRec) : (s.setBat p x).profIO = s.profIO := rfl
@[simp] theorem setBat_bms (s : State) (p : BPort) (x : BatRec) : (s.setBat p x).bms = s.bms := rfl
@[simp] theorem setBat_est (s : State) (p : BPort) (x : BatRec) : (s.setBat p x).est = s.est := rfl
@[simp] theorem setBat_thm (s : State) (p : BPort) (x : BatRec) : (s.setBat p x).thm = s.thm := rfl
@[simp] theorem setBat_thr (s : State) (p : BPort) (x : BatRec) : (s.setBat p x).thr = s.thr := rfl
@[simp] theorem setBat_sense (s : State) (p : BPort) (x : BatRec) : (s.setBat p x).sense = s.sense := rfl
@[simp] theorem setBat_awn (s : State) (p : BPort) (x : BatRec) : (s.setBat p x).awn = s.awn := rfl
@[simp] theorem setBat_ring (s : State) (p : BPort) (x : BatRec) : (s.setBat p x).ring = s.ring := rfl
@[simp] theorem setBat_can (s : State) (p : BPort) (x : BatRec) : (s.setBat p x).can = s.can := rfl
@[simp] theorem setBat_energy (s : State) (p : BPort) (x : BatRec) : (s.setBat p x).energy = s.energy := rfl
@[simp] theorem setBat_bat (s : State) (p : BPort) (x : BatRec) : (s.setBat p x).bat = vset s.bat p x := rfl
@[simp] theorem setFdr_pending (s : State) (p : SPort) (x : FdrRec) : (s.setFdr p x).pending = s.pending := rfl
@[simp] theorem setFdr_now (s : State) (p : SPort) (x : FdrRec) : (s.setFdr p x).now = s.now := rfl
@[simp] theorem setFdr_freeN (s : State) (p : SPort) (x : FdrRec) : (s.setFdr p x).freeN = s.freeN := rfl
@[simp] theorem setFdr_deferred (s : State) (p : SPort) (x : FdrRec) : (s.setFdr p x).deferred = s.deferred := rfl
@[simp] theorem setFdr_flt (s : State) (p : SPort) (x : FdrRec) : (s.setFdr p x).flt = s.flt := rfl
@[simp] theorem setFdr_safeLine (s : State) (p : SPort) (x : FdrRec) : (s.setFdr p x).safeLine = s.safeLine := rfl
@[simp] theorem setFdr_halt (s : State) (p : SPort) (x : FdrRec) : (s.setFdr p x).halt = s.halt := rfl
@[simp] theorem setFdr_x3 (s : State) (p : SPort) (x : FdrRec) : (s.setFdr p x).x3 = s.x3 := rfl
@[simp] theorem setFdr_xing (s : State) (p : SPort) (x : FdrRec) : (s.setFdr p x).xing = s.xing := rfl
@[simp] theorem setFdr_xslots (s : State) (p : SPort) (x : FdrRec) : (s.setFdr p x).xslots = s.xslots := rfl
@[simp] theorem setFdr_rw (s : State) (p : SPort) (x : FdrRec) : (s.setFdr p x).rw = s.rw := rfl
@[simp] theorem setFdr_nv (s : State) (p : SPort) (x : FdrRec) : (s.setFdr p x).nv = s.nv := rfl
@[simp] theorem setFdr_prof (s : State) (p : SPort) (x : FdrRec) : (s.setFdr p x).prof = s.prof := rfl
@[simp] theorem setFdr_log (s : State) (p : SPort) (x : FdrRec) : (s.setFdr p x).log = s.log := rfl
@[simp] theorem setFdr_wdg (s : State) (p : SPort) (x : FdrRec) : (s.setFdr p x).wdg = s.wdg := rfl
@[simp] theorem setFdr_host (s : State) (p : SPort) (x : FdrRec) : (s.setFdr p x).host = s.host := rfl
@[simp] theorem setFdr_ret (s : State) (p : SPort) (x : FdrRec) : (s.setFdr p x).ret = s.ret := rfl
@[simp] theorem setFdr_slots (s : State) (p : SPort) (x : FdrRec) : (s.setFdr p x).slots = s.slots := rfl
@[simp] theorem setFdr_dom (s : State) (p : SPort) (x : FdrRec) : (s.setFdr p x).dom = s.dom := rfl
@[simp] theorem setFdr_img (s : State) (p : SPort) (x : FdrRec) : (s.setFdr p x).img = s.img := rfl
@[simp] theorem setFdr_nvs (s : State) (p : SPort) (x : FdrRec) : (s.setFdr p x).nvs = s.nvs := rfl
@[simp] theorem setFdr_sys (s : State) (p : SPort) (x : FdrRec) : (s.setFdr p x).sys = s.sys := rfl
@[simp] theorem setFdr_fuse (s : State) (p : SPort) (x : FdrRec) : (s.setFdr p x).fuse = s.fuse := rfl
@[simp] theorem setFdr_fab (s : State) (p : SPort) (x : FdrRec) : (s.setFdr p x).fab = s.fab := rfl
@[simp] theorem setFdr_groups (s : State) (p : SPort) (x : FdrRec) : (s.setFdr p x).groups = s.groups := rfl
@[simp] theorem setFdr_cells (s : State) (p : SPort) (x : FdrRec) : (s.setFdr p x).cells = s.cells := rfl
@[simp] theorem setFdr_culm (s : State) (p : SPort) (x : FdrRec) : (s.setFdr p x).culm = s.culm := rfl
@[simp] theorem setFdr_gov (s : State) (p : SPort) (x : FdrRec) : (s.setFdr p x).gov = s.gov := rfl
@[simp] theorem setFdr_branches (s : State) (p : SPort) (x : FdrRec) : (s.setFdr p x).branches = s.branches := rfl
@[simp] theorem setFdr_loads (s : State) (p : SPort) (x : FdrRec) : (s.setFdr p x).loads = s.loads := rfl
@[simp] theorem setFdr_src (s : State) (p : SPort) (x : FdrRec) : (s.setFdr p x).src = s.src := rfl
@[simp] theorem setFdr_hov (s : State) (p : SPort) (x : FdrRec) : (s.setFdr p x).hov = s.hov := rfl
@[simp] theorem setFdr_flow (s : State) (p : SPort) (x : FdrRec) : (s.setFdr p x).flow = s.flow := rfl
@[simp] theorem setFdr_ctx (s : State) (p : SPort) (x : FdrRec) : (s.setFdr p x).ctx = s.ctx := rfl
@[simp] theorem setFdr_bat (s : State) (p : SPort) (x : FdrRec) : (s.setFdr p x).bat = s.bat := rfl
@[simp] theorem setFdr_chg (s : State) (p : SPort) (x : FdrRec) : (s.setFdr p x).chg = s.chg := rfl
@[simp] theorem setFdr_profIO (s : State) (p : SPort) (x : FdrRec) : (s.setFdr p x).profIO = s.profIO := rfl
@[simp] theorem setFdr_bms (s : State) (p : SPort) (x : FdrRec) : (s.setFdr p x).bms = s.bms := rfl
@[simp] theorem setFdr_est (s : State) (p : SPort) (x : FdrRec) : (s.setFdr p x).est = s.est := rfl
@[simp] theorem setFdr_thm (s : State) (p : SPort) (x : FdrRec) : (s.setFdr p x).thm = s.thm := rfl
@[simp] theorem setFdr_thr (s : State) (p : SPort) (x : FdrRec) : (s.setFdr p x).thr = s.thr := rfl
@[simp] theorem setFdr_sense (s : State) (p : SPort) (x : FdrRec) : (s.setFdr p x).sense = s.sense := rfl
@[simp] theorem setFdr_awn (s : State) (p : SPort) (x : FdrRec) : (s.setFdr p x).awn = s.awn := rfl
@[simp] theorem setFdr_ring (s : State) (p : SPort) (x : FdrRec) : (s.setFdr p x).ring = s.ring := rfl
@[simp] theorem setFdr_can (s : State) (p : SPort) (x : FdrRec) : (s.setFdr p x).can = s.can := rfl
@[simp] theorem setFdr_energy (s : State) (p : SPort) (x : FdrRec) : (s.setFdr p x).energy = s.energy := rfl
@[simp] theorem setFdr_fdr (s : State) (p : SPort) (x : FdrRec) : (s.setFdr p x).fdr = vset s.fdr p x := rfl
@[simp] theorem setChg_pending (s : State) (p : BPort) (x : ChgRec) : (s.setChg p x).pending = s.pending := rfl
@[simp] theorem setChg_now (s : State) (p : BPort) (x : ChgRec) : (s.setChg p x).now = s.now := rfl
@[simp] theorem setChg_freeN (s : State) (p : BPort) (x : ChgRec) : (s.setChg p x).freeN = s.freeN := rfl
@[simp] theorem setChg_deferred (s : State) (p : BPort) (x : ChgRec) : (s.setChg p x).deferred = s.deferred := rfl
@[simp] theorem setChg_flt (s : State) (p : BPort) (x : ChgRec) : (s.setChg p x).flt = s.flt := rfl
@[simp] theorem setChg_safeLine (s : State) (p : BPort) (x : ChgRec) : (s.setChg p x).safeLine = s.safeLine := rfl
@[simp] theorem setChg_halt (s : State) (p : BPort) (x : ChgRec) : (s.setChg p x).halt = s.halt := rfl
@[simp] theorem setChg_x3 (s : State) (p : BPort) (x : ChgRec) : (s.setChg p x).x3 = s.x3 := rfl
@[simp] theorem setChg_xing (s : State) (p : BPort) (x : ChgRec) : (s.setChg p x).xing = s.xing := rfl
@[simp] theorem setChg_xslots (s : State) (p : BPort) (x : ChgRec) : (s.setChg p x).xslots = s.xslots := rfl
@[simp] theorem setChg_rw (s : State) (p : BPort) (x : ChgRec) : (s.setChg p x).rw = s.rw := rfl
@[simp] theorem setChg_nv (s : State) (p : BPort) (x : ChgRec) : (s.setChg p x).nv = s.nv := rfl
@[simp] theorem setChg_prof (s : State) (p : BPort) (x : ChgRec) : (s.setChg p x).prof = s.prof := rfl
@[simp] theorem setChg_log (s : State) (p : BPort) (x : ChgRec) : (s.setChg p x).log = s.log := rfl
@[simp] theorem setChg_wdg (s : State) (p : BPort) (x : ChgRec) : (s.setChg p x).wdg = s.wdg := rfl
@[simp] theorem setChg_host (s : State) (p : BPort) (x : ChgRec) : (s.setChg p x).host = s.host := rfl
@[simp] theorem setChg_ret (s : State) (p : BPort) (x : ChgRec) : (s.setChg p x).ret = s.ret := rfl
@[simp] theorem setChg_slots (s : State) (p : BPort) (x : ChgRec) : (s.setChg p x).slots = s.slots := rfl
@[simp] theorem setChg_dom (s : State) (p : BPort) (x : ChgRec) : (s.setChg p x).dom = s.dom := rfl
@[simp] theorem setChg_img (s : State) (p : BPort) (x : ChgRec) : (s.setChg p x).img = s.img := rfl
@[simp] theorem setChg_nvs (s : State) (p : BPort) (x : ChgRec) : (s.setChg p x).nvs = s.nvs := rfl
@[simp] theorem setChg_sys (s : State) (p : BPort) (x : ChgRec) : (s.setChg p x).sys = s.sys := rfl
@[simp] theorem setChg_fuse (s : State) (p : BPort) (x : ChgRec) : (s.setChg p x).fuse = s.fuse := rfl
@[simp] theorem setChg_fab (s : State) (p : BPort) (x : ChgRec) : (s.setChg p x).fab = s.fab := rfl
@[simp] theorem setChg_groups (s : State) (p : BPort) (x : ChgRec) : (s.setChg p x).groups = s.groups := rfl
@[simp] theorem setChg_cells (s : State) (p : BPort) (x : ChgRec) : (s.setChg p x).cells = s.cells := rfl
@[simp] theorem setChg_culm (s : State) (p : BPort) (x : ChgRec) : (s.setChg p x).culm = s.culm := rfl
@[simp] theorem setChg_gov (s : State) (p : BPort) (x : ChgRec) : (s.setChg p x).gov = s.gov := rfl
@[simp] theorem setChg_branches (s : State) (p : BPort) (x : ChgRec) : (s.setChg p x).branches = s.branches := rfl
@[simp] theorem setChg_loads (s : State) (p : BPort) (x : ChgRec) : (s.setChg p x).loads = s.loads := rfl
@[simp] theorem setChg_src (s : State) (p : BPort) (x : ChgRec) : (s.setChg p x).src = s.src := rfl
@[simp] theorem setChg_hov (s : State) (p : BPort) (x : ChgRec) : (s.setChg p x).hov = s.hov := rfl
@[simp] theorem setChg_flow (s : State) (p : BPort) (x : ChgRec) : (s.setChg p x).flow = s.flow := rfl
@[simp] theorem setChg_ctx (s : State) (p : BPort) (x : ChgRec) : (s.setChg p x).ctx = s.ctx := rfl
@[simp] theorem setChg_bat (s : State) (p : BPort) (x : ChgRec) : (s.setChg p x).bat = s.bat := rfl
@[simp] theorem setChg_fdr (s : State) (p : BPort) (x : ChgRec) : (s.setChg p x).fdr = s.fdr := rfl
@[simp] theorem setChg_profIO (s : State) (p : BPort) (x : ChgRec) : (s.setChg p x).profIO = s.profIO := rfl
@[simp] theorem setChg_bms (s : State) (p : BPort) (x : ChgRec) : (s.setChg p x).bms = s.bms := rfl
@[simp] theorem setChg_est (s : State) (p : BPort) (x : ChgRec) : (s.setChg p x).est = s.est := rfl
@[simp] theorem setChg_thm (s : State) (p : BPort) (x : ChgRec) : (s.setChg p x).thm = s.thm := rfl
@[simp] theorem setChg_thr (s : State) (p : BPort) (x : ChgRec) : (s.setChg p x).thr = s.thr := rfl
@[simp] theorem setChg_sense (s : State) (p : BPort) (x : ChgRec) : (s.setChg p x).sense = s.sense := rfl
@[simp] theorem setChg_awn (s : State) (p : BPort) (x : ChgRec) : (s.setChg p x).awn = s.awn := rfl
@[simp] theorem setChg_ring (s : State) (p : BPort) (x : ChgRec) : (s.setChg p x).ring = s.ring := rfl
@[simp] theorem setChg_can (s : State) (p : BPort) (x : ChgRec) : (s.setChg p x).can = s.can := rfl
@[simp] theorem setChg_energy (s : State) (p : BPort) (x : ChgRec) : (s.setChg p x).energy = s.energy := rfl
@[simp] theorem setChg_chg (s : State) (p : BPort) (x : ChgRec) : (s.setChg p x).chg = vset s.chg p x := rfl
@[simp] theorem setEst_pending (s : State) (p : BPort) (x : EstRec) : (s.setEst p x).pending = s.pending := rfl
@[simp] theorem setEst_now (s : State) (p : BPort) (x : EstRec) : (s.setEst p x).now = s.now := rfl
@[simp] theorem setEst_freeN (s : State) (p : BPort) (x : EstRec) : (s.setEst p x).freeN = s.freeN := rfl
@[simp] theorem setEst_deferred (s : State) (p : BPort) (x : EstRec) : (s.setEst p x).deferred = s.deferred := rfl
@[simp] theorem setEst_flt (s : State) (p : BPort) (x : EstRec) : (s.setEst p x).flt = s.flt := rfl
@[simp] theorem setEst_safeLine (s : State) (p : BPort) (x : EstRec) : (s.setEst p x).safeLine = s.safeLine := rfl
@[simp] theorem setEst_halt (s : State) (p : BPort) (x : EstRec) : (s.setEst p x).halt = s.halt := rfl
@[simp] theorem setEst_x3 (s : State) (p : BPort) (x : EstRec) : (s.setEst p x).x3 = s.x3 := rfl
@[simp] theorem setEst_xing (s : State) (p : BPort) (x : EstRec) : (s.setEst p x).xing = s.xing := rfl
@[simp] theorem setEst_xslots (s : State) (p : BPort) (x : EstRec) : (s.setEst p x).xslots = s.xslots := rfl
@[simp] theorem setEst_rw (s : State) (p : BPort) (x : EstRec) : (s.setEst p x).rw = s.rw := rfl
@[simp] theorem setEst_nv (s : State) (p : BPort) (x : EstRec) : (s.setEst p x).nv = s.nv := rfl
@[simp] theorem setEst_prof (s : State) (p : BPort) (x : EstRec) : (s.setEst p x).prof = s.prof := rfl
@[simp] theorem setEst_log (s : State) (p : BPort) (x : EstRec) : (s.setEst p x).log = s.log := rfl
@[simp] theorem setEst_wdg (s : State) (p : BPort) (x : EstRec) : (s.setEst p x).wdg = s.wdg := rfl
@[simp] theorem setEst_host (s : State) (p : BPort) (x : EstRec) : (s.setEst p x).host = s.host := rfl
@[simp] theorem setEst_ret (s : State) (p : BPort) (x : EstRec) : (s.setEst p x).ret = s.ret := rfl
@[simp] theorem setEst_slots (s : State) (p : BPort) (x : EstRec) : (s.setEst p x).slots = s.slots := rfl
@[simp] theorem setEst_dom (s : State) (p : BPort) (x : EstRec) : (s.setEst p x).dom = s.dom := rfl
@[simp] theorem setEst_img (s : State) (p : BPort) (x : EstRec) : (s.setEst p x).img = s.img := rfl
@[simp] theorem setEst_nvs (s : State) (p : BPort) (x : EstRec) : (s.setEst p x).nvs = s.nvs := rfl
@[simp] theorem setEst_sys (s : State) (p : BPort) (x : EstRec) : (s.setEst p x).sys = s.sys := rfl
@[simp] theorem setEst_fuse (s : State) (p : BPort) (x : EstRec) : (s.setEst p x).fuse = s.fuse := rfl
@[simp] theorem setEst_fab (s : State) (p : BPort) (x : EstRec) : (s.setEst p x).fab = s.fab := rfl
@[simp] theorem setEst_groups (s : State) (p : BPort) (x : EstRec) : (s.setEst p x).groups = s.groups := rfl
@[simp] theorem setEst_cells (s : State) (p : BPort) (x : EstRec) : (s.setEst p x).cells = s.cells := rfl
@[simp] theorem setEst_culm (s : State) (p : BPort) (x : EstRec) : (s.setEst p x).culm = s.culm := rfl
@[simp] theorem setEst_gov (s : State) (p : BPort) (x : EstRec) : (s.setEst p x).gov = s.gov := rfl
@[simp] theorem setEst_branches (s : State) (p : BPort) (x : EstRec) : (s.setEst p x).branches = s.branches := rfl
@[simp] theorem setEst_loads (s : State) (p : BPort) (x : EstRec) : (s.setEst p x).loads = s.loads := rfl
@[simp] theorem setEst_src (s : State) (p : BPort) (x : EstRec) : (s.setEst p x).src = s.src := rfl
@[simp] theorem setEst_hov (s : State) (p : BPort) (x : EstRec) : (s.setEst p x).hov = s.hov := rfl
@[simp] theorem setEst_flow (s : State) (p : BPort) (x : EstRec) : (s.setEst p x).flow = s.flow := rfl
@[simp] theorem setEst_ctx (s : State) (p : BPort) (x : EstRec) : (s.setEst p x).ctx = s.ctx := rfl
@[simp] theorem setEst_bat (s : State) (p : BPort) (x : EstRec) : (s.setEst p x).bat = s.bat := rfl
@[simp] theorem setEst_fdr (s : State) (p : BPort) (x : EstRec) : (s.setEst p x).fdr = s.fdr := rfl
@[simp] theorem setEst_chg (s : State) (p : BPort) (x : EstRec) : (s.setEst p x).chg = s.chg := rfl
@[simp] theorem setEst_profIO (s : State) (p : BPort) (x : EstRec) : (s.setEst p x).profIO = s.profIO := rfl
@[simp] theorem setEst_bms (s : State) (p : BPort) (x : EstRec) : (s.setEst p x).bms = s.bms := rfl
@[simp] theorem setEst_thm (s : State) (p : BPort) (x : EstRec) : (s.setEst p x).thm = s.thm := rfl
@[simp] theorem setEst_thr (s : State) (p : BPort) (x : EstRec) : (s.setEst p x).thr = s.thr := rfl
@[simp] theorem setEst_sense (s : State) (p : BPort) (x : EstRec) : (s.setEst p x).sense = s.sense := rfl
@[simp] theorem setEst_awn (s : State) (p : BPort) (x : EstRec) : (s.setEst p x).awn = s.awn := rfl
@[simp] theorem setEst_ring (s : State) (p : BPort) (x : EstRec) : (s.setEst p x).ring = s.ring := rfl
@[simp] theorem setEst_can (s : State) (p : BPort) (x : EstRec) : (s.setEst p x).can = s.can := rfl
@[simp] theorem setEst_energy (s : State) (p : BPort) (x : EstRec) : (s.setEst p x).energy = s.energy := rfl
@[simp] theorem setEst_est (s : State) (p : BPort) (x : EstRec) : (s.setEst p x).est = vset s.est p x := rfl
@[simp] theorem setSensor_pending (s : State) (k : Sensor) (x : SensorRec) : (s.setSensor k x).pending = s.pending := rfl
@[simp] theorem setSensor_now (s : State) (k : Sensor) (x : SensorRec) : (s.setSensor k x).now = s.now := rfl
@[simp] theorem setSensor_freeN (s : State) (k : Sensor) (x : SensorRec) : (s.setSensor k x).freeN = s.freeN := rfl
@[simp] theorem setSensor_deferred (s : State) (k : Sensor) (x : SensorRec) : (s.setSensor k x).deferred = s.deferred := rfl
@[simp] theorem setSensor_flt (s : State) (k : Sensor) (x : SensorRec) : (s.setSensor k x).flt = s.flt := rfl
@[simp] theorem setSensor_safeLine (s : State) (k : Sensor) (x : SensorRec) : (s.setSensor k x).safeLine = s.safeLine := rfl
@[simp] theorem setSensor_halt (s : State) (k : Sensor) (x : SensorRec) : (s.setSensor k x).halt = s.halt := rfl
@[simp] theorem setSensor_x3 (s : State) (k : Sensor) (x : SensorRec) : (s.setSensor k x).x3 = s.x3 := rfl
@[simp] theorem setSensor_xing (s : State) (k : Sensor) (x : SensorRec) : (s.setSensor k x).xing = s.xing := rfl
@[simp] theorem setSensor_xslots (s : State) (k : Sensor) (x : SensorRec) : (s.setSensor k x).xslots = s.xslots := rfl
@[simp] theorem setSensor_rw (s : State) (k : Sensor) (x : SensorRec) : (s.setSensor k x).rw = s.rw := rfl
@[simp] theorem setSensor_nv (s : State) (k : Sensor) (x : SensorRec) : (s.setSensor k x).nv = s.nv := rfl
@[simp] theorem setSensor_prof (s : State) (k : Sensor) (x : SensorRec) : (s.setSensor k x).prof = s.prof := rfl
@[simp] theorem setSensor_log (s : State) (k : Sensor) (x : SensorRec) : (s.setSensor k x).log = s.log := rfl
@[simp] theorem setSensor_wdg (s : State) (k : Sensor) (x : SensorRec) : (s.setSensor k x).wdg = s.wdg := rfl
@[simp] theorem setSensor_host (s : State) (k : Sensor) (x : SensorRec) : (s.setSensor k x).host = s.host := rfl
@[simp] theorem setSensor_ret (s : State) (k : Sensor) (x : SensorRec) : (s.setSensor k x).ret = s.ret := rfl
@[simp] theorem setSensor_slots (s : State) (k : Sensor) (x : SensorRec) : (s.setSensor k x).slots = s.slots := rfl
@[simp] theorem setSensor_dom (s : State) (k : Sensor) (x : SensorRec) : (s.setSensor k x).dom = s.dom := rfl
@[simp] theorem setSensor_img (s : State) (k : Sensor) (x : SensorRec) : (s.setSensor k x).img = s.img := rfl
@[simp] theorem setSensor_nvs (s : State) (k : Sensor) (x : SensorRec) : (s.setSensor k x).nvs = s.nvs := rfl
@[simp] theorem setSensor_sys (s : State) (k : Sensor) (x : SensorRec) : (s.setSensor k x).sys = s.sys := rfl
@[simp] theorem setSensor_fuse (s : State) (k : Sensor) (x : SensorRec) : (s.setSensor k x).fuse = s.fuse := rfl
@[simp] theorem setSensor_fab (s : State) (k : Sensor) (x : SensorRec) : (s.setSensor k x).fab = s.fab := rfl
@[simp] theorem setSensor_groups (s : State) (k : Sensor) (x : SensorRec) : (s.setSensor k x).groups = s.groups := rfl
@[simp] theorem setSensor_cells (s : State) (k : Sensor) (x : SensorRec) : (s.setSensor k x).cells = s.cells := rfl
@[simp] theorem setSensor_culm (s : State) (k : Sensor) (x : SensorRec) : (s.setSensor k x).culm = s.culm := rfl
@[simp] theorem setSensor_gov (s : State) (k : Sensor) (x : SensorRec) : (s.setSensor k x).gov = s.gov := rfl
@[simp] theorem setSensor_branches (s : State) (k : Sensor) (x : SensorRec) : (s.setSensor k x).branches = s.branches := rfl
@[simp] theorem setSensor_loads (s : State) (k : Sensor) (x : SensorRec) : (s.setSensor k x).loads = s.loads := rfl
@[simp] theorem setSensor_src (s : State) (k : Sensor) (x : SensorRec) : (s.setSensor k x).src = s.src := rfl
@[simp] theorem setSensor_hov (s : State) (k : Sensor) (x : SensorRec) : (s.setSensor k x).hov = s.hov := rfl
@[simp] theorem setSensor_flow (s : State) (k : Sensor) (x : SensorRec) : (s.setSensor k x).flow = s.flow := rfl
@[simp] theorem setSensor_ctx (s : State) (k : Sensor) (x : SensorRec) : (s.setSensor k x).ctx = s.ctx := rfl
@[simp] theorem setSensor_bat (s : State) (k : Sensor) (x : SensorRec) : (s.setSensor k x).bat = s.bat := rfl
@[simp] theorem setSensor_fdr (s : State) (k : Sensor) (x : SensorRec) : (s.setSensor k x).fdr = s.fdr := rfl
@[simp] theorem setSensor_chg (s : State) (k : Sensor) (x : SensorRec) : (s.setSensor k x).chg = s.chg := rfl
@[simp] theorem setSensor_profIO (s : State) (k : Sensor) (x : SensorRec) : (s.setSensor k x).profIO = s.profIO := rfl
@[simp] theorem setSensor_bms (s : State) (k : Sensor) (x : SensorRec) : (s.setSensor k x).bms = s.bms := rfl
@[simp] theorem setSensor_est (s : State) (k : Sensor) (x : SensorRec) : (s.setSensor k x).est = s.est := rfl
@[simp] theorem setSensor_thr (s : State) (k : Sensor) (x : SensorRec) : (s.setSensor k x).thr = s.thr := rfl
@[simp] theorem setSensor_sense (s : State) (k : Sensor) (x : SensorRec) : (s.setSensor k x).sense = s.sense := rfl
@[simp] theorem setSensor_awn (s : State) (k : Sensor) (x : SensorRec) : (s.setSensor k x).awn = s.awn := rfl
@[simp] theorem setSensor_ring (s : State) (k : Sensor) (x : SensorRec) : (s.setSensor k x).ring = s.ring := rfl
@[simp] theorem setSensor_can (s : State) (k : Sensor) (x : SensorRec) : (s.setSensor k x).can = s.can := rfl
@[simp] theorem setSensor_energy (s : State) (k : Sensor) (x : SensorRec) : (s.setSensor k x).energy = s.energy := rfl
@[simp] theorem setFan_pending (s : State) (f : Fan) (x : FanRec) : (s.setFan f x).pending = s.pending := rfl
@[simp] theorem setFan_now (s : State) (f : Fan) (x : FanRec) : (s.setFan f x).now = s.now := rfl
@[simp] theorem setFan_freeN (s : State) (f : Fan) (x : FanRec) : (s.setFan f x).freeN = s.freeN := rfl
@[simp] theorem setFan_deferred (s : State) (f : Fan) (x : FanRec) : (s.setFan f x).deferred = s.deferred := rfl
@[simp] theorem setFan_flt (s : State) (f : Fan) (x : FanRec) : (s.setFan f x).flt = s.flt := rfl
@[simp] theorem setFan_safeLine (s : State) (f : Fan) (x : FanRec) : (s.setFan f x).safeLine = s.safeLine := rfl
@[simp] theorem setFan_halt (s : State) (f : Fan) (x : FanRec) : (s.setFan f x).halt = s.halt := rfl
@[simp] theorem setFan_x3 (s : State) (f : Fan) (x : FanRec) : (s.setFan f x).x3 = s.x3 := rfl
@[simp] theorem setFan_xing (s : State) (f : Fan) (x : FanRec) : (s.setFan f x).xing = s.xing := rfl
@[simp] theorem setFan_xslots (s : State) (f : Fan) (x : FanRec) : (s.setFan f x).xslots = s.xslots := rfl
@[simp] theorem setFan_rw (s : State) (f : Fan) (x : FanRec) : (s.setFan f x).rw = s.rw := rfl
@[simp] theorem setFan_nv (s : State) (f : Fan) (x : FanRec) : (s.setFan f x).nv = s.nv := rfl
@[simp] theorem setFan_prof (s : State) (f : Fan) (x : FanRec) : (s.setFan f x).prof = s.prof := rfl
@[simp] theorem setFan_log (s : State) (f : Fan) (x : FanRec) : (s.setFan f x).log = s.log := rfl
@[simp] theorem setFan_wdg (s : State) (f : Fan) (x : FanRec) : (s.setFan f x).wdg = s.wdg := rfl
@[simp] theorem setFan_host (s : State) (f : Fan) (x : FanRec) : (s.setFan f x).host = s.host := rfl
@[simp] theorem setFan_ret (s : State) (f : Fan) (x : FanRec) : (s.setFan f x).ret = s.ret := rfl
@[simp] theorem setFan_slots (s : State) (f : Fan) (x : FanRec) : (s.setFan f x).slots = s.slots := rfl
@[simp] theorem setFan_dom (s : State) (f : Fan) (x : FanRec) : (s.setFan f x).dom = s.dom := rfl
@[simp] theorem setFan_img (s : State) (f : Fan) (x : FanRec) : (s.setFan f x).img = s.img := rfl
@[simp] theorem setFan_nvs (s : State) (f : Fan) (x : FanRec) : (s.setFan f x).nvs = s.nvs := rfl
@[simp] theorem setFan_sys (s : State) (f : Fan) (x : FanRec) : (s.setFan f x).sys = s.sys := rfl
@[simp] theorem setFan_fuse (s : State) (f : Fan) (x : FanRec) : (s.setFan f x).fuse = s.fuse := rfl
@[simp] theorem setFan_fab (s : State) (f : Fan) (x : FanRec) : (s.setFan f x).fab = s.fab := rfl
@[simp] theorem setFan_groups (s : State) (f : Fan) (x : FanRec) : (s.setFan f x).groups = s.groups := rfl
@[simp] theorem setFan_cells (s : State) (f : Fan) (x : FanRec) : (s.setFan f x).cells = s.cells := rfl
@[simp] theorem setFan_culm (s : State) (f : Fan) (x : FanRec) : (s.setFan f x).culm = s.culm := rfl
@[simp] theorem setFan_gov (s : State) (f : Fan) (x : FanRec) : (s.setFan f x).gov = s.gov := rfl
@[simp] theorem setFan_branches (s : State) (f : Fan) (x : FanRec) : (s.setFan f x).branches = s.branches := rfl
@[simp] theorem setFan_loads (s : State) (f : Fan) (x : FanRec) : (s.setFan f x).loads = s.loads := rfl
@[simp] theorem setFan_src (s : State) (f : Fan) (x : FanRec) : (s.setFan f x).src = s.src := rfl
@[simp] theorem setFan_hov (s : State) (f : Fan) (x : FanRec) : (s.setFan f x).hov = s.hov := rfl
@[simp] theorem setFan_flow (s : State) (f : Fan) (x : FanRec) : (s.setFan f x).flow = s.flow := rfl
@[simp] theorem setFan_ctx (s : State) (f : Fan) (x : FanRec) : (s.setFan f x).ctx = s.ctx := rfl
@[simp] theorem setFan_bat (s : State) (f : Fan) (x : FanRec) : (s.setFan f x).bat = s.bat := rfl
@[simp] theorem setFan_fdr (s : State) (f : Fan) (x : FanRec) : (s.setFan f x).fdr = s.fdr := rfl
@[simp] theorem setFan_chg (s : State) (f : Fan) (x : FanRec) : (s.setFan f x).chg = s.chg := rfl
@[simp] theorem setFan_profIO (s : State) (f : Fan) (x : FanRec) : (s.setFan f x).profIO = s.profIO := rfl
@[simp] theorem setFan_bms (s : State) (f : Fan) (x : FanRec) : (s.setFan f x).bms = s.bms := rfl
@[simp] theorem setFan_est (s : State) (f : Fan) (x : FanRec) : (s.setFan f x).est = s.est := rfl
@[simp] theorem setFan_thr (s : State) (f : Fan) (x : FanRec) : (s.setFan f x).thr = s.thr := rfl
@[simp] theorem setFan_sense (s : State) (f : Fan) (x : FanRec) : (s.setFan f x).sense = s.sense := rfl
@[simp] theorem setFan_awn (s : State) (f : Fan) (x : FanRec) : (s.setFan f x).awn = s.awn := rfl
@[simp] theorem setFan_ring (s : State) (f : Fan) (x : FanRec) : (s.setFan f x).ring = s.ring := rfl
@[simp] theorem setFan_can (s : State) (f : Fan) (x : FanRec) : (s.setFan f x).can = s.can := rfl
@[simp] theorem setFan_energy (s : State) (f : Fan) (x : FanRec) : (s.setFan f x).energy = s.energy := rfl
@[simp] theorem setBms_pending (s : State) (k : Bms) (x : BmsRec) : (s.setBms k x).pending = s.pending := rfl
@[simp] theorem setBms_now (s : State) (k : Bms) (x : BmsRec) : (s.setBms k x).now = s.now := rfl
@[simp] theorem setBms_freeN (s : State) (k : Bms) (x : BmsRec) : (s.setBms k x).freeN = s.freeN := rfl
@[simp] theorem setBms_deferred (s : State) (k : Bms) (x : BmsRec) : (s.setBms k x).deferred = s.deferred := rfl
@[simp] theorem setBms_flt (s : State) (k : Bms) (x : BmsRec) : (s.setBms k x).flt = s.flt := rfl
@[simp] theorem setBms_safeLine (s : State) (k : Bms) (x : BmsRec) : (s.setBms k x).safeLine = s.safeLine := rfl
@[simp] theorem setBms_halt (s : State) (k : Bms) (x : BmsRec) : (s.setBms k x).halt = s.halt := rfl
@[simp] theorem setBms_x3 (s : State) (k : Bms) (x : BmsRec) : (s.setBms k x).x3 = s.x3 := rfl
@[simp] theorem setBms_xing (s : State) (k : Bms) (x : BmsRec) : (s.setBms k x).xing = s.xing := rfl
@[simp] theorem setBms_xslots (s : State) (k : Bms) (x : BmsRec) : (s.setBms k x).xslots = s.xslots := rfl
@[simp] theorem setBms_rw (s : State) (k : Bms) (x : BmsRec) : (s.setBms k x).rw = s.rw := rfl
@[simp] theorem setBms_nv (s : State) (k : Bms) (x : BmsRec) : (s.setBms k x).nv = s.nv := rfl
@[simp] theorem setBms_prof (s : State) (k : Bms) (x : BmsRec) : (s.setBms k x).prof = s.prof := rfl
@[simp] theorem setBms_log (s : State) (k : Bms) (x : BmsRec) : (s.setBms k x).log = s.log := rfl
@[simp] theorem setBms_wdg (s : State) (k : Bms) (x : BmsRec) : (s.setBms k x).wdg = s.wdg := rfl
@[simp] theorem setBms_host (s : State) (k : Bms) (x : BmsRec) : (s.setBms k x).host = s.host := rfl
@[simp] theorem setBms_ret (s : State) (k : Bms) (x : BmsRec) : (s.setBms k x).ret = s.ret := rfl
@[simp] theorem setBms_slots (s : State) (k : Bms) (x : BmsRec) : (s.setBms k x).slots = s.slots := rfl
@[simp] theorem setBms_dom (s : State) (k : Bms) (x : BmsRec) : (s.setBms k x).dom = s.dom := rfl
@[simp] theorem setBms_img (s : State) (k : Bms) (x : BmsRec) : (s.setBms k x).img = s.img := rfl
@[simp] theorem setBms_nvs (s : State) (k : Bms) (x : BmsRec) : (s.setBms k x).nvs = s.nvs := rfl
@[simp] theorem setBms_sys (s : State) (k : Bms) (x : BmsRec) : (s.setBms k x).sys = s.sys := rfl
@[simp] theorem setBms_fuse (s : State) (k : Bms) (x : BmsRec) : (s.setBms k x).fuse = s.fuse := rfl
@[simp] theorem setBms_fab (s : State) (k : Bms) (x : BmsRec) : (s.setBms k x).fab = s.fab := rfl
@[simp] theorem setBms_groups (s : State) (k : Bms) (x : BmsRec) : (s.setBms k x).groups = s.groups := rfl
@[simp] theorem setBms_cells (s : State) (k : Bms) (x : BmsRec) : (s.setBms k x).cells = s.cells := rfl
@[simp] theorem setBms_culm (s : State) (k : Bms) (x : BmsRec) : (s.setBms k x).culm = s.culm := rfl
@[simp] theorem setBms_gov (s : State) (k : Bms) (x : BmsRec) : (s.setBms k x).gov = s.gov := rfl
@[simp] theorem setBms_branches (s : State) (k : Bms) (x : BmsRec) : (s.setBms k x).branches = s.branches := rfl
@[simp] theorem setBms_loads (s : State) (k : Bms) (x : BmsRec) : (s.setBms k x).loads = s.loads := rfl
@[simp] theorem setBms_src (s : State) (k : Bms) (x : BmsRec) : (s.setBms k x).src = s.src := rfl
@[simp] theorem setBms_hov (s : State) (k : Bms) (x : BmsRec) : (s.setBms k x).hov = s.hov := rfl
@[simp] theorem setBms_flow (s : State) (k : Bms) (x : BmsRec) : (s.setBms k x).flow = s.flow := rfl
@[simp] theorem setBms_ctx (s : State) (k : Bms) (x : BmsRec) : (s.setBms k x).ctx = s.ctx := rfl
@[simp] theorem setBms_bat (s : State) (k : Bms) (x : BmsRec) : (s.setBms k x).bat = s.bat := rfl
@[simp] theorem setBms_fdr (s : State) (k : Bms) (x : BmsRec) : (s.setBms k x).fdr = s.fdr := rfl
@[simp] theorem setBms_chg (s : State) (k : Bms) (x : BmsRec) : (s.setBms k x).chg = s.chg := rfl
@[simp] theorem setBms_profIO (s : State) (k : Bms) (x : BmsRec) : (s.setBms k x).profIO = s.profIO := rfl
@[simp] theorem setBms_est (s : State) (k : Bms) (x : BmsRec) : (s.setBms k x).est = s.est := rfl
@[simp] theorem setBms_thm (s : State) (k : Bms) (x : BmsRec) : (s.setBms k x).thm = s.thm := rfl
@[simp] theorem setBms_thr (s : State) (k : Bms) (x : BmsRec) : (s.setBms k x).thr = s.thr := rfl
@[simp] theorem setBms_sense (s : State) (k : Bms) (x : BmsRec) : (s.setBms k x).sense = s.sense := rfl
@[simp] theorem setBms_awn (s : State) (k : Bms) (x : BmsRec) : (s.setBms k x).awn = s.awn := rfl
@[simp] theorem setBms_ring (s : State) (k : Bms) (x : BmsRec) : (s.setBms k x).ring = s.ring := rfl
@[simp] theorem setBms_can (s : State) (k : Bms) (x : BmsRec) : (s.setBms k x).can = s.can := rfl
@[simp] theorem setBms_energy (s : State) (k : Bms) (x : BmsRec) : (s.setBms k x).energy = s.energy := rfl
@[simp] theorem setBms_bms (s : State) (k : Bms) (x : BmsRec) : (s.setBms k x).bms = vset s.bms k x := rfl
@[simp] theorem setFlt_pending (s : State) (b : Blk) (x : BlkFault) : (s.setFlt b x).pending = s.pending := rfl
@[simp] theorem setFlt_now (s : State) (b : Blk) (x : BlkFault) : (s.setFlt b x).now = s.now := rfl
@[simp] theorem setFlt_freeN (s : State) (b : Blk) (x : BlkFault) : (s.setFlt b x).freeN = s.freeN := rfl
@[simp] theorem setFlt_deferred (s : State) (b : Blk) (x : BlkFault) : (s.setFlt b x).deferred = s.deferred := rfl
@[simp] theorem setFlt_safeLine (s : State) (b : Blk) (x : BlkFault) : (s.setFlt b x).safeLine = s.safeLine := rfl
@[simp] theorem setFlt_halt (s : State) (b : Blk) (x : BlkFault) : (s.setFlt b x).halt = s.halt := rfl
@[simp] theorem setFlt_x3 (s : State) (b : Blk) (x : BlkFault) : (s.setFlt b x).x3 = s.x3 := rfl
@[simp] theorem setFlt_xing (s : State) (b : Blk) (x : BlkFault) : (s.setFlt b x).xing = s.xing := rfl
@[simp] theorem setFlt_xslots (s : State) (b : Blk) (x : BlkFault) : (s.setFlt b x).xslots = s.xslots := rfl
@[simp] theorem setFlt_rw (s : State) (b : Blk) (x : BlkFault) : (s.setFlt b x).rw = s.rw := rfl
@[simp] theorem setFlt_nv (s : State) (b : Blk) (x : BlkFault) : (s.setFlt b x).nv = s.nv := rfl
@[simp] theorem setFlt_prof (s : State) (b : Blk) (x : BlkFault) : (s.setFlt b x).prof = s.prof := rfl
@[simp] theorem setFlt_log (s : State) (b : Blk) (x : BlkFault) : (s.setFlt b x).log = s.log := rfl
@[simp] theorem setFlt_wdg (s : State) (b : Blk) (x : BlkFault) : (s.setFlt b x).wdg = s.wdg := rfl
@[simp] theorem setFlt_host (s : State) (b : Blk) (x : BlkFault) : (s.setFlt b x).host = s.host := rfl
@[simp] theorem setFlt_ret (s : State) (b : Blk) (x : BlkFault) : (s.setFlt b x).ret = s.ret := rfl
@[simp] theorem setFlt_slots (s : State) (b : Blk) (x : BlkFault) : (s.setFlt b x).slots = s.slots := rfl
@[simp] theorem setFlt_dom (s : State) (b : Blk) (x : BlkFault) : (s.setFlt b x).dom = s.dom := rfl
@[simp] theorem setFlt_img (s : State) (b : Blk) (x : BlkFault) : (s.setFlt b x).img = s.img := rfl
@[simp] theorem setFlt_nvs (s : State) (b : Blk) (x : BlkFault) : (s.setFlt b x).nvs = s.nvs := rfl
@[simp] theorem setFlt_sys (s : State) (b : Blk) (x : BlkFault) : (s.setFlt b x).sys = s.sys := rfl
@[simp] theorem setFlt_fuse (s : State) (b : Blk) (x : BlkFault) : (s.setFlt b x).fuse = s.fuse := rfl
@[simp] theorem setFlt_fab (s : State) (b : Blk) (x : BlkFault) : (s.setFlt b x).fab = s.fab := rfl
@[simp] theorem setFlt_groups (s : State) (b : Blk) (x : BlkFault) : (s.setFlt b x).groups = s.groups := rfl
@[simp] theorem setFlt_cells (s : State) (b : Blk) (x : BlkFault) : (s.setFlt b x).cells = s.cells := rfl
@[simp] theorem setFlt_culm (s : State) (b : Blk) (x : BlkFault) : (s.setFlt b x).culm = s.culm := rfl
@[simp] theorem setFlt_gov (s : State) (b : Blk) (x : BlkFault) : (s.setFlt b x).gov = s.gov := rfl
@[simp] theorem setFlt_branches (s : State) (b : Blk) (x : BlkFault) : (s.setFlt b x).branches = s.branches := rfl
@[simp] theorem setFlt_loads (s : State) (b : Blk) (x : BlkFault) : (s.setFlt b x).loads = s.loads := rfl
@[simp] theorem setFlt_src (s : State) (b : Blk) (x : BlkFault) : (s.setFlt b x).src = s.src := rfl
@[simp] theorem setFlt_hov (s : State) (b : Blk) (x : BlkFault) : (s.setFlt b x).hov = s.hov := rfl
@[simp] theorem setFlt_flow (s : State) (b : Blk) (x : BlkFault) : (s.setFlt b x).flow = s.flow := rfl
@[simp] theorem setFlt_ctx (s : State) (b : Blk) (x : BlkFault) : (s.setFlt b x).ctx = s.ctx := rfl
@[simp] theorem setFlt_bat (s : State) (b : Blk) (x : BlkFault) : (s.setFlt b x).bat = s.bat := rfl
@[simp] theorem setFlt_fdr (s : State) (b : Blk) (x : BlkFault) : (s.setFlt b x).fdr = s.fdr := rfl
@[simp] theorem setFlt_chg (s : State) (b : Blk) (x : BlkFault) : (s.setFlt b x).chg = s.chg := rfl
@[simp] theorem setFlt_profIO (s : State) (b : Blk) (x : BlkFault) : (s.setFlt b x).profIO = s.profIO := rfl
@[simp] theorem setFlt_bms (s : State) (b : Blk) (x : BlkFault) : (s.setFlt b x).bms = s.bms := rfl
@[simp] theorem setFlt_est (s : State) (b : Blk) (x : BlkFault) : (s.setFlt b x).est = s.est := rfl
@[simp] theorem setFlt_thm (s : State) (b : Blk) (x : BlkFault) : (s.setFlt b x).thm = s.thm := rfl
@[simp] theorem setFlt_thr (s : State) (b : Blk) (x : BlkFault) : (s.setFlt b x).thr = s.thr := rfl
@[simp] theorem setFlt_sense (s : State) (b : Blk) (x : BlkFault) : (s.setFlt b x).sense = s.sense := rfl
@[simp] theorem setFlt_awn (s : State) (b : Blk) (x : BlkFault) : (s.setFlt b x).awn = s.awn := rfl
@[simp] theorem setFlt_ring (s : State) (b : Blk) (x : BlkFault) : (s.setFlt b x).ring = s.ring := rfl
@[simp] theorem setFlt_can (s : State) (b : Blk) (x : BlkFault) : (s.setFlt b x).can = s.can := rfl
@[simp] theorem setFlt_energy (s : State) (b : Blk) (x : BlkFault) : (s.setFlt b x).energy = s.energy := rfl
@[simp] theorem setFlt_flt (s : State) (b : Blk) (x : BlkFault) : (s.setFlt b x).flt = vset s.flt b x := rfl
@[simp] theorem setHalt_pending (s : State) (p : Port) (x : List Driver) : (s.setHalt p x).pending = s.pending := rfl
@[simp] theorem setHalt_now (s : State) (p : Port) (x : List Driver) : (s.setHalt p x).now = s.now := rfl
@[simp] theorem setHalt_freeN (s : State) (p : Port) (x : List Driver) : (s.setHalt p x).freeN = s.freeN := rfl
@[simp] theorem setHalt_deferred (s : State) (p : Port) (x : List Driver) : (s.setHalt p x).deferred = s.deferred := rfl
@[simp] theorem setHalt_flt (s : State) (p : Port) (x : List Driver) : (s.setHalt p x).flt = s.flt := rfl
@[simp] theorem setHalt_safeLine (s : State) (p : Port) (x : List Driver) : (s.setHalt p x).safeLine = s.safeLine := rfl
@[simp] theorem setHalt_x3 (s : State) (p : Port) (x : List Driver) : (s.setHalt p x).x3 = s.x3 := rfl
@[simp] theorem setHalt_xing (s : State) (p : Port) (x : List Driver) : (s.setHalt p x).xing = s.xing := rfl
@[simp] theorem setHalt_xslots (s : State) (p : Port) (x : List Driver) : (s.setHalt p x).xslots = s.xslots := rfl
@[simp] theorem setHalt_rw (s : State) (p : Port) (x : List Driver) : (s.setHalt p x).rw = s.rw := rfl
@[simp] theorem setHalt_nv (s : State) (p : Port) (x : List Driver) : (s.setHalt p x).nv = s.nv := rfl
@[simp] theorem setHalt_prof (s : State) (p : Port) (x : List Driver) : (s.setHalt p x).prof = s.prof := rfl
@[simp] theorem setHalt_log (s : State) (p : Port) (x : List Driver) : (s.setHalt p x).log = s.log := rfl
@[simp] theorem setHalt_wdg (s : State) (p : Port) (x : List Driver) : (s.setHalt p x).wdg = s.wdg := rfl
@[simp] theorem setHalt_host (s : State) (p : Port) (x : List Driver) : (s.setHalt p x).host = s.host := rfl
@[simp] theorem setHalt_ret (s : State) (p : Port) (x : List Driver) : (s.setHalt p x).ret = s.ret := rfl
@[simp] theorem setHalt_slots (s : State) (p : Port) (x : List Driver) : (s.setHalt p x).slots = s.slots := rfl
@[simp] theorem setHalt_dom (s : State) (p : Port) (x : List Driver) : (s.setHalt p x).dom = s.dom := rfl
@[simp] theorem setHalt_img (s : State) (p : Port) (x : List Driver) : (s.setHalt p x).img = s.img := rfl
@[simp] theorem setHalt_nvs (s : State) (p : Port) (x : List Driver) : (s.setHalt p x).nvs = s.nvs := rfl
@[simp] theorem setHalt_sys (s : State) (p : Port) (x : List Driver) : (s.setHalt p x).sys = s.sys := rfl
@[simp] theorem setHalt_fuse (s : State) (p : Port) (x : List Driver) : (s.setHalt p x).fuse = s.fuse := rfl
@[simp] theorem setHalt_fab (s : State) (p : Port) (x : List Driver) : (s.setHalt p x).fab = s.fab := rfl
@[simp] theorem setHalt_groups (s : State) (p : Port) (x : List Driver) : (s.setHalt p x).groups = s.groups := rfl
@[simp] theorem setHalt_cells (s : State) (p : Port) (x : List Driver) : (s.setHalt p x).cells = s.cells := rfl
@[simp] theorem setHalt_culm (s : State) (p : Port) (x : List Driver) : (s.setHalt p x).culm = s.culm := rfl
@[simp] theorem setHalt_gov (s : State) (p : Port) (x : List Driver) : (s.setHalt p x).gov = s.gov := rfl
@[simp] theorem setHalt_branches (s : State) (p : Port) (x : List Driver) : (s.setHalt p x).branches = s.branches := rfl
@[simp] theorem setHalt_loads (s : State) (p : Port) (x : List Driver) : (s.setHalt p x).loads = s.loads := rfl
@[simp] theorem setHalt_src (s : State) (p : Port) (x : List Driver) : (s.setHalt p x).src = s.src := rfl
@[simp] theorem setHalt_hov (s : State) (p : Port) (x : List Driver) : (s.setHalt p x).hov = s.hov := rfl
@[simp] theorem setHalt_flow (s : State) (p : Port) (x : List Driver) : (s.setHalt p x).flow = s.flow := rfl
@[simp] theorem setHalt_ctx (s : State) (p : Port) (x : List Driver) : (s.setHalt p x).ctx = s.ctx := rfl
@[simp] theorem setHalt_bat (s : State) (p : Port) (x : List Driver) : (s.setHalt p x).bat = s.bat := rfl
@[simp] theorem setHalt_fdr (s : State) (p : Port) (x : List Driver) : (s.setHalt p x).fdr = s.fdr := rfl
@[simp] theorem setHalt_chg (s : State) (p : Port) (x : List Driver) : (s.setHalt p x).chg = s.chg := rfl
@[simp] theorem setHalt_profIO (s : State) (p : Port) (x : List Driver) : (s.setHalt p x).profIO = s.profIO := rfl
@[simp] theorem setHalt_bms (s : State) (p : Port) (x : List Driver) : (s.setHalt p x).bms = s.bms := rfl
@[simp] theorem setHalt_est (s : State) (p : Port) (x : List Driver) : (s.setHalt p x).est = s.est := rfl
@[simp] theorem setHalt_thm (s : State) (p : Port) (x : List Driver) : (s.setHalt p x).thm = s.thm := rfl
@[simp] theorem setHalt_thr (s : State) (p : Port) (x : List Driver) : (s.setHalt p x).thr = s.thr := rfl
@[simp] theorem setHalt_sense (s : State) (p : Port) (x : List Driver) : (s.setHalt p x).sense = s.sense := rfl
@[simp] theorem setHalt_awn (s : State) (p : Port) (x : List Driver) : (s.setHalt p x).awn = s.awn := rfl
@[simp] theorem setHalt_ring (s : State) (p : Port) (x : List Driver) : (s.setHalt p x).ring = s.ring := rfl
@[simp] theorem setHalt_can (s : State) (p : Port) (x : List Driver) : (s.setHalt p x).can = s.can := rfl
@[simp] theorem setHalt_energy (s : State) (p : Port) (x : List Driver) : (s.setHalt p x).energy = s.energy := rfl
@[simp] theorem setHalt_halt (s : State) (p : Port) (x : List Driver) : (s.setHalt p x).halt = vset s.halt p x := rfl
@[simp] theorem setXing_pending (s : State) (k : Xing) (x : XingRec) : (s.setXing k x).pending = s.pending := rfl
@[simp] theorem setXing_now (s : State) (k : Xing) (x : XingRec) : (s.setXing k x).now = s.now := rfl
@[simp] theorem setXing_freeN (s : State) (k : Xing) (x : XingRec) : (s.setXing k x).freeN = s.freeN := rfl
@[simp] theorem setXing_deferred (s : State) (k : Xing) (x : XingRec) : (s.setXing k x).deferred = s.deferred := rfl
@[simp] theorem setXing_flt (s : State) (k : Xing) (x : XingRec) : (s.setXing k x).flt = s.flt := rfl
@[simp] theorem setXing_safeLine (s : State) (k : Xing) (x : XingRec) : (s.setXing k x).safeLine = s.safeLine := rfl
@[simp] theorem setXing_halt (s : State) (k : Xing) (x : XingRec) : (s.setXing k x).halt = s.halt := rfl
@[simp] theorem setXing_x3 (s : State) (k : Xing) (x : XingRec) : (s.setXing k x).x3 = s.x3 := rfl
@[simp] theorem setXing_xslots (s : State) (k : Xing) (x : XingRec) : (s.setXing k x).xslots = s.xslots := rfl
@[simp] theorem setXing_rw (s : State) (k : Xing) (x : XingRec) : (s.setXing k x).rw = s.rw := rfl
@[simp] theorem setXing_nv (s : State) (k : Xing) (x : XingRec) : (s.setXing k x).nv = s.nv := rfl
@[simp] theorem setXing_prof (s : State) (k : Xing) (x : XingRec) : (s.setXing k x).prof = s.prof := rfl
@[simp] theorem setXing_log (s : State) (k : Xing) (x : XingRec) : (s.setXing k x).log = s.log := rfl
@[simp] theorem setXing_wdg (s : State) (k : Xing) (x : XingRec) : (s.setXing k x).wdg = s.wdg := rfl
@[simp] theorem setXing_host (s : State) (k : Xing) (x : XingRec) : (s.setXing k x).host = s.host := rfl
@[simp] theorem setXing_ret (s : State) (k : Xing) (x : XingRec) : (s.setXing k x).ret = s.ret := rfl
@[simp] theorem setXing_slots (s : State) (k : Xing) (x : XingRec) : (s.setXing k x).slots = s.slots := rfl
@[simp] theorem setXing_dom (s : State) (k : Xing) (x : XingRec) : (s.setXing k x).dom = s.dom := rfl
@[simp] theorem setXing_img (s : State) (k : Xing) (x : XingRec) : (s.setXing k x).img = s.img := rfl
@[simp] theorem setXing_nvs (s : State) (k : Xing) (x : XingRec) : (s.setXing k x).nvs = s.nvs := rfl
@[simp] theorem setXing_sys (s : State) (k : Xing) (x : XingRec) : (s.setXing k x).sys = s.sys := rfl
@[simp] theorem setXing_fuse (s : State) (k : Xing) (x : XingRec) : (s.setXing k x).fuse = s.fuse := rfl
@[simp] theorem setXing_fab (s : State) (k : Xing) (x : XingRec) : (s.setXing k x).fab = s.fab := rfl
@[simp] theorem setXing_groups (s : State) (k : Xing) (x : XingRec) : (s.setXing k x).groups = s.groups := rfl
@[simp] theorem setXing_cells (s : State) (k : Xing) (x : XingRec) : (s.setXing k x).cells = s.cells := rfl
@[simp] theorem setXing_culm (s : State) (k : Xing) (x : XingRec) : (s.setXing k x).culm = s.culm := rfl
@[simp] theorem setXing_gov (s : State) (k : Xing) (x : XingRec) : (s.setXing k x).gov = s.gov := rfl
@[simp] theorem setXing_branches (s : State) (k : Xing) (x : XingRec) : (s.setXing k x).branches = s.branches := rfl
@[simp] theorem setXing_loads (s : State) (k : Xing) (x : XingRec) : (s.setXing k x).loads = s.loads := rfl
@[simp] theorem setXing_src (s : State) (k : Xing) (x : XingRec) : (s.setXing k x).src = s.src := rfl
@[simp] theorem setXing_hov (s : State) (k : Xing) (x : XingRec) : (s.setXing k x).hov = s.hov := rfl
@[simp] theorem setXing_flow (s : State) (k : Xing) (x : XingRec) : (s.setXing k x).flow = s.flow := rfl
@[simp] theorem setXing_ctx (s : State) (k : Xing) (x : XingRec) : (s.setXing k x).ctx = s.ctx := rfl
@[simp] theorem setXing_bat (s : State) (k : Xing) (x : XingRec) : (s.setXing k x).bat = s.bat := rfl
@[simp] theorem setXing_fdr (s : State) (k : Xing) (x : XingRec) : (s.setXing k x).fdr = s.fdr := rfl
@[simp] theorem setXing_chg (s : State) (k : Xing) (x : XingRec) : (s.setXing k x).chg = s.chg := rfl
@[simp] theorem setXing_profIO (s : State) (k : Xing) (x : XingRec) : (s.setXing k x).profIO = s.profIO := rfl
@[simp] theorem setXing_bms (s : State) (k : Xing) (x : XingRec) : (s.setXing k x).bms = s.bms := rfl
@[simp] theorem setXing_est (s : State) (k : Xing) (x : XingRec) : (s.setXing k x).est = s.est := rfl
@[simp] theorem setXing_thm (s : State) (k : Xing) (x : XingRec) : (s.setXing k x).thm = s.thm := rfl
@[simp] theorem setXing_thr (s : State) (k : Xing) (x : XingRec) : (s.setXing k x).thr = s.thr := rfl
@[simp] theorem setXing_sense (s : State) (k : Xing) (x : XingRec) : (s.setXing k x).sense = s.sense := rfl
@[simp] theorem setXing_awn (s : State) (k : Xing) (x : XingRec) : (s.setXing k x).awn = s.awn := rfl
@[simp] theorem setXing_ring (s : State) (k : Xing) (x : XingRec) : (s.setXing k x).ring = s.ring := rfl
@[simp] theorem setXing_can (s : State) (k : Xing) (x : XingRec) : (s.setXing k x).can = s.can := rfl
@[simp] theorem setXing_energy (s : State) (k : Xing) (x : XingRec) : (s.setXing k x).energy = s.energy := rfl
@[simp] theorem setXing_xing (s : State) (k : Xing) (x : XingRec) : (s.setXing k x).xing = vset s.xing k x := rfl
@[simp] theorem putReg_pending (s : State) (a : Nat) (v : Word) : (s.putReg a v).pending = s.pending := rfl
@[simp] theorem putReg_now (s : State) (a : Nat) (v : Word) : (s.putReg a v).now = s.now := rfl
@[simp] theorem putReg_freeN (s : State) (a : Nat) (v : Word) : (s.putReg a v).freeN = s.freeN := rfl
@[simp] theorem putReg_deferred (s : State) (a : Nat) (v : Word) : (s.putReg a v).deferred = s.deferred := rfl
@[simp] theorem putReg_flt (s : State) (a : Nat) (v : Word) : (s.putReg a v).flt = s.flt := rfl
@[simp] theorem putReg_safeLine (s : State) (a : Nat) (v : Word) : (s.putReg a v).safeLine = s.safeLine := rfl
@[simp] theorem putReg_halt (s : State) (a : Nat) (v : Word) : (s.putReg a v).halt = s.halt := rfl
@[simp] theorem putReg_x3 (s : State) (a : Nat) (v : Word) : (s.putReg a v).x3 = s.x3 := rfl
@[simp] theorem putReg_xing (s : State) (a : Nat) (v : Word) : (s.putReg a v).xing = s.xing := rfl
@[simp] theorem putReg_xslots (s : State) (a : Nat) (v : Word) : (s.putReg a v).xslots = s.xslots := rfl
@[simp] theorem putReg_nv (s : State) (a : Nat) (v : Word) : (s.putReg a v).nv = s.nv := rfl
@[simp] theorem putReg_prof (s : State) (a : Nat) (v : Word) : (s.putReg a v).prof = s.prof := rfl
@[simp] theorem putReg_log (s : State) (a : Nat) (v : Word) : (s.putReg a v).log = s.log := rfl
@[simp] theorem putReg_wdg (s : State) (a : Nat) (v : Word) : (s.putReg a v).wdg = s.wdg := rfl
@[simp] theorem putReg_host (s : State) (a : Nat) (v : Word) : (s.putReg a v).host = s.host := rfl
@[simp] theorem putReg_ret (s : State) (a : Nat) (v : Word) : (s.putReg a v).ret = s.ret := rfl
@[simp] theorem putReg_slots (s : State) (a : Nat) (v : Word) : (s.putReg a v).slots = s.slots := rfl
@[simp] theorem putReg_dom (s : State) (a : Nat) (v : Word) : (s.putReg a v).dom = s.dom := rfl
@[simp] theorem putReg_img (s : State) (a : Nat) (v : Word) : (s.putReg a v).img = s.img := rfl
@[simp] theorem putReg_nvs (s : State) (a : Nat) (v : Word) : (s.putReg a v).nvs = s.nvs := rfl
@[simp] theorem putReg_sys (s : State) (a : Nat) (v : Word) : (s.putReg a v).sys = s.sys := rfl
@[simp] theorem putReg_fuse (s : State) (a : Nat) (v : Word) : (s.putReg a v).fuse = s.fuse := rfl
@[simp] theorem putReg_fab (s : State) (a : Nat) (v : Word) : (s.putReg a v).fab = s.fab := rfl
@[simp] theorem putReg_groups (s : State) (a : Nat) (v : Word) : (s.putReg a v).groups = s.groups := rfl
@[simp] theorem putReg_cells (s : State) (a : Nat) (v : Word) : (s.putReg a v).cells = s.cells := rfl
@[simp] theorem putReg_culm (s : State) (a : Nat) (v : Word) : (s.putReg a v).culm = s.culm := rfl
@[simp] theorem putReg_gov (s : State) (a : Nat) (v : Word) : (s.putReg a v).gov = s.gov := rfl
@[simp] theorem putReg_branches (s : State) (a : Nat) (v : Word) : (s.putReg a v).branches = s.branches := rfl
@[simp] theorem putReg_loads (s : State) (a : Nat) (v : Word) : (s.putReg a v).loads = s.loads := rfl
@[simp] theorem putReg_src (s : State) (a : Nat) (v : Word) : (s.putReg a v).src = s.src := rfl
@[simp] theorem putReg_hov (s : State) (a : Nat) (v : Word) : (s.putReg a v).hov = s.hov := rfl
@[simp] theorem putReg_flow (s : State) (a : Nat) (v : Word) : (s.putReg a v).flow = s.flow := rfl
@[simp] theorem putReg_ctx (s : State) (a : Nat) (v : Word) : (s.putReg a v).ctx = s.ctx := rfl
@[simp] theorem putReg_bat (s : State) (a : Nat) (v : Word) : (s.putReg a v).bat = s.bat := rfl
@[simp] theorem putReg_fdr (s : State) (a : Nat) (v : Word) : (s.putReg a v).fdr = s.fdr := rfl
@[simp] theorem putReg_chg (s : State) (a : Nat) (v : Word) : (s.putReg a v).chg = s.chg := rfl
@[simp] theorem putReg_profIO (s : State) (a : Nat) (v : Word) : (s.putReg a v).profIO = s.profIO := rfl
@[simp] theorem putReg_bms (s : State) (a : Nat) (v : Word) : (s.putReg a v).bms = s.bms := rfl
@[simp] theorem putReg_est (s : State) (a : Nat) (v : Word) : (s.putReg a v).est = s.est := rfl
@[simp] theorem putReg_thm (s : State) (a : Nat) (v : Word) : (s.putReg a v).thm = s.thm := rfl
@[simp] theorem putReg_thr (s : State) (a : Nat) (v : Word) : (s.putReg a v).thr = s.thr := rfl
@[simp] theorem putReg_sense (s : State) (a : Nat) (v : Word) : (s.putReg a v).sense = s.sense := rfl
@[simp] theorem putReg_awn (s : State) (a : Nat) (v : Word) : (s.putReg a v).awn = s.awn := rfl
@[simp] theorem putReg_ring (s : State) (a : Nat) (v : Word) : (s.putReg a v).ring = s.ring := rfl
@[simp] theorem putReg_can (s : State) (a : Nat) (v : Word) : (s.putReg a v).can = s.can := rfl
@[simp] theorem putReg_energy (s : State) (a : Nat) (v : Word) : (s.putReg a v).energy = s.energy := rfl
@[simp] theorem carry_pending (s : State) (a : Nat) (v : Word) : (s.carry a v).pending = s.pending := rfl
@[simp] theorem carry_now (s : State) (a : Nat) (v : Word) : (s.carry a v).now = s.now := rfl
@[simp] theorem carry_freeN (s : State) (a : Nat) (v : Word) : (s.carry a v).freeN = s.freeN := rfl
@[simp] theorem carry_flt (s : State) (a : Nat) (v : Word) : (s.carry a v).flt = s.flt := rfl
@[simp] theorem carry_safeLine (s : State) (a : Nat) (v : Word) : (s.carry a v).safeLine = s.safeLine := rfl
@[simp] theorem carry_halt (s : State) (a : Nat) (v : Word) : (s.carry a v).halt = s.halt := rfl
@[simp] theorem carry_x3 (s : State) (a : Nat) (v : Word) : (s.carry a v).x3 = s.x3 := rfl
@[simp] theorem carry_xing (s : State) (a : Nat) (v : Word) : (s.carry a v).xing = s.xing := rfl
@[simp] theorem carry_xslots (s : State) (a : Nat) (v : Word) : (s.carry a v).xslots = s.xslots := rfl
@[simp] theorem carry_rw (s : State) (a : Nat) (v : Word) : (s.carry a v).rw = s.rw := rfl
@[simp] theorem carry_nv (s : State) (a : Nat) (v : Word) : (s.carry a v).nv = s.nv := rfl
@[simp] theorem carry_prof (s : State) (a : Nat) (v : Word) : (s.carry a v).prof = s.prof := rfl
@[simp] theorem carry_log (s : State) (a : Nat) (v : Word) : (s.carry a v).log = s.log := rfl
@[simp] theorem carry_wdg (s : State) (a : Nat) (v : Word) : (s.carry a v).wdg = s.wdg := rfl
@[simp] theorem carry_host (s : State) (a : Nat) (v : Word) : (s.carry a v).host = s.host := rfl
@[simp] theorem carry_ret (s : State) (a : Nat) (v : Word) : (s.carry a v).ret = s.ret := rfl
@[simp] theorem carry_slots (s : State) (a : Nat) (v : Word) : (s.carry a v).slots = s.slots := rfl
@[simp] theorem carry_dom (s : State) (a : Nat) (v : Word) : (s.carry a v).dom = s.dom := rfl
@[simp] theorem carry_img (s : State) (a : Nat) (v : Word) : (s.carry a v).img = s.img := rfl
@[simp] theorem carry_nvs (s : State) (a : Nat) (v : Word) : (s.carry a v).nvs = s.nvs := rfl
@[simp] theorem carry_sys (s : State) (a : Nat) (v : Word) : (s.carry a v).sys = s.sys := rfl
@[simp] theorem carry_fuse (s : State) (a : Nat) (v : Word) : (s.carry a v).fuse = s.fuse := rfl
@[simp] theorem carry_fab (s : State) (a : Nat) (v : Word) : (s.carry a v).fab = s.fab := rfl
@[simp] theorem carry_groups (s : State) (a : Nat) (v : Word) : (s.carry a v).groups = s.groups := rfl
@[simp] theorem carry_cells (s : State) (a : Nat) (v : Word) : (s.carry a v).cells = s.cells := rfl
@[simp] theorem carry_culm (s : State) (a : Nat) (v : Word) : (s.carry a v).culm = s.culm := rfl
@[simp] theorem carry_gov (s : State) (a : Nat) (v : Word) : (s.carry a v).gov = s.gov := rfl
@[simp] theorem carry_branches (s : State) (a : Nat) (v : Word) : (s.carry a v).branches = s.branches := rfl
@[simp] theorem carry_loads (s : State) (a : Nat) (v : Word) : (s.carry a v).loads = s.loads := rfl
@[simp] theorem carry_src (s : State) (a : Nat) (v : Word) : (s.carry a v).src = s.src := rfl
@[simp] theorem carry_hov (s : State) (a : Nat) (v : Word) : (s.carry a v).hov = s.hov := rfl
@[simp] theorem carry_flow (s : State) (a : Nat) (v : Word) : (s.carry a v).flow = s.flow := rfl
@[simp] theorem carry_ctx (s : State) (a : Nat) (v : Word) : (s.carry a v).ctx = s.ctx := rfl
@[simp] theorem carry_bat (s : State) (a : Nat) (v : Word) : (s.carry a v).bat = s.bat := rfl
@[simp] theorem carry_fdr (s : State) (a : Nat) (v : Word) : (s.carry a v).fdr = s.fdr := rfl
@[simp] theorem carry_chg (s : State) (a : Nat) (v : Word) : (s.carry a v).chg = s.chg := rfl
@[simp] theorem carry_profIO (s : State) (a : Nat) (v : Word) : (s.carry a v).profIO = s.profIO := rfl
@[simp] theorem carry_bms (s : State) (a : Nat) (v : Word) : (s.carry a v).bms = s.bms := rfl
@[simp] theorem carry_est (s : State) (a : Nat) (v : Word) : (s.carry a v).est = s.est := rfl
@[simp] theorem carry_thm (s : State) (a : Nat) (v : Word) : (s.carry a v).thm = s.thm := rfl
@[simp] theorem carry_thr (s : State) (a : Nat) (v : Word) : (s.carry a v).thr = s.thr := rfl
@[simp] theorem carry_sense (s : State) (a : Nat) (v : Word) : (s.carry a v).sense = s.sense := rfl
@[simp] theorem carry_awn (s : State) (a : Nat) (v : Word) : (s.carry a v).awn = s.awn := rfl
@[simp] theorem carry_ring (s : State) (a : Nat) (v : Word) : (s.carry a v).ring = s.ring := rfl
@[simp] theorem carry_can (s : State) (a : Nat) (v : Word) : (s.carry a v).can = s.can := rfl
@[simp] theorem carry_energy (s : State) (a : Nat) (v : Word) : (s.carry a v).energy = s.energy := rfl
@[simp] theorem drew_pending (s : State) : (s.drew).pending = s.pending := rfl
@[simp] theorem drew_now (s : State) : (s.drew).now = s.now := rfl
@[simp] theorem drew_deferred (s : State) : (s.drew).deferred = s.deferred := rfl
@[simp] theorem drew_flt (s : State) : (s.drew).flt = s.flt := rfl
@[simp] theorem drew_safeLine (s : State) : (s.drew).safeLine = s.safeLine := rfl
@[simp] theorem drew_halt (s : State) : (s.drew).halt = s.halt := rfl
@[simp] theorem drew_x3 (s : State) : (s.drew).x3 = s.x3 := rfl
@[simp] theorem drew_xing (s : State) : (s.drew).xing = s.xing := rfl
@[simp] theorem drew_xslots (s : State) : (s.drew).xslots = s.xslots := rfl
@[simp] theorem drew_rw (s : State) : (s.drew).rw = s.rw := rfl
@[simp] theorem drew_nv (s : State) : (s.drew).nv = s.nv := rfl
@[simp] theorem drew_prof (s : State) : (s.drew).prof = s.prof := rfl
@[simp] theorem drew_log (s : State) : (s.drew).log = s.log := rfl
@[simp] theorem drew_wdg (s : State) : (s.drew).wdg = s.wdg := rfl
@[simp] theorem drew_host (s : State) : (s.drew).host = s.host := rfl
@[simp] theorem drew_ret (s : State) : (s.drew).ret = s.ret := rfl
@[simp] theorem drew_slots (s : State) : (s.drew).slots = s.slots := rfl
@[simp] theorem drew_dom (s : State) : (s.drew).dom = s.dom := rfl
@[simp] theorem drew_img (s : State) : (s.drew).img = s.img := rfl
@[simp] theorem drew_nvs (s : State) : (s.drew).nvs = s.nvs := rfl
@[simp] theorem drew_sys (s : State) : (s.drew).sys = s.sys := rfl
@[simp] theorem drew_fuse (s : State) : (s.drew).fuse = s.fuse := rfl
@[simp] theorem drew_fab (s : State) : (s.drew).fab = s.fab := rfl
@[simp] theorem drew_groups (s : State) : (s.drew).groups = s.groups := rfl
@[simp] theorem drew_cells (s : State) : (s.drew).cells = s.cells := rfl
@[simp] theorem drew_culm (s : State) : (s.drew).culm = s.culm := rfl
@[simp] theorem drew_gov (s : State) : (s.drew).gov = s.gov := rfl
@[simp] theorem drew_branches (s : State) : (s.drew).branches = s.branches := rfl
@[simp] theorem drew_loads (s : State) : (s.drew).loads = s.loads := rfl
@[simp] theorem drew_src (s : State) : (s.drew).src = s.src := rfl
@[simp] theorem drew_hov (s : State) : (s.drew).hov = s.hov := rfl
@[simp] theorem drew_flow (s : State) : (s.drew).flow = s.flow := rfl
@[simp] theorem drew_ctx (s : State) : (s.drew).ctx = s.ctx := rfl
@[simp] theorem drew_bat (s : State) : (s.drew).bat = s.bat := rfl
@[simp] theorem drew_fdr (s : State) : (s.drew).fdr = s.fdr := rfl
@[simp] theorem drew_chg (s : State) : (s.drew).chg = s.chg := rfl
@[simp] theorem drew_profIO (s : State) : (s.drew).profIO = s.profIO := rfl
@[simp] theorem drew_bms (s : State) : (s.drew).bms = s.bms := rfl
@[simp] theorem drew_est (s : State) : (s.drew).est = s.est := rfl
@[simp] theorem drew_thm (s : State) : (s.drew).thm = s.thm := rfl
@[simp] theorem drew_thr (s : State) : (s.drew).thr = s.thr := rfl
@[simp] theorem drew_sense (s : State) : (s.drew).sense = s.sense := rfl
@[simp] theorem drew_awn (s : State) : (s.drew).awn = s.awn := rfl
@[simp] theorem drew_ring (s : State) : (s.drew).ring = s.ring := rfl
@[simp] theorem drew_can (s : State) : (s.drew).can = s.can := rfl
@[simp] theorem drew_energy (s : State) : (s.drew).energy = s.energy := rfl
@[simp] theorem elapse_pending (s : State) : (s.elapse).pending = s.pending := rfl
@[simp] theorem elapse_freeN (s : State) : (s.elapse).freeN = s.freeN := rfl
@[simp] theorem elapse_deferred (s : State) : (s.elapse).deferred = s.deferred := rfl
@[simp] theorem elapse_flt (s : State) : (s.elapse).flt = s.flt := rfl
@[simp] theorem elapse_safeLine (s : State) : (s.elapse).safeLine = s.safeLine := rfl
@[simp] theorem elapse_halt (s : State) : (s.elapse).halt = s.halt := rfl
@[simp] theorem elapse_x3 (s : State) : (s.elapse).x3 = s.x3 := rfl
@[simp] theorem elapse_xing (s : State) : (s.elapse).xing = s.xing := rfl
@[simp] theorem elapse_xslots (s : State) : (s.elapse).xslots = s.xslots := rfl
@[simp] theorem elapse_rw (s : State) : (s.elapse).rw = s.rw := rfl
@[simp] theorem elapse_nv (s : State) : (s.elapse).nv = s.nv := rfl
@[simp] theorem elapse_prof (s : State) : (s.elapse).prof = s.prof := rfl
@[simp] theorem elapse_log (s : State) : (s.elapse).log = s.log := rfl
@[simp] theorem elapse_wdg (s : State) : (s.elapse).wdg = s.wdg := rfl
@[simp] theorem elapse_host (s : State) : (s.elapse).host = s.host := rfl
@[simp] theorem elapse_ret (s : State) : (s.elapse).ret = s.ret := rfl
@[simp] theorem elapse_slots (s : State) : (s.elapse).slots = s.slots := rfl
@[simp] theorem elapse_dom (s : State) : (s.elapse).dom = s.dom := rfl
@[simp] theorem elapse_img (s : State) : (s.elapse).img = s.img := rfl
@[simp] theorem elapse_nvs (s : State) : (s.elapse).nvs = s.nvs := rfl
@[simp] theorem elapse_sys (s : State) : (s.elapse).sys = s.sys := rfl
@[simp] theorem elapse_fuse (s : State) : (s.elapse).fuse = s.fuse := rfl
@[simp] theorem elapse_fab (s : State) : (s.elapse).fab = s.fab := rfl
@[simp] theorem elapse_groups (s : State) : (s.elapse).groups = s.groups := rfl
@[simp] theorem elapse_cells (s : State) : (s.elapse).cells = s.cells := rfl
@[simp] theorem elapse_culm (s : State) : (s.elapse).culm = s.culm := rfl
@[simp] theorem elapse_gov (s : State) : (s.elapse).gov = s.gov := rfl
@[simp] theorem elapse_branches (s : State) : (s.elapse).branches = s.branches := rfl
@[simp] theorem elapse_loads (s : State) : (s.elapse).loads = s.loads := rfl
@[simp] theorem elapse_src (s : State) : (s.elapse).src = s.src := rfl
@[simp] theorem elapse_hov (s : State) : (s.elapse).hov = s.hov := rfl
@[simp] theorem elapse_flow (s : State) : (s.elapse).flow = s.flow := rfl
@[simp] theorem elapse_ctx (s : State) : (s.elapse).ctx = s.ctx := rfl
@[simp] theorem elapse_bat (s : State) : (s.elapse).bat = s.bat := rfl
@[simp] theorem elapse_fdr (s : State) : (s.elapse).fdr = s.fdr := rfl
@[simp] theorem elapse_chg (s : State) : (s.elapse).chg = s.chg := rfl
@[simp] theorem elapse_profIO (s : State) : (s.elapse).profIO = s.profIO := rfl
@[simp] theorem elapse_bms (s : State) : (s.elapse).bms = s.bms := rfl
@[simp] theorem elapse_est (s : State) : (s.elapse).est = s.est := rfl
@[simp] theorem elapse_thm (s : State) : (s.elapse).thm = s.thm := rfl
@[simp] theorem elapse_thr (s : State) : (s.elapse).thr = s.thr := rfl
@[simp] theorem elapse_sense (s : State) : (s.elapse).sense = s.sense := rfl
@[simp] theorem elapse_awn (s : State) : (s.elapse).awn = s.awn := rfl
@[simp] theorem elapse_ring (s : State) : (s.elapse).ring = s.ring := rfl
@[simp] theorem elapse_can (s : State) : (s.elapse).can = s.can := rfl
@[simp] theorem elapse_energy (s : State) : (s.elapse).energy = s.energy := rfl

end Sys2Proof.Machine
end

