-- ==== Sys2Proof/Laws/Settle.lean ====
section
/-!
SUPPORT. What the hardware events of the moment do to a flow: Free and Fenced flows stand still, a Closing flow stays Closing, and
generation and definition are kept.
-/

namespace Sys2Proof.Machine

@[simp] theorem settleFlow_gen (s : State) (f : FlowCtx) : (s.settleFlow f).gen = f.gen := by
  unfold State.settleFlow
  extract_lets
  split <;> (try split) <;> rfl

@[simp] theorem settleFlow_d (s : State) (f : FlowCtx) : (s.settleFlow f).d = f.d := by
  unfold State.settleFlow
  extract_lets
  split <;> (try split) <;> rfl

theorem settleFlow_free (s : State) (f : FlowCtx) (h : f.st = .free) : s.settleFlow f = f := by
  unfold State.settleFlow
  simp [h]

theorem settleFlow_fenced (s : State) (f : FlowCtx) (h : f.st = .fenced) : s.settleFlow f = f := by
  unfold State.settleFlow
  simp [h]

theorem settleFlow_closing (s : State) (f : FlowCtx) (h : f.st = .closing) : (s.settleFlow f).st = .closing := by
  unfold State.settleFlow
  simp only [h]
  split <;> simp [h]

/-- The hardware causes leave bit 0, that of SUSPEND, clear (R204). -/
theorem hwCauses_bit0 (s : State) (f : FlowCtx) : (s.hwCauses f).getLsbD 0 = false := by
  unfold State.hwCauses
  simp only [BitVec.getLsbD_or]
  repeat' split
  all_goals decide

/-- A flow that is not Opening, Closing, Free or Fenced is Live without a cause, or Suspended with one. -/
theorem settleFlow_live (s : State) (f : FlowCtx) (h : (f.st = .live ∧ f.scause = 0) ∨ (f.st = .suspended ∧ f.scause ≠ 0)) :
    ((s.settleFlow f).st = .live ∧ (s.settleFlow f).scause = 0) ∨ ((s.settleFlow f).st = .suspended ∧ (s.settleFlow f).scause ≠ 0) := by
  unfold State.settleFlow
  rcases h with ⟨h, hc⟩ | ⟨h, hc⟩
  · simp only [h]
    split
    · exact .inl ⟨h, hc⟩
    · exact .inr ⟨rfl, by assumption⟩
  · simp only [h]
    split
    · exact .inl ⟨rfl, rfl⟩
    · exact .inr ⟨rfl, by assumption⟩

/-- The state between the groups' events and the flows'. -/
def State.grouped (s : State) : State := forEach allGroups State.settleGroup s

@[simp] theorem grouped_ctx (s : State) : s.grouped.ctx = s.ctx := by
  have h : s.grouped.but [.groups] = s.but [.groups] := by
    unfold State.grouped
    simp
  exact but_ctx h (by decide)

theorem settle_ctx (s : State) (c : Ctx) :
    s.settle.ctx[c] = s.grouped.settleFlows.settleFlow (s.grouped.settleFlow s.ctx[c]) := by
  have h : s.settle.but [.chg] = s.grouped.settleFlows.settleFlows.but [.chg] := by
    unfold State.settle
    simp [State.grouped]
  have e : s.settle.ctx = s.grouped.settleFlows.settleFlows.ctx := but_ctx h (by decide)
  simp only [e, State.settleFlows, Fin.getElem_fin, Vector.getElem_map, grouped_ctx]

end Sys2Proof.Machine
end

