-- ==== Sys2Proof/Laws/Iterate.lean ====
section
/-!
SUPPORT. What the next iteration makes of one effect that waits alone: it happens, the flows follow, and the iteration ends.
-/

namespace Sys2Proof.Machine

/-- An iteration at which nothing waits only ends. -/
theorem iterate_nil (s : State) (h : s.deferred = []) : s.iterate = s.iterationEnds := by
  have e : ({ s with deferred := [] } : State) = s := by rw [← h]
  unfold State.iterate State.iterateOn
  simp [h, e]

/-- An iteration at which one effect waits alone. -/
theorem iterate_one (s : State) (d : Deferred) (h : s.deferred = [d]) :
    s.iterate = (({ s with deferred := [] } : State).runDeferred d).iterationEnds := by
  unfold State.iterate State.iterateOn
  cases hm : d.isMask <;> simp [h, hm]

/-- A write carried to the next iteration, where nothing else waits: its effect, then the flows follow. -/
theorem carry_iterate (s : State) (a : Nat) (v : Word) (h : s.deferred = []) :
    (s.carry a v).iterate = ((s.writeCarried a v).settle).iterationEnds := by
  have e : ({ s with deferred := [] } : State) = s := by rw [← h]
  rw [iterate_one (s.carry a v) (.write a v) (by simp [State.carry, h])]
  simp [State.carry, State.runDeferred, e]

/-- A command that the service carries out: no access error stands against it. -/
theorem viaService_serves (s : State) (r : Req) (a : Nat) (f : State → State) (h : s.serves a) : s.viaService r a f = f s := by
  unfold State.viaService
  simp [h.1, h.2]

end Sys2Proof.Machine
end

