-- ==== Sys2Proof/Laws/Occur.lean ====
section
/-!
SUPPORT. What an occurrence of a fault source does to the fault status: it sets the source's bit and no other, in its own block
alone.
-/

namespace Sys2Proof.Machine

theorem flt_of_but {s t : State} (h : t.but [.deferred, .safeLine, .halt, .x3, .xing, .log, .ret, .dom, .img, .fab, .groups, .cells,
    .culm, .branches, .src, .ctx, .bat, .fdr, .chg, .est, .thr, .awn] = s.but [.deferred, .safeLine, .halt, .x3, .xing, .log, .ret,
    .dom, .img, .fab, .groups, .cells, .culm, .branches, .src, .ctx, .bat, .fdr, .chg, .est, .thr, .awn]) : t.flt = s.flt :=
  but_flt h (by decide)

/-- The status bits of a block after the fault record of a block is replaced. -/
theorem setFlt_fst (s : State) (b k : Blk) (x : BlkFault) :
    (s.setFlt b x).flt[k].fst = if b = k then x.fst else s.flt[k].fst := by
  simp only [setFlt_flt, Fin.getElem_fin, vset_get]
  split <;> rfl

theorem fst_of_flt {s t : State} (k : Blk) (h : t.flt = s.flt) : t.flt[k].fst = s.flt[k].fst := by rw [h]

/-- A fault record that keeps the status bits keeps those of every block. -/
theorem setFlt_fst_same (s : State) (b k : Blk) (x : BlkFault) (h : x.fst = s.flt[b].fst) :
    (s.setFlt b x).flt[k].fst = s.flt[k].fst := by
  rw [setFlt_fst]
  split
  · rename_i e
    rw [h, e]
  · rfl

/-- A report leaves the fault records as they are. -/
@[simp] theorem report_flt (s : State) (b : Blk) (src : Src) (kind : Kind) (forced : Bool) (idx : Nat) :
    (s.report b src kind forced idx).flt = s.flt := flt_of_but (by simp)

/-- The end of a retry leaves the fault records as they are. -/
@[simp] theorem retryLost_flt (s : State) (b : Blk) (src : Src) (obj : Nat) : (s.retryLost b src obj).flt = s.flt := by
  have h : (s.retryLost b src obj).but [.src] = s.but [.src] := by simp
  exact but_flt h (by decide)

/-- The end of the warning leaves the status bits of every block as they are. -/
theorem endWarn_fst (s : State) (k : Blk) : s.endWarn.flt[k].fst = s.flt[k].fst := by
  unfold State.endWarn
  split
  · rfl
  · simp

/-- A reaction leaves the status bits of every block as they are. -/
theorem react_fst (s : State) (b k : Blk) (src : Src) (obj : Nat) : (s.react b src obj).flt[k].fst = s.flt[k].fst := by
  unfold State.react
  split
  · rfl
  · split
    · exact setFlt_fst_same s b k _ rfl
    · extract_lets x
      split
      · exact fst_of_flt k (flt_of_but (by simp))
      · exact setFlt_fst_same s b k _ rfl
    · exact fst_of_flt k (flt_of_but (by simp))

/-- An occurrence that is not masked sets its own status bit and no other. -/
theorem occurred_fst (s : State) (b k : Blk) (src : Src) (obj : Nat) :
    (s.occurred b src obj).flt[k].fst = if b = k then s.flt[k].fst ||| srcBit src else s.flt[k].fst := by
  have hl : (s.latch b src).flt[k].fst = if b = k then s.flt[k].fst ||| srcBit src else s.flt[k].fst := by
    unfold State.latch
    rw [setFlt_fst]
    split <;> simp_all
  unfold State.occurred
  extract_lets s1 x r w
  have hr (y : BlkFault) (hy : y.fst = s1.flt[b].fst) (kind : Kind) :
      ((s1.setFlt b y).report b src kind false obj).flt[k].fst = s1.flt[k].fst :=
    (fst_of_flt k (report_flt _ _ _ _ _ _)).trans (setFlt_fst_same s1 b k y hy)
  have hp (kind : Kind) : (s1.report b src kind false obj).flt[k].fst = s1.flt[k].fst := fst_of_flt k (report_flt _ _ _ _ _ _)
  have hl' (y : BlkFault) (hy : y.fst = s1.flt[b].fst) (kind : Kind) :
      (((s1.setFlt b y).retryLost b src obj).report b src kind false obj).flt[k].fst = s1.flt[k].fst :=
    (fst_of_flt k ((report_flt _ _ _ _ _ _).trans (retryLost_flt _ _ _ _))).trans (setFlt_fst_same s1 b k y hy)
  split
  · split
    · refine (react_fst _ b k src obj).trans ((hl' _ ?_ _).trans hl)
      rfl
    · split
      · exact (react_fst _ b k src obj).trans ((hp _).trans hl)
      · refine (hr _ ?_ _).trans hl
        rfl
  · exact (react_fst _ b k src obj).trans ((hp _).trans hl)

/-- An occurrence that takes effect sets its own status bit and no other (R434). -/
theorem occur_fst {s : State} {b : Blk} {src : Src} {obj : Nat} (stays : Bool) (k : Blk) (h : s.canOccur b src obj) :
    (s.occur b src obj stays).flt[k].fst = if b = k then s.flt[k].fst ||| srcBit src else s.flt[k].fst := by
  have hm : (s.markLive b src obj stays).flt[k].fst = s.flt[k].fst := by
    unfold State.markLive
    extract_lets t x
    exact Eq.trans (setFlt_fst_same t b k _ rfl) (endWarn_fst s k)
  have hr : (s.markLive b src obj stays).masked b src = false := by
    have e : (s.markLive b src obj stays).but [.flt] = s.but [.flt] := by simp
    have w := but_rw e (by decide)
    simpa only [State.masked, State.reg, w] using h.2.2
  unfold State.occur
  simp only [h.1, h.2.1, hr, Bool.true_eq_false, if_false, Bool.false_eq_true, occurred_fst, hm]

/-- The bit of a source is set in the status word with that bit added. -/
theorem srcBit_set (v : BitVec 8) (src : Src) : (v ||| srcBit src).getLsbD src.val = true := by
  revert src
  decide +revert

end Sys2Proof.Machine
end

