-- ==== Sys2Proof/Laws/Sparse.lean ====
section
/-!
SUPPORT. The laws of sparse maps and of the non-volatile store: what is read behind a write, and that every operation keeps the
canonical form.
-/

namespace Sys2Proof.Machine

variable {α : Type} [DecidableEq α]

/-- A map whose keys all lie above `k` reads as the default at `k`. -/
theorem sget_below (d : Nat → α) (m : List (Nat × α)) (lo k : Nat) (hk : k < lo) (h : swfFrom d lo m = true) :
    sget d m k = d k := by
  induction m generalizing lo with
  | nil => rfl
  | cons e m ih =>
    obtain ⟨k', v⟩ := e
    simp only [swfFrom, Bool.and_eq_true, decide_eq_true_eq] at h
    have : k ≠ k' := by omega
    simp only [sget, if_neg this]
    exact ih (k' + 1) (by omega) h.2

/-- A smaller bound is a bound too. -/
theorem swfFrom_mono (d : Nat → α) (m : List (Nat × α)) (lo lo' : Nat) (hlo : lo' ≤ lo) (h : swfFrom d lo m = true) :
    swfFrom d lo' m = true := by
  cases m with
  | nil => rfl
  | cons e m =>
    obtain ⟨k, v⟩ := e
    simp only [swfFrom, Bool.and_eq_true, decide_eq_true_eq] at h ⊢
    exact ⟨⟨by omega, h.1.2⟩, h.2⟩

/-- A write keeps the canonical form. -/
theorem sput_from (d : Nat → α) (m : List (Nat × α)) (lo k : Nat) (v : α) (hk : lo ≤ k) (h : swfFrom d lo m = true) :
    swfFrom d lo (sput d m k v) = true := by
  induction m generalizing lo with
  | nil =>
    unfold sput
    split
    · rfl
    · simp_all [swfFrom]
  | cons e m ih =>
    obtain ⟨k', v'⟩ := e
    simp only [swfFrom, Bool.and_eq_true, decide_eq_true_eq] at h
    unfold sput
    split
    · split <;> simp_all [swfFrom]
    · split
      · split
        · exact swfFrom_mono d m (k' + 1) lo (by omega) h.2
        · simp_all [swfFrom]
      · simp only [swfFrom, Bool.and_eq_true, decide_eq_true_eq]
        exact ⟨h.1, ih (k' + 1) (by omega) h.2⟩

theorem sput_wf (d : Nat → α) (m : List (Nat × α)) (k : Nat) (v : α) (h : swf d m = true) : swf d (sput d m k v) = true :=
  sput_from d m 0 k v (Nat.zero_le k) h

/-- What is read behind a write, at the key written and at every other one. -/
theorem sget_sput_same (d : Nat → α) (m : List (Nat × α)) (lo k : Nat) (v : α) (h : swfFrom d lo m = true) :
    sget d (sput d m k v) k = v := by
  induction m generalizing lo with
  | nil =>
    unfold sput
    split <;> simp_all [sget]
  | cons e m ih =>
    obtain ⟨k', v'⟩ := e
    simp only [swfFrom, Bool.and_eq_true, decide_eq_true_eq] at h
    unfold sput
    split
    · rename_i hk
      split
      · rename_i hv
        have : k ≠ k' := by omega
        simp only [sget, if_neg this]
        rw [sget_below d m (k' + 1) k (by omega) h.2, hv]
      · simp [sget]
    · split
      · rename_i hk
        split
        · rename_i hv
          rw [hk, sget_below d m (k' + 1) k' (by omega) h.2, ← hk, hv]
        · simp [sget]
      · rename_i hne
        simp only [sget, if_neg hne]
        exact ih (k' + 1) h.2

theorem sget_sput_other (d : Nat → α) (m : List (Nat × α)) (k j : Nat) (v : α) (hj : j ≠ k) :
    sget d (sput d m k v) j = sget d m j := by
  induction m with
  | nil =>
    unfold sput
    split <;> simp_all [sget]
  | cons e m ih =>
    obtain ⟨k', v'⟩ := e
    unfold sput
    split
    · split <;> simp [sget, hj]
    · split
      · rename_i hk
        subst hk
        split <;> simp [sget, hj]
      · simp only [sget]
        split <;> simp_all

/-- Keys taken out keep the canonical form. -/
theorem filter_from (d : Nat → α) (p : Nat × α → Bool) (m : List (Nat × α)) (lo : Nat) (h : swfFrom d lo m = true) :
    swfFrom d lo (m.filter p) = true := by
  induction m generalizing lo with
  | nil => rfl
  | cons e m ih =>
    obtain ⟨k, v⟩ := e
    simp only [swfFrom, Bool.and_eq_true, decide_eq_true_eq] at h
    rw [List.filter_cons]
    split
    · simp only [swfFrom, Bool.and_eq_true, decide_eq_true_eq]
      exact ⟨h.1, ih (k + 1) h.2⟩
    · exact swfFrom_mono d _ (k + 1) lo (by omega) (ih (k + 1) h.2)

theorem filter_wf (d : Nat → α) (p : Nat × α → Bool) (m : List (Nat × α)) (h : swf d m = true) : swf d (m.filter p) = true :=
  filter_from d p m 0 h

/-! ### The non-volatile store -/

theorem Memory.write_wf (m : List Host.Cell) (a : Nat) (v : Byte) (h : Memory.wf m = true) :
    Memory.wf (Memory.write m a v) = true := sput_wf _ m a v h

theorem Memory.writeAll_wf (m : List Host.Cell) (a : Nat) (l : List Byte) (h : Memory.wf m = true) :
    Memory.wf (Memory.writeAll m a l) = true := by
  induction l generalizing m a with
  | nil => exact h
  | cons b l ih => exact ih _ _ (Memory.write_wf m a b h)

theorem Memory.erase_wf (m : List Host.Cell) (a n : Nat) (h : Memory.wf m = true) : Memory.wf (Memory.erase m a n) = true :=
  filter_wf _ _ m h

/-- Canonical parts below and from a bound on make a canonical map. -/
theorem append_from (d : Nat → α) (m n : List (Nat × α)) (lo k : Nat) (hk : lo ≤ k) (hm : swfFrom d lo m = true)
    (hl : ∀ e ∈ m, e.1 < k) (hn : swfFrom d k n = true) : swfFrom d lo (m ++ n) = true := by
  induction m generalizing lo with
  | nil => exact swfFrom_mono d n k lo hk hn
  | cons e m ih =>
    obtain ⟨j, v⟩ := e
    simp only [swfFrom, List.cons_append, Bool.and_eq_true, decide_eq_true_eq] at hm ⊢
    exact ⟨hm.1, ih (j + 1) (hl (j, v) (List.mem_cons_self ..)) hm.2 fun e he => hl e (List.mem_cons_of_mem _ he)⟩

/-- Entries taken from a bound on are canonical above it. -/
theorem above_from (d : Nat → α) (m : List (Nat × α)) (lo k : Nat) (h : swfFrom d lo m = true) :
    swfFrom d k (m.filter fun e => decide (k ≤ e.1)) = true := by
  induction m generalizing lo with
  | nil => rfl
  | cons e m ih =>
    obtain ⟨j, v⟩ := e
    simp only [swfFrom, Bool.and_eq_true, decide_eq_true_eq] at h
    rw [List.filter_cons]
    split
    · rename_i hj
      simp only [decide_eq_true_eq] at hj
      simp only [swfFrom, Bool.and_eq_true, decide_eq_true_eq]
      exact ⟨⟨hj, h.1.2⟩, filter_from d _ m (j + 1) h.2⟩
    · exact ih (j + 1) h.2

theorem Memory.entries_from (a : Nat) (l : List Byte) :
    swfFrom Memory.unlisted a (Memory.entries a l) = true ∧ ∀ e ∈ Memory.entries a l, e.1 < a + l.length := by
  induction l generalizing a with
  | nil => exact ⟨rfl, fun e he => absurd he List.not_mem_nil⟩
  | cons b l ih =>
    obtain ⟨h₁, h₂⟩ := ih (a + 1)
    unfold Memory.entries
    split
    · exact ⟨swfFrom_mono _ _ (a + 1) a (by omega) h₁, fun e he => by have := h₂ e he; simp only [List.length_cons]; omega⟩
    · refine ⟨by simp_all [swfFrom], fun e he => ?_⟩
      rcases List.mem_cons.mp he with rfl | he
      · simp
      · have := h₂ e he
        simp only [List.length_cons]
        omega

theorem Memory.entries_ge (a : Nat) (l : List Byte) : ∀ e ∈ Memory.entries a l, a ≤ e.1 := by
  induction l generalizing a with
  | nil => exact fun e he => absurd he List.not_mem_nil
  | cons b l ih =>
    unfold Memory.entries
    split
    · exact fun e he => by have := ih (a + 1) e he; omega
    · intro e he
      rcases List.mem_cons.mp he with rfl | he
      · exact Nat.le_refl _
      · have := ih (a + 1) e he
        omega

theorem Memory.read_entries (a i : Nat) (l : List Byte) (hi : i < l.length) :
    sget Memory.unlisted (Memory.entries a l) (a + i) = l[i] := by
  induction l generalizing a i with
  | nil => simp at hi
  | cons b l ih =>
    cases i with
    | zero =>
      unfold Memory.entries
      split
      · rename_i hb
        exact (sget_below _ _ (a + 1) (a + 0) (by omega) (Memory.entries_from (a + 1) l).1).trans hb.symm
      · simp [sget]
    | succ i =>
      have := ih (a + 1) i (by simpa using hi)
      rw [Nat.add_right_comm] at this
      unfold Memory.entries
      split
      · exact this
      · rw [List.getElem_cons_succ, ← this]
        have hne : a + (i + 1) ≠ a := by omega
        simp only [sget, if_neg hne]
        rfl

theorem Memory.fill_wf (m : List Host.Cell) (a : Nat) (l : List Byte) (h : Memory.wf m = true) :
    Memory.wf (Memory.fill m a l) = true := by
  obtain ⟨h₁, h₂⟩ := Memory.entries_from a l
  refine append_from _ _ _ 0 a (Nat.zero_le a) (filter_from _ _ m 0 h) (fun e he => by simpa using (List.mem_filter.mp he).2) ?_
  exact append_from _ _ _ a (a + l.length) (by omega) h₁ h₂ (above_from _ m 0 _ h)

theorem Memory.read_write (m : List Host.Cell) (a : Nat) (v : Byte) (h : Memory.wf m = true) :
    Memory.read (Memory.write m a v) a = v := sget_sput_same _ m 0 a v h

theorem Memory.read_write_other (m : List Host.Cell) (a b : Nat) (v : Byte) (hb : b ≠ a) :
    Memory.read (Memory.write m a v) b = Memory.read m b := sget_sput_other _ m a b v hb

omit [DecidableEq α] in
/-- A part without the key adds nothing to what is read at it. -/
theorem sget_append_left (d : Nat → α) (m n : List (Nat × α)) (k : Nat) (h : ∀ e ∈ n, e.1 ≠ k) :
    sget d (m ++ n) k = sget d m k := by
  induction m with
  | nil =>
    induction n with
    | nil => rfl
    | cons e n ih =>
      have hne : k ≠ e.1 := fun he => h e (List.mem_cons_self ..) he.symm
      have := ih fun e he => h e (List.mem_cons_of_mem _ he)
      simpa [sget, hne] using this
  | cons e m ih => simp only [List.cons_append, sget, ih]

omit [DecidableEq α] in
theorem sget_append_right (d : Nat → α) (m n : List (Nat × α)) (k : Nat) (h : ∀ e ∈ m, e.1 ≠ k) :
    sget d (m ++ n) k = sget d n k := by
  induction m with
  | nil => rfl
  | cons e m ih =>
    have hne : k ≠ e.1 := fun he => h e (List.mem_cons_self ..) he.symm
    simpa [sget, hne] using ih fun e he => h e (List.mem_cons_of_mem _ he)

omit [DecidableEq α] in
/-- Entries taken out at other keys do not change what is read. -/
theorem sget_filter (d : Nat → α) (m : List (Nat × α)) (p : Nat → Bool) (k : Nat) (h : p k = true) :
    sget d (m.filter fun e => p e.1) k = sget d m k := by
  induction m with
  | nil => rfl
  | cons e m ih =>
    rw [List.filter_cons]
    split
    · simp only [sget, ih]
    · rename_i hp
      have hne : k ≠ e.1 := fun he => hp (he ▸ h)
      simp only [sget, if_neg hne, ih]

/-- Outside the range filled, the store reads as before. -/
theorem Memory.read_fill_other (m : List Host.Cell) (a x : Nat) (l : List Byte) (hx : x < a ∨ a + l.length ≤ x) :
    Memory.read (Memory.fill m a l) x = Memory.read m x := by
  obtain ⟨h₁, h₂⟩ := Memory.entries_from a l
  unfold Memory.read Memory.fill
  rcases hx with hx | hx
  · rw [sget_append_left]
    · exact sget_filter _ m (fun k => decide (k < a)) x (by simpa using hx)
    · intro e he
      rcases List.mem_append.mp he with he | he
      · have : a ≤ e.1 := Memory.entries_ge a l e he
        omega
      · have : a + l.length ≤ e.1 := by simpa using (List.mem_filter.mp he).2
        omega
  · rw [sget_append_right, sget_append_right]
    · exact sget_filter _ m (fun k => decide (a + l.length ≤ k)) x (by simpa using hx)
    · intro e he
      have := h₂ e he
      omega
    · intro e he
      have : e.1 < a := by simpa using (List.mem_filter.mp he).2
      omega

/-- Within it, the store reads as the bytes put there. -/
theorem Memory.read_fill (m : List Host.Cell) (a i : Nat) (l : List Byte) (hi : i < l.length) :
    Memory.read (Memory.fill m a l) (a + i) = l[i] := by
  unfold Memory.read Memory.fill
  rw [sget_append_right, sget_append_left]
  · exact Memory.read_entries a i l hi
  · intro e he
    have : a + l.length ≤ e.1 := by simpa using (List.mem_filter.mp he).2
    omega
  · intro e he
    have : e.1 < a := by simpa using (List.mem_filter.mp he).2
    omega

end Sys2Proof.Machine
end

