-- ==== Sys2Proof/Tests/Slice0.lean ====
section
/-!
SUPPORT. The model's own tests: an ill-formed command for every check, one step of a command of each family against the figures of
its rule, and, for every clause of every statement with hypotheses, a concrete state and operands that meet them together, at the
edge of their ranges. A clause that names an opaque function (an image's content, a signature) is met given that function's answer.
-/

namespace Sys2Proof.Tests

open Sys2Proof.Machine

set_option Elab.async false

/-! ### Small states -/

/-- An image with no group in use and P1 as a class 1 DC source. -/
def image : ImageData :=
  { groups := Vector.replicate 7 .unused, maxmig := 1, dither := false,
    ports := #v[⟨.dc, 1, 0, false⟩, ⟨.unused, 0, 0, false⟩, ⟨.unused, 0, 0, false⟩, ⟨.unused, 0, 0, false⟩],
    stub := some 1, inst := Vector.replicate 8 300, regs := [], frty := frtyReset, profiles := [],
    safe := Vector.replicate 6 ⟨0, 0, Vector.replicate 3 0⟩, safeCount := 0, hcPeriod := 30, startFlows := [],
    loops := Vector.replicate 8 [], windows := Vector.replicate 7 [], thrCfg := 0x4A8701F4,
    thrCimg := 0xEA609C40, thmThr := 105, thmWarn := 95, thmCfg := 0x1404, senseCfg := 0x78, msv := 46000, uv := 42000, calLevel := 0, cal := [], calOk := true }

/-- A module in Run with every domain on, long after its start, with P1 a Ready DC source. -/
def live : State :=
  { State.reset with
    now := 10 ^ 12
    dom := { State.reset.dom with st := .run, on := 0xFFF, supplyAt := some 0 }
    src := State.reset.src.set 0 { SrcRec.reset with role := .dc, cls := 1, st := .ready }
    img := { State.reset.img with image := some image } }

/-- The next state of a command, for tests. -/
def after (c : Instr) (s : State) : State :=
  match exec c s with
  | .next t => t
  | .fault _ => State.reset
  | .refused _ => State.reset

/-- The state of the module after the next iteration that follows a command (R22). -/
def settled (c : Instr) (s : State) : State := (after c s).iterate

/-- A frame of the host to position 1. -/
def frame (typ : Byte) (payload : List Byte) : Frame :=
  { dst := 1, src := 0, stag := 7, typ := typ, seq := 9, hops := 0, flags := 0, payload := payload, trailer := none }

/-- A wave of nominal values with no cell. -/
def wave : Wave :=
  { tIter := 600, tLat := 300, vTerm := 0, vStage := 0, iPort := 0, vCulm := 48000, cells := [], branchI := Vector.replicate 8 0,
    branchV := Vector.replicate 8 0, ret := Vector.replicate 2 0, pAvail := 0, freq := 0, pf := 0, thd := 0, ntcOhm := 10000,
    ntcT := 0, failed := [] }

/-! ### Well-formed commands -/

theorem test_wf_op : Instr.wf (.flowOpInvalid .host 5 0) = false ∧ Instr.wf (.flowOpInvalid .host 6 0) = true := by decide +kernel
theorem test_wf_cells : Instr.wf (.domRun .host [3, 3]) = false ∧ Instr.wf (.domRun .host [3, 4]) = true := by decide +kernel
theorem test_wf_activation : Instr.wf (.activationQuiescentPoint false false [0, 0]) = false := by decide +kernel
theorem test_wf_startup : Instr.wf (.startup (true, true) 0 [1, 1] []) = false ∧
    Instr.wf (.startup (true, true) 0 [] [2, 2]) = false := by decide +kernel
theorem test_wf_release : Instr.wf (.safeLineReleased [39, 39]) = false := by decide +kernel
theorem test_wf_percent : Instr.wf (.governorTrip 0 0 101 false 0) = false ∧ Instr.wf (.governorTrip 0 0 100 false 0) = true := by decide +kernel
theorem test_wf_sweep : Instr.wf (.mpptSweepStart 0 101) = false := by decide +kernel
theorem test_wf_qualification : Instr.wf (.srcQualificationFail 0 ⟨0, 0, 101, false, false, 0, 0⟩) = false ∧
    Instr.wf (.srcQualified 0 ⟨0, 0, 101, false, false, 0, 0⟩) = false := by decide +kernel
theorem test_wf_loss : Instr.wf (.srcLoss 0 ⟨0, 0, 0, 0, 0, 101, 0⟩) = false := by decide +kernel
theorem test_wf_size : Instr.wf (.registerWrite .host 0 3 0) = false ∧ Instr.wf (.registerWrite .host 0 2 0) = true := by decide +kernel
theorem test_wf_sensors : Instr.wf (.modelInvalid [1, 1] 60) = false := by decide +kernel
theorem test_wf_can : Instr.wf (.canLimitsFrame 0 (List.replicate 65 0)) = false ∧
    Instr.wf (.canStateFrame 0 (List.replicate 65 0)) = false := by decide +kernel
theorem test_wf_counts : Instr.wf (.canErrorActiveRegained 128 0) = false ∧ Instr.wf (.canErrorActiveRegained 0 128) = false ∧
    Instr.wf (.canErrorActiveRegained 127 127) = true := by decide +kernel
theorem test_wf_wave : Instr.wf (.pipelineWave 0 { wave with tIter := 599 }) = false ∧
    Instr.wf (.priorityWave 0 { wave with tIter := 2401 }) = false ∧
    Instr.wf (.pipelineWave 0 { wave with cells := [(0, 0, 0), (0, 0, 0)] }) = false ∧
    Instr.wf (.pipelineWave 0 { wave with failed := [1, 1] }) = false ∧ Instr.wf (.pipelineWave 0 wave) = true := by decide +kernel
theorem test_wf_frame_ends : Instr.wf (.ringRead { frame 0x10 [] with dst := 65 }) = false ∧
    Instr.wf (.ringRead { frame 0x10 [] with src := 0xFF }) = false ∧ Instr.wf (.ringRead (frame 0x10 [])) = true := by decide +kernel
theorem test_wf_frame_body : Instr.wf (.ringWrite (frame 0x11 (List.replicate 257 0))) = false ∧
    Instr.wf (.ringWrite { frame 0x11 [] with flags := 1 }) = false ∧
    Instr.wf (.ringWrite { frame 0x11 [] with flags := 4 }) = false := by decide +kernel
theorem test_wf_frames : ∀ c ∈ [Instr.hostContact, (.ringFrameForward 0 · true), .discover 0, .assign, .ringStatRequest,
    .ringRetransmission, .ringUnknownType, (.ringRequestBusy · 0), (.hello · 0), .stook, .exchReceived, .positionConflict],
    Instr.wf (c { frame 0x10 [] with dst := 65 }) = false := by decide +kernel

/-- No row of the table has bits, so no word spells a command, and a machine is given none. -/
theorem test_no_words : decodeTableWord 32 0 = none ∧ (State.reset.withFetchWord 32 0) = State.reset := ⟨rfl, rfl⟩

/-! ### Flows -/

/-- A Draw flow from P1 (R191, R192), and a module whose first context holds one in a state. -/
def draw : FlowDef := ⟨0x11, 0, 0, 0⟩
def holding (st : FlowSt) : State := live.setCtx 0 { FlowCtx.freed 1 with st := st, d := draw }
def staging : State := live.setReg (flowSdefAt 0) 0x11

theorem witness_FlowCommands_create : staging.serves flowCmdAt ∧ ¬(160 ≤ (0xFF : BitVec 16).toNat % 256 ∧ (0xFF : BitVec 16).toNat % 256 ≠ 255) ∧
    staging.img.image.isSome = true ∧ staging.img.req = none ∧ staging.wanted ((0xFF : BitVec 16).toNat % 256) = some 0 ∧
    staging.createCode staging.staged = 0 ∧ staging.host.exp = false ∧ staging.flow.busy = false ∧ staging.deferred = [] := by
  unfold State.serves; decide +kernel
theorem witness_FlowCommands_busy : ({ live with flow := { live.flow with busy := true } } : State).serves flowCmdAt ∧
    ({ live with flow := { live.flow with busy := true } } : State).flow.busy = true := by unfold State.serves; decide +kernel
theorem witness_FlowCommands_op : live.serves flowCmdAt ∧ 6 ≤ (6 : BitVec 4).toNat := by unfold State.serves; decide +kernel
theorem witness_FlowStates_named : ∀ st ∈ [FlowSt.opening, .live, .suspended, .closing, .fenced],
    ((holding st).setReg (flowSdefAt 0) 0x11).serves flowCmdAt ∧ ((holding st).setReg (flowSdefAt 0) 0x11).named 0x100 = .inr 0 ∧
    (holding st).lost 0 = false ∧ (holding st).portHalted draw = false ∧ (holding st).noChange = false ∧ (holding st).flow.busy = false ∧ (holding st).deferred = [] ∧
    (holding st).lendsOn 0 = false ∧ (holding st).host.exp = false ∧
    badModify draw ((holding st).setReg (flowSdefAt 0) 0x11).staged = false ∧
    ((holding st).setReg (flowSdefAt 0) 0x11).badNewProf draw ((holding st).setReg (flowSdefAt 0) 0x11).staged = false := by
  unfold State.serves; decide +kernel
theorem witness_FlowStates_resume : ((holding .suspended).setCtx 0 { (holding .suspended).ctx[0] with scause := 1 }).serves flowCmdAt ∧
    ((holding .suspended).setCtx 0 { (holding .suspended).ctx[0] with scause := 1 }).ctx[0].scause.getLsbD 0 = true := by
  unfold State.serves; decide +kernel
theorem witness_FlowStates_ends : (holding .opening).ctx[0].st = .opening ∧ (holding .closing).ctx[0].st = .closing ∧
    (49 : Int).natAbs < 50 ∧ 50 ≤ (50 : Int).natAbs ∧
    (holding .closing).ctx[0].since + (holding .closing).closingBound 0 < (holding .closing).now := by decide +kernel

theorem test_create_result : (settled (.flowCreate .host 0xFF) staging).flow.result = 0 ∧
    (settled (.flowCreate .host 0xFF) staging).flow.handle = 0x100 ∧ (settled (.flowCreate .host 0xFF) staging).ctx[0].st = .opening := by decide +kernel
theorem test_create_bad_index : (settled (.flowCreate .host 160) live).flow.result = 4 := by decide +kernel
theorem test_destroy_stale : (settled (.flowDestroy .host 0x200) (holding .live)).flow.result = 2 := by decide +kernel

/-! ### The image and the store -/

/-- The module with the image loader in a state. -/
def loader (x : ImgRec) : State := { live with img := x }
def session : State := loader { live.img with sess := .opened }

theorem witness_ImageUpdate_open : live.serves imgUpdAt ∧ live.updBusy = false ∧ live.img.sess = .closed ∧ live.img.trial = false ∧
    live.img.req = none := by unfold State.serves; decide +kernel
theorem witness_ImageUpdate_program : session.serves imgUpdAt ∧ session.updBusy = false ∧ session.img.sess = .opened ∧
    session.img.pages.contains (511 : BitVec 9).toFin = false ∧ session.img.banks[session.inactive].st ≠ .active := by
  unfold State.serves; decide +kernel
def bothActive : State := (session.setBank 0 ⟨.active, 0, 1⟩).setBank 1 ⟨.active, 0, 1⟩
theorem witness_ImageUpdate_barred : bothActive.serves imgUpdAt ∧ bothActive.updBusy = false ∧ bothActive.img.sess = .opened ∧
    bothActive.img.pages.contains (511 : BitVec 9).toFin = false ∧ bothActive.img.banks[bothActive.inactive].st = .active := by
  unfold State.serves; decide +kernel
theorem witness_ImageUpdate_close : session.serves imgUpdAt ∧ session.updBusy = false ∧ session.img.sess = .opened ∧
    session.bankCode session.inactive ≠ 0 := by unfold State.serves; decide +kernel
/-- The bank of a session that passes its check, given the opaque functions that judge it. -/
theorem witness_ImageUpdate_valid (h : session.bankCode session.inactive = 0) : session.serves imgUpdAt ∧ session.updBusy = false ∧
    session.img.sess = .opened ∧ session.bankCode session.inactive = 0 := by
  refine ⟨?_, by decide +kernel, by decide +kernel, h⟩
  unfold State.serves; decide +kernel
theorem witness_ImageUpdate_timeout : session.img.sess = .opened ∧ session.updBusy = false ∧ session.writeHold = false ∧
    session.img.lastOp + 60000000 * (session.reg imgCfgAt).bits 23 16 ≤ session.now := by decide +kernel

def storing (o : NvOp) : State := { live with nvs := { live.nvs with ops := [o] } }

theorem witness_StoreOperations_program : Memory.wf (storing (.program 1 511 (Vector.replicate 64 0))).nv = true ∧
    (storing (.program 1 511 (Vector.replicate 64 0))).nvs.ops = .program 1 511 (Vector.replicate 64 0) :: [] ∧
    (storing (.program 1 511 (Vector.replicate 64 0))).opRuns = true := by decide +kernel
theorem witness_StoreOperations_erase : (storing (.eraseBank 1)).nvs.ops = .eraseBank 1 :: [] ∧ (storing (.eraseBank 1)).opRuns = true ∧
    (storing .logErase).nvs.ops = .logErase :: [] ∧ (storing .logErase).opRuns = true ∧
    (storing (.eraseBank 1)).nvs.sector + 1 < (NvOp.eraseBank 1).sectors.2 ∧ (NvOp.eraseBank 1).sectors.2 ≤ 31 + 1 ∧
    NvOp.logErase.sectors.2 ≤ 15 + 1 := by decide +kernel
theorem witness_StoreOperations_overtime : (storing .logErase).nvs.since + 2 * NvOp.longest .logErase ≤ (storing .logErase).now := by
  decide +kernel

def bankB (st : BankSt) : State := live.setBank 1 ⟨st, 0, 1⟩

theorem witness_ImageRequests_refused : (bankB .invalid).serves imgCtlAt ∧ ((bankB .invalid).activateCode 1 false).1 = 4 := by
  unfold State.serves; decide +kernel
theorem witness_ImageRequests_check : (bankB .valid).serves imgCtlAt ∧ ((bankB .valid).activateCode 1 false).1 = 5 := by
  unfold State.serves; decide +kernel
/-- A bank that is accepted, given the opaque functions that judge it. -/
theorem witness_ImageRequests_accepted (h : (bankB .valid).bankCode 1 = 0) : (bankB .valid).serves imgCtlAt ∧
    ((bankB .valid).activateCode 1 true).1 = 0 := by
  refine ⟨⟨by decide +kernel, by decide +kernel⟩, ?_⟩
  unfold State.activateCode
  rw [h]
  decide +kernel

/-- A request whose time is over (R414), accepted 300 s ago. -/
def requested (drain byTrial : Bool) : State :=
  loader { live.img with asta := .draining, req := some ⟨1, drain, false, 0, byTrial, false, false⟩ }

theorem witness_ImageRequests_cancel : (requested true false).serves imgCtlAt ∧
    (requested true false).img.req = some ⟨1, true, false, 0, false, false, false⟩ ∧ (requested true false).draining = true ∧
    0 + 1000000 * ((requested true false).reg imgCfgAt).bits 15 8 ≤ (requested true false).now := by
  unfold State.serves; decide +kernel
/-- The quiescent point, given that the bank's bytes hold an image. -/
theorem witness_ImageInForce_point (d : ImageData) (h : (requested true false).bankImage 1 = some d) :
    (requested true false).img.req = some ⟨1, true, false, 0, false, false, false⟩ ∧ (requested true false).draining = true ∧
    (requested true false).usedCtx = [] ∧ (requested true false).safeLine = [] ∧ (requested true false).dom.coreRestart = none ∧
    (requested true false).bankImage 1 = some d :=
  ⟨by decide +kernel, by decide +kernel, by decide +kernel, by decide +kernel, by decide +kernel, h⟩

/-- A module whose Draw flow can supply a culm at 48 V: cell H0 is Active in group G0. -/
def supplied : State :=
  { (live.setCell 0 { CellRec.reset with st := .active, grp := some 0, inMask := some 0, selOpen := false }).setCtx 0
      { FlowCtx.freed 1 with st := .live, d := draw } with
    culm := { live.culm with mode := .regulating, vmeas := 48000, vset := 48000, target := 48000, slewFrom := 48000, slew := 1000, msv := 46000, uv := 42000,
                             supPort := some 1 } }

theorem witness_ImageInForce_handback : ({ supplied with culm := { supplied.culm with supOn := true } } : State).culm.supOn = true ∧
    ({ supplied with culm := { supplied.culm with supOn := true } } : State).inRun = true ∧
    ({ supplied with culm := { supplied.culm with supOn := true } } : State).draining = false ∧
    supplied.canSupply = true ∧ 50 * 48960 ≤ 51 * supplied.culm.vset ∧ 49 * supplied.culm.vset ≤ 50 * 47040 := by decide +kernel
def trial : State := loader { live.img with trial := true, trialUs := 10 ^ 12 }
theorem witness_ImageInForce_trial : trial.serves imgCtlAt ∧ trial.img.trial = true ∧ trial.img.trialOver = false ∧
    60000000 * (trial.reg imgCfgAt).bits 7 0 ≤ trial.trialUsed ∧ trial.dom.coreRestart = none ∧ trial.canOccur bIMG 5 0 := by
  unfold State.serves State.canOccur; decide +kernel
theorem witness_ImageInForce_raise : live.serves imgCtlAt ∧ live.img.image.isSome = true ∧ live.img.trial = false := by
  unfold State.serves; decide +kernel

theorem test_open_erases : (after (.imgUpdOpen .host) live).nvs.ops = [.eraseBank 1] ∧ (after (.imgUpdOpen .host) live).img.sess = .erasing := by
  decide +kernel
theorem test_close_invalid : (after (.imgUpdClose .host) session).img.uresult = 9 := by decide +kernel
theorem test_confirm : (after (.imgConfirm .mgmt) trial).img.trial = false := by decide +kernel

/-! ### Power states -/

/-- The module with the domain controller in a module state. -/
def inState (st : ModState) : State := { live with dom := { live.dom with st := st } }
def alarmed (a : Word) : State := { inState .standby with ret := { live.ret with domAlarm := a } }
def stubble (fromRun : Bool) : State :=
  { live with dom := { live.dom with st := .stubble, stubFromRun := fromRun, stubAt := live.now - 600000000 } }

theorem witness_ModuleStates_run : (inState .standby).serves domCtlAt ∧ (inState .standby).img.image.isSome = true ∧
    (inState .standby).safeLine = [] := by unfold State.serves; decide +kernel
theorem witness_ModuleStates_standby : live.serves domCtlAt ∧ live.inRun = true ∧ live.usedCtx = [] := by unfold State.serves; decide +kernel
def idling : State :=
  { live with src := State.reset.src, dom := { live.dom with idleSince := some (live.now - 60000000 * 30) } }
theorem witness_ModuleStates_watch : (alarmed 1000001).serves domCtlAt ∧ (alarmed 1000001).dom.st = .standby ∧
    (alarmed 1000001).img.sess = .closed ∧ (alarmed 1000001).img.req = none ∧ (alarmed 1000001).wakeCause = false ∧
    (alarmed 1000001).wakeWaits = none ∧ idling.wakeWaits = none ∧
    ({ alarmed 1000001 with pending := [.hvWake 2 false 50000 100] } : State).wakeWaits = some (.hv, 2) := by
  unfold State.serves; decide +kernel
theorem witness_ModuleStates_alarm : (alarmed 0).ret.domAlarm.toNat = 0 ∧
    (alarmed 1000001).rtc < (alarmed 1000001).ret.domAlarm.toNat := by decide +kernel
theorem witness_ModuleStates_idle : idling.idle = true ∧ idling.ret.domCfg.bits 15 8 ≠ 0 ∧
    live.now - 60000000 * 30 + 60000000 * idling.ret.domCfg.bits 15 8 ≤ idling.now := by decide +kernel
theorem witness_ModuleStates_stubble : ∀ b, (stubble b).dom.st = .stubble ∧ (stubble b).dom.stubOff = false ∧
    (stubble b).dom.stubAt + 600000000 ≤ (stubble b).now ∧ (stubble b).safeLine = [] ∧ (stubble b).img.req = none ∧
    (stubble b).dom.stubFromRun = b := by decide +kernel

theorem witness_WakeAndReset_supply : State.reset.dom.st = .unpowered ∧ State.reset.dom.failAt = none := by decide +kernel
theorem witness_WakeAndReset_wake : ∀ st ∈ [ModState.dormant, .watch], ((inState st).dom.st = .dormant ∨ (inState st).dom.st = .watch) ∧
    (inState st).dom.resetLoop = false := by decide +kernel
def watching (a : Word) : State := { inState .watch with ret := { live.ret with domAlarm := a } }
theorem witness_WakeAndReset_alarm : (watching 1000000).dom.st = .watch ∧ (watching 1000000).dom.resetLoop = false ∧
    (watching 1000000).ret.domAlarm.toNat ≠ 0 ∧ (watching 1000000).ret.domAlarm.toNat ≤ (watching 1000000).rtc := by decide +kernel
theorem witness_WakeAndReset_loops : live.powered = true ∧
    ({ inState .inReset with dom := { (inState .inReset).dom with resetLoop := true } } : State).dom.resetLoop = true ∧
    ({ inState .inReset with dom := { (inState .inReset).dom with resetLoop := true } } : State).dom.st = .inReset := by decide +kernel

theorem witness_PowerAndRetention_startup : ({ inState .inReset with dom := { (inState .inReset).dom with boot := true } } : State).dom.boot = true ∧
    ({ inState .inReset with dom := { (inState .inReset).dom with boot := true } } : State).domOn 0 = true := by decide +kernel
theorem witness_PowerAndRetention_early : ({ inState .inReset with dom := { (inState .inReset).dom with boot := true } } : State).dom.st = .inReset ∧
    ({ inState .inReset with dom := { (inState .inReset).dom with boot := true } } : State).dom.boot = true ∧ (15999 : Nat) < 16000 := by decide +kernel
theorem witness_PowerAndRetention_fail : live.dom.st ≠ .unpowered ∧ live.dom.st ≠ .dormant ∧ live.dom.boot = false ∧ live.dom.st ≠ .inReset ∧
    (15999 : Nat) < 16000 := by decide +kernel
def heldUp : State := { inState .unpowered with dom := { (inState .unpowered).dom with failAt := some (live.now - 20000) } }
theorem witness_PowerAndRetention_holdup : heldUp.dom.failAt = some (live.now - 20000) ∧ (18000 : Nat) < 18001 ∧ heldUp.dom.resetLoop = false ∧
    live.now - 20000 + 20000 ≤ heldUp.now := by decide +kernel
theorem witness_PowerAndRetention_store : ({ live with dom := { live.dom with holdReady := true } } : State).inRun = true ∧
    live.dom.holdReady = false ∧ live.dom.supplyAt = some 0 ∧ 0 + 10000000 ≤ live.now := by decide +kernel
theorem witness_PowerAndRetention_save : (live.dom.st = .standby ∨ live.inRun = true ∨ live.dom.st = .stubble) ∧
    live.retrying bDOM 7 0 = false ∧ live.dom.savedAt + 1000000 ≤ live.now ∧ live.domOn 3 = true := by decide +kernel

theorem test_power_fail_in_boot : (after (.powerFail 0 20 false)
    { inState .inReset with dom := { (inState .inReset).dom with boot := true }, slots := #v[some live.ret, none] }).slots[(0 : Side)].isSome = true := by
  decide +kernel
theorem test_supply_without_cause : (after (.supplyStart 0 none false) State.reset).dom.st = .dormant := by decide +kernel
theorem test_hv_wake_level : (after (.hvWake 2 false 49999 100) (inState .dormant)).dom.st = .dormant ∧
    (after (.hvWake 2 false 50000 100) (inState .dormant)).dom.wake = .hv := by decide +kernel
theorem test_alarm_wakes : (after .watchAlarm (watching 1000000)).dom.wake = .alarm := by decide +kernel
theorem test_reset_loop : (after (.resetLoopClosed 999) live).dom.on = 1 ∧ (after (.resetLoopClosed 1000) live).dom.st = .run := by decide +kernel

/-! ### Faults -/

/-- The module with a fault state of a block. -/
def faulty (b : Blk) (x : BlkFault) : State := live.setFlt b x

theorem witness_Occurrence_takes : hasSource bFAB.val (0 : Src).val = true ∧ bFAB ≠ bDOM ∧ live.canOccur bFAB 0 39 := by
  unfold State.canOccur; decide +kernel
theorem witness_Occurrence_domain : ∀ d ∈ [3, 11], live.domOn d = true ∧ hasSource bDOM.val (0 : Src).val = true := by decide +kernel
theorem witness_Occurrence_masked : hasSource bFAB.val (0 : Src).val = true ∧
    (live.setReg (fmskAddr bFAB) 1).flt[bFAB].live.contains ⟨0, 39⟩ = false ∧ (live.setReg (fmskAddr bFAB) 1).masked bFAB 0 = true := by
  decide +kernel
theorem witness_Occurrence_present :
    (faulty bFAB { live.flt[bFAB] with live := [⟨0, 39⟩] }).flt[bFAB].live.contains ⟨0, 39⟩ = true := by decide +kernel

theorem test_ecc_counts : (after (.faultOccurrence bNVS 1 3) live).nvs.uncorr = 1 ∧ (after (.faultOccurrence bNVS 1 3) live).nvs.corr = 0 := by
  decide +kernel
theorem test_forced_parity : ((live.forced bLOG 4 5).safeLine.any fun d => d.blk == bLOG && d.obj == 5 && !d.reaction) = true := by decide +kernel

/-- FAB with severity word `w` in effect and no retryable source. -/
def severe (w : Word) : State := faulty bFAB { live.flt[bFAB] with sev := w, frty := 0 }
theorem witness_Reactions_safe : (severe 4).canOccur bFAB 0 39 ∧ (severe 4).held bFAB 0 39 = false ∧
    (severe 4).flt[bFAB].frty.getLsbD (0 : Src).val = false ∧ (severe 4).sevFor bFAB 0 39 = 4 := by
  unfold State.canOccur; decide +kernel
theorem witness_Reactions_degrade : (severe 2).canOccur bFAB 0 39 ∧ (severe 2).held bFAB 0 39 = false ∧
    (severe 2).sevFor bFAB 0 39 = 2 ∧ (severe 2).flt[bFAB].grace.length < 8 := by unfold State.canOccur; decide +kernel
theorem witness_Reactions_retry : live.canOccur bFAB 0 39 ∧ live.held bFAB 0 39 = false ∧
    live.flt[bFAB].frty.getLsbD (0 : Src).val = true ∧
    (live.flt[bFAB].retries.any fun r => sameRetry bFAB r.src 0 && r.obj == 39) = false ∧
    (live.flt[bFAB].windows.any fun r => sameRetry bFAB r.src 0 && r.obj == 39 && decide (live.now < r.start + retryWindow bFAB 0)) = false := by
  unfold State.canOccur; decide +kernel
def graced : State :=
  (faulty bFAB { live.flt[bFAB] with sev := 2, grace := [⟨0, 16, live.now⟩] }).setCell 16 { CellRec.reset with st := .active }
theorem witness_Reactions_grace : graced.dueGrace bFAB 0 16 = true ∧ graced.sevFor bFAB 0 16 = 2 ∧
    (16 : Nat) = (16 : Cell).val ∧ graced.cells[(16 : Cell)].st ≠ .off ∧
    (severe 1).sevFor bFAB 0 16 ≠ 2 := by decide +kernel
def retried : State :=
  (faulty bFAB { live.flt[bFAB] with retries := [⟨0, 0, live.now - 50⟩] }).setCell 0 { CellRec.reset with st := .idle, grp := some 0, inMask := some 0 }
theorem witness_Reactions_restart : retried.tooSoon bFAB 0 0 = false ∧ retried.retrying bFAB 0 0 = true ∧ retried.otherLine bFAB 0 0 = false ∧
    retried.cells[(0 : Cell)].st = .idle ∧ retried.cells[(0 : Cell)].inMask = some 0 ∧ retried.halt[Group.port 0] = [] ∧
    retried.safeLine = [] ∧ retried.cells[(0 : Cell)].barred = false ∧ retried.awaits bFAB 0 0 = false ∧ live.awaits bDOM 7 0 = true := by
  decide +kernel
theorem witness_FaultWrites : State.reset.Inv ∧ live.deferred = [] ∧ hasFaults bFAB.val = true ∧ live.serves (0x10000 * bFAB.val + 0x0F00) ∧
    live.serves (0x10000 * bFAB.val + 0x0F0C) ∧ live.serves (fsevAddr bFAB) ∧ live.serves (fmskAddr bFAB) ∧
    (0x00000001 : Word).bit (0 : Src).val = true ∧ live.ffrcObj bFAB 0 0x00270001 = some 39 ∧ live.masked bFAB 0 = false ∧ bTHR ≠ bFAB ∧ bTHR ≠ bFLOW := by
  refine ⟨?_, ?_⟩
  · constructor <;> decide +kernel
  · unfold State.serves; decide +kernel
/-- The running module keeps the invariant of its stores. -/
theorem live_inv : live.Inv := by constructor <;> decide +kernel
theorem witness_FaultWrites_relatch :
    (faulty bFAB { live.flt[bFAB] with fst := 1, live := [⟨0, 39⟩] }).raised bFAB 0 = true ∧
    (settled (.fstW1cWrite .host bFAB 1) (faulty bFAB { live.flt[bFAB] with fst := 1, live := [⟨0, 39⟩] })).raised bFAB 0 = false ∧
    (faulty bFAB { live.flt[bFAB] with fst := 1, live := [⟨0, 39⟩] }).liveBit bFAB 0 = true := by decide +kernel
theorem witness_FaultWrites_unmask : (live.setReg (fmskAddr bFAB) 1).masked bFAB 0 = true ∧
    (settled (.fmskWrite .host bFAB 0) (live.setReg (fmskAddr bFAB) 1)).masked bFAB 0 = false ∧
    (⟨0, 39⟩ : Cause) ∈ (faulty bFAB { live.flt[bFAB] with live := [⟨0, 39⟩] }).flt[bFAB].live ∧
    (settled (.fmskWrite .host bFAB 1) live).masked bFAB 0 = true := by decide +kernel
theorem witness_NextIteration : live.pending = [] ∧ ∀ d ∈ [Deferred.relatch bFAB 1, .severity bFAB, .write (fsevAddr bFAB) 4, .entry 6143 5, .limits 15],
    ({ live with deferred := [d] } : State).deferred = [d] := by decide +kernel
theorem witness_ParityError : hasFaults (0x14 : Blk).val = true ∧ hasFaults (0x13 : Blk).val = false := by decide +kernel
theorem witness_AccessWhileApplying : (loader { live.img with asta := .applying }).img.asta = .applying ∧
    (0x0D0010 : BitVec 24).toNat / 0x10000 < 21 ∧ (loader { live.img with asta := .applying }).serviceRuns = true ∧
    (loader { live.img with asta := .applying }).domOn (homeDomain 0x0D) = true ∧ homeDomain 0x0D = 3 ∧ homeDomain 0x0C = 10 ∧
    homeDomain 0x10 ≠ 3 ∧ homeDomain 0x10 ≠ 10 := by decide +kernel

theorem test_fst_bits : ((settled (.fstW1cWrite .host bFAB 0x05) (faulty bFAB { live.flt[bFAB] with fst := 0x0F })).flt[bFAB]).fst = 0x0A := by
  decide +kernel
theorem test_force_waits : (after (.ffrcForce .host bFAB 0x00270001) live).flt[bFAB] = live.flt[bFAB] ∧
    (settled (.ffrcForce .host bTHR 1) live).raised bTHR 0 = true := by decide +kernel
theorem test_parity : ((after (.parityError bTHR) live).safeLine).isEmpty = false := by decide +kernel

/-! ### The event log -/

def report (b : Blk) (sev : Nat) : Report := ⟨b, 0, .occurrence, false, 0, 255, sev⟩
def grouped (l : List Report) : State := { live with log := { live.log with group := some ⟨live.now - 1, 0, 0, l⟩ } }
def record1 : LogRec := ⟨1, 0, 0, 1, false, .occurrence, bFAB, 0, 1, 0⟩
def stagedBy (n : Nat) : State := { live with ret := { live.ret with staged := List.replicate n ⟨record1, false, false⟩ } }

theorem witness_LogGroups_arrival : ({ grouped [] with x3 := [report bFAB 1] } : State).x3 = [report bFAB 1] ∧ (report bFAB 1).blk = bFAB ∧
    (report bFAB 1).src = 0 ∧ (grouped []).now ≤ live.now - 1 + 1 ∧ live.log.group = none := by decide +kernel
theorem witness_LogGroups_close : (grouped [report bFAB 1, report bTHR 4]).log.group = some ⟨live.now - 1, 0, 0, [report bFAB 1, report bTHR 4]⟩ ∧
    live.now - 1 + 1 = (grouped []).now ∧ (grouped [report bFAB 1, report bTHR 4]).arrivalWaits = false ∧ (report bFAB 1).blk ≠ (report bTHR 4).blk ∧ (report bFAB 1).sev < (report bTHR 4).sev ∧
    ((grouped []).ret.staged.any fun q => q.matches (report bFAB 1) || q.matches (report bTHR 4)) = false ∧
    (stagedBy 14).ret.staged.length ≤ 14 ∧ (report bFAB 1).count ≤ 255 := by decide +kernel
theorem witness_LogGroups_waiting : (grouped []).log.group = some ⟨live.now - 1, 0, 0, []⟩ ∧
    ({ grouped [] with x3 := [report bFAB 1], pending := [.logReportArrival bFAB 0] } : State).arrivalWaits = true := by decide +kernel
theorem witness_LogGroups_full : ({ grouped [report bTHR 4] with ret := (stagedBy 16).ret } : State).ret.staged.length = 16 ∧
    ((stagedBy 16).ret.staged.any fun q => q.matches (report bTHR 4)) = false := by decide +kernel
theorem witness_LogStore_commit : (stagedBy 1).Inv ∧ (stagedBy 1).canCommit = true ∧ (stagedBy 1).log.restored = false ∧
    (stagedBy 1).ret.staged = [⟨record1, false, false⟩] ∧ (stagedBy 1).ret.tally = 0 ∧ (stagedBy 1).retrying bLOG 1 0 = false := by
  refine ⟨?_, by decide +kernel⟩
  constructor <;> decide +kernel
theorem witness_LogStore_scan : ({ live with log := { live.log with scan := true } } : State).log.scan = true ∧ live.domOn 11 = true ∧
    live.ret.staged = [] ∧ live.log.found = 0 ∧ (stagedBy 1).ret.staged = [⟨record1, false, false⟩] ∧ (stagedBy 1).log.found = 0 := by
  decide +kernel
/-- A store that holds the record 4,096 in the last slot of the log region. -/
def stored : State := { live with nv := [⟨0x4FFF0, 0⟩, ⟨0x4FFF1, 0⟩, ⟨0x4FFF2, 0x10⟩, ⟨0x4FFF3, 0⟩] }
theorem witness_LogStore_read : stored.serves 0x030014 ∧ stored.log.erase = false ∧ stored.log.scan = false ∧ (4096 : Word) ≠ 0 ∧
    stored.nvNat (logAddr (4096 : Word).toNat) 4 = (4096 : Word).toNat ∧ stored.nvNat (logAddr 1) 4 ≠ 1 ∧
    stored.nvs.torn.contains (logAddr (4096 : Word).toNat / 256) = false ∧
    ({ stored with nvs := { stored.nvs with torn := [0x4FF] } } : State).nvs.torn.contains (logAddr (4096 : Word).toNat / 256) = true := by
  unfold State.serves; decide +kernel
theorem witness_LogStore_control : live.serves 0x030010 ∧ live.log.erase = false := by unfold State.serves; decide +kernel

theorem test_read_missing : (after (.logRseqRead .host 5) stored).log.rok = false ∧ (after (.logRseqRead .host 4096) stored).log.rok = true := by
  decide +kernel
theorem test_erase_orders : (after (.logErase .mgmt) live).nvs.ops = [.logErase] := by decide +kernel

/-! ### The watchdogs -/

/-- The running watchdog, locked, with a period of 1 s, its counter `us` old. -/
def guarded (armed : Bool) (us : Nat) : State :=
  { live with wdg := { live.wdg with cfg := 0x03E80001, lock := true, run := true, armed := armed, since := live.now - us } }
def level (n tries : Nat) (s : State) : State := { s with ret := { s.ret with wdg := { s.ret.wdg with level := n, tries := tries } } }

theorem witness_WatchdogAndHostContact_start : live.serves wdgCfgAt ∧ live.wdg.lock = false ∧ (0x03E80001 : Word).bit 0 = true ∧
    (0x03E80000 : Word).bit 0 = false ∧ (guarded false 0).wdg.lock = true := by unfold State.serves; decide +kernel
theorem witness_WatchdogAndHostContact_keys : (guarded true 500000).serves wdgKeyAt ∧ (guarded true 500000).wdg.run = true ∧
    (guarded true 500000).wdg.clkCore = false ∧ (guarded false 0).wdg.armed = false ∧
    (guarded true 500000).wdgWNow ≤ (guarded true 500000).wdgTicks ∧ (guarded true 999999).wdgTicks < (guarded true 999999).wdgPNow := by
  unfold State.serves; decide +kernel
theorem witness_WatchdogAndHostContact_counts : live.serves wdgCtlAt ∧ live.serves wdgHctAt := by unfold State.serves; decide +kernel
def contacted (hct : Word) : State := { live.setReg wdgHctAt hct with host := { live.host with run := true, since := 0 } }
theorem witness_WatchdogAndHostContact_kick : (contacted 0x2001E).kickCounts = true ∧ (contacted 0x2001E).host.run = true ∧
    (contacted 0x1001E).kickCounts = false := by decide +kernel
/-- The module at position 1 of a ring whose side A is Up. -/
def ringed : State :=
  { contacted 0x1001E with ring := { live.ring with pos := 1, sides := #v[⟨2, 0, 0, 0, none, [], false⟩, ⟨0, 0, 0, 0, none, [], false⟩] } }
theorem witness_WatchdogAndHostContact_frame : ringed.ringCounts = true ∧ ringed.isContact (frame 0x10 []) = true ∧ ringed.host.run = true ∧
    ringed.isContact (frame 0x20 []) = false := by decide +kernel
theorem witness_WatchdogAndHostContact_expiry : ringed.host.run = true ∧ ringed.host.zero = false ∧
    ringed.host.since + ringed.hctUs ≤ ringed.now ∧ ringed.contactWaits = false ∧ ringed.host.since + ringed.hctUs < ringed.now ∧
    ({ ringed with now := ringed.hctUs, pending := [.hostContact (frame 0x10 [])] } : State).contactWaits = true ∧
    ({ ringed with now := ringed.hctUs } : State).host.since + ringed.hctUs = ringed.hctUs := by decide +kernel

theorem witness_WatchdogLadder_levels : ∀ n ∈ [(0, 0), (1, 0), (2, 2), (2, 3)], (level n.1 n.2 (guarded false 1000000)).wdg.run = true ∧
    (level n.1 n.2 (guarded false 1000000)).wdgPNow ≤ (level n.1 n.2 (guarded false 1000000)).wdgMost ∧
    (level n.1 n.2 (guarded false 1000000)).ret.wdg.hold = false ∧ (level n.1 n.2 (guarded false 1000000)).fuse.nmax = 3 := by decide +kernel
theorem witness_WatchdogLadder_early : (guarded true 0).serves wdgKeyAt ∧ (guarded true 0).wdgTicks < (guarded true 0).wdgWNow ∧
    (guarded true 0).ret.wdg.level = 0 ∧ (guarded true 0).ret.wdg.hold = false ∧ (0x6B1C : BitVec 16) ≠ 0x6B1D := by
  unfold State.serves; decide +kernel
theorem witness_WatchdogLadder_clocks : (guarded false 0).wdg.lock = true ∧ (guarded false 0).wdg.run = true ∧
    (guarded false 0).wdg.rootTripped = false ∧ (guarded false 0).wdg.coreTripped = false ∧ (guarded false 0).ret.wdg.hold = false ∧
    (guarded false 0).stepInTick = false ∧ (after .wdgExpiry (guarded false 1000000)).stepInTick = true ∧
    ({ live with wdg := { (guarded false 0).wdg with rootTripped := true, coreTripped := true } } : State).wdg.coreTripped = true := by decide +kernel
theorem witness_WatchdogLadder_restart :
    ({ guarded false 0 with dom := { live.dom with coreRestart := some 0 }, thr := { live.thr with st := .held } } : State).dom.coreRestart.isSome = true := by
  decide +kernel

theorem test_key_window : (after (.wdgKeyWrite .mgmt 0x94E2) (guarded true 500000)).wdg.good = 1 := by decide +kernel
theorem test_locked_write : (after (.wdgCfgEnable .mgmt 0) (guarded false 0)).sys.cause = 4 ∧
    (after (.wdgCfgEnable .mgmt 0) (guarded false 0)).wdg.cfg = 0x03E80001 := by decide +kernel

/-! ### Thresher -/

def runs (st : ThrSt) (q : Option Round) : State := { live with thr := { live.thr with st := st, t0 := 0, round := q, last := q } }
def round0 : Round :=
  { grants := Vector.replicate 160 ⟨0, 0, 0, 0⟩, flows := [0], live := [0], remIn := 0, remOut := 0, remSur := 0, remHeat := 0, thru := 0, pcap := 0, budget := 0,
    used := 0, bind := 0, dieLim := Vector.replicate 7 none, orders := [], sheds := [], set := live.thr.committed, fcNew := false, fcStart := 0,
    fcValid := false, lend := 0, head := Vector.replicate 4 0 }

theorem witness_BudgetsAndTimers_commit : live.serves thrCommitAt ∧ (1 : Word).bit 0 = true ∧
    (live.clampWin (live.reg thrCwinAt)).bits 15 0 ≤ (live.reg thrCsetAt).bits 15 0 ∧
    (live.reg thrCsetAt).bits 15 0 ≤ (live.clampWin (live.reg thrCwinAt)).bits 31 16 := by unfold State.serves; decide +kernel
theorem witness_BudgetsAndTimers_refused : (live.setReg thrCsetAt 39999).serves thrCommitAt ∧ ((live.setReg thrCsetAt 39999).reg thrCsetAt).bits 15 0 <
    ((live.setReg thrCsetAt 39999).clampWin ((live.setReg thrCsetAt 39999).reg thrCwinAt)).bits 15 0 := by unfold State.serves; decide +kernel
theorem witness_BudgetsAndTimers_timers :
    ({ live with thr := { live.thr with fcValid := true, req := true, defer := true, coolAt := some 0 }, ring := { live.ring with stookAt := some 0 } } : State).thr.stklost = false ∧
    live.thr.fcStart + 7200000000 ≤ live.now ∧ live.thr.reqAt + 1000000 * live.thr.inForce.gen.bits 23 16 ≤ live.now ∧
    0 + 60000000 ≤ live.now ∧ 0 + 30000 ≤ live.now := by decide +kernel
theorem witness_Rounds_latch : (runs .running none).thr.st = .running ∧ (runs .running none).serviceRuns = true ∧
    (runs .running none).nextRound ≤ (runs .running none).now + 40 ∧ (runs .running none).thr.round = none ∧
    actSev bTHR 3 ((runs .running none).sevRaw bTHR 3) ≠ 4 := by decide +kernel
theorem witness_Rounds_publish : ((runs .running (some round0)).setCtx 0 { FlowCtx.freed 1 with st := .live, d := draw }).thr.st = .running ∧
    (runs .running (some round0)).domOn 3 = true ∧ (runs .running (some round0)).nextRound ≤ (runs .running (some round0)).now ∧
    (runs .running (some round0)).thr.round = some round0 ∧ round0.flows.contains 0 = true ∧ round0.live.contains 0 = true ∧
    (runs .held (some round0)).thr.st = .held := by decide +kernel
theorem witness_GrantsWithinCeilings : live.latched.contains 0 = false := by decide +kernel

theorem test_commit_taken : (after (.thrCommit .sched 1) live).thr.cres = 1 ∧
    (after (.thrCommit .sched 1) (live.setReg thrCsetAt 60000)).thr.committed.cset = 60000 := by decide +kernel
theorem test_commit_refused : (after (.thrCommit .sched 1) (live.setReg thrCsetAt 60001)).thr.cres = 2 := by decide +kernel

/-! ### The pipeline, the crossings and the fabric -/

/-- Group G0 of H0-H7 with cell H0 in a state. -/
def grouped0 (st : CellState) : State :=
  (live.setGroup 0 { GroupRec.reset with cfg := ⟨.ibk, 0xFF, 1, 1, 8, 0, 0, 50, 80, 10, 100⟩ }).setCell 0
    { CellRec.reset with st := st, grp := some 0, inMask := some 0 }

theorem witness_WavesAndCoreSupply_wave : (grouped0 .active).wavesRun 0 = true ∧ (grouped0 .active).deferred = [] ∧
    (grouped0 .active).culm.drain = none ∧ wave.failed = [] ∧
    (grouped0 .active).sense.ch[(109 : Chan)].2 ≠ 2 ∧ 0 ≤ wave.vCulm ∧ ({ wave with vCulm := 65000 } : Wave).vCulm ≤ 65000 ∧
    (grouped0 .active).prioWaits = false ∧ (grouped0 .active).turnOf = some 0 ∧ (grouped0 .active).sense.prioAt[(0 : Group)] = none ∧
    (grouped0 .active).sense.prio = [] ∧ (grouped0 .active).sense.waiting = [] ∧ (grouped0 .active).turnOf ≠ some 1 ∧
    live.wavesRun 0 = false := by decide +kernel
/-- G0's last priority wave was sampled now; another waits among the commands. -/
def overtaken : State :=
  { grouped0 .active with
    sense := { (grouped0 .active).sense with prioAt := (grouped0 .active).sense.prioAt.set 0 (some (1000 * live.now)) },
    pending := [.priorityWave 0 wave] }
theorem witness_WavesAndCoreSupply_order : overtaken.turnOf = some 0 ∧ overtaken.sense.prioAt[(0 : Group)] = some (1000 * live.now) ∧
    overtaken.sampledAt { wave with tLat := 1 } < 1000 * live.now ∧ 1000 * live.now ≤ overtaken.sampledAt { wave with tLat := 0 } ∧
    overtaken.prioWaits = true ∧ overtaken.wavesRun 0 = true ∧ overtaken.wavesRun 1 = false := by decide +kernel
theorem witness_WavesAndCoreSupply_stall : (grouped0 .active).domOn 3 = true ∧ (grouped0 .active).switching 0 ≠ [] ∧
    (grouped0 .active).cells[(0 : Cell)].st.running = true := by decide +kernel
theorem witness_WavesAndCoreSupply_supply : ∀ v ∈ [600, 900], ({ live with sense := { live.sense with vcore := v } } : State).domOn 2 = true ∧
    600 ≤ ({ live with sense := { live.sense with vcore := v } } : State).sense.vcore ∧
    ({ live with sense := { live.sense with vcore := v } } : State).sense.vcore ≤ 900 := by decide +kernel

theorem witness_Crossings_raised : itemKind 0 (.stook 0 0) = some 0 ∧ itemKind 2 .notice = some 1 ∧
    ({ live with xslots := [⟨2, .notice, 1, .own⟩] } : State).xslots = [⟨2, .notice, 1, .own⟩] ∧ (∀ b k, XItem.notice ≠ .report b k) ∧
    (∀ w, XItem.notice ≠ .setpoint w) :=
  ⟨by decide +kernel, by decide +kernel, by decide +kernel, fun _ _ h => (nomatch h), fun _ h => (nomatch h)⟩
theorem witness_Crossings_back : itemKind 4 .backPressured = some 2 ∧ live.barsItem 4 .backPressured = false ∧
    State.reset.barsItem 4 .backPressured = true ∧ State.reset.xing[(4 : Xing)].emptyAt ≠ some State.reset.now ∧
    (State.reset.setXing 4 { State.reset.xing[(4 : Xing)] with emptyAt := some State.reset.now }).xing[(4 : Xing)].emptyAt =
      some State.reset.now ∧ live.domOn (clockedDomain 4) = true := by decide +kernel
theorem witness_Crossings_report : bTHR ≠ bDOM ∧ bTHR ≠ bWDG ∧ bTHR ≠ bLOG ∧ live.x3 = [] := by decide +kernel
theorem witness_Crossings_taken : live.barsItem 4 .backPressured = false ∧ live.barsItem 2 (.bms 15) = false ∧ xingBound 4 ≤ xingBound 4 ∧
    ({ live with xslots := [⟨4, .backPressured, 1, .own⟩] } : State).xslots = [⟨4, .backPressured, 1, .own⟩] ∧
    ({ live with xslots := [⟨2, .bms 15, 1, .limits live.bms[(15 : Bms)].sent⟩] } : State).xslots =
      [⟨2, .bms 15, 1, .limits live.bms[(15 : Bms)].sent⟩] ∧
    itemKind 2 (.bms 15) = some 0 ∧ itemKind 4 .backPressured = some 2 := by decide +kernel

def good : StartObs := ⟨true, 30, true, 51000, 50000⟩
theorem witness_CellStates_start : (grouped0 .starting).migrOf 0 = none ∧ (grouped0 .starting).cells[(0 : Cell)].st = .starting ∧
    startPass good = true ∧ startPass { good with offset := 31 } = false ∧ (grouped0 .starting).cells[(0 : Cell)].retryAt = none ∧
    (grouped0 .starting).willRetry bFAB 2 0 = true ∧ ((grouped0 .starting).setReg (fmskAddr bFAB) 4).willRetry bFAB 2 0 = false ∧
    (grouped0 .active).cells[(0 : Cell)].st.running = true := by decide +kernel
def again : State := (grouped0 .starting).setCell 0 { (grouped0 .starting).cells[0] with startRetry := true, retryAt := some live.now }
theorem witness_CellStates_retry : again.cells[(0 : Cell)].retryAt = some live.now ∧ live.now ≤ again.now ∧
    again.otherLine bFAB 2 (0 : Cell).val = false ∧ ({ again with now := live.now - 1 } : State).now < live.now ∧
    ({ again with safeLine := [thermalDriver] } : State).otherLine bFAB 2 0 = true ∧ again.migrOf 0 = none := by decide +kernel
def pair : State :=
  { (grouped0 .active).setCell 1 { CellRec.reset with st := .active, grp := some 0, inMask := some 0 } with
    thr := { live.thr with sheds := [0] } }
theorem witness_CellStates_shed : pair.cells[(0 : Cell)].inMask = some 0 ∧ (∀ k ∈ pair.orderCells 0 0, pair.cells[k].st = .active) ∧
    pair.groups[(0 : Group)].cfg.minph ≤ ((pair.members 0).filter fun k => pair.cells[k].st == .active && !(pair.orderCells 0 0).contains k).length ∧
    ((pair.members 0).filter fun k => pair.cells[k].st == .active && !(pair.orderCells 0 0).contains k) ≠ [] ∧
    pair.halt[Group.port 0] = [] ∧ pair.safeLine = [] ∧ pair.thr.sheds.contains 0 = true := by decide +kernel
theorem witness_CellStates_park : (grouped0 .shedding).cells[(0 : Cell)].st = .shedding ∧ (-29 : Int).natAbs < 30 ∧
    (grouped0 .parked).cells[(0 : Cell)].inMask = some 0 ∧ (grouped0 .parked).cells[(0 : Cell)].st = .parked ∧
    (grouped0 .parked).cells[(0 : Cell)].since + 1000 * (grouped0 .parked).groups[(0 : Group)].cfg.hold ≤ (grouped0 .parked).now := by decide +kernel

def ordered (maxmig : Nat) : State :=
  { grouped0 .idle with thr := { live.thr with orders := [⟨0, 0⟩] }, fab := { live.fab with maxmig := maxmig } }
theorem witness_Migrations_order : (ordered 1).thr.orders.contains ⟨0, 0⟩ = true ∧ (ordered 1).acceptsOrder ⟨0, 0⟩ = true ∧
    (ordered 0).acceptsOrder ⟨0, 0⟩ = false ∧ 0 ∈ (ordered 1).orderCells 0 0 ∧ (ordered 1).donorOf 0 = none ∧
    (grouped0 .active).donorOf 0 = some 0 := by
  decide +kernel
/-- H0 moves with its pair H1 from G1 into G0, H0's start checks passed or not. -/
def inStep (step : Nat) (passed : Bool) : Migr :=
  ⟨0, some 1, 0, [⟨0, some 1, .active, passed⟩, ⟨1, none, .idle, false⟩], step, 0, 0, some (live.now - 20)⟩
def moving (step : Nat) (passed : Bool) : State := { grouped0 .migrating with fab := { live.fab with migs := [inStep step passed] } }
theorem witness_Migrations_steps : ∀ n ∈ [1, 2, 3, 4, 5, 6], (moving n false).migrOf 0 = some (inStep n false) ∧
    live.now - 20 + 20 ≤ (moving n false).now ∧ 0 + stepBound (n + 1) < (moving n false).now ∧ (inStep n false).cells.Nodup := by
  decide +kernel
theorem witness_Migrations_checks : (moving 4 true).checksRun 1 = true ∧ (moving 4 false).checksRun 0 = true ∧
    ((inStep 4 true).parts.all fun q => q.passed || q.cell == 1) = true ∧
    ((inStep 4 false).parts.all fun q => q.passed || q.cell == 0) = false ∧
    ((moving 4 false).setReg (fmskAddr bFAB) 4).willRetry bFAB 2 0 = false := by decide +kernel

theorem test_order_refused : (after (.migrationLatch ⟨0, 0⟩) (ordered 0)).fab.mlog.result = 3 := by decide +kernel
theorem test_core_supply : (after (.coreSupplyAdjust 5000) live).sense.tslow = 4095 := by decide +kernel

/-! ### The culm, the governor and the load branches -/

def culmIn (m : CulmMode) : State := { supplied with culm := { supplied.culm with mode := m } }
def branch (x : BranchRec) : State := (culmIn .regulating).setBranch 7 x
def branchIn (st : BranchState) : State := branch { BranchRec.reset with st := st }

theorem witness_CulmAndStubbleSupply_precharge : (culmIn .precharge).culm.mode = .precharge ∧ (culmIn .precharge).canSupply = true ∧
    50 * 48960 ≤ 51 * (culmIn .precharge).culm.vset ∧ 49 * (culmIn .precharge).culm.vset ≤ 50 * 48960 ∧
    ((culmIn .precharge).setReg (loadBctlAt 7) 1).branchEn 7 = true ∧ (culmIn .precharge).branches[(7 : Branch)].st = .opened ∧
    (culmIn .precharge).branches[(7 : Branch)].byHalt = false ∧ (culmIn .precharge).branches[(7 : Branch)].await = false ∧
    (culmIn .precharge).halt[(Branch.side 7).loadPort] = [] ∧ (culmIn .precharge).branches[(7 : Branch)].vout ≤ 48960 + 1000 := by decide +kernel
theorem witness_CulmAndStubbleSupply_dead : ({ live with culm := { live.culm with mode := .precharge } } : State).canSupply = false := by
  decide +kernel
theorem witness_CulmAndStubbleSupply_shortfall : (culmIn .shortfall).culm.shedLevels < 3 ∧ 45999 < (culmIn .shortfall).culm.msv ∧
    1000 + 5000 * (culmIn .shortfall).culm.shedLevels ≤ 1000 ∧ (branchIn .closed).branchPrio 7 = (culmIn .shortfall).culm.shedLevels ∧
    (branchIn .closed).branches[(7 : Branch)].st = .closed := by decide +kernel
theorem witness_CulmAndStubbleSupply_under : (culmIn .regulating).culm.mode ≠ .off ∧ (culmIn .regulating).culm.mode ≠ .stubble ∧
    (culmIn .regulating).culm.mode ≠ .precharge ∧ 41999 < (culmIn .regulating).culm.uv := by decide +kernel
def stubbleOn : State := (branchIn .closed).setReg (loadBctlAt 7) 0x31
def supply : State := { stubbleOn with culm := { stubbleOn.culm with supOn := true, supOver := some (live.now - 10000) } }
theorem witness_CulmAndStubbleSupply_over : supply.culm.supOn = true ∧ (25000 : Nat) < 25001 ∧
    (∀ t₀, supply.culm.supOver = some t₀ → t₀ + 10000 ≤ supply.now) ∧ supply.shedOrder allBranches = 7 :: [] := by
  refine ⟨by decide +kernel, by decide +kernel, ?_, by decide +kernel⟩
  intro t₀ h
  have : t₀ = live.now - 10000 := (Option.some.inj h).symm
  subst this
  decide +kernel

theorem witness_Governor_fit : live.domOn 3 = true ∧ live.stored 0 0 0 0 + live.terminal 0 0 0 ≤ 1000000 * (live.reg (culmPceilAt 0)).bits 13 0 := by
  decide +kernel
theorem witness_Governor_trip : (0 : Port).val < 7 ∧ 100 * live.gov[(0 : Port)].ilim ≤ 0 ∧ (20 : Nat) < 21 := by decide +kernel
theorem witness_Governor_ceiling : live.serves (culmPceilAt 8) ∧ live.deferred = [] ∧ max 250 ((249 : Word).bits 13 0) ≤ (live.reg (culmPceilAt 8)).bits 13 0 ∧
    (live.reg (culmPceilAt 8)).bits 13 0 < max 250 ((2001 : Word).bits 13 0) := by unfold State.serves; decide +kernel
/-- B3 draining since 200 ms, its element having absorbed an event 60 s ago. -/
def draining (again : Bool) : StageRec :=
  ⟨some (live.now - 200000), live.now - 200000, false, again, false, [live.now - 60000000], true, false⟩
def drained (again : Bool) : State := live.setBat 2 { BatRec.reset with stage := draining again }
theorem witness_Governor_drain : ∀ again, (drained again).stage? 6 = some (draining again) ∧ (draining again).drainAt = some (live.now - 200000) ∧
    live.now - 200000 + 200000 ≤ (drained again).now ∧ (drained again).drainBound 6 ≤ 60000 ∧
    live.now - 200000 + (drained again).drainTime 6 ≤ (drained again).now ∧ (draining again).stuck = false ∧
    (drained again).willRetry bCULM 4 6 = true ∧ ((drained again).setReg (fmskAddr bCULM) 16).willRetry bCULM 4 6 = false ∧
    (drained again).restartBound 6 ≤ 60000 := by decide +kernel
theorem witness_Governor_hold : (drained false).stage? 6 = some (draining false) ∧ ∀ e ∈ (draining false).events, e + 60000000 ≤ (drained false).now := by
  decide +kernel

theorem witness_Branches_trips : (branchIn .closed).branches[(7 : Branch)].tripable live.now = true ∧
    (branch { BranchRec.reset with st := .shed, since := live.now }).branches[(7 : Branch)].tripable live.now = true ∧
    (branch { BranchRec.reset with st := .closed, s := (branchIn .closed).branchK 7, sAt := live.now }).overloaded 7 = true ∧ 100 * (branchIn .closed).branchEff 7 ≤ 0 ∧
    (branchIn .closed).branchK 7 ≤ (branch { BranchRec.reset with st := .closed, s := (branchIn .closed).branchK 7, sAt := live.now }).branchS 7 ∧
    (branchIn .closed).branchRegen 7 = false ∧ (500 : Nat) < 501 ∧
    ((branchIn .closed).setReg (loadBctlAt 7) 0x100).branchRegen 7 = true ∧ ((branchIn .closed).setReg (loadBctlAt 7) 0x100).branchTrip 7 < 6001 := by
  decide +kernel
theorem witness_Branches_precharge : (branchIn .precharge).branches[(7 : Branch)].st = .precharge ∧
    49000 ≤ (branchIn .precharge).culm.vmeas + 1000 ∧ (branchIn .precharge).culm.vmeas ≤ 49000 + 1000 ∧
    10 * 4799 < (branchIn .precharge).culm.vmeas ∧ (branchIn .precharge).culm.vmeas + 1000 < 49001 := by decide +kernel
def tripped : State := branch { BranchRec.reset with st := .tripped, retryDue := some (live.now - 1000000) }
theorem witness_Branches_retry : tripped.branches[(7 : Branch)].st = .tripped ∧ tripped.branches[(7 : Branch)].retryDue = some (live.now - 1000000) ∧
    live.now - 1000000 + 1000000 ≤ tripped.now ∧ tripped.otherLine bLOAD tripped.branches[(7 : Branch)].trip (7 : Branch).val = false ∧
    tripped.culm.mode = .regulating ∧ tripped.fedFromOutside 7 = false ∧ (culmIn .off).culm.mode ≠ .regulating ∧ (tripped.setReg (loadBctlAt 7) 1).branchEn 7 = true ∧ tripped.branchEn 7 = false ∧
    tripped.branches[(7 : Branch)].vout ≤ tripped.culm.vmeas + 1000 ∧
    tripped.culm.vmeas + 1000 < (branch { BranchRec.reset with vout := 49001 }).branches[(7 : Branch)].vout := by decide +kernel
def shed : State :=
  { branch { BranchRec.reset with st := .shed, spareSince := some 0 } with culm := { supplied.culm with near := some 0, restoredAt := none } }
theorem witness_Branches_restore : shed.waits 7 = true ∧ shed.firstToReturn 7 = true ∧ shed.culm.near = some 0 ∧ 0 + 1000000 ≤ shed.now ∧
    shed.branches[(7 : Branch)].spareSince = some 0 ∧ (∀ t₃, shed.culm.restoredAt = some t₃ → t₃ + 100000 ≤ shed.now) ∧
    shed.dom.st ≠ .stubble ∧ shed.halt[(Branch.side 7).loadPort] = [] ∧ shed.safeLine = [] ∧
    shed.branches[(7 : Branch)].vout ≤ shed.culm.vmeas + 1000 :=
  ⟨by decide +kernel, by decide +kernel, by decide +kernel, by decide +kernel, by decide +kernel, fun _ h => (nomatch h),
    by decide +kernel, by decide +kernel, by decide +kernel, by decide +kernel⟩
theorem witness_Branches_sum : (branchIn .closed).loads[Branch.side 7].shedAt = none ∧ (24000 : Nat) < 24001 ∧ (branchIn .closed).shedOrder (allBranches.filter fun k => k.side == Branch.side 7) = 7 :: [] ∧
    (branchIn .opened).branches[(7 : Branch)].st.isOpen = true ∧ (branchIn .locked).branches[(7 : Branch)].st.isOpen = true := by
  decide +kernel

theorem test_backfeed_lasts : (after (.branchBackfeedTrip 7 501 99) (branchIn .closed)).branches[(7 : Branch)].st = .closed ∧
    (after (.branchBackfeedTrip 7 501 100) (branchIn .closed)).branches[(7 : Branch)].cause = 3 := by decide +kernel
theorem test_ceiling_raise : (settled (.culmPceilWrite .host 8 2001) live).culm.ceilrej = 1 ∧
    (settled (.culmPceilWrite .host 8 249) live).reg (culmPceilAt 8) = 250 := by decide +kernel

/-! ### Source ports -/

/-- P1 as a class 0 DC source with arc detection, its qualification values latched, in a state since the start. -/
def pv (st : SrcState) : SrcRec :=
  { SrcRec.reset with role := .dc, cls := 0, arcen := true, st := st, qv := 0x17700258, qf := 0x19641194, lossV := 600 }
def port (x : SrcRec) : State := live.setSrc 0 x
def fine : QualObs := ⟨600, 600, 9, false, false, 0, 0⟩

theorem witness_SourceQualification_presence : (port (pv .absent)).src[(0 : SPort)].st = .absent ∧ wakeLevel (pv .absent).role ≤ 50000 ∧
    (port (pv .absent)).src[(0 : SPort)].judgeAt + 100000 ≤ (port (pv .absent)).now ∧
    (port (pv .ready)).src[(0 : SPort)].st = .ready ∧ 44999 < loseLevel (pv .ready).role := by decide +kernel
theorem witness_SourceQualification_checks : (port (pv .qualifying)).src[(0 : SPort)].st = .qualifying ∧
    (pv .qualifying).failedCheck { fine with acPct := 10 } = some (1, 12) ∧ (pv .qualifying).failedCheck { fine with vMean := -1 } = some (0, 1) ∧
    (pv .qualifying).failedCheck { fine with vMean := 599 } = some (1, 2) ∧ (500 : Nat) < 501 ∧ (50 : Nat) < 51 := by decide +kernel
theorem witness_SourceQualification_done : (port { pv .qualifying with arcPassed := true }).src[(0 : SPort)].failedCheck fine = none ∧
    (port { pv .qualifying with arcPassed := true }).src[(0 : SPort)].arcPassed = true ∧
    (port (pv .qualifying)).src[(0 : SPort)].since + (port (pv .qualifying)).srcTq 0 ≤ (port (pv .qualifying)).now ∧
    (port (pv .qualifying)).portFree (SPort.port 0) = true := by decide +kernel
theorem witness_SourceQualification_arc : (pv .qualifying).st = .qualifying ∧ (pv .qualifying).cls = 0 ∧ (pv .qualifying).arcen = true ∧
    (pv .qualifying).arcPassed = false ∧ (pv .qualifying).arcFailed = false ∧ (port (pv .qualifying)).willRetry bSRC 4 0 = true ∧
    ({ pv .qualifying with arcFailed := true } : SrcRec).arcFailed = true ∧
    ((port (pv .qualifying)).setFlt bSRC { live.flt[bSRC] with frty := 0 }).willRetry bSRC 4 0 = false := by decide +kernel
theorem witness_SourceQualification_hold : (port (pv .held)).src[(0 : SPort)].st = .held ∧
    (port (pv .held)).src[(0 : SPort)].since + (port (pv .held)).srcHold 0 ≤ (port (pv .held)).now ∧ (pv .held).isoFailed = false ∧
    (pv .held).isoTry = false ∧ ({ pv .held with isoFailed := true } : SrcRec).isoFailed = true ∧
    ({ pv .held with isoTry := true, qprot := 100 } : SrcRec).isoTry = true ∧ 99 < ({ pv .held with isoTry := true, qprot := 100 } : SrcRec).qprot.bits 7 0 ∧
    ({ pv .held with isoTry := true, qprot := 100 } : SrcRec).qprot.bits 7 0 ≤ 100 := by decide +kernel
theorem witness_SourceQualification_flap : (port { pv .ready with flap := true, lossAt := [live.now - 600000000] }).src[(0 : SPort)].flap = true ∧
    ∀ t₀ ∈ (port { pv .ready with flap := true, lossAt := [live.now - 600000000] }).src[(0 : SPort)].lossAt, t₀ + 600000000 ≤ live.now := by
  decide +kernel

/-- A Live Draw flow with a grant on P1, which is enabled and belongs to group G0. -/
def granted (x : SrcRec) : State :=
  (((grouped0 .idle).setSrc 0 x).setReg (srcPcfgAt 0) 1).setCtx 0 { FlowCtx.freed 1 with st := .live, d := ⟨0x1011, 0, 0, 0⟩, grant := 1 }
theorem witness_SourceSupply_start : (granted (pv .ready)).maySupply 0 21 = true ∧ (granted (pv .ready)).src[(0 : SPort)].idle = false ∧
    (granted (pv .ready)).cells[(0 : Cell)].inMask = some (SPort.group 0) ∧ (granted (pv .ready)).cells[(0 : Cell)].st = .idle ∧
    (granted (pv .ready)).cells[(0 : Cell)].barred = false ∧ (granted (pv .ready)).migrOf 0 = none := by decide +kernel
theorem witness_SourceSupply_stop : (port (pv .supplying)).src[(0 : SPort)].st = .supplying ∧ (port (pv .supplying)).stopDue 0 = true ∧
    (port (pv .supplying)).src[(0 : SPort)].cur = 0 ∧ ({ pv .supplying with cur := 1 } : SrcRec).cur ≠ 0 ∧
    (port (pv .supplying)).src[(0 : SPort)].cls = 0 ∧ (port (pv .supplying)).src[(0 : SPort)].role = .dc ∧ 19 < (port (pv .supplying)).srcPmin 0 := by
  decide +kernel
theorem witness_SourceSupply_measure : (port (pv .ready)).src[(0 : SPort)].vocAt + 60000000 ≤ (port (pv .ready)).now ∧
    (granted { pv .ready with idle := true }).src[(0 : SPort)].idle = true ∧ 2 * (granted { pv .ready with idle := true }).srcPmin 0 < 41 ∧
    (granted { pv .ready with idle := true }).maySupply 0 41 = true := by decide +kernel
def ownHalt : State := (port { pv .halted with ocAt := some (live.now - 1000000) }).setHalt 0 [⟨bSRC, 7, 0, false⟩]
theorem witness_SourceSupply_release : ownHalt.src[(0 : SPort)].st = .halted ∧ ownHalt.src[(0 : SPort)].hov = none ∧ ownHalt.safeLine = [] ∧
    ∀ d ∈ ownHalt.halt[SPort.port 0], ownHalt.ownEnded 0 d = true := by decide +kernel
theorem witness_SourceSupply_rearm : (port (pv .locked)).serves (srcPctlAt 0) ∧ (port (pv .locked)).deferred = [] ∧ (port (pv .locked)).portFree (SPort.port 0) = true ∧
    (port (pv .locked)).src[(0 : SPort)].st = .locked ∧
    (port (pv .locked)).flt[bSRC].fst.getLsbD (port (pv .locked)).src[(0 : SPort)].lockSrc = false ∧
    (port (pv .ready)).src[(0 : SPort)].st = .ready := by unfold State.serves; decide +kernel

theorem witness_SourceLoss_met : (pv .supplying).lossMet ⟨0, 0, 0, 599, 0, 0, 0⟩ = true ∧ (pv .supplying).lossMet ⟨99, 200, 1000, 600, 0, 0, 0⟩ = true ∧
    (port (pv .supplying)).fab.migs = [] ∧ (grouped0 .active).cells[(0 : Cell)].grp = some (SPort.group 0) := by decide +kernel
theorem witness_SourceLoss_handover : (port { pv .lost with hov := some (live.now - 40, .absent) }).src[(0 : SPort)].hov = some (live.now - 40, .absent) := by
  decide +kernel
theorem witness_SourceLoss_arc : ∀ st ∈ [SrcState.supplying, .lost, .halted], (pv st).cls = 0 ∧ (pv st).arcen = true ∧
    (port { pv st with hov := some (live.now, .absent) }).src[(0 : SPort)].hov = some (live.now, .absent) := by decide +kernel
theorem witness_SourceLoss_current : (port (pv .supplying)).src[(0 : SPort)].st = .supplying ∧ (3520 : Nat) < 3521 ∧
    11 * (port (pv .supplying)).srcIlim 0 < 10 * 3521 := by decide +kernel

def tracked (w : Option Sweep) : State :=
  granted { pv .supplying with lim := 9, mppt := { Mppt.reset with sweep := w, lastPower := 10 } }
theorem witness_Tracker_perturb : (tracked none).tracks 0 = true ∧ (tracked none).src[(0 : SPort)].mppt.sweep = none ∧
    (tracked none).src[(0 : SPort)].mppt.movedAt + 1000 * ((tracked none).reg (srcMpptAt 0)).bits 7 0 ≤ (tracked none).now ∧
    9 < (tracked none).src[(0 : SPort)].mppt.lastPower := by decide +kernel
theorem witness_Tracker_sweep : (tracked none).sweepCovered 0 = true ∧ (tracked none).deferred = [] ∧
    (tracked none).src[(0 : SPort)].cls = 0 ∧ (tracked none).src[(0 : SPort)].role = .dc ∧ (tracked none).src[(0 : SPort)].mppt.deferAt = none ∧ (tracked none).serves (srcPctlAt 0) ∧ (tracked none).src[(0 : SPort)].st = .supplying ∧
    (tracked none).srcSweep 0 ≠ 0 ∧ (tracked none).src[(0 : SPort)].mppt.sweptAt.getD (tracked none).src[(0 : SPort)].since + (tracked none).srcSweep 0 ≤ (tracked none).now ∧
    (20 : Nat) < 21 ∧ (tracked none).src[(0 : SPort)].lim = 9 := by unfold State.serves; decide +kernel
theorem witness_Tracker_done : ∀ seen, (tracked (some ⟨live.now - 512000, true, 700, 650, 9, seen⟩)).src[(0 : SPort)].mppt.sweep =
      some ⟨live.now - 512000, true, 700, 650, 9, seen⟩ ∧
    live.now - 512000 + 512000 ≤ live.now ∧ live.now < live.now - 511999 + 512000 := by decide +kernel

theorem test_presence : (after (.srcPresenceMet 0 49999 100) (port (pv .absent))).src[(0 : SPort)].st = .absent ∧
    (after (.srcPresenceMet 0 50000 100) (port (pv .absent))).src[(0 : SPort)].st = .qualifying := by decide +kernel
theorem test_qualification_fail : (after (.srcQualificationFail 0 { fine with vMean := -1 }) (port (pv .qualifying))).src[(0 : SPort)].cause = 1 ∧
    (after (.srcQualificationFail 0 { fine with vMean := -1 }) (port (pv .qualifying))).raised bSRC 0 = true := by decide +kernel
theorem test_tracker_turns : (after (.mpptPerturb 0 9) (tracked none)).src[(0 : SPort)].mppt.up = false := by decide +kernel

/-! ### Battery ports -/

def bank (x : BatRec) : State := live.setBat 2 x
def bankIn (st : BatState) : BatRec := { BatRec.reset with st := st, vterm := 48000 }

theorem witness_BatteryConnection_presence : (bank (bankIn .absent)).presenceRuns 2 = true ∧ (bank (bankIn .absent)).portFree (BPort.port 2) = true ∧
    (bank (bankIn .absent)).bat[(2 : BPort)].st = .absent ∧ (20000 : Int) ≤ 20000 ∧ (-5001 : Int) < -5000 := by decide +kernel
theorem witness_BatteryConnection_qualify : (bank (bankIn .qualifying)).bat[(2 : BPort)].st = .qualifying ∧
    (bank (bankIn .qualifying)).bat[(2 : BPort)].pre = none ∧ (bank (bankIn .qualifying)).bat[(2 : BPort)].preRetry = none ∧
    (bank (bankIn .qualifying)).bat[(2 : BPort)].since + (bank (bankIn .qualifying)).batTq 2 ≤ (bank (bankIn .qualifying)).now ∧
    (bank (bankIn .qualifying)).stageBars 6 = false ∧ (bank (bankIn .qualifying)).presenceRuns 2 = true ∧
    (bank (bankIn .qualifying)).portFree (BPort.port 2) = true := by decide +kernel
def precharging (failed : Bool) : State := bank { bankIn .qualifying with pre := some (live.now - 50000), preFailed := failed }
theorem witness_BatteryConnection_precharge : (precharging false).bat[(2 : BPort)].pre = some (live.now - 50000) ∧
    live.now - 50000 + 50000 ≤ (precharging false).now ∧ ((48000 : Int) - 47000).natAbs ≤ 1000 ∧ 1000 < ((48000 : Int) - 46999).natAbs ∧
    (precharging false).bat[(2 : BPort)].preFailed = false ∧ (precharging true).bat[(2 : BPort)].preFailed = true ∧
    (precharging false).willRetry bBAT 4 2 = true ∧ ((precharging false).setReg (fmskAddr bBAT) 16).willRetry bBAT 4 2 = false := by
  decide +kernel
theorem witness_BatteryConnection_orders : ∀ st ∈ [BatState.present, .isolated, .locked], (bank (bankIn st)).serves (batPctlAt 2) ∧ (bank (bankIn st)).deferred = [] ∧
    (bank (bankIn st)).presenceRuns 2 = true ∧ (bank (bankIn st)).portFree (BPort.port 2) = true ∧
    (bank (bankIn st)).bat[(2 : BPort)].st = st ∧ (bank (bankIn st)).flt[bBAT].fst.getLsbD 4 = false := by unfold State.serves; decide +kernel
theorem witness_BatteryConnection_open : (bank { bankIn .present with isolating := true }).bat[(2 : BPort)].isolating = true ∧ (-49 : Int).natAbs < 50 ∧
    (bank { bankIn .present with isolating := true }).bat[(2 : BPort)].since + 15000 ≤ live.now := by decide +kernel

/-- A Charge flow on B3, Live under no profile. -/
def charge : FlowDef := ⟨0x2702, 0, 0, 0⟩
def charging (x : BatRec) : State := (bank x).setCtx 0 { FlowCtx.freed 1 with st := .live, d := charge }
theorem witness_BatteryProtection_absence : (charging (bankIn .present)).bat[(2 : BPort)].st = .present ∧
    (charging (bankIn .present)).chgFlow 2 = some 0 ∧ (-1 : Int) < 0 ∧ ((charging (bankIn .present)).chg[(2 : BPort)].vtgt : Int) + 500 < 501 ∧
    200 ≤ (200 : Int).natAbs ∧ 2 * (99 : Int).natAbs < (200 : Int).natAbs := by decide +kernel
theorem witness_BatteryProtection_probe : (bank { bankIn .present with cur := -199 }).bat[(2 : BPort)].st = .present ∧
    (bank { bankIn .present with cur := -199 }).bat[(2 : BPort)].cur.natAbs < 200 ∧ (1000 : Nat) < 1001 := by decide +kernel
def batHalt : State := (bank { bankIn .halted with absentAt := some (live.now - 10000) }).setHalt 6 [⟨bBAT, 2, 2, false⟩]
theorem witness_BatteryProtection_release : batHalt.bat[(2 : BPort)].st = .halted ∧ batHalt.safeLine = [] ∧
    (∀ d ∈ batHalt.halt[BPort.port 2], batHalt.batOwnEnded 2 d = true) ∧ batHalt.bat[(2 : BPort)].absentAt = some (live.now - 10000) ∧
    live.now - 10000 + 10000 ≤ batHalt.now := by decide +kernel
theorem witness_BatteryProtection_range : (bank (bankIn .present)).bat[(2 : BPort)].st = .present ∧ (18999 : Int) < 19000 ∧ (73000 : Int) < 73001 ∧
    (22000 : Nat) < 22001 := by decide +kernel
theorem witness_BatteryProtection_retry : (bank (bankIn .present)).canOccur bBAT 7 2 ∧ (bank (bankIn .present)).flt[bBAT].frty.getLsbD 7 = true ∧
    (bank (bankIn .present)).flt[bBAT].retries = [] ∧ (bank (bankIn .present)).flt[bBAT].windows = [] := by unfold State.canOccur; decide +kernel

theorem witness_BatteryProtection_ntc : live.ntcMeasured = true ∧ State.reset.ntcMeasured = false ∧ (live.reg (batPcfgAt 2)).bit 8 = true ∧
    ((live.setReg (batPcfgAt 2) 0).reg (batPcfgAt 2)).bit 8 = false := by decide +kernel

theorem test_terminal_range : (after (.batTerminalInRange 2 19999) (bank (bankIn .absent))).bat[(2 : BPort)].st = .absent ∧
    (after (.batTerminalInRange 2 20000) (bank (bankIn .absent))).bat[(2 : BPort)].st = .qualifying := by decide +kernel
theorem test_ntc : (after (.ntcFault 2 400001) live).bat[(2 : BPort)].ntc = 1 ∧ (after (.ntcFault 2 399) live).bat[(2 : BPort)].ntc = 2 := by
  decide +kernel

/-! ### Charging -/

/-- The check of R229 over the nine bytes that the rule names. -/
theorem test_crc : crc16 [0x31, 0x32, 0x33, 0x34, 0x35, 0x36, 0x37, 0x38, 0x39] = 0x29B1 := by decide +kernel

/-- Profiles of 24 flooded lead cells, 40 NiCd cells without and with a knee check, and 16 lithium cells behind BMS 15. -/
def leadEntries : List Entry :=
  [0x10610080883437F0, 0x40028EC320002800, 0x214E200FA0000000, 0x225DC00FA0000001, 0x235DC00FA0110001, 0x245FB40FA0000000, 0x2657E40FA0000001,
   0x2761A80FA0000001]
def nickelEntries : List Entry :=
  [0x12A0C08088347EAD, 0x40028EC320002800, 0x31432145A0000000, 0x223A980FA0000258, 0x253A980FA0000000, 0x2636B00FA0000000]
def kneedEntries : List Entry := [0x12A0A0808834206D, 0x40028EC320002800, 0x31432165A0000000, 0x223A980FA0000258, 0x2636B00FA0000000]
def lithiumEntries : List Entry :=
  [0x1540C08088342CA2, 0x40028EC320002800, 0x50F0640000000000, 0x2288B80FA0000000, 0x2388B80FA0100000, 0x2680E80FA0000000]
def numbered (n : Nat) (l : List Entry) : List (Nat × Entry) := (List.range l.length).map fun i => (n + i, l.getD i 0)
def table : List (Nat × Entry) := numbered 0 leadEntries ++ numbered 10 nickelEntries ++ numbered 20 kneedEntries ++ numbered 30 lithiumEntries
def spelled (l : List Entry) : Profile := profileOf (l.getD 0 0) l.tail

/-- The profiles are valid wherever the table holds them. -/
theorem valid_at (s : State) (n : Nat) (h : s.prof = table) : s.profile? n = ({ State.reset with prof := table } : State).profile? n := by
  unfold State.profile? State.profileCheck State.profileEntries State.entry
  rw [h]
theorem test_profiles : ({ State.reset with prof := table } : State).profile? 0 = some (spelled leadEntries) ∧
    ({ State.reset with prof := table } : State).profile? 10 = some (spelled nickelEntries) ∧
    ({ State.reset with prof := table } : State).profile? 20 = some (spelled kneedEntries) ∧
    ({ State.reset with prof := table } : State).profile? 30 = some (spelled lithiumEntries) := by decide +kernel

/-- B3 Present at 57.6 V with a Live Charge flow under the profile at `n`, and the charge engine in a state. -/
def onCharge (n : Word) : State :=
  { (bank { bankIn .present with vterm := 57600 }).setCtx 0 { FlowCtx.freed 1 with st := .live, d := ⟨0x2702, 0, n <<< 16, 0⟩ } with prof := table }
def charger (n : Word) (l : List Entry) (x : ChgRec) : State := (onCharge n).setChg 2 { x with wc := some (spelled l) }
def inPhase (k : Nat) : ChgRec := { ChgRec.reset with phase := k, since := 0, acctAt := 0, vtgt := 57600, itgt := 100 }

theorem charger_flow (n : Word) (l : List Entry) (x : ChgRec) : (charger n l x).chgFlow 2 = (onCharge n).chgFlow 2 ∧
    (charger n l x).ctx[(0 : Ctx)] = (onCharge n).ctx[(0 : Ctx)] ∧ (charger n l x).chg[(2 : BPort)].wc = some (spelled l) :=
  ⟨rfl, rfl, rfl⟩
/-- What every clause of ChargePhases and NickelEnd asks of the flow, in every state of the engine. -/
theorem witness_charge_flow (x : ChgRec) : (charger 0 leadEntries x).chgFlow 2 = some 0 ∧ (charger 0 leadEntries x).ctx[(0 : Ctx)].st = .live ∧
    (charger 0 leadEntries x).profile? (charger 0 leadEntries x).ctx[(0 : Ctx)].d.prof = some (spelled leadEntries) ∧
    (charger 0 leadEntries x).chg[(2 : BPort)].wc = some (spelled leadEntries) := by
  obtain ⟨a, b, c⟩ := charger_flow 0 leadEntries x
  refine ⟨a.trans (by decide +kernel), by rw [b]; decide +kernel, ?_, c⟩
  rw [b, show (onCharge 0).ctx[(0 : Ctx)].d.prof = 0 by decide +kernel, valid_at _ _ rfl]
  exact test_profiles.1
theorem witness_charge_lithium (x : ChgRec) : (charger 30 lithiumEntries x).chgFlow 2 = some 0 ∧
    (charger 30 lithiumEntries x).ctx[(0 : Ctx)].st = .live ∧
    (charger 30 lithiumEntries x).profile? (charger 30 lithiumEntries x).ctx[(0 : Ctx)].d.prof = some (spelled lithiumEntries) ∧
    (charger 30 lithiumEntries x).chg[(2 : BPort)].wc = some (spelled lithiumEntries) := by
  obtain ⟨a, b, c⟩ := charger_flow 30 lithiumEntries x
  refine ⟨a.trans (by decide +kernel), by rw [b]; decide +kernel, ?_, c⟩
  rw [b, show (onCharge 30).ctx[(0 : Ctx)].d.prof = 30 by decide +kernel, valid_at _ _ rfl]
  exact test_profiles.2.2.2
theorem witness_charge_nickel (x : ChgRec) : (charger 10 nickelEntries x).chgFlow 2 = some 0 ∧
    (charger 10 nickelEntries x).ctx[(0 : Ctx)].st = .live ∧
    (charger 10 nickelEntries x).profile? (charger 10 nickelEntries x).ctx[(0 : Ctx)].d.prof = some (spelled nickelEntries) ∧
    (charger 10 nickelEntries x).chg[(2 : BPort)].wc = some (spelled nickelEntries) := by
  obtain ⟨a, b, c⟩ := charger_flow 10 nickelEntries x
  refine ⟨a.trans (by decide +kernel), by rw [b]; decide +kernel, ?_, c⟩
  rw [b, show (onCharge 10).ctx[(0 : Ctx)].d.prof = 10 by decide +kernel, valid_at _ _ rfl]
  exact test_profiles.2.1
theorem witness_charge_knee (x : ChgRec) : (charger 20 kneedEntries x).chgFlow 2 = some 0 ∧
    (charger 20 kneedEntries x).ctx[(0 : Ctx)].st = .live ∧
    (charger 20 kneedEntries x).profile? (charger 20 kneedEntries x).ctx[(0 : Ctx)].d.prof = some (spelled kneedEntries) ∧
    (charger 20 kneedEntries x).chg[(2 : BPort)].wc = some (spelled kneedEntries) := by
  obtain ⟨a, b, c⟩ := charger_flow 20 kneedEntries x
  refine ⟨a.trans (by decide +kernel), by rw [b]; decide +kernel, ?_, c⟩
  rw [b, show (onCharge 20).ctx[(0 : Ctx)].d.prof = 20 by decide +kernel, valid_at _ _ rfl]
  exact test_profiles.2.2.1

def lead (k : Nat) : State := charger 0 leadEntries (inPhase k)
theorem witness_ChargePhases_qualify : (lead 0).chg[(2 : BPort)].phase = 0 ∧ (lead 0).chg[(2 : BPort)].since + 2000000 ≤ (lead 0).now ∧
    (lead 0).plausible (spelled leadEntries) 38399 = false ∧ (lead 0).plausible (spelled leadEntries) 38400 = true ∧
    (lead 0).qualifyWait 2 (spelled leadEntries) = 0 ∧
    ((lead 0).setBat 2 { bankIn .present with tntc := -1 }).qualifyWait 2 (spelled leadEntries) = 1 := by decide +kernel
theorem witness_ChargePhases_bulk : (lead 2).leavesForSafe 2 = false ∧ (lead 2).chg[(2 : BPort)].phase = 2 ∧
    isNickel (spelled leadEntries).chem = false ∧ 0 < (lead 2).chg[(2 : BPort)].vtgt ∧
    ((lead 2).chg[(2 : BPort)].vtgt : Int) ≤ (lead 2).bat[(2 : BPort)].vterm ∧ (lead 2).chgHeld 2 = false := by decide +kernel
/-- The lithium charger with a frame of BMS 15 that says full. -/
def cellsFull : State :=
  (charger 30 lithiumEntries (inPhase 3)).setBms 15 { BmsRec.reset with act := { BmsRec.reset.act with at_ := some live.now, cvl := 5700, cp := true, full := true, ncell := 16 } }
def entry15 : LithEntry := ⟨15, 100, 0⟩
theorem witness_ChargePhases_full : cellsFull.leavesForSafe 2 = false ∧ cellsFull.chgHeld 2 = false ∧ cellsFull.chg[(2 : BPort)].phase = 3 ∧
    (spelled lithiumEntries).lith = some entry15 ∧ cellsFull.bmsLive entry15 = true ∧ cellsFull.bms[entry15.bms].act.full = true := by decide +kernel
theorem witness_ChargePhases_safe : (charger 0 leadEntries { inPhase 7 with safe := true }).leavesForSafe 2 = true := by decide +kernel
def lasting (k : Nat) : State := charger 0 leadEntries { inPhase k with tphase := 60000000 }
theorem witness_ChargePhases_tmax : ∀ k ∈ [2, 3, 7], ((spelled leadEntries).phase? k).any (fun e => e.ontmax == if k = 3 then 1 else 0) = true ∧
    (lasting k).phaseMax 2 ≠ 0 ∧ k ≠ 6 ∧ (lasting k).chgHeld 2 = false ∧
    60000000 * (lasting k).phaseMax 2 ≤ ((lasting k).chg[(2 : BPort)].acct (lasting k).now).tphase := by decide +kernel
theorem witness_ChargePhases_timer : (spelled leadEntries).timer ≠ 0 ∧ timed 4 = true ∧
    7200000000 * (spelled leadEntries).timer ≤ (({ inPhase 4 with tsafe := 7200000000 } : ChgRec).acct live.now).tsafe := by decide +kernel
theorem witness_ChargePhases_exits : 0 < (lead 1).chg[(2 : BPort)].vtgt ∧ ((lead 1).chg[(2 : BPort)].vtgt : Int) ≤ 57600 ∧
    ((spelled leadEntries).phase? 3).any (fun e => e.iexit != 0 && decide (100 ≤ 25 * e.iexit)) = true ∧ (lead 3).inReg 2 = true ∧
    (lead 3).chgHeld 2 = false ∧ (lead 1).chgHeld 2 = false ∧ (lead 4).chgHeld 2 = false ∧ (lead 4).chg[(2 : BPort)].phase = 4 ∧ (9 : Nat) < 10 := by decide +kernel
theorem witness_ChargePhases_returns : 100 * (57023 : Int) < 99 * ((lead 6).chg[(2 : BPort)].vtgt : Int) ∧ 0 < (lead 6).chg[(2 : BPort)].itgt ∧
    (lead 6).chg[(2 : BPort)].itgt ≤ 100 ∧ (lead 6).chgHeld 2 = false ∧ (lead 8).chg[(2 : BPort)].frest = false ∧
    (50399 : Int) < ((spelled leadEntries).ncell * (spelled leadEntries).vrest : Nat) := by decide +kernel

theorem witness_ChargeHolds_orders : (lead 7).serves (chgPctlAt 2) ∧ (lead 7).deferred = [] ∧ (lead 7).chg[(2 : BPort)].portLeft = false ∧ (lead 7).portFree (BPort.port 2) = true ∧ (lead 7).chg[(2 : BPort)].phase = 7 ∧
    (lead 8).chg[(2 : BPort)].phase = 8 ∧ (lead 8).chg[(2 : BPort)].frest = false ∧ (lead 8).chg[(2 : BPort)].portLeft = false ∧
    (charger 0 leadEntries { inPhase 8 with frest := true }).chg[(2 : BPort)].frest = true := by unfold State.serves; decide +kernel
theorem witness_ChargeHolds_due : ((lead 6).reg (chgPcfgAt 2)).bit 1 = true ∧ (spelled leadEntries).eqdays ≠ 0 ∧
    ({ lead 6 with now := 86400000000 } : State).chg[(2 : BPort)].eqAt + 86400000000 * (spelled leadEntries).eqdays ≤ 86400000000 := by decide +kernel
theorem witness_ChargeHolds_window : 1 ≤ (lead 2).chg[(2 : BPort)].phase ∧ (lead 2).chg[(2 : BPort)].phase ≤ 7 ∧ (lead 2).chg[(2 : BPort)].hold = false ∧
    (-1 : Int) < 16 * (spelled leadEntries).temp.tcmin ∧ 16 * (spelled leadEntries).temp.tcmax < 641 ∧
    16 * ((spelled leadEntries).temp.tcmin + 3) ≤ 48 ∧ (592 : Int) ≤ 16 * ((spelled leadEntries).temp.tcmax - 3) ∧
    ({ inPhase 2 with hold := true } : ChgRec).hold = true := by decide +kernel
theorem witness_ChargeHolds_over : (lead 2).chgLive 2 = true ∧ 0 < (lead 2).chg[(2 : BPort)].vtgt ∧
    102 * ((lead 2).chg[(2 : BPort)].vtgt : Int) < 100 * 58753 ∧ (lead 2).bat[(2 : BPort)].st = .present ∧ (lead 2).canOccur bCHG 6 2 := by
  unfold State.canOccur; decide +kernel
theorem witness_ChargeHolds_bms : (charger 30 lithiumEntries (inPhase 3)).bmsMissing 2 = true ∧
    cellsFull.lithium 2 = some entry15 ∧ cellsFull.bmsLive entry15 = true ∧ (10 * cellsFull.bms[entry15.bms].act.cvl : Int) < 57001 ∧
    (cellsFull.setBms 15 { BmsRec.reset with act := { BmsRec.reset.act with at_ := some (live.now - 60100000) } }).disLapsed entry15 = true := by
  decide +kernel

def nicd (x : ChgRec) : State := charger 10 nickelEntries x
def termination (knee : Bool) : NickelEntry := ⟨20, 50, 5, knee, 45⟩
theorem witness_NickelEnd_entry : (spelled nickelEntries).nickel = some (termination false) ∧ (spelled kneedEntries).nickel = some (termination true) ∧
    isNickel (spelled nickelEntries).chem = true ∧ isNickel (spelled kneedEntries).chem = true ∧ (nicd (inPhase 2)).chg[(2 : BPort)].phase = 2 := by
  decide +kernel
def peaked : ChgRec := { inPhase 2 with vpk := 100, n := 2, dvArmed := true, dtArmed := true }
theorem witness_NickelEnd_dv : (80 : Int) ≤ peaked.vpk ∧ ((termination false).dv : Int) ≤ peaked.vpk - 80 ∧ peaked.block = 0 ∧ peaked.n = 2 ∧
    peaked.dvArmed = true ∧ (peaked.vpk : Int) < 101 := by decide +kernel
theorem witness_NickelEnd_slope : ∀ t ∈ [(720 : Int), 719], ((nicd peaked).setChg 2 { peaked with tbat := satInt 16 t, dtdt := satInt 16 50, wc := some (spelled nickelEntries) }).batTemp 2 ≠ none ∧
    (16 * (termination false).tabs : Int) = 720 ∧ ((termination false).dtdt : Int) ≤ 50 := by decide +kernel
theorem witness_NickelEnd_answer : ({ peaked with cand := some (4, live.now - 30000000), nrej := 2 } : ChgRec).cand = some (4, live.now - 30000000) ∧
    live.now ≤ live.now - 30000000 + 30000000 ∧ ({ peaked with cand := some (4, live.now - 30000000), nrej := 2 } : ChgRec).nrej < 3 ∧
    (nicd { peaked with cand := some (4, live.now - 30000000), nrej := 2 }).chgHeld 2 = false ∧
    (nicd { peaked with cand := some (4, live.now - 30000000), nrej := 2 }).bat[(2 : BPort)].st = .present ∧ (nicd peaked).chgHeld 2 = false := by
  decide +kernel
/-- The charger with a knee check, the estimator ready for it and not. -/
def asking : State := charger 20 kneedEntries peaked
theorem witness_NickelEnd_knee : (asking.setEst 2 { EstRec.reset with okSince := some (live.now - 1000000), base := some (100, 1000) }).kneeReady 2 = true ∧
    asking.kneeReady 2 = false ∧ asking.bat[(2 : BPort)].st = .present ∧ asking.chg[(2 : BPort)].cand = none ∧ asking.chgHeld 2 = false := by
  decide +kernel

theorem witness_RegisterAndProfileWrites_table : live.serves (profEloAt 6143) ∧ live.serves (profEhiAt 6143) ∧ live.serves profChkAt ∧
    ({ live with profIO := { live.profIO with lo := some (6143, 5) } } : State).profIO.lo = some (6143, 5) ∧ live.deferred = [] := by unfold State.serves; decide +kernel
theorem witness_RegisterAndProfileWrites_torn (lo : Word) : live.profIO.lo ≠ some (6143, lo) := fun h => nomatch h

theorem test_bulk_ends : (after (.chgPhaseTransition 2) (lead 2)).chg[(2 : BPort)].phase = 3 := by decide +kernel
theorem test_pair : (settled (.profEhiWrite .host 6143 7) { live with profIO := { live.profIO with lo := some (6143, 5) } }).entry 6143 = 0x700000005 := by
  decide +kernel
theorem test_torn : (after (.profEhiWrite .host 6143 7) live).profIO.torn = 1 := by decide +kernel

/-! ### The estimator -/

/-- The lead charger at B3 in Bulk with the estimator in a state; R260 has held for 1 s. -/
def sensed (x : EstRec) : State := (lead 2).setEst 2 { x with okSince := some (live.now - 1000000) }
def held (x : EstRec) : State := (lead 2).setEst 2 { x with okSince := some (live.now - 999999) }
def swept (x : EstRec) (l : List (Fin 15)) : EstRec := { x with st := .sweeping, todo := l }

theorem witness_Sweeps_start : (sensed EstRec.reset).est[(2 : BPort)].st = .waiting ∧ (sensed EstRec.reset).mayPerturb 2 = true ∧
    (sensed EstRec.reset).sweepDue 2 = true ∧ (held EstRec.reset).mayPerturb 2 = false := by decide +kernel
theorem witness_Sweeps_point : (sensed (swept EstRec.reset [0, 1])).est[(2 : BPort)].st = .sweeping ∧
    (sensed (swept EstRec.reset [0, 1])).est[(2 : BPort)].todo = 0 :: [1] ∧ (50 : Nat) < 51 ∧
    (sensed (swept EstRec.reset [0, 1])).est[(2 : BPort)].half = false ∧
    (sensed (swept EstRec.reset [0, 1])).willRetry bEST 5 2 = true ∧ (sensed (swept EstRec.reset [0, 1])).est[(2 : BPort)].again = false ∧
    (sensed (swept EstRec.reset [0, 1])).willRetry bEST 0 2 = true ∧
    ({ swept EstRec.reset [0, 1] with half := true, again := true } : EstRec).half = true ∧
    (((sensed (swept EstRec.reset [0, 1])).setReg (fmskAddr bEST) 0x21).willRetry bEST 0 2 ||
      ((sensed (swept EstRec.reset [0, 1])).setReg (fmskAddr bEST) 0x21).willRetry bEST 5 2) = false ∧ (sensed (swept EstRec.reset [0, 1])).pointOver 2 0 = true ∧
    (sensed (swept { EstRec.reset with startI := 10000 } [0, 1])).estAmp 2 = 2000 ∧ 2 * (999 : Nat) < 2000 ∧ 3 * (2000 : Nat) < 2 * 3001 ∧
    (2000 : Nat) ≤ 2 * 1000 ∧ 2 * (3000 : Nat) ≤ 3 * 2000 ∧
    (sensed (swept EstRec.reset [0, 1])).flt[bEST].retries = [] := by decide +kernel
/-- A sweep whose last point is done, k = 3 valid at 20 mohm, after one that gave 20.6 mohm. -/
def measured (conv : Bool) (rhf : Nat) : State :=
  sensed { swept EstRec.reset [] with
    fresh := 8, valid := 8, pz := EstRec.reset.pz.set 3 (2000, 0), last := true, lastT := (lead 2).batT 2, rhf := rhf, rconv := conv }
theorem witness_Sweeps_none : (sensed (swept EstRec.reset [])).est[(2 : BPort)].todo = [] ∧
    (sensed (swept EstRec.reset [])).est[(2 : BPort)].best = none := by decide +kernel
theorem witness_Sweeps_done : (measured false 2060).est[(2 : BPort)].st = .sweeping ∧ (measured false 2060).est[(2 : BPort)].todo = [] ∧
    (measured false 2060).est[(2 : BPort)].best = some 3 ∧ (measured false 2060).est[(2 : BPort)].rconv = false := by decide +kernel
theorem witness_Sweeps_jump : (measured true 1538).est[(2 : BPort)].best = some 3 ∧ (measured true 1538).est[(2 : BPort)].rconv = true ∧
    (measured true 1538).est[(2 : BPort)].last = true ∧
    sameTemp ((measured true 1538).batT 2) (measured true 1538).est[(2 : BPort)].lastT = true ∧ 30 * 1538 < 100 * (2000 - 1538) := by decide +kernel
theorem witness_Sweeps_resume : (sensed { EstRec.reset with st := .paused }).est[(2 : BPort)].st = .paused ∧
    (sensed { EstRec.reset with st := .paused }).mayPerturb 2 = true := by decide +kernel
theorem witness_Sweeps_expiry : (sensed { EstRec.reset with st := .paused, pausedAt := live.now - 600000000 }).est[(2 : BPort)].st = .paused ∧
    live.now - 600000000 + 600000000 ≤ live.now := by decide +kernel

/-- The NiCd charger at B3 in Bulk, its baseline 1.00 mohm of rise at 10 mohm. -/
def kneed (base : Option (Int × Int)) (asked : Bool) : State :=
  (nicd { inPhase 2 with dvFrom := live.now - 18500000, cand := if asked then some (2, live.now) else none }).setEst 2
    { EstRec.reset with okSince := some (live.now - 1000000), base := base, st := .knee, kneeAt := live.now - 18000000 }
theorem witness_KneeAndHistory_baseline : ∀ b ∈ [none, some ((100 : Int), (1000 : Int))], (kneed b false).nickelBulk 2 = true ∧
    (kneed b false).mayPerturb 2 = true ∧ (kneed b false).kneeOver 2 = true ∧ (kneed b false).chg[(2 : BPort)].cand = none := by
  decide +kernel
theorem witness_KneeAndHistory_check : (kneed none true).chg[(2 : BPort)].cand.isSome = true ∧ (kneed none true).nickelBulk 2 = true ∧
    (kneed none true).est[(2 : BPort)].base = none ∧ (kneed (some (100, 1000)) true).est[(2 : BPort)].base = some (100, 1000) ∧
    (kneed (some (100, 1000)) true).mayPerturb 2 = true ∧ (kneed (some (100, 1000)) true).kneeOver 2 = true ∧
    ({ kneed (some (100, 1000)) true with now := live.now - 1 } : State).kneeOver 2 = false ∧ (charger 20 kneedEntries { peaked with cand := some (2, live.now) }).mayPerturb 2 = false ∧
    ((kneed none true).reg (estPkcfAt 2)).bits 7 0 = 15 ∧ ((kneed none true).reg (estPkcfAt 2)).bits 15 8 = 20 := by decide +kernel
theorem witness_KneeAndHistory_orders : (lead 2).serves (estPctlAt 2) ∧ (lead 2).deferred = [] ∧
    (sensed (swept EstRec.reset [0])).est[(2 : BPort)].st = .sweeping ∧ (lead 2).est[(2 : BPort)].st = .waiting ∧
    (held EstRec.reset).mayPerturb 2 = false ∧ (sensed EstRec.reset).mayPerturb 2 = true ∧
    (sensed { EstRec.reset with st := .paused }).est[(2 : BPort)].st = .paused := by unfold State.serves; decide +kernel
/-- Banks of 100 Ah: the lead one with no history, and the NiCd one. -/
def rated (s : State) (x : EstRec) : State := (s.setReg (estPbatAt 2) 100).setEst 2 x
def returned : State :=
  let s := rated { lead 0 with ret := { live.ret with est := live.ret.est.set 2 ⟨true, 5000, 40, 95, 0, 0, 48979⟩ } } { EstRec.reset with first := true }
  s.setBat 2 { s.bat[(2 : BPort)] with vterm := 48000 }
theorem witness_KneeAndHistory_correction : (rated (lead 0) EstRec.reset).chg[(2 : BPort)].wc = some (spelled leadEntries) ∧
    (rated (lead 0) EstRec.reset).estCap 2 ≠ 0 ∧ (rated (lead 0) EstRec.reset).chgLive 2 = true ∧ (rated (lead 0) EstRec.reset).chg[(2 : BPort)].phase = 0 ∧
    (rated (lead 0) { EstRec.reset with quietAt := some 0 }).rested 2 (spelled leadEntries).chem = true ∧
    (rated (lead 0) { EstRec.reset with due := some 2 }).est[(2 : BPort)].due = some 2 ∧
    (rated (lead 0) { EstRec.reset with due := some 3 }).est[(2 : BPort)].due = some 3 ∧ (rated (lead 0) EstRec.reset).est[(2 : BPort)].formed = false ∧
    isLead (spelled leadEntries).chem = true ∧ (rated (nicd (inPhase 0)) EstRec.reset).estCap 2 ≠ 0 ∧ isLead (spelled nickelEntries).chem = false ∧
    (rated (lead 0) { EstRec.reset with formed := true }).soc 2 ≠ 0xFFFF ∧ (rated (lead 0) { EstRec.reset with formed := true }).soc 2 + 1500 < 10000 := by
  decide +kernel
theorem witness_KneeAndHistory_history : returned.est[(2 : BPort)].first = true ∧ returned.ret.est[(2 : BPort)].valid = true ∧
    returned.bat[(2 : BPort)].st = .present ∧ returned.ret.est[(2 : BPort)].soc ≠ 0xFFFF ∧
    50 * (max returned.bat[(2 : BPort)].vterm.toNat returned.ret.est[(2 : BPort)].v - min returned.bat[(2 : BPort)].vterm.toNat returned.ret.est[(2 : BPort)].v) ≤
      returned.ret.est[(2 : BPort)].v ∧ live.domOn 3 = true ∧ live.est[(0 : BPort)].savedAt + 60000000 ≤ live.now ∧
    ({ live with now := 59999999 } : State).now < live.est[(0 : BPort)].savedAt + 60000000 := by decide +kernel

theorem test_sweep_converges : (after (.estSweepDone 2) (measured false 2060)).est[(2 : BPort)].rconv = true ∧
    (after (.estSweepDone 2) (measured false 2061)).est[(2 : BPort)].rconv = false := by decide +kernel
theorem test_first_qualify : (after (.socCorrection 2 0 20375) (rated (lead 0) EstRec.reset)).soc 2 = 5000 := by decide +kernel

/-! ### The thermal manager and the feeders -/

def warmth (x : ThmRec) : State := { live with thm := x }
def sensor (k : Sensor) (x : SensorRec) : State := live.setSensor k x
def sensorIn (st : SensorSt) : SensorRec := { live.thm.sensors[(5 : Sensor)] with st := st, raw := 400, seen := true, node := 400 }

theorem witness_Sensors_sample : live.domOn 10 = true ∧ live.thm.sensors[(5 : Sensor)].st = .off ∧ live.thm.sensors[(5 : Sensor)].testAt = none ∧
    (sensor 5 (sensorIn .valid)).thm.sensors[(5 : Sensor)].st = .valid ∧ (sensor 5 (sensorIn .valid)).criterion 5 560 = none ∧
    (sensor 5 (sensorIn .valid)).criterion 5 561 = some (2, true) ∧ (sensor 5 (sensorIn .valid)).countsMax 5 = true := by decide +kernel
theorem witness_Sensors_retry : (sensor 5 { sensorIn .retry with cause := 2, t := 400 }).thm.sensors[(5 : Sensor)].st = .retry ∧
    (-880 : Int) ≤ 560 ∧ (560 : Int) ≤ 3200 ∧
    ((560 : Int) - (sensor 5 { sensorIn .retry with cause := 2, t := 400 }).thm.sensors[(5 : Sensor)].t).natAbs ≤ 160 ∧
    (-881 : Int) < -880 ∧ (3200 : Int) < 3201 := by decide +kernel
theorem witness_Sensors_selftest : (sensor 5 { sensorIn .off with testAt := some (live.now - 10000) }).thm.sensors[(5 : Sensor)].st = .off ∧
    (sensor 5 { sensorIn .off with testAt := some (live.now - 10000) }).thm.sensors[(5 : Sensor)].testAt = some (live.now - 10000) ∧
    (sensor 5 { sensorIn .off with testAt := some (live.now - 10000) }).domOn 10 = true ∧ live.now - 10000 + 10000 ≤ live.now ∧
    ({ sensorIn .retry with seen := false } : SensorRec).seen = false := by decide +kernel
theorem witness_Sensors_converged : (warmth { live.thm with okAt := some (live.now - 60000000) }).thm.okAt = some (live.now - 60000000) ∧
    (warmth { live.thm with runAt := some (live.now - 600000000) }).thm.runAt = some (live.now - 600000000) ∧
    live.now - 60000000 + 60000000 ≤ live.now ∧ live.now - 600000000 + 600000000 ≤ live.now := by decide +kernel
def passing : State := sensor 5 { sensorIn .failed with nfail := 2, passSince := some (live.now - 60000000) }
theorem witness_Sensors_return : passing.domOn 10 = true ∧ passing.thm.sensors[(5 : Sensor)].bad = true ∧
    passing.thm.sensors[(5 : Sensor)].nfail < 3 ∧ passing.thm.sensors[(5 : Sensor)].passSince = some (live.now - 60000000) ∧
    live.now - 60000000 + 60000000 ≤ passing.now ∧ ((480 : Int) - passing.thm.sensors[(5 : Sensor)].node).natAbs ≤ 80 ∧
    passing.thm.sensors[(5 : Sensor)].selfBad = false ∧ ({ sensorIn .failed with selfBad := true } : SensorRec).selfBad = true := by
  decide +kernel
theorem witness_Sensors_hold : (warmth { live.thm with hold := some live.now }).thm.hold = some live.now ∧
    (warmth { live.thm with hold := some live.now }).domOn 10 = true := by decide +kernel
theorem witness_Sensors_die : 2400 < (warmth { live.thm with die := live.thm.die.set 39 (2401, 0) }).thm.die[(39 : Cell)].1 := by decide +kernel
def fan (st : Nat) : State := live.setFan 2 { live.thm.fans[(2 : Fan)] with st := st, since := live.now - 1000000 }
theorem witness_Sensors_fans : (fan 1).thm.fans[(2 : Fan)].st = 1 ∧ (49 : Nat) < 50 ∧ (fan 2).thm.fans[(2 : Fan)].st = 2 ∧
    (fan 2).thm.fans[(2 : Fan)].since + 1000000 ≤ (fan 2).now ∧ (fan 2).fuse.variantL = false := by decide +kernel
def watched : State := warmth { live.thm with sensors := live.thm.sensors.map fun x => { x with st := .valid } }
theorem witness_Sensors_model : watched.domOn 10 = true ∧ ([0, 1, 2, 47] : List Sensor).Nodup ∧
    (∀ k ∈ ([0, 1, 2, 47] : List Sensor), watched.thm.sensors[k].st = .valid) := by decide +kernel

/-- The throttle in a condition, its last tick 250 ms ago at 110 degC, with T_ctl a figure. -/
def throttled (c : Cond) (tctl : Int) : State :=
  warmth { live.thm with
    cond := c, tctl := tctl, tickAt := live.now - 250000, tickT := 1760, step := 5, coolSince := some (live.now - 2000000),
    rsSince := some (live.now - 10000000) }
theorem witness_Throttle_tick : ∀ c ∈ [Cond.descending, .holding], (throttled c 1757).domOn 10 = true ∧ (throttled c 1757).thm.cond = c ∧
    (throttled c 1757).thm.tickAt + 250000 ≤ (throttled c 1757).now ∧ (1760 : Int) - 1757 < 4 ∧
    16 * ((throttled c 1757).thmThr : Int) ≤ 1757 ∧ (4 : Int) ≤ 1760 - 1756 ∧ (1679 : Int) < 16 * ((throttled c 1757).thmThr : Int) := by
  decide +kernel
theorem witness_Throttle_still : (throttled .recovering 1757).thm.cond = .recovering ∧
    (throttled .recovering 1757).thm.tickAt + 250000 ≤ (throttled .recovering 1757).now := by decide +kernel
theorem witness_Throttle_recovery : ∀ c ∈ [Cond.holding, .recovering], (throttled c 1500).thm.cond = c ∧
    (throttled c 1500).thm.coolSince = some (live.now - 2000000) ∧ live.now - 2000000 + 2000000 ≤ (throttled c 1500).now ∧
    (throttled c 1500).thm.hold = none := by decide +kernel
theorem witness_Throttle_shutdown : (throttled .shutdown 1500).thm.cond = .shutdown ∧
    (throttled .shutdown 1500).thm.rsSince = some (live.now - 10000000) ∧ live.now - 10000000 + 10000000 ≤ (throttled .shutdown 1500).now ∧
    (throttled .shutdown 1500).liveBit bTHM 3 = false ∧
    (∀ d ∈ ({ throttled .shutdown 1500 with safeLine := [thermalDriver] } : State).safeLine, d = thermalDriver) ∧
    holdDriver ∈ ({ throttled .shutdown 1500 with safeLine := [thermalDriver, holdDriver] } : State).safeLine ∧ holdDriver ≠ thermalDriver := by
  decide +kernel

/-- P2 as a feeder at 380 V, its Feeder flow Live, in a state; and with the flow suspended by the host. -/
def feed : FlowDef := ⟨0x204, 0, 0, 3800⟩
def feeding (st : FlowSt) (x : FdrRec) : State :=
  (((live.setCtx 0 { FlowCtx.freed 1 with st := st, scause := 1, d := feed }).setReg (awnFcfgAt 1) 0x500A1401).setFdr 1 x)
def fdrIn (st : FdrState) : FdrRec := { live.fdr[(1 : SPort)] with st := st, since := live.now - 50000, vref := 380000000, cap := 32000000 }
def feeder (st : FdrState) : State := feeding .live (fdrIn st)

theorem witness_FeederPort_request : ∀ st ∈ [FdrState.idle, .checking, .prebias], (feeder st).fdr[(1 : SPort)].st = st ∧
    (feeder st).startRequest 1 = true ∧ (feeder st).stageBars (SPort.port 1) = false ∧ (feeding .suspended (fdrIn st)).startRequest 1 = false ∧ (feeder st).fdr[(1 : SPort)].extSaid = false ∧
    (feeder st).fdr[(1 : SPort)].since + 50000 ≤ (feeder st).now := by decide +kernel
theorem witness_FeederPort_limit : (feeder .running).fdrTarget 1 = 380000 ∧ 100 * 372399 < 98 * 380000 ∧ 98 * 380000 ≤ 100 * 372400 ∧
    (feeder .running).fdr[(1 : SPort)].ilim ≤ (feeder .running).fdr[(1 : SPort)].cur.natAbs ∧
    (feeder .limiting).fdr[(1 : SPort)].st = .limiting := by decide +kernel
theorem witness_FeederPort_delivers : ∀ st ∈ [FdrState.ramping, .running, .limiting], (feeder st).fdr[(1 : SPort)].delivers = true ∧
    (feeding .suspended (fdrIn st)).startRequest 1 = false ∧ (feeder st).fdr[(1 : SPort)].reduced = false ∧
    ({ fdrIn st with yield := true } : FdrRec).reduced = true ∧
    100000 * 303999 < (feeder st).fdr[(1 : SPort)].vref * (feeder st).fdrUv 1 ∧ 11 * (feeder st).fdrTarget 1 < 10 * 418001 := by decide +kernel
theorem witness_FeederPort_yield : (45999 : Nat) < supplied.culm.msv ∧ supplied.culm.msv ≤ 47040 ∧ 49 * supplied.culm.vset ≤ 50 * 47040 ∧
    50 * 48960 ≤ 51 * supplied.culm.vset := by decide +kernel
theorem witness_FeederPort_stopping : (feeder .stopping).fdr[(1 : SPort)].st = .stopping ∧ (-49 : Int).natAbs < 50 := by decide +kernel
def fdrHalt : State := (feeding .live { fdrIn .halted with retryAt := some live.now }).setHalt 2 [⟨bCULM, 2, 2, false⟩]
theorem witness_FeederPort_halted : (fdrHalt.fdr[(1 : SPort)].st = .halted ∧ fdrHalt.safeLine = [] ∧
    (∀ d ∈ (feeder .halted).halt[SPort.port 1], (feeder .halted).ownEnded 1 d = true)) ∧
    fdrHalt.fdr[(1 : SPort)].retryAt = some live.now ∧ live.now ≤ fdrHalt.now ∧ fdrHalt.stageBars (SPort.port 1) = false := by decide +kernel

theorem test_tick_rises : (after .throttleTick (throttled .descending 1757)).thm.step = 6 ∧
    (after .throttleTick (throttled .descending 1756)).thm.step = 5 := by decide +kernel
theorem test_feeder_checks : (after (.feederCheckPassed 1 30000 30000 99) (feeder .checking)).fdr[(1 : SPort)].st = .checking ∧
    (after (.feederCheckPassed 1 30000 30000 100) (feeder .checking)).fdr[(1 : SPort)].st = .prebias := by decide +kernel

/-! ### The setpoint link -/

/-- The Awn link in a state, its last valid frame `us` ago, the tag 7 expected and 6 the last one answered. -/
def linked (l : AwnLink) (us : Nat) : State :=
  { supplied with awn := { live.awn with link := l, validAt := live.now - us, statAt := live.now - us, tagexp := 7, taglast := some 6, reply := some 0x42 } }
/-- A Setpoint of 53 V with the tag, a Query, a Keepalive and the reserved operation. -/
def setpoint (tag : Nat) : Word := BitVec.ofNat 32 (tag * 2 ^ 22 + 53000)

theorem witness_AwnFrames_setpoint : (linked .up 0).awnUp = true ∧ awnOp (setpoint 7) = 0 ∧ awnTag (setpoint 7) = (linked .up 0).awn.tagexp ∧
    awnTag (setpoint 6) ≠ (linked .up 0).awn.tagexp ∧ (linked .up 0).awn.taglast = some (awnTag (setpoint 6)) ∧
    (linked .up 0).awn.reply = some 0x42 ∧ (linked .up 0).awn.txq.length ≤ 14 ∧ awnTag (setpoint 255) ≠ (linked .up 0).awn.tagexp ∧
    (linked .up 0).awn.taglast ≠ some (awnTag (setpoint 255)) := by decide +kernel
theorem witness_AwnFrames_other : awnOp 0x40000000 = 1 ∧ awnOp 0x80000000 = 2 ∧ awnOp 0xC0000000 = 3 ∧ (linked .training 0).awn.link ≠ .disabled ∧
    (linked .training 0).domOn 9 = true := by decide +kernel
def arbitrating (m : CulmMode) (pend : Option Nat) : State :=
  let s := linked .up 0
  { s with xslots := [⟨1, .setpoint (setpoint 7), 1, .own⟩], culm := { s.culm with mode := m }, awn := { s.awn with pend := pend } }
theorem witness_AwnSetpoints_arrives : ∀ m ∈ [CulmMode.off, .stubble, .regulating], (arbitrating m (some 6)).domOn 3 = true ∧
    (arbitrating m (some 6)).awnSlot = some (setpoint 7) ∧ (arbitrating m (some 6)).awn.txq.length ≤ 14 ∧ (arbitrating m (some 6)).img.req = none ∧
    (arbitrating m (some 6)).culm.mode = m ∧ (arbitrating m (some 6)).awn.pend = some 6 := by decide +kernel
theorem witness_AwnSetpoints_ends : (arbitrating .regulating (some 6)).awn.pend = some 6 ∧
    (arbitrating .regulating (some 6)).rampEnd + 10 * ((arbitrating .regulating (some 6)).reg awnCfg2At).bits 7 0 ≤
      (arbitrating .regulating (some 6)).now ∧
    199 * (arbitrating .regulating (some 6)).culm.target ≤ 200 * 47760 ∧ 200 * 48240 ≤ 201 * (arbitrating .regulating (some 6)).culm.target ∧
    (arbitrating .regulating (some 6)).rampEnd + 1000 * ((arbitrating .regulating (some 6)).reg awnCfg2At).bits 15 8 ≤
      (arbitrating .regulating (some 6)).now := by decide +kernel
theorem witness_AwnLink_up : (linked .training 0).awn.link = .training ∧ (linked .training 0).peerAbsent 1 = false ∧
    awnOp (setpoint 0) = 0 ∧ awnTag (setpoint 0) = 0 ∧ (linked .up 10000).awn.link = .up ∧
    (linked .up 10000).awn.validAt + 1000 * ((linked .up 10000).reg awnCfgAt).bits 23 16 ≤ (linked .up 10000).now := by decide +kernel
def heldSetpoint : State := { linked .down 0 with awn := { (linked .down 0).awn with src := 2, lostAt := some (live.now - 5000000) } }
theorem witness_AwnLink_hold : heldSetpoint.awn.src = 2 ∧ heldSetpoint.awn.lostAt = some (live.now - 5000000) ∧
    (heldSetpoint.reg awnCfgAt).bits 15 8 = 50 ∧ live.now - 5000000 + 100000 * (heldSetpoint.reg awnCfgAt).bits 15 8 ≤ heldSetpoint.now := by
  decide +kernel
def reporting : State := (linked .up 1000000).setReg awnCfg2At 0x00010A64
theorem witness_AwnLink_status : reporting.awn.link = .up ∧ (reporting.reg awnCfg2At).bits 23 16 = 1 ∧
    reporting.awn.statAt + 1000 * (reporting.reg awnCfg2At).bits 23 16 ≤ reporting.now ∧ reporting.awn.txq.length ≤ 15 := by decide +kernel
theorem witness_AwnLink_transmit : ({ linked .up 0 with awn := { (linked .up 0).awn with txq := [(.status, 1), (.received, 2)] } } : State).awn.txq ≠ [] ∧
    (linked .up 0).domOn 9 = true := by decide +kernel
/-- A state of the link with the stores canonical, as AWN_CFG is written. -/
def unlinked : State := { live with awn := { live.awn with link := .disabled } }
theorem unlinked_inv : unlinked.Inv := by constructor <;> decide +kernel
theorem witness_AwnLink_config : unlinked.serves awnCfgAt ∧ unlinked.Inv ∧ unlinked.deferred = [] ∧ unlinked.domOn 9 = true ∧ unlinked.awn.link = .disabled ∧
    (1 : Word).bit 0 = true ∧ (0 : Word).bit 0 = false :=
  ⟨by unfold State.serves; decide +kernel, unlinked_inv, by decide +kernel, by decide +kernel, by decide +kernel, by decide +kernel, by decide +kernel⟩

theorem test_loss_of_link : (after (.awnLinkDown 3) (linked .up 9999)).awn.link = .up ∧ (after (.awnLinkDown 3) (linked .up 10000)).awn.link = .down := by
  decide +kernel
theorem test_query : (after (.awnQueryFrame 0x40000000) (linked .up 0)).awn.txq.length = 2 := by decide +kernel

/-! ### Sheaf Link and CAN -/

/-- The module at a position of a ring with both sides in a state. -/
def node (pos st : Nat) : State :=
  { live with ring := { live.ring with pos := pos, sides := Vector.replicate 2 ⟨st, 0, 0, 0, none, [], false⟩ } }
def broadcast (typ : Byte) (src : Byte) (payload : List Byte) : Frame := { frame typ payload with dst := 0xFF, src := src }
def bySn (s : State) (typ : Byte) (payload : List Byte) : Frame := { frame typ (snBytes s.fuse.sn ++ payload) with dst := 0xFE }

theorem witness_RingNode_sides : (node 0 1).domOn 1 = true ∧ (node 0 1).ring.sides[(0 : Side)].st ≠ 2 ∧ (node 0 1).ring.pos = 0 ∧
    (node 0 1).ring.sides[(0 : Side)].own.length < 8 ∧ (node 1 2).ring.sides[(1 : Side)].st = 2 := by decide +kernel
/-- A frame for position 2, at 63 hops and at 64, and the module's own. -/
def passingBy (hops : Byte) : Frame := { frame 0x10 [] with dst := 2, hops := hops }
theorem witness_RingNode_forward : (1 : Side) ≠ 0 ∧ (node 1 2).ownFrame (passingBy 63) = false ∧ (node 1 2).addressed (passingBy 63) = false ∧
    (passingBy 63).hops.toNat < 64 ∧ 64 ≤ (passingBy 64).hops.toNat ∧
    (node 1 2).ownFrame { passingBy 0 with src := 1, stag := (node 1 2).stag } = true := by decide +kernel
theorem test_spoilt_copy : (after (.ringFrameForward 0 (passingBy 0) false) (node 1 2)).ring.sides[(1 : Side)].spoilt = true := by decide +kernel
theorem witness_RingNode_discover : (broadcast 0x01 0 []).typ = 0x01 ∧ (broadcast 0x01 0 []).dst = 0xFF ∧
    (node 0 2).repeated (broadcast 0x01 0 []) = false ∧ (node 0 2).ring.identAt + 1000000 ≤ (node 0 2).now := by decide +kernel
theorem witness_RingNode_sent : ({ node 0 2 with ring := { (node 0 2).ring with sides := Vector.replicate 2 ⟨2, 0, 0, 0, none, [frame 2 []], false⟩ } } :
    State).ring.sides[(1 : Side)].own = frame 2 [] :: [] := by decide +kernel
theorem witness_RingNode_assign : ∀ n ∈ [(1 : Byte), 64], (node 0 2).takesHost (bySn (node 0 2) 0x03 [n]) 0x03 = true ∧
    (node 0 2).bySerial (bySn (node 0 2) 0x03 [n]) = true ∧ assignedOf (bySn (node 0 2) 0x03 [n]) ≤ 64 ∧
    (node 0 2).authOk (bySn (node 0 2) 0x03 [n]) = true ∧ (node 0 2).serviceRuns = true ∧
    (∀ x : Side, (node 0 2).ring.sides[x].own.length < 8) := by decide +kernel
theorem witness_RingNode_conflict : (node 1 2).ringUp = true ∧ (node 1 2).ring.pos ≠ 0 ∧
    (broadcast 0x02 1 []).src.toNat = (node 1 2).ring.pos ∧ (broadcast 0x02 1 []).stag ≠ (node 1 2).stag := by decide +kernel

/-- The module with one key programmed; and with the core restarting. -/
def keyed : State := { node 1 2 with fuse := { live.fuse with keys := [Vector.replicate 8 1] } }
def restarting : State := { node 1 2 with dom := { live.dom with coreRestart := some 0 } }
/-- A READ of `n` words and a WRITE of a word at an address. -/
def readOf (a : Nat) (n : Byte) : Frame := frame 0x10 (wBytes (BitVec.ofNat 32 a) ++ [n, 0, 0, 0])
def writeOf (a : Nat) (l : List Word) : Frame := frame 0x11 (wBytes (BitVec.ofNat 32 a) ++ l.flatMap wBytes)
theorem witness_RingRequests_read : (∀ x : Side, keyed.ring.sides[x].own.length < 8) ∧ keyed.takesHost (readOf 0 1) 0x10 = true ∧
    keyed.authOk (readOf 0 1) = false ∧ restarting.takesHost (readOf 0 1) 0x10 = true ∧ restarting.authOk (readOf 0 1) = true ∧
    restarting.serviceRuns = false ∧ (∀ x : Side, restarting.ring.sides[x].own.length < 8) ∧ (node 1 2).serviceRuns = true := by decide +kernel
theorem witness_RingRequests_bounds : ∀ n ∈ [(1 : Byte), 63], (node 1 2).takesHost (readOf 0xFFFFFC n) 0x10 = true ∧
    addrOk (addrOf (readOf 0xFFFFFC n)) (byteAt (bodyOf (readOf 0xFFFFFC n)) 4) = true ∧
    addrOk (addrOf (readOf 0x1000000 n)) (byteAt (bodyOf (readOf 0x1000000 n)) 4) = false ∧
    addrOk (addrOf (readOf 0 64)) (byteAt (bodyOf (readOf 0 64)) 4) = false := by decide +kernel
theorem witness_RingRequests_write : (node 1 2).takesHost (writeOf 0x0D0010 [5]) 0x11 = true ∧ (node 1 2).authOk (writeOf 0x0D0010 [5]) = true ∧
    addrOk (addrOf (writeOf 0x0D0010 [5])) (wordsOf (writeOf 0x0D0010 [5])).length = true ∧ (bodyOf (writeOf 0x0D0010 [5])).length % 4 = 0 ∧
    addrOk (addrOf (writeOf 0x0D0012 [5])) (wordsOf (writeOf 0x0D0012 [5])).length = false ∧
    (node 1 2).takesHost (writeOf 0x0D0012 [5]) 0x11 = true := by decide +kernel
/-- The module after it answered the host's frame 9 of type 0x10. -/
def answered : State :=
  { (node 1 2).heard (readOf 0 1) (some 9) with
    ring := { ((node 1 2).heard (readOf 0 1) (some 9)).ring with replies := [(0x10, 9, frame 0x12 [0, 0, 0, 0])] } }
theorem witness_RingRequests_again : answered.ringUp = true ∧ answered.addressed (readOf 0 1) = true ∧ answered.positioned (readOf 0 1) = true ∧
    answered.repeated (readOf 0 1) = true ∧ ({ readOf 0 1 with flags := 2 } : Frame).flags.getLsbD 1 = true ∧ answered.authRequired = false ∧
    (answered.ring.replies.find? fun q => q.1 == (0x10 : Byte).toNat && q.2.1 == (readOf 0 1).seq.toNat) =
      some (0x10, 9, frame 0x12 [0, 0, 0, 0]) := by decide +kernel
theorem witness_RingRequests_other : (node 1 2).takesHost (frame 0x40 []) 0x40 = true ∧ (node 1 2).takesHost (frame 0x7F []) 0x7F = true ∧
    knownType 0x7F = false ∧ (node 1 2).authOk (frame 0x7F []) = true ∧ keyed.takesHost (frame 0x30 []) 0x30 = true ∧
    keyed.serviceRuns = true ∧ keyed.fuse.keys.getLast? = some (Vector.replicate 8 1) ∧ keyed.serves ringCtlAt := by
  unfold State.serves; decide +kernel

/-- A Lend flow over P1 to the module at position 2, Live and paired. -/
def lend : FlowDef := ⟨0x01100085, 0, 0, 0⟩
def pairedWith (l : List Byte) : State :=
  let s := (node 1 2).setReg (ringPstkAt 0) 5
  { s.setCtx 0 { FlowCtx.freed 1 with st := .live, d := lend, paired := true } with
    ring := { s.ring with
      sendDue := true, evalDue := true, stookAt := some (live.now - 30000), exch := if l = [] then [] else [(2, 9, l)]
      peers := [⟨2, 9, [], live.now - 100000⟩] } }
theorem witness_StookExchange_frames : (node 1 2).ringUp = true ∧ (broadcast 0x20 0 [1, 2, 3, 4]).src = 0 ∧
    (broadcast 0x20 1 [1, 2, 3, 4]).src ≠ 0 ∧ (node 1 2).repeated (broadcast 0x20 0 [1, 2, 3, 4]) = false ∧
    4 * (node 1 2).ring.pos ≤ (broadcast 0x20 0 [1, 2, 3, 4]).payload.length ∧ (node 1 2).ownFrame (broadcast 0x21 2 [0x25, 1, 0, 9]) = false ∧
    (node 1 2).repeated (broadcast 0x21 2 [0x25, 1, 0, 9]) = false := by decide +kernel
theorem witness_StookExchange_flow : (pairedWith []).ctx[(0 : Ctx)].d.kind = 5 ∧ (pairedWith []).ctx[(0 : Ctx)].st = .live ∧
    (pairedWith []).ctx[(0 : Ctx)].paired = true ∧ (pairedWith []).ctx[(0 : Ctx)].d.remote + 1 = 2 ∧
    (∀ q ∈ (pairedWith []).ring.peers, q.src = 2 → q.stag = (pairedWith []).ctx[(0 : Ctx)].pstag → q.heard + 100000 ≤ (pairedWith []).now) ∧
    (pairedWith []).stkOf lend = 5 ∧ (pairedWith []).ring.sendDue = true ∧ (pairedWith []).ring.evalDue = true ∧
    (pairedWith []).ring.stookAt = some (live.now - 30000) ∧ live.now - 30000 + 30000 ≤ (pairedWith []).now ∧ (pairedWith []).ring.lost = false := by
  decide +kernel
theorem witness_StookExchange_reports : 0 ∈ (pairedWith []).exchFlows ∧
    (pairedWith [0x25, 1, 0, 9]).ring.exch = [(2, 9, [0x25, 1, 0, 9])] ∧ exchEntries [0x25, 1, 0, 9] = [(2, 5, 1, 9)] ∧
    exchEntries [0x26, 1, 0, 9] = [(2, 6, 1, 9)] ∧ (∀ q ∈ (pairedWith []).ring.exch, q.1 ≠ 2) := by decide +kernel

def onBus (b : Nat) : State := { live with can := { live.can with bus := b, txq := [(1, [])] } }
def bmsAt (row : Nat) : State := (onBus 0).setBms 15 { BmsRec.reset with limCtr := some 3, stCtr := some 3, staleRow := row }
/-- A LIMITS frame with a counter and a charge voltage in 10 mV, and a STATE frame with a counter and alarms. -/
def limits (n : Byte) (cvl : Nat) : List Byte := [n, 3, 16, 0] ++ bytes16 cvl ++ bytes16 500 ++ bytes16 500 ++ bytes16 2000 ++ [0, 0, 0, 0]
def bmsState (n alarms : Byte) : List Byte := [n, alarms, 0, 0, 0, 0, 0, 0, 0, 0, 0, 0, 20, 25, 0, 0]
theorem witness_CanInterface_limits : (bmsAt 6).canOn = true ∧ limitsValid (limits 4 1999) = false ∧ limitsValid (limits 4 2000) = true ∧
    limitsValid (limits 15 7200) = true ∧ limitsValid (limits 15 7201) = false ∧ (bmsAt 6).bms[(15 : Bms)].limCtr ≠ some (byteAt (limits 4 2000) 0) ∧
    (bmsAt 6).bms[(15 : Bms)].limCtr = some (byteAt (limits 3 2000) 0) ∧ (bmsAt 6).bms[(15 : Bms)].staleRow < 7 ∧
    (bmsAt 7).bms[(15 : Bms)].staleRow = 7 ∧ limitsValid (limits 3 2000) = true := by decide +kernel
theorem witness_CanInterface_state : stateValid (bmsState 4 0) = true ∧ stateValid (bmsState 4 63) = true ∧
    (bmsAt 0).bms[(15 : Bms)].stCtr ≠ some (byteAt (bmsState 4 0) 0) ∧ byteAt (bmsState 4 0) 1 = 0 ∧ byteAt (bmsState 4 63) 1 ≠ 0 := by decide +kernel
theorem witness_CanInterface_send : cellsFull.lithium 2 = some entry15 ∧ cellsFull.domOn 1 = true ∧
    ({ cellsFull with can := (onBus 0).can } : State).can.bus ≠ 3 ∧
    (onBus 0).can.sentAt[(2 : BPort)] + 10000 * (live.reg canCfgAt).bits 31 24 ≤ live.now ∧ (onBus 0).can.txq = (1, []) :: [] := by decide +kernel
theorem witness_CanInterface_bus : (onBus 0).can.bus = 0 ∧ (onBus 1).can.bus = 1 ∧ (onBus 2).can.bus = 2 ∧ (onBus 1).canOn = true ∧
    live.domOn 1 = true := by decide +kernel
theorem onBus_inv : (onBus 3).Inv := by constructor <;> decide +kernel
theorem witness_CanInterface_config : (onBus 3).serves canCfgAt ∧ (onBus 3).Inv ∧ canCfgBad 0x0A180501 = false ∧ canCfgBad 0x0A200501 = true ∧
    canCfgBad 0x0A1F0501 = false ∧ ((onBus 3).reg canCfgAt).bit 0 ≠ (0x0A180500 : Word).bit 0 :=
  ⟨by unfold State.serves; decide +kernel, onBus_inv, by decide +kernel, by decide +kernel, by decide +kernel, by decide +kernel⟩

theorem test_read_reply : (after (.ringRead (readOf 0x1000000 1)) (node 1 2)).ring.sides[(0 : Side)].own.map (·.payload) = [[2, 0, 0, 0]] := by
  decide +kernel
theorem test_config_reserved : (after (.canCfgWrite .host 0x0A200501) (onBus 3)).reg canCfgAt = 0x0A180501 := by decide +kernel

/-! ### Registers, frames and the invariant -/

theorem witness_RegisterAndProfileWrites_clock : live.serviceRuns = true ∧ live.serves domRtcAt ∧ live.serves thrBudpAt ∧
    (2 : Nat) ≠ 4 ∧ (0x0D0012 : BitVec 24).toNat % 4 ≠ 0 ∧ live.accessCause 0x20 = none := by unfold State.serves; decide +kernel
theorem witness_RegisterAndProfileWrites_cause : live.accessCause 0x150000 = some 1 ∧ (0x150000 : BitVec 24).toNat / 0x10000 = 21 ∧
    ({ live with dom := { live.dom with on := 0xFF7 } } : State).accessCause 0x0D0010 = some 2 ∧
    ({ live with dom := { live.dom with on := 0xFF7 } } : State).domOn (homeDomain (0x0D0010 / 0x10000)) = false ∧
    ({ live with dom := { live.dom with on := 0xFF7 } } : State).serviceRuns = true := by decide +kernel
theorem witness_RegisterAndProfileWrites_inv : live.Inv := live_inv
theorem witness_WriteOneToClear : hasFaults bFAB.val = true ∧ live.serves (0x10000 * bFAB.val + 0x0F00) ∧
    (faulty bFAB { live.flt[bFAB] with fst := 1, occNow := 1 }).raised bFAB 0 = true ∧
    (faulty bFAB { live.flt[bFAB] with fst := 1, occNow := 1 }).flt[bFAB].occNow.getLsbD 0 = true ∧ live.deferred = [] := by unfold State.serves; decide +kernel

theorem witness_ControlFrames : family .identPeriodic ∈ [Family.flows, .image, .power, .faults, .log, .watchdog, .thresher, .pipeline, .ring,
    .registers] ∧ ∃ t, exec .identPeriodic (node 0 2) = .next t := ⟨by decide +kernel, _, rfl⟩
theorem witness_PortFrames : family (.estSweepStart 2) ∈ [Family.fabric, .culm, .load, .source, .battery, .charging, .estimation, .thermal,
    .feeder, .awn, .can] ∧ ∃ t, exec (.estSweepStart 2) (sensed EstRec.reset) = .next t := ⟨by decide +kernel, _, rfl⟩
theorem witness_RecordFrames : live.serves (srcPctlAt 3) ∧ live.serves (batPctlAt 2) ∧ live.serves (chgPctlAt 2) ∧ live.serves (estPctlAt 2) ∧ live.deferred = [] ∧
    ∀ x, (drained false).stage? 6 = some x → x.again = false := by
  unfold State.serves
  refine ⟨by decide +kernel, by decide +kernel, by decide +kernel, by decide +kernel, by decide +kernel, ?_⟩
  intro x h
  rw [witness_Governor_drain false |>.1] at h
  cases h
  rfl
theorem witness_RecordFrames_next : (∃ t, exec (.shedParked 39 0) live = .next t) ∧ (∃ t, exec (.srcPresenceMet 3 0 0) live = .next t) ∧
    (∃ t, exec (.srcRearm .host 3) live = .next t) ∧ (∃ t, exec (.batRearm .host 2) live = .next t) ∧
    (∃ t, exec (.nickelHoldoffEnd 2) live = .next t) ∧ (∃ t, exec (.chgEq .host 2) live = .next t) ∧
    (∃ t, exec (.kneeBaseline 2 0 0) live = .next t) ∧ (∃ t, exec (.estAbort .host 2) live = .next t) ∧
    (∃ t, exec (.feederYield 3 0 0) (feeder .running) = .next t) ∧ (∃ t, exec (.portDischargeEnd 6 0) (drained false) = .next t) ∧
    (∃ t, exec (.dischargeElementHoldEnd 6) (drained false) = .next t) :=
  ⟨⟨_, rfl⟩, ⟨_, rfl⟩, ⟨_, rfl⟩, ⟨_, rfl⟩, ⟨_, rfl⟩, ⟨_, rfl⟩, ⟨_, rfl⟩, ⟨_, rfl⟩, ⟨_, rfl⟩, ⟨_, rfl⟩, ⟨_, rfl⟩⟩
/-- The last page of bank 1 is being programmed: the bytes stored to. -/
theorem witness_StoreFrame : (storing (.program 1 511 (Vector.replicate 64 0))).storedBy (.nvsProgramComplete true) = [(0x3FF00, 256)] := by
  decide +kernel
theorem witness_StoreFrame_next : ∃ t, exec (.nvsProgramComplete true) (storing (.program 1 511 (Vector.replicate 64 0))) = .next t := ⟨_, rfl⟩
theorem witness_InvariantKept : live.Inv ∧ ∃ t, step live = .next t := ⟨live_inv, _, rfl⟩

theorem test_narrow : (after (.registerWrite .mgmt 0x0D0010 2 5) live).sys.cause = 3 := by decide +kernel
theorem test_rtc : (after (.domRtcWrite .mgmt 77) live).rtc = 77 := by decide +kernel

end Sys2Proof.Tests
end

section
/-!
PROOFS. The architecture's first statements (spec/01_architecture.md): the next iteration, a parity error, the writes of the fault
registers, the flow commands, Thresher's commits, timers and rounds. First, what the shared operations leave of single fields.
-/

namespace Sys2Proof.Machine

/-! ### What the shared operations leave of single fields -/

@[simp] theorem settle_flow (s : State) : s.settle.flow = s.flow := but_flow (fs := [.groups, .ctx, .chg]) (by simp) (by decide)
@[simp] theorem settle_flt (s : State) : s.settle.flt = s.flt := but_flt (fs := [.groups, .ctx, .chg]) (by simp) (by decide)
@[simp] theorem settle_deferred (s : State) : s.settle.deferred = s.deferred :=
  but_deferred (fs := [.groups, .ctx, .chg]) (by simp) (by decide)
@[simp] theorem settle_rw (s : State) : s.settle.rw = s.rw := but_rw (fs := [.groups, .ctx, .chg]) (by simp) (by decide)
@[simp] theorem settle_thr (s : State) : s.settle.thr = s.thr := but_thr (fs := [.groups, .ctx, .chg]) (by simp) (by decide)

@[simp] theorem iterationEnds_flow (s : State) : s.iterationEnds.flow = s.flow := rfl
@[simp] theorem iterationEnds_ctx (s : State) : s.iterationEnds.ctx = s.ctx := rfl
@[simp] theorem iterationEnds_bms (s : State) : s.iterationEnds.bms = s.bms := rfl
@[simp] theorem iterationEnds_deferred (s : State) : s.iterationEnds.deferred = s.deferred := rfl

/-- The end of an iteration forgets which sources occurred in it, and nothing else of a fault record. -/
theorem iterationEnds_get (s : State) (b : Blk) : s.iterationEnds.flt[b] = { s.flt[b] with occNow := 0 } := by
  simp [State.iterationEnds]

/-- The reaction lines of a severity leave the fault records as they are. -/
@[simp] theorem reactLines_flt (s : State) (b : Blk) (src : Src) (obj : Nat) : (s.reactLines b src obj).flt = s.flt :=
  flt_of_but (by simp)

/-- The release of lines leaves the fault records as they are. -/
@[simp] theorem releaseLines_flt (s : State) (b : Blk) : (s.releaseLines b).flt = s.flt := rfl

/-- A property that every update of a fold keeps holds behind the fold. -/
theorem foldl_keeps {α σ : Type} (P : σ → Prop) (f : σ → α → σ) (h : ∀ s a, P s → P (f s a)) (l : List α) {s : σ} (hs : P s) :
    P (l.foldl f s) := List.foldlRecOn l f hs fun s hs a _ => h s a hs

/-- A property that every update of a list keeps holds behind them all. -/
theorem forEach_keeps {α : Type} (P : State → Prop) (f : State → α → State) (h : ∀ s a, P s → P (f s a)) (l : List α) {s : State}
    (hs : P s) : P (forEach l f s) := foldl_keeps P f h l hs

/-! ### The next iteration -/

/-- Grace timers taken off leave the severity word in effect as it is. -/
theorem dropGrace_sev (s : State) (b : Blk) (p : Grace → Bool) : (s.dropGrace b p).flt[b].sev = s.flt[b].sev := by
  simp [State.dropGrace]

/-- A severity word that takes effect is the one that FSEV holds. -/
theorem applySeverity_sev (s : State) (b : Blk) : (s.applySeverity b).flt[b].sev = s.reg (fsevAddr b) := by
  have hw : s.endWarn.rw = s.rw := but_rw (fs := [.flt]) (by simp) (by decide)
  unfold State.applySeverity
  extract_lets old s1 x s2
  refine foldl_keeps (fun t : State => t.flt[b].sev = s.reg (fsevAddr b)) _ (fun t i ht => ?_) _ ?_
  · extract_lets was is
    split
    · exact (dropGrace_sev t b _).trans ht
    · split
      · exact foldl_keeps (fun u : State => u.flt[b].sev = s.reg (fsevAddr b)) _ (fun u o hu => by simpa using hu) _
          ((dropGrace_sev t b _).trans ht)
      · exact ht
  · simp only [s2, s1, setFlt_flt, Fin.getElem_fin, vset_same, State.reg, hw]

/-- One microsecond passes at a tick, and the queue stays as it is. -/
theorem tick_pending_now (s : State) : s.tick.pending = s.pending ∧ s.tick.now = s.now + 1 := by
  let fs : List Fld := [.freeN, .deferred, .flt, .safeLine, .halt, .x3, .xing, .xslots, .rw, .nv, .prof, .log, .ret, .dom, .img, .nvs,
    .fab, .groups, .cells, .culm, .branches, .src, .flow, .ctx, .bat, .fdr, .chg, .profIO, .bms, .est, .thm, .thr, .sense, .awn, .ring]
  have h : (s.nextIteration.retrain.mirrors).but fs = s.but fs := by simp [fs]
  have hp : s.nextIteration.retrain.mirrors.pending = s.pending := but_pending h (by decide)
  have hn : s.nextIteration.retrain.mirrors.now = s.now := but_now h (by decide)
  exact ⟨hp, congrArg (· + 1) hn⟩

/-- Bits cleared while their source was live stand again where it still is. -/
theorem iterate_relatch (s : State) (b : Blk) (m : BitVec 8) (h : s.deferred = [.relatch b m]) :
    s.iterate.flt[b].fst = s.flt[b].fst ||| (m &&& s.flive b) ∧ s.iterate.deferred = [] := by
  rw [iterate_one s _ h, iterationEnds_get]
  simp only [State.runDeferred, releaseLines_flt, setFlt_flt, Fin.getElem_fin, vset_same]
  exact ⟨rfl, rfl⟩

/-- A severity that waits is in effect. -/
theorem iterate_severity (s : State) (b : Blk) (h : s.deferred = [.severity b]) :
    s.iterate.flt[b].sev = s.reg (fsevAddr b) := by
  rw [iterate_one s _ h, iterationEnds_get]
  exact applySeverity_sev { s with deferred := [] } b

/-- The limits that a BMS sent act. -/
theorem iterate_limits (s : State) (k : Bms) (h : s.deferred = [.limits k]) :
    s.iterate.bms[k].act = s.bms[k].came ∧ s.iterate.deferred = [] := by
  have e : (({ s with deferred := [] } : State).runDeferred (.limits k)).but [.groups, .ctx, .chg] =
      (({ s with deferred := [] } : State).setBms k { s.bms[k] with act := s.bms[k].came }).but [.groups, .ctx, .chg] := by
    simp [State.runDeferred]
  rw [iterate_one s _ h, iterationEnds_bms, iterationEnds_deferred, but_bms e (by decide), but_deferred e (by decide)]
  simp

/-- Settles O13: an empty queue is a tick, and of what waits alone at an iteration each kind has its equation. -/
theorem nextIteration : Obligations.NextIteration := by
  intro s b
  refine ⟨fun hp => ?_, fun a v h => iterate_one s _ h, fun m => iterate_relatch s b m, iterate_severity s b,
    fun n w h => iterate_one s _ h, iterate_limits s⟩
  obtain ⟨hq, hn⟩ := tick_pending_now s
  exact ⟨s.tick, by simp [step, hp], hq.trans hp, hn⟩

/-! ### A parity error -/

/-- The Safe line holds every driver that asserts it, and loses none. -/
theorem assertSafe_safeLine (s : State) (d : Driver) :
    (s.assertSafe d).safeLine = if s.safeLine.contains d then s.safeLine else s.safeLine ++ [d] := by
  have e (u : State) : ((u.unsettle u.culm.vmeas).stopAll.safeLoads.safePorts.safeActivation.enterStubble.settle).safeLine = u.safeLine :=
    but_safeLine (fs := [.deferred, .dom, .img, .fab, .groups, .cells, .culm, .branches, .src, .ctx, .bat, .fdr, .chg, .thr, .awn])
      (by simp) (by decide)
  unfold State.assertSafe
  extract_lets first t
  split
  · exact e t
  · rfl

theorem assertSafe_asserts (s : State) (d : Driver) : d ∈ (s.assertSafe d).safeLine := by
  rw [assertSafe_safeLine]
  split <;> simp_all

/-- A property of the state that only the Safe line's action could end: it rests on no field that an occurrence changes otherwise, and
it survives the assertion of the Safe line. -/
structure State.Steady (P : State → Prop) : Prop where
  but : ∀ {s t : State}, t.but [.deferred, .flt, .halt, .x3, .xing, .log, .ret, .fab, .groups, .cells, .branches, .src, .ctx, .bat, .fdr,
    .chg, .est] = s.but [.deferred, .flt, .halt, .x3, .xing, .log, .ret, .fab, .groups, .cells, .branches, .src, .ctx, .bat, .fdr, .chg,
    .est] → P s → P t
  safe : ∀ {s : State} (d : Driver), P s → P (s.assertSafe d)

/-- A reaction's lines keep a steady property. -/
theorem reactLines_steady {P : State → Prop} (hP : State.Steady P) {s : State} (b : Blk) (src : Src) (obj : Nat) (h : P s) :
    P (s.reactLines b src obj) := by
  unfold State.reactLines
  split
  · exact foldl_keeps P _ (fun t p ht => hP.but (by simp) ht) _ h
  · exact hP.safe _ h
  · exact h

/-- A reaction keeps a steady property. -/
theorem react_steady {P : State → Prop} (hP : State.Steady P) {s : State} (b : Blk) (src : Src) (obj : Nat) (h : P s) :
    P (s.react b src obj) := by
  unfold State.react
  split
  · exact h
  · split
    · exact hP.but (by simp) h
    · extract_lets x
      split <;> exact hP.but (by simp) h
    · exact reactLines_steady hP b src obj h

/-- An occurrence keeps a steady property. -/
theorem occur_steady {P : State → Prop} (hP : State.Steady P) {s : State} (b : Blk) (src : Src) (obj : Nat) (stays : Bool) (h : P s) :
    P (s.occur b src obj stays) := by
  unfold State.occur
  split
  · exact h
  split
  · exact h
  extract_lets t
  split
  · exact hP.but (by simp [t]) h
  · unfold State.occurred
    extract_lets u x running inWindow
    split
    · split
      · exact react_steady hP b src obj (hP.but (by simp [u, t]) h)
      · split
        · exact react_steady hP b src obj (hP.but (by simp [u, t]) h)
        · exact hP.but (by simp [u, t]) h
    · exact react_steady hP b src obj (hP.but (by simp [u, t]) h)

/-- A driver stays on the Safe line. -/
theorem driver_steady (e : Driver) : State.Steady (fun s => e ∈ s.safeLine) where
  but hb h := by
    rwa [but_safeLine hb (by decide)]
  safe d h := by
    rw [assertSafe_safeLine]
    split <;> simp [h]

/-- Settles O14: the parity error's own driver asserts the Safe line, and its report leaves it. -/
theorem parityError : Obligations.ParityError := by
  intro s b hb
  exact ⟨_, if_pos hb, List.ne_nil_of_mem (occur_steady (driver_steady _) bLOG 4 b.val false (assertSafe_asserts _ _))⟩

/-! ### Folds -/

/-- A fold that meets an element whose update reaches a property, and whose every update keeps it, ends with it; `Q` is what the updates
before that element keep. -/
theorem foldl_reaches {α σ : Type} (P Q : σ → Prop) (f : σ → α → σ) {a : α} (hq : ∀ s x, Q s → Q (f s x)) (hp : ∀ s x, P s → P (f s x))
    (ha : ∀ s, Q s → P (f s a)) {l : List α} (hl : a ∈ l) {s : σ} (hs : Q s) : P (l.foldl f s) := by
  obtain ⟨l, m, rfl⟩ := List.append_of_mem hl
  rw [List.foldl_append, List.foldl_cons]
  exact foldl_keeps P f hp m (ha _ (foldl_keeps Q f hq l hs))

/-! ### The status bits -/

theorem srcBit_getLsbD (i j : Src) : (srcBit j).getLsbD i.val = decide (j = i) := by
  revert i j
  decide

/-- A word gathered source by source has the bits of the sources for which a condition holds. -/
theorem foldl_srcBits (f : Src → Bool) (l : List Src) (w : BitVec 8) (i : Src) :
    (l.foldl (fun w (i : Src) => if f i then w ||| BitVec.ofNat 8 (2 ^ i.val) else w) w).getLsbD i.val =
      (w.getLsbD i.val || (l.contains i && f i)) := by
  induction l generalizing w with
  | nil => simp
  | cons j l ih =>
    have step : (if f j then w ||| srcBit j else w).getLsbD i.val = (w.getLsbD i.val || (decide (j = i) && f j)) := by
      cases hf : f j <;> simp only [if_true, if_false, Bool.false_eq_true, BitVec.getLsbD_or, srcBit_getLsbD, Bool.and_true, Bool.and_false,
        Bool.or_false]
    rw [List.foldl_cons, ih]
    refine (congrArg (· || (l.contains i && f i)) step).trans ?_
    by_cases hji : j = i
    · subst hji
      cases f j <;> simp
    · have hij : (i == j) = false := beq_false_of_ne (Ne.symm hji)
      simp only [hji, decide_false, Bool.false_and, Bool.or_false, List.contains_cons, hij, Bool.false_or]

/-- The live register has the live bit of each source. -/
theorem flive_getLsbD (s : State) (b : Blk) (i : Src) : (s.flive b).getLsbD i.val = s.liveBit b i := by
  unfold State.flive
  rw [foldl_srcBits]
  simp

theorem raised_of_fst {s t : State} {b : Blk} (i : Src) (h : t.flt[b].fst = s.flt[b].fst) : t.raised b i = s.raised b i := by
  unfold State.raised
  rw [h]

/-- A status word with the bits of one source added keeps every bit raised. -/
theorem raised_of_or {s t : State} {b k : Blk} {i j : Src} (h : t.flt[k].fst = if b = k then s.flt[k].fst ||| srcBit j else s.flt[k].fst)
    (hr : s.raised k i = true) : t.raised k i = true := by
  unfold State.raised at hr ⊢
  rw [h]
  split <;> simp only [BitVec.getLsbD_or, hr, Bool.true_or]

/-- A status word with the bit of a source added has the source raised. -/
theorem raised_own {s t : State} {b : Blk} {j : Src} (h : t.flt[b].fst = if b = b then s.flt[b].fst ||| srcBit j else s.flt[b].fst) :
    t.raised b j = true := by
  unfold State.raised
  rw [h, if_pos rfl, srcBit_set]

@[simp] theorem iterationEnds_raised (s : State) (b : Blk) (i : Src) : s.iterationEnds.raised b i = s.raised b i :=
  raised_of_fst i (by rw [iterationEnds_get])
@[simp] theorem settle_raised (s : State) (b : Blk) (i : Src) : s.settle.raised b i = s.raised b i := by
  simp only [State.raised, settle_flt]

theorem markLive_fst (s : State) (b k : Blk) (src : Src) (obj : Nat) (stays : Bool) :
    (s.markLive b src obj stays).flt[k].fst = s.flt[k].fst := by
  unfold State.markLive
  extract_lets t x
  refine (setFlt_fst_same t b k _ ?_).trans (endWarn_fst s k)
  rfl

theorem latch_fst (s : State) (b k : Blk) (src : Src) :
    (s.latch b src).flt[k].fst = if b = k then s.flt[k].fst ||| srcBit src else s.flt[k].fst := by
  unfold State.latch
  rw [setFlt_fst]
  split <;> simp_all

/-! ### FST (R434) -/

theorem dropGrace_fst (s : State) (b k : Blk) (p : Grace → Bool) : (s.dropGrace b p).flt[k].fst = s.flt[k].fst :=
  setFlt_fst_same s b k _ rfl

/-- What follows the clearing of status bits leaves the status words. -/
theorem afterClear_fst (s : State) (b k : Blk) (w : BitVec 8) : (s.afterClear b w).flt[k].fst = s.flt[k].fst := by
  have h : (s.afterClear b w).flt = (s.dropGrace b fun g => w.getLsbD g.src.val).flt :=
    but_flt (fs := [.safeLine, .halt, .est, .sense]) (by simp [State.afterClear]) (by decide)
  rw [h, dropGrace_fst]

/-- The bits that a write to FST clears: none of a source that occurred in the iteration of the write (R469). -/
def State.w1cBits (s : State) (b : Blk) (v : Word) : BitVec 8 := BitVec.ofNat 8 (v.bits 7 0) &&& ~~~s.flt[b].occNow

/-- What a write of 1s to FST does: the bits clear, and those of live sources are to return. -/
theorem w1c_eq {s : State} {b : Blk} {v : Word} (hv : v.bits 7 0 ≠ 0) :
    ∃ t : State, t.flt[b].fst = s.flt[b].fst &&& ~~~s.w1cBits b v ∧
      s.w1c b v = if s.w1cBits b v &&& s.flive b &&& s.flt[b].fst = 0 then t
        else { t with deferred := t.deferred ++ [.relatch b (s.w1cBits b v &&& s.flive b &&& s.flt[b].fst)] } := by
  refine ⟨_, (afterClear_fst (s.setFlt b { s.flt[b] with fst := s.flt[b].fst &&& ~~~s.w1cBits b v }) b b
    (s.w1cBits b v &&& ~~~s.flive b)).trans ?_, if_neg hv⟩
  simp

/-- A live source's bit that a write to FST clears is to return. -/
theorem w1c_relatch {s : State} {b : Blk} {v : Word} {i : Src} (hr : s.raised b i = true) (hc : (s.w1c b v).raised b i = false)
    (hl : s.liveBit b i = true) : ∃ m : BitVec 8, .relatch b m ∈ (s.w1c b v).deferred ∧ m.getLsbD i.val = true := by
  have hv : v.bits 7 0 ≠ 0 := fun h => by
    have e : s.w1c b v = s := if_pos h
    rw [e, hr] at hc
    contradiction
  obtain ⟨t, hf, he⟩ := w1c_eq (s := s) (b := b) hv
  have ht : t.raised b i = false := by
    rw [he] at hc
    split at hc <;> exact hc
  have hw : (s.w1cBits b v &&& s.flive b &&& s.flt[b].fst).getLsbD i.val = true := by
    unfold State.raised at ht hr
    rw [hf, BitVec.getLsbD_and, hr, Bool.true_and, BitVec.getLsbD_not] at ht
    rw [BitVec.getLsbD_and, BitVec.getLsbD_and, flive_getLsbD, hl, hr]
    simpa using ht
  have hn : ¬s.w1cBits b v &&& s.flive b &&& s.flt[b].fst = 0 := fun h => by
    rw [h] at hw
    exact absurd hw (by simp)
  rw [he, if_neg hn]
  exact ⟨_, List.mem_append_right _ (List.mem_singleton_self _), hw⟩

/-! ### FFRC (R437) -/

theorem forcedReport_fst (s : State) (b k : Blk) (src : Src) (obj : Nat) :
    (s.forcedReport b src obj).flt[k].fst = s.flt[k].fst := by
  unfold State.forcedReport
  extract_lets x
  split
  · refine (fst_of_flt k ((report_flt _ _ _ _ _ _).trans (retryLost_flt _ _ _ _))).trans (setFlt_fst_same s b k _ ?_)
    rfl
  · exact fst_of_flt k (report_flt _ _ _ _ _ _)

/-- An injection sets its own status bit and no other. -/
theorem forced_fst {s : State} {b : Blk} {src : Src} (obj : Nat) (k : Blk) (hs : hasSource b.val src.val = true)
    (hm : s.masked b src = false) :
    (s.forced b src obj).flt[k].fst = if b = k then s.flt[k].fst ||| srcBit src else s.flt[k].fst := by
  have hl : (((s.markLive b src obj false).latch b src).forcedReport b src obj).flt[k].fst =
      if b = k then s.flt[k].fst ||| srcBit src else s.flt[k].fst := by
    rw [forcedReport_fst, latch_fst, markLive_fst]
  unfold State.forced
  rw [if_neg (by simp [hs, hm])]
  extract_lets t u
  have hu : u.flt = t.flt := but_flt (fs := [.deferred, .fab, .groups, .cells, .ctx, .chg, .est, .thm, .sense])
    (by simp only [u]; split <;> simp) (by decide)
  split
  · rename_i w hw
    have e : w.flt = u.flt := but_flt (fs := [.deferred, .safeLine, .dom, .img, .fab, .groups, .cells, .culm, .branches, .src, .ctx, .bat,
      .fdr, .chg, .thm, .thr, .awn]) (forcedSpecial_but hw (by simp) (by simp) (by simp) (by simp) (by simp) (by simp) (by simp) (by simp)
        (by simp) (by simp) (by simp) (by simp) (by simp) (by simp) (by simp) (by simp) (by simp)) (by decide)
    rw [e, hu]
    exact hl
  · rw [react_fst, hu]
    exact hl

/-- A masked or reserved source is not forced. -/
theorem forced_ignored {s : State} {b : Blk} {src : Src} (obj : Nat) (h : hasSource b.val src.val = false ∨ s.masked b src = true) :
    s.forced b src obj = s := if_pos h

theorem forced_raised {s : State} {b k : Blk} {src i : Src} {obj : Nat} (hr : s.raised k i = true) :
    (s.forced b src obj).raised k i = true := by
  by_cases h : hasSource b.val src.val = false ∨ s.masked b src = true
  · rwa [forced_ignored obj h]
  · simp only [not_or, Bool.not_eq_false, Bool.not_eq_true] at h
    exact raised_of_or (forced_fst obj k h.1 h.2) hr

/-- What FFRC does for one source of its word. -/
def State.forceOne (b : Blk) (v : Word) (s : State) (i : Src) : State :=
  if v.bit i.val then
    match s.ffrcObj b i v with
    | some obj => s.forced b i obj
    | none => s
  else s

theorem force_eq (s : State) (b : Blk) (v : Word) : s.force b v = (List.finRange 8).foldl (State.forceOne b v) s := rfl

theorem forceOne_raised {s : State} {b k : Blk} {v : Word} {i j : Src} (hr : s.raised k i = true) :
    (State.forceOne b v s j).raised k i = true := by
  unfold State.forceOne
  split
  · split
    · exact forced_raised hr
    · exact hr
  · exact hr

theorem forceOne_rw (s : State) (b : Blk) (v : Word) (j : Src) : (State.forceOne b v s j).rw = s.rw := by
  unfold State.forceOne
  split
  · split
    · exact but_rw (fs := [.deferred, .flt, .safeLine, .halt, .x3, .xing, .log, .ret, .dom, .img, .fab, .groups, .cells, .culm, .branches,
        .src, .ctx, .bat, .fdr, .chg, .est, .thm, .thr, .sense, .awn]) (by simp) (by decide)
    · rfl
  · rfl

/-- The named object is forced. -/
theorem forceOne_own {s : State} {b : Blk} {v : Word} {i : Src} {obj : Nat} (hv : v.bit i.val = true) (ho : s.ffrcObj b i v = some obj)
    (hs : hasSource b.val i.val = true) (hm : s.masked b i = false) : (State.forceOne b v s i).raised b i = true := by
  unfold State.forceOne
  simp only [hv, if_true, ho]
  exact raised_own (forced_fst obj b hs hm)

/-- Outside FAB and FLOW the index of an FFRC word names the same object in every state. -/
theorem ffrcObj_fixed (s t : State) {b : Blk} (hfab : b ≠ bFAB) (hflow : b ≠ bFLOW) (i : Src) (v : Word) :
    t.ffrcObj b i v = s.ffrcObj b i v := by
  have h5 : b.val ≠ 5 := fun e => hfab (Fin.ext e)
  have h14 : b.val ≠ 14 := fun e => hflow (Fin.ext e)
  unfold State.ffrcObj
  split
  case h_3 | h_11 => contradiction
  all_goals rfl

/-- A source that an FFRC word forces on a named object is raised: outside FAB and FLOW, and there where the word forces it alone. -/
theorem force_raises {s : State} {b : Blk} {v : Word} {i : Src} {obj : Nat} (hv : v.bit i.val = true) (ho : s.ffrcObj b i v = some obj)
    (hs : hasSource b.val i.val = true) (hm : s.masked b i = false)
    (hb : (b ≠ bFAB ∧ b ≠ bFLOW) ∨ ∀ j : Src, j ≠ i → v.bit j.val = false) : (s.force b v).raised b i = true := by
  rw [force_eq]
  rcases hb with ⟨hfab, hflow⟩ | alone
  · refine foldl_reaches (·.raised b i = true) (·.rw = s.rw) (State.forceOne b v) (fun u j hu => (forceOne_rw u b v j).trans hu)
      (fun u j => forceOne_raised) (fun u hu => ?_) (List.mem_finRange i) rfl
    exact forceOne_own hv ((ffrcObj_fixed s u hfab hflow i v).trans ho) hs (by simpa only [State.masked, State.reg, hu] using hm)
  · have own (u : State) (hu : u = s ∨ u.raised b i = true) : (State.forceOne b v u i).raised b i = true := by
      rcases hu with rfl | hu
      · exact forceOne_own hv ho hs hm
      · exact forceOne_raised hu
    refine foldl_reaches (·.raised b i = true) (fun u => u = s ∨ u.raised b i = true) (State.forceOne b v) (fun u j hu => ?_)
      (fun u j => forceOne_raised) own (List.mem_finRange i) (.inl rfl)
    by_cases hj : j = i
    · subst hj
      exact .inr (own u hu)
    · rwa [State.forceOne, alone j hj, if_neg Bool.false_ne_true]

/-! ### FSEV and FMSK (R436, R439, R440) -/

/-- A register reads the value put into it, where the store is in its canonical form. -/
theorem putReg_reg {s : State} (a : Nat) (v : Word) (h : swf regReset s.rw = true) : (s.putReg a v).reg a = v :=
  sget_sput_same _ s.rw 0 a v h

theorem reg_of_rw {s t : State} (a : Nat) (h : t.rw = s.rw) : t.reg a = s.reg a := by rw [State.reg, h, State.reg]

@[simp] theorem settle_reg (s : State) (a : Nat) : s.settle.reg a = s.reg a := reg_of_rw a (settle_rw s)
@[simp] theorem iterationEnds_reg (s : State) (a : Nat) : s.iterationEnds.reg a = s.reg a := rfl
@[simp] theorem settle_masked (s : State) (b : Blk) (i : Src) : s.settle.masked b i = s.masked b i :=
  congrArg (Word.bit · i.val) (settle_reg s (fmskAddr b))
@[simp] theorem iterationEnds_masked (s : State) (b : Blk) (i : Src) : s.iterationEnds.masked b i = s.masked b i := rfl

/-- A severity word that takes effect leaves the registers. -/
theorem applySeverity_rw (s : State) (b : Blk) : (s.applySeverity b).rw = s.rw :=
  but_rw (fs := [.deferred, .flt, .safeLine, .halt, .dom, .img, .fab, .groups, .cells, .culm, .branches, .src, .ctx, .bat, .fdr, .chg,
    .thr, .awn]) (by simp) (by decide)

/-- A write of FSEV is stored and in effect. -/
theorem writeSev_effect {s : State} (b : Blk) (v : Word) (h : swf regReset s.rw = true) :
    (s.writeSev b v).reg (fsevAddr b) = enforceSev b.val (v &&& 0x00FFFFFF) ∧
      (s.writeSev b v).flt[b].sev = enforceSev b.val (v &&& 0x00FFFFFF) := by
  unfold State.writeSev
  rw [applySeverity_sev, reg_of_rw _ (applySeverity_rw _ b), putReg_reg _ _ h]
  exact ⟨rfl, rfl⟩

/-- What an unretried reaction or a retry of a source adds to a fault record: causes stay, and every grace timer and retry beyond
those that ran is of the source. -/
structure BlkFault.Adds (src : Src) (x y : BlkFault) : Prop where
  live : y.live = x.live
  grace : ∀ g ∈ y.grace, g ∈ x.grace ∨ g.src = src
  retries : ∀ q ∈ y.retries, q ∈ x.retries ∨ q.src = src

theorem BlkFault.Adds.refl (src : Src) (x : BlkFault) : BlkFault.Adds src x x := ⟨rfl, fun _ => .inl, fun _ => .inl⟩

theorem BlkFault.Adds.trans {src : Src} {x y z : BlkFault} (h : BlkFault.Adds src x y) (k : BlkFault.Adds src y z) :
    BlkFault.Adds src x z where
  live := k.live.trans h.live
  grace g hg := (k.grace g hg).elim (h.grace g) .inr
  retries q hq := (k.retries q hq).elim (h.retries q) .inr

/-- A fault record replaced by one that adds only for a source. -/
theorem setFlt_adds {s : State} {b : Blk} {src : Src} {y : BlkFault} (h : BlkFault.Adds src s.flt[b] y) :
    BlkFault.Adds src s.flt[b] (s.setFlt b y).flt[b] := by
  simpa only [setFlt_flt, Fin.getElem_fin, vset_same] using h

theorem adds_of_flt {s t : State} {b : Blk} (src : Src) (h : t.flt = s.flt) : BlkFault.Adds src s.flt[b] t.flt[b] := by
  rw [h]
  exact .refl src _

/-- A reaction adds at most the grace timer of its source. -/
theorem react_adds (s : State) (b : Blk) (src : Src) (obj : Nat) : BlkFault.Adds src s.flt[b] (s.react b src obj).flt[b] := by
  unfold State.react
  split
  · exact .refl src _
  · split
    · exact setFlt_adds ⟨rfl, fun _ => .inl, fun _ => .inl⟩
    · extract_lets x
      split
      · exact adds_of_flt src (flt_of_but (by simp))
      · refine setFlt_adds ⟨rfl, fun g hg => ?_, fun _ => .inl⟩
        exact (List.mem_append.mp hg).imp_right fun h => by rw [List.mem_singleton.mp h]
    · exact adds_of_flt src (reactLines_flt s b src obj)

/-- An occurrence that is not masked adds at most the grace timer and the retry of its source. -/
theorem occurred_adds (s : State) (b : Blk) (src : Src) (obj : Nat) : BlkFault.Adds src s.flt[b] (s.occurred b src obj).flt[b] := by
  have hl : BlkFault.Adds src s.flt[b] (s.latch b src).flt[b] := setFlt_adds ⟨rfl, fun _ => .inl, fun _ => .inl⟩
  unfold State.occurred
  extract_lets s1 x running inWindow
  refine hl.trans ?_
  have hr (kind : Kind) : BlkFault.Adds src s1.flt[b] ((s1.report b src kind false obj).react b src obj).flt[b] :=
    (adds_of_flt src (report_flt _ _ _ _ _ _)).trans (react_adds _ b src obj)
  split
  · split
    · refine BlkFault.Adds.trans ?_ (react_adds _ b src obj)
      refine BlkFault.Adds.trans (setFlt_adds ?_) (adds_of_flt src ((report_flt _ _ _ _ _ _).trans (retryLost_flt _ _ _ _)))
      exact ⟨rfl, fun _ => .inl, fun q hq => .inl (List.mem_filter.mp hq).1⟩
    · split
      · exact hr .lasting
      · refine BlkFault.Adds.trans (setFlt_adds ?_) (adds_of_flt src (report_flt _ _ _ _ _ _))
        refine ⟨rfl, fun _ => .inl, fun q hq => ?_⟩
        exact (List.mem_append.mp hq).imp_right fun h => by rw [List.mem_singleton.mp h]
  · exact hr .occurrence

/-- No grace timer or retry of a block is of a source that a mask holds (R436). -/
def BlkFault.Unmasked (m : Word) (x : BlkFault) : Prop :=
  (∀ g ∈ x.grace, m.bit g.src.val = false) ∧ ∀ q ∈ x.retries, m.bit q.src.val = false

theorem BlkFault.Adds.unmasked {src : Src} {x y : BlkFault} {m : Word} (h : BlkFault.Adds src x y) (hm : m.bit src.val = false)
    (hx : x.Unmasked m) : y.Unmasked m :=
  ⟨fun g hg => (h.grace g hg).elim (hx.1 g) fun e => e ▸ hm, fun q hq => (h.retries q hq).elim (hx.2 q) fun e => e ▸ hm⟩

/-- The occurrences that unmasking a source brings: of each cause present. -/
def State.unmaskOne (b : Blk) (old new : Word) (s : State) (i : Src) : State :=
  if old.bit i.val && !new.bit i.val then
    ((s.flt[b].live.filter (·.src == i)).map (·.obj)).foldl (fun s o => s.occurred b i o) s
  else s

/-- The state of a write of FMSK before sources newly unmasked occur: the mask stored, the timers and retries of masked sources ended. -/
def State.masking (s : State) (b : Blk) (m : Word) : State :=
  let t := (s.putReg (fmskAddr b) m).dropGrace b fun g => m.bit g.src.val
  t.setFlt b { t.flt[b] with retries := t.flt[b].retries.filter fun q => !m.bit q.src.val }

theorem writeMask_eq (s : State) (b : Blk) (v : Word) :
    s.writeMask b v = (List.finRange 8).foldl (State.unmaskOne b (s.reg (fmskAddr b)) (enforceMask b.val (v &&& 0xFF)))
      (s.masking b (enforceMask b.val (v &&& 0xFF))) := rfl

theorem masking_rw (s : State) (b : Blk) (m : Word) : (s.masking b m).rw = (s.putReg (fmskAddr b) m).rw := rfl

/-- The fault record of a block under a new mask. -/
theorem masking_flt (s : State) (b : Blk) (m : Word) : (s.masking b m).flt[b] = { s.flt[b] with
    grace := s.flt[b].grace.filter (fun g => !m.bit g.src.val), retries := s.flt[b].retries.filter fun q => !m.bit q.src.val } := by
  simp [State.masking, State.dropGrace]

theorem masking_unmasked (s : State) (b : Blk) (m : Word) : (s.masking b m).flt[b].Unmasked m := by
  rw [masking_flt]
  exact ⟨fun g hg => by simpa using (List.mem_filter.mp hg).2, fun q hq => by simpa using (List.mem_filter.mp hq).2⟩

theorem occurred_rw (s : State) (b : Blk) (src : Src) (obj : Nat) : (s.occurred b src obj).rw = s.rw :=
  but_rw (fs := [.deferred, .flt, .safeLine, .halt, .x3, .xing, .log, .ret, .dom, .img, .fab, .groups, .cells, .culm, .branches, .src, .ctx,
    .bat, .fdr, .chg, .est, .thr, .awn]) (by simp) (by decide)

/-- What every occurrence of a source not masked keeps, the unmasking of a source keeps. -/
theorem unmaskOne_keeps {P : State → Prop} {b : Blk} {old new : Word} {s : State} (i : Src)
    (h : new.bit i.val = false → ∀ s o, P s → P (s.occurred b i o)) (hs : P s) : P (State.unmaskOne b old new s i) := by
  unfold State.unmaskOne
  split <;> rename_i hc
  · exact foldl_keeps P _ (h (by simp_all)) _ hs
  · exact hs

/-- A write of FMSK is stored. -/
theorem writeMask_reg {s : State} (b : Blk) (v : Word) (h : swf regReset s.rw = true) :
    (s.writeMask b v).reg (fmskAddr b) = enforceMask b.val (v &&& 0xFF) := by
  rw [writeMask_eq]
  refine foldl_keeps (fun u : State => u.reg (fmskAddr b) = enforceMask b.val (v &&& 0xFF)) _
    (fun u i => unmaskOne_keeps i fun _ w o hw => (reg_of_rw _ (occurred_rw w b i o)).trans hw) _ ?_
  exact (reg_of_rw _ (masking_rw s b _)).trans (putReg_reg _ _ h)

/-- No grace timer or retry of a masked source is left. -/
theorem writeMask_unmasked (s : State) (b : Blk) (v : Word) :
    (s.writeMask b v).flt[b].Unmasked (enforceMask b.val (v &&& 0xFF)) := by
  rw [writeMask_eq]
  exact foldl_keeps (fun u : State => u.flt[b].Unmasked (enforceMask b.val (v &&& 0xFF))) _
    (fun u i => unmaskOne_keeps i fun hi w o hw => (occurred_adds w b i o).unmasked hi hw) _ (masking_unmasked s b _)

/-- A source unmasked while its cause is present occurs. -/
theorem writeMask_raises {s : State} {b : Blk} {v : Word} {i : Src} {obj : Nat} (ho : s.masked b i = true)
    (hn : (enforceMask b.val (v &&& 0xFF)).bit i.val = false) (hc : (⟨i, obj⟩ : Cause) ∈ s.flt[b].live) :
    (s.writeMask b v).raised b i = true := by
  have keeps (j : Src) (u : State) (o : Nat) (hu : u.raised b i = true) : (u.occurred b j o).raised b i = true :=
    raised_of_or (occurred_fst u b b j o) hu
  rw [writeMask_eq]
  refine foldl_reaches (fun u : State => u.raised b i = true) (fun u : State => u.flt[b].live = s.flt[b].live) _
    (fun u j => unmaskOne_keeps (P := fun u => u.flt[b].live = s.flt[b].live) j fun _ w o hw => (occurred_adds w b j o).live.trans hw)
    (fun u j => unmaskOne_keeps (P := fun u => u.raised b i = true) j fun _ => keeps j) (fun u hu => ?_) (List.mem_finRange i)
    (by rw [masking_flt])
  have hcond : ((s.reg (fmskAddr b)).bit i.val && !(enforceMask b.val (v &&& 0xFF)).bit i.val) = true := by
    rw [hn, Bool.not_false, Bool.and_true]
    exact ho
  have hmem : obj ∈ ((u.flt[b].live.filter (·.src == i)).map (·.obj)) := by
    rw [hu]
    exact List.mem_map.mpr ⟨⟨i, obj⟩, List.mem_filter.mpr ⟨hc, beq_self_eq_true i⟩, rfl⟩
  rw [State.unmaskOne, if_pos hcond]
  exact foldl_reaches (·.raised b i = true) (fun _ => True) (fun s o => s.occurred b i o) (fun _ _ _ => trivial) (fun w o => keeps i w o)
    (fun w _ => raised_own (occurred_fst w b b i obj)) hmem trivial

/-! ### The writes at the next iteration -/

/-- A carried write of a fault register has its effect on the block. -/
theorem writeCarried_fault (s : State) {b : Blk} {off : Nat} (v : Word) (hb : hasFaults b.val = true) (h1 : 0x0F00 ≤ off)
    (h2 : off ≤ 0x0FFF) : s.writeCarried (0x10000 * b.val + off) v = s.writeFault b off v := by
  have hq : (0x10000 * b.val + off) / 0x10000 = b.val := by omega
  have hr : (0x10000 * b.val + off) % 0x10000 = off := by omega
  unfold State.writeCarried
  rw [dif_pos (by rw [hq, hr]; exact ⟨b.isLt, hb, h1, h2⟩)]
  simp only [hq, hr]

/-- A write of a fault register: it is carried, and its effect comes at the block's next iteration. -/
theorem faultWrite_next {s : State} {b : Blk} (r : Req) {off : Nat} (v : Word) (hb : hasFaults b.val = true) (hd : s.deferred = [])
    (h1 : 0x0F00 ≤ off) (h2 : off ≤ 0x0FFF) (hs : s.serves (0x10000 * b.val + off)) :
    ∃ t, s.viaService r (0x10000 * b.val + off) (fun s => s.carryFault b (0x10000 * b.val + off) v) = t ∧ t.flt = s.flt ∧
      t.iterate = (s.writeFault b off v).settle.iterationEnds := by
  refine ⟨s.carry (0x10000 * b.val + off) v, ?_, rfl, ?_⟩
  · rw [viaService_serves s r _ _ hs]
    exact if_pos hb
  · rw [carry_iterate s _ v hd, writeCarried_fault s v hb h1 h2]

/-- Settles O12: each write is carried, and its effect at the block's next iteration is that of w1c, force, writeSev or writeMask.
The model has a `faultWrites` of its own, hence the longer name. -/
theorem Architecture.faultWrites : Obligations.FaultWrites := by
  intro s r b v hinv hb hd
  refine ⟨fun hs => ?_, fun hs => ?_, fun hs => ?_, fun hs => ?_⟩
  · obtain ⟨t, ht, hf, hi⟩ := faultWrite_next r v hb hd (by decide) (by decide) hs
    refine ⟨t, congrArg Host.Outcome.next ht, hf, fun i hr hc hl => ?_⟩
    rw [hi, iterationEnds_raised, settle_raised] at hc
    rw [hi, iterationEnds_deferred, settle_deferred]
    exact w1c_relatch hr hc hl
  · obtain ⟨t, ht, hf, hi⟩ := faultWrite_next r v hb hd (by decide) (by decide) hs
    refine ⟨t, congrArg Host.Outcome.next ht, hf, fun i obj hv ho hsrc hm honly => ?_⟩
    rw [hi, iterationEnds_raised, settle_raised]
    exact force_raises hv ho hsrc hm honly
  · obtain ⟨t, ht, hf, hi⟩ := faultWrite_next r v hb hd (by decide) (by decide) hs
    obtain ⟨hreg, hsev⟩ := writeSev_effect b v hinv.rw
    refine ⟨t, congrArg Host.Outcome.next ht, hf, ?_⟩
    rw [hi, iterationEnds_get, settle_flt, iterationEnds_reg, settle_reg]
    exact ⟨hreg, hsev⟩
  · obtain ⟨t, ht, hf, hi⟩ := faultWrite_next r v hb hd (by decide) (by decide) hs
    have hreg := writeMask_reg b v hinv.rw
    obtain ⟨hgrace, hretries⟩ := writeMask_unmasked s b v
    refine ⟨t, congrArg Host.Outcome.next ht, hf, ?_⟩
    rw [hi, iterationEnds_get, settle_flt, iterationEnds_reg, settle_reg]
    simp only [iterationEnds_masked, settle_masked, iterationEnds_raised, settle_raised]
    have hmask (i : Src) : (s.writeFault b 0x0F14 v).masked b i = (enforceMask b.val (v &&& 0xFF)).bit i.val :=
      congrArg (Word.bit · i.val) hreg
    refine ⟨hreg, fun i hm => ⟨fun g hg e => ?_, fun q hq e => ?_⟩, fun i obj ho hn hc => ?_⟩
    · rw [hmask, ← e, hgrace g hg] at hm
      contradiction
    · rw [hmask, ← e, hretries q hq] at hm
      contradiction
    · rw [hmask] at hn
      exact writeMask_raises ho hn hc

/-! ### THR_COMMIT (R337) -/

/-- A word without COMMIT commits nothing. -/
theorem commit_zero (s : State) {v : Word} (h : v.bit 0 = false) : s.commit v = s := by
  unfold State.commit
  rw [if_neg (by simp [h])]

/-- A set whose clamped window holds vnom is committed whole, the forecast only where it was written. -/
theorem commit_taken {s : State} {v : Word} (h : v.bit 0 = true)
    (hlo : (s.clampWin (s.reg thrCwinAt)).bits 15 0 ≤ (s.reg thrCsetAt).bits 15 0)
    (hhi : (s.reg thrCsetAt).bits 15 0 ≤ (s.clampWin (s.reg thrCwinAt)).bits 31 16) :
    s.commit v = { s with thr := { s.thr with
      cseq := (s.thr.cseq + 1) % 256, cres := 1, ccause := 0, fcNew := s.thr.fcNew || s.thr.fcTouched, fcTouched := false
      committed := if s.thr.fcTouched then { s.shadow with cwin := s.clampWin (s.reg thrCwinAt) }
        else { s.shadow with cwin := s.clampWin (s.reg thrCwinAt), fc := s.thr.committed.fc } } } := by
  unfold State.commit
  rw [if_pos h]
  extract_lets _ set lo hi vnom x
  rw [if_neg (show ¬hi < lo from Nat.not_lt.mpr (hlo.trans hhi)),
    if_neg (show ¬(vnom < lo ∨ hi < vnom) from not_or.mpr ⟨Nat.not_lt.mpr hlo, Nat.not_lt.mpr hhi⟩)]

/-- A set whose clamped window does not hold vnom is not committed: THR source 1, and the registers stay. -/
theorem commit_refused {s : State} {v : Word} (h : v.bit 0 = true)
    (hw : (s.reg thrCsetAt).bits 15 0 < (s.clampWin (s.reg thrCwinAt)).bits 15 0 ∨
      (s.clampWin (s.reg thrCwinAt)).bits 31 16 < (s.reg thrCsetAt).bits 15 0) :
    ∃ u : State, s.commit v = u.occur bTHR 1 0 ∧ u.thr.cres = 2 ∧ u.thr.committed = s.thr.committed ∧ u.rw = s.rw := by
  unfold State.commit
  rw [if_pos h]
  extract_lets _ set lo hi vnom _ x
  by_cases hempty : hi < lo
  · rw [if_pos hempty]
    exact ⟨_, rfl, rfl, rfl, rfl⟩
  · rw [if_neg hempty, if_pos (show vnom < lo ∨ hi < vnom from hw)]
    exact ⟨_, rfl, rfl, rfl, rfl⟩

/-! ### Thresher's timers (R330, R331, R333, R334) -/

/-- Without broadcasts every Borrow flow has no grant from its lender. -/
theorem loseLending_peerGrant {s : State} {c : Ctx} (h : s.ctx[c].d.kind = 6) : s.loseLending.ctx[c].peerGrant = 0 := by
  unfold State.loseLending
  rw [Fin.getElem_fin, Vector.getElem_map, if_pos (show s.ctx[c.val].d.kind = 6 from h)]

/-- A moment kept, of which a condition holds. -/
theorem any_of_some {o : Option Nat} {a : Nat} {p : Nat → Bool} (ho : o = some a) (hp : p a = true) : o.any p = true := by
  rw [ho, Option.any_some, hp]

/-- The deferral ends 60 s after cooling. -/
theorem deferralEnd_ends {s : State} {a : Nat} (hd : s.thr.defer = true) (ha : s.thr.coolAt = some a) (ht : a + 60000000 ≤ s.now) :
    execDeferralEnd s = .next { s with thr := { s.thr with defer := false } } := by
  unfold execDeferralEnd
  rw [if_pos ⟨hd, any_of_some ha (decide_eq_true ht)⟩]

/-- Without a broadcast for 30 ms stook neither limits nor lends. -/
theorem stookGrantLost_loses {s : State} {a : Nat} (hl : s.thr.stklost = false) (ha : s.ring.stookAt = some a)
    (ht : a + 30000 ≤ s.now) : execStookGrantLost s =
      .next (({ s with thr := { s.thr with stk := 0xFFFF, lend := 0, stklost := true } } : State).loseLending.occur bTHR 2 0 true) := by
  unfold execStookGrantLost
  rw [if_pos ⟨hl, any_of_some ha (decide_eq_true ht)⟩]

/-- Settles O20: a commit takes the set, is refused or has no COMMIT bit; a timer past its boundary has its effect. -/
theorem budgetsAndTimers : Obligations.BudgetsAndTimers := by
  refine ⟨fun s r v hs => ?_, fun s hv ht => ⟨_, if_pos ⟨hv, ht⟩, rfl⟩,
    fun s hr ht => ⟨_, if_pos ⟨hr, ht⟩, rfl⟩, fun s a hd ha ht => ⟨_, deferralEnd_ends hd ha ht, rfl⟩,
    fun s a hl ha ht => ⟨_, stookGrantLost_loses hl ha ht, rfl, rfl, rfl, fun c hc => loseLending_peerGrant hc⟩⟩
  have hx : exec (.thrCommit r v) s = .next (s.commit v) := congrArg Host.Outcome.next (viaService_serves s r _ _ hs)
  refine ⟨fun hv => by rw [hx, commit_zero s hv], fun hv => ?_⟩
  intro w vnom
  refine ⟨fun hlo hhi => ⟨_, hx, ?_⟩, fun hw => ?_⟩
  · rw [commit_taken hv hlo hhi]
    cases s.thr.fcTouched
    · exact ⟨rfl, rfl, rfl, rfl, rfl, rfl, rfl, fun g => by simp [State.shadow], fun k => rfl, rfl⟩
    · exact ⟨rfl, rfl, rfl, rfl, rfl, rfl, rfl, fun g => by simp [State.shadow], fun k => by simp [State.shadow], rfl⟩
  · obtain ⟨u, hu, hc⟩ := commit_refused hv hw
    exact ⟨u, hx.trans (congrArg Host.Outcome.next hu), hc⟩

/-! ### Rounds: the set in force (R33) -/

theorem thr_of_but {s t : State} (h : t.but [.deferred, .flt, .halt, .x3, .xing, .log, .ret, .fab, .groups, .cells, .branches, .src, .ctx,
    .bat, .fdr, .chg, .est] = s.but [.deferred, .flt, .halt, .x3, .xing, .log, .ret, .fab, .groups, .cells, .branches, .src, .ctx, .bat,
    .fdr, .chg, .est]) : t.thr = s.thr := but_thr h (by decide)

theorem countRun_inForce (x : ThrRec) (now : Nat) : (x.countRun now).inForce = x.inForce := by
  unfold ThrRec.countRun
  split <;> rfl

theorem zeroThresher_inForce (s : State) : s.zeroThresher.thr.inForce = s.thr.inForce := by
  unfold State.zeroThresher
  split
  · exact countRun_inForce s.thr s.now
  · rfl

theorem enterStubble_inForce (s : State) : s.enterStubble.thr.inForce = s.thr.inForce := by
  unfold State.enterStubble
  split
  · exact zeroThresher_inForce _
  · rfl

/-- The Safe line zeroes Thresher, and leaves the set in force. -/
theorem assertSafe_inForce (s : State) (d : Driver) : (s.assertSafe d).thr.inForce = s.thr.inForce := by
  have e (u : State) : ((u.unsettle u.culm.vmeas).stopAll.safeLoads.safePorts.safeActivation).thr = u.thr :=
    but_thr (fs := [.deferred, .img, .fab, .groups, .cells, .culm, .branches, .src, .ctx, .bat, .fdr, .awn]) (by simp) (by decide)
  unfold State.assertSafe
  extract_lets first t
  split
  · rw [settle_thr, enterStubble_inForce, e]
  · rfl

theorem inForce_steady (x : ThrSet) : State.Steady (fun s => s.thr.inForce = x) where
  but hb h := by rwa [thr_of_but hb]
  safe d h := (assertSafe_inForce _ d).trans h

theorem peaked_inForce (x : ThrRec) (pthr dt : Nat) : (x.peaked pthr dt).inForce = x.inForce := by
  unfold ThrRec.peaked
  extract_lets
  split <;> rfl

theorem peakRule_inForce (s : State) (pthr dt : Nat) : (s.peakRule pthr dt).thr.inForce = s.thr.inForce := by
  unfold State.peakRule
  extract_lets t
  have ht : t.thr.inForce = s.thr.inForce := peaked_inForce s.thr pthr dt
  split
  · exact occur_steady (inForce_steady s.thr.inForce) bTHR 3 0 false ht
  · exact ht

theorem firstUse_inForce (s : State) : s.firstUse.thr.inForce = s.thr.inForce := by
  unfold State.firstUse
  extract_lets x
  split <;> exact countRun_inForce s.thr s.now

theorem deferRule_inForce (s : State) (dt : Nat) : (s.deferRule dt).thr.inForce = s.thr.inForce := by
  unfold State.deferRule
  extract_lets x
  refine forEach_keeps (fun u : State => u.thr.inForce = s.thr.inForce) _ (fun u p hu => ?_) _ rfl
  split <;> exact hu

theorem eqRule_inForce (s : State) (u : Nat) (class3 : Bool) : (s.eqRule u class3).thr.inForce = s.thr.inForce := by
  unfold State.eqRule
  refine forEach_keeps (fun t : State => t.thr.inForce = s.thr.inForce) _ (fun t p ht => ?_) _ rfl
  have hs (v : State) : (v.eqStart class3 p).thr = v.thr := but_thr (fs := [.chg]) (by simp) (by decide)
  have he : (t.eqEnd p).thr = t.thr := but_thr (fs := [.chg]) (by simp) (by decide)
  rw [hs]
  exact (congrArg ThrRec.inForce he).trans ht

/-! ### An occurrence without a line -/

theorem setFlt_sev_same (s : State) (b k : Blk) (x : BlkFault) (h : x.sev = s.flt[b].sev) :
    (s.setFlt b x).flt[k].sev = s.flt[k].sev := by
  simp only [setFlt_flt, Fin.getElem_fin, vset_get]
  split
  · rename_i e
    rw [h, e, Fin.getElem_fin]
  · rfl

theorem markLive_sev (s : State) (b k : Blk) (src : Src) (obj : Nat) (stays : Bool) :
    (s.markLive b src obj stays).flt[k].sev = s.flt[k].sev := by
  have he : s.endWarn.flt[k].sev = s.flt[k].sev := by
    unfold State.endWarn
    split
    · rfl
    · simp
  unfold State.markLive
  extract_lets t x
  refine (setFlt_sev_same t b k _ ?_).trans he
  rfl

theorem latch_sev (s : State) (b : Blk) (src : Src) : (s.latch b src).flt[b].sev = s.flt[b].sev := by
  unfold State.latch
  refine setFlt_sev_same s b b _ ?_
  rfl

/-- Ignore and Warn act so on every object. -/
theorem sevFor_light {s : State} {b : Blk} {src : Src} (obj : Nat) (h : actSev b src (s.sevRaw b src) < 2) :
    s.sevFor b src obj < 2 := by
  unfold State.sevFor
  extract_lets c
  rw [if_neg (by omega)]
  exact h

/-- A reaction of Ignore or Warn touches no line and no object. -/
theorem react_light {fs : List Fld} {s : State} {b : Blk} {src : Src} (obj : Nat) (h : actSev b src (s.sevRaw b src) < 2)
    (hflt : Fld.flt ∈ fs) : (s.react b src obj).but fs = s.but fs := by
  have hc := sevFor_light obj h
  unfold State.react
  split
  · rfl
  · split
    · simp [hflt]
    · omega
    · unfold State.reactLines
      split
      · omega
      · omega
      · rfl

/-- An occurrence of a source of Ignore or Warn touches no line and no flow. -/
theorem occur_light {fs : List Fld} {s : State} {b : Blk} {src : Src} (obj : Nat) (stays : Bool)
    (h : actSev b src (s.sevRaw b src) < 2) (hdeferred : Fld.deferred ∈ fs) (hflt : Fld.flt ∈ fs) (hx3 : Fld.x3 ∈ fs)
    (hxing : Fld.xing ∈ fs) (hlog : Fld.log ∈ fs) (hret : Fld.ret ∈ fs) (hsrc : Fld.src ∈ fs) :
    (s.occur b src obj stays).but fs = s.but fs := by
  unfold State.occur
  split
  · rfl
  split
  · rfl
  extract_lets t
  split
  · simp [t, *]
  have hl : (t.latch b src).flt[b].sev = s.flt[b].sev := (latch_sev t b src).trans (markLive_sev s b b src obj stays)
  have light {u : State} (hu : u.flt[b].sev = (t.latch b src).flt[b].sev) : actSev b src (u.sevRaw b src) < 2 := by
    rwa [State.sevRaw, hu, hl]
  unfold State.occurred
  extract_lets u x running inWindow
  split
  · split
    · refine (react_light obj (light ?_) hflt).trans (by simp [u, t, *])
      rw [report_flt, retryLost_flt]
      exact setFlt_sev_same u b b _ rfl
    · split
      · exact (react_light obj (light (by rw [report_flt])) hflt).trans (by simp [u, t, *])
      · simp [u, t, *]
  · exact (react_light obj (light (by rw [report_flt])) hflt).trans (by simp [u, t, *])

/-! ### THR_ROUND_LATCH (R313) -/

/-- The lending that stook's broadcasts bring back at a latch (R334). -/
def State.lendingBack (s : State) : State :=
  if s.thr.stklost && s.ring.stookAt.any (fun t => decide (s.now < t + 30000)) then
    { s with thr := { s.thr with stklost := false } }.endCause bTHR 2 0
  else s

/-- The state of a latch before generating sets are judged: under the set committed, after the peak, first-use and deferral rules. -/
def State.latchSeen (s : State) : State :=
  ((((s.underCommit s.nextRound).lendingBack).peakRule s.meanThru (s.now - s.thr.lastAt)).firstUse).deferRule (s.now - s.thr.lastAt)

/-- The state from which a latch allocates. -/
def State.latchInputs (s : State) : State :=
  (s.latchSeen.genRule s.nextRound (s.latchSeen.loadEst s.nextRound) s.latchSeen.dieLims).fullRule s.latchSeen.dieLims

/-- What a latch leaves: the round kept, and the sums of the last one begun afresh. -/
def State.keepLatch (s : State) (q : Round) : State :=
  { s with thr := { s.thr with round := some q, fcNew := false, lastAt := s.now, eIn := 0, eLoad := 0, nsLoad := 0 }
           ctx := s.ctx.map fun (f : FlowCtx) => { f with curSum := 0, curNs := 0 } }

/-- A latch: its inputs, Equalize, and the round of the flows latched under the set committed. -/
theorem thrRoundLatch_eq {s : State} (hst : s.thr.st = .running) (hrun : s.serviceRuns = true) (hat : s.nextRound ≤ s.now + 40)
    (hround : s.thr.round = none) : ∃ (u : Nat) (class3 : Bool) (q : Round),
      execThrRoundLatch s =
        .next (((s.latchInputs.eqRule u class3).keepLatch q).underSet s.thr.inForce s.thr.fcStart s.thr.fcValid) ∧
      q.set = (s.latchInputs.eqRule u class3).thr.inForce ∧ q.flows = (s.latchInputs.eqRule u class3).latched := by
  unfold execThrRoundLatch
  rw [if_pos ⟨hst, hrun, hat, hround⟩]
  extract_lets tk dt pthr was s1 x s2 s3 die load s4
  have hs4 : s4 = s.latchInputs := rfl
  clear_value s4
  split
  split
  rename_i a remIn remOut u _
  extract_lets gens s5
  have hs5 : s5 = s4.eqRule u (gens || (s4.thr.adm && !was.adm)) := rfl
  clear_value s5
  split
  extract_lets round s6
  have hset : round.set = s5.thr.inForce := rfl
  have hflows : round.flows = s5.latched := rfl
  have hs6 : s6 = s5.keepLatch round := rfl
  clear_value s6 round
  refine ⟨u, gens || (s4.thr.adm && !was.adm), round, ?_⟩
  rw [← hs4, ← hs5, ← hs6]
  exact ⟨rfl, hset, hflows⟩

theorem lendingBack_thr (s : State) : s.lendingBack.thr.inForce = s.thr.inForce := by
  unfold State.lendingBack
  split <;> rfl

theorem lendingBack_but {fs : List Fld} (s : State) (hflt : Fld.flt ∈ fs) (hthr : Fld.thr ∈ fs) : s.lendingBack.but fs = s.but fs := by
  unfold State.lendingBack
  split <;> simp [hflt, hthr]

theorem genRule_inForce (s : State) (t : Nat) (load : Int) (die : Vector (Option Nat) 7) :
    (s.genRule t load die).thr.inForce = s.thr.inForce := by
  unfold State.genRule
  extract_lets
  rfl

/-- The set that a round is under leaves the rest of Thresher, and the flows. -/
@[simp] theorem underSet_ctx (s : State) (x : ThrSet) (n : Nat) (v : Bool) : (s.underSet x n v).ctx = s.ctx := rfl
@[simp] theorem underSet_thr (s : State) (x : ThrSet) (n : Nat) (v : Bool) :
    (s.underSet x n v).thr = { s.thr with inForce := x, fcStart := n, fcValid := v } := rfl
@[simp] theorem keepLatch_round (s : State) (q : Round) : (s.keepLatch q).thr.round = some q := rfl
@[simp] theorem keepLatch_lastAt (s : State) (q : Round) : (s.keepLatch q).thr.lastAt = s.now := rfl

theorem lendingBack_sev (s : State) (b : Blk) : s.lendingBack.flt[b].sev = s.flt[b].sev := by
  unfold State.lendingBack
  split
  · refine setFlt_sev_same _ bTHR b _ ?_
    rfl
  · rfl

/-- A round is computed under the set committed. -/
theorem latchInputs_inForce (s : State) : s.latchInputs.thr.inForce = s.thr.committed := by
  have hu : (s.underCommit s.nextRound).thr.inForce = s.thr.committed := by
    unfold State.underCommit
    split <;> rfl
  have hf (t : State) (die : Vector (Option Nat) 7) : (t.fullRule die).thr = t.thr := but_thr (fs := [.groups]) (by simp) (by decide)
  rw [State.latchInputs, hf, genRule_inForce, State.latchSeen, deferRule_inForce, firstUse_inForce, peakRule_inForce, lendingBack_thr, hu]

/-- What the latch itself changes before it allocates, beside Thresher and the groups, is what the peak rule's occurrence does. -/
theorem latchInputs_but {fs : List Fld} (s : State) (hflt : Fld.flt ∈ fs) (hgroups : Fld.groups ∈ fs) (hthr : Fld.thr ∈ fs)
    (hpeak : ∀ t : State, t.flt[bTHR].sev = s.flt[bTHR].sev → (t.occur bTHR 3 0).but fs = t.but fs) : s.latchInputs.but fs = s.but fs := by
  have hp (t : State) (pthr dt : Nat) (ht : t.flt[bTHR].sev = s.flt[bTHR].sev) : (t.peakRule pthr dt).but fs = t.but fs := by
    unfold State.peakRule
    extract_lets u
    have hu : u.but fs = t.but fs := by simp [u, hthr]
    split
    · exact (hpeak u ht).trans hu
    · exact hu
  have hl : ((s.underCommit s.nextRound).lendingBack).flt[bTHR].sev = s.flt[bTHR].sev := by
    have hu : (s.underCommit s.nextRound).flt = s.flt := but_flt (fs := [.thr]) (by simp) (by decide)
    rw [lendingBack_sev, hu]
  unfold State.latchInputs State.latchSeen
  simp [hthr, hgroups, hflt, hp _ _ _ hl, lendingBack_but]

theorem latchInputs_now (s : State) : s.latchInputs.now = s.now :=
  but_now (fs := [.deferred, .flt, .safeLine, .halt, .x3, .xing, .log, .ret, .dom, .img, .fab, .groups, .cells, .culm, .branches, .src,
    .ctx, .bat, .fdr, .chg, .est, .thr, .awn]) (latchInputs_but s (by simp) (by simp) (by simp) fun t _ => by simp) (by decide)

/-- THR source 3 acts as Ignore or Warn, or as Safe. -/
theorem actSev_peak {code : Nat} (h : actSev bTHR 3 code ≠ 4) : actSev bTHR 3 code < 2 := by
  by_cases hc : 5 ≤ code
  · simp [actSev, hc] at h
  · interval_cases code <;> simp_all [actSev]

/-- Where THR source 3 does not act as Safe, a latch leaves the flows. -/
theorem latchInputs_ctx {s : State} (h : actSev bTHR 3 (s.sevRaw bTHR 3) ≠ 4) : s.latchInputs.ctx = s.ctx :=
  but_ctx (fs := [.deferred, .flt, .x3, .xing, .log, .ret, .src, .groups, .thr]) (latchInputs_but s (by simp) (by simp) (by simp)
    fun t ht => by
      have hl : actSev bTHR 3 (t.sevRaw bTHR 3) < 2 := by
        rw [State.sevRaw, ht]
        exact actSev_peak h
      exact occur_light 0 false hl (by simp) (by simp) (by simp) (by simp) (by simp) (by simp) (by simp)) (by decide)

theorem latched_of_ctx {s t : State} (h : t.ctx = s.ctx) : t.latched = s.latched := by
  unfold State.latched
  rw [h]

theorem eqRule_ctx (s : State) (u : Nat) (class3 : Bool) : (s.eqRule u class3).ctx = s.ctx :=
  but_ctx (fs := [.chg, .thr]) (by simp) (by decide)
theorem eqRule_now (s : State) (u : Nat) (class3 : Bool) : (s.eqRule u class3).now = s.now :=
  but_now (fs := [.chg, .thr]) (by simp) (by decide)

/-- The sums of a round begun afresh leave the grants. -/
theorem keepLatch_grant (s : State) (q : Round) (c : Ctx) : (s.keepLatch q).ctx[c].grant = s.ctx[c].grant := by
  simp [State.keepLatch]

/-- A latch computes the round under the set committed and leaves the set in force; where the peak rule does not assert the Safe line it
latches the flows and leaves their grants. -/
theorem thrRoundLatch_next {s : State} (hst : s.thr.st = .running) (hrun : s.serviceRuns = true) (hat : s.nextRound ≤ s.now + 40)
    (hround : s.thr.round = none) : ∃ t q, exec .thrRoundLatch s = .next t ∧ t.thr.round = some q ∧ q.set = s.thr.committed ∧
      t.thr.inForce = s.thr.inForce ∧ t.thr.lastAt = s.now ∧
      (actSev bTHR 3 (s.sevRaw bTHR 3) ≠ 4 → q.flows = s.latched ∧ ∀ c : Ctx, t.ctx[c].grant = s.ctx[c].grant) := by
  obtain ⟨u, class3, q, hx, hset, hflows⟩ := thrRoundLatch_eq hst hrun hat hround
  refine ⟨_, q, hx, by simp, ?_, by simp, ?_, fun h => ⟨?_, fun c => ?_⟩⟩
  · rw [hset, eqRule_inForce, latchInputs_inForce]
  · rw [underSet_thr, keepLatch_lastAt, eqRule_now, latchInputs_now]
  · rw [hflows]
    exact latched_of_ctx ((eqRule_ctx _ u class3).trans (latchInputs_ctx h))
  · rw [underSet_ctx, keepLatch_grant, eqRule_ctx, latchInputs_ctx h]

/-! ### THR_ROUND_PUBLISH (R313-R316) -/

theorem mem_insertBy {α : Type} {before : α → α → Bool} {a x : α} {l : List α} (h : x ∈ insertBy before a l) : x = a ∨ x ∈ l := by
  induction l with
  | nil => exact .inl (List.mem_singleton.mp h)
  | cons b l ih =>
    have hb (h : x ∈ b :: insertBy before a l) : x = a ∨ x ∈ b :: l :=
      (List.mem_cons.mp h).elim (fun e => .inr (e ▸ List.mem_cons_self ..)) fun h => (ih h).imp_right (List.mem_cons_of_mem b)
    unfold insertBy at h
    split at h
    · exact hb h
    · split at h
      · exact List.mem_cons.mp h
      · exact hb h

/-- What is sorted is of the list sorted. -/
theorem mem_sortBy {α : Type} {before : α → α → Bool} {x : α} {l : List α} (h : x ∈ sortBy before l) : x ∈ l := by
  induction l with
  | nil => exact h
  | cons a l ih => exact (mem_insertBy h).elim (· ▸ List.mem_cons_self ..) fun h => List.mem_cons_of_mem a (ih h)

@[simp] theorem granted_grant (f : FlowCtx) (now : Nat) (g : Grant) : (f.granted now g).grant = g.cur := rfl

theorem grantEach_other (s : State) (q : Round) (l : List Ctx) {c : Ctx} (h : c ∉ l) : (s.grantEach q l).1.ctx[c] = s.ctx[c] := by
  induction l generalizing s q with
  | nil => rfl
  | cons k l ih =>
    have hk : k ≠ c := fun e => h (e ▸ List.mem_cons_self ..)
    unfold State.grantEach
    rw [ih _ _ fun hc => h (List.mem_cons_of_mem k hc)]
    simp [vset_other _ _ _ _ hk]

/-- A flow that is not Live, or that the round found Live, is no late entrant. -/
theorem grantLate_other {s : State} {q : Round} {c : Ctx} (h : s.ctx[c].st = .live → q.live.contains c = true) :
    (s.grantLate q).ctx[c] = s.ctx[c] := by
  refine grantEach_other s q _ fun hc => ?_
  have hm := (List.mem_filter.mp (mem_sortBy hc)).2
  simp only [Bool.and_eq_true, beq_iff_eq, Bool.not_eq_true'] at hm
  rw [h hm.1] at hm
  exact absurd hm.2 (by simp)

/-- Thresher but for the last round and the number of its late entrants. -/
def ThrRec.sansLast (x : ThrRec) : ThrRec := { x with late := 0, last := none }

theorem keepRound_thr (s : State) (q : Round) (l : List Ctx) : (s.keepRound q l).thr.sansLast = s.thr.sansLast := rfl

/-- The grants of late entrants leave Thresher but for the last round. -/
theorem grantLate_thr (s : State) (q : Round) : (s.grantLate q).thr.sansLast = s.thr.sansLast := by
  have h (l : List Ctx) : (s.grantEach q l).1.thr = s.thr := but_thr (fs := [.ctx]) (by simp) (by decide)
  exact (keepRound_thr _ _ _).trans (congrArg ThrRec.sansLast (h _))

/-- A published round's orders are handed over, and the rest of Thresher stays but for its last round. -/
theorem publish_thr (s : State) (q : Round) :
    (s.publish q).thr.sansLast = { s.thr with orders := q.orders, sheds := q.sheds, ordersAt := s.now }.sansLast := by
  unfold State.publish
  extract_lets _ _ _ t
  exact grantLate_thr t q

@[simp] theorem publish_k (s : State) (q : Round) : (s.publish q).thr.k = s.thr.k := by
  simpa only [ThrRec.sansLast] using congrArg ThrRec.k (publish_thr s q)
@[simp] theorem publish_round (s : State) (q : Round) : (s.publish q).thr.round = s.thr.round := by
  simpa only [ThrRec.sansLast] using congrArg ThrRec.round (publish_thr s q)
@[simp] theorem publish_inForce (s : State) (q : Round) : (s.publish q).thr.inForce = s.thr.inForce := by
  simpa only [ThrRec.sansLast] using congrArg ThrRec.inForce (publish_thr s q)
@[simp] theorem publish_orders (s : State) (q : Round) : (s.publish q).thr.orders = q.orders := by
  simpa only [ThrRec.sansLast] using congrArg ThrRec.orders (publish_thr s q)
@[simp] theorem publish_sheds (s : State) (q : Round) : (s.publish q).thr.sheds = q.sheds := by
  simpa only [ThrRec.sansLast] using congrArg ThrRec.sheds (publish_thr s q)

/-- A flow that was Live at the latch and still is takes the round's grant. -/
theorem publish_grant {s : State} {q : Round} {c : Ctx} (hst : s.ctx[c].st = .live) (hl : q.live.contains c = true) :
    (s.publish q).ctx[c].grant = q.grants[c].cur := by
  unfold State.publish
  extract_lets ctx groups _ t
  have ht : t.ctx[c] = s.pubGrant q c := by simp [t, ctx]
  rw [grantLate_other fun _ => hl, ht]
  unfold State.pubGrant
  simp only [hst, hl, if_true, granted_grant]

@[simp] theorem repGrant_st (s : State) (held : Bool) (c : Ctx) : (s.repGrant held c).st = s.ctx[c].st := by
  unfold State.repGrant
  rfl

/-- A flow that the last round granted nothing has nothing. -/
theorem repGrant_none {s : State} {held : Bool} {c : Ctx} (h : s.lastGrant c = none) : (s.repGrant held c).grant = 0 := by
  unfold State.repGrant
  simp only [h, granted_grant, Option.map_none, Option.getD_none]
  split <;> simp

/-- A flow has at most what the last round granted it. -/
theorem repGrant_le {s : State} (held : Bool) {c : Ctx} {q : Round} (hq : s.thr.last = some q) :
    (s.repGrant held c).grant ≤ q.grants[c].cur := by
  cases h : s.lastGrant c with
  | none => rw [repGrant_none h]; exact Nat.zero_le _
  | some a =>
    have ha : a = q.grants[c] := by
      unfold State.lastGrant at h
      rw [hq, Option.bind_some] at h
      split at h <;> simp_all
    subst ha
    unfold State.repGrant
    simp only [h, granted_grant, Option.map_some, Option.getD_some]
    split <;> omega

/-- The orders of a republished round are none, and the rest of Thresher stays but for its last round. -/
theorem republish_thr (s : State) (held : Bool) :
    (s.republish held).thr.sansLast = { s.thr with orders := [], sheds := [] }.sansLast := by
  unfold State.republish
  extract_lets _ _ _ t
  split
  · rfl
  · exact grantLate_thr t _

@[simp] theorem republish_st (s : State) (held : Bool) : (s.republish held).thr.st = s.thr.st := by
  simpa only [ThrRec.sansLast] using congrArg ThrRec.st (republish_thr s held)
@[simp] theorem republish_inForce (s : State) (held : Bool) : (s.republish held).thr.inForce = s.thr.inForce := by
  simpa only [ThrRec.sansLast] using congrArg ThrRec.inForce (republish_thr s held)
@[simp] theorem republish_failed (s : State) (held : Bool) : (s.republish held).thr.failed = s.thr.failed := by
  simpa only [ThrRec.sansLast] using congrArg ThrRec.failed (republish_thr s held)
@[simp] theorem republish_orders (s : State) (held : Bool) : (s.republish held).thr.orders = [] := by
  simpa only [ThrRec.sansLast] using congrArg ThrRec.orders (republish_thr s held)
@[simp] theorem republish_sheds (s : State) (held : Bool) : (s.republish held).thr.sheds = [] := by
  simpa only [ThrRec.sansLast] using congrArg ThrRec.sheds (republish_thr s held)

/-- In Held the grants of the last round are published again, and no flow is a late entrant. -/
theorem republish_held (s : State) (c : Ctx) : (s.republish true).ctx[c] = s.repGrant true c := by
  unfold State.republish
  extract_lets ctx last _ t
  simp [t, ctx]

/-- A flow of the last round that has not become Live since is no late entrant. -/
theorem republish_running {s : State} {c : Ctx} {q : Round} (hq : s.thr.last = some q)
    (h : q.live.contains c = true ∨ s.ctx[c].st ≠ .live) : (s.republish false).ctx[c] = s.repGrant false c := by
  unfold State.republish
  extract_lets ctx last _ t
  have ht : t.ctx[c] = s.repGrant false c := by simp [t, ctx]
  rw [if_neg Bool.false_ne_true, ← ht]
  refine grantLate_other fun hl => ?_
  rw [ht, repGrant_st] at hl
  have hc : q.live.contains c = true := h.resolve_right fun hn => hn hl
  simp_all [last]

/-! ### The moment t_k -/

/-- The state at t_k before the round is published: the set that the round latched is in force. -/
def State.turned (s : State) : State :=
  { s.roundBegins.retrySweeps with thr := { s.roundBegins.retrySweeps.thr with k := s.thr.k + 1, round := none } }

theorem roundBegins_thr_some {s : State} {q : Round} (h : s.thr.round = some q) : s.roundBegins.thr =
    { s.thr with inForce := q.set, fcStart := q.fcStart, fcValid := q.fcValid && (q.fcNew || s.thr.fcValid) } := by
  have e (t : State) : t.commitSetpoint.thr = t.thr := but_thr (fs := [.culm]) (by simp) (by decide)
  unfold State.roundBegins
  simp only [h, e, underSet_thr]

theorem roundBegins_none {s : State} (h : s.thr.round = none) : s.roundBegins = s := by
  unfold State.roundBegins
  simp only [h]

/-- The moment t_k leaves the last round and Thresher's state. -/
theorem roundBegins_keeps (s : State) : s.roundBegins.thr.last = s.thr.last ∧ s.roundBegins.thr.st = s.thr.st := by
  cases h : s.thr.round with
  | none =>
    rw [roundBegins_none h]
    exact ⟨rfl, rfl⟩
  | some q =>
    rw [roundBegins_thr_some h]
    exact ⟨rfl, rfl⟩

theorem turned_thr (s : State) : s.turned.thr = { s.roundBegins.thr with k := s.thr.k + 1, round := none } := by
  have e (t : State) : t.retrySweeps.thr = t.thr := but_thr (fs := [.src]) (by simp) (by decide)
  unfold State.turned
  rw [e]

@[simp] theorem turned_k (s : State) : s.turned.thr.k = s.thr.k + 1 := by rw [turned_thr]
@[simp] theorem turned_round (s : State) : s.turned.thr.round = none := by rw [turned_thr]
@[simp] theorem turned_last (s : State) : s.turned.thr.last = s.thr.last := by rw [turned_thr, (roundBegins_keeps s).1]
@[simp] theorem turned_st (s : State) : s.turned.thr.st = s.thr.st := by rw [turned_thr, (roundBegins_keeps s).2]

/-- At t_k the set that the round latched takes force. -/
theorem turned_inForce {s : State} {q : Round} (h : s.thr.round = some q) : s.turned.thr.inForce = q.set := by
  rw [turned_thr, roundBegins_thr_some h]

@[simp] theorem turned_ctx (s : State) : s.turned.ctx = s.ctx := by
  have h : s.roundBegins.retrySweeps.ctx = s.ctx := but_ctx (fs := [.culm, .thr, .src]) (by simp) (by decide)
  simpa only [State.turned] using h

/-- Flows that follow the events of the moment keep their grants. -/
theorem settleFlow_grant (s : State) (f : FlowCtx) : (s.settleFlow f).grant = f.grant := by
  unfold State.settleFlow
  extract_lets
  split <;> (try split) <;> rfl
theorem settle_grant (s : State) (c : Ctx) : s.settle.ctx[c].grant = s.ctx[c].grant := by
  rw [settle_ctx, settleFlow_grant, settleFlow_grant]

/-- The success of a retry is reported, and touches no line and no flow. -/
theorem retryOutcome_ok {fs : List Fld} (s : State) (b : Blk) (src : Src) (obj : Nat) (hdeferred : Fld.deferred ∈ fs) (hflt : Fld.flt ∈ fs)
    (hx3 : Fld.x3 ∈ fs) (hxing : Fld.xing ∈ fs) (hlog : Fld.log ∈ fs) (hret : Fld.ret ∈ fs) :
    (s.retryOutcome b src obj true).but fs = s.but fs := by
  unfold State.retryOutcome
  split <;> simp [*]

/-- Whether the last set published failed the budget check. -/
def State.checked (s : State) (failed : Bool) : State := { s with thr := { s.thr with failed := failed } }

@[simp] theorem checked_thr (s : State) (failed : Bool) : (s.checked failed).thr = { s.thr with failed := failed } := rfl
@[simp] theorem checked_ctx (s : State) (failed : Bool) : (s.checked failed).ctx = s.ctx := rfl

/-- The moment for a publication in a state of Thresher. -/
def State.publishes (s : State) (st : ThrSt) : Prop := s.thr.st = st ∧ s.domOn 3 = true ∧ s.nextRound ≤ s.now

theorem turned_of {s : State} (u : State) (h : u = s.roundBegins.retrySweeps) :
    { u with thr := { u.thr with k := s.thr.k + 1, round := none } } = s.turned := by
  rw [State.turned, ← h]

/-- A round handed over whose set passes its check is published. -/
theorem publish_handed {s : State} {q : Round} (h : s.publishes .running) (hq : s.thr.round = some q) :
    execThrRoundPublish true true s = .next (((s.turned.checked false).publish q).retryOutcome bTHR 5 0 true).settle := by
  unfold execThrRoundPublish
  rw [if_pos ⟨.inl h.1, h.2⟩]
  extract_lets u _ t
  have ht : t = s.turned := turned_of u rfl
  clear_value t
  rw [if_neg (by rw [h.1]; decide), hq, ← ht]
  rfl

/-- A round handed over whose set fails its check republishes the last one, with THR source 5. -/
theorem publish_failed {s : State} {q : Round} (h : s.publishes .running) (hq : s.thr.round = some q) :
    execThrRoundPublish true false s = .next (((s.turned.checked true).republish false).occur bTHR 5 0).settle := by
  unfold execThrRoundPublish
  rw [if_pos ⟨.inl h.1, h.2⟩]
  extract_lets u _ t
  have ht : t = s.turned := turned_of u rfl
  clear_value t
  rw [if_neg (by rw [h.1]; decide), hq, ← ht]
  rfl

/-- An overrun republishes the last round, with THR source 0. -/
theorem publish_overrun {s : State} (setOk : Bool) (h : s.publishes .running) :
    execThrRoundPublish false setOk s = .next ((s.turned.republish false).occur bTHR 0 0).settle := by
  unfold execThrRoundPublish
  rw [if_pos ⟨.inl h.1, h.2⟩, if_neg (by rw [h.1]; decide)]
  rfl

/-- In Held the last round is republished. -/
theorem publish_held {s : State} (handed setOk : Bool) (h : s.publishes .held) :
    execThrRoundPublish handed setOk s = .next (s.turned.republish true).settle := by
  unfold execThrRoundPublish
  rw [if_pos ⟨.inr h.1, h.2⟩, if_pos h.1]
  rfl

/-- At t_k the round's set takes force; the flows Live at the latch take its grants, and its orders are handed over. -/
theorem publish_handed_effect {s t : State} {q : Round} (hq : s.thr.round = some q)
    (ht : t = (((s.turned.checked false).publish q).retryOutcome bTHR 5 0 true).settle) :
    t.thr.k = s.thr.k + 1 ∧ t.thr.round = none ∧ t.thr.inForce = q.set ∧ t.thr.orders = q.orders ∧ t.thr.sheds = q.sheds ∧
      ∀ c : Ctx, s.ctx[c].st = .live → q.live.contains c = true → t.ctx[c].grant = q.grants[c].cur := by
  subst ht
  have hb (u : State) : (u.retryOutcome bTHR 5 0 true).but [.deferred, .flt, .x3, .xing, .log, .ret] = u.but [.deferred, .flt, .x3, .xing,
      .log, .ret] := retryOutcome_ok u bTHR 5 0 (by simp) (by simp) (by simp) (by simp) (by simp) (by simp)
  simp only [settle_thr, but_thr (hb _) (by decide), settle_grant, but_ctx (hb _) (by decide)]
  refine ⟨by simp, by simp, by simp [turned_inForce hq], publish_orders _ q, publish_sheds _ q, fun c hst hl => publish_grant ?_ hl⟩
  rw [checked_ctx, turned_ctx, hst]

/-- Settles O21: the latch and the three ways of publication, each through what it leaves of Thresher and of the grants. -/
theorem rounds : Obligations.Rounds := by
  refine ⟨fun s hst hrun hat hround => thrRoundLatch_next hst hrun hat hround, fun s q hst hdom hat hq => ?_,
    fun s q hst hdom hat hq => ?_, fun s setOk hst hdom hat => ?_, fun s handed setOk hst hdom hat => ?_⟩
  · exact ⟨_, publish_handed ⟨hst, hdom, hat⟩ hq, publish_handed_effect hq rfl⟩
  · exact ⟨_, publish_failed ⟨hst, hdom, hat⟩ hq, by simp, republish_orders _ false, republish_sheds _ false, by simp [turned_inForce hq]⟩
  · refine ⟨_, publish_overrun setOk ⟨hst, hdom, hat⟩, republish_orders _ false, fun q hq => by simp [turned_inForce hq],
      fun c q hq _ hc => ?_⟩
    have hlast : s.turned.thr.last = some q := (turned_last s).trans hq
    rw [republish_running hlast (by rwa [turned_ctx])]
    exact repGrant_le false hlast
  · refine ⟨_, publish_held handed setOk ⟨hst, hdom, hat⟩, ?_⟩
    simp only [settle_thr, settle_grant, republish_held, republish_st, turned_st, republish_orders, republish_sheds]
    refine ⟨hst, trivial, trivial, fun c => ⟨fun q hq _ => repGrant_le true ((turned_last s).trans hq), fun hn => repGrant_none ?_⟩⟩
    unfold State.lastGrant
    rw [turned_last]
    cases hq : s.thr.last with
    | none => rfl
    | some q => rw [Option.bind_some, hn q hq, Bool.false_and, if_neg Bool.false_ne_true]

/-! ### FLOW_CMD: what an executed command answers (R198, R200) -/

/-- The state while a command of FLOW_CMD executes. -/
def State.executing (s : State) : State := { s with flow := { s.flow with busy := true, done := false } }

/-- A FLOW_CMD word: the op and the handle (R215). -/
def flowWord (op : Nat) (h : BitVec 16) : Word := BitVec.ofNat 32 (op + 65536 * h.toNat)

theorem flowWord_op {op : Nat} (h : BitVec 16) (hop : op < 16) : (flowWord op h).bits 3 0 = op := by
  have hh := h.isLt
  simp only [flowWord, Word.bits, BitVec.toNat_ofNat, Nat.shiftRight_zero]
  omega

theorem flowWord_handle {op : Nat} (h : BitVec 16) (hop : op < 16) : BitVec.ofNat 16 ((flowWord op h).bits 31 16) = h := by
  have hh := h.isLt
  apply BitVec.eq_of_toNat_eq
  simp only [flowWord, Word.bits, BitVec.toNat_ofNat, Nat.shiftRight_eq_div_pow]
  omega

/-- A state is an answer with a code: the result stands in FLOW_RES, behind effects that leave FLOW_RES alone. -/
def State.Answers (s t : State) (code : Nat) : Prop :=
  ∃ (u : State) (idx : Nat) (h : BitVec 16), u.flow = s.flow ∧ t = u.flowResult code idx h

theorem occur_flow (s : State) (b : Blk) (src : Src) (obj : Nat) (stays : Bool) : (s.occur b src obj stays).flow = s.flow :=
  but_flow (fs := [.deferred, .flt, .safeLine, .halt, .x3, .xing, .log, .ret, .dom, .img, .fab, .groups, .cells, .culm, .branches, .src,
    .ctx, .bat, .fdr, .chg, .est, .thr, .awn]) (by simp) (by decide)

/-- What a result leaves in FLOW_RES. -/
theorem flowResult_flow (s : State) (code idx : Nat) (h : BitVec 16) :
    (s.flowResult code idx h).flow.result = code ∧ (s.flowResult code idx h).flow.done = true ∧
      (s.flowResult code idx h).flow.busy = false ∧ (s.flowResult code idx h).flow.seq = (s.flow.seq + 1) % 256 ∧
      (s.flowResult code idx h).flow.handle = h := by
  unfold State.flowResult
  extract_lets
  split
  · exact ⟨rfl, rfl, rfl, rfl, rfl⟩
  · rw [occur_flow]
    exact ⟨rfl, rfl, rfl, rfl, rfl⟩

theorem State.Answers.flow {s t : State} {code : Nat} (ha : s.Answers t code) :
    t.flow.result = code ∧ t.flow.done = true ∧ t.flow.busy = false ∧ t.flow.seq = (s.flow.seq + 1) % 256 := by
  obtain ⟨u, idx, h, hu, rfl⟩ := ha
  obtain ⟨hres, hdone, hbusy, hseq, -⟩ := flowResult_flow u code idx h
  exact ⟨hres, hdone, hbusy, hu ▸ hseq⟩

theorem flowResult_answers (s : State) (code idx : Nat) (h : BitVec 16) : s.Answers (s.flowResult code idx h) code := ⟨s, idx, h, rfl, rfl⟩

/-! ### The codes (R199) -/

theorem openFlow_flow (s : State) (c : Ctx) (d : FlowDef) : (s.openFlow c d).flow = s.flow :=
  but_flow (fs := [.deferred, .flt, .safeLine, .halt, .x3, .xing, .log, .ret, .dom, .img, .fab, .groups, .cells, .culm, .branches, .src,
    .ctx, .bat, .fdr, .chg, .est, .thr, .awn]) (by simp) (by decide)
theorem closeFlow_flow (s : State) (c : Ctx) : (s.closeFlow c).flow = s.flow :=
  but_flow (fs := [.groups, .ctx, .chg]) (by simp) (by decide)

/-- The result of CREATE: codes 4, 13 and 5 in this order, then those on the definition. -/
def State.createResult (s : State) (h : BitVec 16) : Nat :=
  if 160 ≤ h.toNat % 256 ∧ h.toNat % 256 ≠ 255 then 4
  else if s.img.image.isNone ∨ s.img.req.isSome = true then 13
  else match s.wanted (h.toNat % 256) with
    | none => 5
    | some _ => s.createCode s.staged

/-- A refusal answers with its code, and an acceptance whose effects leave FLOW_RES with 0. -/
theorem accepted_answers {s t : State} (ht : t.flow = s.flow) (code idx : Nat) (h k : BitVec 16) :
    s.Answers (if code = 0 then t.flowResult 0 idx k else s.flowResult code idx h) code := by
  split <;> rename_i hc
  · exact ⟨t, idx, k, ht, by rw [hc]⟩
  · exact flowResult_answers ..

theorem createWith_answers (s : State) (h : BitVec 16) : s.Answers (s.createWith h s.staged) (s.createResult h) := by
  unfold State.createWith State.createResult
  extract_lets idx
  split
  · exact flowResult_answers ..
  split
  · exact flowResult_answers ..
  cases hw : s.wanted idx with
  | none => exact flowResult_answers ..
  | some c => exact accepted_answers (openFlow_flow s c s.staged) ..

/-- The result of a command on a handle: the code of the handle, else the first of its context's checks. -/
def State.handleResult (s : State) (h : BitVec 16) (checks : Ctx → List (Bool × Nat)) : Nat :=
  match s.named h with
  | .inl code => code
  | .inr c => firstCode (checks c)

/-- The checks of MODIFY, SUSPEND, RESUME and DESTROY, in the order of their codes. -/
def State.modifyChecks (s : State) (c : Ctx) : List (Bool × Nat) :=
  [(badModify s.ctx[c].d s.staged, 8), (s.badNewProf s.ctx[c].d s.staged, 9), (s.lost c, 10),
    (s.ctx[c].st != .opening && s.ctx[c].st != .live && s.ctx[c].st != .suspended, 11), (s.portHalted s.ctx[c].d, 12), (s.noChange, 13),
    (s.host.exp, 14)]
def State.suspendChecks (s : State) (c : Ctx) : List (Bool × Nat) :=
  [(s.lost c, 10), (s.ctx[c].st != .opening && s.ctx[c].st != .live, 11), (s.portHalted s.ctx[c].d, 12), (s.noChange, 13)]
def State.resumeChecks (s : State) (c : Ctx) : List (Bool × Nat) :=
  [(s.lost c, 10), (s.ctx[c].st != .suspended || !s.ctx[c].scause.getLsbD 0, 11), (s.portHalted s.ctx[c].d, 12), (s.noChange, 13)]
def State.destroyChecks (s : State) (c : Ctx) : List (Bool × Nat) :=
  [(s.lendsOn c, 6), (s.lost c, 10), (s.portHalted s.ctx[c].d, 12), (s.noImage, 13)]

theorem modifyFlow_answers (s : State) (h : BitVec 16) : s.Answers (s.modifyFlow h s.staged) (s.handleResult h s.modifyChecks) := by
  unfold State.modifyFlow State.handleResult
  cases s.named h with
  | inl code => exact flowResult_answers ..
  | inr c =>
    dsimp only
    refine accepted_answers ?_ _ c.val h h
    split
    · split <;> rfl
    · rfl

theorem suspendFlow_answers (s : State) (h : BitVec 16) : s.Answers (s.suspendFlow h) (s.handleResult h s.suspendChecks) := by
  unfold State.suspendFlow State.handleResult
  cases s.named h with
  | inl code => exact flowResult_answers ..
  | inr c =>
    dsimp only
    refine accepted_answers ?_ _ c.val h h
    rw [settle_flow]
    split <;> rfl

theorem resumeFlow_answers (s : State) (h : BitVec 16) : s.Answers (s.resumeFlow h) (s.handleResult h s.resumeChecks) := by
  unfold State.resumeFlow State.handleResult
  cases s.named h with
  | inl code => exact flowResult_answers ..
  | inr c =>
    dsimp only
    refine accepted_answers ?_ _ c.val h h
    rw [settle_flow, setCtx_flow]

theorem destroyFlow_answers (s : State) (h : BitVec 16) : s.Answers (s.destroyFlow h) (s.handleResult h s.destroyChecks) := by
  unfold State.destroyFlow State.handleResult
  cases s.named h with
  | inl code => exact flowResult_answers ..
  | inr c => exact accepted_answers (closeFlow_flow s c) _ c.val h h

/-! ### The command at the next iteration (R22, R23, R200) -/

theorem writeFlowCmd_create (s : State) (h : BitVec 16) : s.writeFlowCmd (flowWord 1 h) = s.createWith h s.staged := by
  simp only [State.writeFlowCmd, flowWord_op h (by decide : 1 < 16), flowWord_handle h (by decide : 1 < 16)]
theorem writeFlowCmd_modify (s : State) (h : BitVec 16) : s.writeFlowCmd (flowWord 2 h) = s.modifyFlow h s.staged := by
  simp only [State.writeFlowCmd, flowWord_op h (by decide : 2 < 16), flowWord_handle h (by decide : 2 < 16)]
theorem writeFlowCmd_suspend (s : State) (h : BitVec 16) : s.writeFlowCmd (flowWord 3 h) = s.suspendFlow h := by
  simp only [State.writeFlowCmd, flowWord_op h (by decide : 3 < 16), flowWord_handle h (by decide : 3 < 16)]
theorem writeFlowCmd_resume (s : State) (h : BitVec 16) : s.writeFlowCmd (flowWord 4 h) = s.resumeFlow h := by
  simp only [State.writeFlowCmd, flowWord_op h (by decide : 4 < 16), flowWord_handle h (by decide : 4 < 16)]
theorem writeFlowCmd_destroy (s : State) (h : BitVec 16) : s.writeFlowCmd (flowWord 5 h) = s.destroyFlow h := by
  simp only [State.writeFlowCmd, flowWord_op h (by decide : 5 < 16), flowWord_handle h (by decide : 5 < 16)]

/-- Ops 6-15 are refused with code 15. -/
theorem writeFlowCmd_invalid (s : State) {op : Nat} (h : BitVec 16) (h6 : 6 ≤ op) (h16 : op < 16) :
    s.writeFlowCmd (flowWord op h) = s.flowResult 15 (h.toNat % 256) h := by
  simp only [State.writeFlowCmd, flowWord_op h h16, flowWord_handle h h16]
  split
  case h_7 => rfl
  all_goals omega

theorem writeCarried_flowCmd (s : State) (v : Word) : s.writeCarried flowCmdAt v = s.writeFlowCmd v := by
  unfold State.writeCarried
  rw [dif_neg (by decide)]
  rfl

/-- While a command executes another is discarded. -/
theorem carryFlow_busy {s : State} (op : Nat) (h : BitVec 16) (hb : s.flow.busy = true) : s.carryFlow op h = s := if_pos (.inl hb)

/-- A command is accepted at its write, and executes at the next iteration. -/
theorem carryFlow_next {s : State} (r : Req) {op : Nat} (h : BitVec 16) (hs : s.serves flowCmdAt) (hb : s.flow.busy = false)
    (hd : s.deferred = []) (hop : op ≠ 0) : ∃ t, s.viaService r flowCmdAt (fun s => s.carryFlow op h) = t ∧ t.flow.busy = true ∧
      t.flow.done = false ∧ t.iterate = (s.executing.writeFlowCmd (flowWord op h)).settle.iterationEnds := by
  refine ⟨s.executing.carry flowCmdAt (flowWord op h), ?_, rfl, rfl, ?_⟩
  · rw [viaService_serves s r _ _ hs]
    exact if_neg (by simp [hb, hop])
  · rw [carry_iterate s.executing flowCmdAt _ hd, writeCarried_flowCmd]

/-- A command that executes answers at the next iteration: FLOW_RES is busy until then, and there holds the result. -/
theorem carryFlow_answers {s : State} (r : Req) {op : Nat} (h : BitVec 16) (hs : s.serves flowCmdAt) (hb : s.flow.busy = false)
    (hd : s.deferred = []) (hop : op ≠ 0) {code : Nat} (ha : s.executing.Answers (s.executing.writeFlowCmd (flowWord op h)) code) :
    ∃ t, s.viaService r flowCmdAt (fun s => s.carryFlow op h) = t ∧ t.flow.busy = true ∧ t.flow.done = false ∧
      t.iterate.flow.busy = false ∧ t.iterate.flow.done = true ∧ t.iterate.flow.seq = (s.flow.seq + 1) % 256 ∧
      t.iterate.flow.result = code := by
  obtain ⟨t, ht, htb, htd, hi⟩ := carryFlow_next r h hs hb hd hop
  obtain ⟨hres, hdone, hbusy, hseq⟩ := ha.flow
  have hf := congrArg State.flow hi
  rw [iterationEnds_flow, settle_flow] at hf
  rw [← hf] at hres hdone hbusy hseq
  exact ⟨t, ht, htb, htd, hbusy, hdone, hseq, hres⟩

/-! ### An accepted CREATE (R196) -/

/-- The Safe line or Stubble holds the module. -/
def State.lineHolds (s : State) : Prop := s.dom.st = .stubble ∨ s.safeLine ≠ []

/-- Cause bit 4 is the module's hold (R204). -/
theorem hwCauses_bit4 (s : State) (f : FlowCtx) : (s.hwCauses f).getLsbD 4 = s.moduleHolds f := by
  unfold State.hwCauses
  simp only [BitVec.getLsbD_or, apply_ite (BitVec.getLsbD · 4)]
  cases s.moduleHolds f <;> simp

theorem moduleHolds_opening {s : State} {f : FlowCtx} (h : f.st = .opening) : s.moduleHolds f = true ↔ s.lineHolds := by
  simp [State.moduleHolds, State.lineHolds, h]

theorem moduleHolds_of_line {s : State} (f : FlowCtx) (h : s.lineHolds) : s.moduleHolds f = true := by
  rcases h with h | h <;> simp [State.moduleHolds, h]

/-- An Opening flow that the module does not hold goes on opening. -/
theorem settleFlow_opening {s : State} {f : FlowCtx} (h : f.st = .opening) (hl : ¬s.lineHolds) : s.settleFlow f = f := by
  have hm : s.moduleHolds f = false := by simpa using mt (moduleHolds_opening h).mp hl
  unfold State.settleFlow
  simp only [h]
  rw [hwCauses_bit4, hm]
  exact if_neg Bool.false_ne_true

/-- An Opening flow that the module holds is Suspended without current. -/
theorem settleFlow_held {s : State} {f : FlowCtx} (h : f.st = .opening) (hl : s.lineHolds) :
    (s.settleFlow f).st = .suspended ∧ (s.settleFlow f).cur = 0 := by
  unfold State.settleFlow
  simp [h, hwCauses_bit4, moduleHolds_of_line f hl, FlowCtx.suspended]

/-- A Suspended flow stays so while the module holds it. -/
theorem settleFlow_suspended {s : State} {f : FlowCtx} (h : f.st = .suspended) (hl : s.lineHolds) :
    (s.settleFlow f).st = .suspended ∧ (s.settleFlow f).cur = f.cur := by
  have hne : (f.scause &&& 1) ||| s.hwCauses f ≠ 0 := fun e => by
    have hb := congrArg (·.getLsbD 4) e
    simp only [BitVec.getLsbD_or, hwCauses_bit4, moduleHolds_of_line f hl, Bool.or_true] at hb
    simp at hb
  unfold State.settleFlow
  simp only [h]
  rw [if_neg hne]
  exact ⟨rfl, rfl⟩

/-- Two states with the same condition and Safe line hold their modules alike. -/
theorem lineHolds_iff {s t : State} (hd : t.dom = s.dom) (hl : t.safeLine = s.safeLine) : t.lineHolds ↔ s.lineHolds := by
  unfold State.lineHolds
  rw [hd, hl]

theorem grouped_lineHolds (s : State) : s.grouped.lineHolds ↔ s.lineHolds := by
  have h : s.grouped.but [.groups] = s.but [.groups] := by
    unfold State.grouped
    simp
  exact lineHolds_iff (but_dom h (by decide)) (but_safeLine h (by decide))

theorem settleFlows_lineHolds (s : State) : s.settleFlows.lineHolds ↔ s.lineHolds :=
  have h : s.settleFlows.but [.ctx] = s.but [.ctx] := settleFlows_but s (by decide)
  lineHolds_iff (but_dom h (by decide)) (but_safeLine h (by decide))

/-- An Opening flow without current, settled: Suspended where the Safe line or Stubble holds the module, else Opening. -/
theorem settle_opening {s : State} {c : Ctx} (h : s.ctx[c].st = .opening) (h0 : s.ctx[c].cur = 0) :
    s.settle.ctx[c].st = (if s.dom.st = .stubble ∨ s.safeLine ≠ [] then .suspended else .opening) ∧ s.settle.ctx[c].cur = 0 := by
  have hg := grouped_lineHolds s
  have hf := (settleFlows_lineHolds s.grouped).trans hg
  rw [settle_ctx]
  by_cases hl : s.lineHolds
  · obtain ⟨hst, hcur⟩ := settleFlow_held h (hg.mpr hl)
    obtain ⟨hst', hcur'⟩ := settleFlow_suspended hst (hf.mpr hl)
    exact ⟨hst'.trans (if_pos hl).symm, hcur'.trans hcur⟩
  · rw [settleFlow_opening h (mt hg.mp hl), settleFlow_opening h (mt hf.mp hl)]
    exact ⟨h.trans (if_neg hl).symm, h0⟩

@[simp] theorem settle_ctx_d (s : State) (c : Ctx) : s.settle.ctx[c].d = s.ctx[c].d := by rw [settle_ctx, settleFlow_d, settleFlow_d]
@[simp] theorem settle_ctx_gen (s : State) (c : Ctx) : s.settle.ctx[c].gen = s.ctx[c].gen := by
  rw [settle_ctx, settleFlow_gen, settleFlow_gen]

/-- Free and Fenced contexts take no part in the hardware events. -/
theorem settle_ctx_idle {s : State} {c : Ctx} (h : s.ctx[c].st = .free ∨ s.ctx[c].st = .fenced) : s.settle.ctx[c] = s.ctx[c] := by
  rw [settle_ctx]
  rcases h with h | h
  · rw [settleFlow_free _ _ h, settleFlow_free _ _ h]
  · rw [settleFlow_fenced _ _ h, settleFlow_fenced _ _ h]

/-- A context that CREATE opened while the host was in contact. -/
def FlowCtx.opened (gen now : Nat) (d : FlowDef) : FlowCtx :=
  { FlowCtx.freed gen with st := .opening, d := d, since := now, zeroAt := some now }

/-- What an opened flow's context holds while the host is in contact, and what opening it leaves. -/
theorem openFlow_effect {s : State} (c : Ctx) (d : FlowDef) (he : s.host.exp = false) :
    (s.openFlow c d).but [.ctx, .chg] = s.but [.ctx, .chg] ∧ (s.openFlow c d).ctx = vset s.ctx c (.opened s.ctx[c].gen s.now d) := by
  unfold State.openFlow
  extract_lets _ t u
  have hu : u.but [.ctx, .chg] = s.but [.ctx, .chg] ∧ u.ctx = t.ctx := by
    unfold u
    split
    · split
      · exact ⟨rfl, rfl⟩
      · exact ⟨rfl, rfl⟩
    · exact ⟨rfl, rfl⟩
  have hh : u.host.exp = false := (congrArg (·.exp) (but_host hu.1 (by decide))).trans he
  rw [if_neg (by simp [hh])]
  exact ⟨hu.1, hu.2.trans (by simp only [t, he]; rfl)⟩

/-- A context opened by CREATE behind the hardware events of the moment, and the other contexts. -/
theorem settle_opened {s t : State} {c : Ctx} {now : Nat} {d : FlowDef} (hctx : t.ctx = vset s.ctx c (.opened s.ctx[c].gen now d))
    (hdom : t.dom = s.dom) (hline : t.safeLine = s.safeLine) :
    t.settle.ctx[c].st = (if s.dom.st = .stubble ∨ s.safeLine ≠ [] then .suspended else .opening) ∧ t.settle.ctx[c].d = d ∧
      t.settle.ctx[c].gen = s.ctx[c].gen ∧ t.settle.ctx[c].cur = 0 ∧
      ∀ k, k ≠ c → t.settle.ctx[k].d = s.ctx[k].d ∧ t.settle.ctx[k].gen = s.ctx[k].gen ∧
        (s.ctx[k].st = .free ∨ s.ctx[k].st = .fenced → t.settle.ctx[k] = s.ctx[k]) := by
  have hc : t.ctx[c] = .opened s.ctx[c].gen now d := (congrArg (·[c]) hctx).trans (vset_same ..)
  have hk (k : Ctx) (hne : k ≠ c) : t.ctx[k] = s.ctx[k] := (congrArg (·[k]) hctx).trans (vset_other _ _ _ _ hne.symm)
  obtain ⟨hst, hcur⟩ := settle_opening (s := t) (c := c) (by rw [hc]; rfl) (by rw [hc]; rfl)
  rw [hdom, hline] at hst
  refine ⟨hst, by rw [settle_ctx_d, hc]; rfl, by rw [settle_ctx_gen, hc]; rfl, hcur, fun k hne => ?_⟩
  rw [← hk k hne]
  exact ⟨settle_ctx_d t k, settle_ctx_gen t k, settle_ctx_idle⟩

/-- An accepted CREATE opens the flow, and its handle stands in FLOW_RES. -/
theorem createWith_accepted {s : State} {h : BitVec 16} {c : Ctx} {d : FlowDef} (hidx : ¬(160 ≤ h.toNat % 256 ∧ h.toNat % 256 ≠ 255))
    (hi : s.img.image.isSome = true) (hr : s.img.req = none) (hw : s.wanted (h.toNat % 256) = some c) (hc : s.createCode d = 0) :
    s.createWith h d = (s.openFlow c d).flowResult 0 c.val (handleOf s.ctx[c].gen c) := by
  unfold State.createWith
  rw [if_neg hidx, if_neg (by simp [hr, Option.isSome_iff_ne_none.mp hi]), hw]
  exact if_pos hc

/-! ### The statement -/

/-- A command in the shape of the statement's clauses on MODIFY, SUSPEND, RESUME, DESTROY and the invalid ops. -/
theorem carryFlow_result {s : State} (r : Req) {op : Nat} (h : BitVec 16) (hs : s.serves flowCmdAt) (hb : s.flow.busy = false)
    (hd : s.deferred = []) (hop : op ≠ 0) {code : Nat} (ha : s.executing.Answers (s.executing.writeFlowCmd (flowWord op h)) code) :
    ∃ t, (.next (s.viaService r flowCmdAt fun s => s.carryFlow op h) : Ans) = .next t ∧ t.iterate.flow.done = true ∧
      t.iterate.flow.seq = (s.flow.seq + 1) % 256 ∧ t.iterate.flow.result = code := by
  obtain ⟨t, ht, -, -, -, hdone, hseq, hres⟩ := carryFlow_answers r h hs hb hd hop ha
  exact ⟨t, congrArg Host.Outcome.next ht, hdone, hseq, hres⟩

/-- Settles O1: a command is carried to the next iteration, which answers with the first code that fails; an accepted CREATE has its
effect there. -/
theorem flowCommands : Obligations.FlowCommands := by
  refine ⟨fun s r h hs hb => ?_, fun s r h hs hb hd => ⟨?_, fun c hidx hi hr hw hc he => ?_⟩,
    fun s r h hs hb hd => ⟨?_, ?_, ?_, ?_, fun op hop => ?_⟩⟩
  · have hx (op : Nat) : (.next (s.viaService r flowCmdAt fun s => s.carryFlow op h) : Ans) = .next s :=
      congrArg Host.Outcome.next ((viaService_serves s r _ _ hs).trans (carryFlow_busy op h hb))
    exact ⟨hx 1, hx 2, hx 3, hx 4, hx 5⟩
  · obtain ⟨t, ht, hl⟩ := carryFlow_answers r h hs hb hd (by decide : 1 ≠ 0)
      ((writeFlowCmd_create ..).symm ▸ createWith_answers s.executing h)
    exact ⟨t, congrArg Host.Outcome.next ht, hl⟩
  · obtain ⟨t, ht, -, -, ht'⟩ := carryFlow_next r h hs hb hd (by decide : 1 ≠ 0)
    obtain ⟨u, hu⟩ : ∃ u, u = s.executing.openFlow c s.staged := ⟨_, rfl⟩
    have hcreate : s.executing.createWith h s.executing.staged = u.flowResult 0 c.val (handleOf s.ctx[c].gen c) :=
      hu ▸ createWith_accepted (s := s.executing) hidx hi hr hw hc
    obtain ⟨hbut, hctx⟩ := openFlow_effect (s := s.executing) c s.staged he
    obtain ⟨hres, -, -, -, hhandle⟩ := flowResult_flow u 0 c.val (handleOf s.ctx[c].gen c)
    rw [← hu] at hbut hctx
    have hdom : u.dom = s.executing.dom := but_dom hbut (by decide)
    have hline : u.safeLine = s.executing.safeLine := but_safeLine hbut (by decide)
    obtain ⟨hst, hdef, hgen, hcur, hk⟩ :=
      settle_opened (s := s) (t := u.flowResult 0 c.val (handleOf s.ctx[c].gen c)) hctx hdom hline
    refine ⟨t, congrArg Host.Outcome.next ht, ?_⟩
    rw [ht', writeFlowCmd_create, hcreate, iterationEnds_ctx, iterationEnds_flow, settle_flow]
    exact ⟨hst, hdef, hgen, hcur, hres, hhandle, hk⟩
  · exact carryFlow_result r h hs hb hd (by decide : 2 ≠ 0) ((writeFlowCmd_modify ..).symm ▸ modifyFlow_answers s.executing h)
  · exact carryFlow_result r h hs hb hd (by decide : 3 ≠ 0) ((writeFlowCmd_suspend ..).symm ▸ suspendFlow_answers s.executing h)
  · exact carryFlow_result r h hs hb hd (by decide : 4 ≠ 0) ((writeFlowCmd_resume ..).symm ▸ resumeFlow_answers s.executing h)
  · exact carryFlow_result r h hs hb hd (by decide : 5 ≠ 0) ((writeFlowCmd_destroy ..).symm ▸ destroyFlow_answers s.executing h)
  · have hx : exec (.flowOpInvalid r op h) s = .next (s.viaService r flowCmdAt fun s => s.carryFlow op.toNat h) :=
      congrArg Host.Outcome.next ((viaService_serves s r _ _ hs).trans
        ((if_neg (by omega)).trans (viaService_serves s r _ (fun s => s.carryFlow op.toNat h) hs).symm))
    rw [hx]
    exact carryFlow_result r h hs hb hd (by omega) ((writeFlowCmd_invalid _ h hop op.isLt).symm ▸ flowResult_answers ..)

end Sys2Proof.Machine
end

section
/-!
PROOFS. Connectors and ratings (spec/02_connectors_ratings.md): the wake causes and the RESET loop, the connection of the battery ports,
and their protection.
-/

namespace Sys2Proof.Machine

/-! ### Resets (R569, R570) -/

/-- A domain restart leaves the RESET loop as it is. -/
@[simp] theorem domainReset_resetLoop (s : State) : s.domainReset.dom.resetLoop = s.dom.resetLoop := by
  have h : s.finishProgram.dom = s.dom := but_dom (fs := [.freeN, .nv, .nvs]) (by simp) (by decide)
  rw [← h]
  rfl

/-- A restart keeps the watchdog's hold, which retained memory holds. -/
theorem domainReset_wdg (s : State) : s.domainReset.ret.wdg = s.ret.wdg := by
  have h : s.finishProgram.ret = s.ret := but_ret (fs := [.freeN, .nv, .nvs]) (by simp) (by decide)
  rw [← h]
  rfl

/-! ### A start-up begins (R486) -/

/-- What DOM_STAT shows of a start-up that has begun. -/
structure State.Booting (t : State) (cold : Bool) (wake : Wake) (port : SPort) : Prop where
  st : t.dom.st = .inReset
  boot : t.dom.boot = true
  cold : t.dom.cold = cold
  wake : t.dom.wake = wake
  wport : t.dom.wport = port

theorem beginBoot_booting (s : State) (cold : Bool) (wake : Wake) (port : SPort) : (s.beginBoot cold wake port).Booting cold wake port :=
  ⟨rfl, rfl, rfl, rfl, rfl⟩

/-- A start-up leaves the RESET loop and the watchdog's hold as they are. -/
theorem beginBoot_keeps (s : State) (cold : Bool) (wake : Wake) (port : SPort) :
    (s.beginBoot cold wake port).dom.resetLoop = s.dom.resetLoop ∧ (s.beginBoot cold wake port).ret.wdg = s.ret.wdg := by
  cases cold
  · exact ⟨domainReset_resetLoop s, domainReset_wdg s⟩
  · exact ⟨rfl, domainReset_wdg s⟩

/-- A sleeping module whose RESET loop is open starts up at a wake, cold from Dormant (R483). -/
theorem wakeUp_booting {s : State} (w : Wake) (p : SPort) (hst : s.dom.st = .dormant ∨ s.dom.st = .watch)
    (hloop : s.dom.resetLoop = false) :
    (s.wakeUp w p).Booting (s.dom.st == .dormant) w p := by
  unfold State.wakeUp
  rw [if_neg (by simp [hloop])]
  rcases hst with hst | hst <;> simp only [hst] <;> exact beginBoot_booting ..

/-! ### The commands -/

/-- The supply starts with a wake cause: the module starts up cold, or the closed RESET loop holds it (R51, R483). -/
theorem supplyStart_wakes {s : State} (feed : Fin 8) {hv : Option SPort} {closed : Bool} (hst : s.dom.st = .unpowered)
    (hf : s.dom.failAt = none) (hc : (hv.isSome || closed) = true) :
    ∃ t, exec (.supplyStart feed hv closed) s = .next t ∧ t.dom.st = .inReset ∧
      (s.dom.resetLoop = false → t.dom.boot = true ∧ t.dom.cold = true ∧ t.dom.wake = .powerOn) ∧
      (s.dom.resetLoop = true → t.dom.boot = false) := by
  refine ⟨_, if_pos ⟨hst, hf⟩, ?_⟩
  cases hl : s.dom.resetLoop
  · rw [if_pos ⟨hc, rfl⟩]
    exact ⟨rfl, fun _ => ⟨rfl, rfl, rfl⟩, nofun⟩
  · rw [if_neg (by simp)]
    exact ⟨if_pos hc, nofun, fun _ => rfl⟩

/-- The supply starts without a wake cause: the module is Dormant (R483). -/
theorem supplyStart_sleeps {s : State} (feed : Fin 8) (hst : s.dom.st = .unpowered) (hf : s.dom.failAt = none) :
    ∃ t, exec (.supplyStart feed none false) s = .next t ∧ t.dom.st = .dormant := by
  refine ⟨_, if_pos ⟨hst, hf⟩, ?_⟩
  rw [if_neg (by simp)]
  rfl

/-- A high-voltage port above its wake level for 100 ms wakes a sleeping module (R62). -/
theorem hvWake_wakes {s : State} (p : SPort) {ac : Bool} {mv heldMs : Nat} (hst : s.dom.st = .dormant ∨ s.dom.st = .watch)
    (hloop : s.dom.resetLoop = false) (hheld : 100 ≤ heldMs) (hmv : (if ac then 70000 else 50000) ≤ mv) :
    ∃ t, exec (.hvWake p ac mv heldMs) s = .next t ∧ t.Booting (s.dom.st == .dormant) .hv p :=
  ⟨_, (if_pos hmv).trans (if_pos hheld), wakeUp_booting .hv p hst hloop⟩

/-- The closed RESET loop holds a powered module in reset; one that was not in reset loses D1-D11 (R50). -/
theorem resetLoopClosed_holds {s : State} {ohm : Nat} (hohm : ohm < 1000) (hp : s.powered = true) :
    ∃ t, exec (.resetLoopClosed ohm) s = .next t ∧ t.dom.st = .inReset ∧ t.dom.resetLoop = true ∧ t.dom.boot = false ∧
      (s.dom.st ≠ .inReset → t.dom.on = 1) := by
  refine ⟨_, (if_pos hohm).trans (if_pos hp), rfl, ?_, rfl, fun hst => ?_⟩
  · split
    · rfl
    · exact domainReset_resetLoop _
  · rw [if_neg hst]
    rfl

/-- The end of a Hold by the RESET loop. -/
theorem endHoldByLoop_effect (s : State) : s.endHoldByLoop.dom = s.dom ∧ s.endHoldByLoop.ret.wdg.hold = false := by
  unfold State.endHoldByLoop
  cases hh : s.ret.wdg.hold
  · exact ⟨rfl, hh⟩
  · exact ⟨rfl, rfl⟩

/-- The RESET loop opens on a module in reset: it starts up, and a watchdog Hold has ended (R50, R461). -/
theorem resetLoopOpened_boots {s : State} {ohm : Nat} (hohm : 100000 < ohm) (hloop : s.dom.resetLoop = true) (hst : s.dom.st = .inReset) :
    ∃ t, exec (.resetLoopOpened ohm) s = .next t ∧ t.Booting s.dom.cold .reset 0 ∧ t.dom.resetLoop = false ∧
      t.ret.wdg.hold = false := by
  refine ⟨_, (if_pos ⟨hohm, hloop⟩).trans (if_pos hst), beginBoot_booting .., ?_⟩
  obtain ⟨hdom, hhold⟩ := endHoldByLoop_effect { s with dom := { s.dom with resetLoop := false } }
  obtain ⟨hl, hw⟩ := beginBoot_keeps ({ s with dom := { s.dom with resetLoop := false } } : State).endHoldByLoop s.dom.cold .reset 0
  exact ⟨hl.trans (congrArg DomRec.resetLoop hdom), (congrArg (·.hold) hw).trans hhold⟩

/-- Settles O8: each wake cause begins the start-up that R483 gives it, and the RESET loop holds the module and lets it go. -/
theorem wakeAndReset : Obligations.WakeAndReset := by
  refine ⟨fun s feed hv closed hst hf => ?_, fun s p mv heldMs hst hloop hheld => ⟨fun hmv => ?_, fun hmv => ?_⟩,
    fun s a b hst hloop ha hb => ?_, fun s hst hloop ha0 ha => ?_, fun s ohm => resetLoopClosed_holds, fun s ohm hohm hloop hst => ?_⟩
  · cases hc : hv.isSome || closed
    · obtain ⟨hv0, rfl⟩ := Bool.or_eq_false_iff.mp hc
      obtain rfl : hv = none := by simpa using hv0
      obtain ⟨t, ht, hd⟩ := supplyStart_sleeps feed hst hf
      exact ⟨t, ht, by simp, fun _ _ => hd⟩
    · obtain ⟨t, ht, hw⟩ := supplyStart_wakes feed hst hf hc
      refine ⟨t, ht, fun _ => hw, ?_⟩
      rintro rfl rfl
      exact absurd hc (by decide)
  · obtain ⟨t, ht, hb⟩ := hvWake_wakes p (ac := false) hst hloop hheld hmv
    exact ⟨t, ht, hb.st, hb.boot, hb.wake, hb.wport, by rw [hb.cold, beq_iff_eq]⟩
  · obtain ⟨t, ht, hb⟩ := hvWake_wakes p (ac := true) hst hloop hheld hmv
    exact ⟨t, ht, hb.st, hb.boot, hb.wake, hb.wport⟩
  · have hw := wakeUp_booting (s := { s with dom := { s.dom with wakeLoop := true } }) .loop 0 hst hloop
    exact ⟨_, if_pos ⟨ha, hb⟩, hw.st, hw.boot, hw.wake⟩
  · have hw := wakeUp_booting .alarm 0 (.inr hst) hloop
    exact ⟨_, if_pos ⟨hst, ha0, ha⟩, hw.st, hw.boot, hw.wake, by rw [hw.cold, hst]; rfl⟩
  · obtain ⟨t, ht, hb, hl, hh⟩ := resetLoopOpened_boots hohm hloop hst
    exact ⟨t, ht, hb.st, hb.boot, hb.wake, hl, hh⟩

/-! ### Battery ports: names and fields -/

@[simp] theorem batPort_src (p : BPort) : p.port.src? = none := dif_neg (by simp [BPort.port])
@[simp] theorem batPort_bat (p : BPort) : p.port.bat? = some p := by
  unfold Port.bat?
  rw [dif_pos (by simp only [BPort.port]; omega)]
  simp [BPort.port]

/-- The place and the offset within it that an offset in an array of registers names. -/
theorem slot?_at {base stride n k : Nat} (i : Fin n) (hk : k < stride) : slot? base stride n (base + stride * i.val + k) = some (i, k) := by
  have hdiv : (base + stride * i.val + k - base) / stride = i.val := by
    rw [Nat.add_assoc, Nat.add_sub_cancel_left, Nat.mul_add_div (by omega), Nat.div_eq_of_lt hk, Nat.add_zero]
  have hmod : (base + stride * i.val + k - base) % stride = k := by
    rw [Nat.add_assoc, Nat.add_sub_cancel_left, Nat.mul_add_mod, Nat.mod_eq_of_lt hk]
  unfold slot?
  rw [dif_pos ⟨by omega, by omega⟩]
  simp only [hdiv, hmod]

theorem setBat_get (s : State) (p : BPort) (x : BatRec) : (s.setBat p x).bat[p] = x := vset_same ..

@[simp] theorem settle_bat (s : State) : s.settle.bat = s.bat := but_bat (fs := [.groups, .ctx, .chg]) (by simp) (by decide)
@[simp] theorem iterationEnds_bat (s : State) : s.iterationEnds.bat = s.bat := rfl
@[simp] theorem stopGroup_bat (s : State) (g : Group) : (s.stopGroup g).bat = s.bat :=
  but_bat (fs := [.fab, .groups, .cells]) (by simp) (by decide)

theorem batInRange_iff (mv : Int) : batInRange mv = true ↔ 20000 ≤ mv ∧ mv ≤ 72000 := by simp [batInRange]

/-! ### Presence and qualification (R68, R221) -/

section
variable {s : State} {p : BPort}

/-- An Absent terminal in range, at a port that no line holds, qualifies. -/
theorem batTerminalInRange_qualifies {mv : Int} (hp : s.presenceRuns p = true) (hfree : s.portFree p.port = true)
    (hst : s.bat[p].st = .absent) (hlo : 20000 ≤ mv) (hhi : mv ≤ 72000) :
    ∃ t, exec (.batTerminalInRange p mv) s = .next t ∧ t.bat[p].st = .qualifying ∧ t.bat[p].since = s.now :=
  ⟨_, (if_pos ⟨hp, hst⟩).trans ((if_neg (by omega)).trans (if_pos ⟨(batInRange_iff mv).mpr ⟨hlo, hhi⟩, hfree⟩)), by
    rw [setBat_get]
    exact ⟨rfl, rfl⟩⟩

/-- A reversed Absent terminal is BAT source 0 (R68). -/
theorem batTerminalInRange_reversed {mv : Int} (hp : s.presenceRuns p = true) (hst : s.bat[p].st = .absent) (hmv : mv < -5000) :
    ∃ u : State, exec (.batTerminalInRange p mv) s = .next (u.occur bBAT 0 p.val true) ∧ u.bat[p].reversed = true ∧
      u.bat[p].st = .absent :=
  ⟨_, (if_pos ⟨hp, hst⟩).trans (if_pos hmv), by
    rw [setBat_get]
    exact ⟨rfl, hst⟩⟩

/-- A terminal that leaves its range while it qualifies: Absent, BAT source 1, and the retries that waited for the port are lasting. -/
theorem batQualifyTimeEnd_outOfRange {mv : Int} (var : Nat) (hp : s.presenceRuns p = true) (hst : s.bat[p].st = .qualifying)
    (hmv : mv < 20000 ∨ 72000 < mv) :
    ∃ u : State, exec (.batQualifyTimeEnd p mv var) s =
      .next ((((u.occur bBAT 1 p.val).retryOutcome bBAT 7 p.val false).retryOutcome bCHG 6 p.val false).retryOutcome bCULM 2
        p.port.val false) ∧ u.bat[p].st = .absent ∧ u.bat[p].cause = 2 ∧ u.bat[p].qfails = min 65535 (s.bat[p].qfails + 1) := by
  have hr : batInRange mv = false := Bool.eq_false_iff.mpr fun h => by have := (batInRange_iff mv).mp h; omega
  refine ⟨_, (if_pos ⟨hp, hst⟩).trans (if_pos hr), ?_⟩
  rw [setBat_get]
  exact ⟨rfl, rfl, rfl⟩

/-- The end of the qualification time on a steady terminal: precharge begins, where the stage is drained (R134, R222). -/
theorem batQualifyTimeEnd_precharges {mv : Int} {var : Nat} (hp : s.presenceRuns p = true) (hst : s.bat[p].st = .qualifying)
    (hlo : 20000 ≤ mv) (hhi : mv ≤ 72000) (hvar : var ≤ 20) (hpre : s.bat[p].pre = none) (hretry : s.bat[p].preRetry = none)
    (ht : s.bat[p].since + s.batTq p ≤ s.now) (hbar : s.stageBars p.port = false) :
    ∃ t, exec (.batQualifyTimeEnd p mv var) s = .next t ∧ t.bat[p].pre = some s.now ∧ t.bat[p].st = .qualifying := by
  have hr : ¬batInRange mv = false := by simp [(batInRange_iff mv).mpr ⟨hlo, hhi⟩]
  refine ⟨s.setBat p { s.bat[p] with pre := some s.now, vterm := mv },
    (if_pos ⟨hp, hst⟩).trans ((if_neg hr).trans ((if_neg (by omega)).trans ?_)), ?_⟩
  · simp only [hpre, hretry]
    exact if_pos ⟨ht, hbar⟩
  · rw [setBat_get]
    exact ⟨rfl, hst⟩

/-! ### Precharge (R221, R222) -/

/-- A stage within 1 V of the terminal: the switch closes and the port is Present. -/
theorem batPrechargeDone_present {a b : Int} (hfree : s.portFree p.port = true) (hst : s.bat[p].st = .qualifying)
    (hpre : s.bat[p].pre.isSome = true) (hab : (a - b).natAbs ≤ 1000) :
    ∃ t, exec (.batPrechargeDone p a b) s = .next t ∧ t.bat[p].st = .present ∧ t.bat[p].sw = true := by
  refine ⟨_, if_pos ⟨hst, hpre, hab, hfree⟩, ?_⟩
  have hbat (u : State) : (((((u.retryOutcome bBAT 4 p.val true).retryOutcome bBAT 7 p.val true).retryOutcome bCHG 6 p.val
      true).retryOutcome bCULM 2 p.port.val true).startMembers p.group |>.restoreHistory p b.toNat).settle.bat = u.bat :=
    but_bat (fs := [.deferred, .flt, .x3, .xing, .log, .rw, .ret, .cells, .groups, .ctx, .chg, .est]) (by simp [retryOutcome_ok])
      (by decide)
  rw [hbat, setBat_get]
  exact ⟨rfl, rfl⟩

/-- A precharge that fails the first time repeats, where its source retries: BAT source 4. -/
theorem batPrechargeFailed_repeats {a b : Int} {t₀ : Nat} (hst : s.bat[p].st = .qualifying) (hpre : s.bat[p].pre = some t₀)
    (ht : t₀ + 50000 ≤ s.now) (hab : 1000 < (a - b).natAbs) (hfirst : s.bat[p].preFailed = false)
    (hretry : s.willRetry bBAT 4 p.val = true) :
    ∃ u : State, exec (.batPrechargeFailed p a b) s = .next (u.occur bBAT 4 p.val) ∧ u.bat[p].preRetry = some s.now ∧
      u.bat[p].st = .qualifying := by
  refine ⟨s.setBat p { s.bat[p] with pre := none, preRetry := some s.now, preFailed := true, vstage := a, vterm := b }, ?_, ?_⟩
  · simp only [exec, execBatPrechargeFailed, hpre]
    rw [if_pos ⟨hst, ht, hab⟩, if_pos ⟨hfirst, hretry⟩]
  · rw [setBat_get]
    exact ⟨rfl, hst⟩

/-- A precharge that fails again, or without a retry, locks the port. -/
theorem batPrechargeFailed_locks {a b : Int} {t₀ : Nat} (hst : s.bat[p].st = .qualifying) (hpre : s.bat[p].pre = some t₀)
    (ht : t₀ + 50000 ≤ s.now) (hab : 1000 < (a - b).natAbs)
    (hlast : s.bat[p].preFailed = true ∨ s.willRetry bBAT 4 p.val = false) :
    ∃ u : State, exec (.batPrechargeFailed p a b) s = .next (u.occur bBAT 4 p.val) ∧ u.bat[p].st = .locked ∧ u.bat[p].cause = 4 := by
  refine ⟨s.setBat p { s.bat[p].opened s.now with st := .locked, cause := 4, since := s.now, vstage := a, vterm := b }, ?_, ?_⟩
  · have hno : ¬(s.bat[p].preFailed = false ∧ s.willRetry bBAT 4 p.val = true) := fun ⟨hf, hr⟩ =>
      hlast.elim (fun h => Bool.false_ne_true (hf.symm.trans h)) fun h => Bool.false_ne_true (h.symm.trans hr)
    simp only [exec, execBatPrechargeFailed, hpre]
    rw [if_pos ⟨hst, ht, hab⟩, if_neg hno]
  · rw [setBat_get]
    exact ⟨rfl, rfl⟩

/-! ### BAT_PCTL (R226) -/

/-- A carried write of BAT_PCTL acts on the port. -/
theorem writeCarried_batPctl (s : State) (p : BPort) (v : Word) : s.writeCarried (batPctlAt p) v = s.writeBatPctl p v := by
  have hblk : batPctlAt p / 0x10000 = 0x09 := by unfold batPctlAt; omega
  have hoff : batPctlAt p % 0x10000 = 0x100 + 0x40 * p.val + 0x04 := by unfold batPctlAt; omega
  have hslot : slot? 0x100 0x40 3 (0x100 + 0x40 * p.val + 0x04) = some (p, 0x04) := slot?_at p (by decide)
  unfold State.writeCarried
  rw [dif_neg (by rw [hoff]; omega), hblk, hoff]
  unfold State.writeEndpoint State.writePort
  simp only [hslot]

/-- A write of BAT_PCTL is carried, and acts at the next iteration. -/
theorem batPctl_next (r : Req) (v : Word) (hs : s.serves (batPctlAt p)) (hd : s.deferred = []) :
    ∃ t, s.viaService r (batPctlAt p) (fun s => s.carry (batPctlAt p) v) = t ∧
      t.iterate = (s.writeBatPctl p v).settle.iterationEnds := by
  refine ⟨s.carry (batPctlAt p) v, viaService_serves s r _ _ hs, ?_⟩
  rw [carry_iterate s _ v hd, writeCarried_batPctl]

theorem writeBatPctl_isolate (s : State) (p : BPort) : s.writeBatPctl p 1 = s.isolate p := rfl
theorem writeBatPctl_connect (s : State) (p : BPort) : s.writeBatPctl p 2 = s.connect p := rfl
theorem writeBatPctl_rearm (s : State) (p : BPort) : s.writeBatPctl p 4 = s.rearmBat p := rfl

/-- The connect command on an Isolated port starts its qualification. -/
theorem batConnect_qualifies (r : Req) (hs : s.serves (batPctlAt p)) (hd : s.deferred = []) (hfree : s.portFree p.port = true)
    (hst : s.bat[p].st = .isolated) :
    ∃ t, exec (.batConnect r p) s = .next t ∧ t.iterate.bat[p].st = .qualifying ∧ t.iterate.bat[p].since = s.now := by
  obtain ⟨t, ht, hi⟩ := batPctl_next r 2 hs hd
  have hc : s.connect p = s.setBat p (s.bat[p].qualify s.now) := if_pos ⟨hst, hfree⟩
  refine ⟨t, congrArg Host.Outcome.next ht, ?_⟩
  rw [hi, writeBatPctl_connect, iterationEnds_bat, settle_bat, hc, setBat_get]
  exact ⟨rfl, rfl⟩

/-- The rearm command on a Locked port makes it Absent, once the FST bit of source 4 is clear. -/
theorem batRearm_absent (r : Req) (hs : s.serves (batPctlAt p)) (hd : s.deferred = []) (hfree : s.portFree p.port = true)
    (hst : s.bat[p].st = .locked) (hfst : s.flt[bBAT].fst.getLsbD 4 = false) :
    ∃ t, exec (.batRearm r p) s = .next t ∧ t.iterate.bat[p].st = .absent := by
  obtain ⟨t, ht, hi⟩ := batPctl_next r 4 hs hd
  have hc : s.rearmBat p = s.setBat p { s.bat[p] with st := .absent, since := s.now } := if_pos ⟨hst, hfst, hfree⟩
  refine ⟨t, congrArg Host.Outcome.next ht, ?_⟩
  rw [hi, writeBatPctl_rearm, iterationEnds_bat, settle_bat, hc, setBat_get]

/-! ### The flows of an isolating port (R226) -/

/-- A battery port that ramps down to Isolated, with no flow Live on it. -/
structure State.RampedOut (s : State) (p : BPort) : Prop where
  isolating : s.bat[p].isolating = true
  noLive : ∀ c : Ctx, s.ctx[c].d.port = some p.port → s.ctx[c].st ≠ .live

/-- A flow of a battery port that ramps down has no endpoint that is ready: the port isolates, it is no source port, and no Feeder flow
is Live on it. -/
theorem endpointReady_rampedOut (h : s.RampedOut p) {d : FlowDef} (hd : d.port = some p.port) : s.endpointReady d = false := by
  have hiso : s.bat[p.val].isolating = true := h.isolating
  have hfeed : (allCtx.any fun c => s.ctx[c].st == .live && s.ctx[c].d.kind == 4 && s.ctx[c].d.port == some p.port) = false := by
    rw [List.any_eq_false]
    intro c _ hc
    simp only [Bool.and_eq_true, beq_iff_eq] at hc
    exact h.noLive c hc.2 hc.1.1
  unfold State.endpointReady
  rw [hd]
  split
  case h_5 q _ hq => exact Option.some.inj hq ▸ hfeed
  case h_7 => rfl
  all_goals
    rename_i q _ hq
    obtain rfl : p.port = q := Option.some.inj hq
    simp [hiso]

/-- A flow of a port that ramps down has cause bit 1: its endpoint is not ready (R204). -/
theorem hwCauses_rampedOut (h : s.RampedOut p) {f : FlowCtx} (hd : f.d.port = some p.port) : (s.hwCauses f).getLsbD 1 = true := by
  have hst : s.staysLive f = false := by simp [State.staysLive, hd]
  unfold State.hwCauses
  simp [endpointReady_rampedOut h hd, hst]

/-- The hardware events of the moment do not turn a flow of such a port Live: it stays in its state, or is Suspended. -/
theorem settleFlow_rampedOut (h : s.RampedOut p) {f : FlowCtx} (hd : f.d.port = some p.port) (hl : f.st ≠ .live) :
    (s.settleFlow f).st = f.st ∨ (s.settleFlow f).st = .suspended := by
  have hb := hwCauses_rampedOut h hd
  have hne : (f.scause &&& 1) ||| s.hwCauses f ≠ 0 := fun e => by
    rw [(BitVec.or_eq_zero_iff.mp e).2] at hb
    exact absurd hb (by decide)
  unfold State.settleFlow
  extract_lets hw
  split
  case h_1 =>
    split
    · exact .inr rfl
    · exact .inl rfl
  case h_2 hst => exact absurd hst hl
  case h_3 =>
    rw [if_neg hne]
    exact .inl rfl
  case h_4 => split <;> exact .inl rfl
  all_goals exact .inl rfl

/-- A state that is not Live, kept or turned to Suspended, is not Live. -/
theorem ne_live_of_kept {x y : FlowSt} (h : x = y ∨ x = .suspended) (hy : y ≠ .live) : x ≠ .live := by
  rcases h with rfl | rfl
  · exact hy
  · decide

theorem rampedOut_congr {t : State} (h : s.RampedOut p) (hbat : t.bat = s.bat) (hctx : t.ctx = s.ctx) : t.RampedOut p := by
  refine ⟨hbat ▸ h.isolating, fun c hc => ?_⟩
  rw [hctx] at hc ⊢
  exact h.noLive c hc

theorem grouped_bat (s : State) : s.grouped.bat = s.bat := by
  have h : s.grouped.but [.groups] = s.but [.groups] := by
    unfold State.grouped
    simp
  exact but_bat h (by decide)

theorem settleFlows_rampedOut (h : s.RampedOut p) : s.settleFlows.RampedOut p := by
  refine ⟨h.isolating, fun c hc => ?_⟩
  have hf : s.settleFlows.ctx[c] = s.settleFlow s.ctx[c] := by simp [State.settleFlows]
  rw [hf, settleFlow_d] at hc
  rw [hf]
  exact ne_live_of_kept (settleFlow_rampedOut h hc (h.noLive c hc)) (h.noLive c hc)

/-- A flow of a port that ramps down stays in its state at the hardware events of the moment, or is Suspended. -/
theorem settle_ctx_rampedOut (h : s.RampedOut p) {c : Ctx} (hd : s.ctx[c].d.port = some p.port) :
    s.settle.ctx[c].st = s.ctx[c].st ∨ s.settle.ctx[c].st = .suspended := by
  have hg : s.grouped.RampedOut p := rampedOut_congr h (grouped_bat s) (grouped_ctx s)
  have h1 := settleFlow_rampedOut hg hd (h.noLive c hd)
  have h2 := settleFlow_rampedOut (settleFlows_rampedOut hg) (f := s.grouped.settleFlow s.ctx[c]) (by rwa [settleFlow_d])
    (ne_live_of_kept h1 (h.noLive c hd))
  rw [settle_ctx]
  rcases h2 with h2 | h2
  · exact h1.imp h2.trans h2.trans
  · exact .inr h2

theorem settle_rampedOut (h : s.RampedOut p) : s.settle.RampedOut p := by
  refine ⟨(settle_bat s).symm ▸ h.isolating, fun c hc => ?_⟩
  rw [settle_ctx_d] at hc
  exact ne_live_of_kept (settle_ctx_rampedOut h hc) (h.noLive c hc)

/-! ### The isolate command (R226) -/

/-- The ramp of one flow leaves every definition, and keeps the state of a flow or suspends it. -/
theorem rampOut_ctx (s : State) (p : BPort) (k c : Ctx) : (s.rampOut p k).ctx[c].d = s.ctx[c].d ∧
    ((s.rampOut p k).ctx[c].st = s.ctx[c].st ∨ (s.rampOut p k).ctx[c].st = .suspended) := by
  unfold State.rampOut
  extract_lets f
  split
  · simp only [setCtx_ctx, Fin.getElem_fin, vset_get]
    split
    case isTrue hk => exact ⟨hk ▸ rfl, .inr rfl⟩
    case isFalse => exact ⟨rfl, .inl rfl⟩
  · exact ⟨rfl, .inl rfl⟩

/-- The ramp of a flow ends its time Live, where it is the port's. -/
theorem rampOut_own (s : State) (p : BPort) (c : Ctx) (hd : (s.rampOut p c).ctx[c].d.port = some p.port) :
    (s.rampOut p c).ctx[c].st ≠ .live := by
  rw [(rampOut_ctx s p c c).1] at hd
  unfold State.rampOut
  extract_lets f
  split
  case isTrue =>
    simp only [setCtx_ctx, Fin.getElem_fin, vset_same]
    exact (by decide : FlowSt.suspended ≠ .live)
  case isFalse hn => exact fun hl => hn ⟨hl, hd⟩

/-- The ramp of every flow of an isolating port leaves none Live on it. -/
theorem rampOuts_rampedOut (h : s.bat[p].isolating = true) : (forEach allCtx (State.rampOut p) s).RampedOut p := by
  have hbat : (forEach allCtx (State.rampOut p) s).bat = s.bat := but_bat (fs := [.ctx]) (by simp) (by decide)
  refine ⟨(congrArg (fun b => b[p].isolating) hbat).trans h, fun c => ?_⟩
  refine foldl_reaches (fun t : State => t.ctx[c].d.port = some p.port → t.ctx[c].st ≠ .live) (fun _ => True) (State.rampOut p)
    (fun _ _ _ => trivial) (fun t k ht hd => ?_) (fun t _ => rampOut_own t p c) (List.mem_finRange c) trivial
  obtain ⟨hdef, hst⟩ := rampOut_ctx t p k c
  rw [hdef] at hd
  exact ne_live_of_kept hst (ht hd)

/-- A Live flow of the port is Suspended behind the ramp of every flow. -/
theorem rampOuts_suspends (h : s.bat[p].isolating = true) {c : Ctx} (hl : s.ctx[c].st = .live) (hd : s.ctx[c].d.port = some p.port) :
    (forEach allCtx (State.rampOut p) s).ctx[c].d.port = some p.port ∧
      (forEach allCtx (State.rampOut p) s).ctx[c].st = .suspended := by
  obtain ⟨hport, hst⟩ := forEach_keeps
    (fun t : State => t.ctx[c].d.port = some p.port ∧ (t.ctx[c].st = .live ∨ t.ctx[c].st = .suspended)) (State.rampOut p)
    (fun t k ⟨hp, ht⟩ => by
      obtain ⟨hdef, hk⟩ := rampOut_ctx t p k c
      exact ⟨hdef ▸ hp, hk.elim (fun hk => hk ▸ ht) .inr⟩) allCtx (s := s) ⟨hd, .inl hl⟩
  exact ⟨hport, hst.resolve_left ((rampOuts_rampedOut h).noLive c hport)⟩

/-- A Suspended flow of a port that ramps down stays Suspended. -/
theorem settle_ctx_suspended (h : s.RampedOut p) {c : Ctx} (hd : s.ctx[c].d.port = some p.port) (hst : s.ctx[c].st = .suspended) :
    s.settle.ctx[c].st = .suspended := (settle_ctx_rampedOut h hd).elim (·.trans hst) id

/-- The isolate command on a Present port: it ramps down, and its Live flows are Suspended from the next iteration. -/
theorem batIsolate_ramps (r : Req) (hs : s.serves (batPctlAt p)) (hd : s.deferred = []) (hfree : s.portFree p.port = true)
    (hst : s.bat[p].st = .present) :
    ∃ t, exec (.batIsolate r p) s = .next t ∧ t.iterate.bat[p].isolating = true ∧
      ∀ c : Ctx, s.ctx[c].st = .live → s.ctx[c].d.port = some p.port → t.iterate.ctx[c].st = .suspended := by
  obtain ⟨t, ht, hi⟩ := batPctl_next r 1 hs hd
  obtain ⟨u, hu⟩ : ∃ u, u = s.setBat p { s.bat[p] with isolating := true, since := s.now } := ⟨_, rfl⟩
  have hiso : u.bat[p].isolating = true := by rw [hu, setBat_get]
  have hctx : u.ctx = s.ctx := hu ▸ rfl
  have hc : s.isolate p = (forEach allCtx (State.rampOut p) u).settle := hu ▸ if_pos ⟨hst, hfree⟩
  have hout := rampOuts_rampedOut hiso
  refine ⟨t, congrArg Host.Outcome.next ht, ?_⟩
  rw [hi, writeBatPctl_isolate, hc, iterationEnds_bat, iterationEnds_ctx]
  refine ⟨(settle_rampedOut (settle_rampedOut hout)).isolating, fun c hl hp => ?_⟩
  obtain ⟨hport, hsusp⟩ := rampOuts_suspends hiso (c := c) (hctx ▸ hl) (hctx ▸ hp)
  exact settle_ctx_suspended (settle_rampedOut hout) (by rw [settle_ctx_d]; exact hport) (settle_ctx_suspended hout hport hsusp)

/-- The current of an isolating port is small, or its time is over: the switch opens and the port is Isolated. -/
theorem batIsolateSwitchOpen_isolated {cur : Int} {us : Nat} (hst : s.bat[p].st = .present) (hiso : s.bat[p].isolating = true)
    (hcur : cur.natAbs < 50 ∧ 1000 ≤ us ∨ s.bat[p].since + 15000 ≤ s.now) :
    ∃ t, exec (.batIsolateSwitchOpen p cur us) s = .next t ∧ t.bat[p].st = .isolated ∧ t.bat[p].sw = false ∧ t.bat[p].cur = 0 := by
  refine ⟨_, if_pos ⟨hst, hiso, hcur⟩, ?_⟩
  rw [settle_bat, stopGroup_bat, setBat_get]
  exact ⟨rfl, rfl, rfl⟩

end

/-- Settles O34: each event and each command of a battery port, by its own lemma above. -/
theorem batteryConnection : Obligations.BatteryConnection := fun _ _ hp hfree =>
  ⟨fun _ hst => ⟨batTerminalInRange_qualifies hp hfree hst, batTerminalInRange_reversed hp hst⟩,
    fun _ var hst => ⟨batQualifyTimeEnd_outOfRange var hp hst, batQualifyTimeEnd_precharges hp hst⟩,
    fun _ _ => batPrechargeDone_present hfree,
    fun _ _ _ hst hpre ht hab => ⟨batPrechargeFailed_repeats hst hpre ht hab, batPrechargeFailed_locks hst hpre ht hab⟩,
    fun r hs hd => ⟨batIsolate_ramps r hs hd hfree, batConnect_qualifies r hs hd hfree, batRearm_absent r hs hd hfree⟩,
    fun _ _ => batIsolateSwitchOpen_isolated⟩

/-! ### What an occurrence leaves, beside the lines of its reaction -/

/-- The fields that an occurrence may change without asserting a line. -/
def Fld.besideLines : List Fld := [.deferred, .flt, .x3, .xing, .log, .ret, .fab, .groups, .cells, .branches, .src, .ctx, .chg, .est]

/-- A reaction asserts its lines, or asserts none. -/
theorem react_cases (s : State) (b : Blk) (src : Src) (obj : Nat) :
    ChangesOnly Fld.besideLines s (s.react b src obj) ∨ s.react b src obj = s.reactLines b src obj := by
  unfold State.react ChangesOnly
  split
  · exact .inl rfl
  · split
    · exact .inl (by simp [Fld.besideLines])
    · extract_lets x
      split <;> exact .inl (by simp [Fld.besideLines])
    · exact .inr rfl

/-- An occurrence is recorded, and then reacts or does not. -/
theorem occur_cases (s : State) (b : Blk) (src : Src) (obj : Nat) (stays : Bool) : ∃ u, ChangesOnly Fld.besideLines s u ∧
    (s.occur b src obj stays = u ∨ s.occur b src obj stays = u.react b src obj) := by
  unfold State.occur
  split
  · exact ⟨s, rfl, .inl rfl⟩
  split
  · exact ⟨s, rfl, .inl rfl⟩
  extract_lets t
  split
  · exact ⟨t, by simp [ChangesOnly, Fld.besideLines, t], .inl rfl⟩
  · unfold State.occurred
    extract_lets v x running inWindow
    split
    · split
      · exact ⟨_, by simp [ChangesOnly, Fld.besideLines, t, v], .inr rfl⟩
      · split
        · exact ⟨_, by simp [ChangesOnly, Fld.besideLines, t, v], .inr rfl⟩
        · exact ⟨_, by simp [ChangesOnly, Fld.besideLines, t, v], .inl rfl⟩
    · exact ⟨_, by simp [ChangesOnly, Fld.besideLines, t, v], .inr rfl⟩

/-- A property of the state that survives the assertion of a line, and rests on nothing else that an occurrence changes. -/
structure State.LineSteady (P : State → Prop) : Prop where
  but : ∀ {s t : State}, ChangesOnly Fld.besideLines s t → P s → P t
  halt : ∀ {s : State} (p : Port) (d : Driver), P s → P (s.assertHalt p d)
  safe : ∀ {s : State} (d : Driver), P s → P (s.assertSafe d)

section
variable {P : State → Prop} (hP : State.LineSteady P) {s : State}
include hP

theorem react_lineSteady (b : Blk) (src : Src) (obj : Nat) (h : P s) : P (s.react b src obj) := by
  rcases react_cases s b src obj with hb | he
  · exact hP.but hb h
  · rw [he]
    unfold State.reactLines
    split
    · exact foldl_keeps P _ (fun _ p ht => hP.halt p _ ht) _ h
    · exact hP.safe _ h
    · exact h

theorem occur_lineSteady (b : Blk) (src : Src) (obj : Nat) (stays : Bool) (h : P s) : P (s.occur b src obj stays) := by
  obtain ⟨u, hu, he | he⟩ := occur_cases s b src obj stays
  · exact he ▸ hP.but hu h
  · exact he ▸ react_lineSteady hP b src obj (hP.but hu h)

theorem retryOutcome_lineSteady (b : Blk) (src : Src) (obj : Nat) (ok : Bool) (h : P s) : P (s.retryOutcome b src obj ok) := by
  unfold State.retryOutcome
  split
  · extract_lets t
    split
    · exact hP.but (by simp [ChangesOnly, Fld.besideLines, t]) h
    · exact react_lineSteady hP b src obj (hP.but (by simp [ChangesOnly, Fld.besideLines, t]) h)
  · exact h

theorem recopy_lineSteady (p : BPort) (h : P s) : P (s.recopy p).1 := by
  unfold State.recopy
  split
  · exact h
  · extract_lets f t
    have ht : P t := hP.but (by simp [ChangesOnly, Fld.besideLines, t]) h
    split
    · exact ht
    · exact retryOutcome_lineSteady hP _ _ _ _ (occur_lineSteady hP _ _ _ _ ht)

/-- A phase transition may report a profile that has become invalid, and changes nothing else but the engine and the estimator. -/
theorem transit_lineSteady (p : BPort) (f : Profile → Nat) (cause : Nat) (frest : Bool) (h : P s) : P (s.transit p f cause frest) := by
  have hr := recopy_lineSteady hP p h
  unfold State.transit
  split <;> rename_i heq <;> rw [heq] at hr
  · exact hP.but (by simp [ChangesOnly, Fld.besideLines]) hr
  · exact hP.but (by simp [ChangesOnly, Fld.besideLines]) hr
  · exact hr

theorem tempLost_lineSteady (p : BPort) (h : P s) : P (s.tempLost p) := by
  unfold State.tempLost
  split
  · exact h
  · split
    · extract_lets t
      have ht : P t := by
        unfold t
        split
        · exact transit_lineSteady hP p _ 5 false h
        · exact h
      exact occur_lineSteady hP _ _ _ _ ht
    · exact h

theorem kneeAnswer_lineSteady (p : BPort) (a : Knee) (h : P s) : P (s.kneeAnswer p a) := by
  have ht : P (s.endKnee p) := hP.but (by simp [ChangesOnly, Fld.besideLines]) h
  unfold State.kneeAnswer
  dsimp only
  split
  · exact h
  · split
    · exact hP.but (by simp [ChangesOnly, Fld.besideLines]) ht
    · split
      · exact transit_lineSteady hP p _ _ false ht
      · split
        · exact hP.but (by simp [ChangesOnly, Fld.besideLines]) ht
        · exact occur_lineSteady hP _ _ _ _ (transit_lineSteady hP p _ 7 false ht)

theorem estRemoved_lineSteady (p : BPort) (h : P s) : P (s.estRemoved p) := by
  have ht (x : EstRec) : P (s.setEst p x) := hP.but (by simp [ChangesOnly, Fld.besideLines]) h
  unfold State.estRemoved State.kneeUnavailable
  split
  · exact occur_lineSteady hP _ _ _ _ (kneeAnswer_lineSteady hP p _ (ht _))
  · exact ht _

end

/-! ### What a line makes of a battery port -/

/-- A property of a battery port's record that a halt keeps. -/
structure BatRec.HaltSteady (Q : BatRec → Prop) : Prop where
  halted : ∀ (x : BatRec) (now cause : Nat), Q x → Q (x.haltedBy now cause)
  reacted : ∀ (x : BatRec) (r : Bool), Q x → Q { x with reacted := r }

theorem setBat_keeps {Q : BatRec → Prop} {s : State} {p k : BPort} {x : BatRec} (hx : Q s.bat[k] → Q x) (h : Q s.bat[p]) :
    Q (s.setBat k x).bat[p] := by
  by_cases hk : k = p
  · subst hk
    rw [setBat_get]
    exact hx h
  · exact (vset_other s.bat k p x hk).symm ▸ h

theorem bat_of_eq {Q : BatRec → Prop} {s t : State} {p : BPort} (e : t.bat = s.bat) (h : Q s.bat[p]) : Q t.bat[p] :=
  (congrArg (fun v => Q v[p]) e).mpr h

/-- The parts of a halt that leave the battery ports as they are: the group and the source, the branches, and the hold of a source. -/
theorem haltSource_bat (s : State) (q : Port) : ((s.haltGroup q).haltSource q).bat = s.bat :=
  but_bat (fs := [.fab, .groups, .cells, .src, .fdr]) (by simp) (by decide)
theorem haltBranches_bat (s : State) (q : Port) : (s.haltBranches q).bat = s.bat := but_bat (fs := [.branches]) (by simp) (by decide)
theorem holdSource_bat (s : State) (q : Port) : (s.holdSource q).bat = s.bat := but_bat (fs := [.src, .fdr]) (by simp) (by decide)

section
variable {Q : BatRec → Prop} (hQ : BatRec.HaltSteady Q) {s : State} {p : BPort}
include hQ

theorem haltBattery_keeps (q : Port) (h : Q s.bat[p]) : Q (s.haltBattery q).bat[p] := by
  unfold State.haltBattery
  split
  · split
    case h_4 => exact h
    all_goals exact setBat_keeps (hQ.halted _ _ _) h
  · exact h

theorem holdBattery_keeps (q : Port) (h : Q s.bat[p]) : Q (s.holdBattery q).bat[p] := by
  unfold State.holdBattery
  split
  · exact setBat_keeps (hQ.reacted _ _) h
  · exact h

theorem assertHalt_keeps (q : Port) (d : Driver) (h : Q s.bat[p]) : Q (s.assertHalt q d).bat[p] := by
  unfold State.assertHalt
  extract_lets t
  have ht : Q t.bat[p] := bat_of_eq (haltBranches_bat _ q) (haltBattery_keeps hQ q (bat_of_eq (haltSource_bat _ q) h))
  refine bat_of_eq (settle_bat _) ?_
  split
  · exact holdBattery_keeps hQ q (bat_of_eq (holdSource_bat t q) ht)
  · exact ht

theorem safePorts_keeps (h : Q s.bat[p]) : Q s.safePorts.bat[p] := by
  unfold State.safePorts
  extract_lets t
  have ht : t.bat = s.bat := but_bat (fs := [.src, .fdr]) (by simp [t]) (by decide)
  refine forEach_keeps (fun u : State => Q u.bat[p]) _ (fun u k hu => ?_) _ (bat_of_eq ht h)
  split
  · exact hu
  · exact setBat_keeps (hQ.halted _ _ _) hu

theorem assertSafe_keeps (d : Driver) (h : Q s.bat[p]) : Q (s.assertSafe d).bat[p] := by
  have hbefore (u : State) : (u.unsettle u.culm.vmeas).stopAll.safeLoads.bat = u.bat :=
    but_bat (fs := [.awn, .deferred, .fab, .groups, .cells, .branches, .culm]) (by simp) (by decide)
  have hafter (u : State) : u.safeActivation.enterStubble.settle.bat = u.bat :=
    but_bat (fs := [.img, .dom, .thr, .groups, .ctx, .chg]) (by simp) (by decide)
  unfold State.assertSafe
  extract_lets first t
  split
  · exact bat_of_eq (hafter _) (safePorts_keeps hQ (bat_of_eq (hbefore t) h))
  · exact h

/-- What a halt keeps of a battery port, every occurrence keeps. -/
theorem battery_lineSteady (p : BPort) : State.LineSteady (fun s => Q s.bat[p]) where
  but hb h := bat_of_eq (but_bat hb (by decide)) h
  halt q d h := assertHalt_keeps hQ q d h
  safe d h := assertSafe_keeps hQ d h

end

/-! ### The drivers of a halt line -/

/-- A halt line holds every driver that asserts it, and loses none. -/
theorem assertHalt_halt (s : State) (p : Port) (d : Driver) :
    (s.assertHalt p d).halt = vset s.halt p (if s.halt[p].contains d then s.halt[p] else s.halt[p] ++ [d]) := by
  have e (u : State) : (u.haltPort p).halt = u.halt :=
    but_halt (fs := [.fab, .groups, .cells, .branches, .src, .bat, .fdr]) (by simp) (by decide)
  have h (u : State) : (if d.reaction then u.holdPort p else u).settle.halt = u.halt :=
    but_halt (fs := [.src, .fdr, .bat, .groups, .ctx, .chg]) (by split <;> simp) (by decide)
  unfold State.assertHalt
  extract_lets t
  exact (h t).trans (e _)

theorem assertHalt_asserts (s : State) (p : Port) (d : Driver) : d ∈ (s.assertHalt p d).halt[p] := by
  rw [assertHalt_halt, Fin.getElem_fin, vset_same]
  split <;> simp_all

/-- A driver stays on a halt line. -/
theorem haltDriver_lineSteady (q : Port) (e : Driver) : State.LineSteady (fun s => e ∈ s.halt[q]) where
  but hb h := by rwa [but_halt hb (by decide)]
  halt p d h := by
    simp only [assertHalt_halt, Fin.getElem_fin, vset_get]
    split
    case isTrue hp =>
      subst hp
      split
      · exact h
      · exact List.mem_append_left _ h
    case isFalse => exact h
  safe {s} d h := by
    have e : (s.assertSafe d).halt = s.halt := but_halt (fs := [.deferred, .safeLine, .dom, .img, .fab, .groups, .cells, .culm,
      .branches, .src, .ctx, .bat, .fdr, .chg, .thr, .awn]) (by simp) (by decide)
    rwa [e]

section
variable {s : State} {p : BPort}

/-! ### Absence (R223-R225) -/

/-- The driver of a port's halt line that a source of its own protection asserts. -/
def batDriver (src : Src) (p : BPort) : Driver := ⟨bBAT, src, p.val, false⟩

/-- A battery port whose battery is gone: its switch open, its clamp armed, `n` removals counted. -/
structure BatRec.Removed (n : Nat) (x : BatRec) : Prop where
  st : x.st ≠ .present
  sw : x.sw = false
  clamp : x.clamp = true
  removals : x.removals = n

theorem removed_haltSteady (n : Nat) : BatRec.HaltSteady (BatRec.Removed n) where
  halted _ _ _ h := ⟨by simp [BatRec.haltedBy], rfl, h.clamp, h.removals⟩
  reacted _ _ h := ⟨h.st, h.sw, h.clamp, h.removals⟩

/-- What the detection of an absence leaves of a property that lines keep, where the record and the halt line meet it. -/
theorem absent_lineSteady {P : State → Prop} (hP : State.LineSteady P) (underCurrent : Bool) (e : Nat)
    (h : ∀ x : BatRec, x.Removed (sat 65535 (s.bat[p].removals + 1)) → P ((s.setBat p x).assertHalt p.port (batDriver 2 p))) :
    P (s.absent p underCurrent e) := by
  unfold State.absent
  extract_lets x y t u v w
  have hu : P u := h _ ⟨by simp, rfl, rfl, rfl⟩
  have hv : P v := by
    unfold v
    split
    · exact occur_lineSteady hP _ _ _ _ hu
    · exact hu
  have hw : P w := by
    unfold w
    split
    · exact occur_lineSteady hP _ _ _ _ hv
    · exact hv
  exact estRemoved_lineSteady hP p hw

/-- A detected absence: the switch opens, the clamp is armed, the removal is counted, and the halt line is driven (R223). -/
theorem absent_removed (s : State) (p : BPort) (underCurrent : Bool) (e : Nat) :
    (s.absent p underCurrent e).bat[p].Removed (sat 65535 (s.bat[p].removals + 1)) ∧
      batDriver 2 p ∈ (s.absent p underCurrent e).halt[p.port] := by
  have hQ := removed_haltSteady (sat 65535 (s.bat[p].removals + 1))
  refine ⟨absent_lineSteady (battery_lineSteady hQ p) underCurrent e fun x hx => ?_,
    absent_lineSteady (haltDriver_lineSteady p.port (batDriver 2 p)) underCurrent e fun x _ => assertHalt_asserts _ _ _⟩
  exact assertHalt_keeps hQ _ _ (by rw [setBat_get]; exact hx)

/-- The conditions of R223: the terminal above the target while charge current flows, or the current gone from a command. -/
theorem batAbsenceDetected_removes {v cur cmd : Int} {ns : Nat} (e : Nat) (hst : s.bat[p].st = .present)
    (h : (∃ c, s.chgFlow p = some c) ∧ cur < 0 ∧ (s.chg[p].vtgt : Int) + 500 < v ∨
      200 ≤ cmd.natAbs ∧ 2 * cur.natAbs < cmd.natAbs ∧ 1000 ≤ ns) :
    ∃ t, exec (.batAbsenceDetected p v cur cmd ns e) s = .next t ∧ t.bat[p].Removed (sat 65535 (s.bat[p].removals + 1)) ∧
      batDriver 2 p ∈ t.halt[p.port] := by
  have hsees : ((s.chgFlow p).isSome && decide (cur < 0) && decide ((s.chg[p].vtgt : Int) + 500 < v) ||
      decide (200 ≤ cmd.natAbs) && decide (2 * cur.natAbs < cmd.natAbs) && decide (1000 ≤ ns)) = true := by
    simp only [Bool.or_eq_true, Bool.and_eq_true, decide_eq_true_eq, Option.isSome_iff_exists, and_assoc]
    exact h
  refine ⟨_, if_pos ⟨hst, hsees⟩, ?_⟩
  have hr := absent_removed (s.setBat p { s.bat[p] with vterm := v }) p true e
  rwa [setBat_get] at hr

/-- Below 2 A, a fall of more than 1 V under the probe is absence (R224). -/
theorem batProbe_removes {fall : Nat} (hst : s.bat[p].st = .present) (hcur : s.bat[p].cur.natAbs < 200) (hfall : 1000 < fall) :
    ∃ t, exec (.batProbe p fall) s = .next t ∧ t.bat[p].Removed (sat 65535 (s.bat[p].removals + 1)) ∧
      batDriver 2 p ∈ t.halt[p.port] :=
  ⟨_, if_pos ⟨hst, hcur, hfall⟩, absent_removed ..⟩

/-! ### The release of a port's own drivers (R221, R223) -/

/-- A port without its own drivers that have ended, and without a clamp whose 10 ms are over. -/
def State.released (s : State) (p : BPort) : State :=
  let t := s.setHalt p.port (s.halt[p.port].filter fun d => !s.batOwnEnded p d)
  if s.bat[p].absentAt.any (fun a => decide (a + 10000 ≤ s.now)) = true then
    t.setBat p { s.bat[p] with absentAt := none, clamp := false }
  else t

theorem batHaltRelease_eq (s : State) (p : BPort) : exec (.batHaltRelease p) s =
    .next (if (s.released p).bat[p].st = .halted ∧ (s.released p).portFree p.port = true then
      (s.released p).setBat p { (s.released p).bat[p] with st := .absent, since := s.now } else s.released p) :=
  (apply_ite Host.Outcome.next _ _ _).symm

theorem released_halt (s : State) (p : BPort) :
    (s.released p).halt[p.port] = s.halt[p.port].filter fun d => !s.batOwnEnded p d := by
  have h : (s.released p).halt = vset s.halt p.port (s.halt[p.port].filter fun d => !s.batOwnEnded p d) := by
    unfold State.released
    split <;> rfl
  rw [h, Fin.getElem_fin, vset_same]

theorem released_safeLine (s : State) (p : BPort) : (s.released p).safeLine = s.safeLine := by
  unfold State.released
  split <;> rfl

theorem released_st (s : State) (p : BPort) : (s.released p).bat[p].st = s.bat[p].st := by
  unfold State.released
  split
  · rw [setBat_get]
  · rfl

/-- A Halted port whose own drivers have all ended is Absent, its halt line released. -/
theorem batHaltRelease_absent (hst : s.bat[p].st = .halted) (hsafe : s.safeLine = [])
    (hall : ∀ d ∈ s.halt[p.port], s.batOwnEnded p d = true) :
    ∃ t, exec (.batHaltRelease p) s = .next t ∧ t.halt[p.port] = [] ∧ t.bat[p].st = .absent := by
  have hline : (s.released p).halt[p.port] = [] := by
    rw [released_halt, List.filter_eq_nil_iff]
    intro d hd
    simp [hall d hd]
  have hfree : (s.released p).portFree p.port = true := by
    simp [State.portFree, released_safeLine, hsafe, hline]
  refine ⟨_, batHaltRelease_eq s p, ?_⟩
  rw [if_pos ⟨(released_st s p).trans hst, hfree⟩, setBat_get]
  exact ⟨hline, rfl⟩

/-- 10 ms after an absence the clamp is released, and its driver leaves the halt line. -/
theorem batHaltRelease_unclamps {a : Nat} (ha : s.bat[p].absentAt = some a) (ht : a + 10000 ≤ s.now) :
    ∃ t, exec (.batHaltRelease p) s = .next t ∧ t.bat[p].clamp = false ∧ batDriver 2 p ∉ t.halt[p.port] := by
  have hended : s.batOwnEnded p (batDriver 2 p) = true := by
    unfold State.batOwnEnded batDriver
    simp only [ha, ht]
    rfl
  have hline : batDriver 2 p ∉ (s.released p).halt[p.port] := by
    rw [released_halt]
    simp [hended]
  have hclamp : (s.released p).bat[p].clamp = false := by
    unfold State.released
    rw [if_pos (by simp only [ha, Option.any_some, ht, decide_true]), setBat_get]
  refine ⟨_, batHaltRelease_eq s p, ?_⟩
  split
  · rw [setBat_get]
    exact ⟨hclamp, hline⟩
  · exact ⟨hclamp, hline⟩

/-! ### The range (R221) -/

/-- A Present port out of 19-73 V for 10 ms: its switch opens and it is Absent, BAT source 1. -/
theorem batOutOfRange_absent {mv : Int} {ms : Nat} (hst : s.bat[p].st = .present) (hmv : mv < 19000 ∨ 73000 < mv) (hms : 10 ≤ ms) :
    ∃ u : State, exec (.batOutOfRange p mv ms) s = .next (u.occur bBAT 1 p.val).settle ∧ u.bat[p].st = .absent ∧
      u.bat[p].sw = false ∧ u.bat[p].cause = 2 := by
  refine ⟨_, if_pos ⟨hst, hmv, hms⟩, ?_⟩
  rw [stopGroup_bat, setBat_get]
  exact ⟨rfl, rfl, rfl⟩

/-! ### A retry that starts (R443, R444) -/

/-- Two fault records that agree in what decides a retry: which sources retry, and the retries and windows that run (R443, R444). -/
structure BlkFault.SameRetries (x y : BlkFault) : Prop where
  frty : y.frty = x.frty
  retries : y.retries = x.retries
  windows : y.windows = x.windows

theorem setFlt_get (s : State) (b : Blk) (x : BlkFault) : (s.setFlt b x).flt[b] = x := vset_same ..

theorem endWarn_retries (s : State) (b : Blk) : BlkFault.SameRetries s.flt[b] s.endWarn.flt[b] := by
  unfold State.endWarn
  split
  · exact ⟨rfl, rfl, rfl⟩
  · constructor <;> simp

theorem markLive_retries (s : State) (b : Blk) (src : Src) (obj : Nat) (stays : Bool) :
    BlkFault.SameRetries s.flt[b] (s.markLive b src obj stays).flt[b] := by
  obtain ⟨hf, hr, hw⟩ := endWarn_retries s b
  unfold State.markLive
  extract_lets t x
  rw [setFlt_get]
  exact ⟨hf, hr, hw⟩

theorem latch_retries (s : State) (b : Blk) (src : Src) : BlkFault.SameRetries s.flt[b] (s.latch b src).flt[b] := by
  unfold State.latch
  rw [setFlt_get]
  exact ⟨rfl, rfl, rfl⟩

/-- A retryable source without a retry or a window open starts a retry in place of its reaction. -/
theorem occurred_retries {s : State} {b : Blk} {src : Src} {obj : Nat} (hf : s.flt[b].frty.getLsbD src.val = true)
    (hr : s.flt[b].retries = []) (hw : s.flt[b].windows = []) : (s.occurred b src obj).retrying b src obj = true ∧
      (s.occurred b src obj).but [.deferred, .flt, .x3, .xing, .log, .ret] = s.but [.deferred, .flt, .x3, .xing, .log, .ret] := by
  obtain ⟨ef, er, ew⟩ := latch_retries s b src
  have hruns : (s.latch b src).retryRuns b src obj = false := by
    rw [State.retryRuns, er, hr]
    rfl
  have hwin : (s.latch b src).inWindow b src obj = false := by
    rw [State.inWindow, ew, hw]
    rfl
  unfold State.occurred
  dsimp only
  rw [if_pos (by rw [ef]; exact hf), if_neg (by simp [hruns]), if_neg (by simp [hwin])]
  exact ⟨by simp [State.retrying], by simp⟩

theorem occur_retries {s : State} {b : Blk} {src : Src} {obj : Nat} (stays : Bool) (hc : s.canOccur b src obj)
    (hf : s.flt[b].frty.getLsbD src.val = true) (hr : s.flt[b].retries = []) (hw : s.flt[b].windows = []) :
    (s.occur b src obj stays).retrying b src obj = true ∧
      (s.occur b src obj stays).but [.deferred, .flt, .x3, .xing, .log, .ret] = s.but [.deferred, .flt, .x3, .xing, .log, .ret] := by
  obtain ⟨hsrc, hlive, hmask⟩ := hc
  obtain ⟨ef, er, ew⟩ := markLive_retries s b src obj stays
  have hm : (s.markLive b src obj stays).masked b src = false := by
    have hrw : (s.markLive b src obj stays).rw = s.rw := but_rw (fs := [.flt]) (by simp) (by decide)
    rw [State.masked, reg_of_rw _ hrw]
    exact hmask
  have he : s.occur b src obj stays = (s.markLive b src obj stays).occurred b src obj := by
    unfold State.occur
    rw [if_neg (by simp [hsrc]), if_neg (by rw [hlive]; exact Bool.false_ne_true), if_neg (by simp [hm])]
  obtain ⟨hret, hbut⟩ := occurred_retries (obj := obj) (ef ▸ hf) (er.trans hr) (ew.trans hw)
  exact ⟨he ▸ hret, he ▸ hbut.trans (by simp)⟩

/-! ### Overcurrent (R227) -/

/-- A halt line halts a Present port (R221). -/
theorem assertHalt_halts (d : Driver) (h : s.bat[p].st = .present) (hd : d.reaction = false) :
    (s.assertHalt p.port d).bat[p].st = .halted := by
  have hh (u : State) (hu : u.bat[p].st = .present) : (u.haltBattery p.port).bat[p].st = .halted := by
    unfold State.haltBattery
    simp only [batPort_bat, hu, setBat_get]
    rfl
  unfold State.assertHalt
  rw [hd]
  exact bat_of_eq (Q := fun x => x.st = .halted) ((settle_bat _).trans (haltBranches_bat _ _))
    (hh _ (bat_of_eq (Q := fun x => x.st = .present) (haltSource_bat _ _) h))

/-- What BAT_OVERCURRENT leaves behind its occurrence: the halt line driven while the retry runs (R227). -/
def State.overcurrentLine (s : State) (p : BPort) : State :=
  if s.retrying bBAT 7 p.val then s.assertHalt p.port (batDriver 7 p) else s

/-- An overcurrent's moment is kept through a halt. -/
theorem ocAt_haltSteady (o : Option Nat) : BatRec.HaltSteady (fun x => x.ocAt = o) where
  halted _ _ _ h := h
  reacted _ _ h := h

theorem overcurrentLine_ocAt {o : Option Nat} (h : s.bat[p].ocAt = o) : ((s.occur bBAT 7 p.val).overcurrentLine p).bat[p].ocAt = o := by
  have hP := battery_lineSteady (ocAt_haltSteady o) p
  have ho := occur_lineSteady hP bBAT 7 p.val false h
  unfold State.overcurrentLine
  split
  · exact hP.halt _ _ ho
  · exact ho

/-- The retry of an overcurrent halts a Present port by its own driver. -/
theorem overcurrentLine_halts (h : s.bat[p].st = .present) (hc : s.canOccur bBAT 7 p.val) (hf : s.flt[bBAT].frty.getLsbD 7 = true)
    (hr : s.flt[bBAT].retries = []) (hw : s.flt[bBAT].windows = []) :
    ((s.occur bBAT 7 p.val).overcurrentLine p).bat[p].st = .halted ∧
      batDriver 7 p ∈ ((s.occur bBAT 7 p.val).overcurrentLine p).halt[p.port] := by
  obtain ⟨hret, hbut⟩ := occur_retries false hc hf hr hw
  have hpres : (s.occur bBAT 7 p.val).bat[p].st = .present := bat_of_eq (Q := fun x => x.st = .present) (but_bat hbut (by decide)) h
  unfold State.overcurrentLine
  rw [if_pos hret]
  exact ⟨assertHalt_halts _ hpres rfl, assertHalt_asserts ..⟩

/-- An overcurrent of 1 ms on a Present port: BAT source 7 with cause 7, and its retry halts the port (R227). -/
theorem batOvercurrent_trips {cur us : Nat} (hst : s.bat[p].st = .present) (hcur : 22000 < cur) (hus : 1000 ≤ us) :
    ∃ t, exec (.batOvercurrent p cur us) s = .next t ∧ t.bat[p].cause = 7 ∧ t.bat[p].ocAt = some s.now ∧
      (s.canOccur bBAT 7 p.val → s.flt[bBAT].frty.getLsbD 7 = true → s.flt[bBAT].retries = [] → s.flt[bBAT].windows = [] →
        t.bat[p].st = .halted ∧ batDriver 7 p ∈ t.halt[p.port]) := by
  obtain ⟨u, hu⟩ : ∃ u, u = s.setBat p { s.bat[p] with ocAt := some s.now } := ⟨_, rfl⟩
  have hoc : u.bat[p].ocAt = some s.now := by rw [hu, setBat_get]
  have hpres : u.bat[p].st = .present := by
    rw [hu, setBat_get]
    exact hst
  have hflt : u.flt = s.flt := hu ▸ rfl
  have hcan : u.canOccur bBAT 7 p.val = s.canOccur bBAT 7 p.val := hu ▸ rfl
  refine ⟨((u.occur bBAT 7 p.val).overcurrentLine p).setBat p { ((u.occur bBAT 7 p.val).overcurrentLine p).bat[p] with cause := 7 },
    ?_, ?_⟩
  · rw [hu]
    exact if_pos ⟨hst, hcur, hus⟩
  · rw [setBat_get, setBat_halt]
    refine ⟨rfl, overcurrentLine_ocAt hoc, fun hc hf hr hw => ?_⟩
    rw [← hflt] at hf hr hw
    exact overcurrentLine_halts hpres (hcan.mpr hc) hf hr hw

/-! ### The NTC (R48, R227) -/

theorem ntc_haltSteady (n : Nat) : BatRec.HaltSteady (fun x => x.ntc = n) where
  halted _ _ _ h := h
  reacted _ _ h := h

/-- Neither an occurrence nor the loss of a temperature changes the verdict on an NTC. -/
theorem ntcLost_ntc {n : Nat} (h : s.bat[p].ntc = n) : (((s.occur bBAT 6 p.val true).tempLost p).bat[p]).ntc = n :=
  have hP := battery_lineSteady (ntc_haltSteady n) p
  tempLost_lineSteady hP p (occur_lineSteady hP _ _ _ _ h)

theorem ntcUnused_ntc (s : State) (p : BPort) : (s.ntcUnused p).bat[p].ntc = s.bat[p].ntc :=
  tempLost_lineSteady (battery_lineSteady (ntc_haltSteady s.bat[p].ntc) p) p (s := s.endCause bBAT 6 p.val) rfl

/-- A measured NTC input is judged against 400 kilohm and 400 ohm, where it is used. -/
theorem ntcFault_judges (ohm : Nat) (hm : s.ntcMeasured = true) : ∃ t, exec (.ntcFault p ohm) s = .next t ∧
    t.bat[p].ntc =
      if (s.reg (batPcfgAt p)).bit 8 = false then s.bat[p].ntc else if 400000 < ohm then 1 else if ohm < 400 then 2 else 0 := by
  have hm' : ¬s.ntcMeasured = false := by simp [hm]
  cases hused : (s.reg (batPcfgAt p)).bit 8
  case false => exact ⟨_, (if_neg hm').trans (if_pos hused), ntcUnused_ntc s p⟩
  case true =>
    have hu : ¬s.ntcUsed p = false := by simp [State.ntcUsed, hused]
    rw [if_neg (by decide : ¬true = false)]
    by_cases hopen : 400000 < ohm
    · rw [if_pos hopen]
      exact ⟨_, (if_neg hm').trans ((if_neg hu).trans (if_pos hopen)), ntcLost_ntc (by rw [setBat_get])⟩
    · rw [if_neg hopen]
      by_cases hshort : ohm < 400
      · rw [if_pos hshort]
        exact ⟨_, (if_neg hm').trans ((if_neg hu).trans ((if_neg hopen).trans (if_pos hshort))), ntcLost_ntc (by rw [setBat_get])⟩
      · rw [if_neg hshort]
        exact ⟨_, (if_neg hm').trans ((if_neg hu).trans ((if_neg hopen).trans (if_neg hshort))), congrArg BatRec.ntc (setBat_get s p _)⟩

end

/-- Settles O35: each event of a battery port's protection, by its own lemma above. -/
theorem batteryProtection : Obligations.BatteryProtection := by
  refine fun s p => ⟨fun v cur cmd ns e hst h => ?_, fun fall hst hcur hfall => ?_, batHaltRelease_absent,
    fun _ => batHaltRelease_unclamps, fun _ _ => batOutOfRange_absent, fun _ _ => batOvercurrent_trips, fun ohm => ⟨fun hm => if_pos hm, ntcFault_judges ohm⟩⟩
  · obtain ⟨t, ht, ⟨hst', hsw, hclamp, hrem⟩, hline⟩ := batAbsenceDetected_removes e hst h
    exact ⟨t, ht, hst', hsw, hclamp, hrem, hline⟩
  · obtain ⟨t, ht, hr, hline⟩ := batProbe_removes hst hcur hfall
    exact ⟨t, ht, hr.st, hr.sw, hline⟩

end Sys2Proof.Machine
end

section
/-!
PROOFS. The power fabric (spec/03_power_fabric.md): the states of the cells, and the migrations. First, what an update of one cell after
another leaves of a cell, what the end of a migration is, and which parts of it the faults and the flows leave alone.
-/

namespace Sys2Proof.Machine

/-! ### The record of a cell -/

theorem setCell_get (s : State) (c : Cell) (x : CellRec) : (s.setCell c x).cells[c] = x := vset_same ..

theorem setCell_get_other (s : State) {c k : Cell} (x : CellRec) (h : c ≠ k) : (s.setCell c x).cells[k] = s.cells[k] :=
  vset_other _ _ _ _ h

@[simp] theorem settle_cells (s : State) : s.settle.cells = s.cells := but_cells (fs := [.groups, .ctx, .chg]) (by simp) (by decide)
@[simp] theorem settle_fab (s : State) : s.settle.fab = s.fab := but_fab (fs := [.groups, .ctx, .chg]) (by simp) (by decide)

/-- The success of a retry leaves the cells and the fabric as they are. -/
@[simp] theorem retryOutcome_ok_cells (s : State) (b : Blk) (src : Src) (obj : Nat) : (s.retryOutcome b src obj true).cells = s.cells :=
  but_cells (fs := [.deferred, .flt, .x3, .xing, .log, .ret]) (by simp [retryOutcome_ok]) (by decide)
@[simp] theorem retryOutcome_ok_fab (s : State) (b : Blk) (src : Src) (obj : Nat) : (s.retryOutcome b src obj true).fab = s.fab :=
  but_fab (fs := [.deferred, .flt, .x3, .xing, .log, .ret]) (by simp [retryOutcome_ok]) (by decide)

theorem idleCell_get (s : State) (c : Cell) :
    (s.idleCell c).cells[c] = { s.cells[c] with st := .idle, cur := 0, startRetry := false, retryAt := none, gate := none } :=
  setCell_get ..

/-- A part of a migration that goes back is Active again, where it has a donor (R86). -/
theorem giveBack_active (s : State) {q : Part} (h : q.donor.isSome = true) : (s.giveBack q).cells[q.cell].st = .active := by
  obtain ⟨g, hg⟩ := Option.isSome_iff_exists.mp h
  unfold State.giveBack
  rw [hg]
  exact congrArg CellRec.st (setCell_get ..)

/-- A part of a migration that a step over its bound ends before step 3 is as it was: Active in its donor, or as it started (R92). -/
theorem returnPart_st (s : State) (q : Part) :
    (s.returnPart q).cells[q.cell].st = if q.donor.isSome = true then .active else q.start := by
  unfold State.returnPart
  split
  · exact giveBack_active s ‹_›
  · exact congrArg CellRec.st (setCell_get ..)

/-! ### One cell after another -/

/-- An update that writes the record of one cell, which `key` gives, and nothing else. -/
def State.OneCell {α : Type} (key : α → Cell) (f : State → α → State) : Prop := ∀ s a, ∃ x, f s a = s.setCell (key a) x

theorem idleCell_oneCell : State.OneCell id State.idleCell := fun _ _ => ⟨_, rfl⟩

theorem giveBack_oneCell : State.OneCell Part.cell State.giveBack := fun s q => by
  unfold State.giveBack
  split <;> exact ⟨_, rfl⟩

theorem returnPart_oneCell : State.OneCell Part.cell State.returnPart := fun s q => by
  unfold State.returnPart
  split
  · exact giveBack_oneCell s q
  · exact ⟨_, rfl⟩

theorem joinOrder_oneCell (g : Group) : State.OneCell Part.cell (State.joinOrder g) := fun _ _ => ⟨_, rfl⟩

section
variable {α : Type} {key : α → Cell} {f : State → α → State} (hf : State.OneCell key f)
include hf

theorem State.OneCell.get_other (s : State) {a : α} {c : Cell} (h : key a ≠ c) : (f s a).cells[c] = s.cells[c] := by
  obtain ⟨x, hx⟩ := hf s a
  rw [hx, setCell_get_other _ _ h]

/-- The cells that no update of a list is about stay as they are. -/
theorem State.OneCell.forEach_other {l : List α} {c : Cell} (hc : ∀ a ∈ l, key a ≠ c) (s : State) :
    (forEach l f s).cells[c] = s.cells[c] := by
  induction l generalizing s with
  | nil => rfl
  | cons a l ih =>
    have ha := hf.get_other s (hc a List.mem_cons_self)
    exact (ih (fun b hb => hc b (List.mem_cons_of_mem _ hb)) (f s a)).trans ha

/-- What an update makes of its own cell, and what every later update of the same cell keeps, holds of the cell behind the list. -/
theorem State.OneCell.forEach_own {Q : CellRec → Prop} {l : List α} {a : α} (ha : a ∈ l) (hset : ∀ s, Q (f s a).cells[key a])
    (hkeep : ∀ b, key b = key a → ∀ s, Q s.cells[key b] → Q (f s b).cells[key b]) (s : State) : Q (forEach l f s).cells[key a] := by
  have hget {c k : Cell} (e : c = k) (t : State) : t.cells[c] = t.cells[k] := by rw [e]
  refine foldl_reaches (fun t => Q t.cells[key a]) (fun _ => True) f (fun _ _ _ => trivial) (fun t b ht => ?_) (fun t _ => hset t) ha
    trivial
  by_cases hb : key b = key a
  · rw [← hget hb] at ht ⊢
    exact hkeep b hb t ht
  · rwa [hf.get_other t hb]

/-- Where no two updates of a list are about the same cell, each meets its cell as it was before the list, and has the last word on it. -/
theorem State.OneCell.forEach_once {l : List α} (hn : (l.map key).Nodup) {a : α} (ha : a ∈ l) (s : State) :
    ∃ t : State, t.cells[key a] = s.cells[key a] ∧ (forEach l f s).cells[key a] = (f t a).cells[key a] := by
  obtain ⟨l, m, rfl⟩ := List.append_of_mem ha
  rw [List.map_append, List.map_cons, List.nodup_append] at hn
  obtain ⟨-, hm, hlm⟩ := hn
  refine ⟨forEach l f s, hf.forEach_other (fun b hb => hlm _ (List.mem_map_of_mem hb) _ List.mem_cons_self) s, ?_⟩
  have he : forEach (l ++ a :: m) f s = forEach m f (f (forEach l f s) a) := List.foldl_append ..
  rw [he]
  exact hf.forEach_other (fun b hb (e : key b = key a) => (List.nodup_cons.mp hm).1 (e ▸ List.mem_map_of_mem hb)) _

end

/-- Every cell of a migration that ends so is Idle (R92). -/
theorem idleParts_idle (s : State) {m : Migr} {q : Part} (hq : q ∈ m.parts) : (s.idleParts m).cells[q.cell].st = .idle :=
  idleCell_oneCell.forEach_own (Q := fun x => x.st = .idle) (List.mem_map_of_mem hq)
    (fun s => congrArg CellRec.st (idleCell_get s q.cell)) (fun b _ s _ => congrArg CellRec.st (idleCell_get s b)) s

/-- The partners of a cell are other cells (R89). -/
theorem freePartners_get (s : State) (m : Migr) (c : Cell) : (s.freePartners m c).cells[c] = s.cells[c] := by
  have hc (q : Part) (hq : q ∈ m.parts.filter fun q => q.cell != c && s.cells[q.cell].st != .fenced) : q.cell ≠ c := by
    simp only [List.mem_filter, Bool.and_eq_true, bne_iff_ne] at hq
    exact hq.2.1
  unfold State.freePartners
  split
  · exact giveBack_oneCell.forEach_other hc s
  · exact State.OneCell.forEach_other (key := Part.cell) (fun _ _ => ⟨_, rfl⟩) hc s

/-! ### The end of a migration (R92) -/

/-- A cell's record behind the end of its migration: when it moved and whose member it is are noted, and nothing else changes (R108). -/
def CellRec.MovedFrom (x y : CellRec) : Prop := ∃ a g, y = { x with movedAt := a, grp := g }

/-- The end of a migration notes on a cell that it has moved, and nothing else. -/
theorem endMigr_get (s : State) (m : Migr) (result : Nat) (c : Cell) : CellRec.MovedFrom s.cells[c] (s.endMigr m result).cells[c] := by
  have h : CellRec.MovedFrom s.cells[c]
      (forEach m.cells (fun s c => s.setCell c { s.cells[c] with movedAt := some s.now, grp := s.cells[c].inMask }) s).cells[c] := by
    refine forEach_keeps (fun t => CellRec.MovedFrom s.cells[c] t.cells[c]) _ (fun t k ht => ?_) _ ⟨s.cells[c].movedAt, s.cells[c].grp, rfl⟩
    by_cases hk : k = c
    · subst hk
      obtain ⟨a, g, he⟩ := ht
      exact ⟨some t.now, t.cells[k].inMask, by rw [setCell_get, he]⟩
    · rwa [setCell_get_other _ _ hk]
  unfold State.endMigr
  split <;> exact h

theorem endMigr_st (s : State) (m : Migr) (result : Nat) (c : Cell) : (s.endMigr m result).cells[c].st = s.cells[c].st := by
  obtain ⟨a, g, h⟩ := endMigr_get s m result c
  rw [h]

/-- A migration that ended with a result: FAB_MLOG says so, and it is in progress no longer (R92). -/
structure State.Ended (t : State) (m : Migr) (result : Nat) : Prop where
  result : t.fab.mlog.result = result
  dest : t.fab.mlog.dest = m.dest.val
  gone : ∀ k ∈ t.fab.migs, k.cell ≠ m.cell

theorem endMigr_ended (s : State) (m : Migr) (result : Nat) : (s.endMigr m result).Ended m result where
  result := rfl
  dest := rfl
  gone _ hk := bne_iff_ne.mp (List.mem_filter.mp hk).2

/-! ### The commands of the fabric that look at a group or a migration -/

section
variable (c : Cell) (s : State)

theorem exec_cellTrip : exec (.cellTrip c) s = execCellTrip c s := rfl
theorem exec_cellStartChecksDone (o : StartObs) : exec (.cellStartChecksDone c o) s = execCellStartChecksDone c o s := rfl
theorem exec_shedOrder : exec (.shedOrder c) s = execShedOrder c s := rfl
theorem exec_parkHoldExpiry : exec (.parkHoldExpiry c) s = execParkHoldExpiry c s := rfl
theorem exec_migrationStepDone : exec (.migrationStepDone c) s = execMigrationStepDone c s := rfl
theorem exec_migrationStepOvertime : exec (.migrationStepOvertime c) s = execMigrationStepOvertime c s := rfl

end

/-! ### Trips (R74, R86) -/

/-- A running cell that trips is Idle, a member still, whatever migration it took part in (R74, R86). -/
theorem cellTrip_idles {s : State} {c : Cell} (h : s.cells[c].st.running = true) :
    ∃ u : State, exec (.cellTrip c) s = .next (u.occur bFAB 0 c.val).settle ∧ u.cells[c].st = .idle ∧ u.cells[c].cur = 0 ∧
      u.cells[c].inMask = s.cells[c].inMask := by
  rw [exec_cellTrip, execCellTrip, if_pos h]
  cases s.migrOf c with
  | none =>
    refine ⟨s.idleCell c, rfl, ?_⟩
    rw [idleCell_get]
    exact ⟨rfl, rfl, rfl⟩
  | some m =>
    obtain ⟨a, g, hend⟩ := endMigr_get ((s.idleCell c).freePartners m c) m 1 c
    refine ⟨((s.idleCell c).freePartners m c).endMigr m 1, rfl, ?_⟩
    rw [hend, freePartners_get, idleCell_get]
    exact ⟨rfl, rfl, rfl⟩

/-! ### Starts (R86, R87) -/

section
variable {s : State} {c : Cell} {o : StartObs}

/-- The checks of a Starting cell outside a migration run unless its retry is still due (R86). -/
theorem checksRun_of_starting (hm : s.migrOf c = none) (hst : s.cells[c].st = .starting) (hr : s.cells[c].retryAt = none) :
    s.checksRun c = true := by
  unfold State.checksRun
  rw [hm, hst, hr]
  rfl

/-- The checks of a cell in a migration run at step 4 (R90). -/
theorem step_of_checksRun {m : Migr} (hm : s.migrOf c = some m) (h : s.checksRun c = true) : m.step = 4 := by
  unfold State.checksRun at h
  simp only [hm, Bool.and_eq_true, beq_iff_eq] at h
  exact h.2.1

/-- While a retry is due later, no start check runs (R86). -/
theorem cellStartChecksDone_waits {t₀ : Nat} (h : s.cells[c].retryAt = some t₀) : exec (.cellStartChecksDone c o) s = .next s :=
  if_pos (by rw [State.checksRun, h]; rfl)

/-- What the start checks of a cell outside a migration come to (R86, R87). -/
theorem cellStartChecksDone_alone (hm : s.migrOf c = none) (hrun : s.checksRun c = true) :
    exec (.cellStartChecksDone c o) s =
      if startPass o = true then .next ((s.retryOutcome bFAB 2 c.val true).activate c).settle
      else if s.willRetry bFAB 2 c.val = true then .next ((s.awaitRetry c).occur bFAB 2 c.val)
      else .next ((s.idleCell c).occur bFAB 2 c.val).settle := by
  rw [exec_cellStartChecksDone, execCellStartChecksDone, if_neg (by simp [hrun]), hm]

/-- What the start checks of a cell of a migration come to (R89, R92). -/
theorem cellStartChecksDone_moving {m : Migr} (hm : s.migrOf c = some m) (hrun : s.checksRun c = true) :
    exec (.cellStartChecksDone c o) s =
      if startPass o = true then .next ((s.retryOutcome bFAB 2 c.val true).passPart m c)
      else if s.willRetry bFAB 2 c.val = true then .next ((s.awaitRetry c).occur bFAB 2 c.val)
      else .next (((s.idleParts m).endMigr m 2).occur bFAB 2 c.val).settle := by
  rw [exec_cellStartChecksDone, execCellStartChecksDone, if_neg (by simp [hrun]), hm]

/-- A cell whose start checks pass is Active, and its starts are counted (R86). -/
theorem activate_get (s : State) (c : Cell) : (s.activate c).cells[c] = { s.cells[c] with
    st := .active, since := s.now, startRetry := false, retryAt := none, starts := min 65535 (s.cells[c].starts + 1) } :=
  setCell_get ..

theorem awaitRetry_get (s : State) (c : Cell) : (s.awaitRetry c).cells[c] = { s.cells[c] with
    startRetry := true, retryAt := some (s.now + 5000), since := s.now } :=
  setCell_get ..

/-- A Starting cell whose start checks pass is Active (R86, R87). -/
theorem cellStartChecksDone_activates (hm : s.migrOf c = none) (hst : s.cells[c].st = .starting) (hp : startPass o = true)
    (hr : s.cells[c].retryAt = none) :
    ∃ t, exec (.cellStartChecksDone c o) s = .next t ∧ t.cells[c].st = .active ∧
      t.cells[c].starts = min 65535 (s.cells[c].starts + 1) := by
  refine ⟨_, (cellStartChecksDone_alone hm (checksRun_of_starting hm hst hr)).trans (if_pos hp), ?_⟩
  rw [settle_cells, activate_get, retryOutcome_ok_cells]
  exact ⟨rfl, rfl⟩

/-- A Starting cell whose start checks fail for the first time waits 5 ms for the next try (R86, R109). -/
theorem cellStartChecksDone_retries (hm : s.migrOf c = none) (hst : s.cells[c].st = .starting) (hp : startPass o = false)
    (hr : s.cells[c].retryAt = none) (hw : s.willRetry bFAB 2 c.val = true) :
    ∃ u : State, exec (.cellStartChecksDone c o) s = .next (u.occur bFAB 2 c.val) ∧ u.cells[c].st = .starting ∧
      u.cells[c].startRetry = true ∧ u.cells[c].retryAt = some (s.now + 5000) := by
  refine ⟨s.awaitRetry c, ?_, ?_⟩
  · rw [cellStartChecksDone_alone hm (checksRun_of_starting hm hst hr), if_neg (ne_true_of_eq_false hp), if_pos hw]
  · rw [awaitRetry_get]
    exact ⟨hst, rfl, rfl⟩

/-- A Starting cell whose start checks fail without a further try is Idle (R86, R87). -/
theorem cellStartChecksDone_idles (hm : s.migrOf c = none) (hst : s.cells[c].st = .starting) (hp : startPass o = false)
    (hr : s.cells[c].retryAt = none) (hw : s.willRetry bFAB 2 c.val = false) :
    ∃ u : State, exec (.cellStartChecksDone c o) s = .next (u.occur bFAB 2 c.val).settle ∧ u.cells[c].st = .idle := by
  refine ⟨s.idleCell c, ?_, congrArg CellRec.st (idleCell_get s c)⟩
  rw [cellStartChecksDone_alone hm (checksRun_of_starting hm hst hr), if_neg (ne_true_of_eq_false hp), if_neg (ne_true_of_eq_false hw)]

/-! ### The second try of a start (R86, R109, R443) -/

/-- A retry that is cancelled runs no longer. -/
theorem cancelRetry_retrying (s : State) (b : Blk) (src : Src) (obj : Nat) : (s.cancelRetry b src obj).retrying b src obj = false := by
  unfold State.cancelRetry
  split
  · have hd : (s.dropRetry b src obj).retrying b src obj = false := by
      unfold State.retrying State.dropRetry
      rw [setFlt_get, List.any_eq_false]
      intro r hr
      simpa only [Bool.not_eq_true', Bool.not_eq_true] using (List.mem_filter.mp hr).2
    unfold State.retrying at hd ⊢
    rwa [report_flt]
  · simpa using ‹¬s.retrying b src obj = true›

/-- A start is tried again once it is due and no other line holds the cell. -/
theorem cellStartRetry_begins {t₀ : Nat} (h : s.cells[c].retryAt = some t₀) (ht : t₀ ≤ s.now) (hl : s.otherLine bFAB 2 c.val = false) :
    ∃ t, exec (.cellStartRetry c) s = .next t ∧ t.cells[c] = { s.cells[c] with retryAt := none, since := s.now } ∧
      ChangesOnly [.cells, .flt] s t :=
  ⟨(s.setCell c { s.cells[c] with retryAt := none, since := s.now }).beginRetry bFAB 2 c.val,
    (if_pos (any_of_some h (decide_eq_true ht))).trans (if_neg (by simp [hl])), setCell_get .., by simp [ChangesOnly]⟩

/-- A start that is due while another line holds the cell is not tried again. -/
theorem cellStartRetry_cancelled {t₀ : Nat} (h : s.cells[c].retryAt = some t₀) (ht : t₀ ≤ s.now) (hl : s.otherLine bFAB 2 c.val = true)
    (hm : s.migrOf c = none) :
    ∃ t, exec (.cellStartRetry c) s = .next t ∧ t.cells[c].st = .idle ∧ t.retrying bFAB 2 c.val = false := by
  refine ⟨(s.cancelRetry bFAB 2 c.val).idleCell c, ?_, congrArg CellRec.st (idleCell_get ..), cancelRetry_retrying ..⟩
  refine (if_pos (any_of_some h (decide_eq_true ht))).trans ((if_pos hl).trans ?_)
  rw [hm]

theorem cellStartRetry_waits {t₀ : Nat} (h : s.cells[c].retryAt = some t₀) (ht : s.now < t₀) : exec (.cellStartRetry c) s = .next s :=
  if_neg (by rw [h]; simp [ht])

end

/-! ### Shedding (R93, R94) -/

section
variable {s : State} {c : Cell} {g : Group}

/-- The cells of a shed order begin to ramp, and no other cell changes (R93, R94). -/
theorem shedOrder_sheds (hg : s.cells[c].inMask = some g) (hact : ∀ k ∈ s.orderCells g c, s.cells[k].st = .active)
    (hmin : s.groups[g].cfg.minph ≤ ((s.members g).filter fun k => s.cells[k].st == .active && !(s.orderCells g c).contains k).length)
    (hrest : ((s.members g).filter fun k => s.cells[k].st == .active && !(s.orderCells g c).contains k) ≠ [])
    (hhalt : s.halt[g.port] = []) (hsafe : s.safeLine = []) (hord : s.thr.sheds.contains c = true) :
    ∃ t, exec (.shedOrder c) s = .next t ∧ (∀ k ∈ s.orderCells g c, t.cells[k].st = .shedding) ∧
      ∀ k, k ∉ s.orderCells g c → t.cells[k] = s.cells[k] := by
  have hone : State.OneCell id fun s k => s.setCell k { s.cells[k] with st := .shedding, since := s.now } := fun _ _ => ⟨_, rfl⟩
  have hshed (s : State) (k : Cell) : (s.setCell k { s.cells[k] with st := .shedding, since := s.now }).cells[k].st = .shedding :=
    congrArg CellRec.st (setCell_get ..)
  have hall : ((s.orderCells g c).all fun k => s.cells[k].st == .active) = true :=
    List.all_eq_true.mpr fun k hk => beq_iff_eq.mpr (hact k hk)
  rw [exec_shedOrder, execShedOrder]
  simp only [hg]
  rw [if_pos ⟨hall, hmin, hrest, hhalt, hsafe, hord⟩]
  refine ⟨_, rfl, fun k hk => ?_, fun k hk => ?_⟩
  · exact hone.forEach_own (Q := fun x => x.st = .shedding) hk (fun s => hshed s k) (fun b _ s _ => hshed s b) _
  · exact hone.forEach_other (fun a ha (e : a = k) => hk (e ▸ ha)) _

/-- A Shedding cell that has ramped down is Parked, a member still (R94). -/
theorem shedParked_parks {share : Int} (hst : s.cells[c].st = .shedding) (hs : share.natAbs < 30) :
    ∃ t, exec (.shedParked c share) s = .next t ∧ t.cells[c].st = .parked ∧ t.cells[c].cur = 0 ∧ t.cells[c].inMask = s.cells[c].inMask := by
  refine ⟨_, if_pos ⟨hst, hs⟩, ?_⟩
  rw [setCell_get]
  exact ⟨rfl, rfl, rfl⟩

/-- A Parked cell leaves its group at the end of its hold, its selector where it was (R94). -/
theorem parkHoldExpiry_leaves (hg : s.cells[c].inMask = some g) (hst : s.cells[c].st = .parked)
    (ht : s.cells[c].since + 1000 * s.groups[g].cfg.hold ≤ s.now) :
    ∃ t, exec (.parkHoldExpiry c) s = .next t ∧ t.cells[c].st = .idle ∧ t.cells[c].inMask = none ∧ t.cells[c].grp = none ∧
      t.cells[c].sel = s.cells[c].sel := by
  rw [exec_parkHoldExpiry, execParkHoldExpiry]
  simp only [hg]
  rw [if_pos ⟨hst, ht⟩]
  refine ⟨_, rfl, ?_⟩
  rw [setCell_get]
  exact ⟨rfl, rfl, rfl, rfl⟩

end

/-- Settles O25: each event of a cell, by its own lemma above. -/
theorem cellStates : Obligations.CellStates :=
  ⟨fun _ _ => cellTrip_idles,
    fun _ _ _ hm hst => ⟨fun _ => cellStartChecksDone_waits, cellStartChecksDone_activates hm hst, cellStartChecksDone_retries hm hst,
      cellStartChecksDone_idles hm hst⟩,
    fun _ _ _ h => ⟨cellStartRetry_begins h, cellStartRetry_cancelled h, cellStartRetry_waits h⟩,
    fun _ _ _ => shedOrder_sheds, fun _ _ _ => shedParked_parks, fun _ _ _ => parkHoldExpiry_leaves⟩

/-! ### An order (R89, R90) -/

/-- The cells that an accepted order moves, each with the group that gives it and the state that it starts from (R89). -/
def State.orderParts (s : State) (o : Order) : List Part :=
  (s.orderCells o.dest o.cell).map fun c => ⟨c, s.donorOf c, s.cells[c].st, false⟩

theorem orderCells_nodup (s : State) (g : Group) (c : Cell) : (s.orderCells g c).Nodup :=
  List.Nodup.filter _ (List.nodup_finRange 40)

theorem orderParts_cells (s : State) (o : Order) : (s.orderParts o).map Part.cell = s.orderCells o.dest o.cell := by
  unfold State.orderParts
  rw [List.map_map]
  exact List.map_id _

/-- What an accepted order makes of a cell that it moves (R86, R90). -/
theorem joinOrder_get (g : Group) (s : State) (q : Part) : (s.joinOrder g q).cells[q.cell] = { s.cells[q.cell] with
    st := if q.donor.isSome then .migrating else .starting
    grp := if q.donor.isSome then some g else s.cells[q.cell].grp
    fence := [], barred := false, dropped := false, since := s.now, startRetry := false, retryAt := none } :=
  setCell_get ..

/-- Each cell of an accepted order is Migrating to the receiver, or Starting where no group gives it (R90). -/
theorem joinOrders_get (s t : State) (o : Order) {c : Cell} (hc : c ∈ s.orderCells o.dest o.cell) :
    (forEach (s.orderParts o) (State.joinOrder o.dest) t).cells[c].st = (if (s.donorOf c).isSome then .migrating else .starting) ∧
    (forEach (s.orderParts o) (State.joinOrder o.dest) t).cells[c].grp =
      if (s.donorOf c).isSome then some o.dest else t.cells[c].grp := by
  have hn : ((s.orderParts o).map Part.cell).Nodup := orderParts_cells s o ▸ orderCells_nodup ..
  have hq : (⟨c, s.donorOf c, s.cells[c].st, false⟩ : Part) ∈ s.orderParts o := List.mem_map_of_mem hc
  obtain ⟨u, hu, he⟩ := (joinOrder_oneCell o.dest).forEach_once hn hq t
  rw [he, joinOrder_get, ← hu]
  exact ⟨rfl, rfl⟩

/-- The state that an order leaves once it is taken up. -/
def State.taken (s : State) (o : Order) : State := { s with thr := { s.thr with orders := s.thr.orders.filter (· != o) } }

/-- An accepted order takes each of its cells and is a migration in progress from then on (R89, R90). -/
theorem migrationLatch_accepted {s : State} {o : Order} (ho : s.thr.orders.contains o = true) (ha : s.acceptsOrder o = true) :
    ∃ t, exec (.migrationLatch o) s = .next t ∧
      (∀ c ∈ s.orderCells o.dest o.cell,
        ((s.donorOf c).isSome = true → t.cells[c].st = .migrating ∧ t.cells[c].grp = some o.dest) ∧
        (s.donorOf c = none → t.cells[c].st = .starting ∧ t.cells[c].grp = s.cells[c].grp)) ∧
      ∃ m ∈ t.fab.migs, m.cell = o.cell ∧ m.dest = o.dest ∧ m.donor = s.donorOf o.cell ∧ m.t0 = s.thr.ordersAt := by
  refine ⟨_, (if_neg (ne_false_of_eq_true ho)).trans (if_pos ha), fun c hc => ?_, _,
    List.mem_append_right _ (List.mem_singleton_self _), rfl, rfl, rfl, rfl⟩
  obtain ⟨hst, hgrp⟩ := joinOrders_get s (s.taken o) o hc
  exact ⟨fun hd => ⟨hst.trans (if_pos hd), hgrp.trans (if_pos hd)⟩,
    fun hd => ⟨hst.trans (if_neg (by simp [hd])), hgrp.trans (if_neg (by simp [hd]))⟩⟩

/-- An order that the fabric does not accept is recorded as refused, and moves no cell (R89, R106). -/
theorem migrationLatch_refused {s : State} {o : Order} (ho : s.thr.orders.contains o = true) (ha : s.acceptsOrder o = false) :
    ∃ t, exec (.migrationLatch o) s = .next t ∧ t.fab.mlog.result = 3 ∧ t.fab.mlog.cell = o.cell.val ∧ t.fab.migs = s.fab.migs ∧
      t.cells = s.cells :=
  ⟨_, (if_neg (ne_false_of_eq_true ho)).trans (if_neg (ne_true_of_eq_false ha)), rfl, rfl, rfl, rfl⟩

/-! ### The steps (R76, R90) -/

/-- What a step of a migration does to its cells writes one cell after another. -/
theorem stepCell_oneCell {step : Nat} (g : Group) (h : step = 3 ∨ step = 6 ∨ step = 7) :
    State.OneCell Part.cell (State.stepCell g step) := by
  rcases h with rfl | rfl | rfl <;> exact fun _ _ => ⟨_, rfl⟩

/-- A donor's cell is open and out of the donor's mask from step 3 on (R90). -/
def CellRec.Opened (x : CellRec) : Prop := x.selOpen = true ∧ x.inMask = none

/-- A cell belongs to a receiver whose port its selector, at a position, has closed onto (R90). -/
def CellRec.Belongs (g : Group) (sel : Bool) (x : CellRec) : Prop :=
  x.inMask = some g ∧ x.grp = some g ∧ x.sel = sel ∧ x.selOpen = false

theorem stepCell_three (g : Group) (s : State) (q : Part) : (s.stepCell g 3 q).cells[q.cell] = { s.cells[q.cell] with
    inMask := if q.donor.isSome then none else s.cells[q.cell].inMask, cur := 0
    selOpen := s.cells[q.cell].selOpen || q.donor.isSome || s.cells[q.cell].sel != selFor q.cell g } := setCell_get ..

theorem stepCell_six (g : Group) (s : State) (q : Part) : (s.stepCell g 6 q).cells[q.cell] = { s.cells[q.cell] with
    inMask := some g, grp := some g, sel := selFor q.cell g, selOpen := false } := setCell_get ..

theorem stepCell_seven (g : Group) (s : State) (q : Part) : (s.stepCell g 7 q).cells[q.cell].st = .active :=
  congrArg CellRec.st (setCell_get ..)

/-- Step 3 opens the cells of donors (R90). -/
theorem stepThree_opened (g : Group) (s : State) {l : List Part} {q : Part} (hq : q ∈ l) (hd : q.donor.isSome = true) :
    (forEach l (State.stepCell g 3) s).cells[q.cell].Opened := by
  refine (stepCell_oneCell g (.inl rfl)).forEach_own hq (fun s => ?_) (fun b _ s ho => ?_) s
  · rw [stepCell_three]
    exact ⟨by simp [hd], if_pos hd⟩
  · obtain ⟨hopen, hmask⟩ := ho
    rw [stepCell_three]
    exact ⟨by rw [hopen]; rfl, by rw [hmask]; exact ite_self none⟩

/-- Step 6 makes every cell the receiver's (R90). -/
theorem stepSix_belongs (g : Group) (s : State) {l : List Part} {q : Part} (hq : q ∈ l) :
    (forEach l (State.stepCell g 6) s).cells[q.cell].Belongs g (selFor q.cell g) := by
  have h (s : State) (q : Part) : (s.stepCell g 6 q).cells[q.cell].Belongs g (selFor q.cell g) := by
    rw [stepCell_six]
    exact ⟨rfl, rfl, rfl, rfl⟩
  exact (stepCell_oneCell g (.inr (.inl rfl))).forEach_own hq (fun s => h s q) (fun b hb s _ => hb ▸ h s b) s

/-- Step 7 makes every cell Active (R90). -/
theorem stepSeven_active (g : Group) (s : State) {l : List Part} {q : Part} (hq : q ∈ l) :
    (forEach l (State.stepCell g 7) s).cells[q.cell].st = .active :=
  (stepCell_oneCell g (.inr (.inr rfl))).forEach_own (Q := fun x => x.st = .active) hq (fun s => stepCell_seven g s q)
    (fun b _ s _ => stepCell_seven g s b) s

section
variable {s : State} {c : Cell} {m : Migr}

theorem mem_of_migrOf (h : s.migrOf c = some m) : m ∈ s.fab.migs := List.mem_of_find?_eq_some h

/-- A migration with its named cell among those in progress has one more step behind it. -/
theorem stepMigr_step (step : Nat) (h : m ∈ s.fab.migs) : ∃ k ∈ (s.stepMigr m step).fab.migs, k.cell = m.cell ∧ k.step = step :=
  ⟨_, List.mem_map_of_mem h, by rw [if_pos rfl], by rw [if_pos rfl]⟩

/-- The moment at which the selectors of a migration were fully open is noted with step 4 (R76). -/
def State.noteOpen (s : State) (m : Migr) (now : Nat) (opened : Prop) [Decidable opened] : State :=
  if opened then
    { s with fab := { s.fab with migs := s.fab.migs.map fun k => if k.cell = m.cell then { k with openAt := some now } else k } }
  else s

theorem noteOpen_cells (now : Nat) (opened : Prop) [Decidable opened] : (s.noteOpen m now opened).cells = s.cells := by
  unfold State.noteOpen
  split <;> rfl

theorem noteOpen_step {step : Nat} (now : Nat) (opened : Prop) [Decidable opened] (h : ∃ k ∈ s.fab.migs, k.cell = m.cell ∧ k.step = step) :
    ∃ k ∈ (s.noteOpen m now opened).fab.migs, k.cell = m.cell ∧ k.step = step := by
  obtain ⟨k, hk, hc, hs⟩ := h
  unfold State.noteOpen
  split
  · exact ⟨_, List.mem_map_of_mem hk, by rw [if_pos hc]; exact hc, by rw [if_pos hc]; exact hs⟩
  · exact ⟨k, hk, hc, hs⟩

/-- The state behind one more step of a migration, before the end of a completed one (R90). -/
def State.stepped (s : State) (m : Migr) : State :=
  ((forEach m.parts (State.stepCell m.dest (m.step + 1)) s).stepMigr m (m.step + 1)).noteOpen m s.now
    (m.step + 1 = 4 ∧ (m.cells.any fun k => s.cells[k].selOpen) = true)

theorem stepped_cells (s : State) (m : Migr) : (s.stepped m).cells = (forEach m.parts (State.stepCell m.dest (m.step + 1)) s).cells :=
  noteOpen_cells ..

theorem stepped_step (h : m ∈ s.fab.migs) : ∃ k ∈ (s.stepped m).fab.migs, k.cell = m.cell ∧ k.step = m.step + 1 := by
  have hfab : (forEach m.parts (State.stepCell m.dest (m.step + 1)) s).fab = s.fab := but_fab (fs := [.cells]) (by simp) (by decide)
  exact noteOpen_step _ _ (stepMigr_step _ (by rwa [hfab]))

/-- The next step of a migration completes, unless it waits: step 5 for the start checks, step 6 for a selector fully open for 20 us
(R76, R89). -/
theorem migrationStepDone_steps (h : s.migrOf c = some m) (h4 : m.step ≠ 4)
    (h5 : m.step = 5 → ∀ t₀, m.openAt = some t₀ → t₀ + 20 ≤ s.now) :
    exec (.migrationStepDone c) s = .next (if m.step + 1 = 7 then ((s.stepped m).endMigr m 0).settle else s.stepped m) := by
  rw [exec_migrationStepDone, execMigrationStepDone]
  simp only [h]
  rw [if_neg]
  · rfl
  · cases ho : m.openAt with
    | none => simp [h4]
    | some t₀ => simpa [h4] using fun e => h5 e t₀ ho

/-- A step before the start checks, or step 6 once the selector has been open long enough, completes (R76, R90). -/
theorem migrationStepDone_advances (h : s.migrOf c = some m)
    (hs : m.step < 4 ∨ m.step = 5 ∧ (∀ t₀, m.openAt = some t₀ → t₀ + 20 ≤ s.now)) :
    ∃ t, exec (.migrationStepDone c) s = .next t ∧ (∃ k ∈ t.fab.migs, k.cell = m.cell ∧ k.step = m.step + 1) ∧
      (m.step = 2 → ∀ q ∈ m.parts, q.donor.isSome = true → t.cells[q.cell].selOpen = true ∧ t.cells[q.cell].inMask = none) ∧
      (m.step = 5 → ∀ q ∈ m.parts, t.cells[q.cell].inMask = some m.dest ∧ t.cells[q.cell].grp = some m.dest ∧
        t.cells[q.cell].sel = selFor q.cell m.dest ∧ t.cells[q.cell].selOpen = false) := by
  have h5 : m.step = 5 → ∀ t₀, m.openAt = some t₀ → t₀ + 20 ≤ s.now := fun h5 => hs.elim (by omega) And.right
  refine ⟨s.stepped m, (migrationStepDone_steps h (by omega) h5).trans (congrArg _ (if_neg (by omega))),
    stepped_step (mem_of_migrOf h), ?_, ?_⟩
  · intro h2 q hq hd
    rw [stepped_cells, h2]
    exact stepThree_opened m.dest s hq hd
  · intro h5 q hq
    rw [stepped_cells, h5]
    exact stepSix_belongs m.dest s hq

/-- Step 7 completes a migration: its cells are Active (R90, R92). -/
theorem migrationStepDone_completes (h : s.migrOf c = some m) (h6 : m.step = 6) :
    ∃ t, exec (.migrationStepDone c) s = .next t ∧ (∀ q ∈ m.parts, t.cells[q.cell].st = .active) ∧
      t.fab.mlog.result = 0 ∧ t.fab.mlog.dest = m.dest.val ∧ ∀ k ∈ t.fab.migs, k.cell ≠ m.cell := by
  obtain ⟨hres, hdest, hgone⟩ := endMigr_ended (s.stepped m) m 0
  refine ⟨_, (migrationStepDone_steps h (by omega) (by omega)).trans (congrArg _ (if_pos (by omega))), fun q hq => ?_, ?_⟩
  · rw [settle_cells, endMigr_st, stepped_cells, h6]
    exact stepSeven_active m.dest s hq
  · rw [settle_fab]
    exact ⟨hres, hdest, hgone⟩

/-! ### The start checks of a migration (R89, R92) -/

/-- The checks of every cell have passed once those of the last one have. -/
theorem passParts_all (l : List Part) (c : Cell) :
    (l.map fun q => if q.cell = c then { q with passed := true } else q).all (·.passed) = l.all fun q => q.passed || q.cell == c := by
  rw [List.all_map]
  refine congrArg l.all (funext fun q => ?_)
  by_cases hc : q.cell = c <;> simp [hc]

/-- Start checks that pass count for step 5, which completes with the last of them (R89, R90). -/
theorem passPart_step (h : m ∈ s.fab.migs) (h4 : m.step = 4) : ∃ k ∈ (s.passPart m c).fab.migs,
    k.cell = m.cell ∧ k.step = if (m.parts.all fun q => q.passed || q.cell == c) = true then 5 else 4 := by
  refine ⟨_, List.mem_map_of_mem h, ?_⟩
  rw [if_pos rfl, passParts_all]
  split
  · exact ⟨rfl, rfl⟩
  · exact ⟨rfl, h4⟩

theorem cellStartChecksDone_passes {o : StartObs} (h : s.migrOf c = some m) (hrun : s.checksRun c = true) (hp : startPass o = true) :
    ∃ t, exec (.cellStartChecksDone c o) s = .next t ∧
      ∃ k ∈ t.fab.migs, k.cell = m.cell ∧ k.step = if (m.parts.all fun q => q.passed || q.cell == c) = true then 5 else 4 :=
  ⟨_, (cellStartChecksDone_moving h hrun).trans (if_pos hp),
    passPart_step (by rw [retryOutcome_ok_fab]; exact mem_of_migrOf h) (step_of_checksRun h hrun)⟩

/-- Start checks that fail and are not tried again end the migration, its cells Idle (R92). -/
theorem cellStartChecksDone_ends {o : StartObs} (h : s.migrOf c = some m) (hrun : s.checksRun c = true) (hp : startPass o = false)
    (hw : s.willRetry bFAB 2 c.val = false) :
    ∃ u : State, exec (.cellStartChecksDone c o) s = .next (u.occur bFAB 2 c.val).settle ∧ u.fab.mlog.result = 2 ∧
      (∀ k ∈ u.fab.migs, k.cell ≠ m.cell) ∧ ∀ q ∈ m.parts, u.cells[q.cell].st = .idle := by
  obtain ⟨hres, -, hgone⟩ := endMigr_ended (s.idleParts m) m 2
  refine ⟨(s.idleParts m).endMigr m 2, ?_, hres, hgone, fun q hq => ?_⟩
  · exact (cellStartChecksDone_moving h hrun).trans ((if_neg (ne_true_of_eq_false hp)).trans (if_neg (ne_true_of_eq_false hw)))
  · rw [endMigr_st, idleParts_idle s hq]

/-! ### A step over its bound (R92) -/

/-- Before step 3 each cell of an aborted migration is as it was: Active in its donor, or as it started (R92). -/
theorem returnParts_st (s : State) {q : Part} (hq : q ∈ m.parts) (hn : m.cells.Nodup) :
    (forEach m.parts State.returnPart s).cells[q.cell].st = if q.donor.isSome = true then .active else q.start := by
  obtain ⟨t, -, he⟩ := returnPart_oneCell.forEach_once hn hq s
  rw [he, returnPart_st]

/-- A step over its bound ends its migration as aborted (R92). -/
theorem migrationStepOvertime_aborts (h : s.migrOf c = some m) (hb : m.stepAt + stepBound (m.step + 1) < s.now) (hn : m.cells.Nodup) :
    ∃ u : State, exec (.migrationStepOvertime c) s = .next (u.occur bFAB 4 m.cell.val).settle ∧ u.fab.mlog.result = 1 ∧
      (∀ k ∈ u.fab.migs, k.cell ≠ m.cell) ∧
      ∀ q ∈ m.parts, (3 ≤ m.step → u.cells[q.cell].st = .idle) ∧
        (m.step < 3 → u.cells[q.cell].st = if q.donor.isSome = true then .active else q.start) := by
  obtain ⟨hres, -, hgone⟩ := endMigr_ended (if m.step < 3 then forEach m.parts State.returnPart s else s.idleParts m) m 1
  refine ⟨_, ?_, hres, hgone, fun q hq => ?_⟩
  · rw [exec_migrationStepOvertime, execMigrationStepOvertime]
    simp only [h]
    exact if_pos hb
  · rw [endMigr_st]
    refine ⟨fun h3 => ?_, fun h3 => ?_⟩
    · rw [if_neg (by omega)]
      exact idleParts_idle s hq
    · rw [if_pos h3]
      exact returnParts_st s hq hn

end

/-- Settles O26: the order, and each event of a migration in progress, by its own lemma above. -/
theorem migrations : Obligations.Migrations :=
  ⟨fun _ _ ho => ⟨migrationLatch_accepted ho, migrationLatch_refused ho⟩,
    fun _ _ _ h => ⟨migrationStepDone_advances h, migrationStepDone_completes h,
      fun _ hrun => ⟨cellStartChecksDone_passes h hrun, cellStartChecksDone_ends h hrun⟩, migrationStepOvertime_aborts h⟩⟩

end Sys2Proof.Machine
end

section
/-!
PROOFS. The load branches (spec/04_culm_energy_ceiling.md): their protections, their precharge, their retries and the restore order.
First, what a branch's record is behind an update of it.
-/

namespace Sys2Proof.Machine

/-! ### The record of a branch -/

theorem setBranch_get (s : State) (b : Branch) (x : BranchRec) : (s.setBranch b x).branches[b] = x := vset_same ..

theorem setBranch_get_other (s : State) {b k : Branch} (x : BranchRec) (h : b ≠ k) : (s.setBranch b x).branches[k] = s.branches[k] :=
  vset_other _ _ _ _ h

/-- The success of a retry leaves the branches as they are. -/
@[simp] theorem retryOutcome_ok_branches (s : State) (b : Blk) (src : Src) (obj : Nat) :
    (s.retryOutcome b src obj true).branches = s.branches :=
  but_branches (fs := [.deferred, .flt, .x3, .xing, .log, .ret]) (by simp [retryOutcome_ok]) (by decide)

theorem openBranch_get (s : State) (b : Branch) : (s.openBranch b).branches[b] =
    { s.branches[b] with st := .opened, since := s.now, cur := 0, retryDue := none, retrying := none } := setBranch_get ..

theorem shedBranch_get (s : State) (b : Branch) : (s.shedBranch b).branches[b] =
    { s.branches[b] with st := .shed, cause := 5, since := s.now, lastCur := s.branches[b].cur.natAbs, cur := 0 } := setBranch_get ..

theorem startPrecharge_get (s : State) (b : Branch) : (s.startPrecharge b).branches[b] =
    { s.branches[b] with st := .precharge, since := s.now, await := false, byHalt := false } := setBranch_get ..

/-- A branch trips (R119, R120, R147): it waits for its retry, where one is left, or is Locked, and its source occurs, without a retry of
its own where the severity is Degrade. -/
theorem tripBranch_trips (s : State) (b : Branch) (cause : Nat) (src : Src) : ∃ u : State,
    s.tripBranch b cause src = (if u.branches[b].st = .tripped ∧ actSev bLOAD src (s.sevRaw bLOAD src) = 2
      then u.occurHard bLOAD src b.val false else u.occur bLOAD src b.val) ∧
    u.branches[b].cause = cause ∧ u.branches[b].cur = 0 ∧
    u.branches[b].st = if s.retryLeft b src = true ∧ s.branches[b].retrying = none then .tripped else .locked := by
  unfold State.tripBranch
  extract_lets retry degrade _ t
  have hget : t.branches[b] = _ := setBranch_get ..
  have hretry : retry = true ↔ s.retryLeft b src = true ∧ s.branches[b].retrying = none := by simp [retry]
  have hst : t.branches[b].st = if s.retryLeft b src = true ∧ s.branches[b].retrying = none then .tripped else .locked := by
    simp only [hget, hretry]
  have htripped : t.branches[b].st = .tripped ↔ retry = true := by rw [hst, hretry]; split <;> simp_all
  refine ⟨t, ?_, by rw [hget], by rw [hget], hst⟩
  simp only [htripped, Bool.and_eq_true, degrade, decide_eq_true_eq]

/-- The first branch of a list is shed (R122, R137). -/
theorem shedFirst_cons {s : State} {bs l : List Branch} {b : Branch} (src : Src) (obj : Branch → Nat) (h : s.shedOrder bs = b :: l) :
    s.shedFirst bs src obj = (s.shedBranch b).occur bLOAD src (obj b) := by
  unfold State.shedFirst
  rw [h]

/-! ### The protections of a branch (R119, R120, R147) -/

section
variable {s : State} {b : Branch}

/-- The instant level (R119, R126). -/
theorem branchInstantTrip_trips {i : Nat} (lt : Nat) (htrip : s.branches[b].tripable s.now = true ∨ s.branches[b].st = .precharge)
    (hi : 100 * s.branchEff b ≤ i) :
    ∃ u : State, exec (.branchInstantTrip b i lt) s = .next ((if u.branches[b].st = .tripped ∧ actSev bLOAD 0 (s.sevRaw bLOAD 0) = 2
        then u.occurHard bLOAD 0 b.val false else u.occur bLOAD 0 b.val).letThrough b.side.loadPort lt) ∧
      u.branches[b].st = (if s.retryLeft b 0 = true ∧ s.branches[b].retrying = none then .tripped else .locked) ∧
      u.branches[b].cause = 1 ∧ u.branches[b].cur = 0 := by
  obtain ⟨u, he, hcause, hcur, hst⟩ := tripBranch_trips s b 1 0
  exact ⟨u, he ▸ if_pos ⟨htrip, hi⟩, hst, hcause, hcur⟩

/-- The overload integral (R119). -/
theorem branchOverloadTrip_trips (htrip : s.branches[b].tripable s.now = true) (ho : s.overloaded b = true) :
    ∃ u : State, exec (.branchOverloadTrip b) s = .next (if u.branches[b].st = .tripped ∧ actSev bLOAD 1 (s.sevRaw bLOAD 1) = 2
        then u.occurHard bLOAD 1 b.val false else u.occur bLOAD 1 b.val) ∧ u.branches[b].cause = 2 ∧
      u.branches[b].st = (if s.retryLeft b 1 = true ∧ s.branches[b].retrying = none then .tripped else .locked) := by
  obtain ⟨u, he, hcause, -, hst⟩ := tripBranch_trips s b 2 1
  exact ⟨u, he ▸ if_pos ⟨htrip, ho⟩, hcause, hst⟩

/-- Reverse current, with `regen` and without (R120). -/
theorem branchBackfeedTrip_trips {rev heldUs : Nat} (htrip : s.branches[b].tripable s.now = true)
    (hrev : s.branchRegen b = true ∧ s.branchTrip b < rev ∨ s.branchRegen b = false ∧ 500 < rev ∧ 100 ≤ heldUs) :
    ∃ u : State, exec (.branchBackfeedTrip b rev heldUs) s = .next (if u.branches[b].st = .tripped ∧
        actSev bLOAD 2 (s.sevRaw bLOAD 2) = 2 then u.occurHard bLOAD 2 b.val false else u.occur bLOAD 2 b.val) ∧
      u.branches[b].cause = 3 ∧
      u.branches[b].st = (if s.retryLeft b 2 = true ∧ s.branches[b].retrying = none then .tripped else .locked) := by
  obtain ⟨u, he, hcause, -, hst⟩ := tripBranch_trips s b 3 2
  have hlevel : if s.branchRegen b = true then s.branchTrip b < rev else 500 < rev ∧ 100 ≤ heldUs := by
    rcases hrev with ⟨hr, h⟩ | ⟨hr, h⟩ <;> simpa [hr] using h
  exact ⟨u, he ▸ if_pos ⟨htrip, hlevel⟩, hcause, hst⟩

/-- A precharge that has not come far enough by its time (R120). -/
theorem branchPrechargeFailed_trips {v us : Nat} (hst : s.branches[b].st = .precharge)
    (hv : 1000 ≤ us ∧ 10 * v < s.culm.vmeas ∨ 50000 ≤ us ∧ (s.culm.vmeas + 1000 < v ∨ v + 1000 < s.culm.vmeas)) :
    ∃ u : State, exec (.branchPrechargeFailed b v us) s = .next (if u.branches[b].st = .tripped ∧
        actSev bLOAD 3 (s.sevRaw bLOAD 3) = 2 then u.occurHard bLOAD 3 b.val false else u.occur bLOAD 3 b.val) ∧ u.branches[b].cause = 4 ∧
      u.branches[b].st = (if s.retryLeft b 3 = true ∧ s.branches[b].retrying = none then .tripped else .locked) := by
  obtain ⟨u, he, hcause, -, hst'⟩ := tripBranch_trips s b 4 3
  exact ⟨u, he ▸ if_pos ⟨hst, by omega⟩, hcause, hst'⟩

/-- A precharge that meets the culm closes the branch (R120). -/
theorem branchPrechargeDone_closes {v : Nat} (hst : s.branches[b].st = .precharge) (hhi : v ≤ s.culm.vmeas + 1000)
    (hlo : s.culm.vmeas ≤ v + 1000) :
    ∃ t, exec (.branchPrechargeDone b v) s = .next t ∧ t.branches[b].st = .closed ∧ t.branches[b].s = 0 ∧
      t.branches[b].vout = min 65535 v := by
  refine ⟨_, if_pos ⟨hst, hhi, hlo⟩, ?_⟩
  split
  · rw [retryOutcome_ok_branches, setBranch_get]
    exact ⟨rfl, rfl, rfl⟩
  · rw [setBranch_get]
    exact ⟨rfl, rfl, rfl⟩

/-- A branch that is commanded Open and whose output follows the culm (R147). -/
theorem branchSwitchFailed_occurs {v us : Nat} (hst : s.branches[b].st.isOpen = true) (hhi : v ≤ s.culm.vmeas + 1000)
    (hlo : s.culm.vmeas ≤ v + 1000) (hus : 1000 ≤ us) : exec (.branchSwitchFailed b v us) s = .next (s.occur bLOAD 6 b.val true) :=
  if_pos ⟨hst, hhi, hlo, hus⟩

/-- Above 240 A on a load port its first branch in the shedding order is shed (R122). -/
theorem portSumOverload_sheds {sum us : Nat} {l : List Branch} (hsum : 24000 < sum) (hus : 10000 ≤ us)
    (hlast : ∀ t₀, s.loads[b.side].shedAt = some t₀ → t₀ + 10000 ≤ s.now)
    (hfirst : s.shedOrder (allBranches.filter fun k => k.side == b.side) = b :: l) :
    ∃ u : State, exec (.portSumOverload b.side sum us) s = .next (u.occur bLOAD 4 b.side.val) ∧ u.branches[b].st = .shed ∧
      ∀ k, k ≠ b → u.branches[k] = s.branches[k] := by
  have hall : (s.loads[b.side].shedAt.all fun t => decide (t + 10000 ≤ s.now)) = true := by
    rw [Option.all_eq_true]
    exact fun t₀ h => decide_eq_true (hlast t₀ h)
  refine ⟨_, (if_pos ⟨hsum, hus, hall⟩).trans (congrArg Host.Outcome.next (shedFirst_cons (b := b) (l := l) _ _ hfirst)), ?_,
    fun k hk => ?_⟩
  · rw [shedBranch_get]
  · exact setBranch_get_other _ _ hk.symm

/-! ### Retry and restore (R120, R123) -/

theorem fedFromOutside_eq_false (hv : s.branches[b].vout ≤ s.culm.vmeas + 1000) : s.fedFromOutside b = false :=
  decide_eq_false (Nat.not_lt.mpr hv)

/-- A branch whose voltage is not above the culm's goes to Precharge (R68, R120). -/
theorem tryPrecharge_starts (hv : s.branches[b].vout ≤ s.culm.vmeas + 1000) : s.tryPrecharge b = s.startPrecharge b :=
  if_neg (ne_true_of_eq_false (fedFromOutside_eq_false hv))

theorem exec_branchRetry : exec (.branchRetry b) s = execBranchRetry b s := rfl

section
variable {t₀ : Nat} (hst : s.branches[b].st = .tripped) (hdue : s.branches[b].retryDue = some t₀) (ht : t₀ + 1000000 ≤ s.now)
include hst hdue ht

/-- What a retry that is due does (R120, R443). -/
theorem branchRetry_due : exec (.branchRetry b) s =
    if s.otherLine bLOAD s.branches[b].trip b.val = true ∨ s.branchEn b = false then
      .next ((s.cancelRetry bLOAD s.branches[b].trip b.val).openBranch b)
    else if s.fedFromOutside b then .next (s.setBranch b { s.branches[b] with cause := 7 })
    else if s.culm.mode = .regulating then
      .next ((s.setBranch b { s.branches[b] with
        st := .precharge, since := s.now, retryDue := none, retryAt := some s.now, retrying := some s.branches[b].trip }).beginRetry
          bLOAD s.branches[b].trip b.val)
    else .next s := by
  rw [exec_branchRetry, execBranchRetry]
  simp only [hdue]
  exact if_pos ⟨hst, ht⟩

/-- Another source's line, or `en` 0, ends the retry: the branch stays Open. -/
theorem branchRetry_cancelled (h : s.otherLine bLOAD s.branches[b].trip b.val = true ∨ s.branchEn b = false) :
    ∃ t, exec (.branchRetry b) s = .next t ∧ t.branches[b].st = .opened ∧ t.retrying bLOAD s.branches[b].trip b.val = false :=
  ⟨_, (branchRetry_due hst hdue ht).trans (if_pos h), by rw [openBranch_get], cancelRetry_retrying ..⟩

/-- Without another line, and with `en` 1, the retry waits for the culm, begins, or is refused at an external source. -/
theorem branchRetry_retries (hline : s.otherLine bLOAD s.branches[b].trip b.val = false) (hen : s.branchEn b = true) :
    (s.fedFromOutside b = false → s.culm.mode ≠ .regulating → exec (.branchRetry b) s = .next s) ∧
    (s.culm.mode = .regulating →
      (s.branches[b].vout ≤ s.culm.vmeas + 1000 → ∃ t, exec (.branchRetry b) s = .next t ∧ t.branches[b].st = .precharge ∧
        t.branches[b].retrying = some s.branches[b].trip ∧ t.branches[b].retryAt = some s.now) ∧
      (s.culm.vmeas + 1000 < s.branches[b].vout → ∃ t, exec (.branchRetry b) s = .next t ∧
        t.branches[b] = { s.branches[b] with cause := 7 })) := by
  have hgo := (branchRetry_due hst hdue ht).trans (if_neg (not_or.mpr ⟨ne_true_of_eq_false hline, ne_false_of_eq_true hen⟩))
  have hget (x : BranchRec) (src : Src) : ((s.setBranch b x).beginRetry bLOAD src b.val).branches[b] = x := setBranch_get ..
  refine ⟨fun hfed hmode => hgo.trans ((if_neg (ne_true_of_eq_false hfed)).trans (if_neg hmode)), fun hmode =>
    ⟨fun hv => ⟨_, hgo.trans ((if_neg (ne_true_of_eq_false (fedFromOutside_eq_false hv))).trans (if_pos hmode)), ?_⟩,
      fun hv => ⟨_, hgo.trans (if_pos (decide_eq_true hv)), setBranch_get ..⟩⟩⟩
  rw [hget]
  exact ⟨rfl, rfl, rfl⟩

end

/-- The restore order returns the first branch that waits, once culm and spare capacity have held for 1 s (R123). -/
theorem branchRestore_returns {t₁ t₂ : Nat} (hwaits : s.waits b = true) (hfirst : s.firstToReturn b = true)
    (hnear : s.culm.near = some t₁) (h₁ : t₁ + 1000000 ≤ s.now) (hspare : s.branches[b].spareSince = some t₂)
    (h₂ : t₂ + 1000000 ≤ s.now) (hlast : ∀ t₃, s.culm.restoredAt = some t₃ → t₃ + 100000 ≤ s.now) (hdom : s.dom.st ≠ .stubble)
    (hhalt : s.halt[b.side.loadPort] = []) (hsafe : s.safeLine = []) (hv : s.branches[b].vout ≤ s.culm.vmeas + 1000) :
    ∃ t, exec (.branchRestore b) s = .next t ∧ t.branches[b].st = .precharge ∧ t.culm.restoredAt = some s.now := by
  have hexec : exec (.branchRestore b) s = execBranchRestore b s := rfl
  rw [hexec]
  unfold execBranchRestore
  extract_lets near spare apart t
  have hn : near = true := by
    unfold near
    rw [hnear]
    exact decide_eq_true h₁
  have hs : spare = true := by
    unfold spare
    rw [hspare]
    exact decide_eq_true h₂
  have ha : apart = true := by
    cases hr : s.culm.restoredAt with
    | none => simp [apart, hr]
    | some t₃ => simp [apart, hr, hlast t₃ hr]
  rw [if_pos (by rw [hwaits, hfirst, hn, hs, ha, hhalt, hsafe]; simp [hdom]),
    if_neg (ne_true_of_eq_false (fedFromOutside_eq_false hv)), show t = s.startPrecharge b from tryPrecharge_starts hv]
  refine ⟨_, rfl, ?_, rfl⟩
  exact congrArg BranchRec.st (startPrecharge_get s b)

end

/-- Settles O29: each protection, the retry and the restore order by its own lemma above. -/
theorem branches : Obligations.Branches := fun _ _ =>
  ⟨fun _ lt => branchInstantTrip_trips lt, branchOverloadTrip_trips, fun _ _ => branchBackfeedTrip_trips,
    fun _ => branchPrechargeDone_closes, fun _ _ => branchPrechargeFailed_trips,
    fun _ hst hdue ht => ⟨fun hline hen => (branchRetry_retries hst hdue ht hline hen).1,
      fun hline hen => (branchRetry_retries hst hdue ht hline hen).2, branchRetry_cancelled hst hdue ht⟩,
    fun _ _ => branchRestore_returns, fun _ _ _ => portSumOverload_sheds, fun _ _ => branchSwitchFailed_occurs⟩

end Sys2Proof.Machine
end

section
/-!
PROOFS. The culm and the stubble supply (spec/04_culm_energy_ceiling.md): the culm's modes, and what its shortfall, under-voltage and
surplus make of the branches. First, what an occurrence makes of a branch, and what an update of one branch after another leaves of each.
-/

namespace Sys2Proof.Machine

/-! ### Changes that close no branch -/

/-- A change of the state that closes no branch: one that is Closed behind it was so before, with the same record. -/
structure State.Opens (s t : State) : Prop where
  same : ∀ b : Branch, t.branches[b].st = .closed → t.branches[b] = s.branches[b]

theorem State.Opens.refl (s : State) : s.Opens s := ⟨fun _ _ => rfl⟩

theorem State.Opens.trans {s t u : State} (h : s.Opens t) (k : t.Opens u) : s.Opens u := ⟨fun b hb => by
  have e := k.same b hb
  rw [e] at hb ⊢
  exact h.same b hb⟩

theorem State.Opens.ne_closed {s t : State} (h : s.Opens t) {b : Branch} (hb : s.branches[b].st ≠ .closed) :
    t.branches[b].st ≠ .closed := fun ht => hb (h.same b ht ▸ ht)

theorem opens_of_eq {s t : State} (e : t.branches = s.branches) : s.Opens t := ⟨fun b _ => by rw [e]⟩

theorem set_culm_branches (s : State) (x : CulmRec) : ({ s with culm := x } : State).branches = s.branches := rfl

theorem culm_opens (s : State) (x : CulmRec) : s.Opens { s with culm := x } := opens_of_eq (set_culm_branches s x)

theorem setBranch_opens {s : State} {b : Branch} {x : BranchRec} (h : x.st = .closed → x = s.branches[b]) : s.Opens (s.setBranch b x) := by
  refine ⟨fun k hk => ?_⟩
  by_cases hb : b = k
  · subst hb
    rw [setBranch_get] at hk ⊢
    exact h hk
  · exact setBranch_get_other _ _ hb

theorem forEach_opens {α : Type} {f : State → α → State} (h : ∀ (s : State) (a : α), s.Opens (f s a)) (l : List α) (s : State) :
    s.Opens (forEach l f s) := forEach_keeps (s.Opens ·) f (fun t a ht => ht.trans (h t a)) l (.refl s)

theorem openBranch_opens (s : State) (b : Branch) : s.Opens (s.openBranch b) := setBranch_opens fun h => nomatch h

theorem shedBranch_opens (s : State) (b : Branch) : s.Opens (s.shedBranch b) := setBranch_opens fun h => nomatch h

/-- A halt line opens every branch of its port but a Locked one (R120). -/
theorem haltBranches_opens (s : State) (p : Port) : s.Opens (s.haltBranches p) := by
  unfold State.haltBranches
  split
  · refine forEach_opens (fun s b => setBranch_opens fun h => ?_) _ s
    unfold BranchRec.haltedBy at h ⊢
    split
    · rfl
    · rw [if_neg ‹_›] at h
      nomatch h
  · exact .refl s

theorem assertHalt_opens (s : State) (p : Port) (d : Driver) : s.Opens (s.assertHalt p d) := by
  unfold State.assertHalt
  extract_lets t
  have hbefore (u : State) : u.Opens (((u.haltGroup p).haltSource p).haltBattery p) :=
    opens_of_eq (but_branches (fs := [.fab, .groups, .cells, .src, .bat, .fdr]) (by simp) (by decide))
  have hset (l : List Driver) : s.Opens (s.setHalt p l) := opens_of_eq rfl
  have ht : s.Opens t := (hset _).trans ((hbefore _).trans (haltBranches_opens _ p))
  exact ht.trans (opens_of_eq (but_branches (fs := [.groups, .ctx, .chg, .src, .fdr, .bat]) (by split <;> simp) (by decide)))

theorem shedTo250_opens (s : State) (l : List Branch) : s.Opens (s.shedTo250 l) := by
  induction l generalizing s with
  | nil => exact .refl s
  | cons b l ih =>
    unfold State.shedTo250
    split
    · exact .refl s
    · have hdeferred (u : State) (l : List Deferred) : u.Opens { u with deferred := l } := opens_of_eq rfl
      exact ((shedBranch_opens s b).trans (hdeferred _ _)).trans (ih _)

theorem openUnsettled_opens (s : State) (b : Branch) : s.Opens (s.openUnsettled b) := by
  unfold State.openUnsettled
  split
  · exact openBranch_opens s b
  · exact .refl s

/-- The culm behind the Safe line, with a stubble supply and without one (R136). -/
def State.onStubble (s : State) : State := { s with culm := { s.culm with mode := .stubble, supOn := true, within2 := none, supOver := none } }
def State.withoutSupply (s : State) : State := { s with culm := { s.culm with mode := .off, supOn := false, within2 := none } }

/-- The Safe line opens the branches in Precharge, and then sheds what the stubble supply does not take, or opens the Closed ones
(R120, R136). -/
theorem safeLoads_eq (s : State) : s.safeLoads =
    if (forEach allBranches State.openUnsettled s).stubbleCan then
      ((forEach allBranches State.openUnsettled s).shedTo250 ((forEach allBranches State.openUnsettled s).shedOrder allBranches)).onStubble
    else (forEach allBranches (fun s b => if s.branches[b].st = .closed then s.openBranch b else s)
      (forEach allBranches State.openUnsettled s)).withoutSupply := by
  unfold State.safeLoads State.onStubble State.withoutSupply
  dsimp only

theorem safeLoads_opens (s : State) : s.Opens s.safeLoads := by
  have ht := forEach_opens openUnsettled_opens allBranches s
  rw [safeLoads_eq]
  split
  · exact (ht.trans (shedTo250_opens ..)).trans (culm_opens ..)
  · refine (ht.trans (forEach_opens (fun s b => ?_) allBranches _)).trans (culm_opens ..)
    split
    · exact openBranch_opens s b
    · exact .refl s

theorem assertSafe_opens (s : State) (d : Driver) : s.Opens (s.assertSafe d) := by
  have hbefore (u : State) : u.Opens (u.unsettle u.culm.vmeas).stopAll :=
    opens_of_eq (but_branches (fs := [.awn, .deferred, .fab, .groups, .cells]) (by simp) (by decide))
  have hafter (u : State) : u.Opens u.safePorts.safeActivation.enterStubble.settle :=
    opens_of_eq (but_branches (fs := [.src, .bat, .fdr, .img, .dom, .thr, .groups, .ctx, .chg]) (by simp) (by decide))
  unfold State.assertSafe
  extract_lets first t
  have ht : s.Opens t := opens_of_eq rfl
  split
  · exact ((ht.trans (hbefore t)).trans (safeLoads_opens _)).trans (hafter _)
  · exact ht

/-- The Degrade action on a branch locks it (R147); that of any other block leaves the branches. -/
theorem degrade_opens (s : State) (b : Blk) (src : Src) (obj : Nat) : s.Opens (s.degrade b src obj) := by
  unfold State.degrade
  extract_lets d
  split
  case h_2 =>
    split
    · exact setBranch_opens fun h => nomatch h
    · exact .refl s
  all_goals
    exact opens_of_eq (but_branches (fs := [.fab, .groups, .cells, .ctx, .chg, .est]) (by (repeat' split) <;> simp) (by decide))

theorem reactLines_opens (s : State) (b : Blk) (src : Src) (obj : Nat) : s.Opens (s.reactLines b src obj) := by
  unfold State.reactLines
  split
  · exact forEach_opens (fun s p => assertHalt_opens s p _) _ s
  · exact assertSafe_opens s _
  · exact .refl s

theorem react_opens (s : State) (b : Blk) (src : Src) (obj : Nat) : s.Opens (s.react b src obj) := by
  unfold State.react
  split
  · exact .refl s
  · split
    · exact opens_of_eq (but_branches (fs := [.flt]) (by simp) (by decide))
    · extract_lets x
      split
      · exact degrade_opens s b src obj
      · exact opens_of_eq rfl
    · exact reactLines_opens s b src obj

/-! ### An occurrence: its report, then its reaction -/

/-- The fields that an occurrence may change before it reacts. -/
def Fld.ofReport : List Fld := [.deferred, .flt, .x3, .xing, .log, .ret, .src]

/-- An occurrence is reported, which leaves the severity in effect, and then reacts or does not. -/
theorem occur_reports (s : State) (b : Blk) (src : Src) (obj : Nat) (stays : Bool) : ∃ u, ChangesOnly Fld.ofReport s u ∧
    u.flt[b].sev = s.flt[b].sev ∧ (s.occur b src obj stays = u ∨ s.occur b src obj stays = u.react b src obj) := by
  unfold State.occur
  split
  · exact ⟨s, rfl, rfl, .inl rfl⟩
  split
  · exact ⟨s, rfl, rfl, .inl rfl⟩
  extract_lets t
  have ht : t.flt[b].sev = s.flt[b].sev := markLive_sev s b b src obj stays
  split
  · exact ⟨t, by simp [ChangesOnly, Fld.ofReport, t], ht, .inl rfl⟩
  · unfold State.occurred
    extract_lets u x running inWindow
    have hu : u.flt[b].sev = s.flt[b].sev := (latch_sev t b src).trans ht
    have hset (y : BlkFault) (hy : y.sev = u.flt[b].sev) : (u.setFlt b y).flt[b].sev = s.flt[b].sev :=
      (setFlt_sev_same u b b y hy).trans hu
    split
    · split
      · refine ⟨_, by simp [ChangesOnly, Fld.ofReport, t, u], ?_, .inr rfl⟩
        rw [report_flt, retryLost_flt]
        exact hset _ rfl
      · split
        · exact ⟨_, by simp [ChangesOnly, Fld.ofReport, t, u], by rw [report_flt, hu], .inr rfl⟩
        · refine ⟨_, by simp [ChangesOnly, Fld.ofReport, t, u], ?_, .inl rfl⟩
          rw [report_flt]
          exact hset _ rfl
    · exact ⟨_, by simp [ChangesOnly, Fld.ofReport, t, u], by rw [report_flt, hu], .inr rfl⟩

theorem occur_opens (s : State) (b : Blk) (src : Src) (obj : Nat) (stays : Bool) : s.Opens (s.occur b src obj stays) := by
  obtain ⟨u, hu, -, he | he⟩ := occur_reports s b src obj stays
  · exact he ▸ opens_of_eq (but_branches hu (by decide))
  · exact he ▸ (opens_of_eq (but_branches hu (by decide))).trans (react_opens u b src obj)

/-- A reaction leaves the severity in effect. -/
theorem react_sev (s : State) (b : Blk) (src : Src) (obj : Nat) : (s.react b src obj).flt[b].sev = s.flt[b].sev := by
  have of_flt {t : State} (h : t.flt = s.flt) : t.flt[b].sev = s.flt[b].sev := by rw [h]
  unfold State.react
  split
  · rfl
  · split
    · exact setFlt_sev_same s b b _ rfl
    · extract_lets x
      split
      · exact of_flt (flt_of_but (by simp))
      · exact setFlt_sev_same s b b _ rfl
    · exact of_flt (reactLines_flt ..)

theorem occur_sev (s : State) (b : Blk) (src : Src) (obj : Nat) (stays : Bool) :
    (s.occur b src obj stays).flt[b].sev = s.flt[b].sev := by
  obtain ⟨u, -, hsev, he | he⟩ := occur_reports s b src obj stays
  · rw [he, hsev]
  · rw [he, react_sev, hsev]

/-- A hard occurrence is reported, and then reacts. -/
theorem occurHard_reports (s : State) (b : Blk) (src : Src) (obj : Nat) (stays : Bool) : ∃ u, ChangesOnly Fld.ofReport s u ∧
    (s.occurHard b src obj stays = u ∨ s.occurHard b src obj stays = u.react b src obj) := by
  unfold State.occurHard
  split
  · exact ⟨s, rfl, .inl rfl⟩
  extract_lets t
  split
  · exact ⟨t, by simp [ChangesOnly, Fld.ofReport, t], .inl rfl⟩
  · exact ⟨_, by simp [ChangesOnly, Fld.ofReport, t], .inr rfl⟩

theorem occurHard_opens (s : State) (b : Blk) (src : Src) (obj : Nat) (stays : Bool) : s.Opens (s.occurHard b src obj stays) := by
  obtain ⟨u, hu, he | he⟩ := occurHard_reports s b src obj stays
  · exact he ▸ opens_of_eq (but_branches hu (by decide))
  · exact he ▸ (opens_of_eq (but_branches hu (by decide))).trans (react_opens u b src obj)

/-- A trip opens its branch, and its reaction may open others. -/
theorem tripBranch_opens (s : State) (b : Branch) (cause : Nat) (src : Src) : s.Opens (s.tripBranch b cause src) := by
  unfold State.tripBranch
  extract_lets retry degrade _ t
  have ht : s.Opens t := setBranch_opens fun h => by cases hr : retry <;> simp [hr] at h
  split
  · exact ht.trans (occurHard_opens ..)
  · exact ht.trans (occur_opens ..)

theorem tripBranch_ne_closed (s : State) (b : Branch) (cause : Nat) (src : Src) : (s.tripBranch b cause src).branches[b].st ≠ .closed := by
  obtain ⟨u, he, -, -, hst⟩ := tripBranch_trips s b cause src
  have hu : u.branches[b].st ≠ .closed := by rw [hst]; split <;> simp
  rw [he]
  split
  · exact (occurHard_opens u bLOAD src b.val false).ne_closed hu
  · exact (occur_opens u bLOAD src b.val false).ne_closed hu

/-! ### What the Safe line leaves of the culm -/

theorem safeLoads_figures (s : State) : s.safeLoads.culm.vmeas = s.culm.vmeas ∧ s.safeLoads.culm.shedLevels = s.culm.shedLevels := by
  have hstubble {t : State} (h : t.culm = s.culm) :
      t.onStubble.culm.vmeas = s.culm.vmeas ∧ t.onStubble.culm.shedLevels = s.culm.shedLevels := by simp [State.onStubble, h]
  have hwithout {t : State} (h : t.culm = s.culm) :
      t.withoutSupply.culm.vmeas = s.culm.vmeas ∧ t.withoutSupply.culm.shedLevels = s.culm.shedLevels := by simp [State.withoutSupply, h]
  have ht : (forEach allBranches State.openUnsettled s).but [.deferred, .branches] = s.but [.deferred, .branches] :=
    forEach_but _ _ _ fun _ _ => by simp
  rw [safeLoads_eq]
  split
  · exact hstubble (but_culm ((shedTo250_but _ _ (by decide) (by decide)).trans ht) (by decide))
  · exact hwithout (but_culm ((forEach_but _ _ _ fun u b => by split <;> simp).trans ht) (by decide))

theorem assertSafe_figures (s : State) (d : Driver) :
    (s.assertSafe d).culm.vmeas = s.culm.vmeas ∧ (s.assertSafe d).culm.shedLevels = s.culm.shedLevels := by
  have hbefore (u : State) : (u.unsettle u.culm.vmeas).stopAll.culm = u.culm :=
    but_culm (fs := [.awn, .deferred, .fab, .groups, .cells]) (by simp) (by decide)
  have hafter (u : State) : u.safePorts.safeActivation.enterStubble.settle.culm = u.culm :=
    but_culm (fs := [.src, .bat, .fdr, .img, .dom, .thr, .groups, .ctx, .chg]) (by simp) (by decide)
  unfold State.assertSafe
  extract_lets first t
  obtain ⟨hv, hn⟩ := safeLoads_figures (t.unsettle t.culm.vmeas).stopAll
  rw [hbefore t] at hv hn
  split
  · rw [hafter]
    exact ⟨hv, hn⟩
  · exact ⟨rfl, rfl⟩

/-- No occurrence measures the culm, and none counts the priority levels that a shortfall has shed. -/
theorem figures_steady (v n : Nat) : State.Steady (fun s => s.culm.vmeas = v ∧ s.culm.shedLevels = n) where
  but hb h := by rwa [but_culm hb (by decide)]
  safe {s} d h := by
    obtain ⟨hv, hn⟩ := assertSafe_figures s d
    rwa [hv, hn]

theorem tripBranch_steady {P : State → Prop} (hP : State.Steady P) {s : State} (b : Branch) (cause : Nat) (src : Src) (h : P s) :
    P (s.tripBranch b cause src) := by
  unfold State.tripBranch
  extract_lets retry degrade _ t
  have ht : P t := hP.but (by simp [t]) h
  split
  · unfold State.occurHard
    split
    · exact ht
    extract_lets u
    split
    · exact hP.but (by simp [u]) ht
    · exact react_steady hP _ _ _ (hP.but (by simp [u]) ht)
  · exact occur_steady hP _ _ _ _ ht

/-! ### One branch after another -/

section
variable {P : State → Prop} {f : State → Branch → State} (hP : ∀ t b, P t → P (f t b))
  (hf : ∀ t b k, P t → b ≠ k → (f t b).branches[k] = t.branches[k])
include hP hf

theorem forEach_branch_other {l : List Branch} {k : Branch} (hk : k ∉ l) {s : State} (hs : P s) :
    (forEach l f s).branches[k] = s.branches[k] := by
  induction l generalizing s with
  | nil => rfl
  | cons b l ih =>
    have hb : b ≠ k := fun e => hk (e ▸ List.mem_cons_self)
    exact (ih (fun h => hk (List.mem_cons_of_mem b h)) (hP s b hs)).trans (hf s b k hs hb)

/-- An update of every branch meets each as it was before, and has the last word on it. -/
theorem forEach_branch {s : State} (hs : P s) (b : Branch) : ∃ t : State, P t ∧ t.branches[b] = s.branches[b] ∧
    (forEach allBranches f s).branches[b] = (f t b).branches[b] := by
  obtain ⟨l, m, he⟩ := List.append_of_mem (List.mem_finRange b)
  have hn : (l ++ b :: m).Nodup := he ▸ List.nodup_finRange 8
  obtain ⟨-, hm, hlm⟩ := List.nodup_append.mp hn
  have hl : P (forEach l f s) := forEach_keeps P f hP l hs
  have hsplit : forEach allBranches f s = forEach m f (f (forEach l f s) b) := by
    unfold forEach allBranches
    rw [he, List.foldl_append, List.foldl_cons]
  refine ⟨forEach l f s, hl, forEach_branch_other hP hf (fun h => hlm b h b List.mem_cons_self rfl) hs, ?_⟩
  rw [hsplit]
  exact forEach_branch_other hP hf (List.nodup_cons.mp hm).1 (hP _ b hl)

end

theorem isOpen_iff (x : BranchState) : x.isOpen = true ↔ ¬(x = .closed ∨ x = .precharge) := by
  cases x <;> simp [BranchState.isOpen]

/-- An update that opens every branch whose switch is on leaves the others in the states that they keep (R120). -/
theorem forEach_opened {f : State → Branch → State} (hopen : ∀ t b, t.branches[b].st.isOpen = true → f t b = t)
    (hon : ∀ t b, t.branches[b].st.isOpen ≠ true → (f t b).branches[b].st = .opened)
    (hother : ∀ t b k, b ≠ k → (f t b).branches[k] = t.branches[k]) (s : State) (b : Branch) :
    (forEach allBranches f s).branches[b].st = if s.branches[b].st.isOpen = true then s.branches[b].st else .opened := by
  obtain ⟨t, -, ht, he⟩ := forEach_branch (P := fun _ => True) (fun _ _ _ => trivial) (fun t b k _ => hother t b k) trivial b
  rw [he, ← ht]
  split
  · rw [hopen t b ‹_›]
  · exact hon t b ‹_›

/-- What a culm without supply does to a branch. -/
def State.openOn (s : State) (b : Branch) : State :=
  if s.branches[b].st = .closed ∨ s.branches[b].st = .precharge then s.openBranch b else s

theorem openAll_eq (s : State) : s.openAll = forEach allBranches State.openOn s := rfl

/-- Every branch opens, but one that is open in a state that it keeps (R114, R120, R138). -/
theorem openAll_st (s : State) (b : Branch) :
    s.openAll.branches[b].st = if s.branches[b].st.isOpen = true then s.branches[b].st else .opened := by
  rw [openAll_eq]
  refine forEach_opened (f := State.openOn) (fun t b h => if_neg ((isOpen_iff _).mp h)) (fun t b h => ?_) (fun t b k hk => ?_) s b
  · rw [State.openOn, if_pos (not_not.mp fun hn => h ((isOpen_iff _).mpr hn)), openBranch_get]
  · unfold State.openOn
    split
    · exact setBranch_get_other _ _ hk
    · rfl

/-- The culm Off and the stubble supply stopped: every branch opens (R114, R137, R138). -/
theorem culmOff_st (s : State) (b : Branch) :
    s.culmOff.branches[b].st = if s.branches[b].st.isOpen = true then s.branches[b].st else .opened := by
  have h : s.culmOff.branches = s.openAll.branches := set_culm_branches _ _
  rw [h]
  exact openAll_st s b

theorem stopSupply_st (s : State) (b : Branch) :
    s.stopSupply.branches[b].st = if s.branches[b].st.isOpen = true then s.branches[b].st else .opened := by
  have hset (u : State) (x : CulmRec) (y : ImgRec) : ({ u with culm := x, img := y } : State).branches = u.branches := rfl
  have h : s.stopSupply.branches = s.openAll.branches := hset _ _ _
  rw [h]
  exact openAll_st s b

/-! ### The culm's modes (R114-R117) -/

section
variable {s : State}

/-- With no flow to supply it the culm is Off, and every branch opens (R114). -/
theorem culmPrechargeDone_off (v heldUs : Nat) (hmode : s.culm.mode = .precharge) (hsup : s.canSupply = false) :
    ∃ t, exec (.culmPrechargeDone v heldUs) s = .next t ∧ t.culm.mode = .off ∧
      ∀ b : Branch, t.branches[b].st = if s.branches[b].st.isOpen = true then s.branches[b].st else .opened :=
  ⟨s.culmOff, (if_pos hmode).trans (if_pos hsup), rfl, culmOff_st s⟩

theorem closeBranch_other {b k : Branch} (h : b ≠ k) : (s.closeBranch b).branches[k] = s.branches[k] := by
  unfold State.closeBranch State.tryPrecharge
  extract_lets x
  split
  · split <;> exact setBranch_get_other _ _ h
  · rfl

/-- What keeps an Open branch from nothing but a culm that is Regulating: `en`, no return of its own to wait for, no line, and a voltage
that is not above the culm's (R68, R120). -/
structure State.MayClose (s : State) (b : Branch) : Prop where
  st : s.branches[b].st = .opened
  en : s.branchEn b = true
  byHalt : s.branches[b].byHalt = false
  await : s.branches[b].await = false
  halt : s.halt[b.side.loadPort] = []
  safeLine : s.safeLine = []
  vout : s.branches[b].vout ≤ s.culm.vmeas + 1000

theorem closeBranch_precharges {b : Branch} (h : s.MayClose b) (hmode : s.culm.mode = .regulating) :
    (s.closeBranch b).branches[b].st = .precharge := by
  have hc : s.closeBranch b = s.tryPrecharge b := if_pos ⟨h.st, h.en, h.byHalt, h.await, h.halt, h.safeLine, .inl hmode⟩
  rw [hc, tryPrecharge_starts h.vout, startPrecharge_get]

/-- What may close rests on its own record, and on no other branch. -/
theorem mayClose_of_but {t : State} {b : Branch} (ht : t.but [.branches] = s.but [.branches]) (hb : t.branches[b] = s.branches[b])
    (h : s.MayClose b) : t.MayClose b where
  st := by rw [hb, h.st]
  en := by rw [State.branchEn, reg_of_rw _ (but_rw ht (by decide))]; exact h.en
  byHalt := by rw [hb, h.byHalt]
  await := by rw [hb, h.await]
  halt := by rw [but_halt ht (by decide), h.halt]
  safeLine := by rw [but_safeLine ht (by decide), h.safeLine]
  vout := by rw [hb, but_culm ht (by decide)]; exact h.vout

/-- Once the culm is Regulating, every branch that may close goes to Precharge (R120). -/
theorem closeBranches_precharge {b : Branch} (h : s.MayClose b) (hmode : s.culm.mode = .regulating) :
    (forEach allBranches State.closeBranch s).branches[b].st = .precharge := by
  obtain ⟨t, ht, hb, he⟩ := forEach_branch (P := fun t => t.but [.branches] = s.but [.branches]) (f := State.closeBranch)
    (fun t b ht => (closeBranch_but t b (by decide)).trans ht) (fun _ _ _ _ => closeBranch_other) rfl b
  rw [he]
  exact closeBranch_precharges (mayClose_of_but ht hb h) (by rw [but_culm ht (by decide), hmode])

/-- Within 2 % of the setpoint for 10 ms the precharge ends: the culm is Regulating, and enabled branches precharge (R114, R120). -/
theorem culmPrechargeDone_regulates {v heldUs : Nat} (hmode : s.culm.mode = .precharge) (hsup : s.canSupply = true)
    (hhi : 50 * v ≤ 51 * s.culm.vset) (hlo : 49 * s.culm.vset ≤ 50 * v) (hheld : 10000 ≤ heldUs) :
    ∃ t, exec (.culmPrechargeDone v heldUs) s = .next t ∧ t.culm.mode = .regulating ∧ t.culm.vmeas = min 65535 v ∧
      ∀ b : Branch, s.branches[b].st = .opened → s.branchEn b = true → s.branches[b].byHalt = false → s.branches[b].await = false →
        s.halt[b.side.loadPort] = [] → s.safeLine = [] → s.branches[b].vout ≤ min 65535 v + 1000 → t.branches[b].st = .precharge := by
  have hculm (u : State) : (forEach allBranches State.closeBranch u).culm = u.culm :=
    but_culm (fs := [.branches]) (forEach_but _ _ _ fun t b => closeBranch_but t b (by decide)) (by decide)
  refine ⟨_, (if_pos hmode).trans ((if_neg (ne_false_of_eq_true hsup)).trans (if_pos ⟨hhi, hlo, hheld⟩)), ?_, ?_,
    fun b hst hen hbyHalt hawait hhalt hsafe hv => closeBranches_precharge ⟨hst, hen, hbyHalt, hawait, hhalt, hsafe, hv⟩ rfl⟩
  · rw [hculm]
  · rw [hculm]
    rfl

/-- What an under-voltage does to a branch (R116). -/
def State.openAwaiting (s : State) (b : Branch) : State :=
  if s.branches[b].st = .closed ∨ s.branches[b].st = .precharge then
    (s.openBranch b).setBranch b { (s.openBranch b).branches[b] with await := true }
  else s

theorem openAwaiting_st (s : State) (b : Branch) : (forEach allBranches State.openAwaiting s).branches[b].st =
    if s.branches[b].st.isOpen = true then s.branches[b].st else .opened := by
  refine forEach_opened (f := State.openAwaiting) (fun t b h => if_neg ((isOpen_iff _).mp h)) (fun t b h => ?_) (fun t b k hk => ?_) s b
  · rw [State.openAwaiting, if_pos (not_not.mp fun hn => h ((isOpen_iff _).mpr hn)), setBranch_get, openBranch_get]
  · unfold State.openAwaiting
    split
    · exact (setBranch_get_other _ _ hk).trans (setBranch_get_other _ _ hk)
    · rfl

/-- Below the under-voltage level for 2 ms every branch opens, and CULM source 1 occurs (R116). -/
theorem culmUnderVoltage_opens {v heldUs : Nat} (hoff : s.culm.mode ≠ .off) (hstub : s.culm.mode ≠ .stubble)
    (hpre : s.culm.mode ≠ .precharge) (hv : v < s.culm.uv) (hheld : 2000 ≤ heldUs) :
    ∃ u : State, exec (.culmUnderVoltage v heldUs) s = .next (u.occur bCULM 1 0 true) ∧ u.culm.mode = .underVoltage ∧
      ∀ b : Branch, u.branches[b].st = if s.branches[b].st.isOpen = true then s.branches[b].st else .opened := by
  have hexec : exec (.culmUnderVoltage v heldUs) s = execCulmUnderVoltage v heldUs s := rfl
  rw [hexec, execCulmUnderVoltage, if_pos ⟨hoff, hstub, hpre, hv, hheld⟩]
  refine ⟨_, rfl, rfl, fun b => ?_⟩
  rw [set_culm_branches]
  exact openAwaiting_st s b

/-! ### A surplus (R117) -/

/-- What a surplus does to a branch: one that carries reverse current trips. -/
def State.tripReverse (s : State) (b : Branch) : State :=
  if s.branches[b].st = .closed ∧ 0 < s.branches[b].cur then s.tripBranch b 3 2 else s

theorem tripReverse_opens (s : State) (b : Branch) : s.Opens (s.tripReverse b) := by
  unfold State.tripReverse
  split
  · exact tripBranch_opens ..
  · exact .refl s

theorem tripReverse_own (s : State) (b : Branch) (h : (s.tripReverse b).branches[b].st = .closed) :
    (s.tripReverse b).branches[b].cur ≤ 0 := by
  unfold State.tripReverse at h ⊢
  split
  case isTrue hc =>
    rw [if_pos hc] at h
    exact absurd h (tripBranch_ne_closed s b 3 2)
  case isFalse hc =>
    rw [if_neg hc] at h
    exact Int.not_lt.mp fun hcur => hc ⟨h, hcur⟩

/-- A branch that is still Closed behind a surplus carries no reverse current: no later trip changes or closes it. -/
theorem tripReverses_cur (s : State) (b : Branch) (h : (forEach allBranches State.tripReverse s).branches[b].st = .closed) :
    s.branches[b].cur ≤ 0 := by
  have hcur : (forEach allBranches State.tripReverse s).branches[b].cur ≤ 0 := by
    refine foldl_reaches (fun t : State => t.branches[b].st = .closed → t.branches[b].cur ≤ 0) (fun _ => True) State.tripReverse
      (fun _ _ _ => trivial) (fun t k ht hk => ?_) (fun t _ => tripReverse_own t b) (List.mem_finRange b) trivial h
    have e := (tripReverse_opens t k).same b hk
    rw [e] at hk ⊢
    exact ht hk
  rwa [(forEach_opens tripReverse_opens allBranches s).same b h] at hcur

/-- At 61 V for 100 us the branches that carry reverse current open; from 62 V on CULM source 0 occurs (R117). -/
theorem culmSurplusOpen_opens {v heldUs : Nat} (hv : 61000 ≤ v) (hheld : 100 ≤ heldUs) :
    ∃ u : State, exec (.culmSurplusOpen v heldUs) s = .next (if 62000 ≤ v then u.occur bCULM 0 0 else u) ∧ u.culm.vmeas = min 65535 v ∧
      ∀ b : Branch, u.branches[b].st = .closed → s.branches[b].cur ≤ 0 := by
  let t : State := { s with culm := { s.culm with vmeas := sat 65535 v } }
  refine ⟨forEach allBranches State.tripReverse t, if_pos ⟨hv, hheld⟩, ?_, fun b hb => tripReverses_cur t b hb⟩
  have hsteady := figures_steady (min 65535 v) s.culm.shedLevels
  have hkeep (u : State) (b : Branch) (hu : u.culm.vmeas = min 65535 v ∧ u.culm.shedLevels = s.culm.shedLevels) :
      (u.tripReverse b).culm.vmeas = min 65535 v ∧ (u.tripReverse b).culm.shedLevels = s.culm.shedLevels := by
    unfold State.tripReverse
    split
    · exact tripBranch_steady hsteady b 3 2 hu
    · exact hu
  exact (forEach_keeps (fun u => u.culm.vmeas = min 65535 v ∧ u.culm.shedLevels = s.culm.shedLevels) State.tripReverse hkeep allBranches
    (s := t) ⟨rfl, rfl⟩).1

/-! ### A shortfall (R115) -/

/-- What a shortfall that sheds a priority level does to a branch. -/
def State.shedLevel (k : Nat) (s : State) (b : Branch) : State :=
  if s.branches[b].st = .closed ∧ s.branchPrio b = k then (s.shedBranch b).occur bLOAD 7 b.val else s

theorem shedLevel_opens (k : Nat) (s : State) (b : Branch) : s.Opens (s.shedLevel k b) := by
  unfold State.shedLevel
  split
  · exact (shedBranch_opens s b).trans (occur_opens ..)
  · exact .refl s

theorem shedLevel_rw (k : Nat) (s : State) (b : Branch) : (s.shedLevel k b).rw = s.rw := by
  have h (t : State) : ((t.shedBranch b).occur bLOAD 7 b.val).rw = t.rw :=
    but_rw (fs := [.deferred, .flt, .safeLine, .halt, .x3, .xing, .log, .ret, .dom, .img, .fab, .groups, .cells, .culm, .branches, .src,
      .ctx, .bat, .fdr, .chg, .est, .thr, .awn]) (by simp) (by decide)
  unfold State.shedLevel
  split
  · exact h s
  · rfl

theorem branchPrio_of_rw {t : State} (b : Branch) (h : t.rw = s.rw) : t.branchPrio b = s.branchPrio b := by
  rw [State.branchPrio, reg_of_rw _ h, State.branchPrio]

theorem shedLevel_own {k : Nat} {b : Branch} (hb : s.branchPrio b = k) : (s.shedLevel k b).branches[b].st ≠ .closed := by
  unfold State.shedLevel
  split
  case isTrue => exact (occur_opens ..).ne_closed (by rw [shedBranch_get]; simp)
  case isFalse hn => exact fun h => hn ⟨h, hb⟩

/-- No branch of the level that is shed is Closed behind the shed, whatever the reactions did. -/
theorem shedLevels_ne_closed {k : Nat} {b : Branch} (hb : s.branchPrio b = k) :
    (forEach allBranches (State.shedLevel k) s).branches[b].st ≠ .closed :=
  foldl_reaches (fun t : State => t.branches[b].st ≠ .closed) (fun t : State => t.rw = s.rw) (State.shedLevel k)
    (fun t c ht => (shedLevel_rw k t c).trans ht) (fun t c ht => (shedLevel_opens k t c).ne_closed ht)
    (fun t ht => shedLevel_own ((branchPrio_of_rw b ht).trans hb)) (List.mem_finRange b) rfl

/-- Where the source of the shed acts as Ignore or Warn, it sheds its branch and touches no other. -/
theorem shedLevel_light (k : Nat) (b : Branch) (h : actSev bLOAD 7 (s.sevRaw bLOAD 7) < 2) :
    (s.shedLevel k b).sevRaw bLOAD 7 = s.sevRaw bLOAD 7 ∧ (s.shedLevel k b).culm = s.culm ∧
      (s.shedLevel k b).branches =
        if s.branches[b].st = .closed ∧ s.branchPrio b = k then (s.shedBranch b).branches else s.branches := by
  have ho : ((s.shedBranch b).occur bLOAD 7 b.val).but Fld.ofReport = (s.shedBranch b).but Fld.ofReport :=
    occur_light _ _ h (by decide) (by decide) (by decide) (by decide) (by decide) (by decide) (by decide)
  have hculm : ((s.shedBranch b).occur bLOAD 7 b.val).culm = (s.shedBranch b).culm := but_culm ho (by decide)
  unfold State.shedLevel
  split
  · exact ⟨congrArg (sevField · 7) (occur_sev ..), hculm, but_branches ho (by decide)⟩
  · exact ⟨rfl, rfl, rfl⟩

/-- What sheds of Ignore or Warn leave beside the branches. -/
structure State.LightlyShed (s t : State) : Prop where
  rw : t.rw = s.rw
  sev : t.sevRaw bLOAD 7 = s.sevRaw bLOAD 7
  culm : t.culm = s.culm

theorem shedLevel_lightlyShed {t : State} (k : Nat) (b : Branch) (h : actSev bLOAD 7 (s.sevRaw bLOAD 7) < 2) (ht : s.LightlyShed t) :
    s.LightlyShed (t.shedLevel k b) := by
  obtain ⟨hsev, hculm, -⟩ := shedLevel_light k b (ht.sev ▸ h)
  exact ⟨(shedLevel_rw k t b).trans ht.rw, hsev.trans ht.sev, hculm.trans ht.culm⟩

theorem shedLevel_other {k : Nat} {b j : Branch} (h : actSev bLOAD 7 (s.sevRaw bLOAD 7) < 2) (hj : b ≠ j) :
    (s.shedLevel k b).branches[j] = s.branches[j] := by
  obtain ⟨-, -, hbr⟩ := shedLevel_light k b h
  rw [hbr]
  split
  · exact setBranch_get_other _ _ hj
  · rfl

/-- Where the source of the shed acts as Ignore or Warn, the Closed branches of the level are Shed, every other is as it was, and so is
the culm. -/
theorem shedLevels_light (k : Nat) (h : actSev bLOAD 7 (s.sevRaw bLOAD 7) < 2) :
    (forEach allBranches (State.shedLevel k) s).culm = s.culm ∧
    ∀ b : Branch, (forEach allBranches (State.shedLevel k) s).branches[b].st =
      if s.branches[b].st = .closed ∧ s.branchPrio b = k then .shed else s.branches[b].st := by
  have hkeep (t : State) (b : Branch) (ht : s.LightlyShed t) : s.LightlyShed (t.shedLevel k b) := shedLevel_lightlyShed k b h ht
  have hs : s.LightlyShed s := ⟨rfl, rfl, rfl⟩
  refine ⟨(forEach_keeps s.LightlyShed (State.shedLevel k) hkeep allBranches hs).culm, fun b => ?_⟩
  obtain ⟨t, ht, hb, he⟩ := forEach_branch hkeep (fun t _ _ ht hj => shedLevel_other (ht.sev ▸ h) hj) hs b
  obtain ⟨-, -, hbr⟩ := shedLevel_light k b (ht.sev ▸ h)
  rw [he, hbr, branchPrio_of_rw b ht.rw, ← hb]
  split
  · rw [shedBranch_get]
  · rfl

/-- A shortfall sheds the next priority level (R115). -/
theorem shortfallShed_sheds {v heldUs : Nat} (hmode : s.culm.mode = .regulating ∨ s.culm.mode = .shortfall) (hv : v < s.culm.msv)
    (hlevel : s.culm.shedLevels < 3) (hheld : 1000 + 5000 * s.culm.shedLevels ≤ heldUs) :
    ∃ t, exec (.shortfallShed v heldUs) s = .next t ∧ t.culm.shedLevels = s.culm.shedLevels + 1 ∧
      (∀ b : Branch, s.branches[b].st = .closed → s.branchPrio b = s.culm.shedLevels → t.branches[b].st ≠ .closed) ∧
      (actSev bLOAD 7 (s.sevRaw bLOAD 7) ≤ 1 → t.culm.mode = .shortfall ∧ ∀ b : Branch, t.branches[b].st =
        if s.branches[b].st = .closed ∧ s.branchPrio b = s.culm.shedLevels then .shed else s.branches[b].st) := by
  let u : State := { s with culm := { s.culm with mode := .shortfall, vmeas := sat 65535 v, shedLevels := s.culm.shedLevels + 1 } }
  refine ⟨forEach allBranches (State.shedLevel s.culm.shedLevels) u, if_pos ⟨hmode, hv, hlevel, hheld⟩, ?_,
    fun b _ hb => shedLevels_ne_closed (s := u) hb, fun h => ?_⟩
  · have hsteady := figures_steady (sat 65535 v) (s.culm.shedLevels + 1)
    refine (forEach_keeps (fun t : State => t.culm.vmeas = sat 65535 v ∧ t.culm.shedLevels = s.culm.shedLevels + 1)
      (State.shedLevel s.culm.shedLevels) (fun t b ht => ?_) allBranches (s := u) ⟨rfl, rfl⟩).2
    unfold State.shedLevel
    split
    · exact occur_steady hsteady _ _ _ _ (hsteady.but (by simp) ht)
    · exact ht
  · obtain ⟨hculm, hst⟩ := shedLevels_light (s := u) s.culm.shedLevels (Nat.lt_succ_of_le h)
    exact ⟨congrArg CulmRec.mode hculm, hst⟩

/-! ### The stubble supply (R137, R138) -/

/-- Above 250 A the first branch in the shedding order is shed, no sooner than 10 ms after the last (R137). -/
theorem stubbleOverloadShed_sheds {i : Nat} {b : Branch} {l : List Branch} (hon : s.culm.supOn = true) (hi : 25000 < i)
    (hlast : ∀ t₀, s.culm.supOver = some t₀ → t₀ + 10000 ≤ s.now) (hfirst : s.shedOrder allBranches = b :: l) :
    ∃ t, exec (.stubbleOverloadShed i) s = .next t ∧ t.culm.supOver = some s.now ∧ t.culm.supCur = i ∧ t.branches[b].st ≠ .closed := by
  have hexec : exec (.stubbleOverloadShed i) s = execStubbleOverloadShed i s := rfl
  rw [hexec]
  unfold execStubbleOverloadShed
  extract_lets due t
  have hdue : due = true := by
    cases ho : s.culm.supOver with
    | none => simp [due, ho]
    | some t₀ => simp [due, ho, hlast t₀ ho]
  rw [if_pos ⟨hon, hi, hdue⟩]
  refine ⟨_, rfl, rfl, rfl, ?_⟩
  have ht : t = (s.shedBranch b).occur bLOAD 7 b.val := shedFirst_cons _ _ hfirst
  rw [ht]
  exact (occur_opens ..).ne_closed (by rw [shedBranch_get]; simp)

/-- At 400 A or at reverse current the supply stops, and CULM source 5 occurs (R137). -/
theorem stubbleSupplyTrip_stops {i : Int} (hon : s.culm.supOn = true) (hi : 40000 ≤ i ∨ i < 0) :
    ∃ u : State, exec (.stubbleSupplyTrip i) s = .next (u.occur bCULM 5 0) ∧ u.culm.supOn = false ∧
      ∀ b : Branch, u.branches[b].st = if s.branches[b].st.isOpen = true then s.branches[b].st else .opened :=
  ⟨s.stopSupply, if_pos ⟨hon, hi⟩, rfl, stopSupply_st s⟩

/-- Outside its window for 1 ms the supply stops (R138). -/
theorem stubbleWindowLost_stops {v heldUs : Nat} (hon : s.culm.supOn = true) (hv : v < 39500 ∨ 60500 < v) (hheld : 1000 ≤ heldUs) :
    ∃ t, exec (.stubbleWindowLost v heldUs) s = .next t ∧ t.culm.supOn = false ∧
      ∀ b : Branch, t.branches[b].st = if s.branches[b].st.isOpen = true then s.branches[b].st else .opened :=
  ⟨s.stopSupply, if_pos ⟨hon, hv, hheld⟩, rfl, stopSupply_st s⟩

end

/-- Settles O27: each event of the culm and of the stubble supply by its own lemma above. -/
theorem culmAndStubbleSupply : Obligations.CulmAndStubbleSupply :=
  ⟨⟨fun _ v heldUs hmode => ⟨culmPrechargeDone_regulates hmode, culmPrechargeDone_off v heldUs hmode⟩,
    fun _ _ _ => shortfallShed_sheds, fun _ _ _ => culmUnderVoltage_opens, fun _ _ _ => culmSurplusOpen_opens⟩,
    fun _ hon => ⟨fun _ _ _ => stubbleOverloadShed_sheds hon, fun _ => stubbleSupplyTrip_stops hon,
      fun _ _ => stubbleWindowLost_stops hon⟩⟩

end Sys2Proof.Machine
end

section
/-!
PROOFS. The energy governor (spec/04_culm_energy_ceiling.md): its limits, its trips, the ceilings and the drains of the ports. First,
what the discharge elements of a port are behind an update of them.
-/

namespace Sys2Proof.Machine

/-! ### The discharge elements of a port (R133, R134) -/

section
variable {s : State} {p : Port} {x : StageRec}

theorem stage?_of_eq {t : State} (p : Port) (hsrc : t.src = s.src) (hbat : t.bat = s.bat) : t.stage? p = s.stage? p := by
  unfold State.stage?
  rw [hsrc, hbat]

/-- A port with discharge elements has those that it is given. -/
theorem setStage_stage? (y : StageRec) (h : s.stage? p = some x) : (s.setStage p y).stage? p = some y := by
  unfold State.stage? at h
  unfold State.stage? State.setStage
  cases hs : p.src? with
  | some k => simp
  | none =>
    cases hb : p.bat? with
    | some k => simp
    | none => simp [hs, hb] at h

/-- The discharge elements say nothing of the role of a port, and so of the bound of its restart (R134). -/
theorem setStage_restartBound (s : State) (p : Port) (y : StageRec) : (s.setStage p y).restartBound p = s.restartBound p := by
  unfold State.restartBound State.setStage
  cases hs : p.src? with
  | some k => simp
  | none => cases hb : p.bat? <;> rfl

/-- A drain that meets its bound leaves the elements as they are. -/
theorem drainMet_stage? (y : StageRec) : (s.drainMet p y).stage? p = s.stage? p := by
  unfold State.drainMet
  split
  · exact stage?_of_eq p (but_src (fs := [.deferred, .flt, .x3, .xing, .log, .ret]) (by simp [retryOutcome_ok]) (by decide))
      (but_bat (fs := [.deferred, .flt, .x3, .xing, .log, .ret]) (by simp [retryOutcome_ok]) (by decide))
  · rfl

/-- The drain of a port ends 200 ms after its stop; a terminal that is still above the bound is held from outside (R133). -/
theorem portDischargeEnd_ends {v t₀ : Nat} (hx : s.stage? p = some x) (hd : x.drainAt = some t₀) (ht : t₀ + 200000 ≤ s.now) :
    ∃ t y, exec (.portDischargeEnd p v) s = .next t ∧ t.stage? p = some y ∧ y.drainAt = none ∧ y.ext = decide (s.drainBound p ≤ v) := by
  have hexec : exec (.portDischargeEnd p v) s = execPortDischargeEnd p v s := rfl
  rw [hexec, execPortDischargeEnd]
  simp only [hx]
  rw [if_pos (any_of_some hd (decide_eq_true ht))]
  exact ⟨_, _, rfl, (drainMet_stage? x).trans (setStage_stage? _ hx), rfl, rfl⟩

/-- A drain that misses its bound is CULM source 4; it is repeated once, and then keeps the port from a restart (R134, R143). -/
theorem dischargeBoundMissed_repeats {v t₀ : Nat} (hx : s.stage? p = some x) (hv : s.drainBound p ≤ v) (hd : x.drainAt = some t₀)
    (ht : t₀ + s.drainTime p ≤ s.now) (hstuck : x.stuck = false) :
    ∃ (u : State) (y : StageRec), exec (.dischargeBoundMissed p v) s = .next (u.occur bCULM 4 p.val) ∧ u.stage? p = some y ∧
      u.gov[p].vst = v ∧
      (s.willRetry bCULM 4 p.val = true → y.drainAt = some s.now ∧ y.again = true) ∧
      (s.willRetry bCULM 4 p.val = false → y.stuck = true ∧ (s.restartBound p ≤ v → u.stageBars p = true)) := by
  have hexec : exec (.dischargeBoundMissed p v) s = execDischargeBoundMissed p v s := rfl
  rw [hexec, execDischargeBoundMissed]
  simp only [hx]
  rw [if_pos ⟨hv, any_of_some hd (decide_eq_true ht), hstuck⟩]
  have hvst (t : State) (g : GovRec) : (t.setGov p g).gov[p] = g := vset_same ..
  have hst (t : State) (g : GovRec) : (t.setGov p g).stage? p = t.stage? p := stage?_of_eq p rfl rfl
  have hbound (t : State) (g : GovRec) : (t.setGov p g).restartBound p = t.restartBound p := rfl
  refine ⟨_, _, rfl, (hst _ _).trans (setStage_stage? _ hx), congrArg GovRec.vst (hvst _ _), fun hw => ?_, fun hw => ?_⟩
  · rw [if_pos hw]
    exact ⟨rfl, rfl⟩
  · rw [if_neg (ne_true_of_eq_false hw)]
    refine ⟨rfl, fun hr => ?_⟩
    unfold State.stageBars
    rw [hst, setStage_stage? _ hx]
    simp only [hbound, setStage_restartBound, hvst]
    simp [hr]

/-- The hold of the elements ends 60 s after the last event (R134). -/
theorem dischargeElementHoldEnd_releases (hx : s.stage? p = some x) (he : ∀ e ∈ x.events, e + 60000000 ≤ s.now) :
    ∃ t y, exec (.dischargeElementHoldEnd p) s = .next t ∧ t.stage? p = some y ∧ y.events = [] ∧ y.hold = false := by
  have hexec : exec (.dischargeElementHoldEnd p) s = execDischargeElementHoldEnd p s := rfl
  rw [hexec, execDischargeElementHoldEnd]
  simp only [hx]
  rw [if_pos (List.all_eq_true.mpr fun e h => decide_eq_true (he e h))]
  exact ⟨_, _, rfl, setStage_stage? _ hx, rfl, rfl⟩

end

/-! ### The limits (R125, R127) -/

theorem iFloor_le_iSat (p : Port) : iFloor p ≤ iSat p := by
  unfold iFloor iSat
  split
  · decide
  · split <;> decide

theorem govLimit_bounds (s : State) (p : Port) (vStage vCulm eInd : Nat) :
    iFloor p ≤ s.govLimit p vStage vCulm eInd ∧ s.govLimit p vStage vCulm eInd ≤ iSat p := by
  unfold State.govLimit
  extract_lets ceil e unbounded n v
  split
  · exact ⟨iFloor_le_iSat p, Nat.le_refl _⟩
  · exact ⟨Nat.le_max_left .., Nat.max_le.mpr ⟨iFloor_le_iSat p, Nat.min_le_left ..⟩⟩

/-- Where the stored and the terminal energy of a source or battery port fit its ceiling, its limit is saturation (R127). -/
theorem govLimit_fits {s : State} {p : Port} {vStage vCulm eInd : Nat} (hp : p.val < 7)
    (h : s.stored p vStage vCulm eInd + s.terminal p vStage vCulm ≤ 1000000 * (s.reg (culmPceilAt p)).bits 13 0) :
    s.govLimit p vStage vCulm eInd = iSat p := by
  unfold State.govLimit
  exact if_pos ⟨h, by omega⟩

/-- The governor's figures of a port behind its update. -/
def State.govUpdated (s : State) (vStage : Vector Nat 7) (vCulm : Nat) (eInd : Vector Nat 9) (p : Port) : GovRec :=
  let v := if h : p.val < 7 then vStage[p.val] else vCulm
  { s.gov[p] with
    est := if 7 ≤ p.val ∧ s.dom.st = .stubble then 65535 else sat 65535 (s.stored p v vCulm eInd[p] / 1000000)
    ilim := s.govLimit p v vCulm eInd[p], vst := v, vstAt := s.now }

/-- The governor's update gives every port its estimate and its limit (R125, R127). -/
theorem governorUpdate_limits {s : State} (vStage : Vector Nat 7) (vCulm : Nat) (eInd : Vector Nat 9) (hd : s.domOn 3 = true) :
    ∃ t, exec (.governorUpdate vStage vCulm eInd) s = .next t ∧ ChangesOnly [.gov] s t ∧
      ∀ p : Port, iFloor p ≤ t.gov[p].ilim ∧ t.gov[p].ilim ≤ iSat p ∧
        ∀ h : p.val < 7, (t.gov[p].est = min 65535 (s.stored p vStage[p.val] vCulm eInd[p] / 1000000)) ∧
          (s.stored p vStage[p.val] vCulm eInd[p] + s.terminal p vStage[p.val] vCulm ≤ 1000000 * (s.reg (culmPceilAt p)).bits 13 0 →
            t.gov[p].ilim = iSat p) := by
  refine ⟨{ s with gov := Vector.ofFn (s.govUpdated vStage vCulm eInd) }, if_pos hd, by simp [ChangesOnly], fun p => ?_⟩
  have hget : (Vector.ofFn (s.govUpdated vStage vCulm eInd))[p] = s.govUpdated vStage vCulm eInd p := by simp
  simp only [hget]
  obtain ⟨hlo, hhi⟩ := govLimit_bounds s p (if h : p.val < 7 then vStage[p.val] else vCulm) vCulm eInd[p]
  refine ⟨hlo, hhi, fun hp => ?_⟩
  simp only [State.govUpdated, dif_pos hp, if_neg (show ¬(7 ≤ p.val ∧ s.dom.st = .stubble) by omega)]
  exact ⟨rfl, govLimit_fits hp⟩

/-! ### The trips (R126, R128) -/

/-- A governor trip drives the halt line of the port, and is CULM source 2 (R128, R131). -/
theorem governorTrip_trips {s : State} {p : Port} {i fall : Nat} {outward : Bool} (lt : Nat) (hp : p.val < 7)
    (h : 100 * s.gov[p].ilim ≤ i ∨ (20 < fall ∧ outward = true)) :
    ∃ u : State, exec (.governorTrip p i fall outward lt) s = .next ((u.occur bCULM 2 p.val).letThrough p lt) ∧
      (⟨bCULM, 2, p.val, false⟩ : Driver) ∈ u.halt[p] ∧ u.gov[p].tripAt = some s.now := by
  have hgov (t : State) (d : Driver) : (t.assertHalt p d).gov = t.gov :=
    but_gov (fs := [.halt, .fab, .groups, .cells, .branches, .src, .ctx, .bat, .fdr, .chg]) (by simp) (by decide)
  refine ⟨_, if_pos ⟨hp, h⟩, assertHalt_asserts .., ?_⟩
  rw [hgov]
  exact congrArg GovRec.tripAt (vset_same ..)

/-! ### The ceilings (R130, R140) -/

@[simp] theorem settle_culm (s : State) : s.settle.culm = s.culm := but_culm (fs := [.groups, .ctx, .chg]) (by simp) (by decide)
@[simp] theorem iterationEnds_culm (s : State) : s.iterationEnds.culm = s.culm := rfl
@[simp] theorem iterationEnds_rw (s : State) : s.iterationEnds.rw = s.rw := rfl

/-- A carried write of CULM_PCEIL acts on the port's ceiling. -/
theorem writeCarried_culmPceil (s : State) (p : Port) (v : Word) : s.writeCarried (culmPceilAt p) v = s.writeCeiling p v := by
  have hblk : culmPceilAt p / 0x10000 = 0x06 := by unfold culmPceilAt; omega
  have hoff : culmPceilAt p % 0x10000 = 0x100 + 0x10 * p.val + 0 := by unfold culmPceilAt; omega
  have hslot : slot? 0x100 0x10 9 (0x100 + 0x10 * p.val + 0) = some (p, 0) := slot?_at p (by decide)
  unfold State.writeCarried
  rw [dif_neg (by rw [hoff]; omega), hblk, hoff]
  unfold State.writeEndpoint
  simp only [hslot]

/-- A write of CULM_PCEIL is carried, and acts at the next iteration. -/
theorem culmPceil_next {s : State} (r : Req) (p : Port) (v : Word) (hs : s.serves (culmPceilAt p)) (hd : s.deferred = []) :
    ∃ t, exec (.culmPceilWrite r p v) s = .next t ∧ ChangesOnly [.deferred] s t ∧
      t.iterate = (s.writeCeiling p v).settle.iterationEnds := by
  refine ⟨s.carry (culmPceilAt p) v, congrArg Host.Outcome.next (viaService_serves s r _ _ hs), by simp [ChangesOnly], ?_⟩
  rw [carry_iterate s _ v hd, writeCarried_culmPceil]

/-- A ceiling that is not higher is taken, 250 mJ at least (R130). -/
theorem culmPceilWrite_lowers {s : State} (r : Req) {p : Port} {v : Word} (hinv : s.Inv) (hs : s.serves (culmPceilAt p))
    (hd : s.deferred = []) (hv : max 250 (v.bits 13 0) ≤ (s.reg (culmPceilAt p)).bits 13 0) :
    ∃ t, exec (.culmPceilWrite r p v) s = .next t ∧ ChangesOnly [.deferred] s t ∧
      t.iterate.reg (culmPceilAt p) = BitVec.ofNat 32 (max 250 (v.bits 13 0)) ∧ t.iterate.culm = s.culm := by
  obtain ⟨t, ht, hc, hi⟩ := culmPceil_next r p v hs hd
  have hw : s.writeCeiling p v = s.putReg (culmPceilAt p) (BitVec.ofNat 32 (max 250 (v.bits 13 0))) := if_neg (Nat.not_lt.mpr hv)
  refine ⟨t, ht, hc, ?_, ?_⟩
  · rw [hi, hw, iterationEnds_reg, settle_reg, putReg_reg _ _ hinv.rw]
  · rw [hi, hw, iterationEnds_culm, settle_culm, putReg_culm]

/-- A higher ceiling is refused and counted (R130). -/
theorem culmPceilWrite_refused {s : State} (r : Req) {p : Port} {v : Word} (hs : s.serves (culmPceilAt p)) (hd : s.deferred = [])
    (hv : (s.reg (culmPceilAt p)).bits 13 0 < max 250 (v.bits 13 0)) :
    ∃ t, exec (.culmPceilWrite r p v) s = .next t ∧ ChangesOnly [.deferred] s t ∧ t.iterate.rw = s.rw ∧
      t.iterate.culm = { s.culm with ceilrej := min 255 (s.culm.ceilrej + 1) } := by
  obtain ⟨t, ht, hc, hi⟩ := culmPceil_next r p v hs hd
  have hw : s.writeCeiling p v = { s with culm := { s.culm with ceilrej := sat 255 (s.culm.ceilrej + 1) } } := if_pos hv
  refine ⟨t, ht, hc, ?_, ?_⟩
  · rw [hi, hw, iterationEnds_rw, settle_rw]
  · rw [hi, hw, iterationEnds_culm, settle_culm]
    rfl

/-- Settles O28: the update, the trip, the ceiling and the three events of a drain by their own lemmas above. -/
theorem governor : Obligations.Governor :=
  ⟨fun _ vStage vCulm eInd => governorUpdate_limits vStage vCulm eInd, fun _ _ _ _ _ lt => governorTrip_trips lt,
    fun _ r _ _ hinv hs hd => ⟨culmPceilWrite_lowers r hinv hs hd, culmPceilWrite_refused r hs hd⟩,
    fun _ _ _ _ _ => portDischargeEnd_ends, fun _ _ _ _ _ => dischargeBoundMissed_repeats,
    fun _ _ _ => dischargeElementHoldEnd_releases⟩

end Sys2Proof.Machine
end

section
/-!
PROOFS. The setpoints that Awn brings (spec/04_culm_energy_ceiling.md, spec/12_feeder_awn.md): what becomes of one at Arbitrate, and of
the pending one once it has settled or has not. First, the replies that a queue with room takes.
-/

namespace Sys2Proof.Machine

/-! ### Replies (R382, R386) -/

/-- A queue with room takes a reply at its end. -/
theorem queue_room {x : AwnRec} (k : TxKind) (w : Word) (h : x.txq.length ≤ 15) : x.queue k w = { x with txq := x.txq ++ [(k, w)] } := by
  unfold AwnRec.queue
  extract_lets l
  exact if_pos (by simp [l]; omega)

theorem answer_room {x : AwnRec} (k : TxKind) (tag : Nat) (w : Word) (h : x.txq.length ≤ 15) :
    (x.answer k tag w).txq = x.txq ++ [(k, w)] := by
  unfold AwnRec.answer
  rw [queue_room k w h]
  extract_lets y
  split <;> rfl

/-- A reply that is kept for a duplicate changes neither the pending command nor the source of the setpoint. -/
theorem answer_keeps {x : AwnRec} (k : TxKind) (tag : Nat) (w : Word) (h : x.txq.length ≤ 15) :
    (x.answer k tag w).pend = x.pend ∧ (x.answer k tag w).taglast = x.taglast ∧ (x.answer k tag w).src = x.src := by
  unfold AwnRec.answer
  rw [queue_room k w h]
  extract_lets y
  split <;> exact ⟨rfl, rfl, rfl⟩

/-! ### A setpoint at Arbitrate (R113, R383) -/

section
variable {s : State}

/-- A setpoint that is taken out of x1 waits there no more. -/
theorem awnTake_awnSlot (s : State) : s.awnTake.awnSlot = none := by
  unfold State.awnSlot State.awnTake
  rw [List.findSome?_eq_none_iff]
  intro q hq
  obtain ⟨-, hq⟩ := List.mem_filter.mp hq
  cases hi : q.item <;> simp_all

/-- The Superseded reply to the command that still waited (R383). -/
def State.superseded (s : State) (w : Word) : AwnRec :=
  match s.awn.pend with
  | some old => { s.awn.queue .other (awnReply 3 old 0 (awnTag w)) with sup := sat 65535 (s.awn.sup + 1) }
  | none => s.awn

/-- A setpoint is rejected with the culm Off or in Stubble, or with an activation pending (R383, R413). -/
theorem awnSetpointArbitrate_rejects {w : Word} (hd : s.domOn 3 = true) (hw : s.awnSlot = some w) (hq : s.awn.txq.length ≤ 14)
    (h : s.culm.mode = .off ∨ s.culm.mode = .stubble ∨ s.img.req.isSome = true) :
    ∃ t, exec .awnSetpointArbitrate s = .next t ∧ t.awnSlot = none ∧ t.culm = s.culm ∧ t.awn.pend = s.awn.pend ∧
      t.awn.txq = s.awn.txq ++ [(TxKind.other, awnReply 6 (awnTag w) 3 0)] := by
  have ha : s.arbitrate = { s.awnTake with awn := s.awn.queue .other (awnReply 6 (awnTag w) 3 0) } := by
    unfold State.arbitrate
    simp only [hw]
    exact if_pos h
  refine ⟨s.arbitrate, if_pos hd, ?_⟩
  rw [ha, queue_room _ _ (by omega)]
  exact ⟨awnTake_awnSlot s, rfl, rfl, rfl⟩

/-- The record of the link with a command that Arbitrate accepts (R383). -/
def State.awnAccepted (s : State) (w : Word) : AwnRec :=
  { s.superseded w with
    taglast := some (awnTag w), pend := some (awnTag w), src := 1, lostAt := none, slew := s.awnSlew w, asked := awnVset w }

/-- The Accepted reply: whether the setpoint was clamped, and its target (R381, R383). -/
def State.awnReceipt (s : State) (w : Word) : Word :=
  awnReply 2 (awnTag w) (if s.awnTarget w = awnVset w then 0 else 1) (s.awnTarget w)

/-- A pending command is answered, where there is one (R383). -/
theorem awnAccepted_txq (w : Word) (h : s.awn.txq.length ≤ 14) :
    (s.awnAccepted w).txq = s.awn.txq ++ (match s.awn.pend with
      | some old => [(TxKind.other, awnReply 3 old 0 (awnTag w))]
      | none => []) ∧ (s.awnAccepted w).txq.length ≤ 15 := by
  unfold State.awnAccepted State.superseded
  cases s.awn.pend with
  | none => exact ⟨(List.append_nil _).symm, by show s.awn.txq.length ≤ 15; omega⟩
  | some old =>
    simp only [queue_room (x := s.awn) .other (awnReply 3 old 0 (awnTag w)) (by omega)]
    exact ⟨trivial, by simp; omega⟩

/-- An accepted setpoint supersedes the pending one, and ramps from the present ramp value to its clamped target (R380, R383). -/
theorem awnSetpointArbitrate_accepts {w : Word} (hd : s.domOn 3 = true) (hw : s.awnSlot = some w) (hq : s.awn.txq.length ≤ 14)
    (hoff : s.culm.mode ≠ .off) (hstub : s.culm.mode ≠ .stubble) (hreq : s.img.req = none) :
    ∃ t, exec .awnSetpointArbitrate s = .next t ∧ t.awnSlot = none ∧ t.awn.pend = some (awnTag w) ∧
      t.awn.taglast = some (awnTag w) ∧ t.awn.src = 1 ∧ t.culm.target = s.awnTarget w ∧ t.culm.slew = s.awnSlew w ∧
      t.culm.slewFrom = s.rampNow ∧ t.culm.slewAt = s.now ∧
      t.awn.txq = s.awn.txq ++ (match s.awn.pend with
          | some old => [(TxKind.other, awnReply 3 old 0 (awnTag w))]
          | none => []) ++
        [(TxKind.other, awnReply 2 (awnTag w) (if s.awnTarget w = awnVset w then 0 else 1) (s.awnTarget w))] := by
  have ha : s.arbitrate = State.retarget { s.awnTake with
      awn := (s.awnAccepted w).answer .other (awnTag w) (s.awnReceipt w) } (s.awnTarget w) (s.awnSlew w) := by
    unfold State.arbitrate
    simp only [hw]
    exact if_neg (show ¬(s.culm.mode = .off ∨ s.culm.mode = .stubble ∨ s.img.req.isSome = true) by simp [hoff, hstub, hreq])
  obtain ⟨htxq, hlen⟩ := awnAccepted_txq w hq
  obtain ⟨hpend, htag, hsrc⟩ := answer_keeps .other (awnTag w) (s.awnReceipt w) hlen
  refine ⟨s.arbitrate, if_pos hd, ?_⟩
  rw [ha]
  exact ⟨awnTake_awnSlot s, hpend, htag, hsrc, rfl, rfl, rfl, rfl, (answer_room _ _ _ hlen).trans (congrArg (· ++ _) htxq)⟩

/-! ### Settling (R384) -/

/-- A culm that has held the target for tsettle behind the ramp settles the pending command. -/
theorem awnSettled_settles {tag v us : Nat} (hp : s.awn.pend = some tag) (hq : s.awn.txq.length ≤ 15)
    (hend : s.rampEnd + 10 * (s.reg awnCfg2At).bits 7 0 ≤ s.now) (hlo : 199 * s.culm.target ≤ 200 * v)
    (hhi : 200 * v ≤ 201 * s.culm.target) (hus : 10 * (s.reg awnCfg2At).bits 7 0 ≤ us) :
    ∃ t, exec (.awnSettled v us) s = .next t ∧ t.awn.pend = none ∧
      t.awn.txq = s.awn.txq ++ [(TxKind.settled, awnReply 4 tag 0 s.culm.target)] ∧ t.culm = s.culm := by
  have hexec : exec (.awnSettled v us) s = execAwnSettled v us s := rfl
  rw [hexec, execAwnSettled]
  simp only [hp]
  rw [if_pos ⟨hend, hhi, hlo, hus⟩]
  exact ⟨_, rfl, rfl, answer_room _ _ _ hq, rfl⟩

/-- A command that has not settled in time is pending no more, and AWN source 3 occurs. -/
theorem awnUnsettled_ends {tag v : Nat} (hp : s.awn.pend = some tag) (hq : s.awn.txq.length ≤ 15)
    (hend : s.rampEnd + 1000 * (s.reg awnCfg2At).bits 15 8 ≤ s.now) :
    ∃ t, exec (.awnUnsettled v) s = .next t ∧ t.awn.pend = none ∧
      t.awn.txq = s.awn.txq ++ [(TxKind.other, awnReply 5 tag 0 v)] ∧ .occurs bAWN 3 0 ∈ t.deferred ∧ t.culm = s.culm := by
  refine ⟨s.unsettle v, if_pos ⟨by simp [hp], hend⟩, ?_⟩
  unfold State.unsettle
  rw [hp]
  exact ⟨rfl, answer_room _ _ _ hq, List.mem_append_right _ (List.mem_singleton_self _), rfl⟩

end

/-- Settles O45: a setpoint is rejected or accepted, and the pending one settles or does not. -/
theorem awnSetpoints : Obligations.AwnSetpoints := fun _ =>
  ⟨fun _ hd hw hq => ⟨awnSetpointArbitrate_rejects hd hw hq, awnSetpointArbitrate_accepts hd hw hq⟩,
    fun _ _ _ hp hq => ⟨awnSettled_settles hp hq, awnUnsettled_ends hp hq⟩⟩

end Sys2Proof.Machine
end

section
/-!
PROOFS. The qualification of the source ports (spec/05_source_ports.md): presence, the checks, the arc self-test, the hold and the flap
flag. First, what the record of a source port is behind an update of it, and which shared operations leave every source port as it is.
-/

namespace Sys2Proof.Machine

/-! ### The record of a source port -/

theorem setSrc_get (s : State) (p : SPort) (x : SrcRec) : (s.setSrc p x).src[p] = x := vset_same ..

theorem src_of_eq {α : Type} (f : SrcRec → α) {s t : State} {p : SPort} (h : t.src = s.src) : f t.src[p] = f s.src[p] := by rw [h]

@[simp] theorem settle_src (s : State) : s.settle.src = s.src := but_src (fs := [.groups, .ctx, .chg]) (by simp) (by decide)
@[simp] theorem iterationEnds_src (s : State) : s.iterationEnds.src = s.src := rfl

/-- The success of a retry leaves the source ports as they are. -/
@[simp] theorem retryOutcome_ok_src (s : State) (b : Blk) (src : Src) (obj : Nat) : (s.retryOutcome b src obj true).src = s.src :=
  but_src (fs := [.deferred, .flt, .x3, .xing, .log, .ret]) (by simp [retryOutcome_ok]) (by decide)

/-- A port that enters Qualifying: its timer starts, and the settings in force are latched (R155). -/
structure SrcRec.EntersQualifying (x : SrcRec) (now : Nat) (qv : Word) : Prop where
  st : x.st = .qualifying
  since : x.since = now
  qv : x.qv = qv

theorem startQualify_enters (s : State) (p : SPort) : (s.startQualify p).src[p].EntersQualifying s.now (s.reg (srcQvAt p)) := by
  unfold State.startQualify
  rw [setSrc_get]
  exact ⟨rfl, rfl, rfl⟩

section
variable {s : State} {p : SPort}

/-! ### Presence (R153) -/

/-- The wake level, held for 100 ms, takes an Absent port to Qualifying. -/
theorem srcPresenceMet_qualifies {mv ms : Nat} (hst : s.src[p].st = .absent) (hmv : wakeLevel s.src[p].role ≤ mv) (hms : 100 ≤ ms)
    (hjudge : s.src[p].judgeAt + 100000 ≤ s.now) :
    ∃ t, exec (.srcPresenceMet p mv ms) s = .next t ∧ t.src[p].EntersQualifying s.now (s.reg (srcQvAt p)) := by
  obtain ⟨h₁, h₂, h₃⟩ := startQualify_enters s p
  refine ⟨_, if_pos ⟨hst, hmv, hms, hjudge⟩, ?_⟩
  rw [setSrc_get]
  exact ⟨h₁, h₂, h₃⟩

/-- A Qualifying or Ready port without its source for 100 ms is Absent, with cause 10. -/
theorem srcPresenceLost_absent {mv ms : Nat} (hst : s.src[p].st = .qualifying ∨ s.src[p].st = .ready)
    (hmv : mv < loseLevel s.src[p].role) (hms : 100 ≤ ms) :
    ∃ t, exec (.srcPresenceLost p mv ms) s = .next t ∧ t.src[p].st = .absent ∧ t.src[p].cause = 10 := by
  refine ⟨_, if_pos ⟨hst, hmv, hms⟩, ?_⟩
  rw [settle_src, setSrc_get]
  exact ⟨rfl, rfl⟩

/-! ### The checks (R152, R155-R157) -/

/-- A failed check holds the port, and its source occurs; the retries that waited for the qualification are lasting. -/
theorem srcQualificationFail_holds {o : QualObs} {k : Src} {cause : Nat} (hst : s.src[p].st = .qualifying)
    (hfail : s.src[p].failedCheck o = some (k, cause)) :
    ∃ u : State, exec (.srcQualificationFail p o) s =
      .next (((u.occur bSRC k p.val).retryOutcome bSRC 7 p.val false).retryOutcome bCULM 2 p.val false) ∧
      u.src[p].st = .held ∧ u.src[p].cause = cause ∧
      u.src[p].qfails = (if k = 2 then s.src[p].qfails else min 65535 (s.src[p].qfails + 1)) := by
  have hexec : exec (.srcQualificationFail p o) s = execSrcQualificationFail p o s := rfl
  rw [hexec, execSrcQualificationFail]
  simp only [hst, hfail]
  refine ⟨_, rfl, ?_⟩
  rw [setSrc_get]
  exact ⟨rfl, rfl, rfl⟩

/-- A source that is not steady restarts the qualification timer. -/
theorem srcStabilityRestart_restarts {dv df : Nat} (hst : s.src[p].st = .qualifying)
    (h : 500 < dv ∨ s.src[p].role = .ac ∧ 50 < df) :
    ∃ t, exec (.srcStabilityRestart p dv df) s = .next t ∧ t.src[p] = { s.src[p] with since := s.now, cause := 4 } :=
  ⟨_, if_pos ⟨hst, h⟩, setSrc_get ..⟩

/-- Every check held for the qualification time, the arc self-test among them where it applies: the port is Ready, with its nominal
voltage and its loss threshold latched. -/
theorem srcQualified_ready {o : QualObs} (hst : s.src[p].st = .qualifying) (hpass : s.src[p].failedCheck o = none)
    (harc : s.src[p].cls ≠ 0 ∨ s.src[p].arcen = false ∨ s.src[p].role = .ac ∨ s.src[p].arcPassed = true)
    (htime : s.src[p].since + s.srcTq p ≤ s.now) (hfree : s.portFree p.port = true) :
    ∃ t, exec (.srcQualified p o) s = .next t ∧ t.src[p].st = .ready ∧ t.src[p].lossV = s.src[p].qv.bits 15 0 ∧
      t.src[p].nomV = if s.src[p].role = .ac then o.vRms else o.vMean.toNat := by
  have hdone : (s.src[p].cls != 0 || !s.src[p].arcen || s.src[p].role == .ac || s.src[p].arcPassed) = true := by
    simpa only [Bool.or_eq_true, bne_iff_ne, Bool.not_eq_true', beq_iff_eq, or_assoc] using harc
  refine ⟨_, if_pos ⟨hst, hpass, hdone, htime, hfree⟩, ?_⟩
  rw [settle_src, retryOutcome_ok_src, retryOutcome_ok_src, setSrc_get]
  exact ⟨rfl, rfl, rfl⟩

/-! ### The arc self-test (R155, R173) -/

/-- A port whose arc self-test is still to be passed. -/
structure SrcRec.ArcTest (x : SrcRec) : Prop where
  st : x.st = .qualifying
  cls : x.cls = 0
  arcen : x.arcen = true
  untested : x.arcPassed = false

/-- What an arc self-test comes to. -/
theorem arcSelfTest_due (h : s.src[p].ArcTest) (detected : Bool) (ms : Nat) : exec (.arcSelfTest p detected ms) s =
    if detected = true ∧ ms ≤ 200 then .next ((s.setSrc p { s.src[p] with arcPassed := true }).retryOutcome bSRC 4 p.val true)
    else if s.src[p].arcFailed = false ∧ s.willRetry bSRC 4 p.val = true then
      .next ((s.setSrc p { s.src[p] with arcFailed := true }).occur bSRC 4 p.val)
    else .next ((s.setSrc p { s.src[p] with st := .locked, cause := 6, since := s.now }).occur bSRC 4 p.val) :=
  if_pos ⟨h.st, h.cls, h.arcen, h.untested⟩

theorem arcSelfTest_passes (h : s.src[p].ArcTest) {ms : Nat} (hms : ms ≤ 200) :
    ∃ t, exec (.arcSelfTest p true ms) s = .next t ∧ t.src[p].arcPassed = true :=
  ⟨_, (arcSelfTest_due h true ms).trans (if_pos ⟨rfl, hms⟩), by rw [retryOutcome_ok_src, setSrc_get]⟩

/-- The first failure, where the source retries, leaves the port Qualifying. -/
theorem arcSelfTest_repeats (h : s.src[p].ArcTest) (ms : Nat) (hfirst : s.src[p].arcFailed = false)
    (hretry : s.willRetry bSRC 4 p.val = true) :
    ∃ u : State, exec (.arcSelfTest p false ms) s = .next (u.occur bSRC 4 p.val) ∧ u.src[p].arcFailed = true ∧
      u.src[p].st = .qualifying := by
  refine ⟨_, (arcSelfTest_due h false ms).trans ((if_neg (by simp)).trans (if_pos ⟨hfirst, hretry⟩)), ?_⟩
  rw [setSrc_get]
  exact ⟨rfl, h.st⟩

/-- A failure without a further try locks the port. -/
theorem arcSelfTest_locks (h : s.src[p].ArcTest) (ms : Nat) (hlast : s.src[p].arcFailed = true ∨ s.willRetry bSRC 4 p.val = false) :
    ∃ u : State, exec (.arcSelfTest p false ms) s = .next (u.occur bSRC 4 p.val) ∧ u.src[p].st = .locked ∧ u.src[p].cause = 6 := by
  have hno : ¬(s.src[p].arcFailed = false ∧ s.willRetry bSRC 4 p.val = true) := by
    rintro ⟨hfirst, hretry⟩
    rcases hlast with h | h
    · exact Bool.false_ne_true (hfirst.symm.trans h)
    · exact Bool.false_ne_true (h.symm.trans hretry)
  refine ⟨_, (arcSelfTest_due h false ms).trans ((if_neg (by simp)).trans (if_neg hno)), ?_⟩
  rw [setSrc_get]
  exact ⟨rfl, rfl⟩

/-! ### The hold (R152, R159) -/

/-- Whether the insulation of a Held port is measured again, and whether it is found bad, now or at a retry before. -/
def SrcRec.measuresAgain (x : SrcRec) : Bool := x.isoTry && !x.isoFailed
def SrcRec.isoBad (x : SrcRec) (riso : Nat) : Bool := x.isoFailed || (x.measuresAgain && decide (riso < x.qprot.bits 7 0))

/-- The state behind the repeated measurement. -/
def State.remeasured (s : State) (p : SPort) (riso : Nat) : State :=
  if s.src[p].measuresAgain then
    (s.setSrc p { s.src[p] with riso := sat 65535 riso }).retryOutcome bSRC 2 p.val (!s.src[p].isoBad riso)
  else s

/-- What the end of the hold time comes to. -/
theorem srcHoldTimeEnd_due (hst : s.src[p].st = .held) (htime : s.src[p].since + s.srcHold p ≤ s.now) (present : Bool) (riso : Nat) :
    exec (.srcHoldTimeEnd p present riso) s =
      if s.src[p].isoBad riso then
        .next ((s.remeasured p riso).setSrc p { (s.remeasured p riso).src[p] with st := .locked, cause := 5, since := s.now })
      else if (s.remeasured p riso).src[p].st ≠ .held then .next (s.remeasured p riso)
      else if present then .next ((s.remeasured p riso).startQualify p)
      else .next ((s.remeasured p riso).setSrc p { (s.remeasured p riso).src[p] with st := .absent, since := s.now }) :=
  if_pos ⟨hst, htime⟩

/-- A measurement that is not bad leaves the port Held. -/
theorem remeasured_st {riso : Nat} (h : s.src[p].isoBad riso = false) : (s.remeasured p riso).src[p].st = s.src[p].st := by
  unfold State.remeasured
  rw [h]
  split
  · refine (src_of_eq SrcRec.st (retryOutcome_ok_src ..)).trans ?_
    rw [setSrc_get]
  · rfl

/-- The insulation not bad: the port qualifies where its source is present, else it is Absent. -/
theorem srcHoldTimeEnd_releases {riso : Nat} (hst : s.src[p].st = .held) (htime : s.src[p].since + s.srcHold p ≤ s.now)
    (hgood : s.src[p].isoBad riso = false) :
    (∃ t, exec (.srcHoldTimeEnd p true riso) s = .next t ∧ t.src[p].st = .qualifying) ∧
      ∃ t, exec (.srcHoldTimeEnd p false riso) s = .next t ∧ t.src[p].st = .absent := by
  have hgo (present : Bool) := ((srcHoldTimeEnd_due hst htime present riso).trans (if_neg (ne_true_of_eq_false hgood))).trans
    (if_neg (not_not_intro ((remeasured_st hgood).trans hst)))
  exact ⟨⟨_, (hgo true).trans (if_pos rfl), (startQualify_enters ..).st⟩,
    ⟨_, (hgo false).trans (if_neg Bool.false_ne_true), by rw [setSrc_get]⟩⟩

/-- The insulation bad: the port is Locked, whatever its presence. -/
theorem srcHoldTimeEnd_locks {riso : Nat} (hst : s.src[p].st = .held) (htime : s.src[p].since + s.srcHold p ≤ s.now)
    (hbad : s.src[p].isoBad riso = true) (present : Bool) :
    ∃ t, exec (.srcHoldTimeEnd p present riso) s = .next t ∧ t.src[p].st = .locked ∧ t.src[p].cause = 5 := by
  refine ⟨_, (srcHoldTimeEnd_due hst htime present riso).trans (if_pos hbad), ?_⟩
  rw [setSrc_get]
  exact ⟨rfl, rfl⟩

theorem isoBad_eq_false {x : SrcRec} {riso : Nat} (hf : x.isoFailed = false) (h : x.isoTry = false ∨ x.qprot.bits 7 0 ≤ riso) :
    x.isoBad riso = false := by
  rcases h with h | h <;> simp [SrcRec.isoBad, SrcRec.measuresAgain, hf, h]

theorem isoBad_eq_true {x : SrcRec} {riso : Nat} (h : x.isoFailed = true ∨ x.isoTry = true ∧ riso < x.qprot.bits 7 0) :
    x.isoBad riso = true := by
  cases hf : x.isoFailed
  · obtain ⟨ht, hr⟩ := h.resolve_left (by simp [hf])
    simp [SrcRec.isoBad, SrcRec.measuresAgain, hf, ht, hr]
  · simp [SrcRec.isoBad, hf]

/-! ### The flap flag (R158) -/

/-- Ten minutes without a loss clear the flag. -/
theorem flapClear_clears (hflap : s.src[p].flap = true) (hloss : ∀ t₀ ∈ s.src[p].lossAt, t₀ + 600000000 ≤ s.now) :
    ∃ t, exec (.flapClear p) s = .next t ∧ t.src[p].flap = false ∧ t.src[p].st = s.src[p].st := by
  have hall : s.src[p].lossAt.all (fun t => decide (t + 600000000 ≤ s.now)) = true :=
    List.all_eq_true.mpr fun t₀ h => decide_eq_true (hloss t₀ h)
  refine ⟨_, if_pos ⟨hflap, hall⟩, ?_⟩
  rw [setSrc_get]
  exact ⟨rfl, rfl⟩

end

/-- Settles O30: presence, the checks, the arc self-test, the hold and the flap flag, each by its own lemma above. -/
theorem sourceQualification : Obligations.SourceQualification := by
  refine fun s p => ⟨fun mv ms hst hmv hms hj => ?_, fun _ _ => srcPresenceLost_absent, fun _ _ _ => srcQualificationFail_holds,
    fun _ _ => srcStabilityRestart_restarts, fun _ => srcQualified_ready, fun hst hcls hen hp => ?_, fun riso hst ht =>
      ⟨fun hf h => srcHoldTimeEnd_releases hst ht (isoBad_eq_false hf h), fun h => srcHoldTimeEnd_locks hst ht (isoBad_eq_true h)⟩,
    flapClear_clears⟩
  · obtain ⟨t, ht, hq⟩ := srcPresenceMet_qualifies hst hmv hms hj
    exact ⟨t, ht, hq.st, hq.since, hq.qv⟩
  · have h : s.src[p].ArcTest := ⟨hst, hcls, hen, hp⟩
    exact ⟨fun _ => arcSelfTest_passes h, arcSelfTest_repeats h, arcSelfTest_locks h⟩

end Sys2Proof.Machine
end

section
/-!
PROOFS. The supply of the source ports (spec/05_source_ports.md): start, ordered stop, the idle power of a class 0 port, the release of a
halt line, and SRC_PCTL. First, what a start does to the cells of a group, and what starts and stops leave of the port.
-/

namespace Sys2Proof.Machine

/-! ### One cell of a group after another -/

theorem migrOf_of_fab {s t : State} (c : Cell) (h : t.fab = s.fab) : t.migrOf c = s.migrOf c := by rw [State.migrOf, h, State.migrOf]

/-- An update of each cell of a list that changes its own cell alone, and no migration, turns a cell of the list to a state, where it
turns the cell so as it was before the list, and a further update keeps the cell there. -/
theorem forEach_turns {f : State → Cell → State} {s : State} {l : List Cell} {c : Cell} (st : CellState) (hc : c ∈ l)
    (hfab : ∀ t k, (f t k).fab = t.fab) (hother : ∀ t k, k ≠ c → (f t k).cells[c] = t.cells[c])
    (hown : ∀ t, t.fab = s.fab → t.cells[c] = s.cells[c] → (f t c).cells[c].st = st)
    (hkeep : ∀ t, t.cells[c].st = st → (f t c).cells[c].st = st) : (forEach l f s).cells[c].st = st := by
  have hkeeps (t : State) (k : Cell) (ht : t.cells[c].st = st) : (f t k).cells[c].st = st := by
    by_cases hk : k = c
    · exact hk ▸ hkeep t ht
    · rwa [hother t k hk]
  refine foldl_reaches (fun t : State => t.cells[c].st = st)
    (fun t : State => t.fab = s.fab ∧ (t.cells[c] = s.cells[c] ∨ t.cells[c].st = st)) f
    (fun t k ⟨ht, hcell⟩ => ⟨(hfab t k).trans ht, ?_⟩) hkeeps
    (fun t ⟨ht, hcell⟩ => hcell.elim (hown t ht) (hkeep t)) hc ⟨rfl, .inl rfl⟩
  rcases hcell with hcell | hcell
  · by_cases hk : k = c
    · exact .inr (hk ▸ hown t ht hcell)
    · exact .inl ((hother t k hk).trans hcell)
  · exact .inr (hkeeps t k hcell)

/-! ### The members of a group start (R86) -/

/-- The start of one member of a group: one that is Idle, that no fence has met and that does not move. -/
def State.startMember (g : Group) (s : State) (c : Cell) : State :=
  if s.cells[c].st = .idle ∧ s.cells[c].barred = false ∧ (s.migrOf c).isNone = true then
    s.setCell c { s.cells[c] with st := .starting, since := s.now, startRetry := false, retryAt := none, dropped := false,
                                  sel := selFor c g, selOpen := false }
  else s

theorem startMembers_eq (s : State) (g : Group) : s.startMembers g = forEach (s.members g) (State.startMember g) s := rfl

theorem startMember_fab (g : Group) (s : State) (c : Cell) : (s.startMember g c).fab = s.fab := by
  unfold State.startMember
  split <;> rfl

theorem startMember_other (g : Group) (s : State) {c k : Cell} (h : k ≠ c) : (s.startMember g k).cells[c] = s.cells[c] := by
  unfold State.startMember
  split
  · exact setCell_get_other _ _ h
  · rfl

/-- A cell that a start finds Idle and free to start is Starting. -/
theorem startMember_starts (g : Group) {s : State} {c : Cell} (hst : s.cells[c].st = .idle) (hbar : s.cells[c].barred = false)
    (hm : s.migrOf c = none) : (s.startMember g c).cells[c].st = .starting := by
  unfold State.startMember
  rw [if_pos ⟨hst, hbar, by simp [hm]⟩, setCell_get]

/-- A start keeps a Starting cell as it is. -/
theorem startMember_keeps (g : Group) {s : State} {c : Cell} (hst : s.cells[c].st = .starting) :
    (s.startMember g c).cells[c].st = .starting := by
  unfold State.startMember
  rwa [if_neg fun h => absurd (hst.symm.trans h.1) (by decide)]

/-- Every Idle member that no fence has met and that does not move is Starting behind the start of its group (R31, R86). -/
theorem startMembers_starts {s : State} {g : Group} {c : Cell} (hg : s.cells[c].inMask = some g) (hst : s.cells[c].st = .idle)
    (hbar : s.cells[c].barred = false) (hm : s.migrOf c = none) : (s.startMembers g).cells[c].st = .starting := by
  have hmem : c ∈ s.members g := List.mem_filter.mpr ⟨List.mem_finRange c, beq_iff_eq.mpr hg⟩
  rw [startMembers_eq]
  exact forEach_turns .starting hmem (startMember_fab g) (fun t _ => startMember_other g t)
    (fun _ hfab ht => startMember_starts g (ht ▸ hst) (ht ▸ hbar) ((migrOf_of_fab c hfab).trans hm)) (fun _ => startMember_keeps g)

/-! ### A port begins to supply, and stops (R152) -/

theorem srcPort_src (p : SPort) : p.port.src? = some p := dif_pos p.isLt

section
variable {s : State} {p : SPort}

/-- What the start of a port makes of its record: it supplies from zero, and its open-circuit voltage stays as measured. -/
structure SrcRec.Starts (x y : SrcRec) : Prop where
  st : y.st = .supplying
  cur : y.cur = 0
  voc : y.voc = x.voc
  vocAt : y.vocAt = x.vocAt

theorem supply_src (s : State) (p : SPort) (avail : Nat) : SrcRec.Starts s.src[p] (s.supply p avail).src[p] := by
  have h (t : State) : (t.drew.startMembers p.group).settle.src = t.src :=
    but_src (fs := [.freeN, .cells, .groups, .ctx, .chg]) (by simp) (by decide)
  unfold State.supply
  extract_lets x ref m t
  rw [h, setSrc_get]
  exact ⟨rfl, rfl, rfl, rfl⟩

/-- The Idle members of a port's group start with it. -/
theorem supply_cells {c : Cell} (avail : Nat) (hg : s.cells[c].inMask = some p.group) (hst : s.cells[c].st = .idle)
    (hbar : s.cells[c].barred = false) (hm : s.migrOf c = none) : (s.supply p avail).cells[c].st = .starting := by
  unfold State.supply
  extract_lets x ref m t
  rw [settle_cells]
  exact startMembers_starts (s := t.drew) hg hst hbar hm

/-- A port that has stopped is Ready, and no limit binds. -/
theorem toReady_src (s : State) (p : SPort) : (s.toReady p).src[p].st = .ready ∧ (s.toReady p).src[p].lim = 0 := by
  unfold State.toReady
  extract_lets t
  rw [settle_src, setSrc_get]
  exact ⟨rfl, rfl⟩

/-- A Ready port whose conditions hold supplies from zero, and the Idle members of its group start. -/
theorem srcStartSupply_supplies {avail : Nat} (hmay : s.maySupply p avail = true) (hidle : s.src[p].idle = false) :
    ∃ t, exec (.srcStartSupply p avail) s = .next t ∧ t.src[p].st = .supplying ∧ t.src[p].cur = 0 ∧
      ∀ c : Cell, s.cells[c].inMask = some p.group → s.cells[c].st = .idle → s.cells[c].barred = false → s.migrOf c = none →
        t.cells[c].st = .starting :=
  ⟨_, if_pos ⟨hmay, hidle⟩, (supply_src s p avail).st, (supply_src s p avail).cur, fun _ => supply_cells avail⟩

/-! ### The ordered stop (R165) -/

/-- What an ordered stop that is due does: the draw ramps down, and once it is zero the port is Ready. -/
theorem srcOrderedStop_due (hst : s.src[p].st = .supplying) (hdue : s.stopDue p = true) : exec (.srcOrderedStop p) s =
    if s.src[p].cur = 0 then .next (s.toReady p) else .next (s.setSrc p { s.src[p] with stopping := true }) :=
  if_pos ⟨hst, .inr hdue⟩

theorem srcOrderedStop_ready (hst : s.src[p].st = .supplying) (hdue : s.stopDue p = true) (hcur : s.src[p].cur = 0) :
    ∃ t, exec (.srcOrderedStop p) s = .next t ∧ t.src[p].st = .ready ∧ t.src[p].lim = 0 :=
  ⟨_, (srcOrderedStop_due hst hdue).trans (if_pos hcur), toReady_src s p⟩

theorem srcOrderedStop_ramps (hst : s.src[p].st = .supplying) (hdue : s.stopDue p = true) (hcur : s.src[p].cur ≠ 0) :
    ∃ t, exec (.srcOrderedStop p) s = .next t ∧ t.src[p] = { s.src[p] with stopping := true } :=
  ⟨_, (srcOrderedStop_due hst hdue).trans (if_neg hcur), setSrc_get ..⟩

/-! ### The idle power of a class 0 port (R170) -/

/-- Too little power for 60 s stops the port: at once where it draws nothing, else by the ramp. -/
theorem srcPvIdle_stops {avail sec : Nat} (hst : s.src[p].st = .supplying) (hcls : s.src[p].cls = 0) (hrole : s.src[p].role = .dc)
    (hlow : avail < s.srcPmin p) (hsec : 60 ≤ sec) :
    ∃ t, exec (.srcPvIdle p avail sec) s = .next t ∧ t.src[p].idle = true ∧
      (s.src[p].cur = 0 → t.src[p].st = .ready) ∧ (s.src[p].cur ≠ 0 → t.src[p].stopping = true) := by
  refine ⟨_, if_pos ⟨hst, hcls, hrole, hlow, hsec⟩, ?_⟩
  rw [setSrc_get]
  refine ⟨rfl, fun h => ?_, fun h => ?_⟩
  · rw [if_pos h]
    exact (toReady_src s p).1
  · rw [if_neg h, setSrc_get]

theorem srcPort_stage (s : State) (p : SPort) : s.stage? p.port = some s.src[p].stage := by
  unfold State.stage?
  rw [srcPort_src]

/-- Of a source port's record only its state, its class, its role and its stage decide whether it may supply (R134, R152). -/
theorem maySupply_setSrc {x : SrcRec} (hst : x.st = s.src[p].st) (hcls : x.cls = s.src[p].cls) (hrole : x.role = s.src[p].role)
    (hstage : x.stage = s.src[p].stage) (avail : Nat) : (s.setSrc p x).maySupply p avail = s.maySupply p avail := by
  have hs : (s.setSrc p x).stage? p.port = s.stage? p.port := by rw [srcPort_stage, srcPort_stage, setSrc_get, hstage]
  have hb : (s.setSrc p x).restartBound p.port = s.restartBound p.port := by
    unfold State.restartBound
    rw [srcPort_src, Option.any_some, Option.any_some, setSrc_get, hrole]
  have hbars : (s.setSrc p x).stageBars p.port = s.stageBars p.port := by
    unfold State.stageBars State.drainTime State.feederDrain
    rw [hs, hb]
    rfl
  unfold State.maySupply
  rw [hbars, setSrc_get, hst, hcls, hrole]
  rfl

/-- The state behind a measurement of the open-circuit voltage. -/
def State.vocMeasured (s : State) (p : SPort) (voc est : Nat) : State :=
  s.setSrc p { s.src[p] with
    voc := sat 65535 voc, vocAt := s.now, idle := s.src[p].idle && decide (est ≤ 2 * s.srcPmin p) }

/-- What a measurement that is due comes to. -/
theorem srcPvVocMeasure_due (voc est : Nat) (hst : s.src[p].st = .ready) (hcls : s.src[p].cls = 0) (hrole : s.src[p].role = .dc)
    (htime : s.src[p].vocAt + 60000000 ≤ s.now) : exec (.srcPvVocMeasure p voc est) s =
      .next (if s.src[p].idle = true ∧ 2 * s.srcPmin p < est ∧ (s.vocMeasured p voc est).maySupply p est = true then
        (s.vocMeasured p voc est).supply p est else s.vocMeasured p voc est) :=
  if_pos ⟨hst, hcls, hrole, htime⟩

/-- The open-circuit voltage is measured each 60 s, and an estimate above twice the idle power starts a port that it had stopped. -/
theorem srcPvVocMeasure_measures {voc est : Nat} (hst : s.src[p].st = .ready) (hcls : s.src[p].cls = 0) (hrole : s.src[p].role = .dc)
    (htime : s.src[p].vocAt + 60000000 ≤ s.now) :
    ∃ t, exec (.srcPvVocMeasure p voc est) s = .next t ∧ t.src[p].voc = min 65535 voc ∧ t.src[p].vocAt = s.now ∧
      (s.src[p].idle = true → 2 * s.srcPmin p < est → s.maySupply p est = true → t.src[p].st = .supplying) := by
  have hvoc : (s.vocMeasured p voc est).src[p].voc = min 65535 voc := congrArg SrcRec.voc (setSrc_get ..)
  have hat : (s.vocMeasured p voc est).src[p].vocAt = s.now := congrArg SrcRec.vocAt (setSrc_get ..)
  have hmay : (s.vocMeasured p voc est).maySupply p est = s.maySupply p est := by
    unfold State.vocMeasured
    exact maySupply_setSrc (by rfl) (by rfl) (by rfl) (by rfl) est
  refine ⟨_, srcPvVocMeasure_due voc est hst hcls hrole htime, ?_⟩
  rw [hmay]
  split
  case isTrue =>
    have h := supply_src (s.vocMeasured p voc est) p est
    exact ⟨h.voc.trans hvoc, h.vocAt.trans hat, fun _ _ _ => h.st⟩
  case isFalse hno => exact ⟨hvoc, hat, fun hidle hest hmay => absurd ⟨hidle, hest, hmay⟩ hno⟩

/-! ### The release of a halt line (R31, R152) -/

/-- A Halted port whose own drivers have all ended is Absent, its halt line released. -/
theorem srcHaltReleased_absent (hst : s.src[p].st = .halted) (hhov : s.src[p].hov = none) (hsafe : s.safeLine = [])
    (hall : ∀ d ∈ s.halt[p.port], s.ownEnded p d = true) :
    ∃ t, exec (.srcHaltReleased p) s = .next t ∧ t.src[p].st = .absent ∧ t.halt[p.port] = [] := by
  have hline : (s.dropOwn p).halt[p.port] = [] := by
    unfold State.dropOwn
    rw [setHalt_halt, Fin.getElem_fin, vset_same, List.filter_eq_nil_iff]
    intro d hd
    simp [hall d hd]
  have hfree : (s.dropOwn p).portFree p.port = true := by
    unfold State.portFree
    rw [hline, show (s.dropOwn p).safeLine = [] from hsafe]
    rfl
  refine ⟨_, if_pos ⟨hst, hfree, hhov⟩, ?_⟩
  rw [setSrc_get]
  exact ⟨rfl, hline⟩

/-! ### SRC_PCTL (R174, R182) -/

/-- A carried write of SRC_PCTL acts on the port. -/
theorem writeCarried_srcPctl (s : State) (p : SPort) (v : Word) : s.writeCarried (srcPctlAt p) v = s.writePctl p v := by
  have hblk : srcPctlAt p / 0x10000 = 0x08 := by unfold srcPctlAt; omega
  have hoff : srcPctlAt p % 0x10000 = 0x100 + 0x40 * p.val + 0x20 := by unfold srcPctlAt; omega
  unfold State.writeCarried
  rw [dif_neg (by rw [hoff]; omega), hblk, hoff]
  unfold State.writeEndpoint State.writePort
  simp only [slot?_at p (show 0x20 < 0x40 by decide)]

/-- What a command of SRC_PCTL makes of the source ports, at the next iteration. -/
theorem srcPctl_next (r : Req) (v : Word) (hs : s.serves (srcPctlAt p)) (hd : s.deferred = []) :
    ∃ t, s.viaService r (srcPctlAt p) (fun s => s.carry (srcPctlAt p) v) = t ∧ t.iterate.src = (s.writePctl p v).src := by
  refine ⟨s.carry (srcPctlAt p) v, viaService_serves s r _ _ hs, ?_⟩
  rw [carry_iterate s _ v hd, writeCarried_srcPctl, iterationEnds_src, settle_src]

theorem writePctl_rearm (s : State) (p : SPort) : s.writePctl p 1 = s.rearmSrc p := rfl
theorem writePctl_requal (s : State) (p : SPort) : s.writePctl p 2 = s.requalSrc p := rfl
theorem writePctl_sweep (s : State) (p : SPort) : s.writePctl p 4 = s.sweepSrc p := rfl

/-- The rearm command on a Locked port whose FST bit is clear makes it Absent at the next iteration. -/
theorem srcRearm_absent (r : Req) (hs : s.serves (srcPctlAt p)) (hd : s.deferred = []) (hfree : s.portFree p.port = true)
    (hst : s.src[p].st = .locked) (hfst : s.flt[bSRC].fst.getLsbD s.src[p].lockSrc = false) :
    ∃ t, exec (.srcRearm r p) s = .next t ∧ t.iterate.src[p].st = .absent := by
  obtain ⟨t, ht, hi⟩ := srcPctl_next r 1 hs hd
  have hc : s.rearmSrc p = s.setSrc p { s.src[p] with st := .absent, since := s.now } := if_pos ⟨hst, hfst, hfree⟩
  refine ⟨t, congrArg Host.Outcome.next ht, ?_⟩
  rw [hi, writePctl_rearm, hc, setSrc_get]

/-- The requal command on a Ready port makes it Qualifying at the next iteration. -/
theorem srcRequal_qualifies (r : Req) (hs : s.serves (srcPctlAt p)) (hd : s.deferred = []) (hfree : s.portFree p.port = true)
    (hst : s.src[p].st = .ready) :
    ∃ t, exec (.srcRequal r p) s = .next t ∧ t.iterate.src[p].st = .qualifying ∧ t.iterate.src[p].since = s.now := by
  obtain ⟨t, ht, hi⟩ := srcPctl_next r 2 hs hd
  have hc : s.requalSrc p = (s.startQualify p).settle := if_pos ⟨hst, hfree⟩
  obtain ⟨hst', hsince, -⟩ := startQualify_enters s p
  refine ⟨t, congrArg Host.Outcome.next ht, ?_⟩
  rw [hi, writePctl_requal, hc, settle_src]
  exact ⟨hst', hsince⟩

end

/-- Settles O31: start, stop, idle, release and SRC_PCTL, each by its own lemma above. -/
theorem sourceSupply : Obligations.SourceSupply := fun _ _ =>
  ⟨fun _ => srcStartSupply_supplies,
    fun hst hdue => ⟨srcOrderedStop_ready hst hdue, srcOrderedStop_ramps hst hdue⟩,
    fun _ _ => srcPvIdle_stops, fun _ _ => srcPvVocMeasure_measures, srcHaltReleased_absent,
    fun r hs hfree hd => ⟨srcRearm_absent r hs hd hfree, srcRequal_qualifies r hs hd hfree⟩⟩

end Sys2Proof.Machine
end

section
/-!
PROOFS. The loss of a source (spec/05_source_ports.md): loss, the end of a hand-over, arc and overcurrent. First, what the stop of a group
does to its cells, and what a halt line makes of a port that supplies.
-/

namespace Sys2Proof.Machine

/-! ### The cells of a group stop (R86) -/

/-- The stop of one cell that serves a group and does not move. -/
def State.stopMember (g : Group) (s : State) (c : Cell) : State :=
  if s.cells[c].grp = some g ∧ (s.migrOf c).isNone = true then
    (if s.cells[c].st.running then s.idleCell c else s).undrop c
  else s

theorem stopGroup_eq (s : State) (g : Group) :
    s.stopGroup g = forEach allCells (State.stopMember g) (s.fab.migs.foldl (State.haltMigr g) s) := rfl

theorem stopMember_fab (g : Group) (s : State) (c : Cell) : (s.stopMember g c).fab = s.fab := by
  unfold State.stopMember
  split
  · split <;> rfl
  · rfl

theorem undrop_get (s : State) (c : Cell) : (s.undrop c).cells[c] = { s.cells[c] with dropped := false } := setCell_get ..

theorem stopMember_other (g : Group) (s : State) {c k : Cell} (h : k ≠ c) : (s.stopMember g k).cells[c] = s.cells[c] := by
  have hu (t : State) : (t.undrop k).cells[c] = t.cells[c] := setCell_get_other _ _ h
  unfold State.stopMember
  split
  · rw [hu]
    split
    · exact setCell_get_other _ _ h
    · rfl
  · rfl

/-- A cell of the group that runs is Idle behind its stop. -/
theorem stopMember_idles {g : Group} {s : State} {c : Cell} (hg : s.cells[c].grp = some g) (hm : s.migrOf c = none)
    (hrun : s.cells[c].st.running = true) : (s.stopMember g c).cells[c].st = .idle := by
  unfold State.stopMember
  rw [if_pos ⟨hg, by rw [hm]; rfl⟩, if_pos hrun, undrop_get, idleCell_get]

/-- A stop keeps an Idle cell Idle. -/
theorem stopMember_keeps (g : Group) {s : State} {c : Cell} (hst : s.cells[c].st = .idle) :
    (s.stopMember g c).cells[c].st = .idle := by
  have hrun : ¬s.cells[c].st.running = true := by rw [hst]; decide
  unfold State.stopMember
  rw [if_neg hrun]
  split
  · rwa [undrop_get]
  · exact hst

/-- Where no cell moves, every running cell of a group is Idle behind its stop. -/
theorem stopGroup_idles {s : State} {g : Group} {c : Cell} (hmigs : s.fab.migs = []) (hg : s.cells[c].grp = some g)
    (hrun : s.cells[c].st.running = true) : (s.stopGroup g).cells[c].st = .idle := by
  have hm : s.migrOf c = none := by rw [State.migrOf, hmigs, List.find?_nil]
  rw [stopGroup_eq, hmigs]
  exact forEach_turns .idle (List.mem_finRange c) (stopMember_fab g) (fun t _ => stopMember_other g t)
    (fun _ hfab ht => stopMember_idles (ht ▸ hg) ((migrOf_of_fab c hfab).trans hm) (ht ▸ hrun)) (fun _ => stopMember_keeps g)

theorem stopGroup_src (s : State) (g : Group) : (s.stopGroup g).src = s.src :=
  but_src (fs := [.fab, .groups, .cells]) (by simp) (by decide)

section
variable {s : State} {p : SPort}

/-! ### Loss (R175, R176) -/

/-- A sweep that is aborted changes nothing of a port but its tracker (R169). -/
theorem abortSweep_eq (x : SrcRec) : ∃ m, x.abortSweep = { x with mppt := m } := by
  unfold SrcRec.abortSweep
  split
  · exact ⟨_, rfl⟩
  · exact ⟨x.mppt, rfl⟩

/-- The state of a loss: every sweep aborted, and the cells of the port's group stopped. -/
def State.lossStops (s : State) (p : SPort) : State := { s with src := s.src.map SrcRec.abortSweep }.stopGroup p.group

theorem lossStops_losses (s : State) (p : SPort) : (s.lossStops p).src[p].losses = s.src[p].losses := by
  obtain ⟨m, hm⟩ := abortSweep_eq s.src[p]
  have h : (s.lossStops p).src[p] = s.src[p].abortSweep := by
    unfold State.lossStops
    rw [stopGroup_src]
    exact Vector.getElem_map ..
  rw [h, hm]

/-- Where no cell moves, a loss stops every running cell of the port's group. -/
theorem lossStops_idles {c : Cell} (hmigs : s.fab.migs = []) (hg : s.cells[c].grp = some p.group)
    (hrun : s.cells[c].st.running = true) : (s.lossStops p).cells[c].st = .idle :=
  stopGroup_idles (s := { s with src := s.src.map SrcRec.abortSweep }) hmigs hg hrun

/-- A loss is counted, and changes nothing else of the port but its flap flag (R158). -/
theorem countLoss_get (s : State) (p : SPort) : ∃ l f, (s.countLoss p).src[p] =
    { s.src[p] with losses := sat 65535 (s.src[p].losses + 1), lossAt := l, flap := f } :=
  ⟨_, _, setSrc_get ..⟩

theorem countLoss_cells (s : State) (p : SPort) : (s.countLoss p).cells = s.cells := rfl

/-- The record of a port that is lost: its draw ends, its stage is drained, and its hand-over begins. -/
def SrcRec.lostAt (x : SrcRec) (now : Nat) : SrcRec :=
  { x with st := .lost, cause := 7, since := now, cur := 0, pwr := 0, lim := 0, stopping := false, stage := x.stage.stop now,
           hov := some (now, .absent) }

theorem lostAt_losses (x : SrcRec) (now : Nat) : (x.lostAt now).losses = x.losses := rfl

/-- A loss criterion makes a Supplying port Lost, its hand-over begun and counted, and the cells of its group stop. -/
theorem srcLoss_loses {o : LossObs} (hst : s.src[p].st = .supplying) (hmet : s.src[p].lossMet o = true) :
    ∃ u : State, exec (.srcLoss p o) s = .next (u.occur bSRC 5 p.val).settle ∧ u.src[p].st = .lost ∧ u.src[p].cause = 7 ∧
      u.src[p].cur = 0 ∧ u.src[p].hov = some (s.now, .absent) ∧ u.src[p].losses = min 65535 (s.src[p].losses + 1) ∧
      ∀ c : Cell, s.cells[c].grp = some p.group → s.cells[c].st = .active → s.fab.migs = [] → u.cells[c].st = .idle := by
  refine ⟨((s.lossStops p).setSrc p ((s.lossStops p).src[p].lostAt s.now)).countLoss p, if_pos ⟨hst, hmet⟩, ?_⟩
  obtain ⟨l, f, hget⟩ := countLoss_get ((s.lossStops p).setSrc p ((s.lossStops p).src[p].lostAt s.now)) p
  rw [hget, setSrc_get]
  refine ⟨rfl, rfl, rfl, rfl, ?_, fun c hg hact hmigs => ?_⟩
  · rw [lostAt_losses, lossStops_losses, sat]
  · rw [countLoss_cells, setSrc_cells]
    exact lossStops_idles hmigs hg (by rw [hact]; rfl)

/-! ### The end of a hand-over (R176-R181) -/

/-- The record of a port behind its hand-over: a Lost port is what follows, and presence is judged afresh (R180). -/
def SrcRec.handedOver (x : SrcRec) (now : Nat) (after : SrcState) : SrcRec :=
  if x.st = .lost then
    { x with hov := none, st := after, cause := if after = .halted then 9 else x.cause, since := now, judgeAt := now }
  else { x with hov := none, judgeAt := now }

theorem handedOver_eq (x : SrcRec) (now : Nat) (after : SrcState) : (x.handedOver now after).hov = none ∧
    (x.handedOver now after).judgeAt = now ∧ (x.handedOver now after).st = if x.st = .lost then after else x.st := by
  unfold SrcRec.handedOver
  split <;> exact ⟨rfl, rfl, rfl⟩

/-- The hand-over's end makes the port what follows, and a shortfall is source 6. -/
theorem handOverComplete_ends (durUs droop : Nat) {t₀ : Nat} {after : SrcState} (hhov : s.src[p].hov = some (t₀, after)) :
    ∃ u : State, exec (.handOverComplete p durUs droop) s = .next (if s.covered p then u else u.occur bSRC 6 p.val) ∧
      u.src[p].hov = none ∧ u.src[p].judgeAt = s.now ∧ u.src[p].st = (if s.src[p].st = .lost then after else s.src[p].st) := by
  have hexec : exec (.handOverComplete p durUs droop) s = execHandOverComplete p durUs droop s := rfl
  have hget (h : HovRec) : (({ s with hov := h } : State).setSrc p (s.src[p].handedOver s.now after)).src[p] =
      s.src[p].handedOver s.now after := setSrc_get ..
  rw [hexec, execHandOverComplete]
  simp only [hhov]
  refine ⟨State.setSrc { s with hov := _ } p (s.src[p].handedOver s.now after), rfl, ?_⟩
  rw [hget]
  exact handedOver_eq ..

/-! ### Arc (R173, R181) -/

/-- A detected arc locks a class 0 port that supplies, or that a loss or a halt line of the same iteration met. -/
theorem arcDetected_locks {metric : Nat}
    (hst : s.src[p].st = .supplying ∨ (s.src[p].st = .lost ∨ s.src[p].st = .halted) ∧ ∃ a, s.src[p].hov = some (s.now, a))
    (hcls : s.src[p].cls = 0) (harc : s.src[p].arcen = true) :
    ∃ u : State, exec (.arcDetected p metric) s = .next (u.occur bSRC 3 p.val).settle ∧ u.src[p].st = .locked ∧
      u.src[p].cause = 8 ∧ u.src[p].arcs = min 65535 (s.src[p].arcs + 1) ∧ u.src[p].metric = min 255 metric := by
  have hmeets : s.src[p].arcMeets s.now = true := by
    unfold SrcRec.arcMeets
    rcases hst with h | ⟨h | h, a, ha⟩
    · simp only [h, beq_self_eq_true, Bool.true_or]
    all_goals simp only [h, ha, Option.map_some, beq_self_eq_true, Bool.true_or, Bool.or_true, Bool.and_true]
  refine ⟨_, if_pos ⟨hmeets, hcls, harc⟩, ?_⟩
  rw [setSrc_get]
  exact ⟨rfl, rfl, rfl, rfl⟩

/-! ### Overcurrent (R179, R185) -/

theorem feederStop_eq (x : SrcRec) (f : FdrRec) (now : Nat) : ∃ y, x.feederStop f now = { x with stage := y } := by
  unfold SrcRec.feederStop
  split
  · exact ⟨_, rfl⟩
  · exact ⟨x.stage, rfl⟩

/-- A halt line halts a port that supplies, and its hand-over begins (R179). -/
theorem halted_supplying {x : SrcRec} (now cause : Nat) (h : x.st = .supplying) :
    (x.halted now cause true).st = .halted ∧ (x.halted now cause true).hov = some (now, .halted) := by
  unfold SrcRec.halted
  rw [h]
  exact ⟨rfl, rfl⟩

theorem haltSource_supplying (h : s.src[p].st = .supplying) :
    (s.haltSource p.port).src[p].st = .halted ∧ (s.haltSource p.port).src[p].hov = some (s.now, .halted) := by
  obtain ⟨y, hy⟩ := feederStop_eq (s.src[p].halted s.now 9 true) s.fdr[p] s.now
  unfold State.haltSource
  rw [srcPort_src]
  dsimp only
  rw [setFdr_src, setSrc_get, hy]
  exact halted_supplying s.now 9 h

/-- A line of a port's own protection halts a port that supplies. -/
theorem assertHalt_supplying (d : Driver) (h : s.src[p].st = .supplying) (hd : d.reaction = false) :
    (s.assertHalt p.port d).src[p].st = .halted ∧ (s.assertHalt p.port d).src[p].hov = some (s.now, .halted) := by
  have hbefore (u : State) : (u.haltGroup p.port).src = u.src := but_src (fs := [.fab, .groups, .cells]) (by simp) (by decide)
  have hnow (u : State) : (u.haltGroup p.port).now = u.now := but_now (fs := [.fab, .groups, .cells]) (by simp) (by decide)
  have hafter (u : State) : ((u.haltBattery p.port).haltBranches p.port).settle.src = u.src :=
    but_src (fs := [.bat, .branches, .groups, .ctx, .chg]) (by simp) (by decide)
  have hsupplies (l : List Driver) : ((s.setHalt p.port l).haltGroup p.port).src[p].st = .supplying :=
    (src_of_eq SrcRec.st (hbefore _)).trans h
  have hhalted (l : List Driver) := haltSource_supplying (hsupplies l)
  unfold State.assertHalt State.haltPort
  rw [hd]
  dsimp only
  rw [if_neg Bool.false_ne_true, hafter]
  obtain ⟨hst, hhov⟩ := hhalted (if s.halt[p.port].contains d then s.halt[p.port] else s.halt[p.port] ++ [d])
  rw [hnow] at hhov
  exact ⟨hst, hhov⟩

/-- An overcurrent halts the port with its own driver, and its hand-over begins. -/
theorem srcOvercurrent_halts {i us : Nat} (hst : s.src[p].st = .supplying) (hi : 11 * s.srcIlim p < 10 * i ∨ 3520 < i)
    (hus : 100 ≤ us) :
    ∃ u : State, exec (.srcOvercurrent p i us) s = .next (u.occur bSRC 7 p.val) ∧ u.src[p].st = .halted ∧ u.src[p].cause = 11 ∧
      u.src[p].hov = some (s.now, .halted) ∧ (⟨bSRC, 7, p.val, false⟩ : Driver) ∈ u.halt[p.port] := by
  obtain ⟨hhalted, hhov⟩ := assertHalt_supplying ⟨bSRC, 7, p.val, false⟩ hst rfl
  refine ⟨_, if_pos ⟨hst, hi, hus⟩, ?_⟩
  rw [setSrc_get, setSrc_halt]
  exact ⟨hhalted, rfl, hhov, assertHalt_asserts ..⟩

end

/-- Settles O32: loss, the end of a hand-over, arc and overcurrent, each by its own lemma above. -/
theorem sourceLoss : Obligations.SourceLoss := fun _ _ =>
  ⟨fun _ => srcLoss_loses, fun durUs droop _ _ => handOverComplete_ends durUs droop, fun _ => arcDetected_locks,
    fun _ _ => srcOvercurrent_halts⟩

end Sys2Proof.Machine
end

section
/-!
PROOFS. The maximum power tracker (spec/05_source_ports.md): its perturbation and its sweeps. First, what a sweep that is wanted comes to.
-/

namespace Sys2Proof.Machine

section
variable {s : State} {p : SPort}

/-! ### The perturbation (R166) -/

/-- The reference after a perturbation stays within the window, whatever the step has made of it. -/
theorem vref_inWindow (low high to_ : Nat) : low ≤ max low (min to_ high) ∧ max low (min to_ high) ≤ max low high :=
  ⟨Nat.le_max_left .., max_le_max_left low (Nat.min_le_right ..)⟩

/-- A perturbation moves the reference within its window, and reverses with half the step where the power fell. -/
theorem mpptPerturb_moves {power : Nat} (htracks : s.tracks p = true) (hsweep : s.src[p].mppt.sweep = none)
    (htime : s.src[p].mppt.movedAt + 1000 * (s.reg (srcMpptAt p)).bits 7 0 ≤ s.now) :
    ∃ t, exec (.mpptPerturb p power) s = .next t ∧ t.src[p].mppt.lastPower = power ∧ t.src[p].mppt.movedAt = s.now ∧
      t.src[p].mppt.avail = power ∧ 100 * s.src[p].lossV ≤ t.src[p].mppt.vref ∧
      t.src[p].mppt.vref ≤ max (100 * s.src[p].lossV) (100 * (s.reg (srcQvAt p)).bits 31 16) ∧
      (power < s.src[p].mppt.lastPower → t.src[p].mppt.up = (!s.src[p].mppt.up) ∧
        t.src[p].mppt.step = max 10 (s.src[p].mppt.step / 2)) ∧
      (s.src[p].mppt.lastPower ≤ power → t.src[p].mppt.up = s.src[p].mppt.up) := by
  refine ⟨_, if_pos ⟨htracks, hsweep, htime⟩, ?_⟩
  rw [setSrc_get]
  dsimp only
  obtain ⟨hlow, hhigh⟩ := vref_inWindow (100 * s.src[p].lossV) (100 * (s.reg (srcQvAt p)).bits 31 16) _
  refine ⟨rfl, rfl, rfl, hlow, hhigh, fun hfell => ?_, fun hrose => ?_⟩
  · rw [decide_eq_true hfell]
    exact ⟨rfl, rfl⟩
  · rw [decide_eq_false (Nat.not_lt.mpr hrose)]
    rfl

/-! ### Sweeps (R168, R169) -/

/-- A port that supplies without a sweep in progress may start one. -/
theorem noSweep_of (hst : s.src[p].st = .supplying) (hsweep : s.src[p].mppt.sweep = none) :
    ¬(s.src[p].st ≠ .supplying ∨ s.src[p].mppt.sweep.isSome = true) :=
  not_or.mpr ⟨not_not_intro hst, by rw [hsweep]; exact Bool.false_ne_true⟩

/-- A sweep that is wanted and covered starts. -/
theorem wantSweep_starts (hst : s.src[p].st = .supplying) (hsweep : s.src[p].mppt.sweep = none) (hcov : s.sweepCovered p = true) :
    s.wantSweep p = s.setSrc p (s.src[p].startSweep s.now false) := (if_neg (noSweep_of hst hsweep)).trans (if_pos hcov)

/-- A sweep that is wanted for the first time and not covered is deferred. -/
theorem wantSweep_defers (hst : s.src[p].st = .supplying) (hsweep : s.src[p].mppt.sweep = none) (hcov : s.sweepCovered p = false)
    (hdefer : s.src[p].mppt.deferAt = none) :
    s.wantSweep p = s.setSrc p { s.src[p] with mppt := { s.src[p].mppt with deferAt := some s.now } } := by
  have hlate : ¬(s.srcSweep p != 0 && s.src[p].mppt.deferAt.any fun t => decide (t + 4 * s.srcSweep p ≤ s.now)) = true := by
    rw [hdefer, Option.any_none, Bool.and_false]
    exact Bool.false_ne_true
  refine (if_neg (noSweep_of hst hsweep)).trans ((if_neg (ne_true_of_eq_false hcov)).trans ((if_neg hlate).trans ?_))
  rw [hdefer, Option.getD_none]

/-- The sweep command on a class 0 port that supplies starts a covered sweep at the next iteration. -/
theorem srcSweep_starts (r : Req) (hsweep : s.src[p].mppt.sweep = none) (hs : s.serves (srcPctlAt p)) (hd : s.deferred = [])
    (hcov : s.sweepCovered p = true) (hcls : s.src[p].cls = 0) (hrole : s.src[p].role = .dc) (hst : s.src[p].st = .supplying) :
    ∃ t, exec (.srcSweep r p) s = .next t ∧ t.iterate.src[p].mppt.sweep.isSome = true := by
  obtain ⟨t, ht, hi⟩ := srcPctl_next r 4 hs hd
  have hpv : s.src[p].isPv = true := by simp only [SrcRec.isPv, hcls, hrole, beq_self_eq_true, Bool.and_self]
  have hc : s.sweepSrc p = s.wantSweep p := if_pos hpv
  refine ⟨t, congrArg Host.Outcome.next ht, ?_⟩
  rw [hi, writePctl_sweep, hc, wantSweep_starts hst hsweep hcov, setSrc_get]
  rfl

theorem supplying_of_tracks (h : s.tracks p = true) : s.src[p].st = .supplying := by
  unfold State.tracks at h
  simp only [Bool.and_eq_true, beq_iff_eq] at h
  obtain ⟨⟨⟨⟨hst, -⟩, -⟩, -⟩, -⟩ := h
  exact hst

/-- A sweep that is due, or that a fall of the power calls for, is wanted. -/
theorem mpptSweepStart_wants {fall : Nat} (htracks : s.tracks p = true)
    (hdue : s.srcSweep p ≠ 0 ∧ s.src[p].mppt.sweptAt.getD s.src[p].since + s.srcSweep p ≤ s.now ∨ 20 < fall ∧ s.src[p].lim = 9) :
    exec (.mpptSweepStart p fall) s = .next (s.wantSweep p) := by
  have hwant : (s.srcSweep p != 0 && decide (s.src[p].mppt.sweptAt.getD s.src[p].since + s.srcSweep p ≤ s.now) ||
      decide (20 < fall) && s.src[p].lim == 9) = true := by
    simpa only [Bool.or_eq_true, Bool.and_eq_true, bne_iff_ne, decide_eq_true_eq, beq_iff_eq] using hdue
  exact if_pos ⟨htracks, hwant⟩

/-- A sweep that is due starts where it is covered. -/
theorem mpptSweepStart_starts {fall : Nat} (hsweep : s.src[p].mppt.sweep = none) (htracks : s.tracks p = true)
    (hdue : s.srcSweep p ≠ 0 ∧ s.src[p].mppt.sweptAt.getD s.src[p].since + s.srcSweep p ≤ s.now ∨ 20 < fall ∧ s.src[p].lim = 9)
    (hcov : s.sweepCovered p = true) :
    ∃ t, exec (.mpptSweepStart p fall) s = .next t ∧ t.src[p].mppt.sweep.isSome = true ∧ t.src[p].mppt.deferAt = none := by
  refine ⟨_, mpptSweepStart_wants htracks hdue, ?_⟩
  rw [wantSweep_starts (supplying_of_tracks htracks) hsweep hcov, setSrc_get]
  exact ⟨rfl, rfl⟩

/-- A sweep that is due is deferred where it is not covered. -/
theorem mpptSweepStart_defers {fall : Nat} (hsweep : s.src[p].mppt.sweep = none) (htracks : s.tracks p = true)
    (hdue : s.srcSweep p ≠ 0 ∧ s.src[p].mppt.sweptAt.getD s.src[p].since + s.srcSweep p ≤ s.now ∨ 20 < fall ∧ s.src[p].lim = 9)
    (hcov : s.sweepCovered p = false) (hdefer : s.src[p].mppt.deferAt = none) :
    ∃ t, exec (.mpptSweepStart p fall) s = .next t ∧ t.src[p].mppt.sweep = none ∧ t.src[p].mppt.deferAt = some s.now := by
  refine ⟨_, mpptSweepStart_wants htracks hdue, ?_⟩
  rw [wantSweep_defers (supplying_of_tracks htracks) hsweep hcov hdefer, setSrc_get]
  exact ⟨hsweep, rfl⟩

/-! ### The end of a sweep (R168) -/

/-- The reference that a sweep leaves: the best point that the waves recorded, else the one that the command brings, within the ends. -/
def SrcRec.sweptRef (x : SrcRec) (w : Sweep) (best : Nat) : Nat :=
  if w.seen then w.best else max (x.sweepLow w) (min (100 * best) x.sweepTop)

/-- What the end of a sweep comes to. -/
theorem mpptSweepDone_at {best : Nat} {w : Sweep} (hw : s.src[p].mppt.sweep = some w) : exec (.mpptSweepDone p best) s =
    if s.now < w.start + 512000 then .next s
    else .next (s.setSrc p { s.src[p] with mppt := { s.src[p].mppt with
      vref := s.src[p].sweptRef w best, heldRef := s.src[p].sweptRef w best, sweep := none, sweptAt := some s.now,
      deferAt := none } }) := by
  have hexec : exec (.mpptSweepDone p best) s = execMpptSweepDone p best s := rfl
  rw [hexec, execMpptSweepDone]
  simp only [hw]
  rfl

/-- After its 64 points a sweep ends at the best that the waves recorded. -/
theorem mpptSweepDone_ends {best : Nat} {w : Sweep} (hw : s.src[p].mppt.sweep = some w) (htime : w.start + 512000 ≤ s.now) :
    ∃ t, exec (.mpptSweepDone p best) s = .next t ∧
      t.src[p].mppt.sweep = none ∧ t.src[p].mppt.sweptAt = some s.now ∧ t.src[p].mppt.heldRef = t.src[p].mppt.vref ∧
      (w.seen = true → t.src[p].mppt.vref = w.best) ∧
      (w.seen = false → t.src[p].mppt.vref =
        max (if w.half then max (100 * s.src[p].lossV) (8 * w.from_ / 10) else 100 * s.src[p].lossV)
          (min (100 * best) (95 * s.src[p].voc))) := by
  refine ⟨_, (mpptSweepDone_at hw).trans (if_neg (Nat.not_lt.mpr htime)), ?_⟩
  rw [setSrc_get]
  exact ⟨rfl, rfl, rfl, fun h => if_pos h, fun h => if_neg (ne_true_of_eq_false h)⟩

/-- Before its 64 points have passed a sweep goes on. -/
theorem mpptSweepDone_waits {best : Nat} {w : Sweep} (hw : s.src[p].mppt.sweep = some w) (htime : s.now < w.start + 512000) :
    exec (.mpptSweepDone p best) s = .next s := (mpptSweepDone_at hw).trans (if_pos htime)

end

/-- Settles O33: the perturbation, the sweep that is ordered or due, and its end, each by its own lemma above. -/
theorem tracker : Obligations.Tracker := fun _ _ =>
  ⟨fun _ => mpptPerturb_moves,
    fun hsweep => ⟨fun r => srcSweep_starts r hsweep, fun _ htracks hdue =>
      ⟨mpptSweepStart_starts hsweep htracks hdue, mpptSweepStart_defers hsweep htracks hdue⟩⟩,
    fun _ _ hw => ⟨mpptSweepDone_ends hw, mpptSweepDone_waits hw⟩⟩

end Sys2Proof.Machine
end

section
/-!
PROOFS. The states of the flows (spec/06_flows.md): what an accepted MODIFY, SUSPEND, RESUME and DESTROY make of a flow at the iteration
that takes them, and how opening and closing end. First, what an update of one context and the hardware events leave of a flow.
-/

namespace Sys2Proof.Machine

/-! ### One context -/

theorem setCtx_get (s : State) (c : Ctx) (x : FlowCtx) : (s.setCtx c x).ctx[c] = x := vset_same ..

theorem setCtx_get_other (s : State) {c k : Ctx} (x : FlowCtx) (h : k ≠ c) : (s.setCtx c x).ctx[k] = s.ctx[k] :=
  vset_other _ _ _ _ h.symm

/-- What the hardware events keep of a flow, in whatever state they find the module, their settling keeps of a context. -/
theorem settle_ctx_keeps {P : FlowCtx → Prop} (hP : ∀ (s : State) (f : FlowCtx), P f → P (s.settleFlow f)) {s : State} {c : Ctx}
    (h : P s.ctx[c]) : P s.settle.ctx[c] := by
  rw [settle_ctx]
  exact hP _ _ (hP _ _ h)

theorem settle_setCtx_keeps {P : FlowCtx → Prop} (hP : ∀ (s : State) (f : FlowCtx), P f → P (s.settleFlow f)) (s : State) (c : Ctx)
    {x : FlowCtx} (h : P x) : P (s.setCtx c x).settle.ctx[c] := settle_ctx_keeps hP (by rwa [setCtx_get])

/-! ### The hardware events on one flow (R196, R204) -/

/-- A Suspended flow is settled by its causes: Live without one, else Suspended. -/
theorem settleFlow_of_suspended (s : State) {f : FlowCtx} (h : f.st = .suspended) :
    s.settleFlow f = if (f.scause &&& 1) ||| s.hwCauses f = 0 then f.resumed s.now
      else { f with scause := (f.scause &&& 1) ||| s.hwCauses f } := by
  unfold State.settleFlow
  simp only [h]

/-- An Opening flow is Suspended by the module's hold, and by nothing else before its opening ends. -/
theorem settleFlow_of_opening (s : State) {f : FlowCtx} (h : f.st = .opening) :
    s.settleFlow f = if s.moduleHolds f = true then { f.suspended s.now ((f.scause &&& 1) ||| s.hwCauses f) with liveUs := f.liveUs }
      else f := by
  unfold State.settleFlow
  simp only [h, hwCauses_bit4]

/-- Cause bit 0 of a flow beside its hardware causes. -/
theorem causes_bit0 (s : State) (f : FlowCtx) : ((f.scause &&& 1) ||| s.hwCauses f).getLsbD 0 = f.scause.getLsbD 0 := by
  rw [BitVec.getLsbD_or, BitVec.getLsbD_and, hwCauses_bit0, Bool.or_false]
  exact Bool.and_true _

/-- A cause that is set is not none. -/
theorem causes_ne_zero {v : BitVec 6} (h : v.getLsbD 0 = true) : v ≠ 0 := fun e => by
  rw [e] at h
  exact absurd h (by decide)

/-- A flow Suspended by SUSPEND stays so until RESUME (R204). -/
theorem settleFlow_bit0_suspended (s : State) (f : FlowCtx) (h : f.st = .suspended ∧ f.scause.getLsbD 0 = true) :
    (s.settleFlow f).st = .suspended ∧ (s.settleFlow f).scause.getLsbD 0 = true := by
  obtain ⟨hst, hbit⟩ := h
  have hall : ((f.scause &&& 1) ||| s.hwCauses f).getLsbD 0 = true := (causes_bit0 s f).trans hbit
  rw [settleFlow_of_suspended s hst, if_neg (causes_ne_zero hall)]
  exact ⟨hst, hall⟩

/-- A flow that SUSPEND met while it was Opening keeps cause bit 0, and is Opening or Suspended. -/
theorem settleFlow_bit0_set (s : State) (f : FlowCtx) (h : (f.st = .opening ∨ f.st = .suspended) ∧ f.scause.getLsbD 0 = true) :
    ((s.settleFlow f).st = .opening ∨ (s.settleFlow f).st = .suspended) ∧ (s.settleFlow f).scause.getLsbD 0 = true := by
  obtain ⟨hst | hst, hbit⟩ := h
  · rw [settleFlow_of_opening s hst]
    split
    · exact ⟨.inr rfl, (causes_bit0 s f).trans hbit⟩
    · exact ⟨.inl hst, hbit⟩
  · obtain ⟨hst', hbit'⟩ := settleFlow_bit0_suspended s f ⟨hst, hbit⟩
    exact ⟨.inr hst', hbit'⟩

/-- No hardware event sets cause bit 0 (R204). -/
theorem settleFlow_bit0_clear (s : State) (f : FlowCtx) (h : f.scause.getLsbD 0 = false) : (s.settleFlow f).scause.getLsbD 0 = false := by
  have hall : ((f.scause &&& 1) ||| s.hwCauses f).getLsbD 0 = false := (causes_bit0 s f).trans h
  unfold State.settleFlow
  extract_lets hw all
  cases f.st with
  | opening =>
    dsimp only
    split
    · exact hall
    · exact h
  | live =>
    dsimp only
    split
    · exact h
    · exact hwCauses_bit0 s f
  | suspended =>
    dsimp only
    split
    · exact BitVec.getLsbD_zero
    · exact hall
  | closing =>
    dsimp only
    split <;> exact h
  | free => exact h
  | fenced => exact h

/-- A flow as the end of its opening or of its suspension leaves it: Live without a cause, or Suspended with one. -/
def FlowCtx.Judged (f : FlowCtx) : Prop := (f.st = .live ∧ f.scause = 0) ∨ (f.st = .suspended ∧ f.scause ≠ 0)

theorem FlowCtx.Judged.live_iff {f : FlowCtx} (h : f.Judged) : f.st = .live ↔ f.scause = 0 := by
  rcases h with ⟨hst, hc⟩ | ⟨hst, hc⟩
  · exact iff_of_true hst hc
  · exact iff_of_false (by simp [hst]) hc

/-- A Suspended flow is judged by the hardware events of the moment. -/
theorem settleFlow_judges (s : State) {f : FlowCtx} (h : f.st = .suspended) : (s.settleFlow f).Judged := by
  rw [settleFlow_of_suspended s h]
  split
  · exact .inl ⟨rfl, rfl⟩
  · exact .inr ⟨h, by assumption⟩

theorem settle_ctx_judged {s : State} {c : Ctx} (h : s.ctx[c].Judged) : s.settle.ctx[c].Judged := settle_ctx_keeps settleFlow_live h

theorem settle_ctx_judges {s : State} {c : Ctx} (h : s.ctx[c].st = .suspended) : s.settle.ctx[c].Judged := by
  rw [settle_ctx]
  exact settleFlow_live _ _ (settleFlow_judges _ h)

/-- A Closing flow keeps the current and the time of its DESTROY, from which its closing time runs (R205). -/
theorem settleFlow_closing_kept {i n : Nat} (s : State) (f : FlowCtx) (h : f.st = .closing ∧ f.closeI = i ∧ f.since = n) :
    (s.settleFlow f).st = .closing ∧ (s.settleFlow f).closeI = i ∧ (s.settleFlow f).since = n := by
  refine ⟨settleFlow_closing s f h.1, ?_⟩
  unfold State.settleFlow
  simp only [h.1]
  split <;> exact h.2

/-! ### A command that is accepted (R198, R199) -/

/-- A result without refusal leaves the contexts as they are. -/
theorem flowResult_done_ctx (s : State) (idx : Nat) (h : BitVec 16) : (s.flowResult 0 idx h).ctx = s.ctx := rfl

/-- A command accepted with an effect: at the next iteration the contexts are those that settle from the effect. -/
theorem carryFlow_accepted {s t : State} (r : Req) {op idx : Nat} {h k : BitVec 16} (hs : s.serves flowCmdAt) (hb : s.flow.busy = false)
    (hd : s.deferred = []) (hop : op ≠ 0) (ht : s.executing.writeFlowCmd (flowWord op h) = t.flowResult 0 idx k) :
    ∃ u, (.next (s.viaService r flowCmdAt fun s => s.carryFlow op h) : Ans) = .next u ∧
      u.iterate.ctx = (t.flowResult 0 idx k).settle.ctx := by
  obtain ⟨u, hu, -, -, hi⟩ := carryFlow_next r h hs hb hd hop
  exact ⟨u, congrArg Host.Outcome.next hu, by rw [hi, iterationEnds_ctx, ht]⟩

/-- What the effect leaves of a context, and every settling keeps, the next iteration shows. -/
theorem carryFlow_keeps {s t : State} (r : Req) {op idx : Nat} {h k : BitVec 16} (hs : s.serves flowCmdAt) (hb : s.flow.busy = false)
    (hd : s.deferred = []) (hop : op ≠ 0) (ht : s.executing.writeFlowCmd (flowWord op h) = t.flowResult 0 idx k) (c : Ctx) :
    ∃ u, (.next (s.viaService r flowCmdAt fun s => s.carryFlow op h) : Ans) = .next u ∧
      ∀ P : FlowCtx → Prop, (∀ (s : State) (f : FlowCtx), P f → P (s.settleFlow f)) → P t.ctx[c] → P u.iterate.ctx[c] := by
  obtain ⟨u, hu, hctx⟩ := carryFlow_accepted r hs hb hd hop ht
  refine ⟨u, hu, fun P hP hc => ?_⟩
  rw [hctx]
  refine settle_ctx_keeps hP ?_
  rwa [flowResult_done_ctx]

/-! ### SUSPEND and RESUME -/

/-- An accepted SUSPEND sets cause bit 0, and Suspends a Live flow. -/
theorem suspendFlow_accepted {s : State} {h : BitVec 16} {c : Ctx} (hn : s.named h = .inr c) (hlost : s.lost c = false)
    (hhalt : s.portHalted s.ctx[c].d = false) (himg : s.noChange = false) (hst : s.ctx[c].st = .opening ∨ s.ctx[c].st = .live) :
    ∃ t : State, s.suspendFlow h = t.flowResult 0 c.val h ∧
      ((t.ctx[c].st = .opening ∨ t.ctx[c].st = .suspended) ∧ t.ctx[c].scause.getLsbD 0 = true) ∧
      (s.ctx[c].st = .live → t.ctx[c].st = .suspended ∧ t.ctx[c].scause.getLsbD 0 = true) := by
  have hbit : (s.ctx[c].scause ||| 1).getLsbD 0 = true := by
    rw [BitVec.getLsbD_or]
    exact Bool.or_true _
  have hwrong : (s.ctx[c].st != .opening && s.ctx[c].st != .live) = false := by
    rcases hst with hst | hst <;> rw [hst] <;> rfl
  unfold State.suspendFlow
  simp only [hn, firstCode, hlost, hwrong, hhalt, himg, Bool.false_eq_true, if_false, if_true]
  refine ⟨_, rfl, ?_⟩
  rcases hst with hst | hst
  · rw [if_neg (by rw [hst]; decide)]
    exact ⟨settle_setCtx_keeps settleFlow_bit0_set s c ⟨.inl hst, hbit⟩, fun hlive => absurd (hst.symm.trans hlive) (by decide)⟩
  · rw [if_pos hst]
    exact ⟨settle_setCtx_keeps settleFlow_bit0_set s c ⟨.inr rfl, hbit⟩,
      fun _ => settle_setCtx_keeps settleFlow_bit0_suspended s c ⟨rfl, hbit⟩⟩

/-- An accepted RESUME clears cause bit 0, and the hardware causes judge the flow. -/
theorem resumeFlow_accepted {s : State} {h : BitVec 16} {c : Ctx} (hn : s.named h = .inr c) (hlost : s.lost c = false)
    (hhalt : s.portHalted s.ctx[c].d = false) (himg : s.noChange = false) (hst : s.ctx[c].st = .suspended)
    (hbit : s.ctx[c].scause.getLsbD 0 = true) :
    ∃ t : State, s.resumeFlow h = t.flowResult 0 c.val h ∧ t.ctx[c].scause.getLsbD 0 = false ∧ t.ctx[c].Judged := by
  have hwrong : (s.ctx[c].st != .suspended || !s.ctx[c].scause.getLsbD 0) = false := by
    rw [hst, hbit]
    rfl
  have hclear : (s.ctx[c].scause &&& 0b111110).getLsbD 0 = false := by
    rw [BitVec.getLsbD_and]
    exact Bool.and_false _
  unfold State.resumeFlow
  simp only [hn, firstCode, hlost, hwrong, hhalt, himg, Bool.false_eq_true, if_false, if_true]
  exact ⟨_, rfl, settle_setCtx_keeps settleFlow_bit0_clear s c hclear,
    settle_ctx_judges (by rw [setCtx_get]; exact hst)⟩

/-! ### DESTROY (R196) -/

section
variable {s : State} {c : Ctx}

/-- A flow that is Opening, Live or Suspended is Closing behind its DESTROY, and the hardware events of the moment follow. -/
theorem closeFlow_of_open (h : s.ctx[c].st = .opening ∨ s.ctx[c].st = .live ∨ s.ctx[c].st = .suspended) :
    ∃ x : FlowCtx, x.st = .closing ∧ s.closeFlow c = (s.setCtx c x).settle := by
  unfold State.closeFlow
  rcases h with h | h | h <;> simp only [h] <;> exact ⟨_, rfl, rfl⟩

theorem closeFlow_of_fenced (h : s.ctx[c].st = .fenced) : s.closeFlow c = s.setCtx c { s.ctx[c] with leaving := true } := by
  unfold State.closeFlow
  simp only [h]

theorem closeFlow_of_closing (h : s.ctx[c].st = .closing) : s.closeFlow c = s := by
  unfold State.closeFlow
  simp only [h]

theorem closeFlow_of_free (h : s.ctx[c].st = .free) : s.closeFlow c = s := by
  unfold State.closeFlow
  simp only [h]

theorem closeFlow_closes (h : s.ctx[c].st = .opening ∨ s.ctx[c].st = .live ∨ s.ctx[c].st = .suspended) :
    (s.closeFlow c).ctx[c].st = .closing := by
  obtain ⟨x, hx, he⟩ := closeFlow_of_open h
  rw [he]
  exact settle_setCtx_keeps settleFlow_closing s c hx

/-- The DESTROY of another flow leaves a Free context as it is. -/
theorem closeFlow_free_other {k : Ctx} (hne : k ≠ c) (hfree : s.ctx[c].st = .free) : (s.closeFlow k).ctx[c] = s.ctx[c] := by
  have hopen (h : s.ctx[k].st = .opening ∨ s.ctx[k].st = .live ∨ s.ctx[k].st = .suspended) : (s.closeFlow k).ctx[c] = s.ctx[c] := by
    obtain ⟨x, -, he⟩ := closeFlow_of_open h
    have hc : (s.setCtx k x).ctx[c] = s.ctx[c] := setCtx_get_other s x hne.symm
    rw [he, settle_ctx_idle (.inl (by rwa [hc])), hc]
  cases hst : s.ctx[k].st with
  | opening => exact hopen (.inl hst)
  | live => exact hopen (.inr (.inl hst))
  | suspended => exact hopen (.inr (.inr hst))
  | fenced => rw [closeFlow_of_fenced hst, setCtx_get_other s _ hne.symm]
  | closing => rw [closeFlow_of_closing hst]
  | free => rw [closeFlow_of_free hst]

/-- An accepted DESTROY closes the flow. -/
theorem destroyFlow_accepted {h : BitVec 16} (hn : s.named h = .inr c) (hlend : s.lendsOn c = false) (hlost : s.lost c = false)
    (hhalt : s.portHalted s.ctx[c].d = false) (himg : s.noChange = false) :
    s.destroyFlow h = (s.closeFlow c).flowResult 0 c.val h := by
  have hno : s.noImage = false := (Bool.or_eq_false_iff.mp himg).1
  unfold State.destroyFlow
  simp only [hn, State.destroyCode, firstCode, hlend, hlost, hhalt, hno, Bool.false_eq_true, if_false, if_true]

end

/-! ### The drain of an activation (R413) -/

/-- The drain destroys flows; a Free context it leaves as it is. -/
theorem drainOne_free {drain : Bool} {s : State} {c : Ctx} (k : Ctx) (hfree : s.ctx[c].st = .free) :
    (s.drainOne drain k).ctx[c] = s.ctx[c] := by
  unfold State.drainOne
  extract_lets f
  split
  · rfl
  · rename_i hnot
    have hne : k ≠ c := fun e => hnot (.inl (by rw [← hfree, ← e]))
    split
    · rfl
    · split
      · rfl
      · exact closeFlow_free_other hne hfree

theorem drain_free {s : State} {c : Ctx} (hfree : s.ctx[c].st = .free) : s.drain.ctx[c] = s.ctx[c] := by
  have hall (drain : Bool) (l : List Ctx) {t : State} (ht : t.ctx[c] = s.ctx[c]) :
      (forEach l (State.drainOne drain) t).ctx[c] = s.ctx[c] :=
    forEach_keeps (fun t : State => t.ctx[c] = s.ctx[c]) (State.drainOne drain)
      (fun t k hk => (drainOne_free k (by rwa [hk])).trans hk) l ht
  unfold State.drain
  split
  · split
    · exact hall _ _ (hall _ _ rfl)
    · rfl
  · rfl

/-! ### The end of opening and of closing (R196, R205) -/

/-- An Opening flow is Live at the end of its opening, or Suspended with its causes. -/
theorem flowOpeningDone_judges {s : State} {c : Ctx} (hst : s.ctx[c].st = .opening) :
    ∃ t, exec (.flowOpeningDone c) s = .next t ∧ t.ctx[c].Judged := by
  refine ⟨_, if_pos hst, settle_ctx_judged ?_⟩
  rw [setCtx_get]
  split
  · exact .inl ⟨rfl, rfl⟩
  · exact .inr ⟨rfl, by assumption⟩

/-- A freed context is Free in its next generation (R189). -/
theorem freeCtx_get (s : State) (c : Ctx) : (s.freeCtx c).ctx[c] = s.ctx[c].release := by
  have h : (s.freeCtx c).but [.xslots] = (s.setCtx c s.ctx[c].release).but [.xslots] := saveGen_but _ _ (by decide)
  rw [but_ctx h (by decide)]
  exact setCtx_get ..

/-- A Closing flow whose current has fallen below 0.5 A leaves its context Free. -/
theorem flowClosingDone_frees {s : State} {c : Ctx} {cur : Int} (hst : s.ctx[c].st = .closing) (hcur : cur.natAbs < 50) :
    ∃ t, exec (.flowClosingDone c cur) s = .next t ∧ t.ctx[c] = s.ctx[c].release := by
  have hget := freeCtx_get s c
  have hfree : (s.freeCtx c).ctx[c].st = .free := by rw [hget]; rfl
  have hset : (s.freeCtx c).settle.ctx[c] = (s.freeCtx c).ctx[c] := settle_ctx_idle (.inl hfree)
  refine ⟨_, if_pos ⟨hst, hcur⟩, ?_⟩
  rw [drain_free (by rwa [hset]), hset, hget]

/-- The fence of a flow makes its context Fenced without current, with the record of the fence; one that is Closing leaves (R206). -/
theorem fenceFlow_get {s : State} {c : Ctx} (b : Blk) (src : Src) (hst : s.ctx[c].st ≠ .free) :
    (s.fenceFlow c b src).ctx[c] = { s.ctx[c] with
      st := .fenced, cur := 0, cmd := 0, fblk := b.val, fsrc := src.val, leaving := s.ctx[c].st == .closing, evAt := some s.now,
      liveUs := s.ctx[c].liveTime s.now, suspUs := s.ctx[c].suspTime s.now, since := s.now } := by
  have hstop (t : State) (g : Group) : (t.stopGroup g).ctx = t.ctx := but_ctx (fs := [.fab, .groups, .cells]) (by simp) (by decide)
  unfold State.fenceFlow
  extract_lets f u others
  rw [if_neg hst]
  refine (congrArg (·[c]) (?_ : _ = u.ctx)).trans (setCtx_get s c _)
  split
  · split
    · split
      · rfl
      · exact hstop ..
    · rfl
  · rfl

/-- A Closing flow that has not ended within its time is Fenced, and FLOW source 0 occurs. -/
theorem flowClosingTimeout_fences {s : State} {c : Ctx} {cur : Int} (hst : s.ctx[c].st = .closing) (hcur : 50 ≤ cur.natAbs)
    (htime : s.ctx[c].since + s.closingBound c < s.now) :
    ∃ u : State, exec (.flowClosingTimeout c cur) s = .next (u.occur bFLOW 0 c.val) ∧ u.ctx[c].st = .fenced ∧ u.ctx[c].cur = 0 ∧
      u.ctx[c].leaving = true ∧ u.ctx[c].fblk = 0x0E ∧ u.ctx[c].fsrc = 0 := by
  have hget := fenceFlow_get bFLOW 0 (s := s) (c := c) (by rw [hst]; decide)
  refine ⟨_, if_pos ⟨hst, hcur, htime⟩, ?_⟩
  rw [settle_ctx_idle (.inr (by rw [hget])), hget, hst]
  exact ⟨rfl, rfl, rfl, rfl, rfl⟩

/-! ### MODIFY: what the hardware events see of a flow (R201, R204) -/

/-- Two flows that the hardware events do not tell apart. -/
structure FlowCtx.Alike (f g : FlowCtx) : Prop where
  st : g.st = f.st
  scause : g.scause = f.scause
  paired : g.paired = f.paired
  kind : g.d.kind = f.d.kind
  port : g.d.port = f.d.port

/-- Two states in which the hardware events have the same causes, and whose flows they do not tell apart. -/
structure State.Alike (s t : State) : Prop where
  now : t.now = s.now
  src : t.src = s.src
  bat : t.bat = s.bat
  fdr : t.fdr = s.fdr
  groups : t.groups = s.groups
  cells : t.cells = s.cells
  dom : t.dom = s.dom
  safeLine : t.safeLine = s.safeLine
  bms : t.bms = s.bms
  wc : ∀ p : BPort, t.chg[p].wc = s.chg[p].wc
  ctx : ∀ c : Ctx, s.ctx[c].Alike t.ctx[c]

section
variable {s t : State} {f g : FlowCtx} (hs : s.Alike t) (hf : f.Alike g)
include hs

theorem State.Alike.bmsMissing (p : BPort) : t.bmsMissing p = s.bmsMissing p := by
  simp only [State.bmsMissing, State.lithium, State.bmsLive, hs.wc p, hs.bms, hs.now]

theorem State.Alike.grouped : s.grouped.Alike t.grouped := by
  have hstep {s t : State} (g : Group) (hs : s.Alike t) : (s.settleGroup g).Alike (t.settleGroup g) :=
    { hs with groups := by simp only [State.settleGroup, setGroup_groups, hs.groups, hs.cells] }
  have hall (l : List Group) : ∀ {s t : State}, s.Alike t → (forEach l State.settleGroup s).Alike (forEach l State.settleGroup t) := by
    induction l with
    | nil => exact id
    | cons g l ih => exact fun hs => ih (hstep g hs)
  exact hall allGroups hs

include hf

theorem State.Alike.endpointReady : t.endpointReady g.d = s.endpointReady f.d := by
  have hst (c : Ctx) := (hs.ctx c).st
  have hkind (c : Ctx) := (hs.ctx c).kind
  have hport (c : Ctx) := (hs.ctx c).port
  simp only [State.endpointReady, hf.kind, hf.port, hs.src, hs.bat, hs.fdr, hst, hkind, hport]

theorem State.Alike.staysLive : t.staysLive g = s.staysLive f := by
  simp only [State.staysLive, hf.st, hf.kind, hf.port, hs.fdr]

theorem State.Alike.flowStarved : t.flowStarved g.d = s.flowStarved f.d := by
  simp only [State.flowStarved, hf.port, hs.groups]

theorem State.Alike.moduleHolds : t.moduleHolds g = s.moduleHolds f := by
  simp only [State.moduleHolds, State.inRun, hf.st, hf.scause, hs.dom, hs.safeLine]

/-- The hardware causes of flows that are alike are the same in states that are alike. -/
theorem State.Alike.hwCauses : t.hwCauses g = s.hwCauses f := by
  unfold State.hwCauses
  rw [hs.endpointReady hf, hs.staysLive hf, hs.flowStarved hf, hs.moduleHolds hf, funext hs.bmsMissing, hf.kind, hf.port, hf.paired]

/-- The hardware events leave flows alike that were alike. -/
theorem State.Alike.settleFlow : (s.settleFlow f).Alike (t.settleFlow g) := by
  unfold State.settleFlow
  rw [hs.hwCauses hf, hf.st, hf.scause]
  extract_lets hw all all'
  cases f.st with
  | opening =>
    dsimp only
    split
    · exact ⟨rfl, rfl, hf.paired, hf.kind, hf.port⟩
    · exact hf
  | live =>
    dsimp only
    split
    · exact hf
    · exact ⟨rfl, rfl, hf.paired, hf.kind, hf.port⟩
  | suspended =>
    dsimp only
    split
    · exact ⟨rfl, rfl, hf.paired, hf.kind, hf.port⟩
    · exact ⟨rfl, rfl, hf.paired, hf.kind, hf.port⟩
  | closing =>
    dsimp only
    split
    · exact hf
    · exact ⟨rfl, rfl, hf.paired, hf.kind, hf.port⟩
  | free => exact hf
  | fenced => exact hf

end

theorem State.Alike.settleFlows {s t : State} (hs : s.Alike t) : s.settleFlows.Alike t.settleFlows :=
  have hctx (c : Ctx) : s.settleFlows.ctx[c].Alike t.settleFlows.ctx[c] := by
    simpa only [State.settleFlows, Fin.getElem_fin, Vector.getElem_map] using hs.settleFlow (hs.ctx c)
  { hs with ctx := hctx }

/-- In states that are alike a context settles in the same state. -/
theorem State.Alike.settle_st {s t : State} (hs : s.Alike t) (c : Ctx) : t.settle.ctx[c].st = s.settle.ctx[c].st := by
  rw [settle_ctx, settle_ctx]
  exact (hs.grouped.settleFlows.settleFlow (hs.grouped.settleFlow (hs.ctx c))).st

theorem State.Alike.flowResult {s t : State} (hs : s.Alike t) (idx : Nat) (h : BitVec 16) : s.Alike (t.flowResult 0 idx h) := { hs with }

theorem State.Alike.setChg {s t : State} (hs : s.Alike t) {p : BPort} {x : ChgRec} (hx : x.wc = t.chg[p].wc) : s.Alike (t.setChg p x) := by
  have hwc (q : BPort) : (t.setChg p x).chg[q].wc = t.chg[q].wc := by
    simp only [setChg_chg, Fin.getElem_fin, vset_get]
    split
    · rename_i e
      exact e ▸ hx
    · rfl
  exact { hs with wc := fun q => (hwc q).trans (hs.wc q) }

/-! ### MODIFY -/

/-- A definition that MODIFY accepts keeps the kind and the port of the flow (R201). -/
theorem kind_port_of_modify {old new : FlowDef} (h : badModify old new = false) : new.kind = old.kind ∧ new.port = old.port := by
  simp only [badModify, Bool.or_eq_false_iff, bne_eq_false_iff_eq] at h
  obtain ⟨⟨⟨⟨⟨⟨hkind, hfrom⟩, hdst⟩, hvia⟩, -⟩, -⟩, -⟩ := h
  exact ⟨hkind.symm, by rw [FlowDef.port, FlowDef.port, hkind, hfrom, hdst, hvia]⟩

/-- A flow with the definition that MODIFY gives it, on its own profile (R201, R212). -/
def FlowCtx.modified (f : FlowCtx) (d : FlowDef) : FlowCtx := { f with d := d, safe := false, newProf := f.newProf || f.d.prof != d.prof }

/-- An accepted MODIFY gives the flow its definition, and nothing that the hardware events see. -/
theorem modifyFlow_accepted {s : State} {h : BitVec 16} {c : Ctx} {d : FlowDef} (hn : s.named h = .inr c)
    (hbad : badModify s.ctx[c].d d = false) (hprof : s.badNewProf s.ctx[c].d d = false) (hlost : s.lost c = false)
    (hst : s.ctx[c].st = .opening ∨ s.ctx[c].st = .live ∨ s.ctx[c].st = .suspended) (hhalt : s.portHalted s.ctx[c].d = false)
    (himg : s.noChange = false) (hexp : s.host.exp = false) :
    ∃ t : State, s.modifyFlow h d = t.flowResult 0 c.val h ∧ t.ctx = vset s.ctx c (s.ctx[c].modified d) ∧ s.Alike t := by
  have hwrong : (s.ctx[c].st != .opening && s.ctx[c].st != .live && s.ctx[c].st != .suspended) = false := by
    rcases hst with hst | hst | hst <;> rw [hst] <;> rfl
  obtain ⟨hkind, hport⟩ := kind_port_of_modify hbad
  have hset : s.Alike (s.setCtx c (s.ctx[c].modified d)) :=
    ⟨rfl, rfl, rfl, rfl, rfl, rfl, rfl, rfl, rfl, fun _ => rfl, fun k => by
      by_cases hk : k = c
      · subst hk
        rw [setCtx_get]
        exact ⟨rfl, rfl, rfl, hkind, hport⟩
      · rw [setCtx_get_other s _ hk]
        exact ⟨rfl, rfl, rfl, rfl, rfl⟩⟩
  unfold State.modifyFlow
  simp only [hn, firstCode, hbad, hprof, hlost, hwrong, hhalt, himg, hexp, Bool.false_eq_true, if_false, if_true]
  refine ⟨_, rfl, ?_⟩
  split
  · split
    · exact ⟨rfl, hset.setChg rfl⟩
    · exact ⟨rfl, hset⟩
  · exact ⟨rfl, hset⟩

/-! ### The statement -/

section
variable {s : State} {h : BitVec 16} {c : Ctx} (r : Req) (hs : s.serves flowCmdAt) (hb : s.flow.busy = false) (hd : s.deferred = [])
  (hn : s.named h = .inr c) (hlost : s.lost c = false) (hhalt : s.portHalted s.ctx[c].d = false) (himg : s.noChange = false)
include hs hb hd hn hlost hhalt himg

/-- The effect of MODIFY: the definition stands whole, and the flow's state is what it is without it. -/
theorem flowModify_effect (hst : s.ctx[c].st = .opening ∨ s.ctx[c].st = .live ∨ s.ctx[c].st = .suspended)
    (hbad : badModify s.ctx[c].d s.staged = false) (hprof : s.badNewProf s.ctx[c].d s.staged = false) (hexp : s.host.exp = false) :
    ∃ t, exec (.flowModify r h) s = .next t ∧ t.iterate.ctx[c].d = s.staged ∧ t.iterate.ctx[c].gen = s.ctx[c].gen ∧
      (s.settle.ctx[c].st = s.ctx[c].st → t.iterate.ctx[c].st = s.ctx[c].st) ∧
      ∀ k, k ≠ c → t.iterate.ctx[k].d = s.ctx[k].d ∧ t.iterate.ctx[k].gen = s.ctx[k].gen := by
  obtain ⟨t, ht, hctx, halike⟩ := modifyFlow_accepted (s := s.executing) (d := s.staged) hn hbad hprof hlost hst hhalt himg hexp
  obtain ⟨u, hu, hiter⟩ := carryFlow_accepted r hs hb hd (by decide : 2 ≠ 0) ((writeFlowCmd_modify ..).trans ht)
  have hseen : s.Alike (t.flowResult 0 c.val h) := { halike.flowResult c.val h with }
  have hc : t.ctx[c] = s.ctx[c].modified s.staged := (congrArg (·[c]) hctx).trans (vset_same ..)
  refine ⟨u, hu, ?_⟩
  simp only [hiter, settle_ctx_d, settle_ctx_gen, flowResult_done_ctx]
  refine ⟨by rw [hc]; rfl, by rw [hc]; rfl, fun hkept => (hseen.settle_st c).trans hkept, fun k hk => ?_⟩
  have hother : t.ctx[k] = s.ctx[k] := (congrArg (·[k]) hctx).trans (vset_other _ _ _ _ hk.symm)
  rw [hother]
  exact ⟨rfl, rfl⟩

/-- The effect of SUSPEND. -/
theorem flowSuspend_effect (hst : s.ctx[c].st = .opening ∨ s.ctx[c].st = .live) :
    ∃ t, exec (.flowSuspend r h) s = .next t ∧ t.iterate.ctx[c].scause.getLsbD 0 = true ∧
      (s.ctx[c].st = .live → t.iterate.ctx[c].st = .suspended) := by
  obtain ⟨t, ht, hheld, hlive⟩ := suspendFlow_accepted (s := s.executing) hn hlost hhalt himg hst
  obtain ⟨u, hu, hkeeps⟩ := carryFlow_keeps r hs hb hd (by decide : 3 ≠ 0) ((writeFlowCmd_suspend ..).trans ht) c
  exact ⟨u, hu, (hkeeps _ settleFlow_bit0_set hheld).2, fun hl => (hkeeps _ settleFlow_bit0_suspended (hlive hl)).1⟩

/-- The effect of RESUME. -/
theorem flowResume_effect (hst : s.ctx[c].st = .suspended) (hbit : s.ctx[c].scause.getLsbD 0 = true) :
    ∃ t, exec (.flowResume r h) s = .next t ∧ t.iterate.ctx[c].scause.getLsbD 0 = false ∧
      (t.iterate.ctx[c].st = .live ↔ t.iterate.ctx[c].scause = 0) := by
  obtain ⟨t, ht, hclear, hjudged⟩ := resumeFlow_accepted (s := s.executing) hn hlost hhalt himg hst hbit
  obtain ⟨u, hu, hkeeps⟩ := carryFlow_keeps r hs hb hd (by decide : 4 ≠ 0) ((writeFlowCmd_resume ..).trans ht) c
  exact ⟨u, hu, hkeeps _ settleFlow_bit0_clear hclear, (hkeeps FlowCtx.Judged settleFlow_live hjudged).live_iff⟩

/-- The effect of DESTROY. -/
theorem flowDestroy_effect (hlend : s.lendsOn c = false) :
    ∃ t, exec (.flowDestroy r h) s = .next t ∧
      (s.ctx[c].st = .opening ∨ s.ctx[c].st = .live ∨ s.ctx[c].st = .suspended → t.iterate.ctx[c].st = .closing) ∧
      (s.ctx[c].st = .fenced → t.iterate.ctx[c].leaving = true) ∧
      (s.ctx[c].st = .closing → t.iterate.ctx[c].st = .closing ∧ t.iterate.ctx[c].closeI = s.ctx[c].closeI ∧
        t.iterate.ctx[c].since = s.ctx[c].since) := by
  obtain ⟨u, hu, hkeeps⟩ := carryFlow_keeps r hs hb hd (by decide : 5 ≠ 0)
    ((writeFlowCmd_destroy ..).trans (destroyFlow_accepted (s := s.executing) hn hlend hlost hhalt himg)) c
  refine ⟨u, hu, fun hst => ?_, fun hst => ?_, fun hst => ?_⟩
  · exact hkeeps _ settleFlow_closing (closeFlow_closes (s := s.executing) hst)
  · refine (hkeeps (fun f => f.st = .fenced ∧ f.leaving = true) (fun s f hf => by rwa [settleFlow_fenced s f hf.1]) ?_).2
    rw [closeFlow_of_fenced (s := s.executing) hst, setCtx_get]
    exact ⟨hst, rfl⟩
  · refine hkeeps _ settleFlow_closing_kept ?_
    rw [closeFlow_of_closing (s := s.executing) hst]
    exact ⟨hst, rfl, rfl⟩

end

/-- Settles O2: the effects of the four commands, and the three ends of opening and closing, each by its own lemma above. -/
theorem flowStates : Obligations.FlowStates :=
  ⟨fun _ r _ _ hs hb hd hn hlost hhalt himg =>
    ⟨flowModify_effect r hs hb hd hn hlost hhalt himg, flowSuspend_effect r hs hb hd hn hlost hhalt himg,
      flowResume_effect r hs hb hd hn hlost hhalt himg, flowDestroy_effect r hs hb hd hn hlost hhalt himg⟩,
    fun _ _ => flowOpeningDone_judges,
    fun _ _ _ hst hcur => by
      obtain ⟨t, ht, hget⟩ := flowClosingDone_frees hst hcur
      exact ⟨t, ht, by rw [hget]; exact ⟨rfl, rfl⟩⟩,
    fun _ _ _ => flowClosingTimeout_fences⟩

end Sys2Proof.Machine
end

section
/-!
PROOFS. The phases of a charge (spec/07_charge_profiles.md): what each event of R235 makes of a Live charge whose profile is valid and
unchanged. First, what an update of one engine leaves, and what a transition does to the engine of such a charge.
-/

namespace Sys2Proof.Machine

/-! ### One charge engine -/

theorem setChg_get (s : State) (p : BPort) (x : ChgRec) : (s.setChg p x).chg[p] = x := vset_same ..

theorem setEst_get (s : State) (p : BPort) (x : EstRec) : (s.setEst p x).est[p] = x := vset_same ..

/-- What holds of a port's engine holds in every state with the same engines. -/
theorem chg_of_eq {Q : ChgRec → Prop} {s t : State} {p : BPort} (e : t.chg = s.chg) (h : Q s.chg[p]) : Q t.chg[p] :=
  e ▸ h

theorem profile?_of_prof {s t : State} (ref : Nat) (h : t.prof = s.prof) : t.profile? ref = s.profile? ref := by
  unfold State.profile? State.profileCheck State.profileEntries State.entry
  rw [h]

theorem chgFlow_of_ctx {s t : State} (p : BPort) (h : t.ctx = s.ctx) : t.chgFlow p = s.chgFlow p := by
  simp only [State.chgFlow, h]

/-- A port with a Live Charge flow whose profile is valid and the same as the engine's working copy. -/
structure State.Charging (s : State) (p : BPort) (c : Ctx) (w : Profile) : Prop where
  flow : s.chgFlow p = some c
  live : s.ctx[c].st = .live
  valid : s.profile? s.ctx[c].d.prof = some w
  copy : s.chg[p].wc = some w

section
variable {s t : State} {p : BPort} {c : Ctx} {w : Profile}

theorem State.Charging.of_eq (h : s.Charging p c w) (hctx : t.ctx = s.ctx) (hprof : t.prof = s.prof)
    (hwc : t.chg[p].wc = s.chg[p].wc) : t.Charging p c w where
  flow := (chgFlow_of_ctx p hctx).trans h.flow
  live := hctx ▸ h.live
  valid := by rw [hctx, profile?_of_prof _ hprof, h.valid]
  copy := hwc.trans h.copy

/-- The estimator has no part in it. -/
theorem State.Charging.of_est (h : s.Charging p c w) (ht : ChangesOnly [.est] s t) : t.Charging p c w :=
  h.of_eq (but_ctx ht (by decide)) (but_prof ht (by decide)) (by rw [but_chg ht (by decide)])

/-- An update of the engine that keeps its working copy goes on with the same charge. -/
theorem State.Charging.setChg {x : ChgRec} (h : s.Charging p c w) (hx : x.wc = s.chg[p].wc) : (s.setChg p x).Charging p c w :=
  h.of_eq rfl rfl (by rw [setChg_get, hx])

theorem chgLive_of_flow (hflow : s.chgFlow p = some c) (hlive : s.ctx[c].st = .live) : s.chgLive p = true := by
  rw [State.chgLive, hflow, Option.any_some, beq_iff_eq]
  exact hlive

theorem State.Charging.chgLive (h : s.Charging p c w) : s.chgLive p = true := chgLive_of_flow h.flow h.live

/-! ### Transitions (R232, R235) -/

/-- A valid profile is copied afresh. -/
theorem recopy_valid (hflow : s.chgFlow p = some c) (hvalid : s.profile? s.ctx[c].d.prof = some w) :
    s.recopy p = (s.setCtx c { s.ctx[c] with newProf := false }, some w, (s.chg[p].wc.map (·.chem)) != some w.chem) := by
  unfold State.recopy
  rw [hflow]
  dsimp only
  rw [profile?_of_prof (s := s) _ rfl, hvalid]

/-- An unchanged profile changes no chemistry. -/
theorem State.Charging.recopy (h : s.Charging p c w) :
    s.recopy p = (s.setCtx c { s.ctx[c] with newProf := false }, some w, false) := by
  rw [recopy_valid h.flow h.valid, h.copy, Option.map_some, bne_self_eq_false]

/-- The estimator's part in a transition leaves the engines as they are. -/
theorem estTransit_chg (s : State) (p : BPort) (phase cause : Nat) : (s.estTransit p phase cause).chg = s.chg :=
  but_chg (fs := [.est]) (by simp) (by decide)

/-- A transition enters the phase that the profile gives. -/
theorem State.Charging.transit (h : s.Charging p c w) (f : Profile → Nat) (cause : Nat) (frest : Bool) :
    (s.transit p f cause frest).chg[p] = (s.chg[p].acct s.now).enter w s.now (f w) cause frest := by
  unfold State.transit
  rw [h.recopy]
  dsimp only
  rw [estTransit_chg, setChg_get]
  rfl

/-- A new cycle starts under the valid profile, changed or not. -/
theorem requalify_valid (hflow : s.chgFlow p = some c) (hvalid : s.profile? s.ctx[c].d.prof = some w) (cause : Nat) :
    (s.requalify p cause).chg[p] = { s.chg[p].newCycle s.now cause with wc := some w } := by
  unfold State.requalify
  rw [recopy_valid hflow hvalid]
  exact setChg_get ..

theorem transit_now (s : State) (p : BPort) (f : Profile → Nat) (cause : Nat) (frest : Bool) :
    (s.transit p f cause frest).now = s.now :=
  but_now (fs := [.deferred, .flt, .safeLine, .halt, .x3, .xing, .log, .ret, .dom, .img, .fab, .groups, .cells, .culm, .branches, .src,
    .ctx, .bat, .fdr, .chg, .est, .thr, .awn]) (by simp) (by decide)

/-- A command that comes to a transition of a charge leads to the phase that the profile gives, with its cause. -/
theorem State.Charging.leads {i : Instr} {f : Profile → Nat} {cause : Nat} {frest : Bool} (h : t.Charging p c w)
    (hexec : exec i s = .next (t.transit p f cause frest)) :
    ∃ u, exec i s = .next u ∧ u.chg[p].phase = f w ∧ u.chg[p].cause = cause := by
  refine ⟨_, hexec, ?_⟩
  rw [h.transit]
  exact ⟨rfl, rfl⟩

/-! ### Qualify (R236, R240) -/

theorem correctFirst_est (s : State) (p : BPort) (chem : Nat) (v : Int) : ChangesOnly [.est] s (s.correctFirst p chem v) := by
  simp [ChangesOnly]

/-- A Qualify that is passed leads to Precondition below its voltage, else to the phase that was left, or to Bulk. -/
theorem State.Charging.qualified (h : s.Charging p c w) (ocv : Int) : (s.qualified p w ocv).chg[p].phase =
    if (w.phase? 1).any (fun e => decide (10 * ocv < (w.ncell * e.vcell : Int))) then 1 else s.chg[p].left.getD 2 := by
  unfold State.qualified
  extract_lets low
  cases hlow : low with
  | true => rw [if_pos rfl, if_pos hlow, h.transit]; rfl
  | false =>
    rw [if_neg Bool.false_ne_true, if_neg (ne_true_of_eq_false hlow)]
    cases hleft : s.chg[p].left with
    | none => dsimp only; rw [h.transit]; rfl
    | some k =>
      rw [h.recopy]
      dsimp only
      rw [estTransit_chg, setChg_get]
      rfl

section
variable (h : s.Charging p c w) (hphase : s.chg[p].phase = 0) (htime : s.chg[p].since + 2000000 ≤ s.now) {ocv : Int}
include h hphase htime

/-- After 2 s the checks are made. -/
theorem chgQualifyCheck_due (ocv : Int) :
    exec (.chgQualifyCheck p ocv) s = .next (s.qualifyWith p w ocv) := by
  have hexec : exec (.chgQualifyCheck p ocv) s = execChgQualifyCheck p ocv s := rfl
  rw [hexec, execChgQualifyCheck]
  simp only [h.copy]
  exact if_pos ⟨h.chgLive, hphase, htime⟩

/-- An implausible voltage ends Qualify in the fault rest, CHG source 1. -/
theorem chgQualifyCheck_implausible (hp : s.plausible w ocv = false) :
    ∃ u : State, exec (.chgQualifyCheck p ocv) s = .next (u.occur bCHG 1 p.val) ∧
      u.chg[p].phase = 8 ∧ u.chg[p].frest = true ∧ u.chg[p].cause = 12 := by
  refine ⟨_, (chgQualifyCheck_due h hphase htime ocv).trans (congrArg Host.Outcome.next (if_pos hp)), ?_⟩
  rw [(h.of_est (correctFirst_est ..)).transit]
  exact ⟨rfl, rfl, rfl⟩

/-- What holds the flow in Qualify is noted. -/
theorem chgQualifyCheck_waits (hp : s.plausible w ocv = true) (hwait : s.qualifyWait p w ≠ 0) :
    ∃ t, exec (.chgQualifyCheck p ocv) s = .next t ∧ t.chg[p] = { s.chg[p] with wait := s.qualifyWait p w } :=
  ⟨_, (chgQualifyCheck_due h hphase htime ocv).trans
    (congrArg Host.Outcome.next ((if_neg (ne_false_of_eq_true hp)).trans (if_pos hwait))), setChg_get ..⟩

/-- With nothing against it Qualify is passed. -/
theorem chgQualifyCheck_passes (hp : s.plausible w ocv = true) (hwait : s.qualifyWait p w = 0) :
    ∃ t, exec (.chgQualifyCheck p ocv) s = .next t ∧ t.chg[p].phase =
      if (w.phase? 1).any (fun e => decide (10 * ocv < (w.ncell * e.vcell : Int))) then 1 else s.chg[p].left.getD 2 := by
  have hest := correctFirst_est s p w.chem (10 * ocv / max 1 w.ncell)
  refine ⟨_, (chgQualifyCheck_due h hphase htime ocv).trans
    (congrArg Host.Outcome.next ((if_neg (ne_false_of_eq_true hp)).trans (if_neg (not_not_intro hwait)))), ?_⟩
  rw [(h.of_est hest).qualified, but_chg hest (by decide)]

end

/-! ### The transitions that the state alone decides (R235, R242, R248) -/

/-- A lead or lithium Bulk ends at its target. -/
theorem chgPhaseTransition_ceiling (h : s.Charging p c w) (hsafe : s.leavesForSafe p = false) (hheld : s.chgHeld p = false)
    (hphase : s.chg[p].phase = 2) (hchem : isNickel w.chem = false) (htgt : 0 < s.chg[p].vtgt)
    (hv : (s.chg[p].vtgt : Int) ≤ s.bat[p].vterm) :
    ∃ t, exec (.chgPhaseTransition p) s = .next t ∧ t.chg[p].phase = w.next 2 ∧ t.chg[p].cause = 1 := by
  refine h.leads (f := (·.next 2)) (frest := false) ?_
  simp only [exec, execChgPhaseTransition, h.copy, h.chgLive, hsafe, hheld, hphase, Bool.true_eq_false, Bool.false_eq_true, if_false]
  exact if_pos ⟨hchem, htgt, hv⟩

/-- A battery that its live BMS calls full ends Absorb in Rest. -/
theorem chgPhaseTransition_full (h : s.Charging p c w) (hsafe : s.leavesForSafe p = false) (hheld : s.chgHeld p = false)
    {l : LithEntry} (hphase : s.chg[p].phase = 3) (hl : w.lith = some l) (hbms : s.bmsLive l = true)
    (hfull : s.bms[l.bms].act.full = true) :
    ∃ t, exec (.chgPhaseTransition p) s = .next t ∧ t.chg[p].phase = 8 ∧ t.chg[p].cause = 8 := by
  refine h.leads (f := fun _ => 8) (frest := false) ?_
  simp only [exec, execChgPhaseTransition, h.copy, h.chgLive, hsafe, hheld, hphase, hl, Bool.true_eq_false, Bool.false_eq_true, if_false]
  exact if_pos (Bool.and_eq_true_iff.mpr ⟨hbms, hfull⟩)

/-- A phase that the safe profile does not have is left for its Float or Rest. -/
theorem chgPhaseTransition_safe (h : s.Charging p c w) (hsafe : s.leavesForSafe p = true) :
    ∃ t, exec (.chgPhaseTransition p) s = .next t ∧ t.chg[p].phase = s.safeFloat p ∧ t.chg[p].cause = 13 := by
  refine h.leads (f := fun _ => s.safeFloat p) (frest := false) ?_
  simp only [exec, execChgPhaseTransition, h.copy, h.chgLive, hsafe, Bool.true_eq_false, if_true, if_false]

/-! ### The phase timer and the safety timer (R235, R247) -/

section
variable {e : PhaseEntry} (h : s.Charging p c w) (he : w.phase? s.chg[p].phase = some e) (hmax : s.phaseMax p ≠ 0)
  (hfloat : s.chg[p].phase ≠ 6) (hheld : s.chgHeld p = false) (htime : 60000000 * s.phaseMax p ≤ (s.chg[p].acct s.now).tphase)
include h he hmax hfloat hheld htime

/-- What the phase timer's end comes to. -/
theorem phaseTmax_due : exec (.phaseTmax p) s =
      if s.chg[p].phase = 7 then .next ((s.transit p (fun _ => 6) 2).setChg p { (s.transit p (fun _ => 6) 2).chg[p] with
        eqdue := false, eqAt := (s.transit p (fun _ => 6) 2).now })
      else if e.ontmax = 0 then .next (s.transit p (·.next s.chg[p].phase) 2)
      else .next ((s.transit p (fun _ => 8) 12 true).occur bCHG 1 p.val) := by
  have hexec : exec (.phaseTmax p) s = execPhaseTmax p s := rfl
  have hentry : (s.chg[p].acct s.now).wc.bind (·.phase? (s.chg[p].acct s.now).phase) = some e := by
    have hwc : (s.chg[p].acct s.now).wc = some w := h.copy
    rw [hwc, Option.bind_some]
    exact he
  rw [hexec, execPhaseTmax]
  simp only [hentry]
  exact if_pos ⟨h.chgLive, hmax, hfloat, hheld, htime⟩

/-- The end of Equalize by its time completes it, in Float. -/
theorem phaseTmax_equalized (heq : s.chg[p].phase = 7) : ∃ t, exec (.phaseTmax p) s = .next t ∧
    t.chg[p].phase = 6 ∧ t.chg[p].cause = 2 ∧ t.chg[p].eqdue = false ∧ t.chg[p].eqAt = s.now := by
  refine ⟨_, (phaseTmax_due h he hmax hfloat hheld htime).trans (if_pos heq), ?_⟩
  rw [setChg_get, h.transit, transit_now]
  exact ⟨rfl, rfl, rfl, rfl⟩

/-- Where the entry says so, tmax ends its phase as its normal exit does. -/
theorem phaseTmax_next (heq : s.chg[p].phase ≠ 7) (hon : e.ontmax = 0) : ∃ t, exec (.phaseTmax p) s = .next t ∧
    t.chg[p].phase = w.next s.chg[p].phase ∧ t.chg[p].cause = 2 :=
  h.leads (f := (·.next s.chg[p].phase)) (frest := false)
    ((phaseTmax_due h he hmax hfloat hheld htime).trans ((if_neg heq).trans (if_pos hon)))

/-- Else tmax ends the charge in the fault rest, CHG source 1. -/
theorem phaseTmax_faults (heq : s.chg[p].phase ≠ 7) (hon : e.ontmax ≠ 0) : ∃ u : State,
    exec (.phaseTmax p) s = .next (u.occur bCHG 1 p.val) ∧ u.chg[p].phase = 8 ∧ u.chg[p].frest = true ∧ u.chg[p].cause = 12 := by
  refine ⟨_, (phaseTmax_due h he hmax hfloat hheld htime).trans ((if_neg heq).trans (if_neg hon)), ?_⟩
  rw [h.transit]
  exact ⟨rfl, rfl, rfl⟩

end

/-- The safety timer ends the charge in Float or Rest, CHG source 0. -/
theorem safetyTimerExpiry_ends (h : s.Charging p c w) (hset : w.timer ≠ 0) (htimed : timed s.chg[p].phase = true)
    (htime : 7200000000 * w.timer ≤ (s.chg[p].acct s.now).tsafe) :
    ∃ u : State, exec (.safetyTimerExpiry p) s = .next (u.occur bCHG 0 p.val) ∧ u.chg[p].phase = w.floatOrRest ∧ u.chg[p].cause = 6 := by
  have hexec : exec (.safetyTimerExpiry p) s = execSafetyTimerExpiry p s := rfl
  have hwc : (s.chg[p].acct s.now).wc = some w := h.copy
  refine ⟨s.transit p Profile.floatOrRest 6, ?_, ?_⟩
  · rw [hexec, execSafetyTimerExpiry]
    simp only [hwc]
    exact if_pos ⟨h.chgLive, hset, htimed, htime⟩
  · rw [h.transit]
    exact ⟨rfl, rfl⟩

/-! ### The exits of the phases (R234, R235, R238) -/

/-- The exit of Precondition: its ceiling held for 10 s. -/
theorem preconditionCeilingHeld_ends (h : s.Charging p c w) {mv : Int} {sec : Nat} (hheld : s.chgHeld p = false)
    (hphase : s.chg[p].phase = 1) (hset : 0 < s.chg[p].vtgt) (hv : (s.chg[p].vtgt : Int) ≤ mv) (hsec : 10 ≤ sec) :
    ∃ t, exec (.preconditionCeilingHeld p mv sec) s = .next t ∧ t.chg[p].phase = w.next 1 ∧ t.chg[p].cause = 1 :=
  have hexec : exec (.preconditionCeilingHeld p mv sec) s = .next (s.transit p (·.next 1) 1) :=
    if_pos ⟨h.chgLive, hheld, hphase, hset, hv, hsec⟩
  h.leads hexec

/-- The exit of Finish: the voltage rises no more. -/
theorem finishExit_ends (h : s.Charging p c w) {rise min : Nat} (hheld : s.chgHeld p = false) (hphase : s.chg[p].phase = 4)
    (hrise : rise < 10) (hmin : 30 ≤ min) :
    ∃ t, exec (.finishExit p rise min) s = .next t ∧ t.chg[p].phase = w.next 4 ∧ t.chg[p].cause = 1 :=
  have hexec : exec (.finishExit p rise min) s = .next (s.transit p (·.next 4) 1) := if_pos ⟨h.chgLive, hheld, hphase, hrise, hmin⟩
  h.leads hexec

/-- The exit of Absorb: its exit current held in voltage regulation. -/
theorem absorbExit_ends (h : s.Charging p c w) {e : PhaseEntry} {cur sec : Nat} (hphase : s.chg[p].phase = 3) (he : w.phase? 3 = some e)
    (hset : e.iexit ≠ 0) (hcur : cur ≤ 25 * e.iexit) (hsec : 60 ≤ sec) (hreg : s.inReg p = true) (hheld : s.chgHeld p = false) :
    ∃ t, exec (.absorbExit p cur sec) s = .next t ∧ t.chg[p].phase = w.next 3 ∧ t.chg[p].cause = 1 := by
  have hexec : exec (.absorbExit p cur sec) s = execAbsorbExit p cur sec s := rfl
  have hentry : s.chg[p].wc.bind (·.phase? 3) = some e := by rw [h.copy, Option.bind_some, he]
  refine h.leads (f := (·.next 3)) (frest := false) ?_
  rw [hexec, execAbsorbExit]
  simp only [hentry]
  exact if_pos ⟨h.chgLive, hphase, hset, hcur, hsec, hreg, hheld⟩

/-- A fall below the target at full current leads from Float to Bulk, and the safety timer restarts. -/
theorem floatRebulk_returns (h : s.Charging p c w) {mv : Int} {cur sec : Nat} (hheld : s.chgHeld p = false) (hphase : s.chg[p].phase = 6)
    (hv : 100 * mv < (99 * s.chg[p].vtgt : Int)) (hset : 0 < s.chg[p].itgt) (hcur : s.chg[p].itgt ≤ cur) (hsec : 60 ≤ sec) :
    ∃ t, exec (.floatRebulk p mv cur sec) s = .next t ∧ t.chg[p].phase = 2 ∧ t.chg[p].cause = 9 ∧ t.chg[p].tsafe = 0 := by
  refine ⟨_, if_pos ⟨h.chgLive, hheld, hphase, hv, hset, hcur, hsec⟩, ?_⟩
  rw [setChg_get, h.transit]
  exact ⟨rfl, rfl, rfl⟩

/-- A voltage below the restart voltage starts a new cycle from Rest. -/
theorem restRestartVoltage_restarts (h : s.Charging p c w) {mv : Int} {sec : Nat} (hphase : s.chg[p].phase = 8)
    (hrest : s.chg[p].frest = false) (hv : mv < (w.ncell * w.vrest : Int)) (hsec : 60 ≤ sec) :
    ∃ t, exec (.restRestartVoltage p mv sec) s = .next t ∧ t.chg[p].phase = 0 ∧ t.chg[p].cause = 15 ∧ t.chg[p].ah = 0 := by
  have hexec : exec (.restRestartVoltage p mv sec) s = execRestRestartVoltage p mv sec s := rfl
  have hc : (s.setChg p { s.chg[p] with ah := 0 }).Charging p c w := h.setChg rfl
  refine ⟨(s.setChg p { s.chg[p] with ah := 0 }).requalify p 15, ?_, ?_⟩
  · rw [hexec, execRestRestartVoltage]
    simp only [h.copy]
    exact if_pos ⟨h.chgLive, hphase, hrest, hv, hsec⟩
  · rw [requalify_valid hc.flow hc.valid, setChg_get]
    exact ⟨rfl, rfl, rfl⟩

end

/-- Settles O36: each event of R235 on a Live charge under a valid and unchanged profile, by its own lemma above. -/
theorem chargePhases : Obligations.ChargePhases := fun _ _ _ _ hflow hlive hvalid hcopy =>
  have h : State.Charging _ _ _ _ := ⟨hflow, hlive, hvalid, hcopy⟩
  ⟨fun _ hphase htime => ⟨chgQualifyCheck_implausible h hphase htime, chgQualifyCheck_waits h hphase htime,
      chgQualifyCheck_passes h hphase htime⟩,
    fun hsafe hheld => ⟨chgPhaseTransition_ceiling h hsafe hheld, fun _ => chgPhaseTransition_full h hsafe hheld⟩,
    chgPhaseTransition_safe h,
    fun _ he hmax hfloat hheld htime => ⟨phaseTmax_equalized h he hmax hfloat hheld htime,
      phaseTmax_next h he hmax hfloat hheld htime, phaseTmax_faults h he hmax hfloat hheld htime⟩,
    safetyTimerExpiry_ends h,
    fun _ _ => preconditionCeilingHeld_ends h,
    fun _ _ _ => absorbExit_ends h,
    fun _ _ => finishExit_ends h,
    fun _ _ _ => floatRebulk_returns h,
    fun _ _ => restRestartVoltage_restarts h⟩

end Sys2Proof.Machine
end

section
/-!
PROOFS. What holds a charge (spec/07_charge_profiles.md): the orders of CHG_PCTL, the temperature window, the over-voltage and the BMS.
First, what the hardware events of the moment, and with them a fault reaction, make of a charge engine.
-/

namespace Sys2Proof.Machine

/-! ### The hardware events on an engine (R203, R235, R240) -/

/-- What the hardware events of the moment can make of an engine, by whether the port has a Charge flow: it stands as it is, falls idle
without a flow, starts its first cycle, qualifies once more after its port had left Present, or waits for its flow. -/
inductive ChgRec.Settles (flow : Bool) (x : ChgRec) : ChgRec → Prop
  | stands : Settles flow x x
  | idle (h : flow = false) : Settles flow x x.idle
  | starts (now : Nat) (h : x.phase = 15) : Settles flow x { x.newCycle now 0 with ah := 0 }
  | qualifies (now : Nat) (l : Option Nat) (h : x.portLeft = true) : Settles flow x { x.acct now with
      phase := 0, since := now, portLeft := false, counts := false, rate := 0, wait := 0, left := l, itgt := 0 }
  | waits (now : Nat) (l : Bool) : Settles flow x { x.acct now with counts := false, rate := 0, itgt := 0, portLeft := l }

section
variable {flow : Bool} {x y : ChgRec}

/-- Whether an Equalize is due does not rest on the flow. -/
theorem ChgRec.Settles.eqdue (h : x.Settles flow y) : y.eqdue = x.eqdue := by cases h <;> rfl

/-- No hardware event admits an Equalize. -/
theorem ChgRec.Settles.eqOk (h : x.Settles flow y) (hx : x.eqOk = false) : y.eqOk = false := by
  cases h with
  | idle => rfl
  | stands => exact hx
  | starts => exact hx
  | qualifies => exact hx
  | waits => exact hx

/-- An engine that has begun, with a flow and a port that has not left Present, keeps its phase, with its cause, and its working copy. -/
theorem ChgRec.Settles.phase (h : x.Settles true y) (hphase : x.phase ≠ 15) (hleft : x.portLeft = false) :
    y.phase = x.phase ∧ y.cause = x.cause ∧ y.wc = x.wc := by
  cases h with
  | idle hf => exact absurd hf Bool.true_eq_false_eq_False
  | stands => exact ⟨rfl, rfl, rfl⟩
  | starts _ h => exact absurd h hphase
  | qualifies _ _ h => exact absurd h (ne_true_of_eq_false hleft)
  | waits => exact ⟨rfl, rfl, rfl⟩

end

section
variable {s : State} {p : BPort}

theorem settleChg_settles (s : State) (p : BPort) : s.chg[p].Settles (s.chgFlow p).isSome (s.settleChg p).chg[p] := by
  unfold State.settleChg
  extract_lets x
  cases hflow : s.chgFlow p with
  | none =>
    dsimp only
    split
    · exact .stands
    · rw [setChg_get]
      exact .idle rfl
  | some c =>
    dsimp only
    split
    · split
      case isTrue h =>
        rw [setChg_get]
        exact .starts s.now h
      case isFalse =>
        split
        case isTrue h =>
          rw [setChg_get]
          exact .qualifies s.now _ h
        case isFalse => exact .stands
    · rw [setChg_get]
      exact .waits s.now _

theorem settleChg_other {k : BPort} (h : k ≠ p) : (s.settleChg k).chg[p] = s.chg[p] := by
  have hset (x : ChgRec) : (s.setChg k x).chg[p] = s.chg[p] := vset_other _ _ _ _ h
  unfold State.settleChg
  extract_lets x
  repeat' split
  all_goals first | rfl | exact hset _

theorem settleChgs_other {l : List BPort} (h : p ∉ l) (s : State) : (forEach l State.settleChg s).chg[p] = s.chg[p] := by
  induction l generalizing s with
  | nil => rfl
  | cons k l ih =>
    rw [List.mem_cons, not_or] at h
    exact (ih h.2 _).trans (settleChg_other (Ne.symm h.1))

/-- The hardware events leave a flow Free that is, and no other. -/
theorem settleFlow_free_iff (s : State) (f : FlowCtx) : (s.settleFlow f).st = .free ↔ f.st = .free := by
  refine ⟨not_imp_not.mp fun hne => ?_, fun h => (congrArg FlowCtx.st (settleFlow_free s f h)).trans h⟩
  unfold State.settleFlow
  extract_lets hw all all'
  cases hst : f.st with
  | free => exact absurd hst hne
  | fenced => exact hne
  | closing =>
    dsimp only
    split
    · exact hne
    · nofun
  | opening =>
    dsimp only
    split
    · nofun
    · exact hne
  | live =>
    dsimp only
    split
    · exact hne
    · nofun
  | suspended =>
    dsimp only
    split <;> nofun

/-- A port keeps its Charge flow through the hardware events. -/
theorem settle_chgFlow (s : State) (p : BPort) : s.settle.chgFlow p = s.chgFlow p := by
  have hst (c : Ctx) : (s.settle.ctx[c].st != .free) = (s.ctx[c].st != .free) := by
    rw [Bool.eq_iff_iff, bne_iff_ne, bne_iff_ne, settle_ctx, Ne, Ne, settleFlow_free_iff, settleFlow_free_iff]
  simp only [State.chgFlow, settle_ctx_d, hst]

/-- The hardware events meet each engine once, as it was before them. -/
theorem settle_settles (s : State) (p : BPort) : s.chg[p].Settles (s.chgFlow p).isSome s.settle.chg[p] := by
  obtain ⟨l, m, he⟩ := List.append_of_mem (List.mem_finRange p)
  have hn : (l ++ p :: m).Nodup := he ▸ List.nodup_finRange 3
  obtain ⟨-, hm, hlm⟩ := List.nodup_append.mp hn
  obtain ⟨u, hu⟩ : ∃ u, u = s.grouped.settleFlows.settleFlows := ⟨_, rfl⟩
  have hsettle : s.settle = forEach m State.settleChg ((forEach l State.settleChg u).settleChg p) := by
    show forEach allBat State.settleChg s.grouped.settleFlows.settleFlows = _
    rw [← hu]
    unfold forEach allBat
    rw [he, List.foldl_append, List.foldl_cons]
  have hctx : (forEach l State.settleChg u).ctx = s.settle.ctx := by
    rw [hsettle]
    exact (but_ctx (fs := [.chg]) (by simp) (by decide)).symm
  have hchg : (forEach l State.settleChg u).chg[p] = s.chg[p] := by
    rw [settleChgs_other (fun h => hlm p h p List.mem_cons_self rfl), hu]
    exact congrArg (·[p]) (but_chg (fs := [.groups, .ctx]) (by simp [State.grouped]) (by decide))
  have h := settleChg_settles (forEach l State.settleChg u) p
  rwa [hchg, chgFlow_of_ctx p hctx, settle_chgFlow, ← settleChgs_other (List.nodup_cons.mp hm).1 (State.settleChg _ p), ← hsettle] at h

end

/-! ### The flow of a charge (R195) -/

/-- A context whose state and definition are kept leaves a port its Charge flow. -/
theorem chgFlow_setCtx {s : State} {p : BPort} {c : Ctx} {x : FlowCtx} (hst : x.st = s.ctx[c].st) (hd : x.d = s.ctx[c].d) :
    (s.setCtx c x).chgFlow p = s.chgFlow p := by
  have hkept (k : Ctx) : (s.setCtx c x).ctx[k].st = s.ctx[k].st ∧ (s.setCtx c x).ctx[k].d = s.ctx[k].d := by
    by_cases hk : k = c
    · rw [hk, setCtx_get]
      exact ⟨hst, hd⟩
    · rw [setCtx_get_other s x hk]
      exact ⟨rfl, rfl⟩
  simp only [State.chgFlow, hkept]

/-- A flow whose profile is copied stays the port's. -/
theorem chgFlow_copied {s t : State} {p : BPort} {c : Ctx} (h : s.chgFlow p = some c)
    (ht : t.ctx = (s.setCtx c { s.ctx[c] with newProf := false }).ctx) : t.chgFlow p = some c := by
  rw [chgFlow_of_ctx p ht, chgFlow_setCtx (x := { s.ctx[c] with newProf := false }) rfl rfl, h]

/-- A transition of a charge leaves the port its flow. -/
theorem State.Charging.transit_flow {s : State} {p : BPort} {c : Ctx} {w : Profile} (h : s.Charging p c w) (f : Profile → Nat) (cause : Nat)
    (frest : Bool) : (s.transit p f cause frest).chgFlow p = some c := by
  refine chgFlow_copied h.flow ?_
  unfold State.transit
  rw [h.recopy]
  dsimp only
  rw [but_ctx (fs := [.est]) (estTransit_but _ _ _ _ (by decide)) (by decide), setChg_ctx]

/-- A new cycle leaves the port its flow. -/
theorem requalify_flow {s : State} {p : BPort} {c : Ctx} {w : Profile} (hflow : s.chgFlow p = some c)
    (hvalid : s.profile? s.ctx[c].d.prof = some w) (cause : Nat) : (s.requalify p cause).chgFlow p = some c := by
  refine chgFlow_copied hflow ?_
  unfold State.requalify
  rw [recopy_valid hflow hvalid]
  exact setChg_ctx ..

/-! ### A reaction of the charge engine's block (R253) -/

/-- The Degrade action of a CHG source fences the Charge flow of its port, where there is one. -/
theorem degrade_chg (s : State) (src : Src) (obj : Nat) :
    s.degrade bCHG src obj = s ∨ ∃ c, s.degrade bCHG src obj = (s.fenceFlow c bCHG src).settle := by
  have hdeg : s.degrade bCHG src obj = if h : obj < 3 then
      match s.chgFlow ⟨obj, h⟩ with
      | some c => (s.fenceFlow c bCHG src).settle
      | none => s
    else s := rfl
  rw [hdeg]
  split
  case isTrue hobj =>
    cases s.chgFlow ⟨obj, hobj⟩ with
    | some c => exact .inr ⟨c, rfl⟩
    | none => exact .inl rfl
  case isFalse => exact .inl rfl

/-- A property of an engine that the hardware events of the moment keep. -/
def ChgRec.SettleSteady (Q : ChgRec → Prop) : Prop := ∀ (flow : Bool) (x y : ChgRec), x.Settles flow y → Q x → Q y

section
variable {Q : ChgRec → Prop} (hQ : ChgRec.SettleSteady Q) {s : State} {p : BPort} (h : Q s.chg[p])
include hQ h

theorem settle_chg_keeps {t : State} (ht : t.chg = s.chg) : Q t.settle.chg[p] :=
  hQ _ _ _ (settle_settles t p) (chg_of_eq ht h)

theorem assertHalt_chg_keeps (q : Port) (d : Driver) : Q (s.assertHalt q d).chg[p] := by
  have hfs {t : State} (ht : ChangesOnly [.halt, .fab, .groups, .cells, .branches, .src, .bat, .fdr] s t) : t.chg = s.chg :=
    but_chg ht (by decide)
  unfold State.assertHalt
  extract_lets t
  split
  · exact settle_chg_keeps hQ h (hfs (by simp [ChangesOnly, t]))
  · exact settle_chg_keeps hQ h (hfs (by simp [ChangesOnly, t]))

theorem assertSafe_chg_keeps (d : Driver) : Q (s.assertSafe d).chg[p] := by
  unfold State.assertSafe
  extract_lets first t
  split
  · exact settle_chg_keeps hQ h (but_chg (fs := [.deferred, .safeLine, .dom, .img, .fab, .groups, .cells, .culm, .branches, .src, .ctx, .bat,
      .fdr, .thr, .awn]) (by simp [t]) (by decide))
  · exact h

/-- Source reactions of CHG: a warning, a grace time, the flow fenced, a halted port, or the Safe line. -/
theorem react_chg_keeps (src : Src) (obj : Nat) : Q (s.react bCHG src obj).chg[p] := by
  unfold State.react
  split
  · exact h
  · split
    · exact h
    · extract_lets x
      split
      · rcases degrade_chg s src obj with he | ⟨c, he⟩
        · exact he.symm ▸ h
        · exact he ▸ settle_chg_keeps hQ h (but_chg (fs := [.fab, .groups, .cells, .ctx]) (by simp) (by decide))
      · exact h
    · unfold State.reactLines
      split
      · exact foldl_keeps (fun t : State => Q t.chg[p]) _ (fun _ q ht => assertHalt_chg_keeps hQ ht q _) _ h
      · exact assertSafe_chg_keeps hQ h _
      · exact h

theorem occur_chg_keeps (src : Src) (obj : Nat) (stays : Bool) : Q (s.occur bCHG src obj stays).chg[p] := by
  obtain ⟨u, hu, -, he | he⟩ := occur_reports s bCHG src obj stays
  · exact he ▸ chg_of_eq (but_chg hu (by decide)) h
  · exact he ▸ react_chg_keeps hQ (chg_of_eq (but_chg hu (by decide)) h) src obj

theorem retryOutcome_chg_keeps (src : Src) (obj : Nat) (ok : Bool) : Q (s.retryOutcome bCHG src obj ok).chg[p] := by
  have hfs {t : State} (ht : ChangesOnly [.deferred, .flt, .x3, .xing, .log, .ret] s t) : t.chg = s.chg := but_chg ht (by decide)
  unfold State.retryOutcome
  split
  · extract_lets t
    split
    · exact chg_of_eq (hfs (by simp [ChangesOnly, t])) h
    · exact react_chg_keeps hQ (chg_of_eq (hfs (by simp [ChangesOnly, t])) h) src obj
  · exact h

/-- A copy of the profile leaves the engine to the reaction to an invalid one. -/
theorem recopy_chg_keeps : Q (s.recopy p).1.chg[p] := by
  unfold State.recopy
  split
  · exact h
  · extract_lets f t
    have ht : Q t.chg[p] := h
    split
    · exact ht
    · exact retryOutcome_chg_keeps hQ (occur_chg_keeps hQ ht 4 p.val false) 4 p.val false

end

/-! ### An Equalize that is not to be (R235, R238) -/

/-- An engine without an Equalize due or admitted. -/
def ChgRec.NoEqualize (x : ChgRec) : Prop := x.eqdue = false ∧ x.eqOk = false

theorem noEqualize_settleSteady : ChgRec.SettleSteady ChgRec.NoEqualize := fun _ _ _ hs h => ⟨hs.eqdue.trans h.1, hs.eqOk h.2⟩

section
variable {s : State} {p : BPort}

/-- A transition other than into Equalize makes none due. -/
theorem transit_noEqualize (h : s.chg[p].NoEqualize) (cause : Nat) : (s.transit p (fun _ => 6) cause).chg[p].NoEqualize := by
  have hr := recopy_chg_keeps noEqualize_settleSteady h
  unfold State.transit
  split <;> rename_i heq <;> rw [heq] at hr
  · rw [estTransit_chg, setChg_get]
    exact ⟨hr.1, rfl⟩
  · rw [estTransit_chg, setChg_get]
    exact hr
  · exact hr

theorem cancelEq_noEqualize (s : State) (p : BPort) : (s.cancelEq p).chg[p].NoEqualize := by
  unfold State.cancelEq
  extract_lets x t
  have ht : t.chg[p].NoEqualize := by
    unfold t
    rw [setChg_get]
    exact ⟨rfl, rfl⟩
  split
  · exact transit_noEqualize ht 1
  · exact ht

/-! ### CHG_PCTL (R235, R251) -/

@[simp] theorem iterationEnds_chg (s : State) : s.iterationEnds.chg = s.chg := rfl

/-- A carried write of CHG_PCTL acts on the port. -/
theorem writeCarried_chgPctl (s : State) (p : BPort) (v : Word) : s.writeCarried (chgPctlAt p) v = s.writeChgPctl p v := by
  have hblk : chgPctlAt p / 0x10000 = 0x0A := by unfold chgPctlAt; omega
  have hoff : chgPctlAt p % 0x10000 = 0x100 + 0x40 * p.val + 0x24 := by unfold chgPctlAt; omega
  have hslot : slot? 0x100 0x40 3 (0x100 + 0x40 * p.val + 0x24) = some (p, 0x24) := slot?_at p (by decide)
  unfold State.writeCarried
  rw [dif_neg (by rw [hoff]; omega), hblk, hoff]
  unfold State.writeEndpoint State.writePort
  simp only [hslot]

theorem writeChgPctl_eq (hfree : s.portFree p.port = true) : s.writeChgPctl p 1 = s.markEq p := by
  unfold State.writeChgPctl
  rw [if_pos hfree]
  rfl
theorem writeChgPctl_eqcancel (hfree : s.portFree p.port = true) : s.writeChgPctl p 2 = s.cancelEq p := by
  unfold State.writeChgPctl
  rw [if_pos hfree]
  rfl
theorem writeChgPctl_restart (hfree : s.portFree p.port = true) : s.writeChgPctl p 4 = s.restartChg p := by
  unfold State.writeChgPctl
  rw [if_pos hfree]
  rfl

section
variable (r : Req) (hs : s.serves (chgPctlAt p)) (hd : s.deferred = []) (hfree : s.portFree p.port = true)
include hs hd

/-- An order is carried, and where it acts on the port at the next iteration as `u` does, the hardware events of that moment follow. -/
theorem chgPctl_next {v : Word} {u : State} (hu : s.writeChgPctl p v = u) :
    ∃ t, s.viaService r (chgPctlAt p) (fun s => s.carry (chgPctlAt p) v) = t ∧
      u.chg[p].Settles (u.chgFlow p).isSome t.iterate.chg[p] := by
  refine ⟨s.carry (chgPctlAt p) v, viaService_serves s r _ _ hs, ?_⟩
  rw [carry_iterate s _ v hd, writeCarried_chgPctl, hu, iterationEnds_chg]
  exact settle_settles u p

include hfree

theorem chgEq_next : ∃ t, exec (.chgEq r p) s = .next t ∧
    (s.markEq p).chg[p].Settles ((s.markEq p).chgFlow p).isSome t.iterate.chg[p] :=
  have ⟨t, ht, hi⟩ := chgPctl_next r hs hd (writeChgPctl_eq hfree)
  ⟨t, congrArg Host.Outcome.next ht, hi⟩

theorem chgEqcancel_next : ∃ t, exec (.chgEqcancel r p) s = .next t ∧
    (s.cancelEq p).chg[p].Settles ((s.cancelEq p).chgFlow p).isSome t.iterate.chg[p] :=
  have ⟨t, ht, hi⟩ := chgPctl_next r hs hd (writeChgPctl_eqcancel hfree)
  ⟨t, congrArg Host.Outcome.next ht, hi⟩

theorem chgRestart_next : ∃ t, exec (.chgRestart r p) s = .next t ∧
    (s.restartChg p).chg[p].Settles ((s.restartChg p).chgFlow p).isSome t.iterate.chg[p] :=
  have ⟨t, ht, hi⟩ := chgPctl_next r hs hd (writeChgPctl_restart hfree)
  ⟨t, congrArg Host.Outcome.next ht, hi⟩

/-- The eq order makes an Equalize due. -/
theorem chgEq_marks : ∃ t, exec (.chgEq r p) s = .next t ∧ t.iterate.chg[p].eqdue = true := by
  obtain ⟨t, ht, hi⟩ := chgEq_next r hs hd hfree
  refine ⟨t, ht, hi.eqdue.trans ?_⟩
  unfold State.markEq
  rw [setChg_get]

/-- The eqcancel order leaves no Equalize due or admitted. -/
theorem chgEqcancel_clears : ∃ t, exec (.chgEqcancel r p) s = .next t ∧ t.iterate.chg[p].eqdue = false ∧ t.iterate.chg[p].eqOk = false := by
  obtain ⟨t, ht, hi⟩ := chgEqcancel_next r hs hd hfree
  exact ⟨t, ht, noEqualize_settleSteady _ _ _ hi (cancelEq_noEqualize s p)⟩

/-- The eqcancel order leads from Equalize to Float. -/
theorem chgEqcancel_floats {c : Ctx} {w : Profile} (h : s.Charging p c w) (hphase : s.chg[p].phase = 7) (hleft : s.chg[p].portLeft = false) :
    ∃ t, exec (.chgEqcancel r p) s = .next t ∧ t.iterate.chg[p].phase = 6 := by
  obtain ⟨t, ht, hi⟩ := chgEqcancel_next r hs hd hfree
  obtain ⟨u, hu⟩ : ∃ u, u = s.setChg p { s.chg[p] with eqdue := false, eqOk := false } := ⟨_, rfl⟩
  have hget : u.chg[p] = { s.chg[p] with eqdue := false, eqOk := false } := by rw [hu, setChg_get]
  have hc : u.Charging p c w := by
    rw [hu]
    exact h.setChg rfl
  have hcancel : s.cancelEq p = u.transit p (fun _ => 6) 1 := by
    unfold State.cancelEq
    rw [← hu]
    exact if_pos ⟨by rw [hget]; exact hphase, hc.chgLive⟩
  rw [hcancel, hc.transit_flow, hc.transit, hget, Option.isSome_some] at hi
  have h6 : (6 : Nat) ≠ 15 := by decide
  exact ⟨t, ht, (hi.phase h6 hleft).1⟩

/-- The restart order does not lead out of a normal Rest. -/
theorem chgRestart_rests {c : Ctx} (hphase : s.chg[p].phase = 8) (hrest : s.chg[p].frest = false) (hleft : s.chg[p].portLeft = false)
    (hflow : s.chgFlow p = some c) : ∃ t, exec (.chgRestart r p) s = .next t ∧ t.iterate.chg[p].phase = 8 := by
  obtain ⟨t, ht, hi⟩ := chgRestart_next r hs hd hfree
  have hstays : s.restartChg p = s := if_neg fun ⟨_, hf, _⟩ => ne_true_of_eq_false hrest hf
  rw [hstays, hflow, Option.isSome_some] at hi
  exact ⟨t, ht, (hi.phase (by rw [hphase]; decide) hleft).1.trans hphase⟩

/-- The restart order starts a new cycle from the fault rest, under the profile as it stands. -/
theorem chgRestart_requalifies {c : Ctx} {w : Profile} (hphase : s.chg[p].phase = 8) (hrest : s.chg[p].frest = true)
    (hflow : s.chgFlow p = some c) (hlive : s.ctx[c].st = .live) (hvalid : s.profile? s.ctx[c].d.prof = some w) :
    ∃ t, exec (.chgRestart r p) s = .next t ∧ t.iterate.chg[p].phase = 0 ∧ t.iterate.chg[p].cause = 14 ∧ t.iterate.chg[p].wc = some w := by
  obtain ⟨t, ht, hi⟩ := chgRestart_next r hs hd hfree
  have hrestarts : s.restartChg p = s.requalify p 14 := if_pos ⟨hphase, hrest, chgLive_of_flow hflow hlive⟩
  rw [hrestarts, requalify_flow hflow hvalid, requalify_valid hflow hvalid, Option.isSome_some] at hi
  have h0 : (0 : Nat) ≠ 15 := by decide
  obtain ⟨hp, hcause, hwc⟩ := hi.phase h0 rfl
  exact ⟨t, ht, hp, hcause, hwc⟩

end

/-- An Equalize is due at its interval after the last one. -/
theorem equalizeDue_marks {w : Profile} (hcopy : s.chg[p].wc = some w) (hauto : (s.reg (chgPcfgAt p)).bit 1 = true) (hset : w.eqdays ≠ 0)
    (htime : s.chg[p].eqAt + 86400000000 * w.eqdays ≤ s.now) : ∃ t, exec (.equalizeDue p) s = .next t ∧ t.chg[p].eqdue = true := by
  have hexec : exec (.equalizeDue p) s = execEqualizeDue p s := rfl
  refine ⟨s.setChg p { s.chg[p] with eqdue := true }, ?_, by rw [setChg_get]⟩
  rw [hexec, execEqualizeDue]
  simp only [hcopy]
  exact if_pos ⟨hauto, hset, htime⟩

/-! ### The temperature window (R237) -/

section
variable {w : Profile} {lo hi : Int} (hcopy : s.chg[p].wc = some w) (h1 : 1 ≤ s.chg[p].phase) (h7 : s.chg[p].phase ≤ 7)
include hcopy h1 h7

/-- What a temperature reading comes to in a charging phase. -/
theorem thermalHold_charging : exec (.thermalHold p lo hi) s =
    if s.chg[p].hold = false ∧ (lo < 16 * w.temp.tcmin ∨ 16 * w.temp.tcmax < hi) then
      .next ((s.setChg p { s.chg[p].acct s.now with hold := true, counts := false, rate := 0, itgt := 0, tbat := satInt 16 hi }).occur
        bCHG 2 p.val true)
    else if s.chg[p].hold = true ∧ 16 * (w.temp.tcmin + 3) ≤ lo ∧ hi ≤ 16 * (w.temp.tcmax - 3) then
      .next ((s.setChg p { s.chg[p].acct s.now with hold := false, tbat := satInt 16 hi }).endCause bCHG 2 p.val)
    else .next (s.setChg p { s.chg[p].acct s.now with tbat := satInt 16 hi }) := by
  have hexec : exec (.thermalHold p lo hi) s = execThermalHold p lo hi s := rfl
  have hwc : (s.chg[p].acct s.now).wc = some w := hcopy
  have hphase : ¬((s.chg[p].acct s.now).phase = 0 ∨ 8 ≤ (s.chg[p].acct s.now).phase) :=
    not_or.mpr ⟨Nat.one_le_iff_ne_zero.mp h1, Nat.not_le.mpr (Nat.lt_succ_of_le h7)⟩
  rw [hexec, execThermalHold]
  simp only [hwc]
  exact if_neg hphase

/-- A temperature outside the window holds the phase, CHG source 2. -/
theorem thermalHold_holds (hfree : s.chg[p].hold = false) (hout : lo < 16 * w.temp.tcmin ∨ 16 * w.temp.tcmax < hi) :
    ∃ u : State, exec (.thermalHold p lo hi) s = .next (u.occur bCHG 2 p.val true) ∧ u.chg[p].hold = true ∧ u.chg[p].itgt = 0 ∧
      u.chg[p].counts = false := by
  refine ⟨_, (thermalHold_charging hcopy h1 h7).trans (if_pos ⟨hfree, hout⟩), ?_⟩
  rw [setChg_get]
  exact ⟨rfl, rfl, rfl⟩

/-- Three degrees within the window the hold ends, and with it the cause of source 2. -/
theorem thermalHold_releases (hheld : s.chg[p].hold = true) (hlo : 16 * (w.temp.tcmin + 3) ≤ lo) (hhi : hi ≤ 16 * (w.temp.tcmax - 3)) :
    ∃ t, exec (.thermalHold p lo hi) s = .next t ∧ t.chg[p].hold = false ∧ (⟨2, p.val⟩ : Cause) ∉ t.flt[bCHG].live := by
  refine ⟨_, (thermalHold_charging hcopy h1 h7).trans ((if_neg fun h => ne_false_of_eq_true hheld h.1).trans (if_pos ⟨hheld, hlo, hhi⟩)), ?_, ?_⟩
  · unfold State.endCause
    rw [setFlt_chg, setChg_get]
  · unfold State.endCause
    rw [setFlt_get]
    simp

end

/-! ### Over-voltage and the BMS (R241, R242) -/

/-- An over-voltage raises CHG source 6, whether or not its retry halts the port. -/
theorem chgOverVoltage_raises {mv : Int} {ms : Nat} (hlive : s.chgLive p = true) (hset : 0 < s.chg[p].vtgt)
    (hv : (102 * s.chg[p].vtgt : Int) < 100 * mv) (hms : 10 ≤ ms) (hst : s.bat[p].st = .present) (hcan : s.canOccur bCHG 6 p.val) :
    ∃ t, exec (.chgOverVoltage p mv ms) s = .next t ∧ t.raised bCHG 6 = true := by
  obtain ⟨u, hu⟩ : ∃ u, u = s.setChg p { s.chg[p] with ovAt := some s.now } := ⟨_, rfl⟩
  have hc : u.canOccur bCHG 6 p.val := hu ▸ hcan
  have hraised : (u.occur bCHG 6 p.val).raised bCHG 6 = true := raised_own (occur_fst false bCHG hc)
  refine ⟨if (u.occur bCHG 6 p.val).retrying bCHG 6 p.val then
    (u.occur bCHG 6 p.val).assertHalt p.port { blk := bCHG, src := 6, obj := p.val, reaction := false } else u.occur bCHG 6 p.val, ?_, ?_⟩
  · rw [hu]
    exact if_pos ⟨hlive, hset, hv, hms, hst⟩
  · split
    · have hflt (q : Port) (d : Driver) : ((u.occur bCHG 6 p.val).assertHalt q d).flt = (u.occur bCHG 6 p.val).flt := flt_of_but (by simp)
      exact (raised_of_fst 6 (fst_of_flt bCHG (hflt _ _))).trans hraised
    · exact hraised

/-- Cause bit 3 of a Charge flow is the missing BMS of its port (R204, R242). -/
theorem hwCauses_bit3 {f : FlowCtx} (hkind : f.d.kind = 2) (hport : f.d.port = some p.port) :
    (s.hwCauses f).getLsbD 3 = s.bmsMissing p := by
  have hany : (f.d.port.bind Port.bat?).any s.bmsMissing = s.bmsMissing p := by rw [hport, Option.bind_some, batPort_bat, Option.any_some]
  unfold State.hwCauses
  rw [hany]
  simp only [BitVec.getLsbD_or, apply_ite (BitVec.getLsbD · 3), hkind]
  cases s.bmsMissing p <;> simp

/-- Without its BMS a Charge flow that is Live or Suspended is Suspended with cause bit 3. -/
theorem settleFlow_bmsMissing {f : FlowCtx} (hkind : f.d.kind = 2) (hport : f.d.port = some p.port) (hmiss : s.bmsMissing p = true)
    (hst : f.st = .live ∨ f.st = .suspended) : (s.settleFlow f).st = .suspended ∧ (s.settleFlow f).scause.getLsbD 3 = true := by
  have hbit : (s.hwCauses f).getLsbD 3 = true := (hwCauses_bit3 hkind hport).trans hmiss
  have hne {v : BitVec 6} (h : v.getLsbD 3 = true) : v ≠ 0 := fun e => absurd (e ▸ h) (by decide)
  rcases hst with hst | hst
  · unfold State.settleFlow
    simp only [hst]
    rw [if_neg (hne hbit)]
    exact ⟨rfl, hbit⟩
  · have hall : ((f.scause &&& 1) ||| s.hwCauses f).getLsbD 3 = true := by rw [BitVec.getLsbD_or, hbit, Bool.or_true]
    rw [settleFlow_of_suspended s hst, if_neg (hne hall)]
    exact ⟨hst, hall⟩

theorem bmsMissing_of_eq {t : State} (hchg : t.chg = s.chg) (hbms : t.bms = s.bms) (hnow : t.now = s.now) :
    t.bmsMissing p = s.bmsMissing p := by simp only [State.bmsMissing, State.lithium, State.bmsLive, hchg, hbms, hnow]

/-- A port's Charge flow is of its kind and on the port. -/
theorem chgFlow_def {c : Ctx} (h : s.chgFlow p = some c) : s.ctx[c].d.kind = 2 ∧ s.ctx[c].d.port = some p.port := by
  have hc := List.find?_some h
  simp only [Bool.and_eq_true, beq_iff_eq] at hc
  exact ⟨hc.1.2, hc.2⟩

/-- The hardware events suspend a Live Charge flow whose BMS is missing. -/
theorem settle_bmsMissing {c : Ctx} (hflow : s.chgFlow p = some c) (hmiss : s.bmsMissing p = true) (hlive : s.ctx[c].st = .live) :
    s.settle.ctx[c].st = .suspended ∧ s.settle.ctx[c].scause.getLsbD 3 = true := by
  have hkeeps {t : State} (ht : ChangesOnly [.groups, .ctx] s t) : t.bmsMissing p = true :=
    (bmsMissing_of_eq (but_chg ht (by decide)) (but_bms ht (by decide)) (but_now ht (by decide))).trans hmiss
  obtain ⟨hkind, hport⟩ := chgFlow_def hflow
  obtain ⟨hst, -⟩ := settleFlow_bmsMissing hkind hport (hkeeps (t := s.grouped) (by simp [ChangesOnly, State.grouped])) (.inl hlive)
  rw [settle_ctx]
  exact settleFlow_bmsMissing (by rw [settleFlow_d]; exact hkind) (by rw [settleFlow_d]; exact hport)
    (hkeeps (by simp [ChangesOnly, State.grouped])) (.inr hst)

/-- A BMS that is silent suspends its Charge flow, CHG source 7. -/
theorem bmsLivenessTimeout_suspends {c : Ctx} (hflow : s.chgFlow p = some c) (hmiss : s.bmsMissing p = true) :
    ∃ u : State, exec (.bmsLivenessTimeout p) s = .next (u.occur bCHG 7 p.val true) ∧
      (s.ctx[c].st = .live → u.ctx[c].st = .suspended ∧ u.ctx[c].scause.getLsbD 3 = true) :=
  ⟨s.settle, if_pos ⟨by rw [hflow]; rfl, hmiss⟩, settle_bmsMissing hflow hmiss⟩

/-- A voltage above the limit of the BMS holds the current at zero, CHG source 7. -/
theorem bmsVoltageExceeded_holds {l : LithEntry} {mv : Int} {ms : Nat} (hl : s.lithium p = some l) (hlive : s.bmsLive l = true)
    (hv : (10 * s.bms[l.bms].act.cvl : Int) < mv) (hms : 100 ≤ ms) :
    ∃ u : State, exec (.bmsVoltageExceeded p mv ms) s = .next (u.occur bCHG 7 p.val) ∧ u.chg[p].bmsOver = true ∧ u.chg[p].itgt = 0 := by
  have hexec : exec (.bmsVoltageExceeded p mv ms) s = execBmsVoltageExceeded p mv ms s := rfl
  refine ⟨s.setChg p { s.chg[p] with bmsOver := true, itgt := 0 }, ?_, ?_⟩
  · rw [hexec, execBmsVoltageExceeded]
    simp only [hl]
    exact if_pos ⟨hlive, hv, hms⟩
  · rw [setChg_get]
    exact ⟨rfl, rfl⟩

/-- The port's Discharge flow at zero current, where it has one. -/
def State.zeroDischarge (s : State) (p : BPort) : State :=
  match s.disFlow p with
  | some c => s.setCtx c { s.ctx[c] with cur := 0 }
  | none => s

theorem zeroDischarge_chg (s : State) (p : BPort) : (s.zeroDischarge p).chg = s.chg := by
  unfold State.zeroDischarge
  split <;> rfl

theorem zeroDischarge_cur {c : Ctx} (h : s.disFlow p = some c) : (s.zeroDischarge p).ctx[c].cur = 0 := by
  unfold State.zeroDischarge
  rw [h]
  dsimp only
  rw [setCtx_get]

/-- The discharge limit of a BMS lapses: the Discharge flow is held at zero current. -/
theorem bmsDischargeLimitExpiry_holds {l : LithEntry} (hl : s.lithium p = some l) (hlapsed : s.disLapsed l = true) :
    ∃ t, exec (.bmsDischargeLimitExpiry p) s = .next t ∧ t.chg[p].disHold = true ∧ t.disLimit p = some 0 ∧
      ∀ c, s.disFlow p = some c → t.ctx[c].cur = 0 := by
  have hexec : exec (.bmsDischargeLimitExpiry p) s = execBmsDischargeLimitExpiry p s := rfl
  obtain ⟨u, hu⟩ : ∃ u, u = s.setChg p { s.chg[p] with disHold := true } := ⟨_, rfl⟩
  have hchg : (u.zeroDischarge p).chg[p] = { s.chg[p] with disHold := true } := by rw [zeroDischarge_chg, hu, setChg_get]
  have hlith : (u.zeroDischarge p).lithium p = some l := by
    unfold State.lithium
    rw [hchg]
    exact hl
  refine ⟨u.zeroDischarge p, ?_, by rw [hchg], ?_, fun c hc => zeroDischarge_cur (hu ▸ hc)⟩
  · rw [hexec, execBmsDischargeLimitExpiry, hu]
    simp only [hl]
    exact if_pos hlapsed
  · unfold State.disLimit
    rw [hlith, hchg]
    rfl

end

/-- Settles O37: each order and each event by its own lemma above. -/
theorem chargeHolds : Obligations.ChargeHolds := fun _ _ =>
  ⟨fun r hs hfree hd => ⟨chgEq_marks r hs hd hfree, chgEqcancel_clears r hs hd hfree,
      fun _ _ hphase hleft hflow hlive hvalid hcopy => chgEqcancel_floats r hs hd hfree ⟨hflow, hlive, hvalid, hcopy⟩ hphase hleft,
      fun _ hphase hrest hleft hflow _ => chgRestart_rests r hs hd hfree hphase hrest hleft hflow,
      fun _ _ => chgRestart_requalifies r hs hd hfree⟩,
    fun _ => equalizeDue_marks,
    fun _ _ _ hcopy h1 h7 => ⟨thermalHold_holds hcopy h1 h7, thermalHold_releases hcopy h1 h7⟩,
    fun _ _ => chgOverVoltage_raises,
    fun _ => bmsLivenessTimeout_suspends,
    fun _ _ _ => bmsVoltageExceeded_holds,
    fun _ => bmsDischargeLimitExpiry_holds⟩

end Sys2Proof.Machine
end

section
/-!
PROOFS. The nickel terminations (spec/07_charge_profiles.md, R243-R246): −ΔV and dT/dt in Bulk, their candidates, and the knee answer. First,
what the engine finds in a nickel Bulk.
-/

namespace Sys2Proof.Machine

/-- A Live Charge flow in the Bulk of a nickel profile that is valid and unchanged. -/
structure State.NickelCharge (s : State) (p : BPort) (c : Ctx) (w : Profile) (k : NickelEntry) : Prop extends State.Charging s p c w where
  nickel : w.nickel = some k
  chem : isNickel w.chem = true
  phase : s.chg[p].phase = 2

section
variable {s : State} {p : BPort} {c : Ctx} {w : Profile} {k : NickelEntry}

theorem State.NickelCharge.bulk (h : s.NickelCharge p c w k) : s.nickelBulk p = true := by
  simp only [State.nickelBulk, h.chgLive, h.phase, h.copy, h.chem, Option.any_some, beq_self_eq_true, Bool.and_self]

theorem State.NickelCharge.entry (h : s.NickelCharge p c w k) : s.chg[p].wc.bind (·.nickel) = some k := by
  rw [h.copy, Option.bind_some, h.nickel]

/-- An update of the engine that keeps its phase and its working copy goes on with the same Bulk. -/
theorem State.NickelCharge.setChg {x : ChgRec} (h : s.NickelCharge p c w k) (hwc : x.wc = s.chg[p].wc) (hphase : x.phase = s.chg[p].phase) :
    (s.setChg p x).NickelCharge p c w k :=
  { h.toCharging.setChg hwc with nickel := h.nickel, chem := h.chem, phase := by rw [setChg_get, hphase, h.phase] }

/-- What holds a charge are its engine's hold and working copy, beside the BMS. -/
theorem chgHeld_setChg {x : ChgRec} (hhold : x.hold = s.chg[p].hold) (hwc : x.wc = s.chg[p].wc) :
    (s.setChg p x).chgHeld p = s.chgHeld p := by
  unfold State.chgHeld State.lithium
  rw [setChg_get, hhold, hwc]
  rfl

theorem kneeReady_setChg {x : ChgRec} (hhold : x.hold = s.chg[p].hold) (hwc : x.wc = s.chg[p].wc) (hphase : x.phase = s.chg[p].phase) :
    (s.setChg p x).kneeReady p = s.kneeReady p := by
  unfold State.kneeReady State.mayPerturb State.allowsPerturb
  rw [chgHeld_setChg hhold hwc, setChg_get, hphase]
  rfl

/-- The end of a knee measurement leaves the engines as they are. -/
theorem endKnee_est (s : State) (p : BPort) : ChangesOnly [.est] s (s.endKnee p) := by simp [ChangesOnly]

theorem endKnee_chg (s : State) (p : BPort) : (s.endKnee p).chg = s.chg := but_chg (endKnee_est s p) (by decide)

/-! ### The hold-off (R245) -/

/-- The detections whose hold-off has ended are armed, and those that were stay so. -/
theorem nickelHoldoffEnd_arms (h : s.NickelCharge p c w k) : ∃ t, exec (.nickelHoldoffEnd p) s = .next t ∧
    (t.chg[p].dvArmed = true ↔ s.chg[p].dvArmed = true ∨ s.chg[p].dvFrom ≤ s.now) ∧
    (t.chg[p].dtArmed = true ↔ s.chg[p].dtArmed = true ∨ s.chg[p].dtFrom ≤ s.now) := by
  refine ⟨_, if_pos h.bulk, ?_⟩
  rw [setChg_get]
  simp only [Bool.or_eq_true, decide_eq_true_eq, and_self]

/-! ### The knee answer (R246) -/

/-- What an answer comes to in a Bulk that is not held, with the battery there. -/
theorem kneeAnswer_heard (h : s.NickelCharge p c w k) {cause at_ : Nat} (hcand : s.chg[p].cand = some (cause, at_))
    (htime : s.now ≤ at_ + 30000000) (hst : s.bat[p].st = .present) (hheld : s.chgHeld p = false) (a : Knee) :
    s.kneeAnswer p a =
      if a = .confirmed then (s.endKnee p).transit p (·.next 2) cause
      else if a = .notConfirmed ∧ s.chg[p].nrej < 3 then (s.endKnee p).setChg p { s.chg[p] with
        cand := none, nrej := s.chg[p].nrej + 1, vpk := s.chg[p].smp.1, ipk := s.chg[p].smp.2, dvobs := 0, block := 6, n := 0 }
      else ((s.endKnee p).transit p (·.next 2) 7).occur bCHG 5 p.val := by
  have hlate : decide (at_ + 30000000 < s.now) = false := decide_eq_false (Nat.not_lt.mpr htime)
  unfold State.kneeAnswer
  simp only [hcand, h.bulk, hst, hheld, hlate, Bool.true_eq_false, Bool.false_eq_true, ne_eq, not_true_eq_false, or_self, if_false, and_true,
    true_and]

section
variable (h : s.NickelCharge p c w k) {cause at_ : Nat} (hcand : s.chg[p].cand = some (cause, at_))
  (htime : s.now ≤ at_ + 30000000) (hst : s.bat[p].st = .present) (hheld : s.chgHeld p = false)
include h hcand htime hst hheld

/-- An answer that is Unavailable ends Bulk with cause 7, CHG source 5. -/
theorem kneeAnswer_unavailable : s.kneeAnswer p .unavailable = ((s.endKnee p).transit p (·.next 2) 7).occur bCHG 5 p.val := by
  rw [kneeAnswer_heard h hcand htime hst hheld, if_neg nofun, if_neg nofun]

/-- An answer that confirms the candidate ends Bulk with its cause. -/
theorem kneeAnswer_confirms : ∃ t, exec (.kneeAnswer p .confirmed) s = .next t ∧ t.chg[p].phase = w.next 2 ∧ t.chg[p].cause = cause := by
  have hexec : exec (.kneeAnswer p .confirmed) s = .next (s.kneeAnswer p .confirmed) := rfl
  exact (h.of_est (endKnee_est s p)).leads
    (hexec.trans (congrArg Host.Outcome.next ((kneeAnswer_heard h hcand htime hst hheld _).trans (if_pos rfl))))

/-- An answer that rejects the candidate goes on with Bulk, from a new peak. -/
theorem kneeAnswer_rejects (hrej : s.chg[p].nrej < 3) : ∃ t, exec (.kneeAnswer p .notConfirmed) s = .next t ∧ t.chg[p].phase = 2 ∧
    t.chg[p].cand = none ∧ t.chg[p].nrej = s.chg[p].nrej + 1 ∧ t.chg[p].vpk = s.chg[p].smp.1 ∧ t.chg[p].ipk = s.chg[p].smp.2 := by
  have hexec : exec (.kneeAnswer p .notConfirmed) s = .next (s.kneeAnswer p .notConfirmed) := rfl
  refine ⟨_, hexec, ?_⟩
  rw [kneeAnswer_heard h hcand htime hst hheld, if_neg nofun, if_pos ⟨rfl, hrej⟩, setChg_get]
  exact ⟨h.phase, rfl, rfl, rfl, rfl⟩

/-- Without an answer of the estimator Bulk ends with cause 7, CHG source 5 and EST source 3. -/
theorem kneeAnswer_fails : ∃ u : State, exec (.kneeAnswer p .unavailable) s = .next ((u.occur bCHG 5 p.val).occur bEST 3 p.val) ∧
    u.chg[p].phase = w.next 2 ∧ u.chg[p].cause = 7 := by
  have hexec : exec (.kneeAnswer p .unavailable) s = .next (s.kneeUnavailable p) := rfl
  refine ⟨(s.endKnee p).transit p (·.next 2) 7, ?_, ?_⟩
  · have hknee : s.kneeUnavailable p = (s.kneeAnswer p .unavailable).occur bEST 3 p.val := if_pos (by rw [hcand]; rfl)
    rw [hexec, hknee, kneeAnswer_unavailable h hcand htime hst hheld]
  · rw [(h.of_est (endKnee_est s p)).transit]
    exact ⟨rfl, rfl⟩

end

/-! ### Candidates (R246) -/

/-- A profile without a knee check takes a candidate at once. -/
theorem candidate_ends (h : s.NickelCharge p c w k) (hheld : s.chgHeld p = false) (hknee : k.knee = false) (cause : Nat) :
    s.candidate p cause = s.transit p (·.next 2) cause := by
  simp only [State.candidate, h.entry, hheld, hknee, Bool.false_eq_true, if_false]

section
variable (h : s.NickelCharge p c w k) (hheld : s.chgHeld p = false) (hknee : k.knee = true) (hcand : s.chg[p].cand = none) (cause : Nat)
include h hheld hknee hcand

/-- With a knee check a candidate is put to the estimator, or is Unavailable at once where that cannot make it. -/
theorem candidate_asks : s.candidate p cause =
    if s.kneeReady p = true then (s.setChg p { s.chg[p] with cand := some (cause, s.now) }).startKnee p s.now
    else ((s.setChg p { s.chg[p] with cand := some (cause, s.now) }).kneeAnswer p .unavailable).occur bEST 3 p.val := by
  unfold State.candidate
  rw [h.entry]
  dsimp only
  rw [if_neg (ne_true_of_eq_false hheld), if_pos hknee, hcand, if_neg (by decide)]

/-- A candidate that the estimator checks waits for its answer. -/
theorem candidate_waits (hready : s.kneeReady p = true) : (s.candidate p cause).chg[p].phase = 2 ∧
    (s.candidate p cause).chg[p].cand = some (cause, s.now) ∧ (s.candidate p cause).est[p].st = .knee := by
  rw [candidate_asks h hheld hknee hcand, if_pos hready, State.startKnee, setEst_chg, setChg_get, setEst_get]
  exact ⟨h.phase, rfl, rfl⟩

/-- A candidate that the estimator cannot check ends Bulk with cause 7, CHG source 5 and EST source 3. -/
theorem candidate_fails (hready : s.kneeReady p = false) (hst : s.bat[p].st = .present) : ∃ u : State,
    s.candidate p cause = (u.occur bCHG 5 p.val).occur bEST 3 p.val ∧ u.chg[p].phase = w.next 2 ∧ u.chg[p].cause = 7 := by
  obtain ⟨x, hx⟩ : ∃ x : ChgRec, x = { s.chg[p] with cand := some (cause, s.now) } := ⟨_, rfl⟩
  have hn : (s.setChg p x).NickelCharge p c w k := h.setChg (hx ▸ rfl) (hx ▸ rfl)
  have hc : (s.setChg p x).chg[p].cand = some (cause, s.now) := by rw [setChg_get, hx]
  have hh : (s.setChg p x).chgHeld p = false := (chgHeld_setChg (hx ▸ rfl) (hx ▸ rfl)).trans hheld
  refine ⟨((s.setChg p x).endKnee p).transit p (·.next 2) 7, ?_, ?_⟩
  · rw [candidate_asks h hheld hknee hcand, if_neg (ne_true_of_eq_false hready), ← hx,
      kneeAnswer_unavailable hn hc (Nat.le_add_right ..) hst hh]
  · rw [(hn.of_est (endKnee_est _ p)).transit]
    exact ⟨rfl, rfl⟩

end

/-! ### −ΔV (R243) -/

/-- The tracker after a window at the peak's current: a new peak, or the fall below the old one. -/
def ChgRec.tracked (x : ChgRec) (v : Int) : ChgRec :=
  if x.vpk < v then { x with smp := (v, x.ipk), vpk := v, n := 0, dvobs := 0 }
  else { x with smp := (v, x.ipk), dvobs := sat 255 (x.vpk - v).toNat }

/-- How many windows in a row then lie at dv below the peak. -/
def ChgRec.below (x : ChgRec) (dv : Nat) (v : Int) : Nat := if (dv : Int) ≤ x.vpk - v then x.n + 1 else 0

/-- What a window at the peak's current comes to in a nickel Bulk: the third in a row below the peak is a candidate. -/
theorem dvSample_bulk (h : s.NickelCharge p c w k) {y : ChgRec} {v : Int} (hy : y = s.chg[p].tracked v) :
    exec (.dvSample p v s.chg[p].ipk) s =
      if 0 < y.block then .next (s.setChg p { y with block := y.block - 1 })
      else .next (if 3 ≤ y.below k.dv v ∧ s.chg[p].dvArmed = true then (s.setChg p { y with n := y.below k.dv v }).candidate p 3
        else s.setChg p { y with n := y.below k.dv v }) := by
  have hexec : exec (.dvSample p v s.chg[p].ipk) s = execDvSample p v s.chg[p].ipk s := rfl
  rw [hexec, execDvSample, hy]
  extract_lets x y'
  have hentry : x.wc.bind (·.nickel) = some k := h.entry
  have hcur : ¬x.ipk < 10 * (max s.chg[p].ipk x.ipk - min s.chg[p].ipk x.ipk) := by
    have hx : x.ipk = s.chg[p].ipk := rfl
    rw [hx, max_self, min_self, Nat.sub_self]
    exact Nat.not_lt_zero _
  rw [hentry]
  dsimp only
  rw [if_neg (ne_false_of_eq_true h.bulk), if_neg hcur]
  rfl

/-- The third window in a row at dv below the peak ends Bulk, where its detection is armed. -/
theorem dvSample_third (h : s.NickelCharge p c w k) {v : Int} (hknee : k.knee = false) (hv : v ≤ s.chg[p].vpk)
    (hdv : (k.dv : Int) ≤ s.chg[p].vpk - v) (hblock : s.chg[p].block = 0) (hn : s.chg[p].n = 2) (harmed : s.chg[p].dvArmed = true)
    (hheld : s.chgHeld p = false) :
    ∃ t, exec (.dvSample p v s.chg[p].ipk) s = .next t ∧ t.chg[p].phase = w.next 2 ∧ t.chg[p].cause = 3 := by
  obtain ⟨y, hy⟩ : ∃ y : ChgRec, y = { s.chg[p] with smp := (v, s.chg[p].ipk), dvobs := sat 255 (s.chg[p].vpk - v).toNat } := ⟨_, rfl⟩
  have hexec := dvSample_bulk h (hy.trans (if_neg (Int.not_lt.mpr hv)).symm)
  have h3 : y.below k.dv v = 3 := hy ▸ (if_pos hdv).trans (congrArg (· + 1) hn)
  have hmeas : ¬0 < y.block := hy ▸ Nat.not_lt.mpr (Nat.le_of_eq hblock)
  have hc : (s.setChg p { y with n := 3 }).NickelCharge p c w k := h.setChg (hy ▸ rfl) (hy ▸ rfl)
  have hh : (s.setChg p { y with n := 3 }).chgHeld p = false := (chgHeld_setChg (hy ▸ rfl) (hy ▸ rfl)).trans hheld
  rw [if_neg hmeas, h3, if_pos ⟨Nat.le_refl 3, harmed⟩, candidate_ends hc hh hknee] at hexec
  exact hc.leads hexec

/-- A window above the peak is the new peak, from which the count starts again. -/
theorem dvSample_peak (h : s.NickelCharge p c w k) {v : Int} (hv : s.chg[p].vpk < v) :
    ∃ t, exec (.dvSample p v s.chg[p].ipk) s = .next t ∧ t.chg[p].vpk = v ∧
      t.chg[p].n = (if s.chg[p].block = 0 ∧ k.dv = 0 then 1 else 0) := by
  obtain ⟨y, hy⟩ : ∃ y : ChgRec, y = { s.chg[p] with smp := (v, s.chg[p].ipk), vpk := v, n := 0, dvobs := 0 } := ⟨_, rfl⟩
  have hexec := dvSample_bulk h (hy.trans (if_pos hv).symm)
  have hpeak : y.vpk = v := hy ▸ rfl
  have hblock : y.block = s.chg[p].block := hy ▸ rfl
  have hzero : y.n = 0 := hy ▸ rfl
  have hbelow : y.below k.dv v = if k.dv = 0 then 1 else 0 := by
    simp only [ChgRec.below, hpeak, hzero, Int.sub_self, Int.natCast_nonpos_iff, Nat.zero_add]
  have hfew : ¬(3 ≤ y.below k.dv v ∧ s.chg[p].dvArmed = true) := by
    rw [hbelow]
    split <;> exact fun h3 => absurd h3.1 (by decide)
  by_cases hb : s.chg[p].block = 0
  · rw [if_neg (by rw [hblock, hb]; exact Nat.lt_irrefl 0), if_neg hfew] at hexec
    refine ⟨_, hexec, ?_⟩
    rw [setChg_get]
    exact ⟨hpeak, by simp only [hbelow, hb, true_and]⟩
  · rw [if_pos (by rw [hblock]; exact Nat.pos_of_ne_zero hb)] at hexec
    refine ⟨_, hexec, ?_⟩
    rw [setChg_get, if_neg fun h0 => hb h0.1]
    exact ⟨hpeak, hzero⟩

/-! ### dT/dt (R244) -/

section
variable (h : s.NickelCharge p c w k) {temp slope : Int} {sec : Nat} {u : State}
  (hu : s.setChg p { s.chg[p] with tbat := satInt 16 temp, dtdt := satInt 16 slope } = u) (htemp : u.batTemp p ≠ none)
include h hu

/-- The reading goes on with the same Bulk, and changes nothing that a candidate rests on. -/
theorem dtdtSample_reads : u.NickelCharge p c w k ∧ u.chgHeld p = s.chgHeld p ∧ u.kneeReady p = s.kneeReady p ∧ u.now = s.now ∧
    u.bat = s.bat ∧ u.chg[p].cand = s.chg[p].cand ∧ u.chg[p].dtArmed = s.chg[p].dtArmed := by
  subst hu
  rw [setChg_get]
  exact ⟨h.setChg rfl rfl, chgHeld_setChg rfl rfl, kneeReady_setChg rfl rfl rfl, rfl, rfl, rfl, rfl⟩

include htemp

/-- What a valid temperature and its slope come to in a nickel Bulk. -/
theorem dtdtSample_bulk : exec (.dtdtSample p temp slope sec) s =
    if (16 * k.tabs : Int) ≤ temp then .next (u.transit p (fun _ => 8) 5)
    else if (k.dtdt : Int) ≤ slope ∧ 60 ≤ sec ∧ u.chg[p].dtArmed = true then .next (u.candidate p 4)
    else .next u := by
  have hexec : exec (.dtdtSample p temp slope sec) s = execDtdtSample p temp slope sec s := rfl
  rw [hexec, execDtdtSample, hu, h.entry]
  dsimp only
  rw [if_neg (ne_false_of_eq_true h.bulk), if_neg htemp]

/-- A battery at tabs ends the charge in Rest. -/
theorem dtdtSample_rests (hhot : (16 * k.tabs : Int) ≤ temp) :
    ∃ t, exec (.dtdtSample p temp slope sec) s = .next t ∧ t.chg[p].phase = 8 ∧ t.chg[p].cause = 5 :=
  (dtdtSample_reads h hu).1.leads ((dtdtSample_bulk h hu htemp).trans (if_pos hhot))

section
variable (hcool : temp < (16 * k.tabs : Int)) (hslope : (k.dtdt : Int) ≤ slope) (hsec : 60 ≤ sec) (harmed : s.chg[p].dtArmed = true)
  (hheld : s.chgHeld p = false)
include hcool hslope hsec harmed

/-- A slope at dtdt for 60 s is a candidate, where its detection is armed. -/
theorem dtdtSample_candidate : exec (.dtdtSample p temp slope sec) s = .next (u.candidate p 4) := by
  obtain ⟨-, -, -, -, -, -, hkept⟩ := dtdtSample_reads h hu
  exact (dtdtSample_bulk h hu htemp).trans ((if_neg (Int.not_le.mpr hcool)).trans (if_pos ⟨hslope, hsec, hkept.trans harmed⟩))

include hheld

/-- Without a knee check the slope ends Bulk. -/
theorem dtdtSample_ends (hknee : k.knee = false) :
    ∃ t, exec (.dtdtSample p temp slope sec) s = .next t ∧ t.chg[p].phase = w.next 2 ∧ t.chg[p].cause = 4 := by
  obtain ⟨hb, hkept, -⟩ := dtdtSample_reads h hu
  exact hb.leads ((dtdtSample_candidate h hu htemp hcool hslope hsec harmed).trans
    (congrArg Host.Outcome.next (candidate_ends hb (hkept.trans hheld) hknee 4)))

/-- With a knee check the slope waits for the estimator. -/
theorem dtdtSample_waits (hknee : k.knee = true) (hcand : s.chg[p].cand = none) (hready : s.kneeReady p = true) :
    ∃ t, exec (.dtdtSample p temp slope sec) s = .next t ∧ t.chg[p].phase = 2 ∧ t.chg[p].cand = some (4, s.now) ∧ t.est[p].st = .knee := by
  obtain ⟨hb, hkept, hk, hnow, -, hc, -⟩ := dtdtSample_reads h hu
  refine ⟨_, dtdtSample_candidate h hu htemp hcool hslope hsec harmed, ?_⟩
  rw [← hnow]
  exact candidate_waits hb (hkept.trans hheld) hknee (hc.trans hcand) 4 (hk.trans hready)

/-- With a knee check that the estimator cannot make the slope ends Bulk with cause 7, CHG source 5 and EST source 3. -/
theorem dtdtSample_fails (hknee : k.knee = true) (hcand : s.chg[p].cand = none) (hready : s.kneeReady p = false)
    (hst : s.bat[p].st = .present) : ∃ v : State, exec (.dtdtSample p temp slope sec) s =
      .next ((v.occur bCHG 5 p.val).occur bEST 3 p.val) ∧ v.chg[p].phase = w.next 2 ∧ v.chg[p].cause = 7 := by
  obtain ⟨hb, hkept, hk, -, hbat, hc, -⟩ := dtdtSample_reads h hu
  obtain ⟨v, hv, hend⟩ := candidate_fails hb (hkept.trans hheld) hknee (hc.trans hcand) 4 (hk.trans hready) (hbat ▸ hst)
  exact ⟨v, (dtdtSample_candidate h hu htemp hcool hslope hsec harmed).trans (congrArg Host.Outcome.next hv), hend⟩

end

end

end

/-- Settles O38: each sample and each answer in a nickel Bulk, by its own lemma above. -/
theorem nickelEnd : Obligations.NickelEnd := fun _ _ _ _ _ hflow hlive hvalid hcopy hnickel hchem hphase =>
  have h : State.NickelCharge _ _ _ _ _ := ⟨⟨hflow, hlive, hvalid, hcopy⟩, hnickel, hchem, hphase⟩
  ⟨nickelHoldoffEnd_arms h,
    fun _ => dvSample_third h,
    fun _ => dvSample_peak h,
    fun _ _ _ htemp => ⟨dtdtSample_rests h rfl htemp,
      fun hcool hslope hsec => dtdtSample_ends h rfl htemp hcool hslope hsec,
      fun hcool hslope hsec harmed hheld hknee hcand =>
        ⟨dtdtSample_waits h rfl htemp hcool hslope hsec harmed hheld hknee hcand,
          dtdtSample_fails h rfl htemp hcool hslope hsec harmed hheld hknee hcand⟩⟩,
    fun _ _ hcand htime hst hheld => ⟨kneeAnswer_confirms h hcand htime hst hheld, kneeAnswer_rejects h hcand htime hst hheld,
      kneeAnswer_fails h hcand htime hst hheld⟩⟩

end Sys2Proof.Machine
end

section
/-!
PROOFS. The estimator's sweeps (spec/08_battery_measurement.md, R261-R271): the start, the points and the end of a sweep. First, what an
update of one channel leaves.
-/

namespace Sys2Proof.Machine

/-! ### Channels and their points (R262, R263) -/

/-- Which points R263 allows rests on the flow, the port and the engine, not on the channel. -/
theorem pointsNow_of_but {s t : State} {fs : List Fld} (h : t.but fs = s.but fs) (hctx : Fld.ctx ∉ fs) (hbat : Fld.bat ∉ fs)
    (hchg : Fld.chg ∉ fs) (p : BPort) (l : List (Fin 15)) : t.pointsNow p l = s.pointsNow p l := by
  simp only [State.pointsNow, State.pointAllowed, State.inReg, State.nickelBulk, State.chgLive, State.chgFlow, but_ctx h hctx, but_bat h hbat,
    but_chg h hchg]

/-- A channel aimed at its next point stands at the first that is allowed now. -/
@[simp] theorem aimed_todo (s : State) (p : BPort) (x : EstRec) : (s.aimed p x).todo = s.pointsNow p x.todo := rfl

theorem pointBit_get (k : Fin 15) : (pointBit k).getLsbD k.val = true := by decide +revert

section
variable {s : State} {p : BPort} {k : Fin 15} {l : List (Fin 15)} {re im : Int} {pert peak culm : Nat}

theorem nextPoint_get (s : State) (p : BPort) : (s.nextPoint p).est[p] =
    s.aimed p { s.est[p] with todo := s.est[p].todo.tail, again := false, half := false } := setEst_get ..

/-- A point that is not valid is cleared, and the next one is aimed at. -/
theorem badPoint_discards (htodo : s.est[p].todo = k :: l) : (s.badPoint p k).est[p].todo = s.pointsNow p l ∧
    (s.badPoint p k).est[p].valid.getLsbD k.val = false ∧ (s.badPoint p k).est[p].pz = s.est[p].pz := by
  unfold State.badPoint
  rw [nextPoint_get, setEst_get, htodo]
  refine ⟨rfl, ?_, rfl⟩
  show (s.est[p].valid &&& ~~~pointBit k).getLsbD k.val = false
  rw [BitVec.getLsbD_and, BitVec.getLsbD_not, pointBit_get, Bool.not_true, Bool.and_false, Bool.and_false]

/-- A valid point is written, and the next one is aimed at. -/
theorem goodPoint_writes (htodo : s.est[p].todo = k :: l) : (s.goodPoint p k re im).est[p].todo = s.pointsNow p l ∧
    (s.goodPoint p k re im).est[p].valid.getLsbD k.val = true ∧ (s.goodPoint p k re im).est[p].pz[k] = (satInt 16 re, satInt 16 im) := by
  unfold State.goodPoint
  rw [nextPoint_get, setEst_get, htodo]
  refine ⟨rfl, ?_, vset_same ..⟩
  show (s.est[p].valid ||| pointBit k).getLsbD k.val = true
  rw [BitVec.getLsbD_or, pointBit_get, Bool.or_true]

theorem repeatPoint_get (s : State) (p : BPort) (again half : Bool) : (s.repeatPoint p again half).est[p] =
    { s.aimed p s.est[p] with todo := s.est[p].todo, again := again, half := half } := setEst_get ..

/-! ### The start of a sweep (R265, R266) -/

theorem startSweep_barred (hmay : s.mayPerturb p = false) : s.startSweep p = s := if_neg (ne_true_of_eq_false hmay)

theorem startSweep_due (hst : s.est[p].st = .waiting) (hmay : s.mayPerturb p = true) (hdue : s.sweepDue p = true) :
    (s.startSweep p).est[p] = s.aimed p { s.est[p] with
      st := .sweeping, todo := s.sweepPoints p, again := false, half := false, ordered := false, fresh := 0 } := by
  unfold State.startSweep
  simp only [hst, hmay, hdue, if_true]
  exact setEst_get ..

theorem startSweep_resumes (hst : s.est[p].st = .paused) (hmay : s.mayPerturb p = true) :
    (s.startSweep p).est[p] = s.aimed p { s.est[p] with st := .sweeping, again := false, half := false } := by
  unfold State.startSweep
  simp only [hst, hmay, if_true]
  exact setEst_get ..

/-- A due sweep starts on the allowed points, and a paused one resumes, where the channel may perturb. -/
theorem estSweepStart_starts (s : State) (p : BPort) : ∃ t, exec (.estSweepStart p) s = .next t ∧
    ((s.est[p].st = .waiting ∧ s.mayPerturb p = true ∧ s.sweepDue p = true →
      t.est[p].st = .sweeping ∧ t.est[p].todo = s.pointsNow p (s.sweepPoints p) ∧ t.est[p].fresh = 0) ∧
     (s.est[p].st = .paused ∧ s.mayPerturb p = true →
      t.est[p].st = .sweeping ∧ t.est[p].todo = s.pointsNow p s.est[p].todo ∧ t.est[p].fresh = s.est[p].fresh) ∧
     (s.mayPerturb p = false → t = s)) := by
  refine ⟨s.startSweep p, rfl, fun ⟨hst, hmay, hdue⟩ => ?_, fun ⟨hst, hmay⟩ => ?_, startSweep_barred⟩
  · rw [startSweep_due hst hmay hdue]
    exact ⟨rfl, rfl, rfl⟩
  · rw [startSweep_resumes hst hmay]
    exact ⟨rfl, rfl, rfl⟩

/-- A pause of 10 min begins the sweep again from its first point. -/
theorem estSweepPauseExpiry_restarts (hst : s.est[p].st = .paused) (htime : s.est[p].pausedAt + 600000000 ≤ s.now) :
    ∃ t, exec (.estSweepPauseExpiry p) s = .next t ∧ t.est[p].todo = s.sweepPoints p ∧ t.est[p].fresh = 0 ∧ t.est[p].valid = 0 := by
  refine ⟨_, if_pos ⟨hst, htime⟩, ?_⟩
  rw [setEst_get]
  exact ⟨rfl, rfl, rfl⟩

/-! ### The end of a point (R261-R263, R265) -/

/-- A sweep whose point in progress has lasted its time. -/
structure State.PointEnds (s : State) (p : BPort) (k : Fin 15) (l : List (Fin 15)) : Prop where
  st : s.est[p].st = .sweeping
  todo : s.est[p].todo = k :: l
  lasted : s.pointOver p k = true

/-- What the end of a point comes to: the ripple is judged first, then the current, then the response. -/
theorem estPointDone_judges (h : s.PointEnds p k l) : exec (.estPointDone p k re im pert peak culm) s =
    if 50 < culm then
      if s.est[p].half = false ∧ s.willRetry bEST 5 p.val = true then .next ((s.repeatPoint p s.est[p].again true).occur bEST 5 p.val)
      else .next ((s.badPoint p k).occur bEST 5 p.val)
    else if 2 * pert < s.estAmp p ∨ 3 * s.estAmp p < 2 * pert then
      if s.est[p].again = false ∧ s.willRetry bEST 0 p.val = true then .next ((s.repeatPoint p true s.est[p].half).occur bEST 0 p.val)
      else .next ((s.badPoint p k).occur bEST 0 p.val)
    else .next (if peak < 5 then ((s.retryOutcome bEST 0 p.val true).retryOutcome bEST 5 p.val true).badPoint p k
      else ((s.retryOutcome bEST 0 p.val true).retryOutcome bEST 5 p.val true).goodPoint p k re im) := by
  have hexec : exec (.estPointDone p k re im pert peak culm) s = execEstPointDone p k re im pert peak culm s := rfl
  have hjudged : ¬(k ≠ k ∨ s.pointOver p k = false) := not_or.mpr ⟨not_not.mpr rfl, ne_false_of_eq_true h.lasted⟩
  rw [hexec, execEstPointDone]
  simp only [h.st, h.todo]
  exact if_neg hjudged

section
variable (h : s.PointEnds p k l)
include h

/-- Too much ripple on the culm repeats the point at half amplitude, EST source 5. -/
theorem estPointDone_halves (hculm : 50 < culm) (hfirst : s.est[p].half = false) (hretry : s.willRetry bEST 5 p.val = true) :
    ∃ u : State, exec (.estPointDone p k re im pert peak culm) s = .next (u.occur bEST 5 p.val) ∧ u.est[p].half = true ∧
      u.est[p].todo = k :: l := by
  refine ⟨_, (estPointDone_judges h).trans ((if_pos hculm).trans (if_pos ⟨hfirst, hretry⟩)), ?_⟩
  rw [repeatPoint_get]
  exact ⟨rfl, h.todo⟩

/-- Too much ripple once more makes the point invalid. -/
theorem estPointDone_ripples (hculm : 50 < culm) (hlast : s.est[p].half = true ∨ s.willRetry bEST 5 p.val = false) :
    ∃ u : State, exec (.estPointDone p k re im pert peak culm) s = .next (u.occur bEST 5 p.val) ∧ u.est[p].todo = s.pointsNow p l ∧
      u.est[p].valid.getLsbD k.val = false := by
  have hno : ¬(s.est[p].half = false ∧ s.willRetry bEST 5 p.val = true) := fun ⟨hfirst, hretry⟩ =>
    hlast.elim (ne_true_of_eq_false hfirst) (ne_false_of_eq_true hretry)
  obtain ⟨htodo, hvalid, -⟩ := badPoint_discards h.todo
  exact ⟨_, (estPointDone_judges h).trans ((if_pos hculm).trans (if_neg hno)), htodo, hvalid⟩

/-- A current off its command repeats the point, EST source 0. -/
theorem estPointDone_repeats (hculm : culm ≤ 50) (hpert : 2 * pert < s.estAmp p ∨ 3 * s.estAmp p < 2 * pert)
    (hfirst : s.est[p].again = false) (hretry : s.willRetry bEST 0 p.val = true) :
    ∃ u : State, exec (.estPointDone p k re im pert peak culm) s = .next (u.occur bEST 0 p.val) ∧ u.est[p].again = true ∧
      u.est[p].todo = k :: l := by
  refine ⟨_, (estPointDone_judges h).trans ((if_neg (Nat.not_lt.mpr hculm)).trans ((if_pos hpert).trans (if_pos ⟨hfirst, hretry⟩))), ?_⟩
  rw [repeatPoint_get]
  exact ⟨rfl, h.todo⟩

/-- A current off its command once more makes the point invalid. -/
theorem estPointDone_strays (hculm : culm ≤ 50) (hpert : 2 * pert < s.estAmp p ∨ 3 * s.estAmp p < 2 * pert)
    (hlast : s.est[p].again = true ∨ s.willRetry bEST 0 p.val = false) :
    ∃ u : State, exec (.estPointDone p k re im pert peak culm) s = .next (u.occur bEST 0 p.val) ∧ u.est[p].todo = s.pointsNow p l ∧
      u.est[p].valid.getLsbD k.val = false := by
  have hno : ¬(s.est[p].again = false ∧ s.willRetry bEST 0 p.val = true) := fun ⟨hfirst, hretry⟩ =>
    hlast.elim (ne_true_of_eq_false hfirst) (ne_false_of_eq_true hretry)
  obtain ⟨htodo, hvalid, -⟩ := badPoint_discards h.todo
  exact ⟨_, (estPointDone_judges h).trans ((if_neg (Nat.not_lt.mpr hculm)).trans ((if_pos hpert).trans (if_neg hno))), htodo, hvalid⟩

/-- A measured point is written where the battery answered, and invalid where it did not. -/
theorem estPointDone_measures (hculm : culm ≤ 50) (hlo : s.estAmp p ≤ 2 * pert) (hhi : 2 * pert ≤ 3 * s.estAmp p) :
    ∃ t, exec (.estPointDone p k re im pert peak culm) s = .next t ∧ t.est[p].todo = s.pointsNow p l ∧
      (peak < 5 → t.est[p].valid.getLsbD k.val = false ∧ t.est[p].pz = s.est[p].pz) ∧
      (5 ≤ peak → t.est[p].valid.getLsbD k.val = true ∧ t.est[p].pz[k] = (satInt 16 re, satInt 16 im)) := by
  obtain ⟨u, hu⟩ : ∃ u, u = (s.retryOutcome bEST 0 p.val true).retryOutcome bEST 5 p.val true := ⟨_, rfl⟩
  have hbut : u.but [.deferred, .flt, .x3, .xing, .log, .ret] = s.but [.deferred, .flt, .x3, .xing, .log, .ret] := by
    simp [hu, retryOutcome_ok]
  have hest : u.est = s.est := but_est hbut (by decide)
  have htodo : u.est[p].todo = k :: l := hest ▸ h.todo
  have hnow : u.pointsNow p l = s.pointsNow p l := pointsNow_of_but hbut (by decide) (by decide) (by decide) p l
  have hpert : ¬(2 * pert < s.estAmp p ∨ 3 * s.estAmp p < 2 * pert) := not_or.mpr ⟨Nat.not_lt.mpr hlo, Nat.not_lt.mpr hhi⟩
  have hexec := (estPointDone_judges (re := re) (im := im) (peak := peak) h).trans ((if_neg (Nat.not_lt.mpr hculm)).trans (if_neg hpert))
  rw [← hu] at hexec
  rcases Nat.lt_or_ge peak 5 with hpeak | hpeak
  · obtain ⟨hnext, hvalid, hpz⟩ := badPoint_discards htodo
    rw [if_pos hpeak] at hexec
    exact ⟨_, hexec, hnext.trans hnow, fun _ => ⟨hvalid, hpz.trans (hest ▸ rfl)⟩, fun hge => absurd hpeak (Nat.not_lt.mpr hge)⟩
  · obtain ⟨hnext, hvalid, hpz⟩ := goodPoint_writes (re := re) (im := im) htodo
    rw [if_neg (Nat.not_lt.mpr hpeak)] at hexec
    exact ⟨_, hexec, hnext.trans hnow, fun hlt => absurd hlt (Nat.not_lt.mpr hpeak), fun _ => ⟨hvalid, hpz⟩⟩

end

/-! ### The end of a sweep (R267, R270, R271) -/

/-- How far the resistance at a point lies from the last one published. -/
def EstRec.gap (x : EstRec) (r : Nat) : Nat := max r x.rhf - min r x.rhf

/-- Whether a sweep that measures `r` jumps from a converged resistance, and whether it agrees with the sweep before it (R271). -/
def State.jumps (s : State) (p : BPort) (r : Nat) : Bool :=
  s.est[p].rconv && decide (30 * s.est[p].rhf < 100 * s.est[p].gap r) && sameTemp (s.batT p) s.est[p].lastT
def State.agrees (s : State) (p : BPort) (r : Nat) : Bool :=
  !s.est[p].rconv && s.est[p].last && decide (100 * s.est[p].gap r ≤ 3 * r) && sameTemp (s.batT p) s.est[p].lastT

section
variable (hst : s.est[p].st = .sweeping) (htodo : s.est[p].todo = [])
include hst htodo

/-- A sweep without a valid point among k = 0-3 publishes no rhf, EST source 1. -/
theorem estSweepDone_invalid (hbest : s.est[p].best = none) : ∃ u : State, exec (.estSweepDone p) s = .next (u.occur bEST 1 p.val) ∧
    u.est[p].st = .waiting ∧ u.est[p].rhf = s.est[p].rhf ∧ u.est[p].rpol = s.est[p].polar s.est[p].rhf := by
  have hexec : exec (.estSweepDone p) s = execEstSweepDone p s := rfl
  have hover : ¬(s.est[p].st ≠ .sweeping ∨ s.est[p].todo ≠ []) := not_or.mpr ⟨not_not.mpr hst, not_not.mpr htodo⟩
  rw [hexec, execEstSweepDone]
  extract_lets y t
  rw [if_neg hover, hbest]
  refine ⟨_, rfl, ?_⟩
  rw [setEst_get]
  exact ⟨rfl, rfl, rfl⟩

/-- A sweep with a valid point publishes rhf; it is source 2 where it jumps. -/
theorem estSweepDone_publishes (hbest : s.est[p].best = some k) {r : Nat} (hr : r = sat 65535 s.est[p].pz[k].1.toNat) : ∃ u : State,
    exec (.estSweepDone p) s = .next (if s.jumps p r = true then u.occur bEST 2 p.val else u) ∧ u.est[p].st = .waiting ∧
      u.est[p].sweptAt = some s.now ∧ u.est[p].rhf = r ∧
      u.est[p].rconv = ((s.est[p].rconv && !s.jumps p r) || s.agrees p r) := by
  have hexec : exec (.estSweepDone p) s = execEstSweepDone p s := rfl
  have hover : ¬(s.est[p].st ≠ .sweeping ∨ s.est[p].todo ≠ []) := not_or.mpr ⟨not_not.mpr hst, not_not.mpr htodo⟩
  subst hr
  rw [hexec, execEstSweepDone]
  extract_lets y t
  rw [if_neg hover, hbest]
  dsimp -zeta only
  extract_lets rhf gap jump conv takes u v
  have hv : v.est = u.est := by
    unfold v
    split <;> rfl
  refine ⟨v, rfl, ?_⟩
  rw [hv]
  unfold u
  rw [setEst_get]
  exact ⟨rfl, rfl, rfl, rfl⟩

/-- While rconv is not set, a sweep that agrees with the one before it sets rconv. -/
theorem estSweepDone_converges (hbest : s.est[p].best = some k) (hconv : s.est[p].rconv = false) :
    ∃ t, exec (.estSweepDone p) s = .next t ∧ t.est[p].st = .waiting ∧ t.est[p].sweptAt = some s.now ∧
      t.est[p].rhf = sat 65535 s.est[p].pz[k].1.toNat ∧
      (t.est[p].rconv = true ↔ s.est[p].last = true ∧ sameTemp (s.batT p) s.est[p].lastT = true ∧
        100 * (max t.est[p].rhf s.est[p].rhf - min t.est[p].rhf s.est[p].rhf) ≤ 3 * t.est[p].rhf) := by
  obtain ⟨u, hexec, hwait, hswept, hrhf, hrconv⟩ := estSweepDone_publishes hst htodo hbest rfl
  have hsmooth : s.jumps p (sat 65535 s.est[p].pz[k].1.toNat) = false := by
    rw [State.jumps, hconv, Bool.false_and, Bool.false_and]
  rw [hsmooth, if_neg Bool.false_ne_true] at hexec
  refine ⟨u, hexec, hwait, hswept, hrhf, ?_⟩
  rw [hrconv, hrhf, hconv, State.agrees, hconv, EstRec.gap]
  simp only [Bool.false_and, Bool.false_or, Bool.not_false, Bool.true_and, Bool.and_eq_true, decide_eq_true_eq, and_assoc]
  exact and_congr_right fun _ => and_comm

/-- A jump by more than 30 % clears rconv, EST source 2. -/
theorem estSweepDone_jumps (hbest : s.est[p].best = some k) (hconv : s.est[p].rconv = true)
    (htemp : sameTemp (s.batT p) s.est[p].lastT = true) {r : Nat} (hr : r = sat 65535 s.est[p].pz[k].1.toNat)
    (hgap : 30 * s.est[p].rhf < 100 * (max r s.est[p].rhf - min r s.est[p].rhf)) :
    ∃ u : State, exec (.estSweepDone p) s = .next (u.occur bEST 2 p.val) ∧ u.est[p].rconv = false ∧ u.est[p].rhf = r := by
  obtain ⟨u, hexec, -, -, hrhf, hrconv⟩ := estSweepDone_publishes hst htodo hbest hr
  have hjump : s.jumps p r = true := by
    rw [State.jumps, hconv, htemp, EstRec.gap, decide_eq_true hgap]
    rfl
  rw [if_pos hjump] at hexec
  refine ⟨u, hexec, ?_, hrhf⟩
  rw [hrconv, hjump, State.agrees, hconv]
  rfl

end

end

/-- Settles O39: the start, the end of a point, the end of a sweep and the pause, each by its own lemma above. -/
theorem sweeps : Obligations.Sweeps := fun s p =>
  ⟨estSweepStart_starts s p,
    fun _ _ _ _ _ _ _ hst htodo hover =>
      have h : s.PointEnds p _ _ := ⟨hst, htodo, hover⟩
      ⟨fun hculm => ⟨estPointDone_halves h hculm, estPointDone_ripples h hculm⟩,
        fun hculm hpert => ⟨estPointDone_repeats h hculm hpert, estPointDone_strays h hculm hpert⟩,
        estPointDone_measures h⟩,
    fun hst htodo => ⟨estSweepDone_invalid hst htodo,
      fun _ => estSweepDone_converges hst htodo,
      fun _ hbest hconv htemp => estSweepDone_jumps hst htodo hbest hconv htemp rfl⟩,
    estSweepPauseExpiry_restarts⟩

end Sys2Proof.Machine
end

section
/-!
PROOFS. The knee, the orders of EST_PCTL and the history (spec/08_battery_measurement.md, R265-R277): the baseline and the check, the orders
at the next iteration, the corrections of the state of charge, and the save.
-/

namespace Sys2Proof.Machine

section
variable {s : State} {p : BPort}

/-! ### The baseline (R268) -/

/-- The end of a knee measurement keeps what was measured. -/
theorem endKnee_measured (s : State) (p : BPort) : (s.endKnee p).est[p].dr = s.est[p].dr ∧ (s.endKnee p).est[p].base = s.est[p].base := by
  unfold State.endKnee
  split
  · rw [setEst_get]
    exact ⟨rfl, rfl⟩
  · exact ⟨rfl, rfl⟩

/-- A baseline measurement is the baseline where none of this Bulk is lower. -/
theorem kneeBaseline_lowers (z₁ z₂ : Int) (hbulk : s.nickelBulk p = true) (hmay : s.mayPerturb p = true) (hover : s.kneeOver p = true)
    (hcand : s.chg[p].cand = none) : ∃ t, exec (.kneeBaseline p z₁ z₂) s = .next t ∧ t.est[p].dr = z₁ - z₂ ∧
      t.est[p].base = (match s.est[p].base with
        | some (b, z) => if z₁ - z₂ < b then some (z₁ - z₂, z₂) else some (b, z)
        | none => some (z₁ - z₂, z₂)) := by
  refine ⟨_, if_pos ⟨hbulk, hmay, hover, hcand⟩, ?_⟩
  rw [(endKnee_measured _ p).1, (endKnee_measured _ p).2, setEst_get]
  refine ⟨rfl, ?_⟩
  cases s.est[p].base with
  | none => rfl
  | some q => simp only [decide_eq_true_eq]

/-! ### The knee check (R269) -/

/-- Without a baseline there is no answer. -/
theorem kneeResult_none (z₁ z₂ : Int) (hbase : s.est[p].base = none) : s.kneeResult p z₁ z₂ = (.unavailable, false) := by
  unfold State.kneeResult
  rw [hbase]

section
variable {z₁ z₂ b z : Int} (hbase : s.est[p].base = some (b, z))
include hbase

/-- The answer to a measurement against a baseline: whether ΔR has risen, and whether Re Z(100 Hz) has stayed in its band. -/
theorem kneeResult_some : s.kneeResult p z₁ z₂ =
    if b * (100 + (s.reg (estPkcfAt p)).bits 7 0 : Nat) ≤ 100 * (z₁ - z₂) then
      if 100 * (z₂ - z).natAbs ≤ (s.reg (estPkcfAt p)).bits 15 8 * z.natAbs then (.confirmed, false) else (.notConfirmed, true)
    else (.notConfirmed, false) := by
  unfold State.kneeResult
  rw [hbase]
  simp only [Bool.and_eq_true, decide_eq_true_eq, ite_and]
  split
  case isTrue hrisen => rw [decide_eq_true hrisen]
  case isFalse hlow => rw [decide_eq_false hlow]

end

/-- A check that cannot be answered is Unavailable, EST source 3. -/
theorem kneeCheck_unavailable (z₁ z₂ : Int) (hcand : s.chg[p].cand.isSome = true) (h : s.est[p].base = none ∨ s.mayPerturb p = false) :
    exec (.kneeCheck p z₁ z₂) s = .next ((s.kneeAnswer p .unavailable).occur bEST 3 p.val) := by
  have hexec : exec (.kneeCheck p z₁ z₂) s = execKneeCheck p z₁ z₂ s := rfl
  have hr : (s.kneeResult p z₁ z₂).1 = .unavailable ∨ s.mayPerturb p = false :=
    h.imp_left fun hbase => congrArg Prod.fst (kneeResult_none z₁ z₂ hbase)
  rw [hexec, execKneeCheck, if_neg (Option.isSome_iff_ne_none.mp hcand), if_pos hr, State.kneeUnavailable, if_pos hcand]

section
variable {z₁ z₂ b z : Int} (hcand : s.chg[p].cand.isSome = true) (hbase : s.est[p].base = some (b, z)) (hmay : s.mayPerturb p = true)
include hcand hbase hmay

/-- What a check comes to against a baseline, while the channel may perturb. -/
theorem kneeCheck_answers : exec (.kneeCheck p z₁ z₂) s =
    if s.kneeOver p = false then .next s
    else .next ((if (s.kneeResult p z₁ z₂).2 = true then
        (s.setEst p { s.est[p] with dr := z₁ - z₂, rconv := s.est[p].rconv && !(s.kneeResult p z₁ z₂).2 }).occur bEST 2 p.val
      else s.setEst p { s.est[p] with dr := z₁ - z₂, rconv := s.est[p].rconv && !(s.kneeResult p z₁ z₂).2 }).kneeAnswer p
        (s.kneeResult p z₁ z₂).1) := by
  have hexec : exec (.kneeCheck p z₁ z₂) s = execKneeCheck p z₁ z₂ s := rfl
  have hanswer : (s.kneeResult p z₁ z₂).1 ≠ .unavailable := by
    rw [kneeResult_some hbase]
    split
    · split <;> nofun
    · nofun
  rw [hexec, execKneeCheck, if_neg (Option.isSome_iff_ne_none.mp hcand)]
  exact if_neg (not_or.mpr ⟨hanswer, ne_false_of_eq_true hmay⟩)

theorem kneeCheck_waits (hover : s.kneeOver p = false) : exec (.kneeCheck p z₁ z₂) s = .next s :=
  (kneeCheck_answers hcand hbase hmay).trans (if_pos hover)

section
variable (hover : s.kneeOver p = true)
include hover

/-- An answer that raises no source keeps rconv. -/
theorem kneeCheck_steady {a : Knee} (hr : s.kneeResult p z₁ z₂ = (a, false)) :
    exec (.kneeCheck p z₁ z₂) s = .next ((s.setEst p { s.est[p] with dr := z₁ - z₂ }).kneeAnswer p a) := by
  rw [kneeCheck_answers hcand hbase hmay, if_neg (ne_false_of_eq_true hover), hr, if_neg Bool.false_ne_true, Bool.not_false, Bool.and_true]

/-- A ΔR that has not risen does not confirm the candidate. -/
theorem kneeCheck_low (hlow : 100 * (z₁ - z₂) < b * (100 + (s.reg (estPkcfAt p)).bits 7 0 : Nat)) :
    exec (.kneeCheck p z₁ z₂) s = .next ((s.setEst p { s.est[p] with dr := z₁ - z₂ }).kneeAnswer p .notConfirmed) :=
  kneeCheck_steady hcand hbase hmay hover ((kneeResult_some hbase).trans (if_neg (Int.not_le.mpr hlow)))

section
variable (hrisen : b * (100 + (s.reg (estPkcfAt p)).bits 7 0 : Nat) ≤ 100 * (z₁ - z₂))
include hrisen

/-- A rise within the band confirms the candidate. -/
theorem kneeCheck_confirms (hband : 100 * (z₂ - z).natAbs ≤ (s.reg (estPkcfAt p)).bits 15 8 * z.natAbs) :
    exec (.kneeCheck p z₁ z₂) s = .next ((s.setEst p { s.est[p] with dr := z₁ - z₂ }).kneeAnswer p .confirmed) :=
  kneeCheck_steady hcand hbase hmay hover ((kneeResult_some hbase).trans ((if_pos hrisen).trans (if_pos hband)))

/-- A rise outside the band does not, and clears rconv, EST source 2. -/
theorem kneeCheck_strays {u : State} (hu : u = s.setEst p { s.est[p] with dr := z₁ - z₂ })
    (hout : (s.reg (estPkcfAt p)).bits 15 8 * z.natAbs < 100 * (z₂ - z).natAbs) : exec (.kneeCheck p z₁ z₂) s =
      .next (((u.setEst p { u.est[p] with rconv := false }).occur bEST 2 p.val).kneeAnswer p .notConfirmed) := by
  have hr : s.kneeResult p z₁ z₂ = (.notConfirmed, true) :=
    (kneeResult_some hbase).trans ((if_pos hrisen).trans (if_neg (Nat.not_le.mpr hout)))
  have hset : u.setEst p { u.est[p] with rconv := false } = s.setEst p { s.est[p] with dr := z₁ - z₂, rconv := false } := by
    rw [hu, setEst_get]
    simp [State.setEst, vset]
  rw [kneeCheck_answers hcand hbase hmay, if_neg (ne_false_of_eq_true hover), hr, if_pos rfl, hset, Bool.not_true, Bool.and_false]

end

end

end

/-! ### EST_PCTL (R265, R276) -/

@[simp] theorem settle_est (s : State) : s.settle.est = s.est := but_est (fs := [.groups, .ctx, .chg]) (by simp) (by decide)
@[simp] theorem iterationEnds_est (s : State) : s.iterationEnds.est = s.est := rfl

/-- A carried write of EST_PCTL acts on the channel. -/
theorem writeCarried_estPctl (s : State) (p : BPort) (v : Word) : s.writeCarried (estPctlAt p) v = s.writeEstPctl p v := by
  have hblk : estPctlAt p / 0x10000 = 0x0B := by unfold estPctlAt; omega
  have hoff : estPctlAt p % 0x10000 = 0x100 + 0x40 * p.val + 0x10 := by unfold estPctlAt; omega
  have hslot : slot? 0x100 0x40 3 (0x100 + 0x40 * p.val + 0x10) = some (p, 0x10) := slot?_at p (by decide)
  unfold State.writeCarried
  rw [dif_neg (by rw [hoff]; omega), hblk, hoff]
  unfold State.writeEndpoint State.writePort
  simp only [hslot]

theorem writeEstPctl_sweep (s : State) (p : BPort) : s.writeEstPctl p 1 = s.orderSweep p := rfl
theorem writeEstPctl_abort (s : State) (p : BPort) : s.writeEstPctl p 2 = s.abortEst p := rfl
theorem writeEstPctl_newbat (s : State) (p : BPort) : s.writeEstPctl p 4 = s.newBattery p := rfl

/-- Whether a channel may perturb does not rest on what is ordered. -/
theorem mayPerturb_ordered (s : State) (p : BPort) (b : Bool) :
    (s.setEst p { s.est[p] with ordered := b }).mayPerturb p = s.mayPerturb p := by
  unfold State.mayPerturb State.allowsPerturb
  rw [setEst_get]
  rfl

/-- A sweep ordered where none runs is due. -/
theorem orderSweep_waiting (hst : s.est[p].st = .waiting) :
    s.orderSweep p = (s.setEst p { s.est[p] with ordered := true }).startSweep p := by
  unfold State.orderSweep
  rw [hst, if_neg (by simp)]

theorem orderSweep_waits (hst : s.est[p].st = .waiting) (hmay : s.mayPerturb p = false) :
    (s.orderSweep p).est[p] = { s.est[p] with ordered := true } := by
  rw [orderSweep_waiting hst, startSweep_barred ((mayPerturb_ordered ..).trans hmay), setEst_get]

theorem orderSweep_starts (hst : s.est[p].st = .waiting) (hmay : s.mayPerturb p = true) : (s.orderSweep p).est[p].st = .sweeping ∧
    (s.orderSweep p).est[p].todo = s.pointsNow p (s.sweepPoints p) := by
  obtain ⟨u, hu⟩ : ∃ u, u = s.setEst p { s.est[p] with ordered := true } := ⟨_, rfl⟩
  have hget : u.est[p] = { s.est[p] with ordered := true } := by rw [hu, setEst_get]
  have hwait : u.est[p].st = .waiting := by rw [hget, hst]
  have hcan : u.mayPerturb p = true := by rw [hu, mayPerturb_ordered, hmay]
  have hdue : u.sweepDue p = true := by
    unfold State.sweepDue
    rw [hget]
    rfl
  have hpoints : u.sweepPoints p = s.sweepPoints p := by
    unfold State.sweepPoints
    rw [hget, hu]
    rfl
  rw [orderSweep_waiting hst, ← hu, startSweep_due hwait hcan hdue, aimed_todo, hpoints, hu]
  exact ⟨rfl, rfl⟩

theorem orderSweep_ignored (hst : s.est[p].st = .sweeping ∨ s.est[p].st = .paused) : s.orderSweep p = s :=
  if_pos (hst.imp_right .inl)

theorem abortEst_stops (hst : s.est[p].st = .sweeping ∨ s.est[p].st = .paused) : (s.abortEst p).est[p].st = .waiting ∧
    (s.abortEst p).est[p].todo = [] := by
  unfold State.abortEst
  rw [if_pos hst, setEst_get]
  exact ⟨rfl, rfl⟩

theorem newBattery_clears (s : State) (p : BPort) : (s.newBattery p).est[p].rconv = false ∧ (s.newBattery p).est[p].qest = 0 ∧
    (s.newBattery p).est[p].formed = false ∧ (s.newBattery p).est[p].newbat = true := by
  unfold State.newBattery
  extract_lets _ t
  rw [putReg_est]
  show t.est[p].rconv = false ∧ t.est[p].qest = 0 ∧ t.est[p].formed = false ∧ t.est[p].newbat = true
  unfold t
  rw [setEst_get]
  exact ⟨rfl, rfl, rfl, rfl⟩

section
variable (r : Req) (hs : s.serves (estPctlAt p)) (hd : s.deferred = [])
include hs hd

/-- An order is carried, and acts on the channels at the next iteration. -/
theorem estPctl_next {v : Word} {u : State} (hu : s.writeEstPctl p v = u) :
    ∃ t, s.viaService r (estPctlAt p) (fun s => s.carry (estPctlAt p) v) = t ∧ t.iterate.est = u.est := by
  refine ⟨s.carry (estPctlAt p) v, viaService_serves s r _ _ hs, ?_⟩
  rw [carry_iterate s _ v hd, writeCarried_estPctl, hu, iterationEnds_est, settle_est]

theorem estSweep_next : ∃ t, exec (.estSweep r p) s = .next t ∧ t.iterate.est = (s.orderSweep p).est :=
  have ⟨t, ht, hi⟩ := estPctl_next r hs hd (writeEstPctl_sweep s p)
  ⟨t, congrArg Host.Outcome.next ht, hi⟩

/-- The sweep order awaits R260 where the channel may not perturb. -/
theorem estSweep_waits (hst : s.est[p].st = .waiting) (hmay : s.mayPerturb p = false) :
    ∃ t, exec (.estSweep r p) s = .next t ∧ t.iterate.est[p].ordered = true ∧ t.iterate.est[p].st = .waiting := by
  obtain ⟨t, ht, hi⟩ := estSweep_next r hs hd
  refine ⟨t, ht, ?_⟩
  rw [hi, orderSweep_waits hst hmay]
  exact ⟨rfl, hst⟩

/-- The sweep order starts a sweep where the channel may perturb. -/
theorem estSweep_starts (hst : s.est[p].st = .waiting) (hmay : s.mayPerturb p = true) :
    ∃ t, exec (.estSweep r p) s = .next t ∧ t.iterate.est[p].st = .sweeping ∧ t.iterate.est[p].todo = s.pointsNow p (s.sweepPoints p) := by
  obtain ⟨t, ht, hi⟩ := estSweep_next r hs hd
  refine ⟨t, ht, ?_⟩
  rw [hi]
  exact orderSweep_starts hst hmay

/-- The sweep order leaves a sweep in progress as it is. -/
theorem estSweep_ignored (hst : s.est[p].st = .sweeping ∨ s.est[p].st = .paused) :
    ∃ t, exec (.estSweep r p) s = .next t ∧ t.iterate.est = s.est := by
  obtain ⟨t, ht, hi⟩ := estSweep_next r hs hd
  exact ⟨t, ht, hi.trans (congrArg State.est (orderSweep_ignored hst))⟩

/-- The abort order stops a sweep at once. -/
theorem estAbort_stops (hst : s.est[p].st = .sweeping ∨ s.est[p].st = .paused) :
    ∃ t, exec (.estAbort r p) s = .next t ∧ t.iterate.est[p].st = .waiting ∧ t.iterate.est[p].todo = [] := by
  obtain ⟨t, ht, hi⟩ := estPctl_next r hs hd (writeEstPctl_abort s p)
  refine ⟨t, congrArg Host.Outcome.next ht, ?_⟩
  rw [hi]
  exact abortEst_stops hst

/-- The newbat order clears the convergence, the capacity estimate and the history. -/
theorem estNewbat_clears : ∃ t, exec (.estNewbat r p) s = .next t ∧ t.iterate.est[p].rconv = false ∧ t.iterate.est[p].qest = 0 ∧
    t.iterate.est[p].formed = false ∧ t.iterate.est[p].newbat = true := by
  obtain ⟨t, ht, hi⟩ := estPctl_next r hs hd (writeEstPctl_newbat s p)
  refine ⟨t, congrArg Host.Outcome.next ht, ?_⟩
  rw [hi]
  exact newBattery_clears s p

end

/-! ### The corrections of the state of charge (R275-R277) -/

theorem setSoc_get (s : State) (p : BPort) (n unc src : Nat) : (s.setSoc p n unc src).est[p] = { s.est[p] with
    formed := true, q := n * s.estFull p, unc := unc, uncQ := 0, uncAt := s.now, src := src } := setEst_get ..

/-- A rest of a lead port sets its state of charge, whether or not a capacity estimate is entered with it. -/
theorem correctRest_sets (s : State) (p : BPort) (chem : Nat) (v : Int) :
    (s.correctRest p chem v).est[p].q = leadSoc chem v * s.estFull p ∧ (s.correctRest p chem v).est[p].unc = 50 ∧
      (s.correctRest p chem v).est[p].src = 2 := by
  unfold State.correctRest
  extract_lets n t
  have hfull : t.estFull p = s.estFull p := by
    unfold t
    repeat' split
    all_goals rfl
  rw [setSoc_get, hfull]
  exact ⟨rfl, rfl, rfl⟩

/-- A full charge sets the state of charge; a move of more than 15 % is EST source 4. -/
theorem correctFull_sets (s : State) (p : BPort) (chem : Nat) : ∃ u : State,
    s.correctFull p chem = (if s.soc p ≠ 0xFFFF ∧ s.soc p + 1500 < 10000 then u.occur bEST 4 p.val else u) ∧
      u.est[p].q = 1000 * s.estFull p ∧ u.est[p].unc = if isNickel chem then 30 else 20 := by
  unfold State.correctFull
  extract_lets moved t x u
  have hmoved : moved = true ↔ s.soc p ≠ 0xFFFF ∧ s.soc p + 1500 < 10000 := by
    simp only [moved, Bool.and_eq_true, decide_eq_true_eq, bne_iff_ne]
  refine ⟨u, if_congr hmoved rfl rfl, ?_⟩
  unfold u x t
  rw [setEst_get, setSoc_get]
  exact ⟨rfl, rfl⟩

/-- A cut-off sets the state of charge to zero. -/
theorem correctCut_sets (s : State) (p : BPort) : (s.correctCut p).est[p].q = 0 ∧ (s.correctCut p).est[p].unc = 50 ∧
    (s.correctCut p).est[p].src = 4 := by
  unfold State.correctCut
  rw [setSoc_get]
  exact ⟨Nat.zero_mul _, rfl, rfl⟩

/-- The due mark is no part of the state of charge. -/
theorem soc_setEst_due (s : State) (p : BPort) (d : Option (Fin 5)) : (s.setEst p { s.est[p] with due := d }).soc p = s.soc p := by
  unfold State.soc
  rw [setEst_get]
  rfl

section
variable {w : Profile} (hcopy : s.chg[p].wc = some w)
include hcopy

theorem chem_of_copy : s.chg[p].wc.map (·.chem) = some w.chem := by rw [hcopy, Option.map_some]

/-- The rest of a lead port is a correction. -/
theorem socCorrection_rests (hcap : s.estCap p ≠ 0) (v : Int) (hrest : s.rested p w.chem = true) :
    ∃ t, exec (.socCorrection p 1 v) s = .next t ∧ t.est[p].q = leadSoc w.chem v * s.estFull p ∧ t.est[p].unc = 50 ∧ t.est[p].src = 2 := by
  have hexec : exec (.socCorrection p 1 v) s = execSocCorrection p 1 v s := rfl
  refine ⟨s.correctRest p w.chem v, ?_, correctRest_sets s p w.chem v⟩
  rw [hexec, execSocCorrection, chem_of_copy hcopy]
  exact congrArg Host.Outcome.next (if_pos ⟨hrest, hcap⟩)

section
variable (hcap : s.estCap p ≠ 0)
include hcap

/-- The first Qualify without a history forms the state of charge. -/
theorem socCorrection_forms (v : Int) (hlive : s.chgLive p = true) (hphase : s.chg[p].phase = 0) (hformed : s.est[p].formed = false) :
    ∃ t, exec (.socCorrection p 0 v) s = .next t ∧ t.est[p].formed = true ∧ t.est[p].src = 1 ∧
      t.est[p].q = (if isLead w.chem then leadSoc w.chem v else 500) * s.estFull p ∧
      t.est[p].unc = if isLead w.chem then 150 else 255 := by
  have hexec : exec (.socCorrection p 0 v) s = execSocCorrection p 0 v s := rfl
  have hnone : ¬(s.est[p].formed = true ∨ s.estCap p = 0) := not_or.mpr ⟨ne_true_of_eq_false hformed, hcap⟩
  refine ⟨s.correctFirst p w.chem v, ?_, ?_⟩
  · rw [hexec, execSocCorrection, chem_of_copy hcopy]
    exact congrArg Host.Outcome.next (if_pos ⟨hlive, hphase⟩)
  · unfold State.correctFirst
    rw [if_neg hnone]
    split <;> rw [setSoc_get] <;> exact ⟨rfl, rfl, rfl, rfl⟩

/-- The correction that is due is made, and is due no more. -/
theorem correctDue_made {ev : Fin 5} (hdue : s.est[p].due = some ev) {t : State} (ht : s.setEst p { s.est[p] with due := none } = t) :
    s.correctDue p = if ev = 2 then t.correctFull p w.chem else if ev = 3 then t.correctCut p else t := by
  unfold State.correctDue
  rw [hdue, chem_of_copy hcopy, ht]
  exact if_neg hcap

/-- A full charge that is due is a correction. -/
theorem socCorrection_fills (v : Int) (hdue : s.est[p].due = some 2) : ∃ u : State, exec (.socCorrection p 2 v) s =
    .next (if s.soc p ≠ 0xFFFF ∧ s.soc p + 1500 < 10000 then u.occur bEST 4 p.val else u) ∧
      u.est[p].q = 1000 * s.estFull p ∧ u.est[p].unc = if isNickel w.chem then 30 else 20 := by
  have hmade : s.correctDue p = (s.setEst p { s.est[p] with due := none }).correctFull p w.chem :=
    (correctDue_made hcopy hcap hdue rfl).trans (if_pos rfl)
  obtain ⟨u, hu, hset⟩ := correctFull_sets (s.setEst p { s.est[p] with due := none }) p w.chem
  rw [soc_setEst_due] at hu
  exact ⟨u, congrArg Host.Outcome.next ((if_pos hdue).trans (hmade.trans hu)), hset⟩

/-- A cut-off that is due is a correction. -/
theorem socCorrection_empties (v : Int) (hdue : s.est[p].due = some 3) :
    ∃ t, exec (.socCorrection p 3 v) s = .next t ∧ t.est[p].q = 0 ∧ t.est[p].unc = 50 ∧ t.est[p].src = 4 := by
  have hmade : s.correctDue p = (s.setEst p { s.est[p] with due := none }).correctCut p :=
    (correctDue_made hcopy hcap hdue rfl).trans ((if_neg (by decide)).trans (if_pos rfl))
  exact ⟨_, congrArg Host.Outcome.next ((if_pos hdue).trans hmade), correctCut_sets _ p⟩

end

end

/-- The saved history comes back where the terminal lies within 2 % of the saved voltage. -/
theorem socCorrection_restores (v : Int) (hst : s.bat[p].st = .present) (hfirst : s.est[p].first = true) (hvalid : s.ret.est[p].valid = true)
    (hsoc : s.ret.est[p].soc ≠ 0xFFFF)
    (hv : 50 * (max s.bat[p].vterm.toNat s.ret.est[p].v - min s.bat[p].vterm.toNat s.ret.est[p].v) ≤ s.ret.est[p].v) :
    ∃ t, exec (.socCorrection p 4 v) s = .next t ∧ t.est[p].q = s.ret.est[p].soc * s.estFull p / 10 ∧
      t.est[p].unc = sat 255 (s.ret.est[p].unc + 50) ∧ t.est[p].qest = s.ret.est[p].qest ∧ t.est[p].src = 5 := by
  refine ⟨s.restoreHistory p s.bat[p].vterm.toNat, congrArg Host.Outcome.next (if_pos hst), ?_⟩
  unfold State.restoreHistory
  extract_lets r _ t u x
  have hu : u = t.setSoc p 0 (sat 255 (r.unc + 50)) 5 := if_neg hsoc
  rw [if_neg (ne_false_of_eq_true hfirst), if_pos ⟨hvalid, hv⟩, putReg_est, setEst_get, if_neg hsoc]
  unfold x
  rw [hu, setSoc_get]
  exact ⟨rfl, rfl, rfl, rfl⟩

/-! ### The save (R277, R357) -/

/-- A value raised towards retained memory stands in its slot. -/
theorem mem_putValue (s : State) (q : XSlot) : q ∈ (s.putValue q).xslots := by
  unfold State.putValue
  split
  case isTrue h =>
    obtain ⟨r, hr, hsame⟩ := List.any_eq_true.mp h
    exact List.mem_map.mpr ⟨r, hr, if_pos hsame⟩
  case isFalse => exact List.mem_append_right _ (List.mem_singleton_self q)

/-- A channel saved now. -/
def State.markSaved (s : State) (p : BPort) : State := s.setEst p { s.est[p] with savedAt := s.now }

/-- The channels of a list are saved now, and those that were stay so. -/
theorem markSaved_savedAt (l : List BPort) {n : Nat} {s : State} (hn : s.now = n) {k : BPort} (h : k ∈ l ∨ s.est[k].savedAt = n) :
    (forEach l State.markSaved s).est[k].savedAt = n := by
  induction l generalizing s with
  | nil => exact h.resolve_left List.not_mem_nil
  | cons a l ih =>
    refine ih (s := s.markSaved a) hn ?_
    by_cases ha : a = k
    · refine .inr ?_
      unfold State.markSaved
      rw [ha, setEst_get, hn]
    · have hkept : (s.markSaved a).est[k] = s.est[k] := vset_other _ _ _ _ ha
      rw [hkept]
      exact h.imp_left fun hk => (List.mem_cons.mp hk).resolve_left (Ne.symm ha)

/-- After 60 s the history is saved over x3. -/
theorem estSave_saves (hdom : s.domOn 3 = true) (htime : s.est[(0 : BPort)].savedAt + 60000000 ≤ s.now) : ∃ t, exec .estSave s = .next t ∧
    (∃ q ∈ t.xslots, q.x = 3 ∧ q.item = .saveEst ∧ q.data = .est s.estSaves) ∧ ∀ k : BPort, t.est[k].savedAt = s.now := by
  obtain ⟨u, hu⟩ : ∃ u, u = s.putValue ⟨3, .saveEst, 1, .est s.estSaves⟩ := ⟨_, rfl⟩
  have hput : u.but [.xslots] = s.but [.xslots] := by simp [hu]
  have hslots : (forEach allBat State.markSaved u).xslots = u.xslots :=
    but_xslots (fs := [.est]) (forEach_but _ _ _ fun t k => by simp [State.markSaved]) (by decide)
  refine ⟨forEach allBat State.markSaved u, hu ▸ if_pos ⟨hdom, htime⟩, ⟨⟨3, .saveEst, 1, .est s.estSaves⟩, ?_, rfl, rfl, rfl⟩, fun k =>
    markSaved_savedAt allBat (but_now hput (by decide)) (.inl (List.mem_finRange k))⟩
  rw [hslots, hu]
  exact mem_putValue s _

theorem estSave_waits (htime : s.now < s.est[(0 : BPort)].savedAt + 60000000) : exec .estSave s = .next s :=
  if_neg fun h => absurd h.2 (Nat.not_le.mpr htime)

end

/-- Settles O40: the baseline, the check, the orders, the corrections and the save, each by its own lemma above. -/
theorem kneeAndHistory : Obligations.KneeAndHistory := fun _ _ =>
  ⟨kneeBaseline_lowers,
    fun z₁ z₂ hcand => ⟨kneeCheck_unavailable z₁ z₂ hcand,
      fun _ _ hbase hmay hover => kneeCheck_waits hcand hbase hmay hover,
      fun _ _ hbase hmay hover => ⟨kneeCheck_low hcand hbase hmay hover,
        fun hrisen => ⟨kneeCheck_confirms hcand hbase hmay hover hrisen, kneeCheck_strays hcand hbase hmay hover hrisen rfl⟩⟩⟩,
    fun r hs hd => ⟨estSweep_waits r hs hd, estSweep_starts r hs hd,
      fun hst => ⟨estSweep_ignored r hs hd hst, estAbort_stops r hs hd hst⟩, estNewbat_clears r hs hd⟩,
    fun _ v _ hcopy hcap => ⟨fun hev => hev ▸ socCorrection_forms hcopy hcap v,
      fun hev => hev ▸ socCorrection_rests hcopy hcap v,
      fun hev => hev ▸ socCorrection_fills hcopy hcap v,
      fun hev => hev ▸ socCorrection_empties hcopy hcap v,
      fun hev => hev ▸ socCorrection_restores v⟩,
    fun hdom => ⟨estSave_saves hdom, estSave_waits⟩⟩

end Sys2Proof.Machine
end

section
/-!
PROOFS. The throttle step (spec/09_thermal.md, R294-R297): the tick, the recovery, and the return from Shutdown.
-/

namespace Sys2Proof.Machine

/-- A moment that lies far enough back. -/
theorem any_elapsed {o : Option Nat} {t n now : Nat} (ho : o = some t) (h : t + n ≤ now) :
    o.any (fun t => decide (t + n ≤ now)) = true := by
  rw [ho]
  exact decide_eq_true h

section
variable {s : State}

/-! ### The step (R295) -/

@[simp] theorem stepTo_step (x : ThmRec) (n : Nat) : (x.stepTo n).step = if x.hold.isSome then x.step else min 16 (max x.floor n) := by
  unfold ThmRec.stepTo
  split <;> rfl

@[simp] theorem stepTo_tickAt (x : ThmRec) (n : Nat) : (x.stepTo n).tickAt = x.tickAt := by
  unfold ThmRec.stepTo
  split <;> rfl

@[simp] theorem stepTo_sensors (x : ThmRec) (n : Nat) : (x.stepTo n).sensors = x.sensors := by
  unfold ThmRec.stepTo
  split <;> rfl

@[simp] theorem stepTo_tmax (x : ThmRec) (n : Nat) : (x.stepTo n).tmax = x.tmax := by
  unfold ThmRec.stepTo
  split <;> rfl

@[simp] theorem stepTo_tickT (x : ThmRec) (n : Nat) : (x.stepTo n).tickT = x.tickT := by
  unfold ThmRec.stepTo
  split <;> rfl

/-! ### The tick (R295) -/

/-- The throttle's record with a tick's time and control temperature taken. -/
def ThmRec.ticked (x : ThmRec) (now : Nat) : ThmRec := { x with tickAt := x.tickAt + (now - x.tickAt) / 250000 * 250000, tickT := x.tctl }

/-- Whether the control temperature neither falls by 0.25 degC since the last tick nor stands below thr. -/
def State.staysHot (s : State) : Bool := decide (s.thm.tickT - s.thm.tctl < 4) && decide ((16 * s.thmThr : Int) ≤ s.thm.tctl)

/-- A tick that is due in Descending or Holding: one step up and Descending, or Holding. -/
theorem throttleTick_due (hdom : s.domOn 10 = true) (hcond : s.thm.cond = .descending ∨ s.thm.cond = .holding)
    (htime : s.thm.tickAt + 250000 ≤ s.now) :
    exec .throttleTick s = .next { s with thm :=
      if s.staysHot then { (s.thm.ticked s.now).stepTo (s.thm.step + 1) with cond := .descending }
      else { s.thm.ticked s.now with cond := .holding } } := by
  have hrec : s.thm.cond ≠ .recovering := by rcases hcond with h | h <;> simp [h]
  refine (if_pos ⟨hdom, hcond.imp_right .inl, htime⟩).trans ?_
  simp only [if_neg hrec]
  rfl

theorem throttleTick_rises (hdom : s.domOn 10 = true) (hcond : s.thm.cond = .descending ∨ s.thm.cond = .holding)
    (htime : s.thm.tickAt + 250000 ≤ s.now) (hfall : s.thm.tickT - s.thm.tctl < 4) (hthr : 16 * (s.thmThr : Int) ≤ s.thm.tctl) :
    ∃ t, exec .throttleTick s = .next t ∧ t.thm.cond = .descending ∧
      t.thm.tickAt = s.thm.tickAt + (s.now - s.thm.tickAt) / 250000 * 250000 ∧ t.thm.tickT = s.thm.tctl ∧
      t.thm.step = if s.thm.hold.isSome then s.thm.step else min 16 (max s.thm.floor (s.thm.step + 1)) := by
  have hhot : s.staysHot = true := by simp [State.staysHot, hfall, hthr]
  refine ⟨_, throttleTick_due hdom hcond htime, ?_⟩
  simp [hhot, ThmRec.ticked]

theorem throttleTick_holds (hdom : s.domOn 10 = true) (hcond : s.thm.cond = .descending ∨ s.thm.cond = .holding)
    (htime : s.thm.tickAt + 250000 ≤ s.now) (hcool : 4 ≤ s.thm.tickT - s.thm.tctl ∨ s.thm.tctl < 16 * (s.thmThr : Int)) :
    ∃ t, exec .throttleTick s = .next t ∧ t.thm.cond = .holding ∧ t.thm.step = s.thm.step ∧ t.thm.tickT = s.thm.tctl := by
  have hhot : ¬ s.staysHot = true := by
    simp only [State.staysHot, Bool.and_eq_true, decide_eq_true_eq]
    omega
  have he : exec .throttleTick s = .next { s with thm := { s.thm.ticked s.now with cond := .holding } } := by
    rw [throttleTick_due hdom hcond htime, if_neg hhot]
  exact ⟨_, he, rfl, rfl, rfl⟩

/-- A tick while the throttle recovers only takes its time and the control temperature. -/
theorem throttleTick_recovering (hdom : s.domOn 10 = true) (hcond : s.thm.cond = .recovering) (htime : s.thm.tickAt + 250000 ≤ s.now) :
    ∃ t, exec .throttleTick s = .next t ∧ t.thm.cond = .recovering ∧ t.thm.step = s.thm.step ∧ t.thm.tickT = s.thm.tctl := by
  have he : exec .throttleTick s = .next { s with thm := s.thm.ticked s.now } := by
    refine (if_pos ⟨hdom, .inr (.inr hcond), htime⟩).trans ?_
    simp only [if_pos hcond]
    rfl
  exact ⟨_, he, hcond, rfl, rfl⟩

/-! ### The recovery (R295) -/

/-- Two seconds below thr less 5 degC lower the step; Recovering ends at step 0. -/
theorem throttleRecovery_lowers {t₀ : Nat} (hdom : s.domOn 10 = true) (hcond : s.thm.cond = .holding ∨ s.thm.cond = .recovering)
    (hcool : s.thm.coolSince = some t₀) (htime : t₀ + 2000000 ≤ s.now) (hhold : s.thm.hold = none) :
    ∃ t, exec .throttleRecovery s = .next t ∧ t.thm.step = min 16 (max s.thm.floor (s.thm.step - 1)) ∧
      t.thm.cond = if s.thm.cond = .recovering ∧ t.thm.step = 0 then .normal else .recovering := by
  refine ⟨_, if_pos ⟨hdom, hcond, any_elapsed hcool htime⟩, ?_, rfl⟩
  simp [hhold]

/-! ### The return from Shutdown (R295, R297) -/

/-- With no other driver on the Safe line the throttle holds at step 12 or the floor, and the Safe line is released. -/
theorem thermalShutdownReturn_returns {t₀ : Nat} (hdom : s.domOn 10 = true) (hcond : s.thm.cond = .shutdown)
    (hcool : s.thm.rsSince = some t₀) (htime : t₀ + 10000000 ≤ s.now) (hlive : s.liveBit bTHM 3 = false)
    (hown : ∀ d ∈ s.safeLine, d = thermalDriver) :
    ∃ t, exec .thermalShutdownReturn s = .next t ∧ t.thm.cond = .holding ∧ t.thm.step = max s.thm.floor 12 ∧ t.safeLine = [] := by
  have hall : s.safeLine.all (· == thermalDriver) = true := by simpa using hown
  have hnone : s.safeLine.filter (· != thermalDriver) = [] := by simpa using hown
  exact ⟨_, if_pos ⟨hdom, hcond, any_elapsed hcool htime, hlive, hall⟩, rfl, rfl, hnone⟩

/-- Another driver on the Safe line keeps the module in Shutdown. -/
theorem thermalShutdownReturn_waits (hother : ∃ d ∈ s.safeLine, d ≠ thermalDriver) : exec .thermalShutdownReturn s = .next s := by
  refine if_neg fun h => ?_
  obtain ⟨-, -, -, -, hall⟩ := h
  obtain ⟨d, hd, hne⟩ := hother
  exact hne (by simpa using List.all_eq_true.mp hall d hd)

end

/-- Settles O42: the tick, the recovery and the return by their own lemmas above. -/
theorem throttle : Obligations.Throttle := fun _ hdom =>
  ⟨fun hcond htime => ⟨throttleTick_rises hdom hcond htime, throttleTick_holds hdom hcond htime⟩,
    throttleTick_recovering hdom,
    fun _ => throttleRecovery_lowers hdom,
    fun _ hcond hcool htime hlive => ⟨thermalShutdownReturn_returns hdom hcond hcool htime hlive, thermalShutdownReturn_waits⟩⟩

end Sys2Proof.Machine
end

section
/-!
PROOFS. Sensors, fans and the model (spec/09_thermal.md, R286-R292, R300-R306): what an occurrence and a failure leave of a sensor, the
sample, the retry and the return, the fans, and the history.
-/

namespace Sys2Proof.Machine

/-! ### What an occurrence leaves of the thermal manager -/

theorem thm_of_reactions {s t : State} (h : ChangesOnly reactions s t) : t.thm = s.thm := but_thm h (by decide)

@[simp] theorem occur_thm (s : State) (b : Blk) (src : Src) (obj : Nat) (stays : Bool) : (s.occur b src obj stays).thm = s.thm :=
  thm_of_reactions (by simp [ChangesOnly, reactions])

@[simp] theorem retryOutcome_thm (s : State) (b : Blk) (src : Src) (obj : Nat) (ok : Bool) : (s.retryOutcome b src obj ok).thm = s.thm :=
  thm_of_reactions (by simp [ChangesOnly, reactions])

@[simp] theorem markLive_thm (s : State) (b : Blk) (src : Src) (obj : Nat) (stays : Bool) : (s.markLive b src obj stays).thm = s.thm :=
  thm_of_reactions (by simp [ChangesOnly, reactions])

@[simp] theorem assertSafe_thm (s : State) (d : Driver) : (s.assertSafe d).thm = s.thm :=
  thm_of_reactions (by simp [ChangesOnly, reactions])

@[simp] theorem putValue_thm (s : State) (q : XSlot) : (s.putValue q).thm = s.thm := but_thm (fs := [.xslots]) (by simp) (by decide)

@[simp] theorem endCause_thm (s : State) (b : Blk) (src : Src) (obj : Nat) : (s.endCause b src obj).thm = s.thm := rfl

/-! ### The record of a sensor, and of a fan -/

@[simp] theorem setSensor_get (s : State) (k : Sensor) (x : SensorRec) : (s.setSensor k x).thm.sensors[k] = x := vset_same ..

theorem setSensor_get_other (s : State) {j k : Sensor} (x : SensorRec) (h : j ≠ k) :
    (s.setSensor j x).thm.sensors[k] = s.thm.sensors[k] :=
  vset_other _ _ _ _ h

@[simp] theorem setFan_get (s : State) (f : Fan) (x : FanRec) : (s.setFan f x).thm.fans[f] = x := vset_same ..

/-- A sensor that is Failed or Fenced, with the cause and the number of its failures. -/
structure SensorRec.Down (x : SensorRec) (cause nfail : Nat) : Prop where
  bad : x.bad = true
  cause : x.cause = cause
  nfail : x.nfail = nfail

/-- A sensor that is Valid and reports its last reading. -/
structure SensorRec.Reports (x : SensorRec) (r : Int) : Prop where
  st : x.st = .valid
  t : x.t = r
  raw : x.raw = r

theorem bad_of_valid {x : SensorRec} (h : x.st = .valid) : x.bad = false := by simp [SensorRec.bad, h]

theorem bad_of_off {x : SensorRec} (h : x.st = .off) : x.bad = false := by simp [SensorRec.bad, h]

/-! ### A sensor that fails (R302, R304, R305) -/

/-- A sensor Fenced. -/
def State.fenceSensor (s : State) (k : Sensor) : State := s.setSensor k { s.thm.sensors[k] with st := .fenced }

/-- A sensor Fenced with a neighbour of its own, whose pair source 1 is to name. -/
def State.fenceWith (k : Sensor) (s : State) (j : Sensor) : State :=
  let t := (s.fenceSensor k).fenceSensor j
  { t with deferred := t.deferred ++ [.occurs bTHM 1 (min j.val k.val)] }

@[simp] theorem fenceWith_thm (s : State) (k j : Sensor) : (State.fenceWith k s j).thm = ((s.fenceSensor k).fenceSensor j).thm := rfl

/-- The record of a sensor that fails: counted, but for a failed self-test. -/
def SensorRec.failedBy (x : SensorRec) (cause : Nat) (count : Bool) : SensorRec :=
  { x with
    st := .failed, cause := cause, nfail := if count then sat 3 (x.nfail + 1) else x.nfail, passSince := none, farSince := none,
    testAt := none, selfBad := x.selfBad || !count }

/-- A sensor Failed, and the throttle step held where it gave T_ctl. -/
def State.failAlone (s : State) (k : Sensor) (cause : Nat) (count : Bool) : State :=
  let t := s.setSensor k (s.thm.sensors[k].failedBy cause count)
  if s.thm.tctlIdx = k.val ∧ 0 < s.thm.step ∧ s.thm.hold = none then { t with thm := { t.thm with hold := some (t.now + 60000000) } }
  else t

/-- A failing sensor is Failed, and then Fenced with each neighbour that is down too. -/
theorem failSensor_eq (s : State) (k : Sensor) (cause : Nat) (count : Bool) : s.failSensor k cause count =
    forEach ((neighbours k).filter fun j => (s.failAlone k cause count).thm.sensors[j].bad) (State.fenceWith k)
      (s.failAlone k cause count) := rfl

theorem failAlone_sensors (s : State) (k : Sensor) (cause : Nat) (count : Bool) :
    (s.failAlone k cause count).thm.sensors = vset s.thm.sensors k (s.thm.sensors[k].failedBy cause count) := by
  unfold State.failAlone
  extract_lets
  split <;> rfl

theorem fenceSensor_down {s : State} {k : Sensor} (j : Sensor) {cause nfail : Nat} (h : s.thm.sensors[k].Down cause nfail) :
    (s.fenceSensor j).thm.sensors[k].Down cause nfail := by
  unfold State.fenceSensor
  by_cases hj : j = k
  · subst hj
    rw [setSensor_get]
    exact ⟨rfl, h.cause, h.nfail⟩
  · rwa [setSensor_get_other _ _ hj]

/-- A failure is counted, but for that of a self-test. -/
theorem failSensor_down (s : State) (k : Sensor) (cause : Nat) (count : Bool) : (s.failSensor k cause count).thm.sensors[k].Down cause
    (if count then sat 3 (s.thm.sensors[k].nfail + 1) else s.thm.sensors[k].nfail) := by
  rw [failSensor_eq]
  refine forEach_keeps (fun t => t.thm.sensors[k].Down cause _) (State.fenceWith k) (fun t j h => ?_) _ ?_
  · rw [fenceWith_thm]
    exact fenceSensor_down j (fenceSensor_down k h)
  · simp only [failAlone_sensors, Fin.getElem_fin, vset_same]
    exact ⟨rfl, rfl, rfl⟩

/-! ### What the judgement of another sensor rests on -/

/-- A sensor, the convergence of the model and the time are those of an earlier state. -/
structure State.SensorKept (k : Sensor) (s t : State) : Prop where
  sensor : t.thm.sensors[k] = s.thm.sensors[k]
  mconv : t.thm.mconv = s.thm.mconv
  now : t.now = s.now

theorem State.SensorKept.refl (k : Sensor) (s : State) : s.SensorKept k s := ⟨rfl, rfl, rfl⟩

theorem State.SensorKept.trans {k : Sensor} {s t u : State} (h : s.SensorKept k t) (g : t.SensorKept k u) : s.SensorKept k u :=
  ⟨g.sensor.trans h.sensor, g.mconv.trans h.mconv, g.now.trans h.now⟩

theorem kept_of_reactions (k : Sensor) {s t : State} (h : ChangesOnly reactions s t) : s.SensorKept k t := by
  have hthm := thm_of_reactions h
  exact ⟨by rw [hthm], by rw [hthm], but_now h (by decide)⟩

theorem setSensor_kept (s : State) {j k : Sensor} (hj : j ≠ k) (x : SensorRec) : s.SensorKept k (s.setSensor j x) :=
  ⟨setSensor_get_other s x hj, rfl, rfl⟩

theorem occur_kept (s : State) (k : Sensor) (obj : Nat) (stays : Bool) : s.SensorKept k (s.occur bTHM 0 obj stays) :=
  kept_of_reactions k (by simp [ChangesOnly, reactions])

theorem occurHard_kept (s : State) (k : Sensor) (obj : Nat) (stays : Bool) : s.SensorKept k (s.occurHard bTHM 0 obj stays) :=
  kept_of_reactions k (by simp [ChangesOnly, reactions])

theorem failAlone_kept (s : State) {j k : Sensor} (hj : j ≠ k) (cause : Nat) (count : Bool) :
    s.SensorKept k (s.failAlone j cause count) := by
  refine ⟨?_, ?_, ?_⟩
  · simp only [failAlone_sensors, Fin.getElem_fin, vset_other _ _ _ _ hj]
  all_goals
    unfold State.failAlone
    extract_lets
    split <;> rfl

theorem fenceWith_kept (s : State) {i j k : Sensor} (hj : j ≠ k) (hi : i ≠ k) : s.SensorKept k (State.fenceWith j s i) := by
  have hset := (setSensor_kept s hj { s.thm.sensors[j] with st := .fenced }).trans
    (setSensor_kept (s.fenceSensor j) hi { (s.fenceSensor j).thm.sensors[i] with st := .fenced })
  exact ⟨hset.sensor, hset.mconv, hset.now⟩

/-- A sensor that fails fences only neighbours that are down: one that is not stays as it is. -/
theorem failSensor_kept (s : State) {j k : Sensor} (hj : j ≠ k) (hup : s.thm.sensors[k].bad = false) (cause : Nat) (count : Bool) :
    s.SensorKept k (s.failSensor j cause count) := by
  have hfail := failAlone_kept s hj cause count
  rw [failSensor_eq]
  refine List.foldlRecOn (motive := s.SensorKept k) _ _ hfail fun t ht i hi => ?_
  have hbad := (List.mem_filter.mp hi).2
  have hi : i ≠ k := by
    rintro rfl
    rw [hfail.sensor, hup] at hbad
    nomatch hbad
  exact ht.trans (fenceWith_kept t hj hi)

/-- The sample of one sensor leaves another that is not down as it is. -/
theorem sampleSensor_kept (raw : Vector Int 48) (s : State) {j k : Sensor} (hj : j ≠ k) (hup : s.thm.sensors[k].bad = false) :
    s.SensorKept k (s.sampleSensor raw j) := by
  unfold State.sampleSensor
  extract_lets x r
  split
  · split
    · exact .refl k s
    · split
      · exact (setSensor_kept s hj _).trans (occur_kept ..)
      · exact setSensor_kept s hj _
  · split
    · exact setSensor_kept s hj _
    · split
      · exact (setSensor_kept s hj _).trans (occur_kept ..)
      · extract_lets t
        have hset := setSensor_kept s hj (s.track j r)
        have ht : s.SensorKept k t := hset.trans (failSensor_kept _ hj (by rw [hset.sensor, hup]) _ _)
        split
        · exact ht.trans (occur_kept ..)
        · exact ht.trans (occurHard_kept ..)
  · exact .refl k s
  · exact setSensor_kept s hj _
  · exact setSensor_kept s hj _

/-! ### A reading that passes (R301, R302) -/

/-- A sensor whose reading passes: an Off one in range with no self-test to repeat, or a Valid one that meets no criterion. -/
def State.Passes (s : State) (k : Sensor) (r : Int) : Prop :=
  s.thm.sensors[k].st = .off ∧ s.thm.sensors[k].testAt = none ∧ -880 ≤ r ∧ r ≤ 3200 ∨
    s.thm.sensors[k].st = .valid ∧ s.criterion k r = none

theorem State.Passes.up {s : State} {k : Sensor} {r : Int} (h : s.Passes k r) : s.thm.sensors[k].bad = false :=
  h.elim (fun h => bad_of_off h.1) fun h => bad_of_valid h.1

theorem State.SensorKept.passes {s t : State} {k : Sensor} {r : Int} (h : s.SensorKept k t) (hp : s.Passes k r) : t.Passes k r := by
  have hcrit : t.criterion k r = s.criterion k r := by simp only [State.criterion, h.sensor, h.mconv, h.now]
  rwa [State.Passes, h.sensor, hcrit]

theorem sampleSensor_reports (raw : Vector Int 48) {s : State} {k : Sensor} (h : s.Passes k raw[k]) :
    (s.sampleSensor raw k).thm.sensors[k].Reports raw[k] := by
  rcases h with ⟨hst, htest, hlo, hhi⟩ | ⟨hst, hcrit⟩
  · have hrange : ¬ (raw[k] < -880 ∨ 3200 < raw[k]) := by omega
    simp only [State.sampleSensor, hst, htest, Option.isSome_none, Bool.false_eq_true, if_false, if_neg hrange, setSensor_get]
    exact ⟨rfl, rfl, rfl⟩
  · simp only [State.sampleSensor, hst, hcrit, setSensor_get]
    exact ⟨hst, rfl, rfl⟩

/-- An update of every sensor: where those of the others keep what a sensor's own update needs and what it makes, it is made. -/
theorem forEach_sensor {f : State → Sensor → State} {P Q : State → Prop} {k : Sensor} (hP : ∀ t j, j ≠ k → P t → P (f t j))
    (hQ : ∀ t j, j ≠ k → Q t → Q (f t j)) (hk : ∀ t, P t → Q (f t k)) {s : State} (hs : P s) : Q (forEach allSensors f s) := by
  obtain ⟨l, m, he⟩ : ∃ l m, allSensors = l ++ k :: m := List.append_of_mem (List.mem_finRange k)
  have hn : (l ++ k :: m).Nodup := by
    rw [← he]
    exact List.nodup_finRange 48
  obtain ⟨-, hm, hlm⟩ := List.nodup_append.mp hn
  have hsplit : forEach allSensors f s = forEach m f (f (forEach l f s) k) := by
    unfold forEach
    rw [he, List.foldl_append, List.foldl_cons]
  have hl : P (forEach l f s) := List.foldlRecOn l f hs fun t ht j hj => hP t j (hlm j hj k List.mem_cons_self) ht
  rw [hsplit]
  exact List.foldlRecOn m f (hk _ hl) fun t ht j hj => hQ t j (fun e => (List.nodup_cons.mp hm).1 (e ▸ hj)) ht

/-- A reading that passes is reported behind the sample of all sensors. -/
theorem sampleAll_reports (raw : Vector Int 48) {s : State} {k : Sensor} (h : s.Passes k raw[k]) :
    (forEach allSensors (State.sampleSensor raw) s).thm.sensors[k].Reports raw[k] := by
  refine forEach_sensor (k := k) (P := fun t => t.Passes k raw[k])
    (Q := fun t => t.thm.sensors[k].Reports raw[k]) (fun t j hj ht => ?_) (fun t j hj ht => ?_) (fun t ht => ?_) h
  · exact (sampleSensor_kept raw t hj ht.up).passes ht
  · rwa [(sampleSensor_kept raw t hj (bad_of_valid ht.st)).sensor]
  · exact sampleSensor_reports raw ht

/-! ### The substitutes, and the model behind a sample (R286-R292, R303) -/

/-- Two records of a sensor of one state, reported value and last reading. -/
structure SensorRec.SameReading (x y : SensorRec) : Prop where
  st : y.st = x.st
  t : y.t = x.t
  raw : y.raw = x.raw

theorem SensorRec.SameReading.trans {x y z : SensorRec} (h : x.SameReading y) (g : y.SameReading z) : x.SameReading z :=
  ⟨g.st.trans h.st, g.t.trans h.t, g.raw.trans h.raw⟩

theorem SensorRec.SameReading.reports {x y : SensorRec} {r : Int} (h : x.SameReading y) (hx : x.Reports r) : y.Reports r :=
  ⟨h.st.trans hx.st, h.t.trans hx.t, h.raw.trans hx.raw⟩

/-- A substitute is put in for a sensor that is down, and for no other. -/
theorem substituteAll_get (s : State) (k : Sensor) : s.substituteAll.thm.sensors[k] =
    if s.thm.sensors[k].bad then { s.thm.sensors[k] with t := satInt 16 (s.substitute k) } else s.thm.sensors[k] := by
  simp [State.substituteAll, State.drewMany]

theorem substituteAll_up {s : State} {k : Sensor} (h : s.thm.sensors[k].bad = false) :
    s.substituteAll.thm.sensors[k] = s.thm.sensors[k] := by
  rw [substituteAll_get, h]
  rfl

theorem substituteAll_down {s : State} {k : Sensor} {cause nfail : Nat} (h : s.thm.sensors[k].Down cause nfail) :
    s.substituteAll.thm.sensors[k].Down cause nfail := by
  rw [substituteAll_get, if_pos h.bad]
  exact ⟨h.bad, h.cause, h.nfail⟩

theorem predict_reading (s : State) (k : Sensor) : s.thm.sensors[k].SameReading s.predict.thm.sensors[k] := by
  constructor <;> simp [State.predict]

theorem updateNodes_reading (s : State) (k : Sensor) : s.thm.sensors[k].SameReading s.updateNodes.thm.sensors[k] := by
  constructor <;>
  · simp only [State.updateNodes, Fin.getElem_fin, Vector.getElem_ofFn]
    split <;> rfl

theorem modelUpdate_reading (s : State) (k : Sensor) : s.thm.sensors[k].SameReading s.modelUpdate.thm.sensors[k] :=
  (updateNodes_reading s k).trans (predict_reading s.updateNodes.correctRef k)

theorem modelStart_reading (s : State) (k : Sensor) : s.thm.sensors[k].SameReading s.modelStart.thm.sensors[k] := by
  unfold State.modelStart
  extract_lets t x u
  have hu : s.thm.sensors[k].SameReading u.thm.sensors[k] := by
    unfold u
    split <;> constructor <;> simp [x]
  exact hu.trans (predict_reading u k)

/-- The model updated, or started at the first reading. -/
def State.modelled (s : State) : State := if s.thm.started then s.modelUpdate else s.modelStart

theorem modelled_reading (s : State) (k : Sensor) : s.thm.sensors[k].SameReading s.modelled.thm.sensors[k] := by
  unfold State.modelled
  split
  · exact modelUpdate_reading s k
  · exact modelStart_reading s k

/-! ### T_max (R286) -/

theorem hottest_none {f : Sensor → Int} {l : List Sensor} (h : hottest f l = none) : l = [] := by
  cases l with
  | nil => rfl
  | cons k l =>
    unfold hottest at h
    split at h
    · nomatch h
    · split at h <;> nomatch h

/-- The hottest of a list is as hot as each of it. -/
theorem hottest_le {f : Sensor → Int} {l : List Sensor} {k j : Sensor} (h : hottest f l = some k) (hj : j ∈ l) : f j ≤ f k := by
  induction l generalizing k with
  | nil => nomatch hj
  | cons a l ih =>
    unfold hottest at h
    split at h
    next hnone =>
      rw [hottest_none hnone, List.mem_singleton] at hj
      cases h
      rw [hj]
    next b hb =>
      split at h
      next hlt =>
        cases h
        rcases List.mem_cons.mp hj with rfl | hj
        · omega
        · exact ih hb hj
      next hge =>
        cases h
        rcases List.mem_cons.mp hj with rfl | hj
        · exact Int.le_refl _
        · have := ih hb hj
          omega

@[simp] theorem formMax_sensors (s : State) : s.formMax.thm.sensors = s.thm.sensors := by
  unfold State.formMax
  extract_lets
  split <;> rfl

@[simp] theorem formMax_invalid (s : State) : s.formMax.thm.invalid = s.thm.invalid := by
  unfold State.formMax
  extract_lets
  split <;> rfl

@[simp] theorem formMax_cells (s : State) : s.formMax.cells = s.cells := but_cells (fs := [.thm]) (by simp) (by decide)

theorem countsMax_congr {s t : State} (k : Sensor) (hsensors : t.thm.sensors = s.thm.sensors) (hcells : t.cells = s.cells) :
    t.countsMax k = s.countsMax k := by simp only [State.countsMax, hsensors, hcells]

theorem countsMax_of_valid {s : State} {k : Sensor} (h : s.thm.sensors[k].st = .valid) : s.countsMax k = true := by
  have hup := bad_of_valid h
  simp only [State.countsMax, h, hup]
  rfl

/-- T_max is at least the reported value of every sensor that counts. -/
theorem formMax_tmax {s : State} {k : Sensor} (h : s.countsMax k = true) : s.thm.sensors[k].t ≤ s.formMax.thm.tmax := by
  have hk : k ∈ allSensors.filter s.countsMax := List.mem_filter.mpr ⟨List.mem_finRange k, h⟩
  unfold State.formMax
  extract_lets l x t c
  split
  next i j hi hj => exact hottest_le (f := t) hi hk
  next hno =>
    have hne : l ≠ [] := List.ne_nil_of_mem hk
    obtain ⟨i, hi⟩ := Option.ne_none_iff_exists'.mp fun h => hne (hottest_none (f := t) h)
    obtain ⟨j, hj⟩ := Option.ne_none_iff_exists'.mp fun h => hne (hottest_none (f := c) h)
    exact absurd hj (hno i j hi)

/-! ### Behind T_max: thresholds, throttle and fans -/

/-- What follows T_max at a sample keeps the sensors and T_max; it moves a cell only by way of the Safe line, which then stands. -/
structure State.Measured (s t : State) : Prop where
  sensors : t.thm.sensors = s.thm.sensors
  tmax : t.thm.tmax = s.thm.tmax
  cells : t.safeLine = [] → s.safeLine = [] ∧ t.cells = s.cells

theorem State.Measured.refl (s : State) : s.Measured s := ⟨rfl, rfl, fun h => ⟨h, rfl⟩⟩

theorem State.Measured.trans {s t u : State} (h : s.Measured t) (g : t.Measured u) : s.Measured u :=
  ⟨g.sensors.trans h.sensors, g.tmax.trans h.tmax, fun hu =>
    have ⟨ht, hcells⟩ := g.cells hu
    have ⟨hs, hcells'⟩ := h.cells ht
    ⟨hs, hcells.trans hcells'⟩⟩

theorem measured_of_same {s t : State} (hsensors : t.thm.sensors = s.thm.sensors) (htmax : t.thm.tmax = s.thm.tmax)
    (hsafe : t.safeLine = s.safeLine) (hcells : t.cells = s.cells) : s.Measured t :=
  ⟨hsensors, htmax, fun h => ⟨hsafe ▸ h, hcells⟩⟩

/-- A change of the fault records, the report, the culm or the time of a deferral. -/
theorem measured_of_but {s t : State} (h : ChangesOnly [.deferred, .flt, .x3, .xing, .log, .ret, .culm, .branches, .img, .src, .thr] s t) :
    s.Measured t := by
  have hthm := but_thm h (by decide)
  exact measured_of_same (by rw [hthm]) (by rw [hthm]) (but_safeLine h (by decide)) (but_cells h (by decide))

theorem assertSafe_measured (s : State) (d : Driver) : s.Measured (s.assertSafe d) :=
  ⟨by rw [assertSafe_thm], by rw [assertSafe_thm], fun h => absurd h (List.ne_nil_of_mem (assertSafe_asserts s d))⟩

/-- A source of the thermal manager that names no cell reacts on nothing but the Safe line. -/
theorem react_measured (s : State) {src : Src} (obj : Nat) (h : src ≠ 1 ∧ src ≠ 7) : s.Measured (s.react bTHM src obj) := by
  have h1 : src.val ≠ 1 := fun e => h.1 (Fin.ext e)
  have h7 : src.val ≠ 7 := fun e => h.2 (Fin.ext e)
  have hports (u : State) : u.objPorts bTHM src obj = [] := by simp [State.objPorts, bTHM, h1, h7]
  have hdegrade (u : State) : u.degrade bTHM src obj = u := by simp [State.degrade, bTHM, h1, h7]
  unfold State.react
  split
  · exact .refl s
  · split
    · exact measured_of_but (by simp [ChangesOnly])
    · extract_lets x
      split
      · rw [hdegrade]
        exact .refl s
      · exact measured_of_but (by simp [ChangesOnly])
    · unfold State.reactLines
      split
      · rw [hports]
        exact .refl s
      · exact assertSafe_measured s _
      · exact .refl s

theorem occur_measured (s : State) {src : Src} (obj : Nat) (stays : Bool) (h : src ≠ 1 ∧ src ≠ 7) :
    s.Measured (s.occur bTHM src obj stays) := by
  obtain ⟨u, hu, -, he | he⟩ := occur_reports s bTHM src obj stays
  all_goals
    have hthm := but_thm hu (by decide)
    have hsu : s.Measured u := measured_of_same (by rw [hthm]) (by rw [hthm]) (but_safeLine hu (by decide)) (but_cells hu (by decide))
  · exact he ▸ hsu
  · exact he ▸ hsu.trans (react_measured u obj h)

theorem endCause_measured (s : State) (src : Src) (obj : Nat) : s.Measured (s.endCause bTHM src obj) :=
  measured_of_same rfl rfl rfl rfl

theorem modelRecovery_measured (s : State) : s.Measured s.modelRecovery := by
  unfold State.modelRecovery
  split
  · exact .refl s
  · split
    · exact measured_of_same rfl rfl rfl rfl
    · split
      · exact measured_of_same rfl rfl rfl rfl
      · split
        · exact measured_of_same rfl rfl rfl rfl
        · exact .refl s

/-- The warning at a sample, and the write hold (R293, R298). -/
def State.warnSample (s : State) : State :=
  if s.thm.warn = false ∧ (16 * s.thmWarn : Int) ≤ s.thm.tmax then ({ s with thm := { s.thm with warn := true } }).occur bTHM 2 0 true
  else if s.thm.warn = true ∧ s.thm.tmax < (16 * s.thmWarn : Int) - 80 then
    ({ s with thm := { s.thm with warn := false } }).endCause bTHM 2 0
  else s
def State.holdSample (s : State) : State :=
  if s.thm.nvhold = false ∧ 2400 < s.thm.sensors[(46 : Sensor)].t then s.beginHold.occur bTHM 6 0 true
  else if s.thm.nvhold = true ∧ s.thm.sensors[(46 : Sensor)].t < 2320 then s.endHold.endCause bTHM 6 0
  else s

theorem thresholds_eq (s : State) : s.thresholds = s.warnSample.holdSample := rfl

theorem warnSample_measured (s : State) : s.Measured s.warnSample := by
  have hwarn (x : Bool) : s.Measured { s with thm := { s.thm with warn := x } } := measured_of_same rfl rfl rfl rfl
  unfold State.warnSample
  split
  · exact (hwarn true).trans (occur_measured _ 0 true (by decide))
  · split
    · exact (hwarn false).trans (endCause_measured ..)
    · exact .refl s

theorem holdSample_measured (s : State) : s.Measured s.holdSample := by
  have hbegin : s.Measured s.beginHold := measured_of_same rfl rfl rfl rfl
  have hend : s.Measured s.endHold := measured_of_same rfl rfl rfl rfl
  unfold State.holdSample
  split
  · exact hbegin.trans (occur_measured _ 0 true (by decide))
  · split
    · exact hend.trans (endCause_measured ..)
    · exact .refl s

theorem thresholds_measured (s : State) : s.Measured s.thresholds :=
  thresholds_eq s ▸ (warnSample_measured s).trans (holdSample_measured _)

theorem throttleSample_measured (s : State) : s.Measured s.throttleSample := by
  unfold State.throttleSample
  extract_lets
  split
  · exact measured_of_same (stepTo_sensors ..) (stepTo_tmax ..) rfl rfl
  · split <;> exact measured_of_same rfl rfl rfl rfl

theorem shutdown_measured (s : State) : s.Measured s.shutdown := by
  unfold State.shutdown
  split
  · exact .refl s
  · have hcount : s.Measured { s with thm := { s.thm with cond := .shutdown, nsd := sat 255 (s.thm.nsd + 1), rsSince := none } } :=
      measured_of_same rfl rfl rfl rfl
    exact hcount.trans (assertSafe_measured ..)

theorem shutdownSample_measured (s : State) : s.Measured s.shutdownSample := by
  unfold State.shutdownSample
  split
  · split
    · exact occur_measured s 0 true (by decide)
    · exact (shutdown_measured s).trans (occur_measured _ 0 true (by decide))
  · exact endCause_measured ..

theorem supplyHot_measured (s : State) : s.Measured s.supplyHot := measured_of_but (by simp [ChangesOnly])

theorem runFans_measured (s : State) : s.Measured s.runFans := by
  unfold State.runFans
  split
  · exact .refl s
  · exact measured_of_same rfl rfl rfl rfl

/-- What a sample does behind T_max. -/
def State.protect (s : State) : State :=
  s.deferCool.modelRecovery.thresholds.throttleSample.shutdownSample.supplyHot.runFans.fanSpeeds

theorem protect_measured (s : State) : s.Measured s.protect := by
  have hdefer : s.Measured s.deferCool := measured_of_but (by simp [ChangesOnly])
  have hspeeds (u : State) : u.Measured u.fanSpeeds := measured_of_same rfl rfl rfl rfl
  exact (((((((hdefer.trans (modelRecovery_measured _)).trans (thresholds_measured _)).trans (throttleSample_measured _)).trans
    (shutdownSample_measured _)).trans (supplyHot_measured _)).trans (runFans_measured _)).trans (hspeeds _))

/-! ### The sample -/

section
variable {s : State}

theorem thmSample_eq (hdom : s.domOn 10 = true) (raw : Vector Int 48) :
    exec (.thmSample raw) s = .next (forEach allSensors (State.sampleSensor raw) s).substituteAll.modelled.formMax.protect := if_pos hdom

/-- Behind T_max every sensor that counts lies under it, as long as no cell is moved by the Safe line. -/
theorem protect_tmax {t : State} (ht : t = s.formMax.protect) :
    (∀ k : Sensor, t.thm.sensors[k].st = .valid → t.thm.sensors[k].t ≤ t.thm.tmax) ∧
      (t.safeLine = [] → ∀ k : Sensor, t.countsMax k = true → t.thm.sensors[k].t ≤ t.thm.tmax) := by
  have hm : s.formMax.Measured t := ht ▸ protect_measured _
  have hsensors : t.thm.sensors = s.thm.sensors := hm.sensors.trans (formMax_sensors s)
  have hmax (k : Sensor) (hk : s.countsMax k = true) : t.thm.sensors[k].t ≤ t.thm.tmax := by
    rw [hsensors, hm.tmax]
    exact formMax_tmax hk
  refine ⟨fun k hk => hmax k (countsMax_of_valid (hsensors ▸ hk)), fun hsafe k hk => hmax k ?_⟩
  obtain ⟨-, hcells⟩ := hm.cells hsafe
  rwa [countsMax_congr k hsensors (hcells.trans (formMax_cells s))] at hk

/-- A sample reports the readings that pass, and T_max lies over what the sensors report. -/
theorem thmSample_reports (hdom : s.domOn 10 = true) (raw : Vector Int 48) : ∃ t, exec (.thmSample raw) s = .next t ∧
    (∀ k : Sensor, s.Passes k raw[k] →
      t.thm.sensors[k].st = .valid ∧ t.thm.sensors[k].t = raw[k] ∧ t.thm.sensors[k].raw = raw[k]) ∧
    (∀ k : Sensor, t.thm.sensors[k].st = .valid → t.thm.sensors[k].t ≤ t.thm.tmax) ∧
    (t.safeLine = [] → ∀ k : Sensor, t.countsMax k = true → t.thm.sensors[k].t ≤ t.thm.tmax) := by
  refine ⟨_, thmSample_eq hdom raw, fun k hk => ?_, protect_tmax rfl⟩
  have hsample := sampleAll_reports raw hk
  have hmodel := modelled_reading (forEach allSensors (State.sampleSensor raw) s).substituteAll k
  rw [substituteAll_up (bad_of_valid hsample.st)] at hmodel
  obtain ⟨hst, ht, hraw⟩ := hmodel.reports hsample
  rw [(protect_measured _).sensors, formMax_sensors]
  exact ⟨hst, ht, hraw⟩

/-! ### The retry, and a self-test repeated (R301, R302) -/

variable {k : Sensor} {raw : Int}

theorem sensorInRange_iff : sensorInRange raw = true ↔ -880 ≤ raw ∧ raw ≤ 3200 := by simp [sensorInRange]

theorem not_sensorInRange (h : raw < -880 ∨ 3200 < raw) : sensorInRange raw = false := by
  refine Bool.eq_false_iff.mpr fun hr => ?_
  have := sensorInRange_iff.mp hr
  omega

/-- A repeat that fails: the sensor is down, and the failure counted where it counts. -/
theorem retryFailed_down (s : State) (k : Sensor) (cause : Nat) (count : Bool) : (s.retryFailed k cause count).thm.sensors[k].Down cause
    (if count then sat 3 (s.thm.sensors[k].nfail + 1) else s.thm.sensors[k].nfail) := by
  unfold State.retryFailed
  rw [formMax_sensors]
  refine substituteAll_down ?_
  rw [markLive_thm, retryOutcome_thm]
  exact failSensor_down s k cause count

/-- A repeat in range, and within 10 degC of the reading that stands, passes. -/
theorem sensorRetry_passes (hdom : s.domOn 10 = true) (hst : s.thm.sensors[k].st = .retry) (hlo : -880 ≤ raw) (hhi : raw ≤ 3200)
    (hjump : s.thm.sensors[k].seen = false ∨ (raw - s.thm.sensors[k].t).natAbs ≤ 160) :
    ∃ t, exec (.sensorRetry k (some raw)) s = .next t ∧ t.thm.sensors[k].st = .valid ∧ t.thm.sensors[k].t = raw := by
  have hrange := sensorInRange_iff.mpr ⟨hlo, hhi⟩
  have he : exec (.sensorRetry k (some raw)) s =
      .next ((s.setSensor k { s.track k raw with st := .valid, t := raw }).retryOutcome bTHM 0 k.val true) := by
    show execSensorRetry k (some raw) s = _
    simp only [execSensorRetry, State.thermalRuns, hdom, hst]
    exact if_pos ⟨hrange, hjump⟩
  refine ⟨_, he, ?_⟩
  rw [retryOutcome_thm, setSensor_get]
  exact ⟨rfl, rfl⟩

theorem sensorRetry_fails (hdom : s.domOn 10 = true) (hst : s.thm.sensors[k].st = .retry) (hraw : raw < -880 ∨ 3200 < raw) :
    ∃ t, exec (.sensorRetry k (some raw)) s = .next t ∧ t.thm.sensors[k].bad = true ∧
      t.thm.sensors[k].nfail = min 3 (s.thm.sensors[k].nfail + 1) := by
  have hrange := not_sensorInRange hraw
  have he : exec (.sensorRetry k (some raw)) s = .next ((s.setSensor k (s.track k raw)).retryFailed k s.thm.sensors[k].trying true) := by
    show execSensorRetry k (some raw) s = _
    simp only [execSensorRetry, State.thermalRuns, hdom, hst, hrange, Bool.false_eq_true, false_and, if_false]
  have hdown := retryFailed_down (s.setSensor k (s.track k raw)) k s.thm.sensors[k].trying true
  rw [setSensor_get] at hdown
  exact ⟨_, he, hdown.bad, hdown.nfail⟩

section
variable {t₀ : Nat} (hdom : s.domOn 10 = true) (hst : s.thm.sensors[k].st = .off) (htest : s.thm.sensors[k].testAt = some t₀)
  (htime : t₀ + 10000 ≤ s.now)
include hdom hst htest htime

/-- A self-test repeated 10 ms after it failed. -/
theorem sensorRetry_selfTest (raw : Int) : exec (.sensorRetry k (some raw)) s = .next
    (if sensorInRange raw then (s.retryOutcome bTHM 0 k.val true).setSensor k
        { (s.retryOutcome bTHM 0 k.val true).track k raw with st := .valid, t := raw, testAt := none }
      else ((s.retryOutcome bTHM 0 k.val true).setSensor k
        { s.thm.sensors[k] with st := .retry, trying := 1, raw := raw, testAt := none }).occur bTHM 0 k.val) := by
  show execSensorRetry k (some raw) s = _
  simp only [execSensorRetry, State.thermalRuns, hdom, hst, htest, Option.any_some, decide_eq_true htime, if_true]

/-- It passes with a reading in range. -/
theorem sensorRetry_selfTest_passes (hlo : -880 ≤ raw) (hhi : raw ≤ 3200) :
    ∃ t, exec (.sensorRetry k (some raw)) s = .next t ∧ t.thm.sensors[k].st = .valid ∧ t.thm.sensors[k].t = raw := by
  refine ⟨_, sensorRetry_selfTest hdom hst htest htime raw, ?_⟩
  rw [if_pos (sensorInRange_iff.mpr ⟨hlo, hhi⟩), setSensor_get]
  exact ⟨rfl, rfl⟩

/-- It passes, and the reading out of range is itself to be repeated. -/
theorem sensorRetry_selfTest_retries (hraw : raw < -880 ∨ 3200 < raw) :
    ∃ u : State, exec (.sensorRetry k (some raw)) s = .next (u.occur bTHM 0 k.val) ∧ u.thm.sensors[k].st = .retry := by
  have he := sensorRetry_selfTest hdom hst htest htime raw
  rw [not_sensorInRange hraw] at he
  refine ⟨_, he, ?_⟩
  rw [setSensor_get]

/-- It fails with no reading, by criterion 5, and counts for none. -/
theorem sensorRetry_selfTest_fails : ∃ t, exec (.sensorRetry k none) s = .next t ∧
    t.thm.sensors[k].bad = true ∧ t.thm.sensors[k].cause = 5 ∧
    t.thm.sensors[k].nfail = s.thm.sensors[k].nfail := by
  have he : exec (.sensorRetry k none) s = .next (s.retryFailed k 5 false) := by
    show execSensorRetry k none s = _
    simp only [execSensorRetry, State.thermalRuns, hdom, hst, htest, Option.any_some, decide_eq_true htime, if_true]
  have hdown := retryFailed_down s k 5 false
  exact ⟨_, he, hdown.bad, hdown.cause, hdown.nfail⟩

end

/-! ### The return (R302, R305) -/

/-- The end of a cause leaves none of it among the live ones, and brings no other back. -/
theorem not_mem_endCause (s : State) (b : Blk) (src : Src) (obj : Nat) :
    (⟨src, obj⟩ : Cause) ∉ (s.endCause b src obj).flt[b].live := by
  simp [State.endCause]

theorem endCause_not_mem {c : Cause} {b : Blk} (h : c ∉ s.flt[b].live) (src : Src) (obj : Nat) :
    c ∉ (s.endCause b src obj).flt[b].live := by
  simp only [State.endCause, setFlt_flt, Fin.getElem_fin, vset_same]
  exact fun hc => h (List.mem_filter.mp hc).1

/-- A sensor that has passed for 60 s and failed no self-test is Valid, and its cause of source 0 has ended. -/
theorem sensorReturn_returns {t₀ : Nat} (hdom : s.domOn 10 = true) (hbad : s.thm.sensors[k].bad = true)
    (hfew : s.thm.sensors[k].nfail < 3) (hpass : s.thm.sensors[k].passSince = some t₀) (htime : t₀ + 60000000 ≤ s.now) (hlo : -880 ≤ raw) (hhi : raw ≤ 3200)
    (hnode : (raw - s.thm.sensors[k].node).natAbs ≤ 80) (hself : s.thm.sensors[k].selfBad = false) :
    ∃ t, exec (.sensorReturn k raw) s = .next t ∧ t.thm.sensors[k].st = .valid ∧ t.thm.sensors[k].t = raw ∧
      (⟨0, k.val⟩ : Cause) ∉ t.flt[bTHM].live := by
  refine ⟨_, if_pos ⟨hdom, hbad, hfew, any_elapsed hpass htime, hself, sensorInRange_iff.mpr ⟨hlo, hhi⟩, hnode⟩, ?_⟩
  refine foldl_keeps (fun t : State => t.thm.sensors[k].st = .valid ∧ t.thm.sensors[k].t = raw ∧
    (⟨0, k.val⟩ : Cause) ∉ t.flt[bTHM].live) _ (fun t j ht => ?_) _ ?_
  · split
    · exact ht
    · obtain ⟨hst, hread, hlive⟩ := ht
      exact ⟨hst, hread, endCause_not_mem hlive 1 j⟩
  · refine ⟨?_, ?_, not_mem_endCause _ bTHM 0 k.val⟩ <;> rw [endCause_thm, setSensor_get]

theorem sensorReturn_waits (hself : s.thm.sensors[k].selfBad = true) : exec (.sensorReturn k raw) s = .next s := by
  refine if_neg fun h => ?_
  obtain ⟨-, -, -, -, hnot, -⟩ := h
  rw [hself] at hnot
  nomatch hnot

/-! ### The hold after a failure, and a hot die (R304, R306) -/

theorem throttleHoldEnd_ends {t₀ : Nat} (hhold : s.thm.hold = some t₀) (htime : t₀ ≤ s.now) :
    ∃ t, exec .throttleHoldEnd s = .next t ∧ t.thm.hold = none ∧ t.thm.step = s.thm.step := by
  have hany : s.thm.hold.any (fun t => decide (t ≤ s.now)) = true := any_elapsed (n := 0) hhold htime
  exact ⟨_, if_pos hany, rfl, rfl⟩

theorem dieOverTemperature_occurs {c : Cell} {ms : Nat} (hdom : s.domOn 10 = true) (hhot : 2400 < s.thm.die[c].1) (htime : 100 ≤ ms) :
    exec (.dieOverTemperature c ms) s = .next (s.occur bTHM 7 c.val) := if_pos ⟨hdom, hhot, htime⟩

/-! ### Fans (R300) -/

@[simp] theorem takeFloor_fans (s : State) : s.takeFloor.thm.fans = s.thm.fans := rfl

/-- A fan too slow for 5 s stops, to be retried where source 4 is retryable and not masked. -/
theorem fanFailed_stops {f : Fan} {pct ms : Nat} (hdom : s.domOn 10 = true) (hst : s.thm.fans[f].st = 1) (hslow : pct < 50)
    (htime : 5000 ≤ ms) : ∃ t, exec (.fanFailed f pct ms) s = .next t ∧ t.thm.fans[f].cmd = 0 ∧
      t.thm.fans[f].st = if s.flt[bTHM].frty.getLsbD 4 = true ∧ s.masked bTHM 4 = false then 2 else 3 := by
  refine ⟨_, if_pos ⟨hdom, hst, hslow, htime⟩, ?_⟩
  rw [takeFloor_fans, occur_thm, setFan_get]
  exact ⟨rfl, by simp⟩

/-- A failed fan has every other at full speed. -/
theorem fanCmd_full {f : Fan} (h : s.thm.fans[f].st = 3) : s.fanCmd = 100 := by
  have hany : s.thm.fans.toList.any (fun f => f.st == 3) = true :=
    List.any_eq_true.mpr ⟨s.thm.fans[f], by simp, beq_iff_eq.mpr h⟩
  unfold State.fanCmd
  exact if_pos (.inr (.inr (.inr hany)))

/-- What the command of a moment makes of a fan: one at rest starts, one that runs takes it, and the others stand. -/
def FanRec.driven (x : FanRec) (cmd now : Nat) : FanRec := match x.st with
  | 0 => { x with st := 1, cmd := cmd, since := now }
  | 1 => { x with cmd := cmd }
  | _ => { x with cmd := 0 }

theorem runFans_get (hvar : s.fuse.variantL = false) (j : Fan) : s.runFans.thm.fans[j] = s.thm.fans[j].driven s.fanCmd s.now := by
  unfold State.runFans
  simp only [hvar, Bool.false_eq_true, if_false, Fin.getElem_fin, Vector.getElem_map]
  rfl

theorem driven_st_failed {x : FanRec} (h : x.st = 3) (cmd now : Nat) : (x.driven cmd now).st = 3 := by
  unfold FanRec.driven
  rw [h]
  rfl

theorem driven_cmd {x : FanRec} {cmd now : Nat} (h : (x.driven cmd now).st = 1) : (x.driven cmd now).cmd = cmd := by
  unfold FanRec.driven at h ⊢
  split
  · rfl
  · rfl
  next h1 => split at h <;> simp_all

theorem runFans_failed {f : Fan} (h : s.thm.fans[f].st = 3) : s.runFans.thm.fans[f].st = 3 := by
  cases hvar : s.fuse.variantL with
  | true => rwa [State.runFans, if_pos hvar]
  | false => rw [runFans_get hvar, driven_st_failed h]

/-- A retried fan runs again where it reaches speed. -/
theorem fanRetry_runs {f : Fan} (rpm : Nat) (hdom : s.domOn 10 = true) (hst : s.thm.fans[f].st = 2)
    (htime : s.thm.fans[f].since + 1000000 ≤ s.now) : ∃ t, exec (.fanRetry f true rpm) s = .next t ∧ t.thm.fans[f].st = 1 := by
  refine ⟨_, if_pos ⟨hdom, hst, htime⟩, ?_⟩
  rw [retryOutcome_thm, setFan_get]

/-- A retried fan that does not reach speed is Failed, and the fans that run are at full speed. -/
theorem fanRetry_fails {f : Fan} (rpm : Nat) (hdom : s.domOn 10 = true) (hst : s.thm.fans[f].st = 2)
    (htime : s.thm.fans[f].since + 1000000 ≤ s.now) : ∃ t, exec (.fanRetry f false rpm) s = .next t ∧ t.thm.fans[f].st = 3 ∧
      (s.fuse.variantL = false → ∀ j : Fan, t.thm.fans[j].st = 1 → t.thm.fans[j].cmd = 100) := by
  obtain ⟨u, hu⟩ : ∃ u, u = ((s.setFan f { s.thm.fans[f] with
    st := 3, cmd := 0, rpm := sat 65535 rpm, since := s.now }).retryOutcome bTHM 4 0 false).takeFloor := ⟨_, rfl⟩
  have hfailed : u.thm.fans[f].st = 3 := by rw [hu, takeFloor_fans, retryOutcome_thm, setFan_get]
  have hfuse : u.fuse = s.fuse := but_fuse (fs := .thm :: reactions) (by simp [hu, reactions]) (by decide)
  refine ⟨u.runFans, hu ▸ if_pos ⟨hdom, hst, htime⟩, runFans_failed hfailed, fun hvar j hj => ?_⟩
  rw [runFans_get (hfuse ▸ hvar)] at hj ⊢
  rw [driven_cmd hj, fanCmd_full hfailed]

/-! ### History, and the model's convergence and failure (R291, R292) -/

theorem thmHistorySave_saves (hdom : s.domOn 10 = true) : ∃ t, exec .thmHistorySave s = .next t ∧
    (∃ q ∈ t.xslots, q.x = 3 ∧ q.item = .saveThm ∧ q.data = .thm s.thmSaveOf) ∧ t.thm = s.thm :=
  ⟨_, if_pos hdom, ⟨⟨3, .saveThm, 1, .thm s.thmSaveOf⟩, mem_putValue s _, rfl, rfl, rfl⟩, putValue_thm ..⟩

theorem modelConverged_converges {t₀ : Nat} (hdom : s.domOn 10 = true)
    (htime : s.thm.okAt = some t₀ ∧ t₀ + 60000000 ≤ s.now ∨ s.thm.runAt = some t₀ ∧ t₀ + 600000000 ≤ s.now) :
    ∃ t, exec .modelConverged s = .next t ∧ t.thm.mconv = true := by
  have hany := htime.imp (fun h => any_elapsed h.1 h.2) fun h => any_elapsed h.1 h.2
  exact ⟨_, if_pos ⟨hdom, hany⟩, rfl⟩

/-- Four Valid sensors beyond the bound for 60 s: source 5, and the predictions are the reported values. -/
theorem modelInvalid_invalidates {l : List Sensor} {sec : Nat} (hdom : s.domOn 10 = true) (hnodup : l.Nodup)
    (hvalid : ∀ k ∈ l, s.thm.sensors[k].st = .valid) (hfour : 4 ≤ l.length) (htime : 60 ≤ sec) :
    ∃ u : State, exec (.modelInvalid l sec) s = .next (u.occur bTHM 5 0 true) ∧ u.thm.invalid = true ∧
      ∀ k : Sensor, u.thm.sensors[k].pred = s.thm.sensors[k].t := by
  have hall : (l.dedup.filter fun k => s.thm.sensors[k].st == .valid) = l := by
    rw [hnodup.dedup]
    exact List.filter_eq_self.mpr fun k hk => beq_iff_eq.mpr (hvalid k hk)
  refine ⟨_, if_pos ⟨hdom, by rwa [hall], htime⟩, formMax_invalid _, fun k => ?_⟩
  rw [formMax_sensors]
  simp

end

/-- Settles O41: the sample, the repeats, the return, the fans and the model, each by its own lemma above. -/
theorem sensors : Obligations.Sensors := fun _ hdom =>
  ⟨thmSample_reports hdom,
    fun _ _ hst => ⟨sensorRetry_passes hdom hst, sensorRetry_fails hdom hst⟩,
    fun _ _ _ hst htest htime => ⟨sensorRetry_selfTest_passes hdom hst htest htime, sensorRetry_selfTest_retries hdom hst htest htime,
      sensorRetry_selfTest_fails hdom hst htest htime⟩,
    fun _ _ _ hbad hfew hpass htime hlo hhi hnode =>
      ⟨sensorReturn_returns hdom hbad hfew hpass htime hlo hhi hnode, sensorReturn_waits⟩,
    fun _ => throttleHoldEnd_ends,
    fun _ _ => dieOverTemperature_occurs hdom,
    fun _ _ _ => fanFailed_stops hdom,
    fun f ok rpm hst htime => by
      cases ok with
      | true =>
        obtain ⟨t, ht, hrun⟩ := fanRetry_runs rpm hdom hst htime
        exact ⟨t, ht, hrun, nofun⟩
      | false =>
        obtain ⟨t, ht, hfail, hfull⟩ := fanRetry_fails rpm hdom hst htime
        exact ⟨t, ht, hfail, fun _ => hfull⟩,
    thmHistorySave_saves hdom,
    fun _ => modelConverged_converges hdom,
    fun _ _ => modelInvalid_invalidates hdom⟩

end Sys2Proof.Machine
end

section
/-!
PROOFS. The allocation of a round (spec/10_thresher.md, R324-R330): no pass grants a flow more than its ceiling, and a flow that is not
latched, or is deferred, is in no pass. First, what each step of a pass does: it writes the grant of the flow it is at and no other.
Then the lists that the passes go through: they hold only flows that are latched and not deferred.
-/

namespace Sys2Proof.Machine

/-! ### What bounds a grant (R317, R324, R330) -/

/-- Whether a round may grant a flow anything: it is latched, and it is not deferred (R324, R330). -/
def State.Served (s : State) (c : Ctx) : Prop := c ∈ s.latched ∧ s.deferred? s.ctx[c] = false

/-- Grants that keep to the ceilings, with nothing to a flow that is not served. -/
def State.Within (s : State) (die : Vector (Option Nat) 7) (grants : Vector Grant 160) : Prop :=
  ∀ c : Ctx, grants[c].cur ≤ s.ceiling s.ctx[c] die ∧ (¬ s.Served c → grants[c].cur = 0)

/-- Only a Charge flow is ever deferred (R330). -/
theorem deferred_of_kind (s : State) {f : FlowCtx} (h : f.d.kind ≠ 2) : s.deferred? f = false := by
  simp [State.deferred?, h]

/-- The flow of a class 3 port, as Thresher admits it, is a Source flow. -/
theorem kind_of_class3 {s : State} {d : FlowDef} (h : s.class3 d = true) : d.kind = 1 := by
  simp only [State.class3, Bool.and_eq_true, beq_iff_eq] at h
  exact h.1

section
variable {s : State} {die : Vector (Option Nat) 7} {c : Ctx}

theorem served_of_kind {k : Nat} (hlatched : c ∈ s.latched) (hkind : s.ctx[c].d.kind = k) (hk : k ≠ 2) : s.Served c :=
  ⟨hlatched, deferred_of_kind s (hkind ▸ hk)⟩

theorem within_of_zero {grants : Vector Grant 160} (h : ∀ c : Ctx, grants[c].cur = 0) : s.Within die grants := fun c =>
  ⟨(h c).trans_le (Nat.zero_le _), fun _ => h c⟩

/-- A grant to a served flow, up to its ceiling, leaves all grants within theirs. -/
theorem within_vset {grants : Vector Grant 160} {g : Grant} (hw : s.Within die grants) (hc : s.Served c)
    (hg : g.cur ≤ s.ceiling s.ctx[c] die) : s.Within die (vset grants c g) := fun k => by
  by_cases hk : c = k
  · subst hk
    exact ⟨(congrArg Grant.cur (vset_same grants c g)).trans_le hg, fun hn => absurd hc hn⟩
  · have hget : (vset grants c g)[k] = grants[k] := vset_other grants c k g hk
    rw [hget]
    exact hw k

/-! ### The heat remainder only lowers a grant (R328) -/

theorem fitHeat_le (cost : Nat → Nat) (left n : Nat) : fitHeat cost left n ≤ n := by
  induction n with
  | zero => exact Nat.le_refl 0
  | succ n ih =>
    unfold fitHeat
    split
    · exact Nat.le_refl _
    · exact Nat.le_succ_of_le ih

theorem heatGrant_le (s : State) (a : Alloc) (d : FlowDef) (cur most : Nat) : (s.heatGrant a d cur most).1 ≤ cur := by
  unfold State.heatGrant
  extract_lets n cost
  split
  · split
    · exact Nat.le_refl _
    · exact Nat.zero_le _
  · split
    · exact Nat.le_refl _
    · exact (fitHeat_le _ _ n).trans (Nat.min_le_left ..)

/-! ### One flow of each pass (R324, R326, R327) -/

theorem passIn_within (pcap : Nat) {a : Alloc} (hw : s.Within die a.grants) (hc : s.Served c) :
    s.Within die (s.passIn die pcap a c).grants :=
  within_vset hw hc ((heatGrant_le ..).trans (Nat.min_le_left ..))

theorem passCover_within (pcap : Nat) (load : Int) {a : Alloc} (hw : s.Within die a.grants) (hc : s.Served c) :
    s.Within die (s.passCover die pcap load a c).grants :=
  within_vset hw hc ((heatGrant_le ..).trans (Nat.min_le_left ..))

/-- The lending left and the Feeder flow's headroom only lower what a Lend flow is granted (R374). -/
theorem passOut_within (room : Alloc → Nat) (surplus : Bool) {a : Alloc} (hw : s.Within die a.grants) (hc : s.Served c) :
    s.Within die (s.passOut die room surplus a c).grants := by
  unfold State.passOut
  extract_lets f d mv src ceil i lent
  have hi : i ≤ ceil := (Nat.min_le_left ..).trans (Nat.min_le_left ..)
  have hlent : lent ≤ ceil := by
    unfold lent
    split
    · exact (Nat.min_le_left ..).trans hi
    · exact hi
  split
  rename_i g heat hot hgrant
  have hg : g ≤ ceil := (congrArg Prod.fst hgrant ▸ heatGrant_le s a d lent lent).trans hlent
  extract_lets st given w b
  have hb : s.Within die b.grants := within_vset hw hc hg
  split <;> exact hb

theorem passFinal_within {q : Alloc × Nat} (hw : s.Within die q.1.grants) (hc : s.Served c) :
    s.Within die (s.passFinal die q c).1.grants :=
  within_vset hw hc (Nat.min_le_left ..)

/-! ### A pass over its list -/

theorem served_bySource {l : List Ctx} (h : ∀ c ∈ l, s.Served c) : ∀ c ∈ s.bySource l, s.Served c := fun c hc => h c (mem_sortBy hc)
theorem served_byPrio {l : List Ctx} (h : ∀ c ∈ l, s.Served c) : ∀ c ∈ s.byPrio l, s.Served c := fun c hc => h c (mem_sortBy hc)

/-- A pass over served flows keeps the grants within where its step does. -/
theorem foldl_within {σ : Type} (grants : σ → Vector Grant 160) {pass : σ → Ctx → σ} {l : List Ctx} {a : σ}
    (hpass : ∀ {a c}, s.Within die (grants a) → s.Served c → s.Within die (grants (pass a c))) (hl : ∀ c ∈ l, s.Served c)
    (hw : s.Within die (grants a)) : s.Within die (grants (l.foldl pass a)) :=
  List.foldlRecOn (motive := fun a => s.Within die (grants a)) l pass hw fun _ ha c hc => hpass ha (hl c hc)

end

/-- The allocation begins with no grants, and each of its passes keeps them within. -/
theorem allocate_within (s : State) (die : Vector (Option Nat) 7) (pcap : Nat) (load : Int) (pthr : Nat) :
    s.Within die (s.allocate die pcap load pthr).1.grants := by
  unfold State.allocate
  extract_lets l kind low gens dis outs late waits plain budget a₀ a₁ a₂ a₃ room a₄ u a₅ a₆ imax rho covered
  have hlow : ∀ c ∈ low, s.Served c := fun c hc => by
    obtain ⟨hlatched, hkind⟩ := List.mem_filter.mp hc
    rcases Bool.or_eq_true_iff.mp hkind with h | h
    · exact served_of_kind hlatched (eq_of_beq (Bool.and_eq_true_iff.mp h).1) (by decide)
    · exact served_of_kind hlatched (eq_of_beq h) (by decide)
  have hgens : ∀ c ∈ gens, s.Served c := fun c hc => by
    unfold gens at hc
    split at hc
    · obtain ⟨hlatched, hclass⟩ := List.mem_filter.mp hc
      exact served_of_kind hlatched (kind_of_class3 hclass) (by decide)
    · cases hc
  have hdis : ∀ c ∈ dis, s.Served c := served_byPrio fun c hc => by
    obtain ⟨hlatched, hkind⟩ := List.mem_filter.mp hc
    exact served_of_kind hlatched (eq_of_beq hkind) (by decide)
  have houts (p : Ctx → Bool) : ∀ c ∈ s.byPrio (outs.filter p), s.Served c := served_byPrio fun c hc => by
    obtain ⟨hlatched, hkind⟩ := List.mem_filter.mp (List.mem_of_mem_filter hc)
    exact ⟨hlatched, (Bool.not_eq_true' _).mp (Bool.and_eq_true_iff.mp hkind).2⟩
  have h₀ : s.Within die a₀.grants := within_of_zero fun c => by simp [a₀]
  have h₁ : s.Within die a₁.grants := foldl_within Alloc.grants (passIn_within pcap) (served_bySource hlow) h₀
  have h₂ : s.Within die a₂.grants := foldl_within Alloc.grants (passIn_within pcap) (served_bySource hgens) h₁
  have h₃ : s.Within die a₃.grants := foldl_within Alloc.grants (passCover_within pcap load) hdis h₂
  have h₄ : s.Within die a₄.grants := foldl_within Alloc.grants (passOut_within _ _) (houts _) h₃
  have h₅ : s.Within die a₅.grants := foldl_within Alloc.grants (passOut_within _ _) (houts _) h₄
  have h₆ : s.Within die a₆.grants := foldl_within Alloc.grants (passOut_within _ _) (houts _) h₅
  exact foldl_within (fun q : Alloc × Nat => q.1.grants) passFinal_within hdis h₆

/-- Settles O22: the passes keep the grants within, and a flow that is not latched, or is deferred, is not served. -/
theorem grantsWithinCeilings : Obligations.GrantsWithinCeilings := fun s die pcap load pthr c => by
  obtain ⟨hceiling, hnone⟩ := allocate_within s die pcap load pthr c
  refine ⟨hceiling, fun h => hnone fun ⟨hlatched, hdeferred⟩ => ?_⟩
  rcases h with h | h
  · exact Bool.eq_false_iff.mp h (List.contains_iff_mem.mpr hlatched)
  · exact Bool.eq_false_iff.mp hdeferred h

end Sys2Proof.Machine
end

section
/-!
PROOFS. The sampling pipeline (spec/11_pipeline_timing.md, R344, R355): a wave that has no reading of the culm's channel leaves the culm
voltage as it stood (assumption 104). First, what a wave does beside its measurement keeps that voltage; then how many entries a wave's
conversions take off the list of the channels that await their repeat. A state whose list names the culm's channel twice so refutes the
statement of the waves.
-/

namespace Sys2Proof.Machine

/-! ### What survives the lines of a reaction -/

theorem vmeas_lineSteady (v : Nat) : State.LineSteady (fun s => s.culm.vmeas = v) where
  but hb h := by rwa [but_culm hb (by decide)]
  halt {s} p d h := by
    rwa [but_culm (s := s) (fs := [.halt, .fab, .groups, .cells, .branches, .src, .ctx, .bat, .fdr, .chg]) (by simp) (by decide)]
  safe d h := (assertSafe_figures _ d).1.trans h

theorem again_lineSteady (l : List Nat) : State.LineSteady (fun s => s.sense.again = l) where
  but hb h := by rwa [but_sense hb (by decide)]
  halt {s} p d h := by
    rwa [but_sense (s := s) (fs := [.halt, .fab, .groups, .cells, .branches, .src, .ctx, .bat, .fdr, .chg]) (by simp) (by decide)]
  safe {s} d h := by
    rwa [but_sense (s := s) (fs := [.deferred, .safeLine, .dom, .img, .fab, .groups, .cells, .culm, .branches, .src, .ctx, .bat, .fdr,
      .chg, .thr, .awn]) (by simp) (by decide)]

section
variable {P : State → Prop} (hP : State.LineSteady P) {s : State}
include hP

theorem correctFull_lineSteady (p : BPort) (chem : Nat) (h : P s) : P (s.correctFull p chem) := by
  have hest {t : State} (x : EstRec) (ht : P t) : P (t.setEst p x) := hP.but (by simp [ChangesOnly, Fld.besideLines]) ht
  have ht : P (s.setSoc p 1000 (if isNickel chem then 30 else 20) 3) := hest _ h
  unfold State.correctFull
  dsimp only
  split
  · exact occur_lineSteady hP _ _ _ _ (hest _ ht)
  · exact hest _ ht

theorem correctDue_lineSteady (p : BPort) (h : P s) : P (s.correctDue p) := by
  unfold State.correctDue
  extract_lets _ t
  have ht : P t := hP.but (by simp [ChangesOnly, Fld.besideLines, t]) h
  split
  · split
    · exact ht
    · split
      · exact correctFull_lineSteady hP p _ ht
      · split
        · exact hP.but (by simp [ChangesOnly, Fld.besideLines]) ht
        · exact ht
  · exact ht

theorem followEst_lineSteady (p : BPort) (h : P s) : P (s.followEst p) := by
  have hend {t : State} (ht : P t) : P (t.endKnee p) := hP.but (by simp [ChangesOnly, Fld.besideLines]) ht
  have hknee {t : State} (ht : P t) : P (t.kneeUnavailable p) := by
    unfold State.kneeUnavailable
    split
    · exact occur_lineSteady hP _ _ _ _ (kneeAnswer_lineSteady hP p _ ht)
    · exact ht
  unfold State.followEst
  extract_lets t u v
  have ht : P t := by
    unfold t
    split
    · exact h
    · exact estRemoved_lineSteady hP p h
  have hu : P u := by
    unfold u
    split
    · exact ht
    · exact hknee ht
  have hv : P v := by
    unfold v
    split
    · exact hu
    · exact hend hu
  refine correctDue_lineSteady hP p ?_
  split
  · exact hv
  · exact hP.but (by simp [ChangesOnly, Fld.besideLines]) hv

theorem followEsts_lineSteady (h : P s) : P s.followEsts :=
  forEach_keeps P State.followEst (fun _ p ht => followEst_lineSteady hP p ht) allBat h

end

/-! ### Behind Estimate -/

/-- Whatever becomes of the culm's mode, the voltage stays as it was measured. -/
theorem followCulm_vmeas (s : State) : s.followCulm.culm.vmeas = s.culm.vmeas := by
  unfold State.followCulm
  extract_lets t _ u _
  have hu : u.culm.vmeas = s.culm.vmeas := by
    show t.culm.vmeas = s.culm.vmeas
    unfold t
    split <;> rfl
  split
  · exact hu
  all_goals (repeat' split) <;> exact hu

theorem judgeFlow_vmeas (s : State) (c : Ctx) : (s.judgeFlow c).culm.vmeas = s.culm.vmeas := by
  unfold State.judgeFlow
  extract_lets f i ramps bound above t
  split
  · split
    · exact occur_lineSteady (vmeas_lineSteady _) _ _ _ _ (s := t) rfl
    · rfl
  · rfl

/-- A group whose port is no battery's regulates without a change of the culm's record but by a reaction. -/
theorem regulate_vmeas {g : Group} (hg : g.port.bat? = none) (s : State) (pAvail : Nat) :
    (s.regulate g pAvail).culm.vmeas = s.culm.vmeas := by
  unfold State.regulate State.portTargets
  extract_lets ns ramped t share
  have ht : t.culm = s.culm := by
    unfold t
    rw [hg]
    dsimp only
    split <;> exact but_culm (fs := [.ctx, .src, .fdr]) (by simp [ramped]) (by decide)
  refine forEach_keeps (fun u => u.culm.vmeas = s.culm.vmeas) _ (fun u c hu => (judgeFlow_vmeas u c).trans hu) _ ?_
  rw [but_culm (s := t) (fs := [.freeN, .src, .ctx]) (by simp) (by decide), ht]

theorem rangeRule_vmeas (s : State) (g : Group) : (s.rangeRule g).culm.vmeas = s.culm.vmeas := by
  unfold State.rangeRule
  extract_lets x v c
  split
  split
  · split <;> rfl
  · split
    · exact occur_lineSteady (vmeas_lineSteady _) _ _ _ _ rfl
    · rfl

theorem drive_vmeas {g : Group} (hg : g.port.bat? = none) (s : State) : (s.drive g).culm.vmeas = s.culm.vmeas := by
  have hmod (t : State) : (t.modulate g).culm = t.culm := by
    unfold State.modulate
    rw [hg]
    rfl
  unfold State.drive
  extract_lets t u
  have ht : t.culm.vmeas = s.culm.vmeas := by
    unfold t
    rw [hmod, rangeRule_vmeas]
  rw [but_culm (s := t) (fs := [.freeN, .fab, .groups, .cells, .ctx, .chg, .sense]) (by simp [u]) (by decide), ht]

/-! ### Estimate -/

theorem judgeCulm_vmeas (s : State) : s.judgeCulm.culm.vmeas = s.culm.vmeas := by
  have hoccur {t : State} (b : Blk) (src : Src) (obj : Nat) (stays : Bool) (h : t.culm.vmeas = s.culm.vmeas) :
      (t.occur b src obj stays).culm.vmeas = s.culm.vmeas := occur_lineSteady (vmeas_lineSteady _) _ _ _ _ h
  unfold State.judgeCulm
  refine forEach_keeps (fun t => t.culm.vmeas = s.culm.vmeas) _ (fun t q ht => ?_) _ ?_
  · split
    · exact hoccur _ _ _ _ ht
    · exact ht
  · split
    · exact hoccur _ _ _ _ rfl
    · rfl

/-- A reading of the culm's channel that is missing leaves the voltage as it stood. -/
theorem measureCulm_vmeas {s : State} (h : s.chan 109 = none) (ns : Nat) : (s.measureCulm ns).culm.vmeas = s.culm.vmeas := by
  simp [State.measureCulm, h]

/-- A channel that awaits its repeat has no reading. -/
theorem chan_of_again {s : State} {n : Chan} (h : n.val ∈ s.sense.again) : s.chan n = none := by
  simp [State.chan, h]

/-- A conversion takes one entry of its own channel off those that await their repeat, at most. -/
theorem convert_again (s : State) (q : Nat × Int) :
    (State.convert [] s q).sense.again = s.sense.again ∨ (State.convert [] s q).sense.again = s.sense.again.erase q.1 := by
  unfold State.convert
  split
  · extract_lets n second v t
    split
    · exact .inl rfl
    · refine .inr ?_
      rw [if_neg (by simp)]
      split
      · exact retryOutcome_lineSteady (again_lineSteady _) _ _ _ _ rfl
      · rfl
  · exact .inl rfl

theorem convert_vmeas (s : State) (q : Nat × Int) : (State.convert [] s q).culm.vmeas = s.culm.vmeas := by
  unfold State.convert
  split
  · extract_lets n second v t
    split
    · rfl
    · rw [if_neg (by simp)]
      split
      · exact retryOutcome_lineSteady (vmeas_lineSteady _) _ _ _ _ rfl
      · rfl
  · rfl

/-- Conversions take no more entries of a channel off than they convert it. -/
theorem convert_count (n : Nat) (l : List (Nat × Int)) (s : State) :
    s.sense.again.count n ≤ (l.foldl (State.convert []) s).sense.again.count n + (l.map Prod.fst).count n := by
  induction l generalizing s with
  | nil => simp
  | cons q l ih =>
    have hq : s.sense.again.count n ≤ (State.convert [] s q).sense.again.count n + if q.1 == n then 1 else 0 := by
      rcases convert_again s q with h | h <;> rw [h]
      · omega
      · rw [List.count_erase]
        omega
    have hl := ih (State.convert [] s q)
    simp only [List.foldl_cons, List.map_cons, List.count_cons]
    omega

theorem portChannels_lt (g : Group) (w : Wave) : ∀ q ∈ portChannels g w, q.1 < 109 := by
  unfold portChannels
  split <;> simp <;> omega

/-- A wave converts the culm's channel once. -/
theorem waveChannels_count (s : State) (g : Group) (w : Wave) : ((s.waveChannels g w).map Prod.fst).count 109 = 1 := by
  have hport : ((portChannels g w).map Prod.fst).count 109 = 0 := by
    refine List.count_eq_zero.mpr fun h => ?_
    obtain ⟨q, hq, he⟩ := List.mem_map.mp h
    exact absurd he (portChannels_lt g w q hq).ne
  have hcells (l : List (Cell × Int × Nat)) : ((l.map fun q => (48 + q.1.val, q.2.1)).map Prod.fst).count 109 = 0 := by
    refine List.count_eq_zero.mpr fun h => ?_
    rw [List.map_map] at h
    obtain ⟨q, -, he⟩ := List.mem_map.mp h
    change 48 + q.1.val = 109 at he
    omega
  have hcommon : ((commonChannels w).map Prod.fst).count 109 = 1 := rfl
  unfold State.waveChannels
  rw [List.map_append, List.map_append, List.count_append, List.count_append, hport, hcells, hcommon]

theorem figures_keeps (s : State) (g : Group) (w : Wave) :
    (s.figures g w).culm.vmeas = s.culm.vmeas ∧ (s.figures g w).sense.again = s.sense.again := by
  unfold State.figures
  extract_lets stalled _ t u
  split
  · exact ⟨occur_lineSteady (vmeas_lineSteady _) _ _ _ _ (s := u) rfl, occur_lineSteady (again_lineSteady _) _ _ _ _ (s := u) rfl⟩
  · exact ⟨rfl, rfl⟩

/-- Estimate leaves the culm voltage as it stood where the culm's channel still awaits a repeat behind its conversion. -/
theorem estimate_vmeas {w : Wave} (hw : w.failed = []) (s : State) (h : 2 ≤ s.sense.again.count 109) (g : Group) :
    (s.estimate g w).culm.vmeas = s.culm.vmeas := by
  unfold State.estimate
  rw [hw]
  extract_lets ns t u v
  obtain ⟨hvmeas, hagain⟩ := figures_keeps s g w
  have htv : t.culm.vmeas = s.culm.vmeas :=
    foldl_keeps (fun t => t.culm.vmeas = s.culm.vmeas) _ (fun t q ht => (convert_vmeas t q).trans ht) _ hvmeas
  have hchan : t.chan 109 = none := by
    refine chan_of_again (List.count_pos_iff.mp ?_)
    have hc : (s.figures g w).sense.again.count 109 ≤ t.sense.again.count 109 + ((s.waveChannels g w).map Prod.fst).count 109 :=
      convert_count 109 _ _
    rw [waveChannels_count, hagain] at hc
    show 0 < t.sense.again.count 109
    omega
  have hload : ((t.measureCulm ns).countLoad ns).culm = (t.measureCulm ns).culm :=
    but_culm (fs := [.thr, .energy]) (by simp) (by decide)
  have hu : u.culm.vmeas = s.culm.vmeas := by
    rw [judgeCulm_vmeas, hload, measureCulm_vmeas hchan, htv]
  rw [but_culm (s := u) (fs := [.groups, .ctx, .chg, .est, .thr, .energy, .cells, .src, .bat, .fdr]) (by simp [v]) (by decide), hu]

/-! ### The wave -/

/-- The bridge of an activation may take the culm over, but measures nothing. -/
theorem bridge_keeps (s : State) : s.bridge.culm.vmeas = s.culm.vmeas ∧ s.bridge.sense = s.sense := by
  unfold State.bridge
  split
  · split
    · extract_lets up
      cases up <;> exact ⟨rfl, rfl⟩
    · exact ⟨rfl, rfl⟩
  · exact ⟨rfl, rfl⟩

/-- What a wave does before Estimate, where nothing waits for the iteration. -/
theorem wave_begins {s : State} (h : s.deferred = []) (g : Group) :
    (s.iterateFor g).freeLeaving.bridge.followEsts.culm.vmeas = s.culm.vmeas ∧
      (s.iterateFor g).freeLeaving.bridge.followEsts.sense.again = s.sense.again := by
  have hiterate : (s.iterateFor g).culm = s.culm ∧ (s.iterateFor g).sense = s.sense := by
    simp [State.iterateFor, State.iterateOn, State.iterationEnds, h]
  have hfree : ChangesOnly [.xslots, .groups, .ctx, .chg] (s.iterateFor g) (s.iterateFor g).freeLeaving := by simp [ChangesOnly]
  obtain ⟨hculm, hsense⟩ := hiterate
  obtain ⟨hvmeas, hagain⟩ := bridge_keeps (s.iterateFor g).freeLeaving
  constructor
  · exact followEsts_lineSteady (vmeas_lineSteady _) (by rw [hvmeas, but_culm hfree (by decide), hculm])
  · exact followEsts_lineSteady (again_lineSteady _) (by rw [hagain, but_sense hfree (by decide), hsense])

/-- A wave leaves the culm voltage as it stood where the culm's channel stands twice among those that await their repeat. -/
theorem wave_vmeas {s : State} {g : Group} {w : Wave} (hdef : s.deferred = []) (hg : g.port.bat? = none) (hw : w.failed = [])
    (h : 2 ≤ s.sense.again.count 109) : (s.wave g w).culm.vmeas = s.culm.vmeas := by
  obtain ⟨hvmeas, hagain⟩ := wave_begins hdef g
  unfold State.wave
  extract_lets t u v
  have ht : t.culm.vmeas = s.culm.vmeas := by
    unfold t
    exact hvmeas
  have hlist : t.sense.again = s.sense.again := by
    unfold t
    exact hagain
  have hu : u.culm.vmeas = s.culm.vmeas := by
    unfold u
    rw [but_culm (s := t.estimate g w) (fs := [.cells]) (by simp) (by decide), estimate_vmeas hw t (by rwa [hlist]), ht]
  have hv : v.culm.vmeas = s.culm.vmeas := by
    unfold v
    rw [but_culm (s := u.followCulm) (fs := [.branches]) (by simp) (by decide), followCulm_vmeas, hu]
  rw [but_culm (s := (v.regulate g w.pAvail).drive g) (fs := [.flt, .dom, .groups, .ctx, .chg]) (by simp) (by decide), drive_vmeas hg,
    regulate_vmeas hg, hv]

/-- A wave in its turn runs, unless a priority wave of its group was sampled later or one waits. -/
theorem pipelineWave_runs {s : State} {g : Group} {w : Wave} (hturn : s.turnOf = some g)
    (hfresh : ∀ a, s.sense.prioAt[g] = some a → a ≤ s.sampledAt w) (hwaits : s.prioWaits = false) :
    exec (.pipelineWave g w) s = .next ((s.passTurn g).wave g w) := by
  have hlate : ¬ s.sense.prioAt[g].any (fun a => decide (s.sampledAt w < a)) = true := fun hany => by
    obtain ⟨a, ha, hlt⟩ := (Option.any_eq_true _ _).mp hany
    exact absurd (hfresh a ha) (Nat.not_le.mpr (of_decide_eq_true hlt))
  show execPipelineWave g w s = _
  unfold execPipelineWave
  rw [if_pos hturn]
  dsimp only
  rw [if_neg hlate, hwaits, if_neg Bool.false_ne_true]

/-! ### The statement -/

/-- A module whose G0 takes waves, with the culm's channel twice among those that await their repeat. -/
def awaitsTwice : State :=
  { State.reset with
    dom := { State.reset.dom with on := 0xFFF }
    groups := vset State.reset.groups 0 { GroupRec.reset with cfg := { GroupRec.reset.cfg with topo := .ibk } }
    sense := { State.reset.sense with again := [109, 109] } }

/-- A wave that measures 48 V on the culm, without a failed conversion. -/
def culmAt48V : Wave :=
  { tIter := 600, tLat := 300, vTerm := 0, vStage := 0, iPort := 0, vCulm := 48000, cells := [], branchI := Vector.replicate 8 0,
    branchV := Vector.replicate 8 0, ret := Vector.replicate 2 0, pAvail := 0, freq := 0, pf := 0, thd := 0, ntcOhm := 10000, ntcT := 0,
    failed := [] }

/-- Refutes O23, by the culm voltage of its first clause. With channel 109 twice among the channels that await their repeat, the good
conversion of a wave takes one entry off, so the channel still has no reading and the culm voltage stays 0 mV where the wave measures
48 V. The model enters a channel only while it is not yet listed, so no run comes to this state; but the statement is of every state, and
none of its hypotheses is of `again`. -/
theorem not_wavesAndCoreSupply : ¬ Obligations.WavesAndCoreSupply := by
  rintro ⟨hwaves, -⟩
  have hrun : awaitsTwice.wavesRun 0 = true := rfl
  have hwaits : awaitsTwice.prioWaits = false := rfl
  have hchan : awaitsTwice.sense.ch[(109 : Chan)].2 ≠ 2 := by decide
  have hturn : awaitsTwice.turnOf = some 0 := rfl
  have hprio : awaitsTwice.sense.prioAt[(0 : Group)] = none := rfl
  have hfresh (a : Nat) (ha : awaitsTwice.sense.prioAt[(0 : Group)] = some a) : a ≤ awaitsTwice.sampledAt culmAt48V := by
    rw [hprio] at ha
    cases ha
  obtain ⟨hcompletes, -⟩ := (hwaves awaitsTwice 0 culmAt48V).1 hrun hwaits rfl rfl rfl hchan (by decide) (by decide)
  obtain ⟨t, hexec, ⟨-, -, -, -, hmeasured⟩, -⟩ := hcompletes hturn hfresh
  cases hexec.symm.trans (pipelineWave_runs hturn hfresh hwaits)
  rw [wave_vmeas rfl rfl rfl (show 2 ≤ List.count 109 [109, 109] by decide)] at hmeasured
  exact absurd hmeasured (show ((0 : Nat) : Int) ≠ 48000 by decide)

end Sys2Proof.Machine
end

section
/-!
PROOFS. What each command leaves unchanged: every field of the state outside its footprint. A command's meaning is a tree of branches,
and on each branch the state is built by operations whose own footprints are known (Laws/FrameBase to Laws/FrameModule).
-/

namespace Sys2Proof.Machine

/-- An outcome that leaves every field outside a list as it was. -/
def Ans.Changes (m : List Fld) (s : State) (a : Ans) : Prop := ∀ t, a = .next t → ChangesOnly m s t

@[simp] theorem Ans.changes_next (m : List Fld) (s t : State) : Ans.Changes m s (.next t) ↔ t.but m = s.but m :=
  ⟨fun h => h t rfl, fun h _ e => by cases e; exact h⟩

/-! ### The lists of fields, member by member -/

@[simp] theorem mem_settling : Fld.groups ∈ settling ∧ Fld.ctx ∈ settling ∧ Fld.chg ∈ settling := by decide

@[simp] theorem mem_reactions : Fld.deferred ∈ reactions ∧ Fld.flt ∈ reactions ∧ Fld.safeLine ∈ reactions ∧ Fld.halt ∈ reactions ∧
    Fld.x3 ∈ reactions ∧ Fld.xing ∈ reactions ∧ Fld.log ∈ reactions ∧ Fld.ret ∈ reactions ∧ Fld.dom ∈ reactions ∧ Fld.img ∈ reactions ∧
    Fld.fab ∈ reactions ∧ Fld.groups ∈ reactions ∧ Fld.cells ∈ reactions ∧ Fld.culm ∈ reactions ∧ Fld.branches ∈ reactions ∧
    Fld.src ∈ reactions ∧ Fld.ctx ∈ reactions ∧ Fld.bat ∈ reactions ∧ Fld.fdr ∈ reactions ∧ Fld.chg ∈ reactions ∧ Fld.est ∈ reactions ∧
    Fld.thr ∈ reactions ∧ Fld.awn ∈ reactions := by decide

@[simp] theorem mem_anything (f : Fld) : f ∈ anything ↔ f ≠ .pending ∧ f ≠ .now := by
  cases f <;> decide

/-! ### What restarts domains leaves the queue and the time -/

/-- All that stands outside `anything` is the queue and the time. -/
theorem but_anything (s : State) : s.but anything = { State.reset with pending := s.pending, now := s.now } := by
  simp [State.but]

@[simp] theorem finishProgram_pending (s : State) : s.finishProgram.pending = s.pending :=
  but_pending (fs := anything) (by simp) (by simp)
@[simp] theorem finishProgram_now (s : State) : s.finishProgram.now = s.now :=
  but_now (fs := anything) (by simp) (by simp)

@[simp] theorem domainReset_anything (s : State) : s.domainReset.but anything = s.but anything := by
  rw [but_anything, but_anything]
  simp [State.domainReset, State.keepStages]

@[simp] theorem coldReset_anything (s : State) : s.coldReset.but anything = s.but anything := by
  refine Eq.trans ?_ (domainReset_anything s)
  unfold State.coldReset
  simp [State.but]

@[simp] theorem beginBoot_anything (s : State) (cold : Bool) (w : Wake) (p : SPort) :
    (s.beginBoot cold w p).but anything = s.but anything := by
  unfold State.beginBoot
  extract_lets t
  have ht : t.but anything = s.but anything := by simp [t, apply_ite State.drew, but_ite]
  exact (set_dom_but t _ (by simp)).trans ht

@[simp] theorem wakeUp_anything (s : State) (w : Wake) (p : SPort) : (s.wakeUp w p).but anything = s.but anything := by
  unfold State.wakeUp
  (repeat' split) <;> simp

@[simp] theorem sleep_anything (s : State) (to_ : ModState) : (s.sleep to_).but anything = s.but anything := by
  unfold State.sleep
  extract_lets d t u d'
  have ht : t.but anything = s.but anything := by simp [t]
  split
  · exact (beginBoot_anything ..).trans ht
  · exact (set_dom_but u _ (by simp)).trans (by simp [u, but_ite, ht])

@[simp] theorem orderSleep_anything (s : State) (to_ : ModState) : (s.orderSleep to_).but anything = s.but anything := by
  unfold State.orderSleep
  extract_lets a
  split <;> simp

@[simp] theorem writeDomCtl_anything (s : State) (v : Word) : (s.writeDomCtl v).but anything = s.but anything := by
  unfold State.writeDomCtl
  split <;> simp

@[simp] theorem ladderModule_anything (s : State) (cause tries : Nat) : (s.ladderModule cause tries).but anything = s.but anything := by
  unfold State.ladderModule
  simp

@[simp] theorem ladder_anything (s : State) (cause : Nat) : (s.ladder cause).but anything = s.but anything := by
  unfold State.ladder
  extract_lets w
  (repeat' split) <;> simp

@[simp] theorem wdgTrip_anything (s : State) (src : Src) (cause : Nat) : (s.wdgTrip src cause).but anything = s.but anything := by
  unfold State.wdgTrip
  simp

@[simp] theorem wdgKey_anything (s : State) (key : Nat) : (s.wdgKey key).but anything = s.but anything := by
  unfold State.wdgKey
  extract_lets n
  (repeat' split) <;> simp

@[simp] theorem writeD0_anything (s : State) (r : Req) (b off : Nat) (v : Word) : (s.writeD0 r b off v).but anything = s.but anything := by
  unfold State.writeD0
  (repeat' split) <;> simp

@[simp] theorem writeBlock_anything (s : State) (r : Req) (authed : Bool) (b off : Nat) (v : Word) :
    (s.writeBlock r authed b off v).but anything = s.but anything := by
  unfold State.writeBlock
  (repeat' split) <;> simp

@[simp] theorem writeWord_anything (s : State) (r : Req) (authed : Bool) (a : Nat) (v : Word) :
    (s.writeWord r authed a v).but anything = s.but anything := by
  unfold State.writeWord
  split <;> simp

@[simp] theorem writeWords_anything (s : State) (authed : Bool) (a : Nat) (l : List Word) :
    (s.writeWords authed a l).but anything = s.but anything := by
  induction l generalizing s a with
  | nil => rfl
  | cons v l ih => exact (ih _ _).trans (by simp)

/-- A request of the host: what refusing it and what answering it may change (R519). -/
theorem request_but {fs : List Fld} (s : State) (f : Frame) (g : State → State) (href : ((s.accepted f).refuseAuth f).but fs = s.but fs)
    (hbusy : (s.refuse f 1).but fs = s.but fs) (hg : (g s).but fs = s.but fs) : (s.request f g).but fs = s.but fs := by
  unfold State.request
  rw [but_ite, but_ite, href, hbusy, hg, ite_self, ite_self]

/-- A read may count an access error and latch the high word of an entry, and changes nothing else (R553). -/
theorem readWord_but {fs : List Fld} (s : State) (r : Req) (a : Nat) (hsys : Fld.sys ∈ fs) (hprofIO : Fld.profIO ∈ fs) :
    (s.readWord r a).2.but fs = s.but fs := by
  unfold State.readWord
  split
  · simp [hsys]
  · simp [but_ite, hprofIO]

@[simp] theorem readWords_but {fs : List Fld} (s : State) (a n : Nat) (hsys : Fld.sys ∈ fs) (hprofIO : Fld.profIO ∈ fs) :
    (s.readWords a n).2.but fs = s.but fs := by
  induction n generalizing s a with
  | zero => rfl
  | succ n ih => exact (ih _ _).trans (readWord_but s _ _ hsys hprofIO)

/-! ### Commands whose state is built in steps -/

theorem supplyStart_changes (s : State) (feed : Fin 8) (hv : Option SPort) (closed : Bool) :
    (execSupplyStart feed hv closed s).Changes anything s := by
  unfold execSupplyStart
  extract_lets d t cause u src
  have ht : t.but anything = s.but anything := set_dom_but s _ (by simp)
  have hu : u.but anything = s.but anything := (coldReset_anything t).trans ht
  clear_value u t
  split
  · rw [Ans.changes_next]
    split
    · exact (beginBoot_anything ..).trans ht
    · exact (set_dom_but u.drew _ (by simp)).trans ((drew_but u (by simp)).trans hu)
  · simp

theorem resetLoopClosed_changes (s : State) (ohm : Nat) : (execResetLoopClosed ohm s).Changes anything s := by
  unfold execResetLoopClosed
  extract_lets d t u src
  have ht : t.but anything = s.but anything := set_dom_but s _ (by simp)
  have hu : u.but anything = s.but anything := by simp [u, but_ite, ht]
  (repeat' split) <;> rw [Ans.changes_next]
  · exact (set_dom_but u.drew _ (by simp)).trans ((drew_but u (by simp)).trans hu)
  · exact ht

theorem powerRestoredInHoldup_changes (s : State) (mv heldUs : Nat) :
    (execPowerRestoredInHoldup mv heldUs s).Changes anything s := by
  unfold execPowerRestoredInHoldup
  extract_lets r d
  split
  · extract_lets u src
    have hu : u.but anything = s.but anything := set_ret_dom_but s _ _ (by simp) (by simp)
    (repeat' split) <;> rw [Ans.changes_next]
    · exact (set_dom_but u.drew _ (by simp)).trans ((drew_but u (by simp)).trans hu)
    · exact (beginBoot_anything ..).trans hu
  · simp

theorem migrationLatch_changes (s : State) (o : Order) : (execMigrationLatch o s).Changes [.fab, .cells, .thr] s := by
  unfold execMigrationLatch
  extract_lets x t m u fab log
  (repeat' split) <;> rw [Ans.changes_next]
  · exact (set_fab_but u _ (by simp)).trans (by simp [u, t])
  · exact (set_fab_but t _ (by simp)).trans (set_thr_but s _ (by simp))

theorem thrRoundLatch_changes (s : State) : (execThrRoundLatch s).Changes reactions s := by
  by_cases h : s.thr.st = .running ∧ s.serviceRuns = true ∧ s.nextRound ≤ s.now + 40 ∧ s.thr.round = none
  · obtain ⟨hst, hrun, hat, hround⟩ := h
    obtain ⟨u, class3, q, hx, -⟩ := thrRoundLatch_eq hst hrun hat hround
    have hin : s.latchInputs.but reactions = s.but reactions :=
      latchInputs_but s (by simp) (by simp) (by simp) fun t _ => by simp
    rw [hx, Ans.changes_next]
    simp [State.keepLatch, hin]
  · simp [execThrRoundLatch, h]

theorem ringFrameForward_changes (s : State) (q : Side) (f : Frame) (crcOk : Bool) :
    (execRingFrameForward q f crcOk s).Changes ([.ring] ++ reactions) s := by
  unfold execRingFrameForward
  extract_lets o ring t r
  have ht : t.but (.ring :: reactions) = s.but (.ring :: reactions) := by simp [t, but_ite]
  clear_value t
  (repeat' split) <;> simp [ht]

/-! ### The families, command by command -/

theorem flows_changes (c : Instr) (s : State) (h : family c = .flows) : Ans.Changes (footprint c) s (exec c s) := by
  cases c <;> cases h
  all_goals simp only [exec, footprint, execFlowCreate, execFlowModify, execFlowSuspend, execFlowResume, execFlowDestroy, execFlowOpInvalid,
    execFlowOpeningDone, execFlowClosingDone, execFlowClosingTimeout]
  all_goals (repeat' split) <;> simp

theorem image_changes (c : Instr) (s : State) (h : family c = .image) : Ans.Changes (footprint c) s (exec c s) := by
  cases c <;> cases h
  all_goals simp only [exec, footprint, execImgUpdOpen, execImgUpdProgram, execImgUpdClose, execImgUpdAbort, execUpdateSessionTimeout, execImgActivate,
    execActivationQuiescentPoint, execImgCancel, execActivationTimeout, execBridgeHandback, execImgConfirm, execTrialExpiry,
    execImgRaisesv, execNvsProgramComplete, execNvsEraseComplete, execNvsOperationOvertime]
  all_goals (repeat' split) <;> simp

theorem power_changes (c : Instr) (s : State) (h : family c = .power) : Ans.Changes (footprint c) s (exec c s) := by
  cases c <;> cases h
  case supplyStart feed hv closed => exact supplyStart_changes s feed hv closed
  case resetLoopClosed ohm => exact resetLoopClosed_changes s ohm
  case powerRestoredInHoldup mv heldUs => exact powerRestoredInHoldup_changes s mv heldUs
  all_goals simp only [exec, footprint, execDomRun, execDomStandby, execDomWatch, execDomDormant, execIdleToDormant, execStubbleDomainOff, execHvWake,
    execWakeLoopRequest, execWatchAlarm, execResetLoopOpened, execStartup, execPowerFail, execHoldupSpent, execHoldupNotReady,
    execRetentionSave, execEnergyCheckpoint, execSafeLineReleased, execHoldupStoreReady]
  all_goals (repeat' split) <;> simp [-drew_pending, -drew_now]

theorem faults_changes (c : Instr) (s : State) (h : family c = .faults) : Ans.Changes (footprint c) s (exec c s) := by
  cases c <;> cases h
  all_goals simp only [exec, footprint, execFaultOccurrence, execGraceTimerExpiry, execRetryDue, execFaultLiveClear, execFstW1cWrite, execFfrcForce,
    execFsevWrite, execFmskWrite, execParityError]
  all_goals (repeat' split) <;> simp

theorem log_changes (c : Instr) (s : State) (h : family c = .log) : Ans.Changes (footprint c) s (exec c s) := by
  cases c <;> cases h
  all_goals simp only [exec, footprint, execLogReportArrival, execLogGroupClose, execLogCommit, execLogStartupScan, execLogRseqRead, execLogClrfirst,
    execLogClrlost, execLogErase]
  all_goals (repeat' split) <;> simp

theorem watchdog_changes (c : Instr) (s : State) (h : family c = .watchdog) : Ans.Changes (footprint c) s (exec c s) := by
  cases c <;> cases h
  all_goals simp only [exec, footprint, execWdgCfgEnable, execWdgKeyWrite, execWdgExpiry, execWdgClockMonitorTrip, execControlCoreRestartDone,
    execWdgClrcnt, execWdgHckick, execWdgHctWrite, execHostContactExpiry, execHostContact]
  all_goals (repeat' split) <;> simp

theorem thresher_changes (c : Instr) (s : State) (h : family c = .thresher) : Ans.Changes (footprint c) s (exec c s) := by
  cases c <;> cases h
  case thrRoundLatch => exact thrRoundLatch_changes s 
  all_goals simp only [exec, footprint, execThrCommit, execThrRoundPublish, execForecastExpiry, execGensetStartTimeout, execDeferralEnd,
    execStookGrantLost]
  all_goals (repeat' split) <;> simp

theorem pipeline_changes (c : Instr) (s : State) (h : family c = .pipeline) : Ans.Changes (footprint c) s (exec c s) := by
  cases c <;> cases h
  all_goals simp only [exec, footprint, execPipelineWave, execPriorityWave, execGroupStall, execPipelineStall, execDriveCommandTimeout,
    execCoreSupplyAdjust, execCoreSupplyFault, execCrossingItemRaised, execCrossingItemTaken, execCrossingPeerReset]
  all_goals (repeat' split) <;> simp

theorem fabric_changes (c : Instr) (s : State) (h : family c = .fabric) : Ans.Changes (footprint c) s (exec c s) := by
  cases c <;> cases h
  case migrationLatch o => exact migrationLatch_changes s o
  all_goals simp only [exec, footprint, execCellTrip, execCellStartChecksDone, execCellStartRetry, execMigrationStepDone, execMigrationStepOvertime,
    execShedOrder, execShedParked, execParkHoldExpiry]
  all_goals (repeat' split) <;> simp

theorem culm_changes (c : Instr) (s : State) (h : family c = .culm) : Ans.Changes (footprint c) s (exec c s) := by
  cases c <;> cases h
  all_goals simp only [exec, footprint, execCulmPrechargeDone, execShortfallShed, execCulmUnderVoltage, execCulmSurplusOpen, execGovernorUpdate,
    execGovernorTrip, execCulmPceilWrite, execPortDischargeEnd, execDischargeBoundMissed, execDischargeElementHoldEnd,
    execStubbleOverloadShed, execStubbleSupplyTrip, execStubbleWindowLost]
  all_goals (repeat' split) <;> simp [but_ite]

theorem load_changes (c : Instr) (s : State) (h : family c = .load) : Ans.Changes (footprint c) s (exec c s) := by
  cases c <;> cases h
  all_goals simp only [exec, footprint, execBranchInstantTrip, execBranchOverloadTrip, execBranchBackfeedTrip, execBranchPrechargeDone,
    execBranchPrechargeFailed, execBranchRetry, execBranchRestore, execPortSumOverload, execBranchSwitchFailed]
  all_goals (repeat' split) <;> simp

theorem source_changes (c : Instr) (s : State) (h : family c = .source) : Ans.Changes (footprint c) s (exec c s) := by
  cases c <;> cases h
  all_goals simp only [exec, footprint, execSrcPresenceMet, execSrcPresenceLost, execSrcQualificationFail, execSrcStabilityRestart, execSrcQualified,
    execArcSelfTest, execSrcStartSupply, execSrcOrderedStop, execSrcPvIdle, execSrcPvVocMeasure, execSrcHoldTimeEnd, execSrcLoss,
    execHandOverComplete, execArcDetected, execSrcOvercurrent, execSrcHaltReleased, execSrcRearm, execSrcRequal, execSrcSweep,
    execMpptPerturb, execMpptSweepStart, execMpptSweepDone, execFlapClear]
  all_goals (repeat' split) <;> simp

theorem battery_changes (c : Instr) (s : State) (h : family c = .battery) : Ans.Changes (footprint c) s (exec c s) := by
  cases c <;> cases h
  all_goals simp only [exec, footprint, execBatTerminalInRange, execBatQualifyTimeEnd, execBatPrechargeDone, execBatPrechargeFailed,
    execBatAbsenceDetected, execBatProbe, execBatHaltRelease, execBatOutOfRange, execBatIsolate, execBatIsolateSwitchOpen,
    execBatConnect, execBatRearm, execBatOvercurrent, execNtcFault]
  all_goals (repeat' split) <;> simp

theorem charging_changes (c : Instr) (s : State) (h : family c = .charging) : Ans.Changes (footprint c) s (exec c s) := by
  cases c <;> cases h
  all_goals simp only [exec, footprint, execChgQualifyCheck, execChgPhaseTransition, execPhaseTmax, execSafetyTimerExpiry, execPreconditionCeilingHeld,
    execAbsorbExit, execFinishExit, execFloatRebulk, execRestRestartVoltage, execEqualizeDue, execChgEq, execChgEqcancel,
    execChgRestart, execThermalHold, execDvSample, execDtdtSample, execNickelHoldoffEnd, execKneeAnswer, execChgOverVoltage,
    execBmsLivenessTimeout, execBmsVoltageExceeded, execProfEloWrite, execProfEhiWrite, execProfEloRead, execProfChkRequest,
    execBmsDischargeLimitExpiry]
  all_goals (repeat' split) <;> simp

theorem estimation_changes (c : Instr) (s : State) (h : family c = .estimation) : Ans.Changes (footprint c) s (exec c s) := by
  cases c <;> cases h
  all_goals simp only [exec, footprint, execEstPointDone, execEstSweepStart, execEstSweepDone, execEstSweepPauseExpiry, execKneeBaseline, execKneeCheck,
    execEstSweep, execEstAbort, execEstNewbat, execSocCorrection, execEstSave]
  all_goals (repeat' split) <;> simp

theorem thermal_changes (c : Instr) (s : State) (h : family c = .thermal) : Ans.Changes (footprint c) s (exec c s) := by
  cases c <;> cases h
  all_goals simp only [exec, footprint, execThmSample, execThrottleTick, execThrottleRecovery, execThermalShutdownReturn, execSensorRetry,
    execSensorReturn, execThrottleHoldEnd, execDieOverTemperature, execFanFailed, execFanRetry, execThmHistorySave,
    execModelConverged, execModelInvalid]
  all_goals (repeat' split) <;> simp [but_ite]

theorem feeder_changes (c : Instr) (s : State) (h : family c = .feeder) : Ans.Changes (footprint c) s (exec c s) := by
  cases c <;> cases h
  all_goals simp only [exec, footprint, execFeederStartRequest, execFeederCheckPassed, execFeederPrebiasDone, execFeederPrebiasTimeout, execFeederLimiting,
    execFeederUnderVoltage, execFeederOverVoltage, execFeederReverseCurrent, execFeederStop, execFeederStopped, execFeederYield,
    execFeederHaltReleased]
  all_goals (repeat' split) <;> simp

theorem awn_changes (c : Instr) (s : State) (h : family c = .awn) : Ans.Changes (footprint c) s (exec c s) := by
  cases c <;> cases h
  all_goals simp only [exec, footprint, execAwnSetpointFrame, execAwnQueryFrame, execAwnKeepaliveFrame, execAwnReservedOpFrame, execAwnFrameDiscarded,
    execAwnSetpointArbitrate, execAwnSettled, execAwnUnsettled, execAwnLinkUp, execAwnLinkDown, execAwnLossholdExpiry,
    execAwnStatusPeriod, execAwnReplyTransmit, execAwnCfgWrite]
  all_goals (repeat' split) <;> simp

theorem ring_changes (c : Instr) (s : State) (h : family c = .ring) : Ans.Changes (footprint c) s (exec c s) := by
  cases c <;> cases h
  case ringFrameForward q f crcOk => exact ringFrameForward_changes s q f crcOk
  all_goals simp only [exec, footprint, execRingSideUp, execRingSideDown, execDiscover, execIdentPeriodic, execAssign, execRingRead, execRingWrite,
    execRingStatRequest, execRingRetransmission, execRingUnknownType, execRingRequestBusy, execHello, execStook, execExchSend,
    execExchReceived, execExchEvaluation, execStookMissing, execPeerSilent, execPositionConflict, execRingKeyprog, execRingEndsess,
    execRingClrcnt, execRingOwnFrameSent]
  all_goals (repeat' split) <;> simp [but_ite, -endCause_thm, request_but]

theorem can_changes (c : Instr) (s : State) (h : family c = .can) : Ans.Changes (footprint c) s (exec c s) := by
  cases c <;> cases h
  all_goals simp only [exec, footprint, execCanLimitsFrame, execCanStateFrame, execModuleStatusSend, execCanBusOff, execCanErrorPassive,
    execCanBusDominant, execCanCfgWrite, execCanFrameSent, execCanErrorActiveRegained]
  all_goals (repeat' split) <;> simp [-endCause_thm]

theorem registers_changes (c : Instr) (s : State) (h : family c = .registers) : Ans.Changes (footprint c) s (exec c s) := by
  cases c <;> cases h
  all_goals simp only [exec, footprint, execDomRtcWrite, execSysClraerr, execRegisterWrite]
  all_goals (repeat' split) <;> simp

/-- Every command changes what its footprint lists, and nothing else. -/
theorem exec_changes (c : Instr) (s : State) : Ans.Changes (footprint c) s (exec c s) := by
  cases h : family c with
  | flows => exact flows_changes c s h
  | image => exact image_changes c s h
  | power => exact power_changes c s h
  | faults => exact faults_changes c s h
  | log => exact log_changes c s h
  | watchdog => exact watchdog_changes c s h
  | thresher => exact thresher_changes c s h
  | pipeline => exact pipeline_changes c s h
  | fabric => exact fabric_changes c s h
  | culm => exact culm_changes c s h
  | load => exact load_changes c s h
  | source => exact source_changes c s h
  | battery => exact battery_changes c s h
  | charging => exact charging_changes c s h
  | estimation => exact estimation_changes c s h
  | thermal => exact thermal_changes c s h
  | feeder => exact feeder_changes c s h
  | awn => exact awn_changes c s h
  | ring => exact ring_changes c s h
  | can => exact can_changes c s h
  | registers => exact registers_changes c s h

/-- Settles O52: each command of these families changes its footprint alone. -/
theorem controlFrames : Obligations.ControlFrames := fun c s t _ h => exec_changes c s t h

/-- Settles O53: each command of these families changes its footprint alone. -/
theorem portFrames : Obligations.PortFrames := fun c s t _ h => exec_changes c s t h

end Sys2Proof.Machine
end

section
/-!
PROOFS. Every step keeps the stores canonical and programs at most four keys. Of an operation that leaves the stores, its footprint says
so; of every other one, from the registers up to the commands, a lemma says that it keeps them.
-/

namespace Sys2Proof.Machine

/-- Every field but the four stores of `State.Inv`. -/
def Fld.unstored : List Fld :=
  [.pending, .now, .freeN, .deferred, .flt, .safeLine, .halt, .x3, .xing, .xslots, .log, .wdg, .host, .ret, .slots, .dom, .img, .nvs,
   .sys, .fab, .groups, .cells, .culm, .gov, .branches, .loads, .src, .hov, .flow, .ctx, .bat, .fdr, .chg, .profIO, .bms, .est, .thm,
   .thr, .sense, .awn, .ring, .can, .energy]

@[simp] theorem mem_unstored (f : Fld) : f ∈ Fld.unstored ↔ f ≠ .rw ∧ f ≠ .nv ∧ f ≠ .prof ∧ f ≠ .fuse := by
  cases f <;> decide

/-! ### The invariant, of the state with every other field set aside -/

theorem but_inv_iff (s : State) : (s.but Fld.unstored).Inv ↔
    Memory.wf s.nv = true ∧ swf regReset s.rw = true ∧ swf (fun _ => (0 : Entry)) s.prof = true ∧ s.fuse.keys.length ≤ 4 := by
  have hn : (s.but Fld.unstored).nv = s.nv := by simp [State.but]
  have hr : (s.but Fld.unstored).rw = s.rw := by simp [State.but]
  have hp : (s.but Fld.unstored).prof = s.prof := by simp [State.but]
  have hf : (s.but Fld.unstored).fuse = s.fuse := by simp [State.but]
  constructor
  · rintro ⟨h₁, h₂, h₃, h₄⟩
    exact ⟨hn ▸ h₁, hr ▸ h₂, hp ▸ h₃, hf ▸ h₄⟩
  · rintro ⟨h₁, h₂, h₃, h₄⟩
    exact ⟨hn.symm ▸ h₁, hr.symm ▸ h₂, hp.symm ▸ h₃, hf.symm ▸ h₄⟩

theorem inv_iff_but (s : State) : s.Inv ↔ (s.but Fld.unstored).Inv :=
  ⟨fun h => (but_inv_iff s).mpr ⟨h.nv, h.rw, h.prof, h.keys⟩, fun h => by
    obtain ⟨h₁, h₂, h₃, h₄⟩ := (but_inv_iff s).mp h
    exact ⟨h₁, h₂, h₃, h₄⟩⟩

/-- A fold keeps the stores where its every update does. -/
theorem foldl_inv {α : Type} {s : State} (l : List α) (f : State → α → State)
    (hf : ∀ s a, (s.but Fld.unstored).Inv → ((f s a).but Fld.unstored).Inv) (h : (s.but Fld.unstored).Inv) :
    ((l.foldl f s).but Fld.unstored).Inv := foldl_keeps (fun s => (s.but Fld.unstored).Inv) f hf l h

theorem forEach_inv {α : Type} {s : State} (l : List α) (f : State → α → State)
    (hf : ∀ s a, (s.but Fld.unstored).Inv → ((f s a).but Fld.unstored).Inv) (h : (s.but Fld.unstored).Inv) :
    ((forEach l f s).but Fld.unstored).Inv := foldl_inv l f hf h

theorem ite_inv {c : Prop} [Decidable c] {s t : State} (hs : (s.but Fld.unstored).Inv) (ht : (t.but Fld.unstored).Inv) :
    ((if c then s else t).but Fld.unstored).Inv := by
  split <;> assumption

/-- A command reaches its block through the register service, or counts an access error. -/
theorem viaService_inv {s : State} (r : Req) (a : Nat) (f : State → State) (h : (s.but Fld.unstored).Inv)
    (hf : ((f s).but Fld.unstored).Inv) : ((s.viaService r a f).but Fld.unstored).Inv := by
  have he (c : Nat) : (s.accessError c r a).but Fld.unstored = s.but Fld.unstored := by
    unfold State.accessError
    simp
  unfold State.viaService
  (repeat' split) <;> simp [h, hf, he]

/-! ### The registers -/

section
variable {s : State} (h : (s.but Fld.unstored).Inv)
include h

@[simp] theorem putReg_inv (a : Nat) (v : Word) : ((s.putReg a v).but Fld.unstored).Inv := by
  obtain ⟨hn, hr, hp, hk⟩ := (but_inv_iff s).mp h
  exact (but_inv_iff _).mpr ⟨hn, sput_wf _ _ _ _ hr, hp, hk⟩

@[simp] theorem setReg_inv (a : Nat) (v : Word) : ((s.setReg a v).but Fld.unstored).Inv := by
  unfold State.setReg
  split <;> simp [h]

@[simp] theorem writeSev_inv (b : Blk) (v : Word) : ((s.writeSev b v).but Fld.unstored).Inv := by
  unfold State.writeSev
  simp [h]

@[simp] theorem writeMask_inv (b : Blk) (v : Word) : ((s.writeMask b v).but Fld.unstored).Inv := by
  unfold State.writeMask
  refine foldl_inv _ _ (fun t i ht => ?_) (by simp [h])
  simp [but_ite, ht]

@[simp] theorem writeFault_inv (b : Blk) (off : Nat) (v : Word) : ((s.writeFault b off v).but Fld.unstored).Inv := by
  unfold State.writeFault
  split <;> simp [h]

/-! ### The store -/

/-- The stores are canonical where the bytes are, and the rest is as it was. -/
theorem setNv_inv {nv : List Host.Cell} (hn : Memory.wf nv = true) : (({ s with nv := nv } : State).but Fld.unstored).Inv := by
  obtain ⟨-, hr, hp, hk⟩ := (but_inv_iff s).mp h
  exact (but_inv_iff _).mpr ⟨hn, hr, hp, hk⟩

theorem nv_wf_of_inv : Memory.wf s.nv = true := ((but_inv_iff s).mp h).1

@[simp] theorem eraseBytes_inv (a n : Nat) : ((s.eraseBytes a n).but Fld.unstored).Inv := by
  have := setNv_inv h (Memory.erase_wf s.nv a n (nv_wf_of_inv h))
  simpa [State.eraseBytes, but_inv_iff] using this

@[simp] theorem spoil_inv (a n : Nat) : ((s.spoil a n).but Fld.unstored).Inv := by
  have := setNv_inv h (Memory.fill_wf s.nv a ((List.range n).map fun i => BitVec.ofNat 8 (s.freeAt i)) (nv_wf_of_inv h))
  simpa [State.spoil, State.drewMany, but_inv_iff] using this

@[simp] theorem spoilErase_inv (o : NvOp) : ((s.spoilErase o).but Fld.unstored).Inv := by
  unfold State.spoilErase
  split <;> simp [h]

@[simp] theorem eraseFor_inv (seq : Nat) : ((s.eraseFor seq).but Fld.unstored).Inv := by
  unfold State.eraseFor
  extract_lets slot t
  split
  · simp [t, h]
  · exact h

@[simp] theorem programRec_inv (q : Staged) : ((s.programRec q).but Fld.unstored).Inv := by
  have ht := eraseFor_inv h q.record.seq
  have := setNv_inv ht (Memory.writeAll_wf _ (logAddr q.record.seq) (q.record.words.flatMap wordBytes) (nv_wf_of_inv ht))
  simpa [State.programRec, but_inv_iff] using this

@[simp] theorem failCommit_inv (n : Nat) : ((s.failCommit n).but Fld.unstored).Inv := by
  unfold State.failCommit
  split
  · exact spoil_inv (by simp [h]) _ _
  · exact h

@[simp] theorem finishProgram_inv : (s.finishProgram.but Fld.unstored).Inv := by
  unfold State.finishProgram
  split
  · split
    · exact setNv_inv h (Memory.writeAll_wf _ _ _ (nv_wf_of_inv h))
    · exact h
  · split <;> simp [h]
  · exact h

@[simp] theorem cutStore_inv : (s.cutStore.but Fld.unstored).Inv := by
  unfold State.cutStore
  (repeat' split) <;> simp [h]

omit h in
theorem wearSectors_unstored (t : State) (first n : Nat) : (t.wearSectors first n).but Fld.unstored = t.but Fld.unstored := by simp

@[simp] theorem rewriteBacking_inv : (s.rewriteBacking.but Fld.unstored).Inv := by
  unfold State.rewriteBacking
  split
  · extract_lets l nv img
    have hn : Memory.wf nv = true := Memory.fill_wf _ _ _ (Memory.erase_wf s.nv _ _ (nv_wf_of_inv h))
    clear_value nv
    exact (congrArg State.Inv (wearSectors_unstored _ _ _)).mpr (setNv_inv h hn)
  · exact h

@[simp] theorem writeDue_inv : (s.writeDue.but Fld.unstored).Inv := by
  unfold State.writeDue
  extract_lets t
  have ht : (t.but Fld.unstored).Inv := by simp [t, but_ite, h]
  (repeat' split) <;> simp [h, ht]

@[simp] theorem sectorErased_inv (o : NvOp) : ((s.sectorErased o).but Fld.unstored).Inv := by
  unfold State.sectorErased
  extract_lets k t
  have ht : (t.but Fld.unstored).Inv := by simp [t, h]
  split <;> simp [ht]

/-! ### The profile table -/

@[simp] theorem putEntry_inv (n : Nat) (w : BitVec 64) : ((s.putEntry n w).but Fld.unstored).Inv := by
  obtain ⟨hn, hr, hp, hk⟩ := (but_inv_iff s).mp h
  exact (but_inv_iff _).mpr ⟨hn, hr, sput_wf _ _ _ _ hp, hk⟩

omit h in
/-- A table built entry by entry is canonical. -/
theorem tableOf_wf (l : List (Nat × Entry)) : swf (fun _ => (0 : Entry)) (tableOf l) = true :=
  foldl_keeps (fun m => swf (fun _ => (0 : Entry)) m = true) _
    (fun m e hm => by
      split
      · exact sput_wf _ m _ _ hm
      · exact hm) l rfl

theorem setProf_inv (l : List (Nat × Entry)) : (({ s with prof := tableOf l } : State).but Fld.unstored).Inv := by
  obtain ⟨hn, hr, -, hk⟩ := (but_inv_iff s).mp h
  exact (but_inv_iff _).mpr ⟨hn, hr, tableOf_wf l, hk⟩

@[simp] theorem loadTable_inv : (s.loadTable.but Fld.unstored).Inv := by
  unfold State.loadTable
  split
  · have := setProf_inv h ((List.range 6144).map fun n => (n, BitVec.ofNat 64 (s.nvNat (backingAt + 8 * n) 8)))
    simpa [but_inv_iff] using this
  · exact h

/-! ### The writes that wait for an iteration -/

@[simp] theorem writeBctl_inv (b : Branch) (v : Word) : ((s.writeBctl b v).but Fld.unstored).Inv := by
  unfold State.writeBctl
  simp [h]

@[simp] theorem writeCeiling_inv (p : Port) (v : Word) : ((s.writeCeiling p v).but Fld.unstored).Inv := by
  unfold State.writeCeiling
  extract_lets old new
  split <;> simp [h]

@[simp] theorem newBattery_inv (p : BPort) : ((s.newBattery p).but Fld.unstored).Inv := by
  have hr := putReg_inv h (estPrefAt p) 0
  exact (but_inv_iff _).mpr ((but_inv_iff _).mp hr)

@[simp] theorem writeEstPctl_inv (p : BPort) (v : Word) : ((s.writeEstPctl p v).but Fld.unstored).Inv := by
  unfold State.writeEstPctl
  extract_lets t u
  have hu : (u.but Fld.unstored).Inv := by simp [u, t, but_ite, h]
  split <;> simp [hu]

@[simp] theorem restoreHistory_inv (p : BPort) (v : Nat) : ((s.restoreHistory p v).but Fld.unstored).Inv := by
  unfold State.restoreHistory
  extract_lets r e t u
  have ht : (t.but Fld.unstored).Inv := by simp [t, h]
  have hu : (u.but Fld.unstored).Inv := by simp [u, but_ite, ht]
  (repeat' split) <;> simp [h, ht, hu]

@[simp] theorem writeAwnCfg_inv (v : Word) : ((s.writeAwnCfg v).but Fld.unstored).Inv := by
  unfold State.writeAwnCfg
  simp [h]

@[simp] theorem writeQv_inv (p : SPort) (v : Word) : ((s.writeQv p v).but Fld.unstored).Inv := by
  unfold State.writeQv
  simp [h]

@[simp] theorem writeBatPcfg_inv (p : BPort) (v : Word) : ((s.writeBatPcfg p v).but Fld.unstored).Inv := by
  unfold State.writeBatPcfg
  extract_lets t
  have ht : (t.but Fld.unstored).Inv := by simp [t, h]
  (repeat' split) <;> simp [ht]

@[simp] theorem writeEstPcfg_inv (p : BPort) (v : Word) : ((s.writeEstPcfg p v).but Fld.unstored).Inv := by
  unfold State.writeEstPcfg
  extract_lets t
  have ht : (t.but Fld.unstored).Inv := by simp [t, h]
  split <;> simp [ht]

@[simp] theorem writePort_inv (b off : Nat) (v : Word) : ((s.writePort b off v).but Fld.unstored).Inv := by
  unfold State.writePort
  extract_lets plain
  have hp : (plain.but Fld.unstored).Inv := by simp [plain, h]
  (repeat' split) <;> simp [h, hp]

@[simp] theorem writeEndpoint_inv (b off a : Nat) (v : Word) : ((s.writeEndpoint b off a v).but Fld.unstored).Inv := by
  unfold State.writeEndpoint
  (repeat' split) <;> simp [h]

@[simp] theorem writeCarried_inv (a : Nat) (v : Word) : ((s.writeCarried a v).but Fld.unstored).Inv := by
  unfold State.writeCarried
  split <;> simp [h]

@[simp] theorem runDeferred_inv (d : Deferred) : ((s.runDeferred d).but Fld.unstored).Inv := by
  cases d <;> simp [State.runDeferred, h]

@[simp] theorem iterateOn_inv (p : Deferred → Bool) : ((s.iterateOn p).but Fld.unstored).Inv := by
  have := foldl_inv ((s.deferred.filter p).filter (·.isMask) ++ (s.deferred.filter p).filter fun d => !d.isMask) State.runDeferred
    (fun t d ht => runDeferred_inv ht d) (s := { s with deferred := s.deferred.filter fun d => !p d }) (by simp [h])
  simpa [State.iterateOn] using this

@[simp] theorem iterate_inv : (s.iterate.but Fld.unstored).Inv := iterateOn_inv h _

@[simp] theorem iterateFor_inv (g : Group) : ((s.iterateFor g).but Fld.unstored).Inv := iterateOn_inv h _

@[simp] theorem wave_inv (g : Group) (w : Wave) : ((s.wave g w).but Fld.unstored).Inv := by
  unfold State.wave
  simp [h]

@[simp] theorem runWaves_inv : (s.runWaves.but Fld.unstored).Inv := by
  unfold State.runWaves
  exact foldl_inv _ _ (fun t q ht => ite_inv (wave_inv ht _ _) ht) (by simp [h])

@[simp] theorem nextIteration_inv : (s.nextIteration.but Fld.unstored).Inv := by
  unfold State.nextIteration
  simp [h]

@[simp] theorem tick_inv : (s.tick.but Fld.unstored).Inv := by
  unfold State.tick
  simp [h]

/-! ### The image in force -/

/-- A table of registers without some of its entries is canonical still. -/
theorem filterRw_inv (p : Nat × Word → Bool) :
    (({ s with rw := s.rw.filter p } : State).but Fld.unstored).Inv := by
  obtain ⟨hn, hr, hp, hk⟩ := (but_inv_iff s).mp h
  exact (but_inv_iff _).mpr ⟨hn, filter_wf _ _ _ hr, hp, hk⟩

@[simp] theorem applyRegs_inv (d : ImageData) : ((s.applyRegs d).but Fld.unstored).Inv := by
  unfold State.applyRegs
  extract_lets value masks t₁ t₂ t₃ t₄ t₅
  have h₁ : (t₁.but Fld.unstored).Inv := filterRw_inv h _
  have h₂ : (t₂.but Fld.unstored).Inv := foldl_inv _ _ (fun t e ht => ite_inv ht (putReg_inv ht _ _)) h₁
  have h₃ : (t₃.but Fld.unstored).Inv := foldl_inv _ _ (fun t b ht => writeMask_inv ht _ _) h₂
  have h₅ : (t₅.but Fld.unstored).Inv := by simp [t₅, t₄, h₃]
  simp [h₅]

@[simp] theorem applyImage_inv (d : ImageData) (failed : List Cell) : ((s.applyImage d failed).but Fld.unstored).Inv := by
  unfold State.applyImage
  extract_lets tested host img fab group culm t₁ t₂ t₃
  have h₁ : (t₁.but Fld.unstored).Inv := by
    have := setProf_inv h d.profiles
    simpa [t₁, but_inv_iff] using this
  have h₃ : (t₃.but Fld.unstored).Inv := putReg_inv (by simp [t₂, h₁]) _ _
  simp [h₃]

@[simp] theorem takeBank_inv (b : Side) : ((s.takeBank b).but Fld.unstored).Inv := by
  unfold State.takeBank
  split
  · next d _ =>
    have hd := loadTable_inv (applyImage_inv (s := s.identify b) (by simp [h]) d [])
    simp [hd]
  · simp [h]

@[simp] theorem takeOther_inv (b : Side) : ((s.takeOther b).but Fld.unstored).Inv := by
  unfold State.takeOther
  extract_lets img t code
  (repeat' split) <;> simp [t, h]

@[simp] theorem readBank_inv (b : Side) (err : Bool) : ((s.readBank b err).1.but Fld.unstored).Inv := by
  simp [h]

@[simp] theorem tryCandidate_inv (b : Side) (errs : Fin 3) : ((s.tryCandidate b errs).but Fld.unstored).Inv := by
  have read {t u : State} {b : Side} {err : Bool} {c : Nat} (ht : (t.but Fld.unstored).Inv) (hq : t.readBank b err = (u, c)) :
      (u.but Fld.unstored).Inv := by
    have := readBank_inv ht b err
    rwa [hq] at this
  unfold State.tryCandidate
  split
  next t code hq =>
    have ht := read h hq
    extract_lets again u
    have hu : (u.but Fld.unstored).Inv := by simp [u, ht]
    split
    · simp [ht]
    · split
      · split
        next t₂ code₂ hq₂ =>
          have h₂ := read hu hq₂
          extract_lets u₂
          have hu₂ : (u₂.but Fld.unstored).Inv := by simp [u₂, h₂]
          split <;> simp [hu₂]
      · simp [hu]

@[simp] theorem loadBoth_inv : (s.loadBoth.but Fld.unstored).Inv := by
  unfold State.loadBoth
  extract_lets judge t ok b img u
  have ht : (t.but Fld.unstored).Inv := by simp [t, judge, h]
  split <;> simp [u, ht]

@[simp] theorem loadRecord_inv (r : BootRec) (errs : Fin 3) : ((s.loadRecord r errs).but Fld.unstored).Inv := by
  unfold State.loadRecord
  extract_lets b
  (repeat' split) <;> simp [h]

@[simp] theorem loadImage_inv (cal : Bool × Bool) (errs : Fin 3) : ((s.loadImage cal errs).but Fld.unstored).Inv := by
  unfold State.loadImage
  extract_lets bad img t
  have ht : (t.but Fld.unstored).Inv := by simp [t, h]
  split
  · split <;> simp [ht]
  · split <;> simp [ht]

/-! ### Run and Stubble -/

@[simp] theorem restoreBranches_inv : (s.restoreBranches.but Fld.unstored).Inv := by
  unfold State.restoreBranches
  exact forEach_inv _ _ (fun t b ht => setReg_inv ht _ _) h

@[simp] theorem toRun_inv : (s.toRun.but Fld.unstored).Inv := by
  unfold State.toRun
  simp [h]

@[simp] theorem runEntry_inv (failed : List Cell) : ((s.runEntry failed).but Fld.unstored).Inv := by
  have hr := toRun_inv (s := ((s.runDomains failed).restoreBranches.startFlows)) (by simp [h])
  unfold State.runEntry
  simp [hr]

@[simp] theorem orderRun_inv (failed : List Cell) : ((s.orderRun failed).but Fld.unstored).Inv := by
  unfold State.orderRun
  split <;> simp [h]

@[simp] theorem reachStandby_inv (failed : List Cell) : ((s.reachStandby failed).but Fld.unstored).Inv := by
  unfold State.reachStandby
  extract_lets d t
  (repeat' split) <;> simp [t, h]

@[simp] theorem returnFromStubble_inv (failed : List Cell) : ((s.returnFromStubble failed).but Fld.unstored).Inv := by
  unfold State.returnFromStubble
  split <;> simp [h]

@[simp] theorem afterActivation_inv (failed : List Cell) (standby : Bool) :
    ((s.afterActivation failed standby).but Fld.unstored).Inv := by
  unfold State.afterActivation
  split <;> simp [h]

@[simp] theorem putBank_inv (b : Side) (d : ImageData) (failed : List Cell) : ((s.putBank b d failed).but Fld.unstored).Inv := by
  unfold State.putBank
  extract_lets prev t rec u
  have hu : (u.but Fld.unstored).Inv := by simp [u, t, but_ite, h]
  simp [hu]

@[simp] theorem revert_inv (prevReadErr : Bool) (failed : List Cell) (standby : Bool) (b : Side) :
    ((s.revert prevReadErr failed standby b).but Fld.unstored).Inv := by
  unfold State.revert
  extract_lets prev had rec t img u rec₂
  have hu : (u.but Fld.unstored).Inv := by simp [u, t, h]
  split
  · next d _ =>
    have hd := applyImage_inv (s := (u.freeAll.identify prev).writeBoot) (by simp [hu]) d failed
    simp [hd]
  · simp [but_ite, hu]

/-! ### Restarts -/

omit h in
/-- Beside its kept bits, WDG_HCT takes its reset value: kept bits other than those of reset make another value. -/
theorem hct_ne_reset {w : Word} (hw : w &&& 0x00030000 ≠ 0x00010000) : w &&& 0x00030000 ||| 30 ≠ regReset wdgHctAt := by
  intro he
  have hr : regReset wdgHctAt = 0x0001001E := by decide
  have hm : (w &&& 0x00030000 ||| 30) &&& 0x00030000 = w &&& 0x00030000 := by
    rw [BitVec.and_or_distrib_right, BitVec.and_assoc, BitVec.and_self]
    exact BitVec.or_zero
  rw [he, hr] at hm
  exact hw hm.symm

omit h in
/-- What a domain reset keeps of WDG_HCT is a canonical table. -/
theorem keptHct_wf (w : Word) :
    swf regReset (if w &&& 0x00030000 = 0x00010000 then [] else [(wdgHctAt, (w &&& 0x00030000) ||| 30)]) = true := by
  split
  · rfl
  · next hw =>
    have := hct_ne_reset hw
    simpa [swf, swfFrom] using this

@[simp] theorem domainReset_inv : (s.domainReset.but Fld.unstored).Inv := by
  obtain ⟨hn, -, -, hk⟩ := (but_inv_iff _).mp (finishProgram_inv h)
  unfold State.domainReset
  rw [keepStages_but _ _ (by simp) (by simp)]
  exact (but_inv_iff _).mpr ⟨hn, keptHct_wf _, rfl, hk⟩

@[simp] theorem coldReset_inv : (s.coldReset.but Fld.unstored).Inv := by
  obtain ⟨hn, -, hp, hk⟩ := (but_inv_iff _).mp (domainReset_inv h)
  unfold State.coldReset
  exact (but_inv_iff _).mpr ⟨hn, rfl, hp, hk⟩

@[simp] theorem beginBoot_inv (cold : Bool) (w : Wake) (p : SPort) : ((s.beginBoot cold w p).but Fld.unstored).Inv := by
  unfold State.beginBoot
  extract_lets t d
  have ht : (t.but Fld.unstored).Inv := by
    have := ite_inv (c := cold = true) (coldReset_inv h) (domainReset_inv h)
    simpa [t] using this
  simp [ht]

@[simp] theorem wakeUp_inv (w : Wake) (p : SPort) : ((s.wakeUp w p).but Fld.unstored).Inv := by
  unfold State.wakeUp
  (repeat' split) <;> simp [h]

@[simp] theorem sleep_inv (to_ : ModState) : ((s.sleep to_).but Fld.unstored).Inv := by
  unfold State.sleep
  extract_lets d t u
  have ht : (t.but Fld.unstored).Inv := by simp [t, h]
  have hu : (u.but Fld.unstored).Inv := ite_inv (coldReset_inv ht) (domainReset_inv ht)
  split
  · simp [ht]
  · simp [hu]

@[simp] theorem orderSleep_inv (to_ : ModState) : ((s.orderSleep to_).but Fld.unstored).Inv := by
  unfold State.orderSleep
  extract_lets a
  split <;> simp [h]

@[simp] theorem writeDomCtl_inv (v : Word) : ((s.writeDomCtl v).but Fld.unstored).Inv := by
  unfold State.writeDomCtl
  split <;> simp [h]

@[simp] theorem abortSession_inv : (s.abortSession.but Fld.unstored).Inv := by
  unfold State.abortSession
  split
  · exact h
  · extract_lets t
    have ht : (t.but Fld.unstored).Inv := by simp [t, h]
    simp [ht]

@[simp] theorem restartCore_inv : (s.restartCore.but Fld.unstored).Inv := by
  unfold State.restartCore
  extract_lets d t u
  have hu : (u.but Fld.unstored).Inv := abortSession_inv (by simp [t, h])
  simp [hu]

@[simp] theorem ladderCore_inv (cause : Nat) : ((s.ladderCore cause).but Fld.unstored).Inv := by
  unfold State.ladderCore
  extract_lets w r t
  exact restartCore_inv (by simp [t, h])

@[simp] theorem ladderModule_inv (cause tries : Nat) : ((s.ladderModule cause tries).but Fld.unstored).Inv := by
  unfold State.ladderModule
  extract_lets w r t ops u
  have hu : (u.but Fld.unstored).Inv := beginBoot_inv (by simp [t, h]) _ _ _
  simp [hu]

@[simp] theorem ladder_inv (cause : Nat) : ((s.ladder cause).but Fld.unstored).Inv := by
  unfold State.ladder
  extract_lets w
  (repeat' split) <;> simp [h]

@[simp] theorem wdgTrip_inv (src : Src) (cause : Nat) : ((s.wdgTrip src cause).but Fld.unstored).Inv :=
  ladder_inv (by simp [h]) cause

@[simp] theorem wdgKey_inv (key : Nat) : ((s.wdgKey key).but Fld.unstored).Inv := by
  have hn (n : Nat) : ((if n < s.wdgWNow then s.drew.wdgTrip 2 3 else if n < s.wdgPNow then s.drew.service
      else s.drew.wdgTrip 0 1).but Fld.unstored).Inv := by
    (repeat' split) <;> simp [h]
  unfold State.wdgKey
  split
  · exact h
  · split
    · split
      · exact hn _
      · simp [h]
    · split <;> simp [h]

/-! ### Writes to the registers of D0, the image, the ring and the rest -/

@[simp] theorem keyprog_inv (authed : Bool) : ((s.keyprog authed).but Fld.unstored).Inv := by
  obtain ⟨hn, hr, hp, -⟩ := (but_inv_iff s).mp h
  unfold State.keyprog
  split
  · next hk =>
    have hl : (s.fuse.keys ++ [s.ring.key]).length ≤ 4 := by simp; omega
    exact (but_inv_iff _).mpr ⟨hn, hr, hp, hl⟩
  · exact h

@[simp] theorem raiseSv_inv : (s.raiseSv.but Fld.unstored).Inv := by
  obtain ⟨hn, hr, hp, hk⟩ := (but_inv_iff s).mp h
  unfold State.raiseSv
  split
  · exact (but_inv_iff _).mpr ⟨hn, hr, hp, hk⟩
  · exact h

@[simp] theorem writeImgCtl_inv (v : Word) : ((s.writeImgCtl v).but Fld.unstored).Inv := by
  unfold State.writeImgCtl
  extract_lets t u w
  have hw : (w.but Fld.unstored).Inv := by simp [w, u, t, but_ite, h]
  split <;> simp [hw]

@[simp] theorem writeCanCfg_inv (v : Word) : ((s.writeCanCfg v).but Fld.unstored).Inv := by
  unfold State.writeCanCfg
  extract_lets old t
  have ht : (t.but Fld.unstored).Inv := by simp [t, h]
  (repeat' split) <;> simp [h, ht]

@[simp] theorem writeRingCtl_inv (authed : Bool) (v : Word) : ((s.writeRingCtl authed v).but Fld.unstored).Inv := by
  unfold State.writeRingCtl
  extract_lets t u
  have ht : (t.but Fld.unstored).Inv := ite_inv (keyprog_inv h _) h
  have hu : (u.but Fld.unstored).Inv := by simp [u, but_ite, ht]
  split <;> simp [hu]

@[simp] theorem writeHct_inv (v : Word) : ((s.writeHct v).but Fld.unstored).Inv := by
  unfold State.writeHct
  simp [h]

@[simp] theorem writeGen_inv (v : Word) : ((s.writeGen v).but Fld.unstored).Inv := by
  unfold State.writeGen
  simp [h]

@[simp] theorem writeFc_inv (k : Fin 8) (v : Word) : ((s.writeFc k v).but Fld.unstored).Inv := by
  unfold State.writeFc
  simp [h]

@[simp] theorem writeD0_inv (r : Req) (b off : Nat) (v : Word) : ((s.writeD0 r b off v).but Fld.unstored).Inv := by
  unfold State.writeD0
  split <;> simp [but_ite, h]

@[simp] theorem writeImg_inv (off : Nat) (v : Word) : ((s.writeImg off v).but Fld.unstored).Inv := by
  unfold State.writeImg
  (repeat' split) <;> simp [h]

@[simp] theorem writeThr_inv (off : Nat) (v : Word) : ((s.writeThr off v).but Fld.unstored).Inv := by
  unfold State.writeThr
  (repeat' split) <;> simp [h]

@[simp] theorem writeRing_inv (authed : Bool) (off : Nat) (v : Word) : ((s.writeRing authed off v).but Fld.unstored).Inv := by
  unfold State.writeRing
  (repeat' split) <;> simp [h]

@[simp] theorem writeBlock_inv (r : Req) (authed : Bool) (b off : Nat) (v : Word) :
    ((s.writeBlock r authed b off v).but Fld.unstored).Inv := by
  unfold State.writeBlock
  (repeat' split) <;> simp [h]

@[simp] theorem writeWord_inv (r : Req) (authed : Bool) (a : Nat) (v : Word) :
    ((s.writeWord r authed a v).but Fld.unstored).Inv := by
  unfold State.writeWord
  split
  · unfold State.accessError
    simp [h]
  · simp [h]

end

theorem writeWords_inv (authed : Bool) (l : List Word) (addr : Nat) {s : State} (h : (s.but Fld.unstored).Inv) :
    ((s.writeWords authed addr l).but Fld.unstored).Inv := by
  induction l generalizing s addr with
  | nil => exact h
  | cons v l ih => exact ih _ (by simp [h])

@[simp] theorem asStored_inv {s : State} (a : Nat) (v : Word) (h : (s.but Fld.unstored).Inv) :
    ((s.asStored a v).but Fld.unstored).Inv := by
  unfold State.asStored
  extract_lets b
  clear_value b
  (repeat' split) <;> simp [h]

/-! ### The commands -/

/-- An answer's next state keeps the invariant. -/
def Ans.KeepsInv (a : Ans) : Prop := ∀ t, a = .next t → (t.but Fld.unstored).Inv

@[simp] theorem Ans.keepsInv_next {t : State} : Ans.KeepsInv (.next t) ↔ (t.but Fld.unstored).Inv :=
  ⟨fun h => h t rfl, fun h _ hu => by cases hu; exact h⟩

/-- Of the four stores, the command's footprint holds none. -/
def leavesStores (c : Instr) : Bool := (footprint c).all fun f => f != .rw && f != .nv && f != .prof && f != .fuse

/-- Setting fields aside twice is setting aside the more of them. -/
theorem but_but_of_subset {m n : List Fld} (hmn : ∀ f ∈ m, f ∈ n) (s : State) : (s.but m).but n = s.but n := by
  have keep {α : Type} (f : Fld) (r a : α) : (if f ∈ n then r else if f ∈ m then r else a) = if f ∈ n then r else a := by
    split
    · rfl
    · next hn => exact if_neg fun hm => hn (hmn f hm)
  simp only [State.but, keep]

/-- A command whose footprint leaves the stores keeps the invariant. -/
theorem keepsInv_of_leavesStores (c : Instr) (s : State) (hc : leavesStores c = true) (h : (s.but Fld.unstored).Inv) :
    Ans.KeepsInv (exec c s) := fun t ht => by
  have hsub : ∀ f ∈ footprint c, f ∈ Fld.unstored := by
    simpa [leavesStores, and_assoc] using hc
  have hs : (t.but (footprint c)).but Fld.unstored = (s.but (footprint c)).but Fld.unstored :=
    congrArg (·.but Fld.unstored) (exec_changes c s t ht)
  rw [but_but_of_subset hsub, but_but_of_subset hsub] at hs
  rwa [hs]

section
variable {s : State} (h : (s.but Fld.unstored).Inv)
include h

theorem activationQuiescentPoint_keepsInv (readErr prevReadErr : Bool) (failed : List Cell) :
    Ans.KeepsInv (execActivationQuiescentPoint readErr prevReadErr failed s) := by
  unfold execActivationQuiescentPoint
  split
  · next q _ =>
    split
    · extract_lets standby old t i t'
      have ht : (t'.but Fld.unstored).Inv := by simp [t', t, h]
      split
      · next d _ =>
        extract_lets u j u' k u''
        have hu : (u'.but Fld.unstored).Inv := by simp [u', u, ht]
        have hv : (u''.but Fld.unstored).Inv := by simp [u'', but_ite, hu]
        simp [hv]
      · simp [ht]
    · simpa using h
  · simpa using h

theorem nvsProgramComplete_keepsInv (ok : Bool) : Ans.KeepsInv (execNvsProgramComplete ok s) := by
  unfold execNvsProgramComplete
  split
  · next b page data _ _ =>
    split
    · extract_lets a i t u v
      have ht : (t.but Fld.unstored).Inv := by
        have := setNv_inv h (Memory.writeAll_wf s.nv a (data.toList.flatMap fun (w : Word) => wordBytes w.toNat) (nv_wf_of_inv h))
        simpa [t, but_inv_iff] using this
      have hu : (u.but Fld.unstored).Inv := by simp [u, h]
      split
      · simp [ht]
      · split <;> simp [but_ite, h, v, hu]
    · simpa using h
  · simpa using h

theorem nvsEraseComplete_keepsInv (ok : Bool) : Ans.KeepsInv (execNvsEraseComplete ok s) := by
  unfold execNvsEraseComplete
  split
  · split
    · (repeat' split) <;> simp [h]
    · simpa using h
  · simpa using h

theorem startup_keepsInv (cal : Bool × Bool) (errs : Fin 3) (failed : List Cell) (sensors : List Sensor) :
    Ans.KeepsInv (execStartup cal errs failed sensors s) := by
  unfold execStartup
  split
  · extract_lets t u v
    have hv : (v.but Fld.unstored).Inv := by simp [v, u, t, h]
    simp [hv]
  · simpa using h

theorem supplyStart_keepsInv (feed : Fin 8) (hv : Option SPort) (closed : Bool) :
    Ans.KeepsInv (execSupplyStart feed hv closed s) := by
  unfold execSupplyStart
  split
  · extract_lets d t cause u v
    have ht : (t.but Fld.unstored).Inv := by simp [t, h]
    have hv : (v.but Fld.unstored).Inv := by simp [v, u, ht]
    split <;> simp [ht, hv]
  · simpa using h

theorem resetLoopClosed_keepsInv (ohm : Nat) : Ans.KeepsInv (execResetLoopClosed ohm s) := by
  unfold execResetLoopClosed
  split
  · extract_lets d t u v
    have ht : (t.but Fld.unstored).Inv := by simp [t, h]
    have hu : (u.but Fld.unstored).Inv := ite_inv ht (domainReset_inv ht)
    have hv : (v.but Fld.unstored).Inv := by simp [v, hu]
    split <;> simp [ht, hv]
  · simpa using h

theorem resetLoopOpened_keepsInv (ohm : Nat) : Ans.KeepsInv (execResetLoopOpened ohm s) := by
  unfold execResetLoopOpened
  split
  · extract_lets d t
    have ht : (t.but Fld.unstored).Inv := by simp [t, h]
    (repeat' split) <;> simp [ht]
  · simpa using h

theorem powerFail_keepsInv (mv heldUs : Nat) (saveOk : Bool) : Ans.KeepsInv (execPowerFail mv heldUs saveOk s) := by
  unfold execPowerFail
  split
  · extract_lets early save r t v w u
    have ht : (t.but Fld.unstored).Inv := by simp [t, but_ite, h]
    have hu : (u.but Fld.unstored).Inv := domainReset_inv (by simp [v, ht])
    simp [hu]
  · simpa using h

theorem powerRestoredInHoldup_keepsInv (mv heldUs : Nat) : Ans.KeepsInv (execPowerRestoredInHoldup mv heldUs s) := by
  unfold execPowerRestoredInHoldup
  split
  · split
    · extract_lets r d u v
      have hu : (u.but Fld.unstored).Inv := by simp [u, h]
      have hv : (v.but Fld.unstored).Inv := by simp [v, hu]
      split <;> simp [hu, hv]
    · simpa using h
  · simpa using h

theorem logCommit_keepsInv (ok : Bool) : Ans.KeepsInv (execLogCommit ok s) := by
  unfold execLogCommit
  split
  · extract_lets t n u r l u' f l'
    have ht : (t.but Fld.unstored).Inv := by simp [t, h]
    have hu : (u.but Fld.unstored).Inv := foldl_inv _ _ (fun _ q hq => programRec_inv hq q) ht
    have hu' : (u'.but Fld.unstored).Inv := by simp [u', hu]
    have hf : (f.but Fld.unstored).Inv := by simp [f, ht]
    (repeat' split) <;> simp [ht, hu', hf]
  · simpa using h

theorem wdgClockMonitorTrip_keepsInv : Ans.KeepsInv (execWdgClockMonitorTrip s) := by
  unfold execWdgClockMonitorTrip
  split
  · extract_lets other w t
    have ht : (t.but Fld.unstored).Inv := by simp [t, h]
    (repeat' split) <;> simp [ht]
  · simpa using h

theorem pipelineWave_keepsInv (g : Group) (w : Wave) : Ans.KeepsInv (execPipelineWave g w s) := by
  unfold execPipelineWave
  split
  · extract_lets t
    have ht : (t.but Fld.unstored).Inv := by simp [t, h]
    (repeat' split) <;> simp [ht]
  · simpa using h

theorem priorityWave_keepsInv (g : Group) (w : Wave) : Ans.KeepsInv (execPriorityWave g w s) := by
  unfold execPriorityWave
  extract_lets x t
  have ht : (t.but Fld.unstored).Inv := by simp [t, but_ite, h]
  split <;> simp [ht]

theorem batPrechargeDone_keepsInv (p : BPort) (vStage vTerm : Int) : Ans.KeepsInv (execBatPrechargeDone p vStage vTerm s) := by
  unfold execBatPrechargeDone
  extract_lets x t u
  split
  · have hu : (u.but Fld.unstored).Inv := by simp [u, t, h]
    have hm := restoreHistory_inv (s := u.startMembers p.group) (by simp [hu]) p vTerm.toNat
    simpa using hm
  · simpa using h

theorem estSweepDone_keepsInv (p : BPort) : Ans.KeepsInv (execEstSweepDone p s) := by
  unfold execEstSweepDone
  extract_lets x y t
  split
  · simpa using h
  · split
    · simp [h]
    · extract_lets rhf gap jump conv takes u v
      have hu : (u.but Fld.unstored).Inv := by simp [u, h]
      have hv : (v.but Fld.unstored).Inv := ite_inv (c := takes = true) (putReg_inv hu _ _) hu
      split <;> simp [hv]

theorem socCorrection_keepsInv (p : BPort) (ev : Fin 5) (v : Int) : Ans.KeepsInv (execSocCorrection p ev v s) := by
  unfold execSocCorrection
  (repeat' split) <;> simp [h]

theorem ringWrite_keepsInv (f : Frame) : Ans.KeepsInv (execRingWrite f s) := by
  have hw := writeWords_inv (s.trailerOk f) (wordsOf f) (addrOf f) (s := s.accept f) (by simp [h])
  unfold execRingWrite State.request
  (repeat' split) <;> simp [h, hw]

theorem registerWrite_keepsInv (r : Req) (addr : BitVec 24) (size : Nat) (v : Word) :
    Ans.KeepsInv (execRegisterWrite r addr size v s) := by
  unfold execRegisterWrite
  split
  · simpa using h
  · split
    · unfold State.accessError
      simp [h]
    · simp [h]

/-- Every command keeps the stores canonical and programs at most four keys. -/
theorem exec_keepsInv (c : Instr) : Ans.KeepsInv (exec c s) := by
  cases c
  case activationQuiescentPoint e p f => exact activationQuiescentPoint_keepsInv h e p f
  case imgRaisesv r => exact Ans.keepsInv_next.mpr (viaService_inv r _ _ h (raiseSv_inv h))
  case nvsProgramComplete ok => exact nvsProgramComplete_keepsInv h ok
  case nvsEraseComplete ok => exact nvsEraseComplete_keepsInv h ok
  case domRun r f => exact Ans.keepsInv_next.mpr (viaService_inv r _ _ h (orderRun_inv h f))
  case domWatch r => exact Ans.keepsInv_next.mpr (viaService_inv r _ _ h (orderSleep_inv h _))
  case domDormant r => exact Ans.keepsInv_next.mpr (viaService_inv r _ _ h (orderSleep_inv h _))
  case idleToDormant =>
    simp only [exec, execIdleToDormant]
    split <;> simp [h]
  case supplyStart feed hv closed => exact supplyStart_keepsInv h feed hv closed
  case hvWake p ac mv t =>
    simp only [exec, execHvWake]
    (repeat' split) <;> simp [h]
  case wakeLoopRequest a b =>
    simp only [exec, execWakeLoopRequest]
    (repeat' split) <;> simp [h]
  case watchAlarm =>
    simp only [exec, execWatchAlarm]
    split <;> simp [h]
  case resetLoopClosed ohm => exact resetLoopClosed_keepsInv h ohm
  case resetLoopOpened ohm => exact resetLoopOpened_keepsInv h ohm
  case startup cal errs failed sensors => exact startup_keepsInv h cal errs failed sensors
  case powerFail mv t ok => exact powerFail_keepsInv h mv t ok
  case powerRestoredInHoldup mv t => exact powerRestoredInHoldup_keepsInv h mv t
  case holdupSpent =>
    simp only [exec, execHoldupSpent]
    (repeat' split) <;> simp [h]
  case safeLineReleased f =>
    simp only [exec, execSafeLineReleased]
    split <;> simp [h]
  case logCommit ok => exact logCommit_keepsInv h ok
  case wdgKeyWrite r key => exact Ans.keepsInv_next.mpr (viaService_inv r _ _ h (wdgKey_inv h _))
  case wdgExpiry =>
    simp only [exec, execWdgExpiry]
    split <;> simp [h]
  case wdgClockMonitorTrip => exact wdgClockMonitorTrip_keepsInv h
  case wdgHctWrite r v => exact Ans.keepsInv_next.mpr (viaService_inv r _ _ h (writeHct_inv h v))
  case pipelineWave g w => exact pipelineWave_keepsInv h g w
  case priorityWave g w => exact priorityWave_keepsInv h g w
  case batPrechargeDone p a b => exact batPrechargeDone_keepsInv h p a b
  case estSweepDone p => exact estSweepDone_keepsInv h p
  case socCorrection p ev v => exact socCorrection_keepsInv h p ev v
  case ringWrite f => exact ringWrite_keepsInv h f
  case ringKeyprog r authed => exact Ans.keepsInv_next.mpr (viaService_inv r _ _ h (keyprog_inv h _))
  case canCfgWrite r v => exact Ans.keepsInv_next.mpr (viaService_inv r _ _ h (writeCanCfg_inv h v))
  case registerWrite r addr size v => exact registerWrite_keepsInv h r addr size v
  all_goals exact keepsInv_of_leavesStores _ s rfl h

end

/-- Settles O59: the passing of time and every command keep the stores canonical, with at most four keys. -/
theorem invariantKept : Obligations.InvariantKept := by
  intro s t h hst
  rw [inv_iff_but] at h ⊢
  unfold step at hst
  split at hst
  · cases hst
    exact tick_inv h
  · next c l _ => exact exec_keepsInv (s := { s with pending := l }) (by simpa using h) c t hst

end Sys2Proof.Machine
end

section
/-!
PROOFS. The state after reset, the step with a command waiting, accesses while an image is applied, and the W1C registers.
-/

namespace Sys2Proof.Machine

/-- Settles O58: each store of the reset state is in its canonical form. -/
theorem resetInvariant : Obligations.ResetInvariant := by
  exact ⟨rfl, rfl, rfl, Nat.zero_le 4⟩

/-- Settles O57: the reset state read field by field. -/
theorem resetValues : Obligations.ResetValues := by
  have hflt (b : Blk) : State.reset.flt[b] = BlkFault.reset fsevReset[b] frtyReset[b] := by simp [State.reset]
  refine ⟨rfl, fun _ => rfl, fun _ => rfl, by decide, by decide, by decide, rfl, fun d => ?_, fun c => ?_, rfl, fun p => ?_, fun b => ?_⟩
  · simp [State.domOn, State.reset, DomRec.reset]
  · simp [State.reset, FlowCtx.freed]
  · simp [State.reset]
  · rw [hflt]
    exact ⟨rfl, rfl⟩

/-- Settles O56: by the definition of a step. -/
theorem stepRunsFront : Obligations.StepRunsFront := fun _ _ _ => rfl

/-! ### Accesses while an image is applied (R555) -/

/-- Every mapped block has one of five home domains. -/
theorem homeDomain_mem {b : Nat} (hb : b < 21) : homeDomain b ∈ [0, 1, 3, 10, 11] := by
  revert b
  decide

/-- The access error of a mapped address whose domain is on, while an image is applied. -/
theorem accessCause_applying {s : State} {a : Nat} (hi : s.img.asta = .applying) (ha : a / 0x10000 < 21)
    (hd : s.domOn (homeDomain (a / 0x10000)) = true) :
    s.accessCause a = if homeDomain (a / 0x10000) = 3 ∨ homeDomain (a / 0x10000) = 10 then some 5 else none := by
  simp [State.accessCause, hi, hd, ha]

/-- Settles O60: D3 and D10 answer with the access error, the others are served. -/
theorem accessWhileApplying : Obligations.AccessWhileApplying := by
  intro s r a v hi ha hs hd hal
  have hc := accessCause_applying hi ha hd
  refine ⟨fun hh => ?_, fun h3 h10 => ?_, homeDomain_mem ha⟩
  · rw [if_pos hh] at hc
    refine ⟨s.accessError 5 r a.toNat, ?_, rfl, rfl, rfl, rfl, by simp [State.readWord, hc], ?_⟩
    · unfold ChangesOnly State.accessError
      simp
    · simp [exec, execRegisterWrite, hs, hal, State.writeWord, hc]
  · exact ⟨hs, by rw [hc, if_neg (by simp [h3, h10])]⟩

/-! ### FST, write 1 to clear (R434, R564) -/

theorem bits_byte_getLsbD (v : Word) (i : Src) : (BitVec.ofNat 8 (v.bits 7 0)).getLsbD i.val = v.bit i.val := by
  have hi : i.val < 8 := i.isLt
  have hm := Nat.testBit_mod_two_pow v.toNat 8 i.val
  simpa [Word.bits, Word.bit, BitVec.getLsbD, hi] using hm

/-- Behind a write to FST a source stays raised but where the write has its bit and it does not occur in this iteration. -/
theorem w1c_raised (s : State) (b : Blk) (v : Word) (i : Src) :
    (s.w1c b v).raised b i = (s.raised b i && !(v.bit i.val && !s.flt[b].occNow.getLsbD i.val)) := by
  have hi : i.val < 8 := i.isLt
  by_cases hv : v.bits 7 0 = 0
  · have hb : v.bit i.val = false := by rw [← bits_byte_getLsbD, hv]; simp
    have he : s.w1c b v = s := if_pos hv
    simp [he, hb]
  · obtain ⟨t, hf, he⟩ := w1c_eq (s := s) (b := b) hv
    have ht : (s.w1c b v).flt[b].fst = s.flt[b].fst &&& ~~~s.w1cBits b v := by
      rw [he]
      split <;> exact hf
    unfold State.raised
    rw [ht, State.w1cBits]
    simp only [BitVec.getLsbD_and, BitVec.getLsbD_not, bits_byte_getLsbD, hi, decide_true, Bool.true_and]

/-- Settles O15: a write of 0 leaves the block as it was, and every other write clears bit by bit. -/
theorem writeOneToClear : Obligations.WriteOneToClear := by
  intro s r b hb hs hd
  have next (v : Word) := faultWrite_next r v hb hd (off := 0x0F00) (by decide) (by decide) hs
  refine ⟨?_, fun v => ?_⟩
  · obtain ⟨t, ht, -, hi⟩ := next 0
    exact ⟨t, congrArg Host.Outcome.next ht, hi⟩
  · obtain ⟨t, ht, -, hi⟩ := next v
    refine ⟨t, congrArg Host.Outcome.next ht, fun i => ?_⟩
    rw [hi, iterationEnds_raised, settle_raised]
    exact w1c_raised s b v i

end Sys2Proof.Machine
end

section
/-!
PROOFS. Commands that change one record of one cell, port or channel: what they make of a state is that state with another record put in
its place. The states that differ from `s` in one record at most are the range of that record's setter.
-/

namespace Sys2Proof.Machine

/-! ### One record put in its place -/

theorem vset_self {α : Type} {n : Nat} (v : Vector α n) (i : Fin n) : vset v i v[i.val] = v := by
  simp [vset]

theorem vset_vset {α : Type} {n : Nat} (v : Vector α n) (i : Fin n) (x y : α) : vset (vset v i x) i y = vset v i y := by
  simp [vset]

@[simp] theorem setSrc_self (s : State) (p : SPort) : s.setSrc p s.src[p] = s := by simp [State.setSrc, vset_self]
@[simp] theorem setBat_self (s : State) (p : BPort) : s.setBat p s.bat[p] = s := by simp [State.setBat, vset_self]
@[simp] theorem setChg_self (s : State) (p : BPort) : s.setChg p s.chg[p] = s := by simp [State.setChg, vset_self]
@[simp] theorem setEst_self (s : State) (p : BPort) : s.setEst p s.est[p] = s := by simp [State.setEst, vset_self]
@[simp] theorem setFdr_self (s : State) (p : SPort) : s.setFdr p s.fdr[p] = s := by simp [State.setFdr, vset_self]
@[simp] theorem setCell_self (s : State) (c : Cell) : s.setCell c s.cells[c] = s := by simp [State.setCell, vset_self]

@[simp] theorem setSrc_setSrc (s : State) (p : SPort) (x y : SrcRec) : (s.setSrc p x).setSrc p y = s.setSrc p y := by
  simp [State.setSrc, vset_vset]
@[simp] theorem setEst_setEst (s : State) (p : BPort) (x y : EstRec) : (s.setEst p x).setEst p y = s.setEst p y := by
  simp [State.setEst, vset_vset]

theorem eq_setSrc_of_mem {s t : State} {p : SPort} (h : t ∈ Set.range (s.setSrc p)) : t = s.setSrc p t.src[p] := by
  obtain ⟨x, rfl⟩ := h
  rw [setSrc_get]
theorem eq_setChg_of_mem {s t : State} {p : BPort} (h : t ∈ Set.range (s.setChg p)) : t = s.setChg p t.chg[p] := by
  obtain ⟨x, rfl⟩ := h
  rw [setChg_get]
theorem eq_setEst_of_mem {s t : State} {p : BPort} (h : t ∈ Set.range (s.setEst p)) : t = s.setEst p t.est[p] := by
  obtain ⟨x, rfl⟩ := h
  rw [setEst_get]
theorem eq_setFdr_of_mem {s t : State} {p : SPort} (h : t ∈ Set.range (s.setFdr p)) : t = s.setFdr p t.fdr[p] := by
  obtain ⟨x, rfl⟩ := h
  exact congrArg (s.setFdr p) (vset_same s.fdr p x).symm
theorem eq_setCell_of_mem {s t : State} {c : Cell} (h : t ∈ Set.range (s.setCell c)) : t = s.setCell c t.cells[c] := by
  obtain ⟨x, rfl⟩ := h
  rw [setCell_get]

@[simp] theorem self_mem_setSrc (s : State) (p : SPort) : s ∈ Set.range (s.setSrc p) := ⟨_, setSrc_self s p⟩
@[simp] theorem self_mem_setBat (s : State) (p : BPort) : s ∈ Set.range (s.setBat p) := ⟨_, setBat_self s p⟩
@[simp] theorem self_mem_setChg (s : State) (p : BPort) : s ∈ Set.range (s.setChg p) := ⟨_, setChg_self s p⟩
@[simp] theorem self_mem_setEst (s : State) (p : BPort) : s ∈ Set.range (s.setEst p) := ⟨_, setEst_self s p⟩
@[simp] theorem self_mem_setFdr (s : State) (p : SPort) : s ∈ Set.range (s.setFdr p) := ⟨_, setFdr_self s p⟩
@[simp] theorem self_mem_setCell (s : State) (c : Cell) : s ∈ Set.range (s.setCell c) := ⟨_, setCell_self s c⟩

/-! ### The operations on one record -/

@[simp] theorem startQualify_mem (s : State) (p : SPort) : s.startQualify p ∈ Set.range (s.setSrc p) := ⟨_, rfl⟩

@[simp] theorem wantSweep_mem (s : State) (p : SPort) : s.wantSweep p ∈ Set.range (s.setSrc p) := by
  unfold State.wantSweep
  extract_lets x late
  (repeat' split) <;> simp [-Set.mem_range, Set.mem_range_self]

theorem sweepSrc_mem (s : State) (p : SPort) : s.sweepSrc p ∈ Set.range (s.setSrc p) := by
  unfold State.sweepSrc
  split
  · exact wantSweep_mem s p
  · exact self_mem_setSrc s p

theorem rearmSrc_mem (s : State) (p : SPort) : s.rearmSrc p ∈ Set.range (s.setSrc p) := by
  unfold State.rearmSrc
  extract_lets x
  split
  · exact Set.mem_range_self _
  · exact self_mem_setSrc s p

theorem connect_mem (s : State) (p : BPort) : s.connect p ∈ Set.range (s.setBat p) := by
  unfold State.connect
  split
  · exact Set.mem_range_self _
  · exact self_mem_setBat s p

theorem rearmBat_mem (s : State) (p : BPort) : s.rearmBat p ∈ Set.range (s.setBat p) := by
  unfold State.rearmBat
  split
  · exact Set.mem_range_self _
  · exact self_mem_setBat s p

theorem writeChgPctl_eq_mem (s : State) (p : BPort) : s.writeChgPctl p 1 ∈ Set.range (s.setChg p) := by
  by_cases h : s.portFree p.port = true
  · rw [writeChgPctl_eq h]
    exact Set.mem_range_self _
  · have he : s.writeChgPctl p 1 = s := if_neg h
    rw [he]
    exact self_mem_setChg s p

@[simp] theorem startSweep_mem (s : State) (p : BPort) : s.startSweep p ∈ Set.range (s.setEst p) := by
  unfold State.startSweep
  extract_lets x
  (repeat' split) <;> simp [-Set.mem_range, Set.mem_range_self]

theorem setEst_mem_of_mem {s t : State} {p : BPort} {x : EstRec} (h : t ∈ Set.range ((s.setEst p x).setEst p)) :
    t ∈ Set.range (s.setEst p) := by
  obtain ⟨y, rfl⟩ := h
  rw [setEst_setEst]
  exact Set.mem_range_self _

theorem endKnee_mem (s : State) (p : BPort) : s.endKnee p ∈ Set.range (s.setEst p) := by
  unfold State.endKnee
  split
  · exact Set.mem_range_self _
  · exact self_mem_setEst s p

theorem orderSweep_mem (s : State) (p : BPort) : s.orderSweep p ∈ Set.range (s.setEst p) := by
  unfold State.orderSweep
  split
  · exact self_mem_setEst s p
  · exact setEst_mem_of_mem (startSweep_mem _ p)

theorem abortEst_mem (s : State) (p : BPort) : s.abortEst p ∈ Set.range (s.setEst p) := by
  unfold State.abortEst
  (repeat' split) <;> simp [-Set.mem_range, Set.mem_range_self]

/-! ### The stage of a port -/

/-- A port's stage put back leaves the state as it is. -/
theorem setStage_self {s : State} {p : Port} {x : StageRec} (h : s.stage? p = some x) : s.setStage p x = s := by
  unfold State.stage? at h
  unfold State.setStage
  split at h <;> cases h
  · exact setSrc_self s _
  · exact setBat_self s _

/-- Every state is one with some stage put in place: a port without stage record has none to replace. -/
theorem exists_setStage_self (s : State) (p : Port) : ∃ x, s = s.setStage p x := by
  cases h : s.stage? p with
  | some x => exact ⟨x, (setStage_self h).symm⟩
  | none =>
    refine ⟨s.src[(0 : SPort)].stage, ?_⟩
    unfold State.stage? at h
    unfold State.setStage
    split at h
    · cases h
    · cases h
    · simp

/-! ### The writes that wait for the iteration -/

/-- A write that waits leaves all but the queue; at the iteration it acts, and the flows follow. -/
theorem carried_effect {s t : State} {r : Req} {a : Nat} {v : Word} {u : State} (hs : s.serves a) (hu : s.writeCarried a v = u)
    (ht : Host.Outcome.next (s.viaService r a fun s => s.carry a v) = (.next t : Ans)) :
    ChangesOnly [.deferred] s t ∧ (s.deferred = [] → t.iterate = u.settle.iterationEnds) := by
  rw [viaService_serves s r _ _ hs] at ht
  cases ht
  refine ⟨by simp [ChangesOnly, State.carry], fun hd => ?_⟩
  rw [carry_iterate s a v hd, hu]

/-- The same, where the write puts one record in place. -/
theorem carried_one {α : Type} {s t : State} {r : Req} {a : Nat} {v : Word} {f : α → State} (hs : s.serves a)
    (hu : s.writeCarried a v ∈ Set.range f) (ht : Host.Outcome.next (s.viaService r a fun s => s.carry a v) = (.next t : Ans)) :
    ChangesOnly [.deferred] s t ∧ (s.deferred = [] → ∃ x, t.iterate = ((f x).settle).iterationEnds) := by
  obtain ⟨x, hx⟩ := hu
  obtain ⟨hc, hi⟩ := carried_effect hs hx.symm ht
  exact ⟨hc, fun hd => ⟨x, hi hd⟩⟩

/-! ### The commands -/

/-- The next state of an answer is one of a set. -/
def Ans.Within (m : Set State) (a : Ans) : Prop := ∀ t, a = .next t → t ∈ m

@[simp] theorem Ans.within_next {m : Set State} {t : State} : Ans.Within m (.next t) ↔ t ∈ m :=
  ⟨fun h => h t rfl, fun h _ hu => by cases hu; exact h⟩

section
variable (s : State)

theorem shedParked_within (c : Cell) (i : Int) : Ans.Within (Set.range (s.setCell c)) (exec (.shedParked c i) s) := by
  simp only [exec, execShedParked]
  split <;> simp [-Set.mem_range, Set.mem_range_self]

theorem srcPresenceMet_within (p : SPort) (a b : Nat) : Ans.Within (Set.range (s.setSrc p)) (exec (.srcPresenceMet p a b) s) := by
  simp only [exec, execSrcPresenceMet]
  split
  · obtain ⟨x, hx⟩ := startQualify_mem s p
    rw [← hx]
    simp [-Set.mem_range, Set.mem_range_self]
  · simp [-Set.mem_range]

theorem srcStabilityRestart_within (p : SPort) (a b : Nat) :
    Ans.Within (Set.range (s.setSrc p)) (exec (.srcStabilityRestart p a b) s) := by
  simp only [exec, execSrcStabilityRestart]
  split <;> simp [-Set.mem_range, Set.mem_range_self]

theorem mpptPerturb_within (p : SPort) (a : Nat) : Ans.Within (Set.range (s.setSrc p)) (exec (.mpptPerturb p a) s) := by
  simp only [exec, execMpptPerturb]
  split <;> simp [-Set.mem_range, Set.mem_range_self]

theorem mpptSweepStart_within (p : SPort) (a : Nat) : Ans.Within (Set.range (s.setSrc p)) (exec (.mpptSweepStart p a) s) := by
  simp only [exec, execMpptSweepStart]
  split <;> simp [-Set.mem_range]

theorem mpptSweepDone_within (p : SPort) (a : Nat) : Ans.Within (Set.range (s.setSrc p)) (exec (.mpptSweepDone p a) s) := by
  simp only [exec, execMpptSweepDone]
  (repeat' split) <;> simp [-Set.mem_range, Set.mem_range_self]

theorem flapClear_within (p : SPort) : Ans.Within (Set.range (s.setSrc p)) (exec (.flapClear p) s) := by
  simp only [exec, execFlapClear]
  split <;> simp [-Set.mem_range, Set.mem_range_self]

theorem equalizeDue_within (p : BPort) : Ans.Within (Set.range (s.setChg p)) (exec (.equalizeDue p) s) := by
  simp only [exec, execEqualizeDue]
  (repeat' split) <;> simp [-Set.mem_range, Set.mem_range_self]

theorem nickelHoldoffEnd_within (p : BPort) : Ans.Within (Set.range (s.setChg p)) (exec (.nickelHoldoffEnd p) s) := by
  simp only [exec, execNickelHoldoffEnd]
  split <;> simp [-Set.mem_range, Set.mem_range_self]

theorem estSweepStart_within (p : BPort) : Ans.Within (Set.range (s.setEst p)) (exec (.estSweepStart p) s) :=
  Ans.within_next.mpr (startSweep_mem s p)

theorem estSweepPauseExpiry_within (p : BPort) : Ans.Within (Set.range (s.setEst p)) (exec (.estSweepPauseExpiry p) s) := by
  simp only [exec, execEstSweepPauseExpiry]
  split <;> simp [-Set.mem_range, Set.mem_range_self]

theorem kneeBaseline_within (p : BPort) (a b : Int) : Ans.Within (Set.range (s.setEst p)) (exec (.kneeBaseline p a b) s) := by
  simp only [exec, execKneeBaseline]
  split
  · exact Ans.within_next.mpr (setEst_mem_of_mem (endKnee_mem _ p))
  · simp [-Set.mem_range]

theorem feederLimiting_within (p : SPort) (a b : Nat) : Ans.Within (Set.range (s.setFdr p)) (exec (.feederLimiting p a b) s) := by
  simp only [exec, execFeederLimiting]
  (repeat' split) <;> simp [-Set.mem_range, Set.mem_range_self]

theorem feederYield_within (p : SPort) (a b : Nat) : Ans.Within (Set.range (s.setFdr p)) (exec (.feederYield p a b) s) := by
  simp only [exec, execFeederYield]
  (repeat' split) <;> simp [-Set.mem_range, Set.mem_range_self]

end

theorem dischargeElementHoldEnd_stage {s t : State} {p : Port} (h : exec (.dischargeElementHoldEnd p) s = .next t) :
    ∃ x, t = s.setStage p x := by
  simp only [exec, execDischargeElementHoldEnd] at h
  split at h
  · split at h <;> cases h
    · exact ⟨_, rfl⟩
    · exact exists_setStage_self s p
  · cases h
    exact exists_setStage_self s p

/-- A drain that is no retry ends with its stage alone changed. -/
theorem portDischargeEnd_stage {s t : State} {p : Port} {v : Nat} (ha : ∀ x, s.stage? p = some x → x.again = false)
    (h : exec (.portDischargeEnd p v) s = .next t) : ∃ x, t = s.setStage p x := by
  simp only [exec, execPortDischargeEnd] at h
  split at h
  · next x hx =>
    have hn : ¬(x.again && !x.stuck) = true := by simp [ha x hx]
    split at h <;> cases h
    · exact ⟨_, if_neg hn⟩
    · exact exists_setStage_self s p
  · cases h
    exact exists_setStage_self s p

/-- Settles O54: each command puts one record in place, at once or at the iteration. -/
theorem recordFrames : Obligations.RecordFrames := by
  intro s t
  refine ⟨fun c i h => eq_setCell_of_mem (shedParked_within s c i t h), fun p a b h => eq_setSrc_of_mem ?_, fun r p c hs hc h => ?_,
    fun r p c hs hc h => ?_, fun p h => eq_setChg_of_mem ?_, fun r p hs h => ?_, fun p a b h => eq_setEst_of_mem ?_,
    fun r p c hs hc h => ?_, fun p a b h => eq_setFdr_of_mem ?_, fun p h => dischargeElementHoldEnd_stage h,
    fun p v ha h => portDischargeEnd_stage ha h⟩
  · rcases h with h | h | h | h | h | h
    · exact srcPresenceMet_within s p a b t h
    · exact srcStabilityRestart_within s p a b t h
    · exact mpptPerturb_within s p a t h
    · exact mpptSweepStart_within s p a t h
    · exact mpptSweepDone_within s p a t h
    · exact flapClear_within s p t h
  · rcases hc with rfl | rfl
    · exact carried_one hs (writeCarried_srcPctl s p 1 ▸ writePctl_rearm s p ▸ rearmSrc_mem s p) h
    · exact carried_one hs (writeCarried_srcPctl s p 4 ▸ writePctl_sweep s p ▸ sweepSrc_mem s p) h
  · rcases hc with rfl | rfl
    · exact carried_one hs (writeCarried_batPctl s p 2 ▸ writeBatPctl_connect s p ▸ connect_mem s p) h
    · exact carried_one hs (writeCarried_batPctl s p 4 ▸ writeBatPctl_rearm s p ▸ rearmBat_mem s p) h
  · rcases h with h | h
    · exact equalizeDue_within s p t h
    · exact nickelHoldoffEnd_within s p t h
  · exact carried_one hs (writeCarried_chgPctl s p 1 ▸ writeChgPctl_eq_mem s p) h
  · rcases h with h | h | h
    · exact estSweepStart_within s p t h
    · exact estSweepPauseExpiry_within s p t h
    · exact kneeBaseline_within s p a b t h
  · rcases hc with rfl | rfl
    · exact carried_one hs (writeCarried_estPctl s p 1 ▸ writeEstPctl_sweep s p ▸ orderSweep_mem s p) h
    · exact carried_one hs (writeCarried_estPctl s p 2 ▸ writeEstPctl_abort s p ▸ abortEst_mem s p) h
  · rcases h with h | h
    · exact feederLimiting_within s p a b t h
    · exact feederYield_within s p a b t h

end Sys2Proof.Machine
end

section
/-!
PROOFS. The store's frame fails for a WRITE frame: where the erase in progress stands at a sector beyond the store, the restart that a write
of DOM_CTL brings breaks it off there, beyond the range that is exempted.
-/

namespace Sys2Proof.Machine

/-- What an erase of the log broken off by a sleep leaves in the first byte of its sector. -/
theorem orderSleep_spoils {s : State} (hst : s.dom.st = .standby) (hsess : s.img.sess = .closed) (hreq : s.img.req = none)
    (hwake : s.wakeCause = false) (hwait : s.wakeWaits = none) (hops : s.nvs.ops = [.logErase]) (hrun : s.nvs.started = true) :
    Memory.read (s.orderSleep .dormant).nv (4096 * (0x40 + s.nvs.sector)) = BitVec.ofNat 8 (s.freeAt 0) := by
  have hsleep : s.orderSleep .dormant = s.sleep .dormant := if_pos ⟨hst, hsess, hreq, hwake, .inl rfl⟩
  obtain ⟨u, hu⟩ : ∃ u, u = { s with dom := { s.dom with st := .dormant } }.saveSlot s.olderSlot true := ⟨_, rfl⟩
  have hnv : (s.sleep .dormant).nv = u.finishProgram.nv := by
    have hw : u.wakeWaits = none := by rw [hu]; exact hwait
    unfold State.sleep
    rw [← hu]
    simp only [hw, if_true]
    rfl
  have hfin : u.finishProgram.nv = Memory.fill s.nv (4096 * (0x40 + s.nvs.sector)) ((List.range 4096).map fun i => BitVec.ofNat 8 (s.freeAt i)) := by
    have ho : u.nvs.ops = [.logErase] := by rw [hu]; exact hops
    have hr : u.nvs.started = true := by rw [hu]; exact hrun
    unfold State.finishProgram
    simp only [ho, hr, if_true]
    rw [hu]
    rfl
  have hread := Memory.read_fill s.nv (4096 * (0x40 + s.nvs.sector)) 0 ((List.range 4096).map fun i => BitVec.ofNat 8 (s.freeAt i)) (by simp)
  rw [hsleep, hnv, hfin]
  simpa using hread

/-- A module in Standby on the ring whose erase of the log stands one sector beyond the store, with either byte there. -/
def beyondStore (erased : Bool) : State :=
  { Tests.node 1 2 with
    dom := { (Tests.node 1 2).dom with st := .standby }
    nvs := { (Tests.node 1 2).nvs with ops := [.logErase], started := true, sector := 0x40 }
    nv := if erased then [] else [(0x80000, 0)] }

/-- The host's WRITE of DOM_CTL that orders Dormant. -/
def orderFrame : Frame := Tests.writeOf 0x010004 [4]

/-- The module takes the frame for execution. -/
theorem orderFrame_taken (b : Bool) : (beyondStore b).takesHost orderFrame 0x11 = true ∧ (beyondStore b).authOk orderFrame = true ∧
    (beyondStore b).serviceRuns = true := by
  revert b
  decide +kernel

theorem orderFrame_words : addrOf orderFrame = 0x010004 ∧ wordsOf orderFrame = [4] ∧ addrOk (addrOf orderFrame) (wordsOf orderFrame).length = true ∧
    (bodyOf orderFrame).length % 4 = 0 := by decide +kernel

/-- Behind the frame's acceptance, the module may sleep, and its erase is as it was. -/
theorem orderFrame_accepted (b : Bool) : let s := (beyondStore b).accept orderFrame
    s.dom.st = .standby ∧ s.img.sess = .closed ∧ s.img.req = none ∧ s.wakeCause = false ∧ s.wakeWaits = none ∧
      s.nvs.ops = [.logErase] ∧ s.nvs.started = true ∧ s.nvs.sector = 0x40 ∧ s.freeN = 0 ∧ s.accessCause 0x010004 = none := by
  revert b
  decide +kernel

/-- A register of D0 that no meeting point carries is written at once. -/
theorem writeBlock_d0 (s : State) (r : Req) (authed : Bool) {b off : Nat} (v : Word) (hc : carries b off = false) (hb : b < 4) :
    s.writeBlock r authed b off v = s.writeD0 r b off v := by
  unfold State.writeBlock
  rw [if_neg (by simp [hc]), if_pos hb]

theorem writeD0_domCtl (s : State) (r : Req) (v : Word) : s.writeD0 r 1 4 v = s.writeDomCtl v := rfl
theorem writeDomCtl_dormant (s : State) : s.writeDomCtl 4 = s.orderSleep .dormant := rfl

/-- The word of DOM_CTL written orders Dormant. -/
theorem writeWord_dormant {u : State} (authed : Bool) (hacc : u.accessCause 0x010004 = none) :
    u.writeWord .host authed 0x010004 4 = u.orderSleep .dormant := by
  unfold State.writeWord
  rw [hacc]
  exact ((writeBlock_d0 u .host authed 4 (by decide) (by decide)).trans (writeD0_domCtl u .host 4)).trans (writeDomCtl_dormant u)

theorem writeWords_one (s : State) (authed : Bool) (a : Nat) (v : Word) :
    s.writeWords authed a [v] = (s.writeWord .host authed a v).settle := rfl

/-- Behind the frame the store's byte beyond the store is the free one, whatever it was. -/
theorem orderFrame_spoils (b : Bool) : ∃ t, exec (.ringWrite orderFrame) (beyondStore b) = .next t ∧
    Memory.read t.nv 0x80000 = BitVec.ofNat 8 (Config.freeNat 0) := by
  obtain ⟨htakes, hauth, hserv⟩ := orderFrame_taken b
  obtain ⟨haddr, hwords, hok, hlen⟩ := orderFrame_words
  obtain ⟨hst, hsess, hreq, hwake, hwait, hops, hrun, hsec, hfree, hacc⟩ := orderFrame_accepted b
  obtain ⟨u, hu⟩ : ∃ u, u = (beyondStore b).accept orderFrame := ⟨_, rfl⟩
  rw [← hu] at hst hsess hreq hwake hwait hops hrun hsec hfree hacc
  have hread := orderSleep_spoils hst hsess hreq hwake hwait hops hrun
  rw [hsec, State.freeAt, hfree] at hread
  have hwrite (authed : Bool) : u.writeWords authed 0x010004 [4] = (u.orderSleep .dormant).settle := by
    rw [writeWords_one, writeWord_dormant authed hacc]
  refine ⟨((u.orderSleep .dormant).settle).answer orderFrame ((beyondStore b).answerFrame orderFrame 0x12 (replyPayload 0 [])), ?_, ?_⟩
  · have hbad : ¬(addrOk 0x010004 ([4] : List Word).length = false ∨ (bodyOf orderFrame).length % 4 ≠ 0) := by
      rw [haddr, hwords] at hok
      simp only [hok, hlen, Bool.true_eq_false, ne_eq, not_true_eq_false, or_self, not_false_eq_true]
    simp only [exec, execRingWrite, State.request, htakes, hauth, hserv, if_neg hbad, haddr, hwords, ← hu, hwrite, Bool.true_eq_false,
      if_false]
  · have hnv : (((u.orderSleep .dormant).settle).answer orderFrame
        ((beyondStore b).answerFrame orderFrame 0x12 (replyPayload 0 []))).nv = (u.orderSleep .dormant).nv :=
      but_nv (fs := .ring :: reactions) (by simp) (by decide)
    rw [hnv]
    exact hread

/-- Refutes O55: a WRITE frame that orders Dormant breaks off an erase beyond the store, whose byte there becomes the free one; of a byte
0xFF and of a byte 0 there, one has changed. -/
theorem not_storeFrame : ¬ Obligations.StoreFrame := by
  intro h
  have same (b : Bool) : Memory.read (beyondStore b).nv 0x80000 = BitVec.ofNat 8 (Config.freeNat 0) := by
    obtain ⟨t, ht, hread⟩ := orderFrame_spoils b
    rw [← hread]
    exact (h _ _ t 0x80000 ht (by simp [State.storedBy])).symm
  have he : Memory.read (beyondStore true).nv 0x80000 = Memory.read (beyondStore false).nv 0x80000 := (same true).trans (same false).symm
  exact absurd he (by decide)

end Sys2Proof.Machine
end

section
/-!
PROOFS. The update session: what opens it, programs a page, closes it and ends it (R409-R411).
-/

namespace Sys2Proof.Machine

/-! ### The boot record written -/

/-- The writing of the boot record leaves every part of the image's record but the boot record and its marks. -/
theorem writeBoot_field {α : Type} (f : ImgRec → α) (s : State)
    (hf : ∀ (i : ImgRec) x y z, f { i with boot := x, bootDue := y, bootAt := z } = f i) : f s.writeBoot.img = f s.img := by
  unfold State.writeBoot
  split
  · exact hf s.img s.img.boot true s.img.bootAt
  · exact hf s.img _ _ _

@[simp] theorem writeBoot_banks (s : State) : s.writeBoot.img.banks = s.img.banks := writeBoot_field (·.banks) s fun _ _ _ _ => rfl
@[simp] theorem writeBoot_sess (s : State) : s.writeBoot.img.sess = s.img.sess := writeBoot_field (·.sess) s fun _ _ _ _ => rfl
@[simp] theorem writeBoot_useq (s : State) : s.writeBoot.img.useq = s.img.useq := writeBoot_field (·.useq) s fun _ _ _ _ => rfl
@[simp] theorem writeBoot_trial (s : State) : s.writeBoot.img.trial = s.img.trial := writeBoot_field (·.trial) s fun _ _ _ _ => rfl
@[simp] theorem writeBoot_trialStarts (s : State) : s.writeBoot.img.trialStarts = s.img.trialStarts :=
  writeBoot_field (·.trialStarts) s fun _ _ _ _ => rfl
@[simp] theorem writeBoot_nvs (s : State) : s.writeBoot.nvs = s.nvs := but_nvs (fs := [.img]) (by simp) (by decide)

/-! ### Operations asked of the store -/

/-- An operation that the controller does not refuse waits behind those asked for before. -/
theorem askStore_ops {s : State} {o : NvOp} (h : s.refusesOp o = false) :
    (s.askStore o).nvs.ops = s.nvs.ops ++ [o] ∧ (s.askStore o).img = s.img := by
  unfold State.askStore
  rw [if_neg (by simp [h])]
  split
  · next hn => exact ⟨by simp [hn], rfl⟩
  · exact ⟨rfl, rfl⟩

/-- A refused one is NVS source 5 of its region. -/
theorem askStore_refused {s : State} {o : NvOp} (h : s.refusesOp o = true) : s.askStore o = s.occur bNVS 5 o.region := if_pos h

/-! ### The bank under update -/

theorem setBank_get (s : State) (b : Side) (x : BankRec) : (s.setBank b x).img.banks[b] = x := vset_same s.img.banks b x

/-- The session dropped leaves the bank Invalid. -/
theorem dropSession_ends (s : State) :
    s.dropSession.img.sess = .closed ∧ s.dropSession.img.banks[s.inactive].st = .invalid := by
  unfold State.dropSession
  extract_lets b t u
  refine ⟨by simp [u, State.setBank], ?_⟩
  rw [writeBoot_banks, setBank_get]

section
variable {s : State} (hbusy : s.updBusy = false)
include hbusy

theorem updOpen_opens (hsess : s.img.sess = .closed) (htrial : s.img.trial = false) (hreq : s.img.req = none) :
    s.updOpen.img.sess = .erasing ∧ s.updOpen.img.banks[s.inactive].st = .writing ∧
      s.updOpen.nvs.ops = s.nvs.ops ++ [.eraseBank s.inactive] ∧ s.updOpen.img.udone = false := by
  unfold State.updOpen
  rw [if_neg (by simp [hbusy]), if_neg (by simp [hsess]), if_neg (by simp [htrial]), if_neg (by simp [hreq])]
  extract_lets b rec t u
  have hbank : t.img.banks[b].st = .writing := by
    rw [show t.img.banks = _ from writeBoot_banks _, setBank_get]
  have hops : t.nvs.ops = s.nvs.ops := by simp [t, State.setBank]
  obtain ⟨ho, hi⟩ := askStore_ops (s := State.updStart { t with img := { t.img with sess := .erasing, pages := [] } }) (o := .eraseBank b) (by
    show (t.img.banks[b].st == .active) = false
    rw [hbank]
    rfl)
  rw [ho, hi]
  exact ⟨rfl, hbank, congrArg (· ++ _) hops, rfl⟩

/-- A page not yet programmed in an open session goes to the store. -/
theorem updProgram_asks {page : Fin 512} (hsess : s.img.sess = .opened) (hpage : s.img.pages.contains page = false) :
    s.updProgram page = State.askStore (State.updStart { s with img := { s.img with upage := page.val } })
      (.program s.inactive page s.img.pbuf) := by
  unfold State.updProgram
  rw [if_neg (by simp [hbusy])]
  exact (if_neg (by simp [hsess])).trans (if_neg (by rw [Bool.not_eq_true]; exact hpage))

theorem updClose_passes (hsess : s.img.sess = .opened) (hcode : s.bankCode s.inactive = 0) :
    s.updClose.img.sess = .closed ∧ s.updClose.img.banks[s.inactive].st = .valid ∧ s.updClose.img.uresult = 0 ∧
      s.updClose.img.udone = true ∧ s.updClose.img.useq = (s.img.useq + 1) % 256 := by
  unfold State.updClose
  rw [if_neg (by simp [hbusy]), if_neg (by simp [hsess])]
  extract_lets b code i t
  rw [if_pos hcode]
  have he (x : BankRec) : ((t.setBank b x).writeBoot.updResult 0).img.banks[b] = x := by
    rw [show ((t.setBank b x).writeBoot.updResult 0).img.banks = _ from writeBoot_banks _, setBank_get]
  refine ⟨by simp [State.updResult, State.setBank, t, i], ?_, rfl, rfl, by simp [State.updResult, State.setBank, t, i]⟩
  rw [he]

/-- A close whose check fails: the bank is Invalid with the code, and IMG source 2 occurs. -/
theorem updClose_fails (hsess : s.img.sess = .opened) (hcode : s.bankCode s.inactive ≠ 0) :
    ∃ u : State, s.updClose = u.occur bIMG 2 0 ∧ u.img.sess = .closed ∧ u.img.banks[s.inactive].st = .invalid ∧
      u.img.banks[s.inactive].cause = s.bankCode s.inactive ∧ u.img.uresult = s.bankCode s.inactive ∧ u.img.udone = true := by
  unfold State.updClose
  rw [if_neg (by simp [hbusy]), if_neg (by simp [hsess])]
  extract_lets b code i t
  have he : ((t.invalidBank b code).writeBoot.updResult code).img.banks = (t.invalidBank b code).img.banks := writeBoot_banks _
  have hb : ((t.invalidBank b code).writeBoot.updResult code).img.banks[b] = { t.img.banks[b] with st := .invalid, cause := code } := by
    rw [he, State.invalidBank, setBank_get]
  refine ⟨_, if_neg hcode, by simp [State.updResult, State.invalidBank, State.setBank, t, i], ?_, ?_, rfl, rfl⟩
  · rw [hb]
  · rw [hb]

theorem updAbort_ends (hsess : s.img.sess = .opened) :
    s.updAbort.img.sess = .closed ∧ s.updAbort.img.banks[s.inactive].st = .invalid ∧ s.updAbort.img.uresult = 0 ∧
      s.updAbort.img.udone = true := by
  obtain ⟨hs, hb⟩ := dropSession_ends s
  unfold State.updAbort
  rw [if_neg (by simp [hbusy]), if_neg (by simp [hsess])]
  exact ⟨hs, hb, rfl, rfl⟩

end

/-- Settles O3: an op of the session after the other. -/
theorem imageUpdate : Obligations.ImageUpdate := by
  have next {s : State} (r : Req) (f : State → State) (hs : s.serves imgUpdAt) :
      (Host.Outcome.next (s.viaService r imgUpdAt f) : Ans) = .next (f s) :=
    congrArg Host.Outcome.next (viaService_serves s r _ f hs)
  refine ⟨fun s r hs hb hsess htrial hreq => ⟨_, next r _ hs, updOpen_opens hb hsess htrial hreq⟩,
    fun s r page hs hb hsess hpage => ⟨fun hact => ?_, fun hact => ?_⟩,
    fun s r hs hb hsess hcode => ⟨_, next r _ hs, updClose_passes hb hsess hcode⟩, fun s r hs hb hsess hcode => ?_,
    fun s r hs hb hsess => ⟨_, next r _ hs, updAbort_ends hb hsess⟩, fun s hsess hb hhold htime => ?_⟩
  · have href : (State.updStart { s with img := { s.img with upage := page.toFin.val } }).refusesOp
        (.program s.inactive page.toFin s.img.pbuf) = false := by
      simpa [State.refusesOp, State.updStart] using hact
    obtain ⟨ho, hi⟩ := askStore_ops href
    refine ⟨_, (next r _ hs).trans (congrArg Host.Outcome.next (updProgram_asks hb hsess hpage)), ho, ?_⟩
    rw [hi]
    exact ⟨rfl, rfl⟩
  · have href : (State.updStart { s with img := { s.img with upage := page.toFin.val } }).refusesOp
        (.program s.inactive page.toFin s.img.pbuf) = true := by
      simpa [State.refusesOp, State.updStart] using hact
    exact ⟨_, (next r _ hs).trans (congrArg Host.Outcome.next ((updProgram_asks hb hsess hpage).trans (askStore_refused href))), rfl, rfl⟩
  · obtain ⟨u, he, hu⟩ := updClose_fails hb hsess hcode
    exact ⟨u, (next r _ hs).trans (congrArg Host.Outcome.next he), hu⟩
  · exact ⟨s.dropSession, if_pos ⟨hsess, hb, hhold, htime⟩, dropSession_ends s⟩

end Sys2Proof.Machine
end

section
/-!
PROOFS. The store's operations: the bytes that a program and an erase leave, and what follows them (R401, R409, R430).
-/

namespace Sys2Proof.Machine

/-! ### Bytes written and erased -/

/-- Outside the range written, the store reads as before. -/
theorem Memory.read_writeAll_other (m : List Host.Cell) (a x : Nat) (l : List Byte) (hx : x < a ∨ a + l.length ≤ x) :
    Memory.read (Memory.writeAll m a l) x = Memory.read m x := by
  induction l generalizing m a with
  | nil => rfl
  | cons b l ih =>
    simp only [List.length_cons] at hx
    exact (ih _ _ (by omega)).trans (Memory.read_write_other m a x b (by omega))

/-- Within it, the store reads as the bytes written. -/
theorem Memory.read_writeAll (m : List Host.Cell) (a i : Nat) (l : List Byte) (h : Memory.wf m = true) (hi : i < l.length) :
    Memory.read (Memory.writeAll m a l) (a + i) = l[i] := by
  induction l generalizing m a i with
  | nil => simp at hi
  | cons b l ih =>
    cases i with
    | zero => exact (Memory.read_writeAll_other _ _ _ l (by omega)).trans (Memory.read_write m a b h)
    | succ i =>
      rw [show a + (i + 1) = a + 1 + i by omega]
      exact ih _ _ i (Memory.write_wf m a b h) (by simpa using hi)

/-- Entries taken out at a key leave its value from outside the table. -/
theorem sget_filter_out {α : Type} (d : Nat → α) (m : List (Nat × α)) (p : Nat → Bool) (k : Nat) (h : p k = false) :
    sget d (m.filter fun e => p e.1) k = d k := by
  induction m with
  | nil => rfl
  | cons e m ih =>
    rw [List.filter_cons]
    split
    · next hp =>
      have hne : k ≠ e.1 := fun he => by rw [← he, h] at hp; contradiction
      simp only [sget, if_neg hne, ih]
    · exact ih

/-- An erased byte reads 0xFF. -/
theorem Memory.read_erase (m : List Host.Cell) (a n x : Nat) (h : a ≤ x) (hx : x < a + n) : Memory.read (Memory.erase m a n) x = 0xFF :=
  sget_filter_out Memory.unlisted m (fun k => !(decide (a ≤ k) && decide (k < a + n))) x (by simp [h, hx])

/-- Outside an erased range, the store reads as before. -/
theorem Memory.read_erase_other (m : List Host.Cell) (a n x : Nat) (h : x < a ∨ a + n ≤ x) :
    Memory.read (Memory.erase m a n) x = Memory.read m x :=
  sget_filter Memory.unlisted m (fun k => !(decide (a ≤ k) && decide (k < a + n))) x (by simp; omega)

/-- A page is 256 bytes. -/
theorem pageBytes_length (data : Vector Word 64) : (data.toList.flatMap fun (w : Word) => wordBytes w.toNat).length = 256 := by
  simp [wordBytes, List.length_flatMap]

/-! ### What follows an operation -/

@[simp] theorem nextOp_ops (s : State) : s.nextOp.nvs.ops = s.nvs.ops.tail := by
  unfold State.nextOp
  extract_lets t
  split <;> rfl
@[simp] theorem nextOp_nv (s : State) : s.nextOp.nv = s.nv := but_nv (fs := [.flt, .nvs]) (by simp) (by decide)
@[simp] theorem nextOp_img (s : State) : s.nextOp.img = s.img := but_img (fs := [.flt, .nvs]) (by simp) (by decide)
@[simp] theorem nextOp_log (s : State) : s.nextOp.log = s.log := but_log (fs := [.flt, .nvs]) (by simp) (by decide)

@[simp] theorem retryOutcome_nvs (s : State) (b : Blk) (src : Src) (obj : Nat) (ok : Bool) : (s.retryOutcome b src obj ok).nvs = s.nvs :=
  but_nvs (fs := reactions) (by simp) (by decide)
@[simp] theorem retryOutcome_nv (s : State) (b : Blk) (src : Src) (obj : Nat) (ok : Bool) : (s.retryOutcome b src obj ok).nv = s.nv :=
  but_nv (fs := reactions) (by simp) (by decide)

/-- The wear of an erase leaves the bytes and the operations. -/
theorem wearSectors_ops (s : State) (first n : Nat) : (s.wearSectors first n).nvs.ops = s.nvs.ops ∧
    (s.wearSectors first n).nvs.sector = s.nvs.sector := by
  unfold State.wearSectors
  extract_lets w n t worn
  clear_value worn w
  have hocc (u : State) (r : Nat) : (u.occur bNVS 4 r).nvs = u.nvs := but_nvs (fs := reactions) (by simp) (by decide)
  refine foldl_keeps (fun u : State => u.nvs.ops = s.nvs.ops ∧ u.nvs.sector = s.nvs.sector) _ (fun u i hu => ?_) worn ⟨rfl, rfl⟩
  rw [hocc]
  exact hu
@[simp] theorem wearSectors_nv (s : State) (first n : Nat) : (s.wearSectors first n).nv = s.nv :=
  but_nv (fs := .nvs :: reactions) (by simp) (by decide)

/-! ### The end of a program -/

/-- The state that a verified page program leaves before what follows it. -/
def State.programmed (s : State) (b : Side) (page : Fin 512) (data : Vector Word 64) : State :=
  { s with
    nv := Memory.writeAll s.nv (bankBase b + 256 * page.val) (data.toList.flatMap fun (w : Word) => wordBytes w.toNat)
    img := { s.img with pages := s.img.pages ++ [page] } }

theorem nvsProgramComplete_eq {s : State} {b : Side} {page : Fin 512} {data : Vector Word 64} {l : List NvOp}
    (hops : s.nvs.ops = .program b page data :: l) (hrun : s.opRuns = true) :
    exec (.nvsProgramComplete true) s = .next ((((s.programmed b page data).retryOutcome bNVS 2 b.val true).nextOp).updResult 0) := by
  unfold State.programmed
  simp only [exec, execNvsProgramComplete, hops, hrun, if_true]

/-! ### The end of an erase -/

/-- The state in which a sector is erased and its wear counted. -/
def State.sectorGone (s : State) (o : NvOp) : State :=
  (s.eraseBytes (4096 * (o.sectors.1 + s.nvs.sector)) 4096).wearSectors (o.sectors.1 + s.nvs.sector) 1

theorem sectorErased_eq (s : State) (o : NvOp) : s.sectorErased o =
    if (s.sectorGone o).nvs.sector + 1 < o.sectors.2 then (s.sectorGone o).nextSector else (s.sectorGone o).erased o := by
  unfold State.sectorErased State.sectorGone
  rfl

@[simp] theorem eraseBytes_ops (s : State) (a n : Nat) : (s.eraseBytes a n).nvs.ops = s.nvs.ops := rfl
@[simp] theorem eraseBytes_sector (s : State) (a n : Nat) : (s.eraseBytes a n).nvs.sector = s.nvs.sector := rfl
@[simp] theorem eraseBytes_nv (s : State) (a n : Nat) : (s.eraseBytes a n).nv = Memory.erase s.nv a n := rfl
@[simp] theorem nextSector_nv (s : State) : s.nextSector.nv = s.nv := rfl
@[simp] theorem nextSector_ops (s : State) : s.nextSector.nvs.ops = s.nvs.ops := rfl
@[simp] theorem nextSector_sector (s : State) : s.nextSector.nvs.sector = s.nvs.sector + 1 := rfl

theorem sectorGone_nvs (s : State) (o : NvOp) :
    (s.sectorGone o).nvs.ops = s.nvs.ops ∧ (s.sectorGone o).nvs.sector = s.nvs.sector := by
  unfold State.sectorGone
  simp only [wearSectors_ops, eraseBytes_ops, eraseBytes_sector, and_self]

theorem sectorGone_nv (s : State) (o : NvOp) : (s.sectorGone o).nv = Memory.erase s.nv (4096 * (o.sectors.1 + s.nvs.sector)) 4096 := by
  unfold State.sectorGone
  rw [wearSectors_nv, eraseBytes_nv]

/-- What follows an erase leaves the bytes. -/
theorem erased_nv (s : State) (o : NvOp) : (s.erased o).nv = s.nv := by
  cases o
  · exact nextOp_nv _
  · rfl
  · exact nextOp_nv _

/-- The next operation follows an erase. -/
theorem erased_ops (s : State) {o : NvOp} (he : o.isErase = true) : (s.erased o).nvs.ops = s.nvs.ops.tail := by
  cases o
  · exact nextOp_ops _
  · contradiction
  · exact nextOp_ops _

theorem erased_bank (s : State) (b : Side) : (s.erased (.eraseBank b)).img.sess = .opened ∧
    (s.erased (.eraseBank b)).img.uresult = 0 ∧ (s.erased (.eraseBank b)).img.udone = true :=
  ⟨congrArg ImgRec.sess (nextOp_img _), rfl, rfl⟩

theorem erased_log (s : State) : (s.erased .logErase).log.erase = false ∧ (s.erased .logErase).log.newest = 0 :=
  ⟨congrArg LogRecState.erase (nextOp_log _), congrArg LogRecState.newest (nextOp_log _)⟩

theorem sectorErased_nv (s : State) (o : NvOp) : (s.sectorErased o).nv = (s.sectorGone o).nv := by
  rw [sectorErased_eq]
  split
  · exact nextSector_nv _
  · exact erased_nv _ o

theorem nvsEraseComplete_eq {s : State} {o : NvOp} {l : List NvOp} (hops : s.nvs.ops = o :: l) (he : o.isErase = true)
    (hrun : s.opRuns = true) : exec (.nvsEraseComplete true) s = .next ((s.retryOutcome bNVS 3 o.region true).sectorErased o) := by
  simp only [exec, execNvsEraseComplete, hops, hrun, he, Bool.and_self, if_true]

/-- Settles O4: the bytes by the laws of the store, the operations by what follows each of them. -/
theorem storeOperations : Obligations.StoreOperations := by
  refine ⟨fun s b page data l hwf hops hrun => ⟨_, nvsProgramComplete_eq hops hrun, ?_, rfl, rfl, ?_⟩,
    fun s o l hops ho hrun => ?_, fun s o l hops hrun hlate => ?_⟩
  · show (State.nextOp _).nvs.ops = l
    rw [nextOp_ops, retryOutcome_nvs]
    exact congrArg List.tail hops
  · have hnv : ((((s.programmed b page data).retryOutcome bNVS 2 b.val true).nextOp).updResult 0).nv = (s.programmed b page data).nv :=
      (nextOp_nv _).trans (retryOutcome_nv _ _ _ _ _)
    rw [hnv]
    refine ⟨fun i hi => ?_, fun a ha => Memory.read_writeAll_other _ _ _ _ (by rwa [pageBytes_length])⟩
    have hl := hi.trans_eq (pageBytes_length data).symm
    rw [List.getD_eq_getElem _ _ hl]
    exact Memory.read_writeAll _ _ _ _ hwf hl
  · have he : o.isErase = true := by
      rcases ho with rfl | ⟨b, rfl⟩ <;> rfl
    obtain ⟨u, hu⟩ : ∃ u, u = s.retryOutcome bNVS 3 o.region true := ⟨_, rfl⟩
    have hun : u.nvs = s.nvs := by rw [hu, retryOutcome_nvs]
    have hunv : u.nv = s.nv := by rw [hu, retryOutcome_nv]
    obtain ⟨hgops, hgsec⟩ := sectorGone_nvs u o
    rw [hun] at hgops hgsec
    have hnv := (sectorErased_nv u o).trans (sectorGone_nv u o)
    rw [hun, hunv] at hnv
    refine ⟨u.sectorErased o, hu ▸ nvsEraseComplete_eq hops he hrun, fun a h₁ h₂ => ?_, fun a ha => ?_, fun hmore => ?_, fun hlast => ?_⟩
    · rw [hnv]
      exact Memory.read_erase _ _ _ _ h₁ h₂
    · rw [hnv]
      exact Memory.read_erase_other _ _ _ _ ha
    · rw [sectorErased_eq, hgsec, if_pos hmore]
      rw [nextSector_ops, nextSector_sector, hgops, hgsec]
      exact ⟨rfl, rfl⟩
    · rw [sectorErased_eq, hgsec, if_neg (by omega)]
      rw [hops] at hgops
      refine ⟨by rw [erased_ops _ he, hgops]; rfl, fun b hb => ?_, fun hb => ?_⟩
      · subst hb
        exact erased_bank _ b
      · subst hb
        exact erased_log _
  · simp only [exec, execNvsOperationOvertime, hops]
    exact if_pos ⟨hrun, hlate⟩

end Sys2Proof.Machine
end

section
/-!
PROOFS. Requests of activation: accepted, refused, cancelled and timed out (R412, R414).
-/

namespace Sys2Proof.Machine

@[simp] theorem retarget_img (s : State) (v n : Nat) : (s.retarget v n).img = s.img := but_img (fs := [.culm, .awn]) (by simp) (by decide)
@[simp] theorem releaseSetpoint_img (s : State) : s.releaseSetpoint.img = s.img := but_img (fs := [.culm, .awn]) (by simp) (by decide)
@[simp] theorem atBridge_drain_img (s : State) : s.atBridge.drain.img = s.img := but_img (fs := [.culm, .groups, .ctx, .chg]) (by simp) (by decide)

/-- The image's record when an accepted request begins its activation, with the bridge planned or not. -/
def State.activating (s : State) (b : Side) (drain dark byTrial plan : Bool) : ImgRec :=
  let stub := s.dom.st == .stubble
  { s.img with
    asta := if drain then .draining else .waiting
    bridge := stub && s.culm.supOn && s.domOn 9
    req := some { bank := b, drain := drain, dark := dark, at_ := s.now, byTrial := byTrial, heldReturn := stub, plan := plan } }

theorem beginActivation_img (s : State) (b : Side) (drain dark byTrial : Bool) :
    ∃ plan, (s.beginActivation b drain dark byTrial).img = s.activating b drain dark byTrial plan := by
  unfold State.beginActivation
  extract_lets stub level i t
  refine ⟨level.isSome, ?_⟩
  have ht : t.img = s.activating b drain dark byTrial level.isSome := rfl
  clear_value t level
  split
  · rw [retarget_img, ht]
  · rw [atBridge_drain_img, ht]

/-! ### Requests -/

/-- The image's record of a request that is judged: the sequence count, and the check code. -/
def State.judged (s : State) (b : Side) (dark : Bool) : State :=
  { s with img := { s.img with aseq := (s.img.aseq + 1) % 256, acause := (s.activateCode b dark).2 } }

/-- The result of a judged request. -/
def State.answered (s : State) (result : Nat) (done : Bool) : State :=
  { s with img := { s.img with aresult := result, adone := done } }

theorem requestImage_eq (s : State) (b : Side) (drain dark : Bool) : s.requestImage b drain dark =
    if (s.activateCode b dark).1 = 0 then ((s.judged b dark).answered 0 false).beginActivation b drain dark false
    else if (s.activateCode b dark).1 = 5 then
      (((s.judged b dark).answered (s.activateCode b dark).1 true).failBank b (s.activateCode b dark).2).failedTwice
    else (s.judged b dark).answered (s.activateCode b dark).1 true := rfl

/-- A bank that fails its check at activation leaves the request's result. -/
theorem failBank_result (s : State) (b : Side) (code : Nat) : (s.failBank b code).img.aresult = s.img.aresult ∧
    (s.failBank b code).img.adone = s.img.adone ∧ (s.failBank b code).img.acause = s.img.acause := by
  unfold State.failBank
  split
  · exact ⟨rfl, rfl, rfl⟩
  · exact ⟨writeBoot_field (·.aresult) _ fun _ _ _ _ => rfl, writeBoot_field (·.adone) _ fun _ _ _ _ => rfl,
      writeBoot_field (·.acause) _ fun _ _ _ _ => rfl⟩

/-! ### The end of a request -/

/-- A cancelled request: none pending, with its result. -/
theorem cancelActivation_ends {s : State} {q : ActReq} (result : Nat) (hreq : s.img.req = some q) (hq : q.byTrial = false) :
    (s.cancelActivation result).img.req = none ∧ (s.cancelActivation result).img.asta = .none ∧
      (s.cancelActivation result).img.aresult = result ∧ (s.cancelActivation result).img.adone = true := by
  have himg : (s.cancelActivation result).img = { s.img with asta := .none, req := none, aresult := result, adone := true } := by
    unfold State.cancelActivation
    rw [hreq]
    simp only [hq, Bool.false_eq_true, if_false]
    split
    · rfl
    · split
      · exact releaseSetpoint_img _
      · rfl
  rw [himg]
  exact ⟨rfl, rfl, rfl, rfl⟩

/-- Settles O5: a request by its code, its end by command or by time. -/
theorem imageRequests : Obligations.ImageRequests := by
  have next {s : State} (r : Req) (f : State → State) (hs : s.serves imgCtlAt) :
      (Host.Outcome.next (s.viaService r imgCtlAt f) : Ans) = .next (f s) :=
    congrArg Host.Outcome.next (viaService_serves s r _ f hs)
  refine ⟨fun s r bank drain dark hs => ?_, fun s r q hs hreq hdrain hq => ?_, fun s q hreq hdrain hq htime => ?_⟩
  · intro b code
    refine ⟨fun h0 => ?_, fun h0 h5 => ?_, fun h5 => ?_⟩
    · have he := (requestImage_eq s b drain dark).trans (if_pos h0)
      obtain ⟨plan, hp⟩ := beginActivation_img ((s.judged b dark).answered 0 false) b drain dark false
      refine ⟨_, (next r _ hs).trans (congrArg Host.Outcome.next he), ?_⟩
      rw [hp]
      exact ⟨rfl, rfl, rfl, _, rfl, rfl, rfl, rfl⟩
    · have he := (requestImage_eq s b drain dark).trans ((if_neg h0).trans (if_neg h5))
      exact ⟨_, (next r _ hs).trans (congrArg Host.Outcome.next he), rfl, rfl, rfl, rfl⟩
    · have h0 : code ≠ 0 := by omega
      have he := (requestImage_eq s b drain dark).trans ((if_neg h0).trans (if_pos h5))
      obtain ⟨hr, hd, hc⟩ := failBank_result ((s.judged b dark).answered code true) b (s.activateCode b dark).2
      exact ⟨_, (next r _ hs).trans (congrArg Host.Outcome.next he), hr.trans h5, hd, hc⟩
  · have hc : s.cancelByCommand = s.cancelActivation 8 := if_pos hdrain
    exact ⟨_, (next r _ hs).trans (congrArg Host.Outcome.next hc), cancelActivation_ends 8 hreq hq⟩
  · refine ⟨s.cancelActivation 9, ?_, cancelActivation_ends 9 hreq hq⟩
    simp only [exec, execActivationTimeout, hreq]
    exact if_pos ⟨hdrain, htime⟩

end Sys2Proof.Machine
end

section
/-!
PROOFS. The Awn link: its replies in a queue, its coming up and going down, the hold, the status period, the order of the queue, and AWN_CFG
(R379, R386, R387). A Settled frame repeated to a duplicate keeps its class, against the statement on frames (R382, R386).
-/

namespace Sys2Proof.Machine

/-! ### Frames (R378, R382) -/

/-- A link that is Up and waits for tag 1, with a Settled frame of tag 0 to repeat. -/
def settledLink : State :=
  let s := Tests.linked .up 0
  { s with awn := { s.awn with tagexp := 1, taglast := some 0, reply := some (awnReply 4 0 0 48000) } }

/-- Refutes O44: a Settled frame that is sent again to a duplicate is queued as a Settled frame, of which the statement says that it is
of the other class. -/
theorem not_awnFrames : ¬ Obligations.AwnFrames := by
  intro h
  obtain ⟨hframes, -⟩ := h settledLink 0
  obtain ⟨-, hdup, -⟩ := hframes (by decide +kernel)
  obtain ⟨t, ht, -, -, hq⟩ := hdup (awnReply 4 0 0 48000) (by decide) (by decide +kernel) (by decide +kernel) (by decide +kernel)
    (by decide +kernel)
  have he : t = Tests.after (.awnSetpointFrame 0) settledLink := by
    unfold Tests.after
    rw [ht]
  have hmem : (TxKind.settled, awnReply 4 0 0 48000) ∈ t.awn.txq := by
    rw [he]
    decide +kernel
  rw [hq] at hmem
  exact absurd hmem (by decide +kernel)

/-! ### A reply queued (R386) -/

/-- A class taken from a queue leaves the frames of the others. -/
theorem dropFirst_mem {k : TxKind} {l m : List (TxKind × Word)} (h : dropFirst k l = some m) {q : TxKind × Word} (hq : q ∈ l)
    (hk : q.1 ≠ k) : q ∈ m := by
  induction l generalizing m with
  | nil => cases hq
  | cons e l ih =>
    unfold dropFirst at h
    split at h
    · next he =>
      cases h
      exact (List.mem_cons.mp hq).resolve_left fun heq => hk (heq ▸ he)
    · obtain ⟨n, hn, rfl⟩ := Option.map_eq_some_iff.mp h
      rcases List.mem_cons.mp hq with rfl | hq
      · exact List.mem_cons_self
      · exact List.mem_cons_of_mem _ (ih hn hq)

/-- A queued Received frame stays queued. -/
theorem queue_received_mem {x : AwnRec} {w v : Word} (k : TxKind) (h : (TxKind.received, w) ∈ x.txq) :
    (TxKind.received, w) ∈ (x.queue k v).txq := by
  have hl : (TxKind.received, w) ∈ x.txq ++ [(k, v)] := List.mem_append_left _ h
  unfold AwnRec.queue
  extract_lets l y
  split
  · exact hl
  · split
    · next m hm => exact dropFirst_mem hm hl nofun
    · split
      · next m hm => exact dropFirst_mem hm hl nofun
      · split
        · exact hl
        · exact h

/-- A Received frame is always queued. -/
theorem queue_received_self (x : AwnRec) (w : Word) : (TxKind.received, w) ∈ (x.queue .received w).txq := by
  have hl : (TxKind.received, w) ∈ x.txq ++ [(TxKind.received, w)] := List.mem_append_right _ List.mem_cons_self
  unfold AwnRec.queue
  extract_lets l y
  split
  · exact hl
  · split
    · next m hm => exact dropFirst_mem hm hl nofun
    · split
      · next m hm => exact dropFirst_mem hm hl nofun
      · exact hl

/-- The queue changes only with its count of frames dropped. -/
theorem queue_fields (x : AwnRec) (k : TxKind) (w : Word) : (x.queue k w).link = x.link ∧ (x.queue k w).tagexp = x.tagexp ∧
    (x.queue k w).taglast = x.taglast ∧ (x.queue k w).reply = x.reply := by
  unfold AwnRec.queue
  extract_lets l y
  (repeat' split) <;> exact ⟨rfl, rfl, rfl, rfl⟩

/-! ### The link comes up (R379) -/

/-- A link that is Up with the Received frame of a word queued and a tag expected. -/
def AwnRec.Answering (w : Word) (n : Nat) (x : AwnRec) : Prop := x.link = .up ∧ (TxKind.received, received w) ∈ x.txq ∧ x.tagexp = n

theorem AwnRec.Answering.queue {x : AwnRec} {w v : Word} {n : Nat} (k : TxKind) (h : x.Answering w n) : (x.queue k v).Answering w n := by
  obtain ⟨hl, hq, ht⟩ := h
  obtain ⟨el, et, -, -⟩ := queue_fields x k v
  exact ⟨el.trans hl, queue_received_mem k hq, et.trans ht⟩

/-- A reply that is kept for a duplicate is queued. -/
theorem AwnRec.Answering.answer {x : AwnRec} {w v : Word} {n : Nat} (k : TxKind) (tag : Nat) (h : x.Answering w n) :
    (x.answer k tag v).Answering w n := by
  unfold AwnRec.answer
  extract_lets y
  split <;> exact h.queue k

/-- The Safe line's action changes of the link the reply to a pending command. -/
theorem assertSafe_awn (s : State) (d : Driver) :
    (s.assertSafe d).awn = s.awn ∨ ∃ (u : State) (v : Nat), u.awn = s.awn ∧ (s.assertSafe d).awn = (u.unsettle v).awn := by
  unfold State.assertSafe
  extract_lets first t
  split
  · exact .inr ⟨t, t.culm.vmeas, rfl, but_awn (fs := [.deferred, .safeLine, .halt, .dom, .img, .fab, .groups, .cells, .culm, .branches,
      .src, .ctx, .bat, .fdr, .chg, .thr]) (by simp) (by decide)⟩
  · exact .inl rfl

theorem AwnRec.Answering.unsettle {s : State} {w : Word} {n : Nat} (v : Nat) (h : s.awn.Answering w n) : (s.unsettle v).awn.Answering w n := by
  unfold State.unsettle
  split
  · exact h.answer _ _
  · exact h

theorem answering_steady (w : Word) (n : Nat) : State.Steady (fun s => s.awn.Answering w n) where
  but hb h := by rwa [but_awn hb (by decide)]
  safe {s} d h := by
    rcases assertSafe_awn s d with he | ⟨u, v, hu, he⟩
    · rwa [he]
    · rw [he]
      exact AwnRec.Answering.unsettle v (hu ▸ h)

/-- A successful retry leaves the link. -/
@[simp] theorem retryOutcome_ok_awn (s : State) (b : Blk) (src : Src) (obj : Nat) : (s.retryOutcome b src obj true).awn = s.awn :=
  but_awn (fs := [.deferred, .flt, .x3, .xing, .log, .ret]) (retryOutcome_ok s b src obj (by decide) (by decide) (by decide) (by decide)
    (by decide) (by decide)) (by decide)

/-- What a valid frame on the link makes of its record: the Received frame is queued, and the frame kept. -/
theorem awnValid_awn (s : State) (w : Word) : ∃ b, (s.awnValid w).awn = { s.awn.queue .received (received w) with
    validAt := s.now, cmd := w, rx := sat 65535 (s.awn.rx + 1), badTag := b } := by
  unfold State.awnValid
  extract_lets same x t
  have ht : (if same = true then t.retryOutcome bAWN 1 0 true else t).awn = t.awn := by
    split
    · exact retryOutcome_ok_awn t bAWN 1 0
    · rfl
  exact ⟨_, ht⟩

theorem awnValid_answering {s : State} {w : Word} (h : s.awn.link = .up) : (s.awnValid w).awn.Answering w s.awn.tagexp := by
  obtain ⟨b, he⟩ := awnValid_awn s w
  obtain ⟨el, et, -, -⟩ := queue_fields s.awn .received (received w)
  rw [he]
  exact ⟨el.trans h, queue_received_self _ _, et⟩

/-- An item raised at a crossing changes of the link at most the Superseded reply to a command that waited. -/
theorem raise_awn (s : State) (x : Xing) (i : XItem) :
    (s.raise x i).awn = s.awn ∨ ∃ v n, (s.raise x i).awn = { s.awn.queue .other v with sup := n } := by
  unfold State.raise
  split
  · exact .inl rfl
  · exact .inl (but_awn (fs := [.xslots, .xing]) (by simp) (by decide))
  · split
    · exact .inl rfl
    · next q _ =>
      extract_lets n t r u
      have hu : u.awn = s.awn := but_awn (fs := [.deferred, .xing, .xslots]) (by simp [u, t]) (by decide)
      clear_value u
      split
      · next old new _ _ _ =>
        exact .inr ⟨awnReply 3 (awnTag old) 0 (awnTag new), sat 65535 (s.awn.sup + 1), by rw [← hu]⟩
      · exact .inl hu
  · split
    · exact .inl (but_awn (fs := [.xing]) (by simp) (by decide))
    · exact .inl rfl

theorem raise_answering {s : State} {w : Word} {n : Nat} (x : Xing) (i : XItem) (h : s.awn.Answering w n) :
    (s.raise x i).awn.Answering w n := by
  rcases raise_awn s x i with he | ⟨v, m, he⟩
  · rwa [he]
  · rw [he]
    exact h.queue .other

/-- A Setpoint on a link that answers leaves it answering, with the next tag expected where its own was. -/
theorem awnSetpoint_answering {s : State} {w : Word} (h : s.awn.link = .up) :
    (s.awnSetpoint w).awn.Answering w (if awnTag w = s.awn.tagexp then (awnTag w + 1) % 256 else s.awn.tagexp) := by
  have hv := awnValid_answering (w := w) h
  have htag := hv.2.2
  unfold State.awnSetpoint
  extract_lets t tag
  have ht : t.awn.tagexp = s.awn.tagexp := htag
  rw [ht]
  split
  · exact raise_answering 1 (.setpoint w) ⟨hv.1, hv.2.1, rfl⟩
  · split
    · split
      · exact hv.queue _
      · exact hv
    · exact occur_steady (answering_steady w s.awn.tagexp) bAWN 2 0 false (hv.queue _)

/-- A valid frame of any op on a link that answers leaves it answering; a Setpoint with the tag expected advances that. -/
theorem awnFrame_answering {s : State} {w : Word} (h : s.awn.link = .up) : (s.awnFrame w).awn.Answering w
    (if awnOp w = 0 ∧ awnTag w = s.awn.tagexp then (awnTag w + 1) % 256 else s.awn.tagexp) := by
  have hv := awnValid_answering (w := w) h
  by_cases h0 : awnOp w = 0
  · simp only [State.awnFrame, h0, true_and]
    exact awnSetpoint_answering h
  · rw [if_neg fun hc => h0 hc.1]
    unfold State.awnFrame
    split
    · next hc => exact absurd hc h0
    · exact hv.queue .status
    · exact hv
    · exact hv.queue .other

/-- A training link comes Up with the first valid frame, tags from 0, and answers it. -/
theorem awnLinkUp_answers {s : State} (w : Word) (hl : s.awn.link = .training) (hp : s.peerAbsent 1 = false) :
    ∃ t, exec (.awnLinkUp w) s = .next t ∧ t.awn.link = .up ∧ (TxKind.received, received w) ∈ t.awn.txq ∧
      t.awn.tagexp = if awnOp w = 0 ∧ awnTag w = 0 then 1 else 0 := by
  obtain ⟨u, hu⟩ : ∃ u : State, u = State.endCause { s with awn := { s.awn with
    link := .up, tagexp := 0, taglast := none, reply := none, lostAt := none, statAt := s.now } } bAWN 0 0 := ⟨_, rfl⟩
  have hup : u.awn.link = .up := by rw [hu]; rfl
  have htag : u.awn.tagexp = 0 := by rw [hu]; rfl
  obtain ⟨h₁, h₂, h₃⟩ := awnFrame_answering (w := w) hup
  refine ⟨u.awnFrame w, hu ▸ if_pos ⟨hl, hp⟩, h₁, h₂, h₃.trans ?_⟩
  rw [htag]
  split
  · next hc => rw [hc.2]
  · rfl

/-! ### The order of the queue (R386) -/

/-- The frame sent next: a Received frame where one waits, and no Status frame where another one does. -/
theorem nextReply_first {l : List (TxKind × Word)} (h : l ≠ []) : ∃ q ∈ l, nextReply l = some q ∧
    ((∃ r ∈ l, r.1 = TxKind.received) → q.1 = TxKind.received) ∧ ((∃ r ∈ l, r.1 ≠ TxKind.status) → q.1 ≠ TxKind.status) := by
  unfold nextReply
  split
  · next q hq =>
    have hr : q.1 = .received := by simpa using List.find?_some hq
    exact ⟨q, List.mem_of_find?_eq_some hq, rfl, fun _ => hr, fun _ => by rw [hr]; nofun⟩
  · next hno =>
    have hnone : ¬∃ r ∈ l, r.1 = TxKind.received := fun ⟨r, hr, hk⟩ => by simpa [hk] using List.find?_eq_none.mp hno r hr
    split
    · next q hq => exact ⟨q, List.mem_of_find?_eq_some hq, rfl, fun hr => absurd hr hnone, fun _ => by simpa using List.find?_some hq⟩
    · next hall =>
      have hstat : ¬∃ r ∈ l, r.1 ≠ TxKind.status := fun ⟨r, hr, hk⟩ => by simpa [hk] using List.find?_eq_none.mp hall r hr
      exact ⟨l.head h, List.head_mem h, List.head?_eq_some_head h, fun hr => absurd hr hnone, fun hr => absurd hr hstat⟩

theorem awnReplyTransmit_first {s : State} (hd : s.domOn 9 = true) (hl : s.awn.link ≠ .disabled) (hq : s.awn.txq ≠ []) :
    ∃ t, exec .awnReplyTransmit s = .next t ∧ ∃ q ∈ s.awn.txq, t.awn.txq = s.awn.txq.erase q ∧
      ((∃ r ∈ s.awn.txq, r.1 = TxKind.received) → q.1 = TxKind.received) ∧
      ((∃ r ∈ s.awn.txq, r.1 ≠ TxKind.status) → q.1 ≠ TxKind.status) := by
  obtain ⟨q, hmem, hnext, hrest⟩ := nextReply_first hq
  refine ⟨{ s with awn := { s.awn with txq := s.awn.txq.erase q } }, ?_, q, hmem, rfl, hrest⟩
  simp only [exec, execAwnReplyTransmit, hnext]
  exact if_pos ⟨hd, hl⟩

/-! ### AWN_CFG (R379) -/

/-- A field above bit 0 leaves it clear. -/
theorem field_bit_zero (n : Nat) {k : Nat} (hk : 0 < k) : (BitVec.ofNat 32 (n * 2 ^ k)).getLsbD 0 = false := by
  obtain ⟨j, rfl⟩ : ∃ j, k = j + 1 := ⟨k - 1, by omega⟩
  rw [pow_succ, ← Nat.mul_assoc]
  simp only [BitVec.getLsbD, BitVec.toNat_ofNat, Nat.testBit_zero, decide_eq_false_iff_not]
  omega

/-- A field of one bit at bit 0 is that bit. -/
theorem enableField_bit_zero (v : Word) : (BitVec.ofNat 32 (RegField.clamp ⟨0, 0, 0, 1⟩ v * 2 ^ 0)).getLsbD 0 = v.getLsbD 0 := by
  have hm : RegField.clamp ⟨0, 0, 0, 1⟩ v = v.toNat % 2 := by
    simp only [RegField.clamp, Word.bits]
    omega
  rw [hm]
  simp [BitVec.getLsbD, Nat.testBit_zero]

/-- The register takes its enable bit as written: its other fields lie above it. -/
theorem awnCfgSpec_accept_en (v : Word) : (awnCfgSpec.accept v).bit 0 = v.bit 0 := by
  simp only [RegSpec.accept, awnCfgSpec, List.foldl, Word.bit, BitVec.getLsbD_or, field_bit_zero _ (by decide : 0 < 8),
    field_bit_zero _ (by decide : 0 < 16), field_bit_zero _ (by decide : 0 < 24), enableField_bit_zero]
  simp

/-- A configuration register keeps of a word what its fields take. -/
theorem setReg_spec {a : Nat} {q : RegSpec} (h : regSpecAt a = some q) (s : State) (v : Word) : s.setReg a v = s.putReg a (q.accept v) := by
  unfold State.setReg
  rw [h]

theorem setReg_reg {s : State} {a : Nat} {q : RegSpec} (h : regSpecAt a = some q) (hinv : s.Inv) (v : Word) :
    (s.setReg a v).reg a = q.accept v := by
  rw [setReg_spec h, putReg_reg _ _ hinv.rw]

/-- The enable bit of AWN_CFG is stored as written. -/
theorem awnCfg_en {s : State} (v : Word) (h : s.Inv) : ((s.setReg awnCfgAt v).reg awnCfgAt).bit 0 = v.bit 0 := by
  rw [setReg_reg (q := awnCfgSpec) (by decide +kernel) h]
  exact awnCfgSpec_accept_en v

/-- A carried write of AWN_CFG acts on the link. -/
theorem writeCarried_awnCfg (s : State) (v : Word) : s.writeCarried awnCfgAt v = s.writeAwnCfg v := by
  unfold State.writeCarried
  rw [dif_neg (by decide)]
  rfl

/-- The link after a write of AWN_CFG, at the next iteration. -/
theorem awnCfgWrite_next {s : State} (r : Req) (v : Word) (hs : s.serves awnCfgAt) (hd : s.deferred = []) :
    ∃ t, exec (.awnCfgWrite r v) s = .next t ∧ t.iterate.awn = (s.writeAwnCfg v).awn := by
  refine ⟨_, congrArg Host.Outcome.next (viaService_serves s r _ _ hs), ?_⟩
  rw [carry_iterate s _ v hd, writeCarried_awnCfg]
  exact but_awn (fs := [.flt, .groups, .ctx, .chg]) (by simp) (by decide)

/-- Enabled with D9 on, the link trains. -/
theorem writeAwnCfg_trains {s : State} {v : Word} (hinv : s.Inv) (hv : v.bit 0 = true) (hd : s.domOn 9 = true)
    (hl : s.awn.link = .disabled) : (s.writeAwnCfg v).awn.link = .training := by
  obtain ⟨t, ht⟩ : ∃ t, t = s.setReg awnCfgAt v := ⟨_, rfl⟩
  have hen := awnCfg_en v hinv
  have hdom : t.dom = s.dom := by rw [ht]; exact but_dom (fs := [.rw]) (by simp) (by decide)
  have hawn : t.awn = s.awn := by rw [ht]; exact but_awn (fs := [.rw]) (by simp) (by decide)
  rw [← ht, hv] at hen
  have hon : t.domOn 9 = true := by rwa [State.domOn, hdom]
  have hf : t.followAwn = { t with awn := { t.awn with link := .training } } := if_pos ⟨by rw [hen, hon]; rfl, by rw [hawn, hl]⟩
  rw [State.writeAwnCfg, ← ht, hf]

/-- Not enabled, the link is disabled, with no command pending, no frame queued and no setpoint of its own. -/
theorem writeAwnCfg_disables {s : State} {v : Word} (hinv : s.Inv) (hv : v.bit 0 = false) : (s.writeAwnCfg v).awn.link = .disabled ∧
    (s.awn.link ≠ .disabled → (s.writeAwnCfg v).awn.pend = none ∧ (s.writeAwnCfg v).awn.txq = [] ∧ (s.writeAwnCfg v).awn.src = 0) := by
  obtain ⟨t, ht⟩ : ∃ t, t = s.setReg awnCfgAt v := ⟨_, rfl⟩
  have hen := awnCfg_en v hinv
  have hawn : t.awn = s.awn := by rw [ht]; exact but_awn (fs := [.rw]) (by simp) (by decide)
  rw [← ht, hv] at hen
  rw [State.writeAwnCfg, ← ht]
  unfold State.followAwn
  rw [hen, Bool.false_and, hawn]
  extract_lets on u
  rw [if_neg (by simp [on])]
  by_cases hl : s.awn.link = .disabled
  · rw [if_neg (by simp [hl]), hawn]
    exact ⟨hl, fun hn => absurd hl hn⟩
  · rw [if_pos ⟨rfl, hl⟩]
    split
    · next h0 => exact ⟨rfl, fun _ => ⟨rfl, rfl, by simpa [hawn] using h0⟩⟩
    · exact ⟨rfl, fun _ => ⟨rfl, rfl, rfl⟩⟩

/-- Settles O46: the link from Training to Down and Disabled, and its queue. -/
theorem awnLink : Obligations.AwnLink := by
  intro s
  refine ⟨fun w hl hp => awnLinkUp_answers w hl hp, fun n hl hcond => ⟨_, if_pos ⟨hl, hcond⟩, rfl, rfl, rfl, rfl⟩,
    fun t₀ hsrc hlost hne htime => ⟨s.toNominal, ?_, rfl, rfl, rfl, rfl⟩, fun hl hp htime hq => ?_,
    fun hd hl hq => awnReplyTransmit_first hd hl hq, fun r v hs hinv hd => ⟨fun hv h9 hl => ?_, fun hv => ?_⟩⟩
  · exact if_pos ⟨hsrc, hne, by rw [hlost]; exact decide_eq_true htime⟩
  · refine ⟨_, if_pos ⟨hl, hp, htime⟩, rfl, ?_⟩
    rw [queue_room _ _ hq]
  · obtain ⟨t, ht, hi⟩ := awnCfgWrite_next r v hs hd
    exact ⟨t, ht, hi ▸ writeAwnCfg_trains hinv hv h9 hl⟩
  · obtain ⟨t, ht, hi⟩ := awnCfgWrite_next r v hs hd
    exact ⟨t, ht, hi ▸ writeAwnCfg_disables hinv hv⟩

end Sys2Proof.Machine
end

section
/-!
PROOFS. A feeder port from its start request to its halt and back (R368-R373, R393).
-/

namespace Sys2Proof.Machine

theorem setFdr_get (s : State) (p : SPort) (x : FdrRec) : (s.setFdr p x).fdr[p] = x := vset_same ..
@[simp] theorem settle_fdr (s : State) : s.settle.fdr = s.fdr := but_fdr (fs := [.groups, .ctx, .chg]) (by simp) (by decide)
@[simp] theorem startMembers_fdr (s : State) (g : Group) : (s.startMembers g).fdr = s.fdr := but_fdr (fs := [.cells]) (by simp) (by decide)
@[simp] theorem stopGroup_fdr (s : State) (g : Group) : (s.stopGroup g).fdr = s.fdr :=
  but_fdr (fs := [.fab, .groups, .cells]) (by simp) (by decide)
@[simp] theorem drainFeeder_fdr (s : State) (p : SPort) : (s.drainFeeder p).fdr = s.fdr := rfl

section
variable {s : State} {p : SPort}

/-! ### Start (R370, R371) -/

/-- A port that is not Checking, or whose terminal is at or below 30 V, reports no external voltage. -/
theorem external_quiet {mv : Nat} (h : mv ≤ 30000) : s.external p mv = s := if_neg fun hc => absurd hc.2.1 (by omega)

theorem feederStartRequest_checks {mv : Nat} (hst : s.fdr[p].st = .idle) (hreq : s.startRequest p = true) (hmv : mv ≤ 30000) :
    ∃ t, exec (.feederStartRequest p mv) s = .next t ∧ t.fdr[p].st = .checking := by
  refine ⟨_, if_pos ⟨hst, hreq⟩, ?_⟩
  rw [external_quiet hmv, setFdr_get]

theorem feederCheckPassed_biases {vt vs ms : Nat} (hst : s.fdr[p].st = .checking) (ht : vt ≤ 30000) (hs : vs ≤ 30000) (hms : 100 ≤ ms)
    (hreq : s.startRequest p = true) (hbar : s.stageBars p.port = false) :
    ∃ t, exec (.feederCheckPassed p vt vs ms) s = .next t ∧ t.fdr[p].st = .prebias ∧ t.fdr[p].since = s.now := by
  refine ⟨_, if_pos ⟨hst, ht, hs, hms, hreq, hbar⟩, ?_⟩
  rw [setFdr_get]
  exact ⟨rfl, rfl⟩

/-- External voltage on a Checking port is AWN source 4, once. -/
theorem feederCheckPassed_external {vt vs ms : Nat} (hst : s.fdr[p].st = .checking) (ht : 30000 < vt) (he : s.fdr[p].extSaid = false) :
    ∃ u : State, exec (.feederCheckPassed p vt vs ms) s = .next (u.occur bAWN 4 p.val) ∧ u.fdr[p].st = .checking ∧
      u.fdr[p].cause = 1 ∧ u.fdr[p].extSaid = true := by
  have hx : s.external p vt = (s.setFdr p { s.fdr[p] with cause := 1, extSaid := true }).occur bAWN 4 p.val := if_pos ⟨hst, ht, he⟩
  refine ⟨_, (if_neg fun hc => absurd hc.2.1 (by omega)).trans (congrArg Host.Outcome.next hx), ?_⟩
  rw [setFdr_get]
  exact ⟨hst, rfl, rfl⟩

theorem feederPrebiasDone_ramps {mv : Nat} (hst : s.fdr[p].st = .prebias) (hmv : 63700 ≤ mv) (hreq : s.startRequest p = true) :
    ∃ t, exec (.feederPrebiasDone p mv true) s = .next t ∧ t.fdr[p].st = .ramping ∧ t.fdr[p].vref = 65000000 ∧
      t.fdr[p].starts = min 65535 (s.fdr[p].starts + 1) := by
  refine ⟨_, if_pos ⟨hst, hmv, rfl, hreq⟩, ?_⟩
  rw [settle_fdr, startMembers_fdr, setFdr_get]
  exact ⟨rfl, rfl, rfl⟩

/-! ### Halts (R371) -/

/-- A feeder that is neither unused nor Halted is halted by its criterion, with its cause; source 5 sets the time of its retry. -/
theorem haltFeeder_halts (cause : Nat) (src : Src) (hu : s.fdr[p].st ≠ .unused) (hh : s.fdr[p].st ≠ .halted) :
    ∃ u : State, s.haltFeeder p cause src = u.occur bAWN src p.val ∧ u.fdr[p].st = .halted ∧ u.fdr[p].cause = cause ∧
      u.fdr[p].cur = 0 ∧ u.fdr[p].retryAt = if src = 5 then some (s.now + 1000000) else none := by
  obtain ⟨d, hd, hnow⟩ : ∃ d : State, d = s.drainFeeder p ∧ d.now = s.now := ⟨_, rfl, rfl⟩
  have hx : d.fdr[p].haltedBy d.now cause = { s.fdr[p] with
      st := .halted, cause := cause, since := s.now, fstops := sat 65535 (s.fdr[p].fstops + 1), cur := 0, lim := 0, ilim := 0, vref := 0,
      yield := false } := by
    rw [hnow, hd, drainFeeder_fdr]
    exact if_neg fun hc => hc.elim hu hh
  refine ⟨(State.stopGroup (d.setFdr p { d.fdr[p].haltedBy d.now cause with
    retryAt := if src = 5 then some (d.now + 1000000) else none }) p.group).settle, by rw [hd]; rfl, ?_⟩
  rw [settle_fdr, stopGroup_fdr, setFdr_get, hx, hnow]
  exact ⟨rfl, rfl, rfl, rfl⟩

theorem delivers_running {x : FdrRec} (h : x.delivers = true) : x.st ≠ .unused ∧ x.st ≠ .halted := by
  unfold FdrRec.delivers at h
  constructor <;> intro he <;> rw [he] at h <;> contradiction

theorem feederPrebiasTimeout_halts (hst : s.fdr[p].st = .prebias) (ht : s.fdr[p].since + 50000 ≤ s.now) :
    ∃ u : State, exec (.feederPrebiasTimeout p) s = .next (u.occur bAWN 5 p.val) ∧ u.fdr[p].st = .halted ∧ u.fdr[p].cause = 2 ∧
      u.fdr[p].retryAt = some (s.now + 1000000) := by
  obtain ⟨u, hu, h₁, h₂, -, h₄⟩ := haltFeeder_halts (s := s) (p := p) 2 5 (by rw [hst]; nofun) (by rw [hst]; nofun)
  exact ⟨u, (if_pos ⟨hst, ht⟩).trans (congrArg Host.Outcome.next hu), h₁, h₂, h₄⟩

/-! ### Limiting and yielding (R372, R373) -/

theorem feederLimiting_limits {v us : Nat} (hst : s.fdr[p].st = .running) (hlow : 100 * v < 98 * s.fdrTarget p)
    (hi : s.fdr[p].ilim ≤ s.fdr[p].cur.natAbs) (hus : 1000 ≤ us) :
    ∃ t, exec (.feederLimiting p v us) s = .next t ∧ t.fdr[p].st = .limiting := by
  refine ⟨_, if_pos ⟨hst, decide_eq_true hlow, hi, hus⟩, ?_⟩
  rw [setFdr_get]

theorem feederLimiting_returns {v us : Nat} (hst : s.fdr[p].st = .limiting) (hv : 98 * s.fdrTarget p ≤ 100 * v) :
    ∃ t, exec (.feederLimiting p v us) s = .next t ∧ t.fdr[p].st = .running := by
  have hlow : decide (100 * v < 98 * s.fdrTarget p) = false := decide_eq_false (by omega)
  refine ⟨_, (if_neg fun hc => ?_).trans (if_pos ⟨hst, hlow⟩), ?_⟩
  · have : s.fdr[p].st = .running := hc.1
    rw [hst] at this
    contradiction
  · rw [setFdr_get]

theorem feederYield_yields {v us : Nat} (hd : s.fdr[p].delivers = true) (hv : v < s.culm.msv) (hus : 500 ≤ us) :
    ∃ t, exec (.feederYield p v us) s = .next t ∧ t.fdr[p].yield = true ∧ t.fdr[p].st = s.fdr[p].st := by
  refine ⟨_, if_pos ⟨hd, hv, hus⟩, ?_⟩
  rw [setFdr_get]
  exact ⟨rfl, rfl⟩

theorem feederYield_recovers {v us : Nat} (hd : s.fdr[p].delivers = true) (hv : s.culm.msv ≤ v) (hlo : 49 * s.culm.vset ≤ 50 * v)
    (hhi : 50 * v ≤ 51 * s.culm.vset) (hus : 10000 ≤ us) :
    ∃ t, exec (.feederYield p v us) s = .next t ∧ t.fdr[p].yield = false ∧ t.fdr[p].st = s.fdr[p].st := by
  refine ⟨_, (if_neg fun hc => absurd hc.2.1 (by omega)).trans (if_pos ⟨hd, hhi, hlo, hus⟩), ?_⟩
  rw [setFdr_get]
  exact ⟨rfl, rfl⟩

/-! ### Stop (R371) -/

theorem feederStop_idles (hreq : s.startRequest p = false) (hst : s.fdr[p].st = .checking ∨ s.fdr[p].st = .prebias) :
    ∃ t, exec (.feederStop p) s = .next t ∧ t.fdr[p].st = .idle := by
  refine ⟨_, (if_neg (by simp [hreq])).trans (if_pos hst), ?_⟩
  rw [settle_fdr, setFdr_get]

theorem feederStop_stops (hreq : s.startRequest p = false) (hd : s.fdr[p].delivers = true) :
    ∃ t, exec (.feederStop p) s = .next t ∧ t.fdr[p].st = .stopping ∧ t.fdr[p].cause = 7 := by
  have hst : ¬(s.fdr[p].st = .checking ∨ s.fdr[p].st = .prebias) := by
    rintro (he | he) <;> unfold FdrRec.delivers at hd <;> rw [he] at hd <;> contradiction
  refine ⟨_, (if_neg (by simp [hreq])).trans ((if_neg hst).trans (if_pos hd)), ?_⟩
  rw [settle_fdr, setFdr_get]
  exact ⟨rfl, rfl⟩

theorem feederStopped_idles {cur : Int} (hst : s.fdr[p].st = .stopping) (hc : cur.natAbs < 50) :
    ∃ t, exec (.feederStopped p cur) s = .next t ∧ t.fdr[p].st = .idle ∧ t.fdr[p].cur = 0 := by
  refine ⟨_, if_pos ⟨hst, hc⟩, ?_⟩
  rw [settle_fdr, stopGroup_fdr, setFdr_get]
  exact ⟨rfl, rfl⟩

/-- A halted feeder whose own drivers have ended returns to Idle, its halt line released. -/
theorem feederHaltReleased_idles {v : Nat} (hst : s.fdr[p].st = .halted) (hsafe : s.safeLine = [])
    (hown : ∀ d ∈ s.halt[p.port], s.ownEnded p d = true) (hv : v < 30000) (hretry : ∀ a, s.fdr[p].retryAt = some a → a ≤ s.now)
    (hbar : s.stageBars p.port = false) :
    ∃ t, exec (.feederHaltReleased p v) s = .next t ∧ t.fdr[p].st = .idle ∧ t.halt[p.port] = [] := by
  have hhalt : (s.dropOwn p).halt[p.port] = [] := by
    have he : (s.dropOwn p).halt[p.port] = s.halt[p.port].filter fun d => !s.ownEnded p d := vset_same ..
    rw [he, List.filter_eq_nil_iff]
    intro d hd
    simp [hown d hd]
  have hfree : (s.dropOwn p).portFree p.port = true := by
    have hs : (s.dropOwn p).safeLine = [] := hsafe
    rw [State.portFree, hhalt, hs]
    rfl
  have hall : s.fdr[p].retryAt.all (fun a => decide (a ≤ s.now)) = true := by
    cases hr : s.fdr[p].retryAt with
    | none => rfl
    | some a => exact decide_eq_true (hretry a hr)
  refine ⟨_, if_pos ⟨hst, hfree, hv, hall, hbar⟩, ?_, hhalt⟩
  rw [setFdr_get]

/-- A feeder that delivers is halted by each of its protections, with the protection's cause and source. -/
theorem haltFeeder_delivering (cause : Nat) (src : Src) (hd : s.fdr[p].delivers = true) :
    ∃ u : State, (.next (s.haltFeeder p cause src) : Ans) = .next (u.occur bAWN src p.val) ∧ u.fdr[p].st = .halted ∧
      u.fdr[p].cause = cause ∧ u.fdr[p].cur = 0 ∧ u.fdr[p].retryAt = if src = 5 then some (s.now + 1000000) else none := by
  obtain ⟨hu, hh⟩ := delivers_running hd
  obtain ⟨u, he, h⟩ := haltFeeder_halts cause src hu hh
  exact ⟨u, congrArg Host.Outcome.next he, h⟩

end

/-- Settles O43: the port's life, a step after the other. -/
theorem feederPort : Obligations.FeederPort := by
  intro s p
  refine ⟨fun mv hst hreq hmv => feederStartRequest_checks hst hreq hmv,
    fun vt vs ms hst => ⟨fun ht hs hms hreq hbar => feederCheckPassed_biases hst ht hs hms hreq hbar,
      fun ht he => feederCheckPassed_external hst ht he⟩,
    fun hst => ⟨fun mv hmv hreq => feederPrebiasDone_ramps hst hmv hreq, fun ht => feederPrebiasTimeout_halts hst ht⟩,
    fun v us => ⟨fun hst hlow hi hus => feederLimiting_limits hst hlow hi hus, fun hst hv => feederLimiting_returns hst hv⟩,
    fun hd => ⟨fun v ms hr => if_neg fun hc => ?_, fun v ms hr hv hms => ?_, fun v us hv hus => ?_, fun cur us hc hus => ?_,
      fun v us hv hus => feederYield_yields hd hv hus, fun v us hv hlo hhi hus => feederYield_recovers hd hv hlo hhi hus⟩,
    fun hreq => ⟨fun hst => feederStop_idles hreq hst, fun hd => feederStop_stops hreq hd⟩,
    fun cur hst hc => feederStopped_idles hst hc,
    fun v hst hsafe hown hv hretry hbar => feederHaltReleased_idles hst hsafe hown hv hretry hbar⟩
  · exact absurd hr (ne_true_of_eq_false hc.2.1)
  · obtain ⟨u, he, h₁, h₂, h₃, h₄⟩ := haltFeeder_delivering 3 5 hd
    exact ⟨u, (if_pos ⟨hd, hr, hv, hms⟩).trans he, h₁, h₂, h₄, h₃⟩
  · obtain ⟨u, he, h₁, h₂, h₃, -⟩ := haltFeeder_delivering 4 6 hd
    exact ⟨u, (if_pos ⟨hd, hv, hus⟩).trans he, h₁, h₂, h₃⟩
  · obtain ⟨u, he, h₁, h₂, h₃, -⟩ := haltFeeder_delivering 5 7 hd
    exact ⟨u, (if_pos ⟨hd, hc, hus⟩).trans he, h₁, h₂, h₃⟩

end Sys2Proof.Machine
end

section
/-!
PROOFS. The log's arrivals and its groups (R445-R449).
-/

namespace Sys2Proof.Machine

/-! ### Staging -/

/-- A report that no staged record matches takes a free slot with the next record number. -/
theorem stage_new {s : State} (sec usec : Nat) {r : Report} (hm : (s.ret.staged.any fun q => q.matches r) = false)
    (hfree : s.ret.staged.length < 16) : ∃ q : LogRec, (s.stage sec usec r).ret.staged = s.ret.staged ++ [⟨q, false, false⟩] ∧
      (s.stage sec usec r).ret.nextSeq = nextSeq s.ret.nextSeq ∧ q.seq = s.ret.nextSeq ∧ q.sec = sec ∧ q.usec = usec ∧ q.blk = r.blk ∧
      q.count = sat 255 r.count := by
  have hnone : s.ret.staged.find? (·.matches r) = none := by
    rw [List.find?_eq_none]
    simpa using hm
  unfold State.stage
  rw [hnone]
  dsimp only
  rw [if_neg (by omega)]
  exact ⟨_, rfl, rfl, rfl, rfl, rfl, rfl, rfl⟩

/-- With all slots occupied and none matching, the count is lost. -/
theorem stage_lost {s : State} (sec usec : Nat) {r : Report} (hm : (s.ret.staged.any fun q => q.matches r) = false)
    (hfull : 16 ≤ s.ret.staged.length) : (s.stage sec usec r).ret.staged = s.ret.staged ∧
      (s.stage sec usec r).ret.tally = s.ret.tally + r.count ∧
      (s.stage sec usec r).ret.lost = min (2 ^ 32 - 1) (s.ret.lost + r.count) := by
  have hnone : s.ret.staged.find? (·.matches r) = none := by
    rw [List.find?_eq_none]
    simpa using hm
  unfold State.stage
  rw [hnone]
  dsimp only
  rw [if_pos hfull]
  exact ⟨rfl, rfl, rfl⟩

@[simp] theorem stage_log (s : State) (sec usec : Nat) (r : Report) : (s.stage sec usec r).log = s.log :=
  but_log (fs := [.deferred, .ret]) (by simp) (by decide)

@[simp] theorem closeGroup_x3 (s : State) : s.closeGroup.x3 = s.x3 := but_x3 (fs := [.deferred, .log, .ret]) (by simp) (by decide)

/-! ### The group -/

/-- A report of another group's time opens a group of its own; within 1 us of the opening it joins. -/
theorem arrive_group (s : State) (r : Report) : ∃ g, (s.arrive r).log.group = some g ∧ { r with sev := s.sevRaw r.blk r.src } ∈ g.reports ∧
    (∀ g₀, s.log.group = some g₀ → s.now ≤ g₀.openAt + 1 → g.openAt = g₀.openAt ∧ g₀.reports <+: g.reports) ∧
    (s.log.group = none → g.openAt = s.now ∧ g.sec = s.rtc ∧ g.usec = s.rtcUs) := by
  unfold State.arrive
  extract_lets r' join x u
  cases hg : s.log.group with
  | none =>
    have hu : u = s := by
      simp only [u, State.closeGroup, hg]
    rw [if_neg (by simp [join, hg]), hu]
    exact ⟨_, rfl, List.mem_singleton.mpr rfl, fun _ h => (nomatch h), fun _ => ⟨rfl, rfl, rfl⟩⟩
  | some g₀ =>
    by_cases ht : s.now ≤ g₀.openAt + 1
    · rw [if_pos (by simp [join, hg, ht])]
      refine ⟨{ g₀ with reports := g₀.reports ++ [r'] }, by simp, by simp [r'], fun g h _ => ?_, fun h => nomatch h⟩
      cases h
      exact ⟨rfl, List.prefix_append ..⟩
    · rw [if_neg (by simp [join, hg]; omega)]
      refine ⟨_, rfl, List.mem_singleton.mpr rfl, fun g h hle => ?_, fun h => nomatch h⟩
      cases h
      exact absurd hle ht

@[simp] theorem arrive_x3 (s : State) (r : Report) : (s.arrive r).x3 = s.x3 :=
  but_x3 (fs := [.deferred, .log, .ret]) (by simp) (by decide)

/-- A group that closes stages its sorted reports. -/
theorem logGroupClose_closes {s : State} {g : LogGroup} (hg : s.log.group = some g)
    (ht : g.openAt + 1 < s.now ∨ g.openAt + 1 = s.now ∧ s.arrivalWaits = false) : exec .logGroupClose s =
    .next ((g.reports.foldl (fun l r => insertReport r l) []).foldl (fun s r => s.stage g.sec g.usec r)
      { s with log := { s.log with group := none } }) := by
  simp only [exec, execLogGroupClose, hg, if_pos ht, State.closeGroup]

/-- Two reports staged one after the other, with neither matched. -/
theorem stage_two {s : State} (sec usec : Nat) {r₁ r₂ : Report} (hblk : r₁.blk ≠ r₂.blk)
    (hm : (s.ret.staged.any fun q => q.matches r₁ || q.matches r₂) = false) (hfree : s.ret.staged.length ≤ 14) :
    ∃ q₁ q₂ : LogRec, ((s.stage sec usec r₂).stage sec usec r₁).ret.staged = s.ret.staged ++ [⟨q₂, false, false⟩, ⟨q₁, false, false⟩] ∧
      q₂.seq = s.ret.nextSeq ∧ q₁.seq = nextSeq s.ret.nextSeq ∧ q₂.blk = r₂.blk ∧ q₁.blk = r₁.blk ∧ q₁.count = sat 255 r₁.count ∧
      q₂.count = sat 255 r₂.count ∧ q₁.sec = sec ∧ q₂.sec = sec ∧ q₁.usec = usec ∧ q₂.usec = usec := by
  have hm' : ∀ q ∈ s.ret.staged, q.matches r₁ = false ∧ q.matches r₂ = false := by simpa using hm
  obtain ⟨q₂, hs₂, hn₂, hq₂, hsec₂, hus₂, hb₂, hc₂⟩ := stage_new (s := s) sec usec (r := r₂)
    (List.any_eq_false.mpr fun q hq => by simp [hm' q hq]) (by omega)
  have hother : (⟨q₂, false, false⟩ : Staged).matches r₁ = false := by
    simp [Staged.matches, hb₂, hblk.symm]
  obtain ⟨q₁, hs₁, _, hq₁, hsec₁, hus₁, hb₁, hc₁⟩ := stage_new (s := s.stage sec usec r₂) sec usec (r := r₁)
    (by
      rw [hs₂, List.any_append]
      simp only [List.any_cons, List.any_nil, hother, Bool.or_self, Bool.or_false]
      exact List.any_eq_false.mpr fun q hq => by simp [hm' q hq])
    (by rw [hs₂]; simp; omega)
  exact ⟨q₁, q₂, by rw [hs₁, hs₂, List.append_assoc]; rfl, hq₂, hq₁.trans hn₂, hb₂, hb₁, hc₁, hc₂, hsec₁, hsec₂, hus₁, hus₂⟩

/-- Settles O16: arrivals into the group, the group's close by severity, and the loss of a count. -/
theorem logGroups : Obligations.LogGroups := by
  refine ⟨fun s b src q hx hb hsrc => ?_, fun s g r₁ r₂ hg hr ht hblk hsev hm hfree hc₁ hc₂ => ?_, fun s g r hg hr ht hm hfull => ?_,
    fun s g hg ht => ?_⟩
  · have hfind : s.x3.find? (fun q => q.blk == b && q.src == src) = some q := by simp [hx, hb, hsrc]
    refine ⟨_, by simp only [exec, execLogReportArrival, hfind]; rfl, ?_, ?_⟩
    · simp [hx, hb, hsrc]
    · obtain ⟨g, hg, hmem, hjoin, hopen⟩ := arrive_group { s with x3 := s.x3.filter fun q => !(q.blk == b && q.src == src) } q
      refine ⟨g, hg, ?_, hjoin, hopen⟩
      rw [← hb, ← hsrc]
      exact hmem
  · have hsort : g.reports.foldl (fun l r => insertReport r l) [] = [r₂, r₁] := by
      rw [hr]
      simp [insertReport, Report.before, Nat.not_lt.mpr hsev.le, hsev.ne]
    obtain ⟨q₁, q₂, hq⟩ := stage_two (s := { s with log := { s.log with group := none } }) g.sec g.usec hblk hm hfree
    obtain ⟨hs, hn₂, hn₁, hb₂, hb₁, hct₁, hct₂, htime⟩ := hq
    exact ⟨_, (logGroupClose_closes hg ht).trans (by rw [hsort]; rfl), by simp only [stage_log], q₁, q₂, hs, hn₂, hn₁, hb₂, hb₁,
      hct₁.trans (Nat.min_eq_right hc₁), hct₂.trans (Nat.min_eq_right hc₂), htime⟩
  · refine ⟨_, (logGroupClose_closes hg ht).trans (by rw [hr]), ?_⟩
    exact stage_lost (s := { s with log := { s.log with group := none } }) g.sec g.usec hm hfull.ge
  · have hn : ¬(g.openAt + 1 < s.now ∨ g.openAt + 1 = s.now ∧ s.arrivalWaits = false) := by
      rcases ht with h | ⟨h, hw⟩
      · omega
      · simp [h, hw]
    simp only [exec, execLogGroupClose, hg, if_neg hn]

end Sys2Proof.Machine
end

section
/-!
PROOFS. The log's store: commits, the start-up scan, record reads and LOG_CTL (R450-R454, R495).
-/

namespace Sys2Proof.Machine

/-! ### Occurrences whose reports cross x3 -/

/-- What a report that crosses x3, and the reaction to it, can change. -/
def crossing : List Fld := reactions.filter fun f => f ≠ .log ∧ f ≠ .ret

/-- The report of a block beside DOM, WDG and LOG does not reach the staging buffer at once. -/
theorem report_crosses (s : State) {b : Blk} (src : Src) (kind : Kind) (forced : Bool) (idx : Nat) (hd : b ≠ bDOM) (hw : b ≠ bWDG)
    (hl : b ≠ bLOG) : ChangesOnly crossing s (s.report b src kind forced idx) := by
  unfold State.report ChangesOnly
  extract_lets r x dup full u v
  rw [if_neg (by simp [hl]), if_neg (by simp [hd, hw, hl])]
  split <;> simp [crossing, reactions, v, u] <;> split <;> simp

/-- A change of few fields is a change of more. -/
theorem but_widen {m n : List Fld} {s t : State} (h : ChangesOnly m s t) (hmn : ∀ f ∈ m, f ∈ n) : t.but n = s.but n := by
  rw [← but_but_of_subset hmn s, ← but_but_of_subset hmn t, show t.but m = s.but m from h]

section
variable {P : State → Prop} {b : Blk} {src : Src} {obj : Nat} (hflt : ∀ {u v : State}, ChangesOnly [.flt] u v → P u → P v)
  (hreport : ∀ {u : State} (kind : Kind), P u → P (u.report b src kind false obj))
  (hlost : ∀ {u : State}, P u → P (u.retryLost b src obj)) (hreact : ∀ {u : State}, P u → P (u.react b src obj))
  {s : State}
include hflt hreport hreact

include hlost in
/-- What the parts of an occurrence keep, the occurrence keeps: its marks in the fault records, its report, the end of its retry and its
reaction. -/
theorem occurred_parts (h : P s) : P (s.occurred b src obj) := by
  unfold State.occurred
  extract_lets u x running inWindow
  have hu : P u := hflt (by simp [ChangesOnly, u]) h
  have hset (y : BlkFault) : P (u.setFlt b y) := hflt (by simp [ChangesOnly]) hu
  split
  · split
    · exact hreact (hreport _ (hlost (hset _)))
    · split
      · exact hreact (hreport _ hu)
      · exact hreport _ (hset _)
  · exact hreact (hreport _ hu)

include hlost in
theorem occur_parts (stays : Bool) (h : P s) : P (s.occur b src obj stays) := by
  unfold State.occur
  split
  · exact h
  split
  · exact h
  extract_lets t
  have ht : P t := hflt (by simp [ChangesOnly, t]) h
  split
  · exact ht
  · exact occurred_parts hflt hreport hlost hreact ht

theorem occurHard_parts (stays : Bool) (h : P s) : P (s.occurHard b src obj stays) := by
  unfold State.occurHard
  split
  · exact h
  extract_lets t
  have ht : P t := hflt (by simp [ChangesOnly, t]) h
  split
  · exact ht
  · exact hreact (hreport _ (hflt (by simp [ChangesOnly]) ht))

end

theorem occur_crosses (s : State) {b : Blk} (src : Src) (obj : Nat) (stays : Bool) (hd : b ≠ bDOM) (hw : b ≠ bWDG)
    (hl : b ≠ bLOG) : ChangesOnly crossing s (s.occur b src obj stays) := by
  refine occur_parts (P := fun u => ChangesOnly crossing s u) (fun hb hu => Eq.trans ?_ hu)
    (fun kind hu => Eq.trans (report_crosses _ src kind false obj hd hw hl) hu) (fun hu => Eq.trans ?_ hu)
    (fun hu => Eq.trans ?_ hu) stays rfl
  · exact but_widen hb (by decide)
  · simp [crossing, reactions]
  · simp [crossing, reactions]

theorem retryOutcome_crosses (s : State) {b : Blk} (src : Src) (obj : Nat) (ok : Bool) (hd : b ≠ bDOM) (hw : b ≠ bWDG)
    (hl : b ≠ bLOG) : ChangesOnly crossing s (s.retryOutcome b src obj ok) := by
  have hr (u : State) (kind : Kind) : (u.report b src kind false obj).but crossing = u.but crossing :=
    report_crosses u src kind false obj hd hw hl
  have hdrop : (s.dropRetry b src obj).but crossing = s.but crossing := by simp [crossing, reactions]
  have hreact (u : State) : (u.react b src obj).but crossing = u.but crossing := by simp [crossing, reactions]
  unfold State.retryOutcome ChangesOnly
  extract_lets t
  split
  · split
    · rw [hr, hdrop]
    · rw [hreact, hr, hdrop]
  · rfl

/-! ### The records of other blocks -/

theorem setFlt_other (s : State) {b k : Blk} (x : BlkFault) (h : k ≠ b) : (s.setFlt b x).flt[k] = s.flt[k] := by
  simp only [setFlt_flt, Fin.getElem_fin, vset_get, if_neg h.symm]

/-- A reaction changes no fault record of another block. -/
theorem react_flt_other (s : State) {b k : Blk} (src : Src) (obj : Nat) (h : k ≠ b) : (s.react b src obj).flt[k] = s.flt[k] := by
  have hflt {t : State} (e : t.flt = s.flt) : t.flt[k] = s.flt[k] := by rw [e]
  unfold State.react
  split
  · rfl
  · split
    · exact setFlt_other s _ h
    · extract_lets x
      split
      · exact hflt (flt_of_but (by simp))
      · exact setFlt_other s _ h
    · exact hflt (flt_of_but (by simp))

/-- An occurrence leaves the running retries of every other block. -/
theorem occur_retries_other (s : State) {b k : Blk} (src : Src) (obj : Nat) (stays : Bool) (h : k ≠ b) :
    (s.occur b src obj stays).flt[k].retries = s.flt[k].retries := by
  have hmark : (s.markLive b src obj stays).flt[k].retries = s.flt[k].retries := by
    unfold State.markLive
    extract_lets t x
    rw [setFlt_other t _ h]
    exact (endWarn_retries s k).retries
  have hreact (u : State) : (u.react b src obj).flt[k].retries = u.flt[k].retries := congrArg _ (react_flt_other u src obj h)
  have hset (u : State) (y : BlkFault) : (u.setFlt b y).flt[k].retries = u.flt[k].retries := congrArg _ (setFlt_other u y h)
  have hrep (u : State) (kind : Kind) : (u.report b src kind false obj).flt[k].retries = u.flt[k].retries := by rw [report_flt]
  have hlost (u : State) : (u.retryLost b src obj).flt[k].retries = u.flt[k].retries := by rw [retryLost_flt]
  unfold State.occur State.occurred
  extract_lets t u x running inWindow
  have hu : u.flt[k].retries = s.flt[k].retries := (hset ..).trans hmark
  split
  · rfl
  split
  · rfl
  split
  · exact hmark
  split
  · split
    · rw [hreact, hrep, hlost, hset, hu]
    · split
      · rw [hreact, hrep, hu]
      · rw [hrep, hset, hu]
  · rw [hreact, hrep, hu]

/-! ### Commits -/

/-- Bytes written read back whole. -/
theorem Memory.readAll_writeAll (m : List Host.Cell) (a : Nat) (l : List Byte) (h : Memory.wf m = true) :
    Memory.readAll (Memory.writeAll m a l) a l.length = l := by
  have aux (m' : List Host.Cell) (b : Nat) (k : List Byte) (hr : ∀ i, (hi : i < k.length) → Memory.read m' (b + i) = k[i]) :
      Memory.readAll m' b k.length = k := by
    induction k generalizing b with
    | nil => rfl
    | cons x k ih =>
      have h0 : Memory.read m' b = x := hr 0 (by simp)
      have hk : Memory.readAll m' (b + 1) k.length = k := ih (b + 1) fun i hi => by
        have := hr (i + 1) (by simpa using hi)
        rwa [show b + (i + 1) = b + 1 + i by omega] at this
      simp only [List.length_cons, Memory.readAll, h0, hk]
  exact aux _ a l fun i hi => Memory.read_writeAll m a i l h hi

/-- A record is 16 bytes. -/
theorem recordBytes_length (q : LogRec) : (q.words.flatMap wordBytes).length = 16 := by
  simp [LogRec.words, wordBytes]

/-- What wear and the occurrences that it brings keep, the wear of an erase keeps. -/
theorem wearSectors_keeps {P : State → Prop} (hwear : ∀ v x, P v → P { v with nvs := x }) (hocc : ∀ v r, P v → P (v.occur bNVS 4 r))
    {s : State} (first n : Nat) (h : P s) : P (s.wearSectors first n) := by
  unfold State.wearSectors
  extract_lets w x t worn
  exact foldl_keeps P _ (fun v i hv => hocc v _ hv) worn (hwear s _ h)

/-- What a commit needs of the state before it, beside the store's bytes: the staging buffer, the counts of the log and its retries. -/
structure State.LogKept (s t : State) : Prop where
  ret : t.ret = s.ret
  retries : t.flt[bLOG].retries = s.flt[bLOG].retries
  wf : Memory.wf t.nv = true

theorem wearSectors_logKept {s t : State} (first n : Nat) (h : State.LogKept s t) : State.LogKept s (t.wearSectors first n) :=
  wearSectors_keeps (fun _ _ hv => ⟨hv.ret, hv.retries, hv.wf⟩)
    (fun v r hv => ⟨(but_ret (occur_crosses v 4 r false (by decide) (by decide) (by decide)) (by decide)).trans hv.ret,
      (occur_retries_other v 4 r false (by decide)).trans hv.retries, by
        rw [but_nv (fs := reactions) (s := v) (by simp) (by decide)]
        exact hv.wf⟩) first n h

/-- The sector erased for a record leaves the staging buffer, the retries of the log and the form of the store. -/
theorem eraseFor_logKept {s : State} (seq : Nat) (h : Memory.wf s.nv = true) : State.LogKept s (s.eraseFor seq) := by
  unfold State.eraseFor
  extract_lets slot t
  have ht : State.LogKept s t := wearSectors_logKept _ 1 ⟨rfl, rfl, Memory.erase_wf s.nv _ 4096 h⟩
  clear_value t
  split
  · exact ⟨ht.ret, ht.retries, ht.wf⟩
  · exact ⟨rfl, rfl, h⟩

/-- A record programmed reads back from its slot, and is the newest. -/
theorem programRec_reads {s : State} (q : Staged) (h : Memory.wf s.nv = true) : State.LogKept s (s.programRec q) ∧
    (s.programRec q).log.newest = q.record.seq ∧
    Memory.readAll (s.programRec q).nv (logAddr q.record.seq) 16 = q.record.words.flatMap wordBytes := by
  have hk := eraseFor_logKept q.record.seq h
  unfold State.programRec
  extract_lets t
  have ht : t = s.eraseFor q.record.seq := rfl
  rw [← ht] at hk
  clear_value t
  refine ⟨⟨hk.ret, hk.retries, Memory.writeAll_wf _ _ _ hk.wf⟩, rfl, ?_⟩
  have hr := Memory.readAll_writeAll t.nv (logAddr q.record.seq) (q.record.words.flatMap wordBytes) hk.wf
  rwa [recordBytes_length] at hr

/-- The first records programmed, gone from the buffer. -/
def State.unstaged (s : State) (n : Nat) : State :=
  { s with ret := { s.ret with staged := s.ret.staged.drop n }, log := { s.log with commit := false } }

/-- A commit that did not verify, kept in LOG_STAT. -/
def State.uncommitted (s : State) : State := { s with log := { s.log with commit := true } }

section
variable {s : State} {n : Nat} (hcan : s.canCommit = true) (hrest : s.log.restored = false) (hn : pageTake s.ret.staged = n) (h0 : n ≠ 0)
include hcan hrest hn h0

theorem logCommit_verified : exec (.logCommit true) s =
    .next (((((s.ret.staged.take n).foldl State.programRec s).unstaged n).retryOutcome bLOG 1 0 true).retryOutcome bNVS 2 2 true).stageLost := by
  have hk : s.discardKnown = s := if_neg (by simp [hrest])
  refine (if_pos hcan).trans ?_
  rw [hk, hn]
  exact (if_neg h0).trans (if_pos rfl)

theorem logCommit_failed : exec (.logCommit false) s = .next (((s.failCommit n).uncommitted.occur bNVS 2 2).occur bLOG 1 0) := by
  have hk : s.discardKnown = s := if_neg (by simp [hrest])
  refine (if_pos hcan).trans ?_
  rw [hk, hn]
  exact (if_neg h0).trans (if_neg Bool.false_ne_true)

end

theorem pageTake_one (q : Staged) : pageTake [q] = 1 := by
  simp only [pageTake, List.length_nil]
  omega

/-- The one record staged, committed: it reads back from its slot, and the buffer is empty. -/
theorem logCommit_commits {s : State} {q : Staged} (hwf : Memory.wf s.nv = true) (hst : s.ret.staged = [q]) (htally : s.ret.tally = 0)
    (hretry : s.retrying bLOG 1 0 = false) :
    let t := (((((s.ret.staged.take 1).foldl State.programRec s).unstaged 1).retryOutcome bLOG 1 0 true).retryOutcome bNVS 2 2 true).stageLost
    t.ret.staged = [] ∧ t.log.newest = q.record.seq ∧
      Memory.readAll t.nv (logAddr q.record.seq) 16 = q.record.words.flatMap wordBytes := by
  obtain ⟨hk, hnew, hread⟩ := programRec_reads q hwf
  rw [hst, List.take_succ_cons, List.take_zero, List.foldl_cons, List.foldl_nil]
  generalize s.programRec q = u at hk hnew hread
  have hlog : (u.unstaged 1).retryOutcome bLOG 1 0 true = u.unstaged 1 := by
    refine if_neg ?_
    rw [Bool.not_eq_true, ← hretry]
    exact congrArg (fun l : List Retry => l.any fun r => r.src == 1 && r.obj == 0) hk.retries
  have hnvs := retryOutcome_crosses (u.unstaged 1) (b := bNVS) 2 2 true (by decide) (by decide) (by decide)
  have hret := but_ret hnvs (by decide)
  have hlost (v : State) (h : v.ret.tally = 0) : v.stageLost = v := if_pos (.inl h)
  rw [hlog]
  intro t
  have ht : t = (u.unstaged 1).retryOutcome bNVS 2 2 true := hlost _ (by rw [hret]; exact (congrArg (·.tally) hk.ret).trans htally)
  rw [ht, hret, but_log hnvs (by decide), but_nv hnvs (by decide)]
  exact ⟨by show u.ret.staged.drop 1 = []; rw [hk.ret, hst]; rfl, hnew, hread⟩

theorem failCommit_eq {s : State} {q : Staged} {l : List Staged} (n : Nat) (hst : s.ret.staged = q :: l) : s.failCommit n =
    State.spoil { s.eraseFor q.record.seq with
      ret := { (s.eraseFor q.record.seq).ret with staged := beginProgram n (s.eraseFor q.record.seq).ret.staged } }
      (logAddr q.record.seq) (16 * n) := by
  unfold State.failCommit
  rw [hst]

/-- The one record staged, not verified: it stays, programming. -/
theorem failCommit_staged {s : State} {q : Staged} (hwf : Memory.wf s.nv = true) (hst : s.ret.staged = [q]) :
    (s.failCommit 1).ret.staged = [{ q with programming := true }] := by
  have hk := eraseFor_logKept q.record.seq hwf
  have hspoil (v : State) (a n : Nat) : (v.spoil a n).ret = v.ret := but_ret (fs := [.freeN, .nv, .nvs]) (by simp) (by decide)
  rw [failCommit_eq 1 hst, hspoil, hk.ret, hst]
  rfl

/-! ### The start-up scan -/

theorem foldl_max_ge (l : List Nat) (m : Nat) : m ≤ l.foldl max m ∧ ∀ n ∈ l, n ≤ l.foldl max m := by
  induction l generalizing m with
  | nil => simp
  | cons x l ih =>
    obtain ⟨hm, hl⟩ := ih (max m x)
    rw [List.foldl_cons]
    refine ⟨by omega, fun n hn => ?_⟩
    rcases List.mem_cons.mp hn with rfl | h
    · omega
    · exact hl n h

theorem foldl_max_mem (l : List Nat) (m : Nat) : l.foldl max m = m ∨ l.foldl max m ∈ l := by
  induction l generalizing m with
  | nil => exact .inl rfl
  | cons x l ih =>
    rw [List.foldl_cons]
    rcases ih (max m x) with h | h
    · rw [h]
      rcases max_choice m x with hm | hm <;> simp [hm]
    · exact .inr (List.mem_cons_of_mem _ h)

/-- The record numbers rest on the store alone. -/
theorem logSeqs_of {s t : State} (hnv : t.nv = s.nv) (hnvs : t.nvs = s.nvs) : t.logSeqs = s.logSeqs := by
  unfold State.logSeqs State.nvNat
  rw [hnv, hnvs]

/-- The log with the record numbers of its region known. -/
def State.scanned (s : State) (l : List Nat) : State :=
  State.renumbered { s with log := { s.log with newest := l.foldl max 0, oldest := l.foldl min (l.foldl max 0), restored := true } }
    (l.foldl max 0)

theorem logStartupScan_readable {s : State} (hscan : s.log.scan = true) (hon : s.domOn 11 = true) :
    exec (.logStartupScan true) s = .next (State.scanned { s with log := { s.log with scan := false } } s.logSeqs) := by
  refine (if_pos ⟨hscan, hon⟩).trans ((if_pos rfl).trans ?_)
  rw [logSeqs_of (s := s) (t := { s with log := { s.log with scan := false } }) rfl rfl]
  rfl

/-- The highest number found fixes the next one, and those of the records staged since the start-up. -/
theorem scanned_numbers (s : State) (l : List Nat) : (s.scanned l).log.scan = s.log.scan ∧ (∀ n ∈ l, n ≤ (s.scanned l).log.newest) ∧
    ((s.scanned l).log.newest = 0 ∨ (s.scanned l).log.newest ∈ l) ∧
    (s.ret.staged = [] → (s.scanned l).ret.nextSeq = nextSeq (s.scanned l).log.newest) ∧
    (∀ q, s.log.found = 0 → s.ret.staged = [q] →
      (s.scanned l).ret.staged = [{ q with record := { q.record with seq := nextSeq (s.scanned l).log.newest } }]) := by
  refine ⟨rfl, (foldl_max_ge l 0).2, foldl_max_mem l 0, fun hst => ?_, fun q hf hst => ?_⟩
  · simp only [State.scanned, State.renumbered, hst, List.take_nil, List.drop_nil]
    rfl
  · simp only [State.scanned, State.renumbered, hst, hf]
    rfl

/-! ### Record reads -/

theorem readRecord_found {s : State} {n : Word} (herase : s.log.erase = false) (hscan : s.log.scan = false) (hn : n ≠ 0)
    (htorn : s.nvs.torn.contains (logAddr n.toNat / 256) = false) (hseq : s.nvNat (logAddr n.toNat) 4 = n.toNat) :
    (s.readRecord n).log.rok = true ∧
      ∀ i : Fin 4, (s.readRecord n).log.rw[i] = BitVec.ofNat 32 (s.nvNat (logAddr n.toNat + 4 * i.val) 4) := by
  have hfound : (!s.log.erase && !s.log.scan && n != 0 && !s.nvs.torn.contains (logAddr n.toNat / 256) &&
      s.nvNat (logAddr n.toNat) 4 == n.toNat) = true := by
    rw [herase, hscan, htorn, hseq]
    simpa using hn
  unfold State.readRecord
  extract_lets a found
  have hf : found = true := hfound
  exact ⟨hf, fun i => by simp [hf, a]⟩

theorem readRecord_missing {s : State} {n : Word} (h : s.log.erase = true ∨ s.nvs.torn.contains (logAddr n.toNat / 256) = true ∨
    s.nvNat (logAddr n.toNat) 4 ≠ n.toNat) : (s.readRecord n).log.rok = false ∧ ∀ i : Fin 4, (s.readRecord n).log.rw[i] = 0 := by
  unfold State.readRecord
  extract_lets a found
  have hf : found = false := by
    rcases h with h | h | h
    · simp [found, h]
    · simp only [found, a, h, Bool.not_true, Bool.and_false, Bool.false_and]
    · simp [found, a, h]
  exact ⟨hf, fun i => by simp [hf]⟩

/-- Settles O17: commits, the scan, record reads, and LOG_CTL's commands. -/
theorem logStore : Obligations.LogStore := by
  have next {s : State} (r : Req) {a : Nat} (f : State → State) (hs : s.serves a) :
      (Host.Outcome.next (s.viaService r a f) : Ans) = .next (f s) := congrArg Host.Outcome.next (viaService_serves s r _ f hs)
  refine ⟨fun s q hinv hcan hrest hst htally hretry => ?_, fun s hscan hon => ⟨⟨_, logStartupScan_readable hscan hon, scanned_numbers _ _⟩, ?_⟩,
    fun s r n hs => ⟨_, next r _ hs, rfl, readRecord_found, readRecord_missing⟩,
    fun s r hs => ⟨⟨_, next r _ hs, rfl⟩, ⟨_, next r _ hs, rfl, rfl⟩, fun herase => ?_⟩⟩
  · have hn : pageTake s.ret.staged = 1 := by rw [hst, pageTake_one]
    have hwf := nv_wf_of_inv ((inv_iff_but s).mp hinv)
    exact ⟨⟨_, logCommit_verified hcan hrest hn one_ne_zero, logCommit_commits hwf hst htally hretry⟩,
      ⟨_, logCommit_failed hcan hrest hn one_ne_zero, rfl, failCommit_staged hwf hst⟩⟩
  · exact ⟨_, (if_pos ⟨hscan, hon⟩).trans (if_neg Bool.false_ne_true), rfl, rfl⟩
  · have ho := askStore_ops (s := { s with log := { s.log with erase := true } }) (o := .logErase) rfl
    have he : s.startLogErase = State.askStore { s with log := { s.log with erase := true } } .logErase := if_neg (by simp [herase])
    have hlog : (State.askStore { s with log := { s.log with erase := true } } .logErase).log.erase = true ∧
        (State.askStore { s with log := { s.log with erase := true } } .logErase).nv = s.nv := by
      unfold State.askStore
      split
      · next h => exact absurd h Bool.false_ne_true
      · split <;> exact ⟨rfl, rfl⟩
    refine ⟨_, next r _ hs, ?_⟩
    rw [he]
    exact ⟨hlog.1, by rw [ho.1]; exact List.mem_append_right _ (List.mem_singleton.mpr rfl), hlog.2⟩

end Sys2Proof.Machine
end

section
/-!
PROOFS. What reactions leave of the flow contexts: none becomes Free or leaves Free, and each keeps its generation and its profile
(R196, R204, R206).
-/

namespace Sys2Proof.Machine

/-- Two records of one flow that agree in what no hardware event changes. -/
structure FlowCtx.Same (f g : FlowCtx) : Prop where
  gen : g.gen = f.gen
  safe : g.safe = f.safe
  free : g.st = .free ↔ f.st = .free

/-- Every context of the second state is the flow that it was in the first. -/
def State.SameFlows (s t : State) : Prop := ∀ c : Ctx, FlowCtx.Same s.ctx[c] t.ctx[c]

theorem FlowCtx.Same.refl (f : FlowCtx) : FlowCtx.Same f f := ⟨rfl, rfl, Iff.rfl⟩

theorem FlowCtx.Same.trans {f g h : FlowCtx} (hg : FlowCtx.Same f g) (hh : FlowCtx.Same g h) : FlowCtx.Same f h :=
  ⟨hh.gen.trans hg.gen, hh.safe.trans hg.safe, hh.free.trans hg.free⟩

theorem State.SameFlows.refl (s : State) : State.SameFlows s s := fun _ => .refl _

theorem State.SameFlows.trans {s t u : State} (ht : State.SameFlows s t) (hu : State.SameFlows t u) : State.SameFlows s u :=
  fun c => (ht c).trans (hu c)

theorem sameFlows_of_ctx {s t : State} (h : t.ctx = s.ctx) : State.SameFlows s t := fun c => by
  rw [h]
  exact .refl _

/-- A change beside the flows. -/
theorem sameFlows_of_but {fs : List Fld} {s t : State} (h : t.but fs = s.but fs) (hn : Fld.ctx ∉ fs) : State.SameFlows s t :=
  sameFlows_of_ctx (but_ctx h hn)

theorem settleFlow_same (s : State) (f : FlowCtx) : FlowCtx.Same f (s.settleFlow f) where
  gen := settleFlow_gen s f
  free := settleFlow_free_iff s f
  safe := by
    unfold State.settleFlow
    extract_lets hw all
    split
    · split <;> rfl
    · split <;> rfl
    · split <;> rfl
    · split <;> rfl
    · rfl
    · rfl

theorem settle_sameFlows (s : State) : State.SameFlows s s.settle := fun c => by
  rw [settle_ctx]
  exact (settleFlow_same _ _).trans (settleFlow_same _ _)

theorem settle_after {s t : State} (h : State.SameFlows s t) : State.SameFlows s t.settle := h.trans (settle_sameFlows t)

theorem zeroGrants_sameFlows (s : State) : State.SameFlows s s.zeroGrants := fun c => by
  simp only [State.zeroGrants, Fin.getElem_fin, Vector.getElem_map]
  exact ⟨rfl, rfl, Iff.rfl⟩

theorem enterStubble_sameFlows (s : State) : State.SameFlows s s.enterStubble := by
  unfold State.enterStubble State.zeroThresher
  split
  · split
    · exact zeroGrants_sameFlows _
    · exact .refl s
  · exact .refl s

/-- A flow fenced is no more Free than it was. -/
theorem fenceFlow_sameFlows (s : State) (c : Ctx) (b : Blk) (src : Src) : State.SameFlows s (s.fenceFlow c b src) := by
  have hstop (u : State) (g : Group) : (u.stopGroup g).ctx = u.ctx := but_ctx (fs := [.fab, .groups, .cells]) (by simp) (by decide)
  unfold State.fenceFlow
  extract_lets f u others
  split
  · exact .refl s
  · next hf =>
    have hu : State.SameFlows s u := fun k => by
      simp only [u, State.setCtx, Fin.getElem_fin, vset_get]
      split
      · next hk =>
        obtain rfl := hk
        exact ⟨rfl, rfl, iff_of_false (fun h => nomatch h) hf⟩
      · exact .refl _
    split
    · split
      · split
        · exact hu
        · exact hu.trans (sameFlows_of_ctx (hstop u _))
      · exact hu
    · exact hu

theorem degrade_sameFlows (s : State) (b : Blk) (src : Src) (obj : Nat) : State.SameFlows s (s.degrade b src obj) := by
  have hcell (u : State) (c : Cell) (d : Driver) : State.SameFlows u (u.fenceCell c d) :=
    sameFlows_of_but (fs := [.fab, .groups, .cells]) (by simp) (by decide)
  have hrest {u : State} (h : u.but [.fab, .groups, .cells, .branches, .est] = s.but [.fab, .groups, .cells, .branches, .est]) :
      State.SameFlows s u := sameFlows_of_but h (by decide)
  unfold State.degrade
  extract_lets d
  split
  · split
    · exact settle_after (hcell s _ d)
    · exact .refl s
  · split
    · exact hrest (by simp)
    · exact .refl s
  · split
    · split
      · exact settle_after (fenceFlow_sameFlows s _ b src)
      · exact .refl s
    · exact .refl s
  · exact hrest (by simp)
  · split
    · split
      · exact settle_after (hcell s _ d)
      · exact .refl s
    · split
      · exact hrest (by simp)
      · exact .refl s
  · split
    · exact settle_after (fenceFlow_sameFlows s _ b src)
    · exact .refl s
  · unfold State.degradeSense
    split
    · exact settle_after (hcell s _ _)
    · exact .refl s
  · exact .refl s

theorem assertHalt_sameFlows (s : State) (p : Port) (d : Driver) : State.SameFlows s (s.assertHalt p d) := by
  unfold State.assertHalt
  extract_lets t
  have ht : State.SameFlows s t := sameFlows_of_but (fs := [.halt, .fab, .groups, .cells, .branches, .src, .bat, .fdr]) (by simp [t]) (by decide)
  split
  · exact settle_after (ht.trans (sameFlows_of_but (fs := [.src, .bat, .fdr]) (by simp) (by decide)))
  · exact settle_after ht

theorem assertSafe_sameFlows (s : State) (d : Driver) : State.SameFlows s (s.assertSafe d) := by
  unfold State.assertSafe
  extract_lets first t
  have ht : State.SameFlows s t := .refl s
  split
  · refine ht.trans (settle_after (State.SameFlows.trans ?_ (enterStubble_sameFlows _)))
    exact sameFlows_of_but (fs := [.deferred, .img, .fab, .groups, .cells, .culm, .branches, .src, .bat, .fdr, .awn]) (by simp) (by decide)
  · exact ht

theorem reactLines_sameFlows (s : State) (b : Blk) (src : Src) (obj : Nat) : State.SameFlows s (s.reactLines b src obj) := by
  unfold State.reactLines
  split
  · exact foldl_keeps (State.SameFlows s) _ (fun u p hu => hu.trans (assertHalt_sameFlows u p _)) _ (.refl s)
  · exact assertSafe_sameFlows s _
  · exact .refl s

theorem react_sameFlows (s : State) (b : Blk) (src : Src) (obj : Nat) : State.SameFlows s (s.react b src obj) := by
  have hflt {u : State} (h : u.but [.flt] = s.but [.flt]) : State.SameFlows s u := sameFlows_of_but h (by decide)
  unfold State.react
  split
  · exact .refl s
  · split
    · exact hflt (by simp)
    · extract_lets x
      split
      · exact degrade_sameFlows s b src obj
      · exact hflt (by simp)
    · exact reactLines_sameFlows s b src obj

/-- An occurrence leaves every context the flow that it was. -/
theorem occur_sameFlows (s : State) (b : Blk) (src : Src) (obj : Nat) (stays : Bool) : State.SameFlows s (s.occur b src obj stays) :=
  occur_parts (P := State.SameFlows s) (fun h hu => hu.trans (sameFlows_of_but h (by decide)))
    (fun kind hu => hu.trans (sameFlows_of_but (fs := [.deferred, .x3, .xing, .log, .ret]) (by simp) (by decide)))
    (fun hu => hu.trans (sameFlows_of_but (fs := [.src]) (by simp) (by decide)))
    (fun hu => hu.trans (react_sameFlows _ b src obj)) stays (.refl s)

end Sys2Proof.Machine
end

section
/-!
PROOFS. The watchdog: its ladder, its start and service, and the host contact (R455-R468).
-/

namespace Sys2Proof.Machine

/-! ### What an occurrence leaves of the watchdog -/

/-- A record staged leaves the watchdog's part of retained memory. -/
@[simp] theorem stage_wdg (s : State) (sec usec : Nat) (r : Report) : (s.stage sec usec r).ret.wdg = s.ret.wdg := by
  unfold State.stage
  split
  · extract_lets u
    split <;> rfl
  · split <;> rfl

@[simp] theorem closeGroup_wdg (s : State) : s.closeGroup.ret.wdg = s.ret.wdg := by
  unfold State.closeGroup
  split
  · rfl
  · exact foldl_keeps (fun u : State => u.ret.wdg = s.ret.wdg) _ (fun u r hu => (stage_wdg ..).trans hu) _ rfl

@[simp] theorem arrive_wdg (s : State) (r : Report) : (s.arrive r).ret.wdg = s.ret.wdg := by
  unfold State.arrive
  extract_lets r' join x u
  split
  · rfl
  · exact closeGroup_wdg s

theorem report_wdg (s : State) (b : Blk) (src : Src) (kind : Kind) (forced : Bool) (idx : Nat) :
    (s.report b src kind forced idx).ret.wdg = s.ret.wdg := by
  unfold State.report
  extract_lets r x dup full u v
  split
  · rfl
  · split
    · exact arrive_wdg s r
    · have hv : v.ret = s.ret := by
        simp only [v]
        split <;> rfl
      split <;> exact congrArg (·.wdg) hv

/-- An occurrence leaves the ladder's state, which retained memory holds. -/
theorem occur_wdg (s : State) (b : Blk) (src : Src) (obj : Nat) (stays : Bool) : (s.occur b src obj stays).ret.wdg = s.ret.wdg :=
  occur_parts (P := fun u => u.ret.wdg = s.ret.wdg) (fun h hu => (congrArg (·.wdg) (but_ret h (by decide))).trans hu)
    (fun kind hu => (report_wdg ..).trans hu)
    (fun hu => (congrArg (·.wdg) (but_ret (fs := [.src]) (by simp) (by decide))).trans hu)
    (fun {u} hu => (congrArg (·.wdg) (but_ret (s := u) (fs := crossing) (by simp [crossing, reactions]) (by decide))).trans hu) stays rfl

/-- The Safe line leaves the control core's restart as it is. -/
theorem assertSafe_coreRestart (s : State) (d : Driver) : (s.assertSafe d).dom.coreRestart = s.dom.coreRestart := by
  have hstub (u : State) : u.enterStubble.dom.coreRestart = u.dom.coreRestart := by
    unfold State.enterStubble
    split
    · rw [show ∀ v : State, v.zeroThresher.dom = v.dom from fun v => but_dom (fs := [.ctx, .thr]) (by simp) (by decide)]
    · rfl
  have hrest (u : State) : ((u.unsettle u.culm.vmeas).stopAll.safeLoads.safePorts.safeActivation).dom = u.dom :=
    but_dom (fs := [.deferred, .img, .fab, .groups, .cells, .culm, .branches, .src, .bat, .fdr, .awn]) (by simp) (by decide)
  unfold State.assertSafe
  extract_lets first t
  split
  · rw [show ∀ v : State, v.settle.dom = v.dom from fun v => but_dom (fs := [.groups, .ctx, .chg]) (by simp) (by decide), hstub, hrest]
  · rfl

theorem coreRestart_steady (x : Option Nat) : State.Steady (fun s => s.dom.coreRestart = x) where
  but hb h := (congrArg (·.coreRestart) (but_dom hb (by decide))).trans h
  safe d h := (assertSafe_coreRestart _ d).trans h

/-! ### The control core restarts -/

@[simp] theorem emptyXing_ret (s : State) (x : Xing) : (s.emptyXing x true true).ret = s.ret := by
  unfold State.emptyXing
  extract_lets t u
  have hu : u.ret = s.ret := by
    simp only [u, t, Bool.true_eq_false, and_false, if_false]
    split
    · rfl
    · split <;> rfl
  exact (but_ret (occur_crosses u 2 x.val false (by decide) (by decide) (by decide)) (by decide)).trans hu

@[simp] theorem emptyXing_coreRestart (s : State) (x : Xing) : (s.emptyXing x true true).dom.coreRestart = s.dom.coreRestart := by
  unfold State.emptyXing
  extract_lets t u
  have hu : u.dom = s.dom := by
    simp only [u, t, Bool.true_eq_false, and_false, if_false]
    split
    · rfl
    · split <;> rfl
  exact occur_steady (coreRestart_steady _) _ _ _ _ (congrArg (·.coreRestart) hu)

theorem abortSession_keeps (s : State) : s.abortSession.ret = s.ret ∧ s.abortSession.dom.coreRestart = s.dom.coreRestart := by
  unfold State.abortSession
  split
  · exact ⟨rfl, rfl⟩
  · extract_lets t x
    have ht : t.ret = s.ret := but_ret (fs := [.freeN, .nv, .nvs, .img]) (by simp [t]) (by decide)
    have hd : t.dom = s.dom := but_dom (fs := [.freeN, .nv, .nvs, .img]) (by simp [t]) (by decide)
    exact ⟨(but_ret (occur_crosses _ 7 0 false (by decide) (by decide) (by decide)) (by decide)).trans ht,
      occur_steady (coreRestart_steady _) _ _ _ _ (congrArg (·.coreRestart) hd)⟩

/-- A restart of the control core: its time is noted, and retained memory stays. -/
theorem restartCore_keeps (s : State) : s.restartCore.ret = s.ret ∧ s.restartCore.dom.coreRestart = some s.now := by
  unfold State.restartCore
  extract_lets x t u
  have ht : t.thrHold.ret = s.ret ∧ t.thrHold.dom.coreRestart = some s.now :=
    ⟨but_ret (fs := [.thr, .dom]) (by simp [t]) (by decide), congrArg (·.coreRestart) (but_dom (fs := [.thr]) (s := t) (by simp) (by decide))⟩
  have hu : u.ret = s.ret ∧ u.dom.coreRestart = some s.now :=
    ⟨(abortSession_keeps _).1.trans ht.1, (abortSession_keeps _).2.trans ht.2⟩
  simp only [List.foldl_cons, List.foldl_nil, emptyXing_ret, emptyXing_coreRestart]
  exact hu

/-! ### The ladder -/

/-- A step that restarts the module. -/
theorem ladderModule_restarts (s : State) (cause tries : Nat) : (s.ladderModule cause tries).ret.wdg.level = 2 ∧
    (s.ladderModule cause tries).ret.wdg.tries = tries ∧ (s.ladderModule cause tries).ret.wdg.mr = min 65535 (s.ret.wdg.mr + 1) ∧
    (s.ladderModule cause tries).dom.st = .inReset ∧ (s.ladderModule cause tries).dom.boot = true ∧
    (s.ladderModule cause tries).dom.wake = .watchdog := by
  unfold State.ladderModule
  extract_lets w x t ops u
  have hret : u.ret.wdg = t.stopCounter.ret.wdg := (beginBoot_keeps ..).2
  have hb : u.Booting false .watchdog 0 := beginBoot_booting ..
  clear_value u
  exact ⟨congrArg (·.level) hret, congrArg (·.tries) hret, congrArg (·.mr) hret, hb.st, hb.boot, hb.wake⟩

section
variable {s : State} (hhold : s.ret.wdg.hold = false)
include hhold

/-- A step from level 0 restarts the control core. -/
theorem ladder_core (cause : Nat) (hl : s.ret.wdg.level = 0) : (s.ladder cause).ret.wdg.level = 1 ∧
    (s.ladder cause).ret.wdg.ccr = min 65535 (s.ret.wdg.ccr + 1) ∧ (s.ladder cause).ret.wdg.lastCause = cause ∧
    (s.ladder cause).dom.coreRestart = some s.now ∧ (s.ladder cause).wdg.run = false ∧
    (s.ladder cause).wdg.clkCore = s.wdg.clkCore := by
  have he : s.ladder cause = s.ladderCore cause := by
    simp only [State.ladder, hhold, hl, Bool.false_eq_true, if_false]
  rw [he]
  unfold State.ladderCore
  extract_lets w x t
  obtain ⟨hret, hcore⟩ := restartCore_keeps t.stopCounter
  have hw : t.stopCounter.restartCore.wdg = t.stopCounter.wdg :=
    but_wdg (s := t.stopCounter) (fs := .xslots :: .nv :: .nvs :: .freeN :: .ring :: reactions) (by simp [reactions]) (by decide)
  rw [hret, hcore, hw]
  exact ⟨rfl, rfl, rfl, rfl, rfl, rfl⟩

theorem ladder_module {cause : Nat} (hl : s.ret.wdg.level = 1) : s.ladder cause = s.ladderModule cause 1 := by
  simp only [State.ladder, hhold, hl, Bool.false_eq_true, if_false]

theorem ladder_repeat {cause : Nat} (hl : s.ret.wdg.level = 2) (ht : s.ret.wdg.tries < s.fuse.nmax) :
    s.ladder cause = s.ladderModule cause (s.ret.wdg.tries + 1) := by
  simp only [State.ladder, hhold, hl, ht, Bool.false_eq_true, if_false, if_true]

theorem ladder_hold {cause : Nat} (hl : s.ret.wdg.level = 2) (ht : s.fuse.nmax ≤ s.ret.wdg.tries) :
    s.ladder cause = s.ladderHold cause := by
  simp only [State.ladder, hhold, hl, Nat.not_lt.mpr ht, Bool.false_eq_true, if_false]

end

/-- Hold: the Safe line and its source behind it. -/
theorem ladderHold_holds (s : State) (cause : Nat) : ∃ u : State, s.ladderHold cause = u.occur bWDG 4 0 ∧ u.ret.wdg.hold = true ∧
    holdDriver ∈ u.safeLine ∧ u.wdg.run = false := by
  unfold State.ladderHold
  extract_lets w count t u x
  refine ⟨_, rfl, ?_, assertSafe_asserts _ _, ?_⟩
  · rw [show ∀ (v : State) d, (v.assertSafe d).ret = v.ret from fun v d => but_ret (fs := crossing) (by simp [crossing, reactions]) (by decide)]
    rfl
  · rw [show ∀ (v : State) d, (v.assertSafe d).wdg = v.wdg from fun v d => but_wdg (fs := crossing) (by simp [crossing, reactions]) (by decide)]
    rfl

/-- The source of an expiry or a violation leaves what the ladder's step rests on. -/
theorem occur_ladder (s : State) (src : Src) : (s.occur bWDG src 0).ret.wdg = s.ret.wdg ∧ (s.occur bWDG src 0).fuse = s.fuse ∧
    (s.occur bWDG src 0).now = s.now ∧ (s.occur bWDG src 0).wdg = s.wdg :=
  ⟨occur_wdg .., but_fuse (fs := reactions) (by simp [reactions]) (by decide), but_now (fs := reactions) (by simp [reactions]) (by decide),
    but_wdg (fs := reactions) (by simp [reactions]) (by decide)⟩

/-- A trip at level 0 restarts the control core. -/
theorem wdgTrip_core {s : State} (src : Src) (cause : Nat) (hhold : s.ret.wdg.hold = false) (hl : s.ret.wdg.level = 0) :
    (s.wdgTrip src cause).ret.wdg.level = 1 ∧ (s.wdgTrip src cause).ret.wdg.ccr = min 65535 (s.ret.wdg.ccr + 1) ∧
    (s.wdgTrip src cause).ret.wdg.lastCause = cause ∧ (s.wdgTrip src cause).dom.coreRestart = some s.now ∧
    (s.wdgTrip src cause).wdg.run = false ∧ (s.wdgTrip src cause).wdg.clkCore = s.wdg.clkCore := by
  obtain ⟨hw, -, hn, hc⟩ := occur_ladder s src
  have h := ladder_core (s := s.occur bWDG src 0) (hw ▸ hhold) cause (hw ▸ hl)
  rwa [hw, hn, hc] at h

/-! ### The ladder's commands -/

theorem wdgExpiry_trips {s : State} (hrun : s.wdg.run = true) (hp : s.wdgPNow ≤ s.wdgMost) : exec .wdgExpiry s = .next (s.wdgTrip 0 1) :=
  if_pos ⟨hrun, hp⟩

/-- A key written through the service. -/
theorem wdgKeyWrite_next {s : State} (r : Req) (key : BitVec 16) (hs : s.serves wdgKeyAt) :
    exec (.wdgKeyWrite r key) s = .next (s.wdgKey key.toNat) := congrArg Host.Outcome.next (viaService_serves s r _ _ hs)

/-- A wrong key is a violation. -/
theorem wdgKey_wrong {s : State} {key : BitVec 16} (hrun : s.wdg.run = true)
    (hk : s.wdg.armed = false ∧ key ≠ 0x6B1D ∨ s.wdg.armed = true ∧ key ≠ 0x94E2) : s.wdgKey key.toNat = s.wdgTrip 1 2 := by
  have hne {v : BitVec 16} (n : Nat) (hv : v.toNat = n) (h : key ≠ v) : ¬key.toNat = n := fun he => h (BitVec.eq_of_toNat_eq (he.trans hv.symm))
  unfold State.wdgKey
  rw [if_neg (by simp [hrun])]
  rcases hk with ⟨ha, hk⟩ | ⟨ha, hk⟩
  · rw [if_neg (by simp [ha]), if_neg (hne 0x6B1D rfl hk)]
  · rw [if_pos ha, if_neg (hne 0x94E2 rfl hk)]

/-- The root clock's count stands at its ticks. -/
theorem wdgCount_root {s : State} (hrun : s.wdg.run = true) (hclk : s.wdg.clkCore = false) : s.wdgCount = s.wdgTicks := by
  unfold State.wdgCount
  rw [if_neg (by simp [hrun]), if_neg (by simp [hclk])]

/-- The second key before the window opens is a violation. -/
theorem wdgKey_early {s : State} (hrun : s.wdg.run = true) (hclk : s.wdg.clkCore = false) (ha : s.wdg.armed = true)
    (hw : s.wdgTicks < s.wdgWNow) : s.wdgKey 0x94E2 = s.drew.wdgTrip 2 3 := by
  unfold State.wdgKey
  rw [if_neg (by simp [hrun]), if_pos ha, if_pos rfl, wdgCount_root hrun hclk]
  exact if_pos hw

/-- Between the window's opening and the expiry it is a service. -/
theorem wdgKey_service {s : State} (hrun : s.wdg.run = true) (hclk : s.wdg.clkCore = false) (ha : s.wdg.armed = true)
    (hw : s.wdgWNow ≤ s.wdgTicks) (hp : s.wdgTicks < s.wdgPNow) : s.wdgKey 0x94E2 = s.drew.service := by
  unfold State.wdgKey
  rw [if_neg (by simp [hrun]), if_pos ha, if_pos rfl, wdgCount_root hrun hclk]
  exact (if_neg (by omega)).trans (if_pos hp)

/-- The watchdog's record when the clock in use trips: the other one is used where it has not tripped. -/
def State.changedOver (s : State) (other : Bool) : State :=
  { s with wdg := { s.wdg with
      rootTripped := s.wdg.rootTripped || !s.wdg.clkCore, coreTripped := s.wdg.coreTripped || s.wdg.clkCore
      clkCore := if other then s.wdg.clkCore else !s.wdg.clkCore } }

section
variable {s : State} (hlock : s.wdg.lock = true)
include hlock

/-- A tripped clock, by whether the other one has tripped already. -/
theorem wdgClockMonitorTrip_eq {other : Bool} (ho : (if s.wdg.clkCore then s.wdg.rootTripped else s.wdg.coreTripped) = other) :
    exec .wdgClockMonitorTrip s = .next (if s.ret.wdg.hold = true ∨ (other = false ∧ s.stepInTick = true) then (s.changedOver other).occur bWDG 3 0
      else if other then ((s.changedOver other).occur bWDG 3 0).ladderHold 4 else (s.changedOver other).wdgTrip 3 4) := by
  refine (if_pos hlock).trans ?_
  rw [ho]
  rfl

theorem wdgClockMonitorTrip_steps (hroot : s.wdg.rootTripped = false) (hcore : s.wdg.coreTripped = false)
    (hhold : s.ret.wdg.hold = false) (htick : s.stepInTick = false) :
    exec .wdgClockMonitorTrip s = .next ((s.changedOver false).wdgTrip 3 4) := by
  rw [wdgClockMonitorTrip_eq hlock (other := false) (by rw [hroot, hcore, ite_self]), if_neg (by simp [hhold, htick])]
  rfl

theorem wdgClockMonitorTrip_again (hroot : s.wdg.rootTripped = false) (hcore : s.wdg.coreTripped = false) (htick : s.stepInTick = true) :
    exec .wdgClockMonitorTrip s = .next ((s.changedOver false).occur bWDG 3 0) := by
  rw [wdgClockMonitorTrip_eq hlock (other := false) (by rw [hroot, hcore, ite_self]), if_pos (.inr ⟨rfl, htick⟩)]

theorem wdgClockMonitorTrip_both (hroot : s.wdg.rootTripped = true) (hcore : s.wdg.coreTripped = true) (hhold : s.ret.wdg.hold = false) :
    exec .wdgClockMonitorTrip s = .next (((s.changedOver true).occur bWDG 3 0).ladderHold 4) := by
  rw [wdgClockMonitorTrip_eq hlock (other := true) (by rw [hroot, hcore, ite_self]), if_neg (by simp [hhold])]
  rfl

end

/-- The restart of the control core done: the counter runs where it is locked and not in Hold, and Thresher goes on. -/
theorem controlCoreRestartDone_resumes {s : State} (h : s.dom.coreRestart.isSome = true) :
    ∃ t, exec .controlCoreRestartDone s = .next t ∧ t.dom.coreRestart = none ∧
      (s.wdg.lock = true → s.ret.wdg.hold = false → t.wdg.run = true ∧ t.wdg.since = s.now ∧ t.wdg.firstPeriod = true) ∧
      (s.thr.st = .held → t.thr.st = .running) := by
  have hthr (u : State) : u.thrResume.dom = u.dom ∧ u.thrResume.wdg = u.wdg ∧ u.thrResume.ret = u.ret ∧ u.thrResume.now = u.now :=
    ⟨but_dom (fs := [.thr]) (by simp) (by decide), but_wdg (fs := [.thr]) (by simp) (by decide),
      but_ret (fs := [.thr]) (by simp) (by decide), but_now (fs := [.thr]) (by simp) (by decide)⟩
  obtain ⟨hd, hw, hr, hn⟩ := hthr { s with dom := { s.dom with coreRestart := none } }
  refine ⟨_, if_pos h, congrArg (·.coreRestart) hd, fun hlock hhold => ?_, fun hheld => ?_⟩
  · unfold State.releaseCore
    rw [hw, hr, hn]
    exact ⟨by rw [hlock, hhold]; rfl, rfl, rfl⟩
  · have he : ({ s with dom := { s.dom with coreRestart := none } } : State).thrResume =
        { s with dom := { s.dom with coreRestart := none }, thr := { s.thr with st := .running, round := none } } := if_pos hheld
    rw [he]
    rfl

/-- Settles O18: the steps of the ladder, the violations of the keys, the tripped clocks and the end of a restart. -/
theorem watchdogLadder : Obligations.WatchdogLadder := by
  refine ⟨fun s hrun hp hhold => ?_, fun s r key hs hrun hclk hhold hl => ⟨fun hk => ?_, fun ha hk hw => ?_⟩,
    fun s hlock hroot hcore hhold hl htick => ?_, fun s hlock hroot hcore htick => ⟨_, wdgClockMonitorTrip_again hlock hroot hcore htick, rfl, rfl⟩,
    fun s hlock hroot hcore hhold => ?_, fun s h => controlCoreRestartDone_resumes h⟩
  · have he := wdgExpiry_trips hrun hp
    obtain ⟨hw, hf, -, -⟩ := occur_ladder s 0
    have hh : (s.occur bWDG 0 0).ret.wdg.hold = false := hw ▸ hhold
    refine ⟨fun hl => ?_, fun hl => ?_, fun hl ht => ?_, fun hl ht => ?_⟩
    · obtain ⟨h1, hccr, hcause, hcore, hstop, -⟩ := wdgTrip_core 0 1 hhold hl
      exact ⟨_, he, h1, hccr, hcause, hcore, hstop⟩
    · obtain ⟨h2, htries, hmr, hst, hboot, hwake⟩ := ladderModule_restarts (s.occur bWDG 0 0) 1 1
      refine ⟨_, he.trans (congrArg Host.Outcome.next (ladder_module hh (hw ▸ hl))), h2, htries, ?_, hst, hboot, hwake⟩
      rwa [hw] at hmr
    · obtain ⟨h2, htries, -, -, hboot, -⟩ := ladderModule_restarts (s.occur bWDG 0 0) 1 ((s.occur bWDG 0 0).ret.wdg.tries + 1)
      refine ⟨_, he.trans (congrArg Host.Outcome.next (ladder_repeat hh (hw ▸ hl) (hw ▸ hf ▸ ht))), h2, ?_, hboot⟩
      rw [htries, hw]
    · obtain ⟨u, hu, hhold', hsafe, hstop⟩ := ladderHold_holds (s.occur bWDG 0 0) 1
      exact ⟨u, he.trans (congrArg Host.Outcome.next ((ladder_hold hh (hw ▸ hl) (hw ▸ hf ▸ ht)).trans hu)), hhold', hsafe, hstop⟩
  · obtain ⟨h1, -, hcause, -⟩ := wdgTrip_core (s := s) 1 2 hhold hl
    exact ⟨_, (wdgKeyWrite_next r key hs).trans (congrArg Host.Outcome.next (wdgKey_wrong hrun hk)), h1, hcause⟩
  · obtain ⟨h1, -, hcause, -⟩ := wdgTrip_core (s := s.drew) 2 3 hhold hl
    refine ⟨_, (wdgKeyWrite_next r key hs).trans (congrArg Host.Outcome.next ?_), h1, hcause⟩
    rw [hk]
    exact wdgKey_early hrun hclk ha hw
  · obtain ⟨h1, -, hcause, -, -, hclk⟩ := wdgTrip_core (s := s.changedOver false) 3 4 hhold hl
    exact ⟨_, wdgClockMonitorTrip_steps hlock hroot hcore hhold htick, hclk, h1, hcause⟩
  · obtain ⟨u, hu, hh, hsafe, -⟩ := ladderHold_holds ((s.changedOver true).occur bWDG 3 0) 4
    exact ⟨u, (wdgClockMonitorTrip_both hlock hroot hcore hhold).trans (congrArg Host.Outcome.next hu), hh, hsafe⟩

/-! ### The host contact -/

/-- A contact while the timer runs. -/
theorem contact_restarts {s : State} (hrun : s.host.run = true) :
    ∃ u : State, u.host = { s.host with since := s.now, exp := false, zero := false } ∧ ChangesOnly [.host] s u ∧
      s.contact = if s.host.exp then u.occur bWDG 6 0 else u := by
  refine ⟨{ s with host := { s.host with since := s.now, exp := false, zero := false } }, rfl, rfl, ?_⟩
  exact if_pos hrun

/-- The low field of WDG_HCT as the register takes it. -/
theorem wdgHctSpec_accept (v : Word) : (wdgHctSpec.accept v).bits 9 0 = max 1 (min 600 (v.bits 9 0)) := by
  have hlow (a b : Nat) (ha : a < 1024) : (BitVec.ofNat 32 a ||| BitVec.ofNat 32 (b * 65536)).toNat % 1024 = a := by
    rw [BitVec.toNat_or, BitVec.toNat_ofNat, BitVec.toNat_ofNat, show 1024 = 2 ^ 10 from rfl, Nat.or_mod_two_pow]
    have hb : b * 65536 % 2 ^ 32 % 2 ^ 10 = 0 := by omega
    have ha' : a % 2 ^ 32 % 2 ^ 10 = a := by omega
    rw [hb, ha', Nat.or_zero]
  have hb : max 1 (min 600 (v.bits 9 0)) < 1024 := by omega
  simp only [RegSpec.accept, wdgHctSpec, List.foldl, RegField.clamp, pow_zero, Nat.mul_one]
  simpa [Word.bits] using hlow _ _ hb

/-- The period stored of a write of WDG_HCT. -/
theorem wdgHct_period {s : State} (v : Word) (h : s.Inv) : ((s.setReg wdgHctAt v).reg wdgHctAt).bits 9 0 = max 1 (min 600 (v.bits 9 0)) := by
  rw [setReg_reg (q := wdgHctSpec) (by decide +kernel) h]
  exact wdgHctSpec_accept v

/-! ### Safe profiles -/

/-- A flow that is not Free is in its safe profile behind the move; every other flow is as it was. -/
theorem toSafeProfile_flows (s : State) (c : Ctx) : (∀ k : Ctx, (s.toSafeProfile c).ctx[k].st = .free ↔ s.ctx[k].st = .free) ∧
    (∀ k : Ctx, s.ctx[k].safe = true → (s.toSafeProfile c).ctx[k].safe = true) ∧
    (s.ctx[c].st ≠ .free → (s.toSafeProfile c).ctx[c].safe = true) := by
  unfold State.toSafeProfile
  extract_lets f u v
  split
  · next h => exact ⟨fun _ => Iff.rfl, fun _ => id, fun hne => h.resolve_left hne⟩
  · have hv : v.ctx = vset s.ctx c { f with safe := true } := by
      simp only [v]
      split
      · split <;> rfl
      · rfl
    have hk (k : Ctx) : v.ctx[k] = if c = k then { f with safe := true } else s.ctx[k] := by
      simp only [hv, Fin.getElem_fin, vset_get]
    have hsame := occur_sameFlows v bFLOW 3 c.val false
    clear_value v
    refine ⟨fun k => (hsame k).free.trans ?_, fun k hs => (hsame k).safe.trans ?_, fun _ => (hsame c).safe.trans ?_⟩
    · rw [hk]
      split
      · next he => rw [← he]
      · rfl
    · rw [hk]
      split
      · rfl
      · exact hs
    · rw [hk, if_pos rfl]

/-- Every flow that is not Free is in its safe profile behind the moves of them all. -/
theorem toSafeProfiles_safe (l : List Ctx) (s : State) : ∀ c : Ctx, (s.ctx[c].safe = true ∨ c ∈ l ∧ s.ctx[c].st ≠ .free) →
    (forEach l State.toSafeProfile s).ctx[c].safe = true := by
  induction l generalizing s with
  | nil => exact fun c h => h.elim id fun h => absurd h.1 List.not_mem_nil
  | cons k l ih =>
    intro c h
    obtain ⟨hfree, hsafe, hk⟩ := toSafeProfile_flows s k
    refine ih (s.toSafeProfile k) c ?_
    rcases h with h | ⟨hc, hne⟩
    · exact .inl (hsafe c h)
    · rcases List.mem_cons.mp hc with rfl | hc
      · exact .inl (hk hne)
      · exact .inr ⟨hc, fun hf => hne ((hfree c).mp hf)⟩

/-- The host contact expires: every flow moves to its safe profile. -/
theorem hostContactExpiry_moves {s : State} (hrun : s.host.run = true) (hz : s.host.zero = false) (ht : s.host.since + s.hctUs ≤ s.now)
    (hw : s.host.since + s.hctUs < s.now ∨ s.contactWaits = false) :
    ∃ t, exec .hostContactExpiry s = .next t ∧ t.host.exp = true ∧ t.host.nexp = min 255 (s.host.nexp + 1) ∧
      ∀ c : Ctx, s.ctx[c].st ≠ .free → t.ctx[c].safe = true := by
  have hn : ¬(s.host.since + s.hctUs = s.now ∧ s.contactWaits = true) := fun ⟨he, hc⟩ => by
    rcases hw with h | h
    · omega
    · rw [hc] at h
      contradiction
  obtain ⟨u, hu⟩ : ∃ u : State, u = { s with host := { s.host with exp := true, zero := true, nexp := sat 255 (s.host.nexp + 1) } } := ⟨_, rfl⟩
  have hhost : (forEach allCtx State.toSafeProfile (u.occur bWDG 5 0)).host = u.host :=
    but_host (fs := reactions) (by simp [reactions]) (by decide)
  refine ⟨forEach allCtx State.toSafeProfile (u.occur bWDG 5 0), hu ▸ if_pos ⟨hrun, hz, ht, hn⟩, ?_, ?_, fun c hc => ?_⟩
  · rw [hhost, hu]
  · rw [hhost, hu]
    rfl
  · have hs := occur_sameFlows u bWDG 5 0 false c
    refine toSafeProfiles_safe allCtx _ c (.inr ⟨List.mem_finRange c, fun hf => hc ?_⟩)
    have := hs.free.mp hf
    rwa [hu] at this

/-! ### The watchdog's start and service -/

/-- WDG_CFG as it is stored holds the period. -/
theorem wdgPeriod_stored (b : Bool) (n : Nat) (h : n ≤ 60000) : wdgPeriod (BitVec.ofNat 32 (1 + 2 * b.toNat + 65536 * n)) = n := by
  have hb := Bool.toNat_le b
  simp only [wdgPeriod, Word.bits, BitVec.toNat_ofNat, Nat.shiftRight_eq_div_pow]
  omega

/-- An accepted service. -/
theorem service_effect (s : State) : s.service.wdg.armed = false ∧ s.service.wdg.since = s.now ∧ s.service.wdg.firstPeriod = false ∧
    s.service.wdg.good = min 64 (s.wdg.good + 1) ∧ (s.wdg.good < 63 → s.service.ret.wdg = s.ret.wdg) ∧
    (63 ≤ s.wdg.good → s.service.ret.wdg.level = 0) := by
  have hgood : (64 ≤ sat 64 (s.wdg.good + 1)) ↔ 63 ≤ s.wdg.good := by
    unfold sat
    omega
  unfold State.service
  extract_lets good x u
  have hg : (64 ≤ good) ↔ 63 ≤ s.wdg.good := hgood
  split
  · next h => exact ⟨rfl, rfl, rfl, rfl, fun hlt => absurd (hg.mp h.1) (by omega), fun _ => rfl⟩
  · next h => exact ⟨rfl, rfl, rfl, rfl, fun _ => rfl, fun hle => not_not.mp fun hne => h ⟨hg.mpr hle, hne⟩⟩

/-- The first key arms the watchdog. -/
theorem wdgKey_arms {s : State} (hrun : s.wdg.run = true) (ha : s.wdg.armed = false) :
    s.wdgKey 0x6B1D = { s with wdg := { s.wdg with armed := true } } := by
  unfold State.wdgKey
  rw [if_neg (by simp [hrun]), if_neg (by simp [ha]), if_pos rfl]

/-- Settles O19: the host contact and its expiry, then the watchdog's start, its keys and its counts. -/
theorem watchdogAndHostContact : Obligations.WatchdogAndHostContact := by
  have next {s : State} (r : Req) {a : Nat} (f : State → State) (hs : s.serves a) :
      (Host.Outcome.next (s.viaService r a f) : Ans) = .next (f s) := congrArg Host.Outcome.next (viaService_serves s r _ f hs)
  refine ⟨⟨fun s r hs hk hrun => ?_, fun s r hs hk => (next r _ hs).trans (congrArg Host.Outcome.next (if_neg (by simp [hk]))),
    fun s f hr hc hrun => ?_, fun s f hc => congrArg Host.Outcome.next (if_neg (by simp [hc])),
    fun s r v hinv hs => ⟨_, next r _ hs, ?_⟩, fun s he hc => if_neg fun h => h.2.2.2 ⟨he, hc⟩,
    fun s => hostContactExpiry_moves⟩,
    fun s r v hs => ⟨fun hlock hv => ⟨_, (next r _ hs).trans (congrArg Host.Outcome.next ((if_neg (by simp [hlock])).trans (if_pos hv))), rfl, rfl, rfl,
        rfl, ?_, rfl, rfl⟩,
      fun hlock hv => (next r _ hs).trans (congrArg Host.Outcome.next ((if_neg (by simp [hlock])).trans (if_neg (by simp [hv])))),
      fun hlock => ⟨_, (next r _ hs).trans (congrArg Host.Outcome.next (if_pos hlock)), rfl, rfl, rfl⟩⟩,
    fun s r hs hrun hclk => ⟨fun ha => ?_, fun ha hw hp => ?_⟩, fun s r hs => ⟨_, next r _ hs, rfl⟩⟩
  · obtain ⟨u, hu, hb, he⟩ := contact_restarts hrun
    exact ⟨u, hu, hb, (next r _ hs).trans (congrArg Host.Outcome.next ((if_pos hk).trans he))⟩
  · obtain ⟨u, hu, hb, he⟩ := contact_restarts hrun
    exact ⟨u, hu, hb, congrArg Host.Outcome.next ((if_pos (by simp [hr, hc])).trans he)⟩
  · have hreg := wdgHct_period v hinv
    have hn : (s.setReg wdgHctAt v).now = s.now := but_now (fs := [.rw]) (by simp) (by decide)
    refine ⟨hn, ?_⟩
    rw [show (s.writeHct v).reg wdgHctAt = (s.setReg wdgHctAt v).reg wdgHctAt from rfl, hreg]
    omega
  · exact wdgPeriod_stored _ _ (by omega)
  · exact ⟨_, (wdgKeyWrite_next r _ hs).trans (congrArg Host.Outcome.next (wdgKey_arms hrun ha)), rfl, rfl⟩
  · exact ⟨_, (wdgKeyWrite_next r _ hs).trans (congrArg Host.Outcome.next (wdgKey_service hrun hclk ha hw hp)), service_effect s.drew⟩

end Sys2Proof.Machine
end

section
/-!
PROOFS. The image put in force at the quiescent point, the hand-back, and the trial (R413-R416, R419-R421).
-/

namespace Sys2Proof.Machine

/-! ### What outlasts the application of an image -/

/-- Every field of the state but the image's record, the domains', the queue and the time. -/
def besideImage : List Fld := anything.filter fun f => f ≠ .img ∧ f ≠ .dom

/-- A property of the records of the image and of the domains, and of what no hardware event changes of the flows, that survives the Safe
line. -/
structure State.Enduring (P : State → Prop) : Prop where
  but : ∀ {s t : State}, ChangesOnly besideImage s t → State.SameFlows s t → P s → P t
  safe : ∀ {s : State} (d : Driver), P s → P (s.assertSafe d)

section
variable {P : State → Prop} (hP : State.Enduring P) {s : State}
include hP

theorem Enduring.apart {fs : List Fld} {t : State} (hb : ChangesOnly fs s t) (hi : ∀ f ∈ fs, f ∈ besideImage) (hc : Fld.ctx ∉ fs)
    (h : P s) : P t := hP.but (but_widen hb hi) (sameFlows_of_but hb hc) h

theorem Enduring.react (b : Blk) (src : Src) (obj : Nat) (h : P s) : P (s.react b src obj) := by
  rcases react_cases s b src obj with hb | he
  · exact hP.but (but_widen hb (by decide)) (react_sameFlows s b src obj) h
  · rw [he]
    unfold State.reactLines
    split
    · exact foldl_keeps P _ (fun t p ht => hP.but (by simp [ChangesOnly, besideImage, anything]) (assertHalt_sameFlows t p _) ht) _ h
    · exact hP.safe _ h
    · exact h

theorem Enduring.report (b : Blk) (src : Src) (kind : Kind) (forced : Bool) (obj : Nat) (h : P s) :
    P (s.report b src kind forced obj) :=
  Enduring.apart hP (fs := [.deferred, .x3, .xing, .log, .ret]) (by simp [ChangesOnly]) (by decide) (by decide) h

theorem Enduring.flt {t : State} (hb : ChangesOnly [.flt] s t) (h : P s) : P t := Enduring.apart hP hb (by decide) (by decide) h

theorem Enduring.occurred (b : Blk) (src : Src) (obj : Nat) (h : P s) : P (s.occurred b src obj) :=
  occurred_parts (P := P) (Enduring.flt hP) (fun kind => Enduring.report hP b src kind false obj)
    (Enduring.apart hP (fs := [.src]) (by simp [ChangesOnly]) (by decide) (by decide)) (Enduring.react hP b src obj) h

theorem Enduring.occur (b : Blk) (src : Src) (obj : Nat) (stays : Bool) (h : P s) : P (s.occur b src obj stays) :=
  occur_parts (P := P) (Enduring.flt hP) (fun kind => Enduring.report hP b src kind false obj)
    (Enduring.apart hP (fs := [.src]) (by simp [ChangesOnly]) (by decide) (by decide)) (Enduring.react hP b src obj) stays h

theorem Enduring.occurHard (b : Blk) (src : Src) (obj : Nat) (stays : Bool) (h : P s) : P (s.occurHard b src obj stays) :=
  occurHard_parts (P := P) (Enduring.flt hP) (fun kind => Enduring.report hP b src kind false obj) (Enduring.react hP b src obj) stays h

theorem Enduring.retryOutcome (b : Blk) (src : Src) (obj : Nat) (ok : Bool) (h : P s) : P (s.retryOutcome b src obj ok) := by
  unfold State.retryOutcome
  split
  · extract_lets t
    have ht : P t := Enduring.flt hP (by simp [ChangesOnly, t]) h
    split
    · exact Enduring.report hP b src _ false obj ht
    · exact Enduring.react hP b src obj (Enduring.report hP b src _ false obj ht)
  · exact h

theorem Enduring.recopy (p : BPort) (h : P s) : P (s.recopy p).1 := by
  unfold State.recopy
  split
  · exact h
  · next c _ =>
    extract_lets f t
    have ht : P t := by
      refine hP.but (by simp [ChangesOnly, besideImage, anything, t]) (fun k => ?_) h
      simp only [t, State.setCtx, Fin.getElem_fin, vset_get]
      split
      · next hk => exact hk ▸ ⟨rfl, rfl, Iff.rfl⟩
      · exact .refl _
    split
    · exact ht
    · exact Enduring.retryOutcome hP _ _ _ _ (Enduring.occur hP _ _ _ _ ht)

theorem Enduring.transit (p : BPort) (f : Profile → Nat) (cause : Nat) (frest : Bool) (h : P s) : P (s.transit p f cause frest) := by
  have hr := Enduring.recopy hP p h
  have hset {t : State} (x : ChgRec) (phase cause : Nat) (ht : P t) : P ((t.setChg p x).estTransit p phase cause) :=
    Enduring.apart hP (fs := [.chg, .est]) (by simp [ChangesOnly]) (by decide) (by decide) ht
  unfold State.transit
  split <;> rename_i heq <;> rw [heq] at hr
  · exact hset _ _ _ hr
  · exact hset _ _ _ hr
  · exact hr

theorem Enduring.tempLost (p : BPort) (h : P s) : P (s.tempLost p) := by
  unfold State.tempLost
  split
  · exact h
  · split
    · extract_lets t
      have ht : P t := by
        unfold t
        split
        · exact Enduring.transit hP p _ 5 false h
        · exact h
      exact Enduring.occur hP _ _ _ _ ht
    · exact h

theorem Enduring.writeMask (b : Blk) (v : Word) (h : P s) : P (s.writeMask b v) := by
  rw [writeMask_eq]
  refine foldl_keeps P _ (fun u i hu => unmaskOne_keeps i (fun _ w o hw => Enduring.occurred hP b i o hw) hu) _ ?_
  exact Enduring.apart hP (fs := [.rw, .flt]) (by simp [ChangesOnly, State.masking]) (by decide) (by decide) h

/-! ### The effects of an image -/

theorem Enduring.applyRegs (d : ImageData) (h : P s) : P (s.applyRegs d) := by
  have hput {u : State} (a : Nat) (v : Word) (hu : P u) : P (u.putReg a v) :=
    Enduring.apart hP (fs := [.rw]) (by simp [ChangesOnly]) (by decide) (by decide) hu
  have hdef {u : State} (l : List Deferred) (hu : P u) : P { u with deferred := l } :=
    Enduring.apart hP (s := u) (fs := [.deferred]) rfl (by decide) (by decide) hu
  have hflt {u : State} (l : Vector BlkFault 21) (hu : P u) : P { u with flt := l } := Enduring.flt hP (s := u) rfl hu
  unfold State.applyRegs
  extract_lets value masks a b c e f
  have ha : P a := Enduring.apart hP (s := s) (fs := [.rw]) rfl (by decide) (by decide) h
  clear_value a
  have hb : P b := foldl_keeps P _ (fun u x hu => by
    split
    · exact hu
    · exact hput _ _ hu) _ ha
  clear_value b
  have hc : P c := foldl_keeps P _ (fun u k hu => Enduring.writeMask hP k _ hu) _ hb
  clear_value c
  have he : P e := hflt _ hc
  clear_value e
  have hf : P f := forEach_keeps P _ (fun u p hu => Enduring.tempLost hP p (Enduring.flt hP (by simp [ChangesOnly]) hu)) _ he
  clear_value f
  refine foldl_keeps P _ (fun u k hu => ?_) _ hf
  exact hdef _ hu

theorem Enduring.applyBudgets (h : P s) : P s.applyBudgets := by
  refine hP.but (by simp [ChangesOnly, State.applyBudgets, besideImage, anything]) ?_ h
  exact (zeroGrants_sameFlows s).trans (.refl _)

theorem Enduring.applyThermal (calOk : Bool) (h : P s) : P (s.applyThermal calOk) := by
  unfold State.applyThermal
  extract_lets x t
  have ht : P t := Enduring.apart hP (s := s) (fs := [.thm]) rfl (by decide) (by decide) h
  split
  · exact Enduring.flt hP (by simp [ChangesOnly]) ht
  · exact Enduring.occur hP _ _ _ _ ht

/-- An image applied keeps what outlasts its effects, where its record put into the state has it. -/
theorem Enduring.applyImage (d : ImageData) (failed : List Cell)
    (h : ∀ t : State, t.ctx = s.ctx → t.dom = s.dom → t.img = { s.img with image := some d, backing := true } → P t) :
    P (s.applyImage d failed) := by
  unfold State.applyImage
  extract_lets tested x₁ x₂ culm host img t u w
  have ht : P t := h t rfl rfl rfl
  clear_value t
  have hu : P u := Enduring.applyThermal hP _ (Enduring.apart hP (fs := [.xing, .sense]) (by simp [ChangesOnly]) (by decide)
    (by decide) (Enduring.applyBudgets hP (Enduring.applyRegs hP d ht)))
  clear_value u
  have hw : P w := Enduring.apart hP (fs := [.rw]) (by simp [ChangesOnly, w]) (by decide) (by decide) hu
  clear_value w
  refine forEach_keeps P _ (fun y c hy => Enduring.occurHard hP _ _ _ _ hy) _ ?_
  exact Enduring.apart hP (fs := [.culm, .awn]) (by simp [ChangesOnly]) (by decide) (by decide) hw

end

/-- With no activation requested, the Safe line changes at most the trial's time in the image's record. -/
theorem assertSafe_img {s : State} (d : Driver) (h : s.img.req = none) :
    ∃ a b, (s.assertSafe d).img = { s.img with trialUs := a, trialAt := b } := by
  have hrest (u : State) : ((u.unsettle u.culm.vmeas).stopAll.safeLoads.safePorts).img = u.img :=
    but_img (fs := [.deferred, .fab, .groups, .cells, .culm, .branches, .src, .bat, .fdr, .awn]) (by simp) (by decide)
  have hact (u : State) (hu : u.img.req = none) : u.safeActivation = u := by
    unfold State.safeActivation
    rw [hu]
  have hstub (u : State) : ∃ a b, u.enterStubble.img = { u.img with trialUs := a, trialAt := b } := by
    unfold State.enterStubble
    split
    · rw [show ∀ v : State, v.zeroThresher.img = v.img from fun v => but_img (fs := [.ctx, .thr]) (by simp) (by decide)]
      exact ⟨_, _, rfl⟩
    · exact ⟨_, _, rfl⟩
  unfold State.assertSafe
  extract_lets first t
  have ht : t.img = s.img := rfl
  clear_value t
  split
  · rw [hact _ (by rw [hrest, ht, h]), show ∀ v : State, v.settle.img = v.img from fun v => but_img (fs := [.groups, .ctx, .chg]) (by simp) (by decide)]
    obtain ⟨a, b, he⟩ := hstub ((t.unsettle t.culm.vmeas).stopAll.safeLoads.safePorts)
    exact ⟨a, b, by rw [he, hrest, ht]⟩
  · exact ⟨s.img.trialUs, s.img.trialAt, ht⟩

/-- An image in force on a bank, with no activation requested and the flows those of a state before. -/
structure State.InForce (v : State) (d : ImageData) (b : Side) (t : State) : Prop where
  flows : State.SameFlows v t
  image : t.img.image = some d
  act : t.img.act = b
  req : t.img.req = none

theorem inForce_enduring (v : State) (d : ImageData) (b : Side) : State.Enduring (State.InForce v d b) where
  but hb hs h := by
    have hi := but_img hb (by decide)
    exact ⟨h.flows.trans hs, hi ▸ h.image, hi ▸ h.act, hi ▸ h.req⟩
  safe d h := by
    obtain ⟨a, b, hi⟩ := assertSafe_img d h.req
    exact ⟨h.flows.trans (assertSafe_sameFlows _ d), by rw [hi]; exact h.image, by rw [hi]; exact h.act, by rw [hi]; exact h.req⟩

/-- An image applied is in force, and leaves the flows. -/
theorem applyImage_inForce {v s : State} {b : Side} (d : ImageData) (failed : List Cell) (hs : State.SameFlows v s) (hact : s.img.act = b)
    (hreq : s.img.req = none) : State.InForce v d b (s.applyImage d failed) := by
  refine Enduring.applyImage (inForce_enduring v d b) d failed fun t hctx _ himg => ?_
  exact ⟨hs.trans (sameFlows_of_ctx hctx), by rw [himg], by rw [himg]; exact hact, by rw [himg]; exact hreq⟩

/-! ### The quiescent point -/

/-- Every context Free, each with its next generation. -/
theorem freeAll_freed (s : State) (c : Ctx) : s.freeAll.ctx[c].st = .free ∧ s.freeAll.ctx[c].gen = nextGen s.ctx[c].gen := by
  have h : s.freeAll.ctx = s.ctx.map FlowCtx.release := by
    unfold State.freeAll
    exact but_ctx (s := { s with ctx := s.ctx.map FlowCtx.release }) (fs := [.xslots]) (by simp) (by decide)
  simp only [h, Fin.getElem_fin, Vector.getElem_map]
  exact ⟨rfl, rfl⟩

@[simp] theorem writeBoot_act (s : State) : s.writeBoot.img.act = s.img.act := writeBoot_field (·.act) s fun _ _ _ _ => rfl
@[simp] theorem writeBoot_req (s : State) : s.writeBoot.img.req = s.img.req := writeBoot_field (·.req) s fun _ _ _ _ => rfl

/-- The image of a bank applied: in force on it, with every context Free at its next generation. -/
theorem putBank_inForce {s : State} (b : Side) (d : ImageData) (failed : List Cell) (hreq : s.img.req = none) :
    (s.putBank b d failed).img.image = some d ∧ (s.putBank b d failed).img.act = b ∧ (s.putBank b d failed).img.req = none ∧
      ∀ c : Ctx, (s.putBank b d failed).ctx[c].st = .free ∧ (s.putBank b d failed).ctx[c].gen = nextGen s.ctx[c].gen := by
  have htrial : (s.trialAfter b).img.req = none ∧ (s.trialAfter b).ctx = s.ctx := by
    unfold State.trialAfter
    extract_lets confirmed
    split
    · exact ⟨hreq, rfl⟩
    · split <;> exact ⟨hreq, rfl⟩
  unfold State.putBank
  extract_lets prev t bank u
  have hu : u.img.req = none ∧ u.ctx = s.ctx := by
    simp only [u]
    split
    · exact htrial
    · exact htrial
  clear_value u
  have hfree (v : State) : v.freeAll.img = v.img := but_img (fs := [.xslots, .ctx]) (by simp) (by decide)
  have hact : (u.freeAll.identify b).writeBoot.img.act = b := by
    rw [writeBoot_act]
    unfold State.identify
    rfl
  have hreq' : (u.freeAll.identify b).writeBoot.img.req = none := by
    have hi (v : State) : (v.identify b).img.req = v.img.req := by
      unfold State.identify
      rfl
    rw [writeBoot_req, hi, hfree, hu.1]
  have hflows : State.SameFlows u.freeAll (u.freeAll.identify b).writeBoot := sameFlows_of_but (fs := [.flt, .img]) (by simp) (by decide)
  obtain ⟨hf, himage, hact', hr⟩ := applyImage_inForce d failed hflows hact hreq'
  refine ⟨himage, hact', hr, fun c => ?_⟩
  obtain ⟨hst, hgen⟩ := freeAll_freed u c
  exact ⟨(hf c).free.mpr hst, by rw [(hf c).gen, hgen, hu.2]⟩

/-- The content of a bank rests on the store's bytes alone. -/
theorem bankImage_of_nv {s t : State} (b : Side) (h : t.nv = s.nv) : t.bankImage b = s.bankImage b := by
  unfold State.bankImage State.bankBytes
  rw [h]

/-- The state at the quiescent point before the bank is read: the groups and ports at rest, the crossings empty and the request taken. -/
def State.quiet (s : State) : State :=
  let t := s.quiesce.emptyCrossings
  { t with img := { t.img with asta := .none, req := none, adone := true } }

theorem quiet_keeps (s : State) : s.quiet.nv = s.nv ∧ s.quiet.ctx = s.ctx := by
  have hb : s.quiet.but [.deferred, .x3, .xing, .xslots, .ret, .img, .fab, .groups, .cells, .culm, .branches, .src, .fdr] =
      s.but [.deferred, .x3, .xing, .xslots, .ret, .img, .fab, .groups, .cells, .culm, .branches, .src, .fdr] := by
    simp [State.quiet]
  exact ⟨but_nv hb (by decide), but_ctx hb (by decide)⟩

theorem quiescentPoint_applies {s : State} {q : ActReq} {d : ImageData} (failed : List Cell) (hreq : s.img.req = some q)
    (hdrain : s.draining = true) (hplan : q.plan = false) (htrial : q.byTrial = false) (hctx : s.usedCtx = []) (hsafe : s.safeLine = [])
    (hcore : s.dom.coreRestart = none) (hbank : s.bankImage q.bank = some d) : ∃ (u : State) (standby : Bool),
      exec (.activationQuiescentPoint false false failed) s = .next ((u.afterActivation failed standby).startHostIfIdle) ∧
      u.img.image = some d ∧ u.img.act = q.bank ∧ u.img.aresult = 1 ∧ u.img.req = none ∧
      ∀ c : Ctx, u.ctx[c].st = .free ∧ u.ctx[c].gen = nextGen s.ctx[c].gen := by
  obtain ⟨himage, hact, hreq', hfree⟩ := putBank_inForce (s := s.quiet) q.bank d failed rfl
  obtain ⟨hnv, hc⟩ := quiet_keeps s
  have hb : s.quiet.bankImage q.bank = some d := (bankImage_of_nv q.bank hnv).trans hbank
  refine ⟨{ s.quiet.putBank q.bank d failed with img := { (s.quiet.putBank q.bank d failed).img with aresult := 1 } },
    s.dom.st == .standby || (s.dom.st == .stubble && !s.dom.stubFromRun), ?_, himage, hact, rfl, hreq', fun c => ?_⟩
  · have he : exec (.activationQuiescentPoint false false failed) s = match s.quiet.bankImage q.bank with
        | some d =>
          let u := s.quiet.putBank q.bank d failed
          let u := { u with img := { u.img with aresult := if q.byTrial then 12 else 1 } }
          let u := if q.byTrial ∧ s.img.act ≠ q.bank then
            (u.setBank s.img.act { u.img.banks[s.img.act] with st := .invalid }).writeBoot else u
          .next ((u.afterActivation failed (s.dom.st == .standby || (s.dom.st == .stubble && !s.dom.stubFromRun))).startHostIfIdle)
        | none => .next (s.quiet.revert false failed (s.dom.st == .standby || (s.dom.st == .stubble && !s.dom.stubFromRun)) q.bank) := by
      simp only [exec, execActivationQuiescentPoint, hreq]
      exact if_pos ⟨hdrain, hplan, hctx, hsafe, hcore⟩
    rw [he, hb]
    simp only [htrial, Bool.false_eq_true, false_and, if_false]
  · obtain ⟨hst, hgen⟩ := hfree c
    exact ⟨hst, by rw [hc] at hgen; exact hgen⟩

/-! ### The hand-back and the trial -/

/-- The setpoint released leaves what the culm does. -/
theorem releaseSetpoint_culm (s : State) : s.releaseSetpoint.culm.supOn = s.culm.supOn ∧
    s.releaseSetpoint.culm.mode = s.culm.mode :=
  ⟨rfl, rfl⟩

theorem bridgeHandback_hands {s : State} {v heldUs : Nat} (hsup : s.culm.supOn = true) (hrun : s.inRun = true) (hdrain : s.draining = false)
    (hcan : s.canSupply = true) (hhi : 50 * v ≤ 51 * s.culm.vset) (hlo : 49 * s.culm.vset ≤ 50 * v) (hheld : 10000 ≤ heldUs) :
    ∃ t, exec (.bridgeHandback v heldUs) s = .next t ∧ t.culm.supOn = false ∧ t.culm.mode = .regulating ∧ t.img.bridge = false := by
  have hclose (u : State) : (forEach allBranches State.closeBranch u).but [.branches] = u.but [.branches] := by simp
  refine ⟨_, if_pos ⟨hsup, hrun, hdrain, hcan, hhi, hlo, hheld⟩, ?_⟩
  rw [but_culm (hclose _) (by decide), but_img (hclose _) (by decide), releaseSetpoint_img, (releaseSetpoint_culm _).1, (releaseSetpoint_culm _).2]
  exact ⟨rfl, rfl, rfl⟩

/-- A trial confirmed ends. -/
theorem confirm_ends {s : State} (ht : s.img.trial = true) (ho : s.img.trialOver = false) :
    s.confirm.img.trial = false ∧ s.confirm.img.trialStarts = 0 := by
  unfold State.confirm
  rw [if_pos ⟨ht, ho⟩, writeBoot_trial, writeBoot_trialStarts]
  exact ⟨rfl, rfl⟩

/-- The trial's time over is reported, whether the loader's request is accepted or not. -/
theorem trialExpiry_raises {s : State} (ht : s.img.trial = true) (ho : s.img.trialOver = false) (hcore : s.dom.coreRestart = none)
    (htime : 60000000 * (s.reg imgCfgAt).bits 7 0 ≤ s.trialUsed) (hc : s.canOccur bIMG 5 0) :
    ∃ t, exec .trialExpiry s = .next t ∧ t.raised bIMG 5 = true := by
  obtain ⟨u, hu⟩ : ∃ u : State, u = { s with img := { s.img with trialOver := true } } := ⟨_, rfl⟩
  have hr : (u.occur bIMG 5 0).raised bIMG 5 = true := raised_own (occur_fst false bIMG (hu ▸ hc))
  have hbegin (v : State) (b : Side) (code : Nat) : (if code = 0 then v.beginActivation b true true true else v).flt = v.flt := by
    split
    · exact but_flt (fs := [.img, .culm, .groups, .ctx, .chg]) (by simp) (by decide)
    · rfl
  refine ⟨_, (if_pos ⟨ht, ho, hcore, htime⟩).trans (by rw [← hu]), ?_⟩
  unfold State.raised at hr ⊢
  rw [hbegin]
  exact hr

/-- Settles O6: the quiescent point, the hand-back, the trial's confirmation and expiry, and RAISESV. -/
theorem imageInForce : Obligations.ImageInForce := by
  have next {s : State} (r : Req) {a : Nat} (f : State → State) (hs : s.serves a) :
      (Host.Outcome.next (s.viaService r a f) : Ans) = .next (f s) := congrArg Host.Outcome.next (viaService_serves s r _ f hs)
  refine ⟨fun s q d failed => quiescentPoint_applies failed, fun s v heldUs => bridgeHandback_hands,
    fun s r hs ht ho => ⟨_, next r _ hs, confirm_ends ht ho⟩, fun s => trialExpiry_raises, fun s r hs himg ht => ⟨_, next r _ hs, ?_⟩⟩
  rw [show s.raiseSv = { s with fuse := { s.fuse with minsv := max s.fuse.minsv (s.img.secver % 64) } } from if_pos ⟨himg, ht⟩]

end Sys2Proof.Machine
end

section
/-!
PROOFS. Occurrences, the loss of a domain's power, reactions and retries (R30, R433-R443).
-/

namespace Sys2Proof.Machine

/-! ### An occurrence that stays -/

/-- Only the store's own causes count words. -/
theorem countEcc_other (s : State) {b : Blk} (src : Src) (h : b ≠ bNVS) : s.countEcc b src = s := by
  unfold State.countEcc
  extract_lets x
  rw [if_neg (by simp [h]), if_neg (by simp [h])]

/-- The words corrected, and those beyond correction. -/
theorem countEcc_counts (s : State) (src : Src) : (src = 0 → (s.countEcc bNVS src).nvs.corr = min 65535 (s.nvs.corr + 1)) ∧
    (src = 1 → (s.countEcc bNVS src).nvs.uncorr = min 65535 (s.nvs.uncorr + 1)) := by
  refine ⟨fun h => ?_, fun h => ?_⟩ <;> subst h <;> rfl

/-- A cause marked present stands, and its live bit with it. -/
theorem markLive_live (s : State) (b : Blk) (src : Src) (obj : Nat) : (⟨src, obj⟩ : Cause) ∈ (s.markLive b src obj true).flt[b].live := by
  unfold State.markLive
  extract_lets t x
  rw [setFlt_get]
  dsimp only
  split
  · exact List.mem_append_right _ (List.mem_singleton.mpr rfl)
  · next h => simpa using h

theorem liveBit_of_live {s : State} {b : Blk} {src : Src} {obj : Nat} (h : (⟨src, obj⟩ : Cause) ∈ s.flt[b].live) : s.liveBit b src = true := by
  unfold State.liveBit
  rw [List.any_eq_true.mpr ⟨_, h, beq_self_eq_true src⟩]
  rfl

/-- A marked cause leaves the mask. -/
theorem markLive_masked (s : State) (b : Blk) (src : Src) (obj : Nat) (stays : Bool) :
    (s.markLive b src obj stays).masked b src = s.masked b src := by
  unfold State.masked State.reg
  rw [but_rw (s := s) (fs := [.flt]) (by simp) (by decide)]

/-- An occurrence that takes effect is recorded: the cause is marked, and then the source occurs. -/
theorem occur_taken {s : State} {b : Blk} {src : Src} {obj : Nat} (stays : Bool) (h : s.canOccur b src obj) :
    s.occur b src obj stays = (s.markLive b src obj stays).occurred b src obj := by
  obtain ⟨hsrc, hlive, hmask⟩ := h
  unfold State.occur
  rw [if_neg (by simp [hsrc]), if_neg (ne_true_of_eq_false hlive)]
  exact if_neg (by simp [markLive_masked, hmask])

/-- A masked source is live and nothing else follows. -/
theorem occur_masked {s : State} {b : Blk} {src : Src} {obj : Nat} (stays : Bool) (hsrc : hasSource b.val src.val = true)
    (hlive : s.flt[b].live.contains ⟨src, obj⟩ = false) (hmask : s.masked b src = true) :
    s.occur b src obj stays = s.markLive b src obj stays := by
  unfold State.occur
  rw [if_neg (by simp [hsrc]), if_neg (ne_true_of_eq_false hlive)]
  exact if_pos (by rw [markLive_masked, hmask])

/-- A cause already present is no occurrence. -/
theorem occur_present {s : State} {b : Blk} {src : Src} {obj : Nat} (stays : Bool) (hlive : s.flt[b].live.contains ⟨src, obj⟩ = true) :
    s.occur b src obj stays = s := by
  unfold State.occur
  rw [if_pos hlive, ite_self]

theorem markLive_flt (s : State) (b k : Blk) (src : Src) (obj : Nat) (stays : Bool) :
    (s.markLive b src obj stays).flt[k].fst = s.flt[k].fst ∧ (s.markLive b src obj stays).flt[b].retries = s.flt[b].retries ∧
      (s.markLive b src obj stays).flt[b].grace = s.flt[b].grace := by
  have hend : s.endWarn.flt[b].grace = s.flt[b].grace := by
    unfold State.endWarn
    split
    · rfl
    · simp
  refine ⟨?_, (markLive_retries s b src obj stays).retries, ?_⟩
  · unfold State.markLive
    extract_lets t x
    refine (setFlt_fst_same t b k _ ?_).trans (endWarn_fst s k)
    rfl
  · unfold State.markLive
    extract_lets t x
    rw [setFlt_get]
    exact hend

/-! ### The command of an occurrence -/

section
variable {s : State} {b : Blk} {src : Src} {obj : Nat} (hloss : ¬(b = bDOM ∧ src = 0 ∧ s.domOn obj = true))
include hloss

theorem faultOccurrence_taken (h : s.canOccur b src obj) : exec (.faultOccurrence b src obj) s =
    .next ((((s.markLive b src obj true).occurred b src obj).unconverge b src obj).countEcc b src) := by
  obtain ⟨-, hlive, hmask⟩ := id h
  refine congrArg Host.Outcome.next ((if_neg hloss).trans ?_)
  rw [if_neg (not_or.mpr ⟨ne_true_of_eq_false hlive, ne_true_of_eq_false hmask⟩), occur_taken true h]

theorem faultOccurrence_untaken (h : s.flt[b].live.contains ⟨src, obj⟩ = true ∨ s.masked b src = true) :
    exec (.faultOccurrence b src obj) s = .next ((s.occur b src obj true).countEcc b src) := by
  refine congrArg Host.Outcome.next ((if_neg hloss).trans ?_)
  rw [if_pos h]

end

/-! ### Whether an object is held (R441) -/

/-- Whether a reaction holds an object, at a severity. -/
def State.heldAt (s : State) (b : Blk) (src : Src) (obj code : Nat) : Bool :=
  (s.dom.st == .stubble && namesModule b src) || match s.objHeld b src obj with
    | some held => held || (code == 3 && (s.objPorts b src obj).any fun p => s.portHeld p)
    | none => s.channelHeld b obj || (s.objPorts b src obj).any fun p => s.portHeld p && !(code == 2 && s.haltsNow p)

theorem held_eq (s : State) (b : Blk) (src : Src) (obj : Nat) : s.held b src obj = s.heldAt b src obj (s.sevFor b src obj) := rfl

/-- The fields that the record and the report of an occurrence change. -/
def recording : List Fld := [.deferred, .flt, .x3, .xing, .log, .ret]

theorem heldAt_but (s : State) (b : Blk) (src : Src) (obj code : Nat) : (s.but recording).heldAt b src obj code = s.heldAt b src obj code := rfl

/-- Whether an object is held does not rest on what an occurrence records. -/
theorem heldAt_recording {s t : State} (h : ChangesOnly recording s t) (b : Blk) (src : Src) (obj code : Nat) :
    t.heldAt b src obj code = s.heldAt b src obj code := by
  rw [← heldAt_but t, show t.but recording = s.but recording from h, heldAt_but]

theorem sevFor_of_sev {s t : State} {b : Blk} (src : Src) (obj : Nat) (h : t.flt[b].sev = s.flt[b].sev) :
    t.sevFor b src obj = s.sevFor b src obj := by
  unfold State.sevFor State.sevRaw
  rw [h]

/-! ### An occurrence recorded -/

/-- Two fault records that differ in the status and live bits at most. -/
def BlkFault.Recorded (x y : BlkFault) : Prop :=
  ∃ w l r f o, y = { x with warned := w, live := l, recent := r, fst := f, occNow := o }

theorem marked_recorded (s : State) (b : Blk) (src : Src) (obj : Nat) (stays : Bool) :
    BlkFault.Recorded s.flt[b] ((s.markLive b src obj stays).latch b src).flt[b] := by
  have hend : ∃ w, s.endWarn.flt[b] = { s.flt[b] with warned := w } := by
    unfold State.endWarn
    split
    · exact ⟨_, rfl⟩
    · exact ⟨false, by simp⟩
  obtain ⟨w, hw⟩ := hend
  have hm : ∃ l r, (s.markLive b src obj stays).flt[b] = { s.flt[b] with warned := w, live := l, recent := r } := by
    unfold State.markLive
    extract_lets t x
    rw [setFlt_get, show x = _ from hw]
    exact ⟨_, _, rfl⟩
  obtain ⟨l, r, hm⟩ := hm
  unfold State.latch
  rw [setFlt_get, hm]
  exact ⟨w, l, r, _, _, rfl⟩

/-- The state of an occurrence before its report. -/
def State.marked (s : State) (b : Blk) (src : Src) (obj : Nat) : State := (s.markLive b src obj true).latch b src

/-- The state of an occurrence that is not retried, before its reaction. -/
def State.recorded (s : State) (b : Blk) (src : Src) (obj : Nat) : State := (s.marked b src obj).report b src .occurrence false obj

theorem recorded_but (s : State) (b : Blk) (src : Src) (obj : Nat) : ChangesOnly recording s (s.recorded b src obj) := by
  simp [ChangesOnly, State.recorded, State.marked, recording]

theorem recorded_flt (s : State) (b : Blk) (src : Src) (obj : Nat) : BlkFault.Recorded s.flt[b] (s.recorded b src obj).flt[b] := by
  unfold State.recorded
  rw [report_flt]
  exact marked_recorded s b src obj true

/-- An unretried occurrence is recorded, and its reaction follows. -/
theorem occurred_unretried {s : State} {b : Blk} {src : Src} (obj : Nat) (hf : s.flt[b].frty.getLsbD src.val = false) :
    (s.markLive b src obj true).occurred b src obj = (s.recorded b src obj).react b src obj := by
  have hx : (s.marked b src obj).flt[b].frty.getLsbD src.val = false := by
    obtain ⟨_, _, _, _, _, he⟩ := marked_recorded s b src obj true
    rw [State.marked, he]
    exact hf
  exact if_neg (ne_true_of_eq_false hx)

/-- The reaction of the severity in effect on an object that is not held. -/
theorem recorded_unheld {s : State} {b : Blk} {src : Src} {obj : Nat} (hheld : s.held b src obj = false) :
    (s.recorded b src obj).sevFor b src obj = s.sevFor b src obj ∧ (s.recorded b src obj).held b src obj = false := by
  have hsev : (s.recorded b src obj).sevFor b src obj = s.sevFor b src obj := by
    obtain ⟨_, _, _, _, _, he⟩ := recorded_flt s b src obj
    exact sevFor_of_sev src obj (by rw [he])
  exact ⟨hsev, by rw [held_eq, heldAt_recording (recorded_but s b src obj), hsev]; exact hheld⟩

section
variable {s : State} {b : Blk} {src : Src} {obj : Nat}

/-- Severity Safe asserts the Safe line. -/
theorem recorded_safe (hheld : s.held b src obj = false) (hsev : s.sevFor b src obj = 4) :
    (⟨b, src, obj, true⟩ : Driver) ∈ ((s.recorded b src obj).react b src obj).safeLine := by
  obtain ⟨he, hh⟩ := recorded_unheld hheld
  unfold State.react State.reactLines
  rw [if_neg (ne_true_of_eq_false hh), he, hsev]
  exact assertSafe_asserts _ _

/-- Severity Degrade starts a grace timer while fewer than eight run. -/
theorem recorded_grace (hheld : s.held b src obj = false) (hsev : s.sevFor b src obj = 2) (hfew : s.flt[b].grace.length < 8) :
    ((s.recorded b src obj).react b src obj).but [.flt] = (s.recorded b src obj).but [.flt] ∧
    ((s.recorded b src obj).react b src obj).flt[b].grace =
      s.flt[b].grace ++ [⟨src, obj, s.now + 1000 * (s.reg (fgrcAddr b)).bits 7 0⟩] := by
  obtain ⟨he, hh⟩ := recorded_unheld hheld
  obtain ⟨w, l, r, f, o, hx⟩ := recorded_flt s b src obj
  have hrw : (s.recorded b src obj).rw = s.rw := but_rw (recorded_but s b src obj) (by decide)
  have hnow : (s.recorded b src obj).now = s.now := but_now (recorded_but s b src obj) (by decide)
  have hreg (a : Nat) : (s.recorded b src obj).reg a = s.reg a := reg_of_rw a hrw
  generalize s.recorded b src obj = u at he hh hx hnow hreg
  have hg : u.flt[b].grace = s.flt[b].grace := by rw [hx]
  have hr : u.react b src obj =
      u.setFlt b { u.flt[b] with grace := u.flt[b].grace ++ [⟨src, obj, u.now + 1000 * (u.reg (fgrcAddr b)).bits 7 0⟩] } := by
    unfold State.react
    rw [if_neg (ne_true_of_eq_false hh), he, hsev]
    exact if_neg (by rw [hg]; omega)
  rw [hr, setFlt_get, hnow, hreg, ← hg]
  exact ⟨by simp, rfl⟩

/-- A retryable source is retried first, where no retry of it runs or has its window open. -/
theorem occurred_retried (hf : s.flt[b].frty.getLsbD src.val = true) (hruns : s.retryRuns b src obj = false)
    (hwin : s.inWindow b src obj = false) : ∃ x : BlkFault, (s.markLive b src obj true).occurred b src obj =
      ((s.marked b src obj).setFlt b x).report b src .occurrence false obj ∧ x.retries = s.flt[b].retries ++ [⟨src, obj, s.now⟩] ∧
      x.grace = s.flt[b].grace := by
  obtain ⟨w, l, r, f, o, hx⟩ := marked_recorded s b src obj true
  have hnow : (s.marked b src obj).now = s.now := but_now (fs := [.flt]) (by simp [State.marked]) (by decide)
  have hx' : (s.marked b src obj).flt[b] = _ := hx
  have h1 : (s.marked b src obj).retryRuns b src obj = false := by
    rw [← hruns]
    unfold State.retryRuns
    rw [hx']
  have h2 : (s.marked b src obj).inWindow b src obj = false := by
    rw [← hwin]
    unfold State.inWindow
    rw [hx', hnow]
  refine ⟨_, ((if_pos ?_).trans ((if_neg (ne_true_of_eq_false h1)).trans (if_neg (ne_true_of_eq_false h2)))), ?_, ?_⟩
  · rw [show ((s.markLive b src obj true).latch b src).flt[b] = _ from hx]
    exact hf
  · dsimp only
    rw [show ((s.markLive b src obj true).latch b src).flt[b] = _ from hx, show ((s.markLive b src obj true).latch b src).now = s.now from hnow]
  · dsimp only
    rw [show ((s.markLive b src obj true).latch b src).flt[b] = _ from hx]

end

/-! ### The loss of a domain's power (R30, R196) -/

/-- The lines of a lost domain: its driver on the Safe line and on the halt lines of its ports; with D3 every context Free. -/
theorem loseLines_effect (s : State) (dom : Nat) (d : Driver) : d ∈ (s.loseLines dom d).safeLine ∧
    (∀ p ∈ linedPorts dom, d ∈ (s.loseLines dom d).halt[p]) ∧ (dom = 3 → ∀ c : Ctx, (s.loseLines dom d).ctx[c].st = .free) := by
  unfold State.loseLines
  extract_lets t u v
  have ht : ∀ p ∈ linedPorts dom, d ∈ t.halt[p] := fun p hp =>
    foldl_reaches (fun w : State => d ∈ w.halt[p]) (fun _ => True) _ (fun _ _ _ => trivial)
      (fun w q hw => (haltDriver_lineSteady p d).halt q d hw) (fun w _ => assertHalt_asserts w p d) hp trivial
  have hv : v.halt = t.halt := by
    have hu : u.halt = t.halt := but_halt (fs := [.fab, .groups, .cells]) (by simp [u]) (by decide)
    rw [← hu]
    simp only [v]
    split
    · exact but_halt (fs := [.fab, .groups, .cells, .ctx, .xslots]) (by simp) (by decide)
    · rfl
  have hs : (v.settle.assertSafe d).halt = v.halt := but_halt (fs := crossing.filter (· ≠ .halt)) (by simp [crossing, reactions]) (by decide)
  refine ⟨assertSafe_asserts _ _, fun p hp => ?_, fun h3 c => ?_⟩
  · rw [hs, hv]
    exact ht p hp
  · have hfree : v.ctx[c].st = .free := by
      simp only [v, if_pos h3]
      exact (freeAll_freed _ c).1
    exact ((settle_after (.refl v)).trans (assertSafe_sameFlows _ d) c).free.mpr hfree

/-- A domain lost asserts the lines of its blocks. -/
theorem loseDomain_effect (s : State) (dom : Nat) (d : Driver) : d ∈ (s.loseDomain dom d).safeLine ∧
    (∀ p ∈ linedPorts dom, d ∈ (s.loseDomain dom d).halt[p]) ∧ (dom = 3 → ∀ c : Ctx, (s.loseDomain dom d).ctx[c].st = .free) := by
  unfold State.loseDomain
  extract_lets t
  obtain ⟨u, hu⟩ : ∃ u : State, t = u.loseLines dom d := ⟨_, rfl⟩
  clear_value t
  subst hu
  obtain ⟨hsafe, hhalt, hctx⟩ := loseLines_effect u dom d
  generalize u.loseLines dom d = v at hsafe hhalt hctx
  have key (w : State) (hs : w.safeLine = v.safeLine) (hh : w.halt = v.halt) (hc : w.ctx = v.ctx) : d ∈ w.safeLine ∧
      (∀ p ∈ linedPorts dom, d ∈ w.halt[p]) ∧ (dom = 3 → ∀ c : Ctx, w.ctx[c].st = .free) := by
    rw [hs, hh, hc]
    exact ⟨hsafe, hhalt, hctx⟩
  have hstop : v.stopSupply.but [.branches, .culm, .img] = v.but [.branches, .culm, .img] := by simp
  split
  · exact key _ (but_safeLine hstop (by decide)) (but_halt hstop (by decide)) (but_ctx hstop (by decide))
  · exact key _ rfl rfl rfl

/-- A domain that is on loses its power. -/
theorem faultOccurrence_loses {s : State} {obj : Nat} (h : s.domOn obj = true) : ∃ t, exec (.faultOccurrence bDOM 0 obj) s = .next t ∧
    (⟨bDOM, 0, obj, true⟩ : Driver) ∈ t.safeLine ∧ (∀ p ∈ linedPorts obj, (⟨bDOM, 0, obj, true⟩ : Driver) ∈ t.halt[p]) ∧
    (obj = 3 → ∀ c : Ctx, t.ctx[c].st = .free) :=
  ⟨_, congrArg Host.Outcome.next (if_pos ⟨rfl, rfl, h⟩), loseDomain_effect _ obj _⟩

/-- Settles O10: an occurrence taken, one masked, one already present, the words counted, and a domain lost. -/
theorem occurrence : Obligations.Occurrence := by
  intro s b src obj hsrc
  refine ⟨fun hloss => ⟨fun hc => ?_, fun hlive hmask => ?_, fun hlive => ?_, fun hb => ?_⟩, faultOccurrence_loses⟩
  · refine ⟨_, faultOccurrence_taken hloss hc, ?_⟩
    have hflt : ((((s.markLive b src obj true).occurred b src obj).unconverge b src obj).countEcc b src).flt =
        ((s.markLive b src obj true).occurred b src obj).flt := but_flt (fs := [.est, .nvs]) (by simp) (by decide)
    refine ⟨liveBit_of_live (obj := obj) ?_, fun k => ?_⟩
    · rw [hflt, (occurred_adds ..).live]
      exact markLive_live s b src obj
    · rw [hflt, occurred_fst, (markLive_flt s b k src obj true).1]
      simp only [eq_comm]
  · obtain ⟨-, hr, hg⟩ := markLive_flt s b b src obj true
    refine ⟨_, faultOccurrence_untaken hloss (.inr hmask), ?_⟩
    rw [occur_masked true hsrc hlive hmask]
    have hflt (u : State) : (u.countEcc b src).flt = u.flt := but_flt (fs := [.nvs]) (by simp) (by decide)
    refine ⟨liveBit_of_live (obj := obj) ?_, by simp [ChangesOnly], ?_, fun k => ?_, by rw [hflt]; exact hr, by rw [hflt]; exact hg⟩
    · rw [hflt]
      exact markLive_live s b src obj
    · refine or_iff_not_imp_left.mpr fun hb => ?_
      rw [countEcc_other _ src hb]
      exact but_nvs (fs := [.flt]) (by simp) (by decide)
    · rw [hflt, (markLive_flt s b k src obj true).1]
  · refine ⟨_, faultOccurrence_untaken hloss (.inl hlive), ?_⟩
    rw [occur_present true hlive]
    exact ⟨by simp [ChangesOnly], countEcc_other s src⟩
  · subst hb
    refine ⟨_, congrArg Host.Outcome.next (if_neg hloss), ?_⟩
    generalize hu : (if s.flt[bNVS].live.contains ⟨src, obj⟩ = true ∨ s.masked bNVS src = true then s.occur bNVS src obj true
      else (s.occur bNVS src obj true).unconverge bNVS src obj) = u
    have hnvs : u.nvs = s.nvs := by
      rw [← hu]
      split <;> exact but_nvs (fs := .est :: reactions) (by simp [reactions]) (by decide)
    have hc := countEcc_counts u src
    rwa [hnvs] at hc

end Sys2Proof.Machine
end

section
/-!
PROOFS. Reactions and what ends them: the grace timers, the retries, and a cause that ends (R109, R434-R443).
-/

namespace Sys2Proof.Machine

/-! ### An occurrence that reacts or is retried -/

section
variable {s : State} {b : Blk} {src : Src} {obj : Nat} (hloss : ¬(b = bDOM ∧ src = 0 ∧ s.domOn obj = true)) (hc : s.canOccur b src obj)
include hloss hc

/-- What the command adds to the occurrence itself is the estimator's and the store's. -/
theorem faultOccurrence_next : ∃ t, exec (.faultOccurrence b src obj) s = .next t ∧
    ChangesOnly [.est, .nvs] ((s.markLive b src obj true).occurred b src obj) t :=
  ⟨_, faultOccurrence_taken hloss hc, by simp [ChangesOnly]⟩

/-- An unretried occurrence of severity Safe asserts the Safe line. -/
theorem faultOccurrence_safe (hheld : s.held b src obj = false) (hf : s.flt[b].frty.getLsbD src.val = false)
    (hsev : s.sevFor b src obj = 4) :
    ∃ t, exec (.faultOccurrence b src obj) s = .next t ∧ (⟨b, src, obj, true⟩ : Driver) ∈ t.safeLine := by
  obtain ⟨t, ht, hb⟩ := faultOccurrence_next hloss hc
  rw [occurred_unretried obj hf] at hb
  refine ⟨t, ht, ?_⟩
  rw [but_safeLine hb (by decide)]
  exact recorded_safe hheld hsev

/-- One of severity Degrade starts its grace timer, and nothing else follows at once. -/
theorem faultOccurrence_grace (hheld : s.held b src obj = false) (hf : s.flt[b].frty.getLsbD src.val = false)
    (hsev : s.sevFor b src obj = 2) (hfew : s.flt[b].grace.length < 8) :
    ∃ t, exec (.faultOccurrence b src obj) s = .next t ∧ t.safeLine = s.safeLine ∧ t.cells = s.cells ∧
      t.flt[b].grace = s.flt[b].grace ++ [⟨src, obj, s.now + 1000 * (s.reg (fgrcAddr b)).bits 7 0⟩] := by
  obtain ⟨t, ht, hb⟩ := faultOccurrence_next hloss hc
  rw [occurred_unretried obj hf] at hb
  obtain ⟨hflt, hgrace⟩ := recorded_grace hheld hsev hfew
  have hr := recorded_but s b src obj
  refine ⟨t, ht, ?_, ?_, ?_⟩
  · rw [but_safeLine hb (by decide), but_safeLine hflt (by decide), but_safeLine hr (by decide)]
  · rw [but_cells hb (by decide), but_cells hflt (by decide), but_cells hr (by decide)]
  · rw [but_flt hb (by decide), hgrace]

/-- A retryable source whose retry neither runs nor has run in its window is retried, with no reaction. -/
theorem faultOccurrence_retries (hf : s.flt[b].frty.getLsbD src.val = true) (hruns : s.retryRuns b src obj = false)
    (hwin : s.inWindow b src obj = false) : ∃ t, exec (.faultOccurrence b src obj) s = .next t ∧ t.retrying b src obj = true ∧
      t.safeLine = s.safeLine ∧ t.halt = s.halt ∧ t.flt[b].grace = s.flt[b].grace := by
  obtain ⟨t, ht, hb⟩ := faultOccurrence_next hloss hc
  obtain ⟨x, he, hretries, hgrace⟩ := occurred_retried hf hruns hwin
  rw [he] at hb
  have hr : ChangesOnly recording s (((s.marked b src obj).setFlt b x).report b src .occurrence false obj) := by
    simp [ChangesOnly, State.marked, recording]
  have hx : t.flt[b] = x := by rw [but_flt hb (by decide), report_flt, setFlt_get]
  refine ⟨t, ht, ?_, ?_, ?_, ?_⟩
  · unfold State.retrying
    rw [hx, hretries, List.any_append]
    simp
  · rw [but_safeLine hb (by decide), but_safeLine hr (by decide)]
  · rw [but_halt hb (by decide), but_halt hr (by decide)]
  · rw [hx, hgrace]

end

/-! ### Grace timers (R439) -/

/-- A Degrade action leaves the fault records. -/
theorem degrade_flt (s : State) (b : Blk) (src : Src) (obj : Nat) : (s.degrade b src obj).flt = s.flt := flt_of_but (by simp)

/-- A cell that is not Off is Fenced by its fence line, with the migrations that move it at their end. -/
theorem fenceCell_st {s : State} {c : Cell} (d : Driver) (h : s.cells[c].st ≠ .off) : (s.fenceCell c d).cells[c].st = .fenced := by
  unfold State.fenceCell
  rw [if_neg h]
  refine foldl_keeps (fun u : State => u.cells[c].st = .fenced) _ (fun u m hu => ?_) _ (by rw [setCell_get])
  rw [endMigr_st, freePartners_get]
  exact hu

/-- The Degrade action of the fabric fences the cell. -/
theorem degrade_fences {s : State} {c : Cell} (src : Src) (h : s.cells[c].st ≠ .off) :
    (s.degrade bFAB src c.val).cells[c].st = .fenced := by
  have he : s.degrade bFAB src c.val = (s.fenceCell c ⟨bFAB, src, c.val, true⟩).settle := dif_pos c.isLt
  rw [he, but_cells (s := s.fenceCell c ⟨bFAB, src, c.val, true⟩) (fs := [.groups, .ctx, .chg]) (by simp) (by decide)]
  exact fenceCell_st _ h

/-- A grace timer whose time has come is taken off, and acts where the severity is still Degrade. -/
theorem graceTimerExpiry_acts {s : State} {b : Blk} {src : Src} {obj : Nat} (hdue : s.dueGrace b src obj = true) :
    ∃ t, exec (.graceTimerExpiry b src obj) s = .next t ∧
      t.flt[b].grace = s.flt[b].grace.filter (fun g => !(g.src == src && g.obj == obj)) ∧
      (s.sevFor b src obj ≠ 2 → t.cells = s.cells ∧ t.ctx = s.ctx ∧ t.branches = s.branches ∧ t.est = s.est) ∧
      (∀ c : Cell, s.sevFor b src obj = 2 → b = bFAB → obj = c.val → s.cells[c].st ≠ .off → t.cells[c].st = .fenced) := by
  have hdrop : (s.dropGrace b fun g => g.src == src && g.obj == obj).flt[b].grace =
      s.flt[b].grace.filter (fun g => !(g.src == src && g.obj == obj)) := by
    unfold State.dropGrace
    rw [setFlt_get]
  refine ⟨_, if_pos hdue, ?_, fun hne => ?_, fun c hsev hb hobj hst => ?_⟩
  · split
    · exact (congrArg (fun l : Vector BlkFault 21 => l[b].grace) (degrade_flt ..)).trans hdrop
    · exact hdrop
  · rw [if_neg hne]
    exact ⟨rfl, rfl, rfl, rfl⟩
  · subst hb hobj
    rw [if_pos hsev]
    exact degrade_fences src hst

/-! ### Retries (R443) -/

/-- A retry taken off runs no longer. -/
theorem dropRetry_ends (s : State) (b : Blk) (src : Src) (obj : Nat) : (s.dropRetry b src obj).retrying b src obj = false := by
  unfold State.dropRetry State.retrying
  rw [setFlt_get]
  exact List.any_eq_false.mpr fun r hr => ne_true_of_eq_false (by simpa only [Bool.not_eq_true'] using (List.mem_filter.mp hr).2)

theorem retrying_of_retries {s t : State} {b : Blk} (src : Src) (obj : Nat) (h : t.flt[b].retries = s.flt[b].retries) :
    t.retrying b src obj = s.retrying b src obj := by
  unfold State.retrying
  rw [h]

/-- A reaction starts and ends no retry. -/
theorem react_retries (s : State) (b : Blk) (src : Src) (obj : Nat) : (s.react b src obj).flt[b].retries = s.flt[b].retries := by
  have hflt {t : State} (e : t.flt = s.flt) : t.flt[b].retries = s.flt[b].retries := by rw [e]
  unfold State.react
  split
  · rfl
  · split
    · unfold State.warn
      rw [setFlt_get]
    · extract_lets x
      split
      · exact hflt (flt_of_but (by simp))
      · rw [setFlt_get]
    · exact hflt (flt_of_but (by simp))

/-- The outcome of a retry ends it. -/
theorem retryOutcome_ends (s : State) (b : Blk) (src : Src) (obj : Nat) (ok : Bool) :
    (s.retryOutcome b src obj ok).retrying b src obj = false := by
  have hrep (kind : Kind) : ((s.dropRetry b src obj).report b src kind false obj).retrying b src obj = false := by
    rw [retrying_of_retries (s := s.dropRetry b src obj) src obj (by rw [report_flt]), dropRetry_ends]
  unfold State.retryOutcome
  split
  · extract_lets t
    split
    · exact hrep _
    · exact (retrying_of_retries src obj (react_retries _ b src obj)).trans (hrep _)
  · next h => exact Bool.eq_false_of_not_eq_true h

/-- The repeated action of a retry ends it. -/
theorem repeatAction_ends (s : State) (b : Blk) (src : Src) (obj : Nat) (ok : Bool) :
    (s.repeatAction b src obj ok).retrying b src obj = false := by
  have hflt {u t : State} (e : t.flt = u.flt) (h : u.retrying b src obj = false) : t.retrying b src obj = false :=
    (retrying_of_retries src obj (by rw [e])).trans h
  have hrepeat : (s.failedRepeat b src obj ok).retrying b src obj = false := by
    unfold State.failedRepeat
    split
    · refine hflt ?_ (retryOutcome_ends { s with sense := { s.sense with again := s.sense.again.erase obj } } b src obj ok)
      exact but_flt (fs := [.deferred, .fab, .groups, .cells, .thm, .sense, .ctx, .chg]) (by simp) (by decide)
    · exact retryOutcome_ends s b src obj ok
  unfold State.repeatAction
  split
  · exact hflt (but_flt (fs := [.cells]) (by simp) (by decide)) hrepeat
  · exact hrepeat

/-- A retry that is due ends: cancelled where another line holds the object, else by its repeated action. -/
theorem retryDue_ends {s : State} {b : Blk} {src : Src} {obj : Nat} (ok : Bool) (hsoon : s.tooSoon b src obj = false)
    (hretry : s.retrying b src obj = true) (h : s.otherLine b src obj = true ∨ s.awaits b src obj = false) :
    ∃ t, exec (.retryDue b src obj ok) s = .next t ∧ t.retrying b src obj = false := by
  refine ⟨_, congrArg Host.Outcome.next (if_neg (ne_true_of_eq_false hsoon)), ?_⟩
  split
  · unfold State.cancelRetry
    rw [if_pos hretry, retrying_of_retries (s := s.dropRetry b src obj) src obj (by rw [report_flt]), dropRetry_ends]
  · next hline => 
    rw [if_neg (ne_true_of_eq_false (h.resolve_left hline))]
    exact repeatAction_ends ..

/-- The retry of a tripped cell that stands Idle, on a port that nothing halts, starts it again (R109). -/
theorem retryDue_restarts {s : State} {c : Cell} {g : Group} (hsoon : s.tooSoon bFAB 0 c.val = false)
    (hretry : s.retrying bFAB 0 c.val = true) (hline : s.otherLine bFAB 0 c.val = false) (hst : s.cells[c].st = .idle)
    (hbar : s.cells[c].barred = false) (hg : s.cells[c].inMask = some g) (hhalt : s.halt[g.port] = []) (hsafe : s.safeLine = []) :
    ∃ t, exec (.retryDue bFAB 0 c.val true) s = .next t ∧ t.cells[c].st = .starting := by
  have hout : (s.failedRepeat bFAB 0 c.val true).but recording = s.but recording := by
    unfold State.failedRepeat State.retryOutcome
    rw [if_neg (fun h => absurd h.1 (by decide)), if_pos hretry]
    simp [recording]
  have hcells := but_cells hout (by decide)
  have hact : s.repeatAction bFAB 0 c.val true = (s.failedRepeat bFAB 0 c.val true).restartTripped c.val :=
    if_pos ⟨rfl, rfl, rfl, hretry⟩
  refine ⟨_, congrArg Host.Outcome.next ((if_neg (ne_true_of_eq_false hsoon)).trans ((if_neg (ne_true_of_eq_false hline)).trans
    ((if_neg Bool.false_ne_true).trans hact))), ?_⟩
  generalize hu : s.failedRepeat bFAB 0 c.val true = u at hout hcells
  have hc : u.cells[c] = s.cells[c] := by rw [hcells]
  have hm : u.cells[c.val].inMask = some g := (congrArg CellRec.inMask hc).trans hg
  have hidle : u.cells[c.val].st = .idle ∧ u.cells[c.val].barred = false ∧ u.halt[g.port] = [] ∧ u.safeLine = [] := by
    rw [but_halt hout (by decide), but_safeLine hout (by decide)]
    exact ⟨(congrArg CellRec.st hc).trans hst, (congrArg CellRec.barred hc).trans hbar, hhalt, hsafe⟩
  have he : u.restartTripped c.val =
      u.setCell c { u.cells[c.val] with st := .starting, since := u.now, startRetry := false, retryAt := none } := by
    unfold State.restartTripped
    rw [dif_pos c.isLt, hm]
    exact if_pos hidle
  rw [he, setCell_get]

/-! ### A cause that ends (R433, R435, R438) -/

/-- The lines of a source are released once its status bit and its live bit are clear. -/
theorem releaseLines_releases {s : State} {b : Blk} {src : Src} (hfst : s.flt[b].fst.getLsbD src.val = false)
    (hlive : s.liveBit b src = false) {d : Driver} (hb : d.blk = b) (hs : d.src = src) (hr : d.reaction = true) :
    d ∉ (s.releaseLines b).safeLine ∧ ∀ p : Port, d ∉ (s.releaseLines b).halt[p] := by
  have hended : (d.blk == b && d.reaction && !s.flt[b].fst.getLsbD d.src.val && !s.liveBit b d.src) = true := by
    rw [hb, hs, hr, hfst, hlive, beq_self_eq_true]
    rfl
  have hout (l : List Driver) :
      d ∉ l.filter fun d => !(d.blk == b && d.reaction && !s.flt[b].fst.getLsbD d.src.val && !s.liveBit b d.src) := fun h => by
    have hn : (!(d.blk == b && d.reaction && !s.flt[b].fst.getLsbD d.src.val && !s.liveBit b d.src)) = true := (List.mem_filter.mp h).2
    rw [hended] at hn
    contradiction
  refine ⟨hout _, fun p => ?_⟩
  have hp : (s.releaseLines b).halt[p] =
      s.halt[p].filter fun d => !(d.blk == b && d.reaction && !s.flt[b].fst.getLsbD d.src.val && !s.liveBit b d.src) := by
    simp only [State.releaseLines, Fin.getElem_fin, Vector.getElem_map]
  rw [hp]
  exact hout _

/-- A cause that ends is live no longer; the status bits stay. -/
theorem endCause_ends (s : State) (b : Blk) (src : Src) (obj : Nat) : ((⟨src, obj⟩ : Cause) ∉ (s.endCause b src obj).flt[b].live) ∧
    ∀ k : Blk, (s.endCause b src obj).flt[k].fst = s.flt[k].fst := by
  unfold State.endCause
  refine ⟨?_, fun k => setFlt_fst_same s b k _ rfl⟩
  rw [setFlt_get]
  simp

/-- Settles O11: the reactions by severity, then the grace timers, the retries and the causes that end. -/
theorem reactionsAndTheirEnds : Obligations.ReactionsAndTheirEnds := by
  refine ⟨fun s b src obj hloss hc hheld => ⟨fun hf hsev => faultOccurrence_safe hloss hc hheld hf hsev,
      fun hf hsev hfew => faultOccurrence_grace hloss hc hheld hf hsev hfew, fun hf hruns hwin => faultOccurrence_retries hloss hc hf hruns hwin⟩,
    fun s b src obj => graceTimerExpiry_acts, fun s b src obj ok => ⟨fun hsoon => congrArg Host.Outcome.next (if_pos hsoon),
      fun hsoon hline haw => ?_, fun hsoon => retryDue_ends ok hsoon⟩, fun s c g => retryDue_restarts, fun s b src obj => ?_⟩
  · exact congrArg Host.Outcome.next ((if_neg (ne_true_of_eq_false hsoon)).trans ((if_neg (ne_true_of_eq_false hline)).trans (if_pos haw)))
  · obtain ⟨hlive, hfst⟩ := endCause_ends s b src obj
    refine ⟨_, rfl, hlive, hfst, fun hf hl d hb hs hr => ?_⟩
    exact releaseLines_releases ((hfst b ▸ hf : (s.endCause b src obj).flt[b].fst.getLsbD src.val = false)) hl hb hs hr

end Sys2Proof.Machine
end

section
/-!
PROOFS. The changes of the module state: Run, Standby, Watch, Dormant and Stubble (R483, R488-R491, R501).
-/

namespace Sys2Proof.Machine

/-! ### The entry into Run -/

/-- In Run or Degraded, or taken from them to Stubble by the Safe line. -/
def State.Entered (s : State) : Prop := s.inRun = true ∨ s.dom.st = .stubble ∧ s.safeLine ≠ []

theorem inRun_iff (s : State) : s.inRun = true ↔ s.dom.st = .run ∨ s.dom.st = .degraded := by
  simp [State.inRun]

@[simp] theorem zeroThresher_dom (s : State) : s.zeroThresher.dom = s.dom := but_dom (fs := [.ctx, .thr]) (by simp) (by decide)
@[simp] theorem settle_dom (s : State) : s.settle.dom = s.dom := but_dom (fs := [.groups, .ctx, .chg]) (by simp) (by decide)
@[simp] theorem settle_safeLine (s : State) : s.settle.safeLine = s.safeLine := but_safeLine (fs := [.groups, .ctx, .chg]) (by simp) (by decide)
@[simp] theorem enterStubble_safeLine (s : State) : s.enterStubble.safeLine = s.safeLine :=
  but_safeLine (fs := [.dom, .img, .ctx, .thr]) (by simp) (by decide)

/-- Standby and Run are left for Stubble; every other state stays. -/
theorem enterStubble_st (s : State) : s.enterStubble.dom.st =
    if s.dom.st = .standby ∨ s.dom.st = .run ∨ s.dom.st = .degraded then .stubble else s.dom.st := by
  unfold State.enterStubble
  split
  · rw [zeroThresher_dom]
  · rfl

/-- The Safe line takes the module to Stubble where it is asserted first. -/
theorem assertSafe_st (s : State) (d : Driver) : (s.assertSafe d).dom.st =
    if s.safeLine.isEmpty = true ∧ (s.dom.st = .standby ∨ s.dom.st = .run ∨ s.dom.st = .degraded) then .stubble else s.dom.st := by
  have hrest (u : State) : ((u.unsettle u.culm.vmeas).stopAll.safeLoads.safePorts.safeActivation).dom = u.dom :=
    but_dom (fs := [.deferred, .img, .fab, .groups, .cells, .culm, .branches, .src, .bat, .fdr, .awn]) (by simp) (by decide)
  unfold State.assertSafe
  extract_lets first t
  have ht : t.dom = s.dom := rfl
  clear_value t
  split
  · next hf =>
    rw [settle_dom, enterStubble_st, hrest, ht]
    simp only [show s.safeLine.isEmpty = true from hf, true_and]
  · next hf => rw [if_neg fun h => hf h.1, ht]

theorem entered_steady : State.Steady State.Entered where
  but hb h := by
    unfold State.Entered State.inRun at h ⊢
    rwa [but_dom hb (by decide), but_safeLine hb (by decide)]
  safe {s} d h := by
    have hne : (s.assertSafe d).safeLine ≠ [] := List.ne_nil_of_mem (assertSafe_asserts s d)
    unfold State.Entered at h ⊢
    rw [inRun_iff] at h ⊢
    rw [assertSafe_st]
    split
    · exact .inr ⟨rfl, hne⟩
    · exact h.imp_right fun h => ⟨h.1, hne⟩

theorem entered_of_but {fs : List Fld} {s t : State} (hb : t.but fs = s.but fs) (hd : Fld.dom ∉ fs) (hs : Fld.safeLine ∉ fs)
    (h : s.Entered) : t.Entered := by
  unfold State.Entered State.inRun at h ⊢
  rwa [but_dom hb hd, but_safeLine hb hs]

theorem thrStart_entered {s : State} (h : s.Entered) : s.thrStart.Entered := by
  unfold State.thrStart
  extract_lets x dt u v
  split
  · have hpeak : (s.peakRule s.meanThru dt).Entered := by
      unfold State.peakRule
      extract_lets t
      have ht : t.Entered := h
      split
      · exact occur_steady entered_steady _ _ _ _ ht
      · exact ht
    have hu : u.Entered := by
      simp only [u]
      refine entered_of_but (fs := [.ctx, .thr]) (s := if x.st = .zeroed then (s.peakRule s.meanThru dt).deferRule dt else s) (by simp)
        (by decide) (by decide) ?_
      split
      · exact entered_of_but (fs := [.thr]) (by simp) (by decide) (by decide) hpeak
      · exact h
    exact hu
  · exact h

theorem followDegraded_entered {s : State} (h : s.Entered) : s.followDegraded.Entered := by
  unfold State.followDegraded
  split
  · exact .inl rfl
  · split
    · exact .inl rfl
    · exact h

theorem rewriteBacking_entered {s : State} (h : s.Entered) : s.rewriteBacking.Entered := by
  unfold State.rewriteBacking
  split
  · extract_lets l nv i
    refine wearSectors_keeps (P := State.Entered) (fun v x hv => hv) (fun v r hv => occur_steady entered_steady _ _ _ _ hv) _ _ ?_
    exact h
  · exact h

/-- The entry into Run ends in Run or Degraded, or a Safe line asserted in it takes the module to Stubble. -/
theorem toRun_entered (s : State) : s.toRun.Entered := by
  unfold State.toRun
  extract_lets d i t
  have ht : t.Entered := .inl rfl
  exact rewriteBacking_entered (followDegraded_entered (thrStart_entered ht))

theorem settle_entered {s : State} (h : s.Entered) : s.settle.Entered := by
  unfold State.Entered State.inRun at h ⊢
  rwa [settle_dom, settle_safeLine]

theorem orStubble_ends {s : State} (h : s.Entered) : (s.orStubble.safeLine = [] → s.orStubble.inRun = true) ∧
    (s.orStubble.safeLine ≠ [] → s.orStubble.dom.st = .stubble) := by
  unfold State.orStubble
  split
  · next hs => exact ⟨fun _ => h.resolve_right fun hn => hn.2 hs, fun hne => absurd hs hne⟩
  · next hs =>
    rw [settle_safeLine, enterStubble_safeLine, settle_dom, enterStubble_st]
    refine ⟨fun he => absurd he hs, fun _ => ?_⟩
    rcases h with hr | ⟨hst, -⟩
    · exact if_pos (.inr ((inRun_iff s).mp hr))
    · rw [hst]
      rfl

/-! ### Sleep -/

section
variable {s : State} {to_ : ModState}

/-- The state in which a module that goes to sleep has saved its retained memory. -/
def State.drowsy (s : State) (to_ : ModState) : State := ({ s with dom := { s.dom with st := to_ } } : State).saveSlot s.olderSlot true

theorem sleep_wakes {q : Wake × SPort} (h : s.wakeWaits = some q) : s.sleep to_ = (s.drowsy to_).beginBoot false q.1 q.2 := by
  have hw : (s.drowsy to_).wakeWaits = some q := h
  unfold State.sleep
  extract_lets d t u v
  rw [show t.wakeWaits = some q from hw]
  rfl

theorem sleep_sleeps (h : s.wakeWaits = none) : s.sleep to_ =
    { (if to_ = .dormant then (s.drowsy to_).coldReset else (s.drowsy to_).domainReset) with
      dom := { (if to_ = .dormant then (s.drowsy to_).coldReset else (s.drowsy to_).domainReset).dom with
        st := to_, cold := to_ == .dormant, supplyAt := none, holdReady := false } } := by
  have hw : (s.drowsy to_).wakeWaits = none := h
  unfold State.sleep
  extract_lets d t u v
  rw [show t.wakeWaits = none from hw]
  rfl

/-- A domain restart keeps the alarm, which retained memory holds. -/
theorem domainReset_domAlarm (s : State) : s.domainReset.ret.domAlarm = s.ret.domAlarm := by
  have h : s.finishProgram.ret = s.ret := but_ret (fs := [.freeN, .nv, .nvs]) (by simp) (by decide)
  rw [← h]
  rfl

/-- A program or an erase under way ends on the store's own fields alone. -/
theorem finishProgram_congr {s t : State} (hnvs : t.nvs = s.nvs) (hnv : t.nv = s.nv) (hfree : t.freeN = s.freeN) :
    t.finishProgram.nv = s.finishProgram.nv := by
  have hspoil (a n : Nat) : (t.spoil a n).nv = (s.spoil a n).nv := by
    have hd (u : State) : (u.drewMany n).nv = u.nv := but_nv (fs := [.freeN]) (by simp) (by decide)
    have hf (i : Nat) : t.freeAt i = s.freeAt i := by
      unfold State.freeAt
      rw [hfree]
    unfold State.spoil
    rw [hd, hd]
    simp only [hnv, hf]
  have herase (o : NvOp) : (t.spoilErase o).nv = (s.spoilErase o).nv := by
    unfold State.spoilErase
    rw [hnvs]
    split
    · exact hspoil _ _
    · exact hnv
  unfold State.finishProgram
  rw [hnvs, hnv]
  split
  · split
    · rfl
    · exact hnv
  · split
    · exact herase _
    · exact hnv
  · exact hnv

theorem drowsy_finishProgram (s : State) (to_ : ModState) : (s.drowsy to_).finishProgram.nv = s.finishProgram.nv :=
  finishProgram_congr rfl rfl rfl

theorem domainReset_nv (s : State) : s.domainReset.nv = s.finishProgram.nv := rfl

theorem coldReset_nv (s : State) : s.coldReset.nv = s.finishProgram.nv := rfl

/-- Sleep ordered from Standby, with no session, activation or wake cause; for Watch with its alarm off or ahead. -/
theorem orderSleep_sleeps {s : State} {to_ : ModState} (hst : s.dom.st = .standby) (hsess : s.img.sess = .closed) (hreq : s.img.req = none)
    (hwake : s.wakeCause = false) (ha : to_ = .dormant ∨ s.ret.domAlarm.toNat = 0 ∨ s.rtc < s.ret.domAlarm.toNat) :
    s.orderSleep to_ = s.sleep to_ := if_pos ⟨hst, hsess, hreq, hwake, ha⟩

/-- Watch: the alarm stays, and a wake cause of the entry starts the module up. -/
theorem sleep_watch (s : State) : (s.sleep .watch).ret.domAlarm = s.ret.domAlarm ∧
    (s.wakeWaits = none → (s.sleep .watch).dom.st = .watch) ∧
    ∀ q, s.wakeWaits = some q → (s.sleep .watch).Booting false q.1 q.2 := by
  have halarm : (s.drowsy .watch).domainReset.ret.domAlarm = s.ret.domAlarm := domainReset_domAlarm _
  refine ⟨?_, fun h => ?_, fun q h => ?_⟩
  · cases h : s.wakeWaits with
    | none =>
      rw [sleep_sleeps h]
      exact halarm
    | some q =>
      rw [sleep_wakes h]
      exact halarm
  · rw [sleep_sleeps h]
  · rw [sleep_wakes h]
    exact beginBoot_booting ..

/-- Dormant: a program under way is completed, and a wake cause of the entry starts the module up. -/
theorem sleep_dormant (s : State) : (s.wakeWaits = none → (s.sleep .dormant).dom.st = .dormant ∧ (s.sleep .dormant).nv = s.finishProgram.nv) ∧
    ∀ q, s.wakeWaits = some q → (s.sleep .dormant).Booting false q.1 q.2 := by
  refine ⟨fun h => ?_, fun q h => ?_⟩
  · rw [sleep_sleeps h]
    exact ⟨rfl, (coldReset_nv _).trans (drowsy_finishProgram s _)⟩
  · rw [sleep_wakes h]
    exact beginBoot_booting ..

end

/-- The module at rest: the culm is Off, and its state stays. -/
theorem atRest_effect (s : State) : s.stopGroups.restPorts.culmOff.thrStop.dom = s.dom ∧
    s.stopGroups.restPorts.culmOff.thrStop.culm.mode = .off := by
  have hstop (u : State) : u.thrStop.culm = u.culm := but_culm (fs := [.ctx, .thr]) (by simp) (by decide)
  refine ⟨but_dom (fs := [.fab, .groups, .cells, .src, .fdr, .branches, .culm, .ctx, .thr]) (by simp) (by decide), ?_⟩
  rw [hstop]
  rfl

/-- The module at rest in Standby, before its domains switch off. -/
def State.resting (s : State) : State :=
  State.thrStop (State.culmOff (State.restPorts (State.stopGroups { s with
    dom := { s.dom with st := .standby, idleSince := none }
    img := { s.img with trialUs := s.trialUsed, trialAt := none } })))

theorem orderStandby_rests {s : State} (hrun : s.inRun = true) (hctx : s.usedCtx = []) :
    s.orderStandby = [8, 7, 6, 5, 4, 9].foldl State.powerOff s.resting := by
  unfold State.orderStandby State.toStandby State.resting
  exact if_pos ⟨hrun, hctx⟩

theorem resting_effect (s : State) : s.resting.dom.st = .standby ∧ s.resting.culm.mode = .off := by
  unfold State.resting
  obtain ⟨hd, hc⟩ := atRest_effect { s with
    dom := { s.dom with st := .standby, idleSince := none }
    img := { s.img with trialUs := s.trialUsed, trialAt := none } }
  rw [hd]
  exact ⟨rfl, hc⟩

/-- The entry into Run, and the return to it, end in Run, Degraded or Stubble. -/
theorem runEntry_ends (s : State) (failed : List Cell) : ((s.runEntry failed).safeLine = [] → (s.runEntry failed).inRun = true) ∧
    ((s.runEntry failed).safeLine ≠ [] → (s.runEntry failed).dom.st = .stubble) := by
  unfold State.runEntry
  exact orStubble_ends (toRun_entered _)

theorem returnFromStubble_ends {s : State} (failed : List Cell) (hrun : s.dom.stubFromRun = true) :
    ((s.returnFromStubble failed).safeLine = [] → (s.returnFromStubble failed).inRun = true) ∧
    ((s.returnFromStubble failed).safeLine ≠ [] → (s.returnFromStubble failed).dom.st = .stubble) := by
  unfold State.returnFromStubble
  extract_lets d t
  rw [if_pos hrun]
  exact orStubble_ends (settle_entered (toRun_entered _))

theorem returnFromStubble_standby {s : State} (failed : List Cell) (hrun : s.dom.stubFromRun = false) :
    (s.returnFromStubble failed).dom.st = .standby := by
  unfold State.returnFromStubble
  rw [if_neg (by simp [hrun]), settle_dom]

/-! ### The commands -/

/-- Settles O7: the entry into Run and its end, sleep, and the return from Stubble. -/
theorem moduleStates : Obligations.ModuleStates := by
  have next {s : State} (r : Req) (f : State → State) (hs : s.serves domCtlAt) :
      (Host.Outcome.next (s.viaService r domCtlAt f) : Ans) = .next (f s) := congrArg Host.Outcome.next (viaService_serves s r _ f hs)
  refine ⟨fun s r failed hs hst himg hsafe => ?_, fun s r hs hrun hctx => ?_, fun s r hs hst hsess hreq hwake ha => ?_,
    fun s r hs hst hsess hreq hwake => ⟨fun hw => ?_, fun q hw => ?_⟩, fun s t0 hidle hn hsince ht hw => ?_,
    fun s hst hrun hoff ht => ⟨_, if_pos ⟨hst, hrun, hoff, ht⟩, rfl, rfl⟩,
    fun s failed hst hsafe hreq => ⟨fun hrun => ?_, fun hrun => ?_⟩⟩
  · exact ⟨_, (next r _ hs).trans (congrArg Host.Outcome.next (if_pos ⟨hst, himg, hsafe⟩)), runEntry_ends s failed⟩
  · exact ⟨s.resting, (next r _ hs).trans (congrArg Host.Outcome.next (orderStandby_rests hrun hctx)), resting_effect s⟩
  · obtain ⟨halarm, hnone, hsome⟩ := sleep_watch s
    refine ⟨s.sleep .watch, (next r _ hs).trans (congrArg Host.Outcome.next (orderSleep_sleeps hst hsess hreq hwake (.inr ha))), halarm, hnone, fun q hq => ?_⟩
    exact ⟨(hsome q hq).st, (hsome q hq).boot, (hsome q hq).wake, (hsome q hq).cold⟩
  · exact ⟨_, (next r _ hs).trans (congrArg Host.Outcome.next (orderSleep_sleeps hst hsess hreq hwake (.inl rfl))), (sleep_dormant s).1 hw⟩
  · have hb := (sleep_dormant s).2 q hw
    exact ⟨_, (next r _ hs).trans (congrArg Host.Outcome.next (orderSleep_sleeps hst hsess hreq hwake (.inl rfl))), hb.st, hb.boot, hb.wake, hb.cold⟩
  · refine ⟨_, if_pos ⟨hidle, hn, ?_⟩, ((sleep_dormant s).1 hw).1⟩
    rw [hsince]
    exact decide_eq_true ht
  · exact ⟨_, if_pos ⟨hst, hsafe, hreq⟩, returnFromStubble_ends failed hrun⟩
  · exact ⟨_, if_pos ⟨hst, hsafe, hreq⟩, returnFromStubble_standby failed hrun⟩

end Sys2Proof.Machine
end

section
/-!
PROOFS. What occurrences leave of the ring and the CAN controller; the CAN interface (R533, R534, R537, R538, R540).
-/

namespace Sys2Proof.Machine

/-! ### What an occurrence leaves -/

@[simp] theorem occur_ring (s : State) (b : Blk) (src : Src) (obj : Nat) (stays : Bool) : (s.occur b src obj stays).ring = s.ring :=
  but_ring (fs := reactions) (by simp [reactions]) (by decide)
@[simp] theorem occur_can (s : State) (b : Blk) (src : Src) (obj : Nat) (stays : Bool) : (s.occur b src obj stays).can = s.can :=
  but_can (fs := reactions) (by simp [reactions]) (by decide)
@[simp] theorem retryOutcome_ring (s : State) (b : Blk) (src : Src) (obj : Nat) (ok : Bool) :
    (s.retryOutcome b src obj ok).ring = s.ring :=
  but_ring (fs := reactions) (by simp [reactions]) (by decide)
@[simp] theorem endCause_ring (s : State) (b : Blk) (src : Src) (obj : Nat) : (s.endCause b src obj).ring = s.ring := rfl
@[simp] theorem endCause_can (s : State) (b : Blk) (src : Src) (obj : Nat) : (s.endCause b src obj).can = s.can := rfl
@[simp] theorem endCause_bms (s : State) (b : Blk) (src : Src) (obj : Nat) : (s.endCause b src obj).bms = s.bms := rfl
@[simp] theorem endCause_now (s : State) (b : Blk) (src : Src) (obj : Nat) : (s.endCause b src obj).now = s.now := rfl

theorem setBms_get (s : State) (k j : Bms) (x : BmsRec) : (s.setBms k x).bms[j] = if k = j then x else s.bms[j] := vset_get s.bms k j x

/-- The limits of a BMS raised towards the flow context store wait in their slot, and nothing else changes. -/
theorem raise_bms (s : State) (k : Bms) : s.raise 2 (.bms k) = s.putValue ⟨2, .bms k, 1, .limits s.bms[k].sent⟩ := rfl

/-! ### Frames of a BMS (R533, R534) -/

section
variable {s : State} {k : Bms} {d : List Byte} (hon : s.canOn = true)
include hon

theorem canLimitsFrame_invalid (hv : limitsValid d = false) : ∃ u : State, exec (.canLimitsFrame k d) s = .next (u.occur bCAN 3 k.val) ∧
    u.bms = s.bms ∧ u.can.rej = min 255 (s.can.rej + 1) := by
  refine ⟨{ s with can := { s.can with rej := sat 255 (s.can.rej + 1) } }, ?_, rfl, rfl⟩
  simp only [exec, execCanLimitsFrame, hon, hv, Bool.true_eq_false, if_true, if_false]
  rfl

/-- A valid LIMITS frame with a new counter: the values as they came, the age from now, and both on the way to the flow context store. -/
theorem canLimitsFrame_new (hv : limitsValid d = true) (hctr : s.bms[k].limCtr ≠ some (byteAt d 0)) :
    ∃ t, exec (.canLimitsFrame k d) s = .next t ∧
      t.bms[k].limAt = some s.now ∧ t.bms[k].limCtr = some (byteAt d 0) ∧ t.bms[k].cp = (d.getD 1 0).getLsbD 0 ∧
      t.bms[k].dp = (d.getD 1 0).getLsbD 1 ∧ t.bms[k].full = (d.getD 1 0).getLsbD 2 ∧ t.bms[k].ncell = byteAt d 2 ∧
      t.bms[k].cvl = word16 d 4 ∧ t.bms[k].ccl = word16 d 6 ∧ t.bms[k].dcl = word16 d 8 ∧ t.bms[k].dvl = word16 d 10 ∧
      (∃ q ∈ t.xslots, q.x = 2 ∧ q.item = .bms k) ∧ ∀ j : Bms, j ≠ k → t.bms[j] = s.bms[j] := by
  obtain ⟨u, hu, hbms⟩ : ∃ u : State, exec (.canLimitsFrame k d) s = .next (u.raise 2 (.bms k)) ∧ u.bms = vset s.bms k { s.bms[k] with
      limAt := some s.now, limCtr := some (byteAt d 0), staleRow := 0, cp := (d.getD 1 0).getLsbD 0, dp := (d.getD 1 0).getLsbD 1,
      full := (d.getD 1 0).getLsbD 2, ncell := byteAt d 2, cvl := word16 d 4, ccl := word16 d 6, dcl := word16 d 8, dvl := word16 d 10 } := by
    refine ⟨State.setBms { s.endCause bCAN 6 0 with can := { s.can with rx := sat 65535 (s.can.rx + 1) } } k _, ?_, rfl⟩
    exact (if_neg (ne_false_of_eq_true hon)).trans ((if_neg (ne_false_of_eq_true hv)).trans (if_neg hctr))
  have hmem := mem_putValue u ⟨2, .bms k, 1, .limits u.bms[k].sent⟩
  have ht : (u.raise 2 (.bms k)).bms = u.bms := but_bms (fs := [.xslots]) (by rw [raise_bms]; simp) (by decide)
  have hk : (u.raise 2 (.bms k)).bms[k] = _ := (congrArg (·[k]) (ht.trans hbms)).trans (vset_same s.bms k _)
  refine ⟨_, hu, ?_⟩
  rw [hk]
  exact ⟨rfl, rfl, rfl, rfl, rfl, rfl, rfl, rfl, rfl, rfl, ⟨_, hmem, rfl, rfl⟩, fun j hj =>
    (congrArg (·[j]) (ht.trans hbms)).trans (vset_other s.bms k j _ hj.symm)⟩

/-- A LIMITS frame with the counter of the last one: ignored and counted, and the eighth in a row is source 2. -/
theorem canLimitsFrame_stale (hv : limitsValid d = true) (hctr : s.bms[k].limCtr = some (byteAt d 0)) :
    ∃ u : State, u.can.stale = min 255 (s.can.stale + 1) ∧
      u.bms[k] = { s.bms[k] with staleRow := if 8 ≤ s.bms[k].staleRow + 1 then 0 else s.bms[k].staleRow + 1 } ∧
      exec (.canLimitsFrame k d) s = .next (if 8 ≤ s.bms[k].staleRow + 1 then u.occur bCAN 2 k.val else u) := by
  refine ⟨State.setBms { s.endCause bCAN 6 0 with can := { s.can with stale := sat 255 (s.can.stale + 1) } } k _, rfl, vset_same s.bms k _, ?_⟩
  exact (if_neg (ne_false_of_eq_true hon)).trans ((if_neg (ne_false_of_eq_true hv)).trans (if_pos hctr))

/-- A valid STATE frame with a new counter: its alarm is source 5, and without one the cause ends. -/
theorem canStateFrame_new (hv : stateValid d = true) (hctr : s.bms[k].stCtr ≠ some (byteAt d 0)) :
    ∃ u : State, u.bms[k] = { s.bms[k] with
        stAt := some s.now, stCtr := some (byteAt d 0), alarm := decide (byteAt d 1 ≠ 0), tmin := signedOf 8 (byteAt d 12),
        tmax := signedOf 8 (byteAt d 13) } ∧
      exec (.canStateFrame k d) s = .next (if decide (byteAt d 1 ≠ 0) = true then u.occur bCAN 5 k.val true else u.endCause bCAN 5 k.val) := by
  refine ⟨State.setBms { s.endCause bCAN 6 0 with can := { s.can with rx := sat 65535 (s.can.rx + 1) } } k _, vset_same s.bms k _, ?_⟩
  exact (if_neg (ne_false_of_eq_true hon)).trans ((if_neg (ne_false_of_eq_true hv)).trans (if_neg hctr))

end

/-! ### Sending, and the states of the bus (R537, R538) -/

/-- A frame queued: behind the others, in the place of the oldest where 8 wait. -/
theorem canQueue_queues (s : State) (id : Nat) (d : List Byte) :
    (s.canQueue id d).can.txq = (if s.can.txq.length < 8 then s.can.txq ++ [(id, d)] else s.can.txq.tail ++ [(id, d)]) ∧
      (s.canQueue id d).can.ctr = s.can.ctr ∧ (s.canQueue id d).can.sentAt = s.can.sentAt := by
  unfold State.canQueue
  extract_lets l
  have hlen : l.length = s.can.txq.length + 1 := by simp [l]
  by_cases h : s.can.txq.length < 8
  · rw [if_pos (by omega), if_pos h]
    exact ⟨rfl, rfl, rfl⟩
  · rw [if_neg (by omega), if_neg h, occur_can]
    have hne : s.can.txq ≠ [] := fun he => h (by simp [he])
    exact ⟨List.tail_append_of_ne_nil hne, rfl, rfl⟩

theorem moduleStatusSend_queues {s : State} {p : BPort} {l : LithEntry} (hl : s.lithium p = some l) (hbus : s.can.bus ≠ 3)
    (hdom : s.domOn 1 = true) (hdue : s.can.sentAt[p] + 10000 * (s.reg canCfgAt).bits 31 24 ≤ s.now) :
    ∃ t, exec (.moduleStatusSend p) s = .next t ∧ t.can.sentAt[p] = s.now ∧ t.can.ctr[p] = (s.can.ctr[p] + 1) % 16 ∧
      t.can.txq = (s.canQueue (0x40 * (s.reg canCfgAt).bits 21 16 + 4 * l.bms.val + p.val) (s.moduleStatus p l)).can.txq := by
  obtain ⟨t, ht⟩ : ∃ t, t = s.canQueue (0x40 * (s.reg canCfgAt).bits 21 16 + 4 * l.bms.val + p.val) (s.moduleStatus p l) := ⟨_, rfl⟩
  have hctr : t.can.ctr = s.can.ctr := ht ▸ (canQueue_queues ..).2.1
  refine ⟨{ t with can := { t.can with sentAt := vset t.can.sentAt p s.now, ctr := vset t.can.ctr p ((t.can.ctr[p] + 1) % 16) } }, ?_,
    vset_same t.can.sentAt p s.now, (vset_same t.can.ctr p _).trans (congrArg (fun v : Vector Nat 3 => (v[p] + 1) % 16) hctr),
    congrArg (·.can.txq) ht⟩
  simp only [exec, execModuleStatusSend, hl, ht]
  exact if_pos ⟨hbus, hdom, hdue⟩

@[simp] theorem errorActive_can (s : State) : s.errorActive.can = s.can :=
  but_can (fs := reactions) (by simp [reactions]) (by decide)

/-! ### CAN_CFG (R537, R540) -/

/-- The word that CAN_CFG takes: its enable bit and its period. -/
theorem canCfgSpec_accept (v : Word) : (canCfgSpec.accept v).bit 0 = v.bit 0 ∧ (canCfgSpec.accept v).bits 31 24 = max 1 (v.bits 31 24) := by
  have below {f : RegField} (hf : f.most * 2 ^ f.lo < 2 ^ 24) (hl : f.least ≤ f.most) :
      (BitVec.ofNat 32 (f.clamp v * 2 ^ f.lo)).toNat >>> 24 = 0 := by
    have hc : f.clamp v ≤ f.most := max_le hl (min_le_left ..)
    have := Nat.mul_le_mul_right (2 ^ f.lo) hc
    rw [BitVec.toNat_ofNat, Nat.shiftRight_eq_div_pow]
    omega
  have top : (BitVec.ofNat 32 (RegField.clamp ⟨31, 24, 1, 255⟩ v * 2 ^ 24)).toNat >>> 24 = max 1 (v.bits 31 24) := by
    have hb : v.bits 31 24 < 256 := Nat.mod_lt _ (by decide)
    have hc : RegField.clamp ⟨31, 24, 1, 255⟩ v = max 1 (v.bits 31 24) := by
      simp only [RegField.clamp]
      omega
    rw [hc, BitVec.toNat_ofNat, Nat.shiftRight_eq_div_pow]
    omega
  constructor
  · simp only [RegSpec.accept, canCfgSpec, List.foldl, Word.bit, BitVec.getLsbD_or, field_bit_zero _ (by decide : 0 < 1),
      field_bit_zero _ (by decide : 0 < 8), field_bit_zero _ (by decide : 0 < 16), field_bit_zero _ (by decide : 0 < 24), enableField_bit_zero]
    simp
  · have hb : v.bits 31 24 < 256 := Nat.mod_lt _ (by decide)
    rw [Word.bits]
    simp only [RegSpec.accept, canCfgSpec, List.foldl, BitVec.toNat_or, Nat.shiftRight_or_distrib, top,
      below (f := ⟨0, 0, 0, 1⟩) (by decide) (by decide), below (f := ⟨1, 1, 0, 1⟩) (by decide) (by decide),
      below (f := ⟨10, 8, 0, 7⟩) (by decide) (by decide), below (f := ⟨21, 16, 0, 31⟩) (by decide) (by decide)]
    simp
    omega

theorem canCfg_stored {s : State} (v : Word) (h : s.Inv) :
    ((s.setReg canCfgAt v).reg canCfgAt).bit 0 = v.bit 0 ∧ ((s.setReg canCfgAt v).reg canCfgAt).bits 31 24 = max 1 (v.bits 31 24) := by
  rw [setReg_reg (q := canCfgSpec) (by decide +kernel) h]
  exact canCfgSpec_accept v

/-- The controller restarted: no frame waits, and it is on where CAN_CFG and D1 are. -/
theorem canRestart_can (s : State) : s.canRestart.can = { s.can with
    bus := if (s.reg canCfgAt).bit 0 && s.domOn 1 then 0 else 3, tec := 0, recv := 0, txq := [] } := by
  unfold State.canRestart
  by_cases h : ((s.reg canCfgAt).bit 0 && s.domOn 1) = true
  · simp only [h, if_true, errorActive_can]
  · simp only [h, Bool.false_eq_true, if_false, endCause_can]

@[simp] theorem canRestart_reg (s : State) (a : Nat) : s.canRestart.reg a = s.reg a :=
  reg_of_rw a (but_rw (fs := .can :: reactions) (by simp [reactions]) (by decide))

theorem canCfgWrite_stores {s : State} {v : Word} (r : Req) (hs : s.serves canCfgAt) (hinv : s.Inv) (hv : canCfgBad v = false) :
    ∃ t, exec (.canCfgWrite r v) s = .next t ∧ (t.reg canCfgAt).bit 0 = v.bit 0 ∧ (t.reg canCfgAt).bits 31 24 = max 1 (v.bits 31 24) ∧
      ((s.reg canCfgAt).bit 0 ≠ v.bit 0 → t.can.txq = [] ∧ t.can.tec = 0 ∧ t.can.bus = if v.bit 0 ∧ s.domOn 1 then 0 else 3) := by
  obtain ⟨hen, hper⟩ := canCfg_stored v hinv
  refine ⟨_, congrArg Host.Outcome.next ((viaService_serves s r _ _ hs).trans (if_neg (ne_true_of_eq_false hv))), ?_⟩
  extract_lets old t
  have hdom : t.domOn 1 = s.domOn 1 := congrArg (·.on.getLsbD 1) (but_dom (s := s) (t := t) (fs := [.rw]) (by simp [t]) (by decide))
  split
  · rw [canRestart_reg, canRestart_can]
    refine ⟨hen, hper, fun _ => ⟨rfl, rfl, ?_⟩⟩
    simp only [t, hen, ← hdom, Bool.and_eq_true]
  · next h => exact ⟨hen, hper, fun hne => absurd (.inl hne) h⟩

/-- Settles O50: the frames of the BMSs, MODULE STATUS, sending, the states of the bus, and CAN_CFG. -/
theorem canInterface : Obligations.CanInterface := by
  refine fun s => ⟨fun k d hon => ⟨canLimitsFrame_invalid hon, canLimitsFrame_new hon, fun hv hctr => ?_, fun hv hctr => ?_⟩,
    fun p l hl hbus hdom hdue => ?_, fun m l hl hon => ?_, fun hon => ?_, fun hbus hdom => ?_, fun a b hbus hdom => ?_,
    fun us hon hus => if_pos ⟨hon, hus⟩, fun r v hs hinv => ⟨fun hv => ?_, canCfgWrite_stores r hs hinv⟩⟩
  · obtain ⟨u, hst, hk, hu⟩ := canLimitsFrame_stale hon hv hctr
    refine ⟨fun hrow => ⟨u, hu.trans ?_, hst, hk.trans ?_⟩, fun hrow => ⟨u, hu.trans ?_, hst, (congrArg BmsRec.limAt hk :)⟩⟩
    · rw [if_neg (by omega)]
    · rw [if_neg (by omega)]
    · rw [if_pos (by omega)]
  · obtain ⟨u, hk, hu⟩ := canStateFrame_new hon hv hctr
    refine ⟨fun h0 => ⟨_, hu.trans (congrArg _ (if_neg (by simp [h0]))), ?_⟩, fun h1 => ⟨u, hu.trans (congrArg _ (if_pos (by simp [h1]))), ?_⟩⟩
    · rw [endCause_bms, hk]
      exact ⟨rfl, by simp [h0], rfl, rfl, rfl, not_mem_endCause u bCAN 5 k.val⟩
    · rw [hk]
      simp [h1]
  · obtain ⟨t, ht, hsent, hctr, hq⟩ := moduleStatusSend_queues hl hbus hdom hdue
    exact ⟨t, ht, hsent, hctr, hq.trans (canQueue_queues ..).1⟩
  · refine ⟨{ s.endCause bCAN 6 0 with can := { s.can with txq := l, tx := sat 65535 (s.can.tx + 1) } }, ?_, rfl, rfl⟩
    simp only [exec, execCanFrameSent, hl, hon, if_true]
  · exact ⟨_, if_pos hon, rfl⟩
  · exact ⟨_, if_pos ⟨hbus, hdom⟩, rfl⟩
  · refine ⟨_, if_pos ⟨hbus, hdom⟩, ?_⟩
    rw [errorActive_can]
    exact ⟨rfl, rfl, rfl⟩
  · exact congrArg Host.Outcome.next ((viaService_serves s r _ _ hs).trans (if_pos hv))

end Sys2Proof.Machine
end

section
/-!
PROOFS. The ring's own rules: a frame accepted, a frame queued and sent; the stook exchange (R513, R514, R526-R528).
-/

namespace Sys2Proof.Machine

/-! ### A frame accepted (R513) -/

/-- Two records of the ring that differ at most in what a frame received counts: the senders heard, the frame counter, and the discarded
frame that waits for its copy. -/
def RingRec.Hears (x y : RingRec) : Prop := y = { x with bad := y.bad, peers := y.peers, rx := y.rx }

theorem copyCame_hears (s : State) (f : Frame) (side : Option Side) : RingRec.Hears s.ring (s.copyCame f side).ring := by
  unfold State.copyCame
  split
  · split
    · rw [retryOutcome_ring]
      rfl
    · rfl
  · rfl

theorem heard_hears (s : State) (f : Frame) (seq : Option Nat) : RingRec.Hears s.ring (s.heard f seq).ring := rfl

theorem RingRec.Hears.trans {x y z : RingRec} (h : RingRec.Hears x y) (k : RingRec.Hears y z) : RingRec.Hears x z := by
  unfold RingRec.Hears at h k ⊢
  rw [k, h]

theorem accepted_hears (s : State) (f : Frame) : RingRec.Hears s.ring (s.accepted f).ring :=
  (copyCame_hears s f none).trans rfl

/-- What a frame accepted leaves of the ring. -/
theorem accepted_ring (s : State) (f : Frame) : (s.accepted f).ring.sides = s.ring.sides ∧ (s.accepted f).ring.pos = s.ring.pos ∧
    (s.accepted f).ring.exch = s.ring.exch := by
  have h := accepted_hears s f
  unfold RingRec.Hears at h
  rw [h]
  exact ⟨rfl, rfl, rfl⟩

/-! ### A frame sent (R514) -/

theorem setSide_get (s : State) (q k : Side) (x : SideRec) : (s.setSide q x).ring.sides[k] = if q = k then x else s.ring.sides[k] :=
  vset_get s.ring.sides q k x

/-- A frame queued on a side with room. -/
theorem queueOn_room {s : State} {q : Side} (f : Frame) (h : s.ring.sides[q].own.length < 8) :
    s.queueOn q f = s.setSide q { s.ring.sides[q] with own := s.ring.sides[q].own ++ [f] } := if_pos h

theorem queueOn_full {s : State} {q : Side} (f : Frame) (h : ¬s.ring.sides[q].own.length < 8) :
    (s.queueOn q f).ring = { s.ring with drop := min 255 (s.ring.drop + 1) } := by
  unfold State.queueOn
  extract_lets x
  rw [if_neg h, occur_ring]
  rfl

/-- A frame queued on another side. -/
theorem queueOn_other {s : State} {q k : Side} (f : Frame) (h : q ≠ k) : (s.queueOn q f).ring.sides[k] = s.ring.sides[k] := by
  by_cases hroom : s.ring.sides[q].own.length < 8
  · rw [queueOn_room f hroom, setSide_get, if_neg h]
  · exact congrArg (·.sides[k]) (queueOn_full f hroom)

/-- A frame queued changes the queue of its side, and nothing else of it. -/
theorem queueOn_side (s : State) (q : Side) (f : Frame) : ∃ l, (s.queueOn q f).ring.sides[q] = { s.ring.sides[q] with own := l } ∧
    (s.ring.sides[q].own.length < 8 → l = s.ring.sides[q].own ++ [f]) := by
  by_cases h : s.ring.sides[q].own.length < 8
  · rw [queueOn_room f h, setSide_get, if_pos rfl]
    exact ⟨_, rfl, fun _ => rfl⟩
  · exact ⟨s.ring.sides[q].own, congrArg (·.sides[q]) (queueOn_full f h), fun h' => absurd h' h⟩

/-- A frame queued on both sides changes their queues, and nothing else of any side. -/
theorem queueOn_both (s : State) (k : Side) (f : Frame) : ∃ l, ((s.queueOn 0 f).queueOn 1 f).ring.sides[k] =
    { s.ring.sides[k] with own := l } ∧ (s.ring.sides[k].own.length < 8 → l = s.ring.sides[k].own ++ [f]) := by
  obtain rfl | rfl : k = 0 ∨ k = 1 := by revert k; decide
  · obtain ⟨l, hl, hroom⟩ := queueOn_side s 0 f
    exact ⟨l, (queueOn_other f (by decide)).trans hl, hroom⟩
  · obtain ⟨l, hl, hroom⟩ := queueOn_side (s.queueOn 0 f) 1 f
    have ho : (s.queueOn 0 f).ring.sides[(1 : Side)] = s.ring.sides[(1 : Side)] := queueOn_other f (by decide)
    rw [ho] at hl hroom
    exact ⟨l, hl, hroom⟩

/-- A frame sent changes the queues of the sides, and nothing else of any side. -/
theorem send_side (s : State) (k : Side) (f : Frame) : ∃ l, (s.send f).ring.sides[k] = { s.ring.sides[k] with own := l } ∧
    (s.ring.sides[k].own.length < 8 → l = s.ring.sides[k].own ++ [f]) := queueOn_both s.usedSeq k f

/-- A frame sent waits on every side with room. -/
theorem send_own {s : State} {k : Side} (f : Frame) (h : s.ring.sides[k].own.length < 8) :
    (s.send f).ring.sides[k].own = s.ring.sides[k].own ++ [f] := by
  obtain ⟨l, hl, hroom⟩ := send_side s k f
  rw [hl, hroom h]

/-- A frame sent out of sides with room changes the ring alone. -/
theorem send_room {s : State} (f : Frame) (h : ∀ x : Side, s.ring.sides[x].own.length < 8) : ChangesOnly [.ring] s (s.send f) := by
  have h1 : (s.usedSeq.queueOn 0 f).ring.sides[(1 : Side)] = s.ring.sides[(1 : Side)] := queueOn_other f (by decide)
  have e₀ := queueOn_room (s := s.usedSeq) (q := 0) f (h 0)
  have e₁ := queueOn_room (s := s.usedSeq.queueOn 0 f) (q := 1) f (by rw [h1]; exact h 1)
  have b₀ : (s.usedSeq.queueOn 0 f).but [.ring] = s.but [.ring] := by
    rw [e₀]
    rfl
  unfold ChangesOnly State.send
  rw [e₁]
  exact b₀

/-- What a frame sent leaves of the ring. -/
theorem queueOn_ring (s : State) (q : Side) (f : Frame) : (s.queueOn q f).ring =
    { s.ring with sides := (s.queueOn q f).ring.sides, drop := (s.queueOn q f).ring.drop } := by
  by_cases h : s.ring.sides[q].own.length < 8
  · rw [queueOn_room f h]
    rfl
  · rw [queueOn_full f h]

theorem send_ring (s : State) (f : Frame) : (s.send f).ring = { s.ring with
    ownSeq := (s.ring.ownSeq + 1) % 256, sides := (s.send f).ring.sides, drop := (s.send f).ring.drop } := by
  have h := queueOn_ring (s.usedSeq.queueOn 0 f) 1 f
  rw [queueOn_ring s.usedSeq 0 f] at h
  exact h

/-! ### Records of flows changed one after the other -/

/-- Distinct contexts changed in order, each by a rule that rests on nothing but its own record: each is as the rule makes it. -/
theorem forEach_setCtx (g : State → FlowCtx → FlowCtx) (hg : ∀ s c x f, g (State.setCtx s c x) f = g s f) {l : List Ctx} (hl : l.Nodup)
    (s : State) (c : Ctx) :
    (forEach l (fun u c => u.setCtx c (g u u.ctx[c])) s).ctx[c] = if c ∈ l then g s s.ctx[c] else s.ctx[c] := by
  induction l generalizing s with
  | nil => rfl
  | cons a l ih =>
    obtain ⟨ha, hl⟩ := List.nodup_cons.mp hl
    refine (ih hl (s.setCtx a (g s s.ctx[a]))).trans ?_
    rw [hg]
    by_cases hc : c = a
    · obtain rfl := hc
      rw [if_neg ha, if_pos List.mem_cons_self, setCtx_get]
    · rw [setCtx_get_other s _ hc]
      simp [hc]

/-- The Lend and Borrow flows, each named once. -/
theorem exchFlows_nodup (s : State) : s.exchFlows.Nodup := (List.nodup_finRange 160).filter _

/-! ### The exchange (R526, R527) -/

/-- The report of a flow keeps the grant that it names. -/
def reportedFlow (f : FlowCtx) : FlowCtx := if f.d.kind = 5 then { f with peerGrant := f.grant } else f

theorem exchSend_reports {s : State} (hup : s.ringUp = true) (hdue : s.ring.sendDue = true) (hpos : s.ring.pos ≠ 0) (hne : s.exchFlows ≠ [])
    (hroom : ∀ x : Side, s.ring.sides[x].own.length < 8) : ∃ t g, exec .exchSend s = .next t ∧ g.typ = 0x21 ∧ g.dst = 0xFF ∧
      g.payload = (s.exchFlows.take 64).flatMap s.exchEntry ∧ (∀ x : Side, t.ring.sides[x].own = s.ring.sides[x].own ++ [g]) ∧
      t.ring.sendDue = false ∧ ∀ c ∈ s.exchFlows.take 64, s.ctx[c].d.kind = 5 → t.ctx[c].peerGrant = s.ctx[c].grant := by
  obtain ⟨g, hg⟩ : ∃ g, g = s.frame 0xFF 0x21 0 ((s.exchFlows.take 64).flatMap s.exchEntry) := ⟨_, rfl⟩
  obtain ⟨u, hu⟩ : ∃ u : State, u = { s.send g with ring := { (s.send g).ring with sendDue := false } } := ⟨_, rfl⟩
  have hsend : (s.send g).ctx = s.ctx := but_ctx (send_room g hroom) (by decide)
  have hctx : u.ctx = s.ctx := by rw [hu, ← hsend]
  have hfun : (fun (v : State) (c : Ctx) => if v.ctx[c].d.kind = 5 then v.setCtx c { v.ctx[c] with peerGrant := v.ctx[c].grant } else v) =
      fun v c => v.setCtx c (reportedFlow v.ctx[c]) := by
    funext v c
    unfold reportedFlow
    split
    · rfl
    · exact congrArg (fun x => { v with ctx := x }) (vset_self v.ctx c).symm
  have hring (l : List Ctx) : (forEach l (fun v c => v.setCtx c (reportedFlow v.ctx[c])) u).ring = u.ring :=
    forEach_keeps (fun v => v.ring = u.ring) (fun v c => v.setCtx c (reportedFlow v.ctx[c])) (fun v c h => h) l rfl
  have hsides : u.ring.sides = (s.send g).ring.sides := by rw [hu]
  have he : exec .exchSend s = .next (forEach (s.exchFlows.take 64) (fun v c => v.setCtx c (reportedFlow v.ctx[c])) u) := by
    rw [← hfun, hu, hg]
    exact if_pos ⟨hup, hdue, hpos, hne⟩
  refine ⟨_, g, he, by rw [hg]; rfl, by rw [hg]; rfl, by rw [hg]; rfl, fun x => ?_, ?_, fun c hc hk => ?_⟩
  · rw [hring, hsides]
    exact send_own g (hroom x)
  · rw [hring, hu]
  · rw [forEach_setCtx (fun _ => reportedFlow) (fun _ _ _ _ => rfl) ((exchFlows_nodup s).sublist (List.take_sublist ..)), if_pos hc, hctx]
    exact congrArg FlowCtx.peerGrant (if_pos hk)

/-- A Lend or Borrow flow as the evaluation leaves it. -/
def State.evaluated (s : State) (f : FlowCtx) : FlowCtx :=
  let peer := f.d.remote + 1
  let reports := s.ring.exch.filter fun q => q.1 == peer
  let found := (reports.flatMap fun q => exchEntries q.2.2).find? fun (k, n, pos, _) =>
    k == (if f.d.kind = 5 then 2 else 1) && n == s.stkOf f.d && s.stkOf f.d != 0 && pos == s.ring.pos && pos != 0
  if reports = [] then { f with peer := peer, peerGrant := if f.d.kind = 6 then 0 else f.peerGrant }
  else match found with
    | some (_, _, _, g) => { f with
        paired := true, peer := peer, pstag := (reports.getLast?.map fun q => q.2.1).getD f.pstag,
        peerGrant := if f.d.kind = 6 then g else f.peerGrant }
    | none => { f with paired := false, peer := peer, peerGrant := if f.d.kind = 6 then 0 else f.peerGrant }

theorem evaluate_eq (s : State) (c : Ctx) : s.evaluate c = s.setCtx c (s.evaluated s.ctx[c]) := by
  unfold State.evaluate State.evaluated
  dsimp only
  split
  · rfl
  · split <;> next hf => simp only [hf]

/-- The hardware events leave the pairing of a flow and the grant of its peer. -/
theorem settle_pairing (s : State) (c : Ctx) : s.settle.ctx[c].paired = s.ctx[c].paired ∧ s.settle.ctx[c].peerGrant = s.ctx[c].peerGrant := by
  refine settle_ctx_keeps (P := fun f => f.paired = s.ctx[c].paired ∧ f.peerGrant = s.ctx[c].peerGrant) (fun u f h => ?_) ⟨rfl, rfl⟩
  unfold State.settleFlow
  extract_lets hw all
  split
  · split <;> exact h
  · split <;> exact h
  · split <;> exact h
  · split <;> exact h
  · exact h
  · exact h

section
variable {s : State} {f : FlowCtx}

/-- Without a report of the peer the pairing stands. -/
theorem evaluated_unreported (h : ∀ q ∈ s.ring.exch, q.1 ≠ f.d.remote + 1) : (s.evaluated f).paired = f.paired ∧
    (f.d.kind = 6 → (s.evaluated f).peerGrant = 0) := by
  unfold State.evaluated
  extract_lets peer reports found
  have hnil : reports = [] := by simpa [reports, peer] using h
  rw [if_pos hnil]
  exact ⟨rfl, fun hk => if_pos hk⟩

/-- A report of the peer pairs the flow where an entry matches it, and unpairs it where none does. -/
theorem evaluated_reported (hpos : s.ring.pos ≠ 0) (hstk : s.stkOf f.d ≠ 0) (h : ∃ q ∈ s.ring.exch, q.1 = f.d.remote + 1) :
    (s.evaluated f).paired = true ↔ ∃ q ∈ s.ring.exch, q.1 = f.d.remote + 1 ∧ ∃ e ∈ exchEntries q.2.2,
      e.1 = (if f.d.kind = 5 then 2 else 1) ∧ e.2.1 = s.stkOf f.d ∧ e.2.2.1 = s.ring.pos := by
  unfold State.evaluated
  extract_lets peer reports found
  have hne : reports ≠ [] := by simpa [reports, peer] using h
  rw [if_neg hne]
  have hfound : found.isSome = true ↔ ∃ q ∈ s.ring.exch, q.1 = f.d.remote + 1 ∧ ∃ e ∈ exchEntries q.2.2,
      e.1 = (if f.d.kind = 5 then 2 else 1) ∧ e.2.1 = s.stkOf f.d ∧ e.2.2.1 = s.ring.pos := by
    simp only [found, List.find?_isSome, List.mem_flatMap, reports, List.mem_filter, beq_iff_eq, Bool.and_eq_true, bne_iff_ne]
    constructor
    · rintro ⟨e, ⟨q, ⟨hq, hpeer⟩, he⟩, ⟨⟨⟨⟨hk, hn⟩, -⟩, hp⟩, -⟩⟩
      exact ⟨q, hq, hpeer, e, he, hk, hn, hp⟩
    · rintro ⟨q, hq, hpeer, e, he, hk, hn, hp⟩
      exact ⟨e, ⟨q, ⟨hq, hpeer⟩, he⟩, ⟨⟨⟨hk, hn⟩, hstk⟩, hp⟩, hp ▸ hpos⟩
  rw [← hfound]
  clear_value found
  rcases found with - | e <;> simp

end

/-- The evaluation judges every flow of the exchange by the reports that came. -/
theorem exchEvaluation_judges {s : State} {t₀ : Nat} (hdom : s.domOn 1 = true) (hdue : s.ring.evalDue = true) (hat : s.ring.stookAt = some t₀)
    (htime : t₀ + 5000 ≤ s.now) : ∃ t, exec .exchEvaluation s = .next t ∧ t.ring.evalDue = false ∧
      t.ring.nrep = min 255 s.ring.exch.length ∧ ∀ c ∈ s.exchFlows, t.ctx[c].paired = (s.evaluated s.ctx[c]).paired ∧
        t.ctx[c].peerGrant = (s.evaluated s.ctx[c]).peerGrant := by
  obtain ⟨u, hu⟩ : ∃ u : State, u = forEach s.exchFlows (fun v c => v.setCtx c (v.evaluated v.ctx[c])) s := ⟨_, rfl⟩
  have he : exec .exchEvaluation s = .next
      (State.settle { u with ring := { u.ring with evalDue := false, nrep := sat 255 s.ring.exch.length } }) := by
    have hfun : (fun (v : State) (c : Ctx) => v.setCtx c (v.evaluated v.ctx[c])) = State.evaluate := funext₂ fun v c => (evaluate_eq v c).symm
    rw [hu, hfun]
    exact if_pos ⟨hdom, hdue, by simp [hat, htime]⟩
  have hring (v : State) : v.settle.ring = v.ring := but_ring (fs := [.groups, .ctx, .chg]) (by simp) (by decide)
  refine ⟨_, he, by rw [hring], by rw [hring]; rfl, fun c hc => ?_⟩
  have hctx : u.ctx[c] = s.evaluated s.ctx[c] := by
    rw [hu]
    exact (forEach_setCtx State.evaluated (fun _ _ _ _ => rfl) (exchFlows_nodup s) s c).trans (if_pos hc)
  obtain ⟨hp, hg⟩ := settle_pairing { u with ring := { u.ring with evalDue := false, nrep := sat 255 s.ring.exch.length } } c
  exact ⟨hp.trans (congrArg FlowCtx.paired hctx), hg.trans (congrArg FlowCtx.peerGrant hctx)⟩

/-! ### A silent peer (R527) -/

/-- A Lend or Borrow flow without its pairing is Suspended, whatever else the moment brings. -/
theorem settleFlow_unpaired (s : State) {f : FlowCtx} (hk : f.d.kind = 5 ∨ f.d.kind = 6) (hp : f.paired = false)
    (hst : f.st = .live ∨ f.st = .suspended) : (s.settleFlow f).st = .suspended ∧ (s.settleFlow f).scause.getLsbD 5 = true ∧
      (s.settleFlow f).paired = false := by
  have hw : (s.hwCauses f).getLsbD 5 = true := by
    unfold State.hwCauses
    rw [BitVec.getLsbD_or, if_pos (⟨hk, hp⟩ : (f.d.kind = 5 ∨ f.d.kind = 6) ∧ f.paired = false)]
    simp
  have hne (x : BitVec 6) (hx : x.getLsbD 5 = true) : x ≠ 0 := by
    rintro rfl
    simp at hx
  unfold State.settleFlow
  rcases hst with hst | hst <;> simp only [hst]
  · rw [if_neg (hne _ hw)]
    exact ⟨rfl, hw, hp⟩
  · have hall : ((f.scause &&& 1) ||| s.hwCauses f).getLsbD 5 = true := by simp [hw]
    rw [if_neg (hne _ hall)]
    exact ⟨rfl, hall, hp⟩

theorem peerSilent_suspends {s : State} {c : Ctx} (hk : s.ctx[c].d.kind = 5 ∨ s.ctx[c].d.kind = 6)
    (hst : s.ctx[c].st = .live ∨ s.ctx[c].st = .suspended) (hp : s.ctx[c].paired = true)
    (hsilent : ∀ q ∈ s.ring.peers, q.src = s.ctx[c].d.remote + 1 → q.stag = s.ctx[c].pstag → q.heard + 100000 ≤ s.now) :
    ∃ u : State, exec (.peerSilent c) s = .next (u.occur bFLOW 4 c.val) ∧ u.ctx[c].st = .suspended ∧
      u.ctx[c].scause.getLsbD 5 = true ∧ u.ctx[c].paired = false := by
  obtain ⟨x, hx⟩ : ∃ x : FlowCtx, x = { s.ctx[c] with paired := false, peerGrant := 0 } := ⟨_, rfl⟩
  have hfree : s.ctx[c].st ≠ .free := by rcases hst with h | h <;> rw [h] <;> decide
  have hall : ((s.ring.peers.filter fun q => q.src == s.ctx[c].d.remote + 1 && q.stag == s.ctx[c].pstag).all
      fun q => decide (q.heard + 100000 ≤ s.now)) = true := by
    refine List.all_eq_true.mpr fun q hq => decide_eq_true ?_
    obtain ⟨hmem, hpeer⟩ := List.mem_filter.mp hq
    obtain ⟨hsrc, hstag⟩ := Bool.and_eq_true_iff.mp hpeer
    exact hsilent q hmem (beq_iff_eq.mp hsrc) (beq_iff_eq.mp hstag)
  have he : exec (.peerSilent c) s = .next ((s.setCtx c x).settle.occur bFLOW 4 c.val) := by
    rw [hx]
    exact if_pos ⟨hfree, hk, hp, hall⟩
  refine ⟨(s.setCtx c x).settle, he, ?_⟩
  rw [settle_ctx, setCtx_get]
  have hkx : x.d.kind = 5 ∨ x.d.kind = 6 := hx ▸ hk
  obtain ⟨h₁, -, h₃⟩ := settleFlow_unpaired (s.setCtx c x).grouped hkx (by rw [hx]) (hx ▸ hst)
  exact settleFlow_unpaired _ ((settleFlow_d ..).symm ▸ hkx) h₃ (.inr h₁)

/-- Settles O49: broadcasts, reports, their evaluation, and silence. -/
theorem stookExchange : Obligations.StookExchange := by
  refine fun s => ⟨fun f hsrc => if_neg fun h => hsrc h.2.2.2.1, fun f hup ht hd hsrc hrep => ?_, exchSend_reports,
    fun f hup ht hd hown hrep hpos => ?_, fun t₀ hdom hdue hat htime => ?_, fun t₀ hdom hlost hat htime => ?_,
    fun c hk hst hp hsilent => peerSilent_suspends hk hst hp hsilent⟩
  · refine ⟨_, if_pos ⟨hup, ht, hd, hsrc, hrep⟩, fun hpos hlen => ⟨if_pos ⟨hpos, hlen⟩, if_pos ⟨hpos, hlen⟩⟩, rfl, rfl, rfl, rfl, rfl⟩
  · refine ⟨_, if_pos ⟨hup, ht, hd, hown, hrep, hpos⟩, ?_⟩
    obtain ⟨-, -, hexch⟩ := accepted_ring s f
    exact congrArg (· ++ [(f.src.toNat, f.stag.toNat, f.payload)]) hexch
  · obtain ⟨t, he, hd, hn, hflows⟩ := exchEvaluation_judges hdom hdue hat htime
    refine ⟨t, he, hd, hn, fun c hc hpos hstk => ?_⟩
    obtain ⟨hpaired, hgrant⟩ := hflows c hc
    rw [hpaired, hgrant]
    refine ⟨fun h => ?_, fun hrep h => ?_, evaluated_unreported⟩
    · obtain ⟨q, hq, hpeer, he⟩ := h
      exact (evaluated_reported hpos hstk ⟨q, hq, hpeer⟩).mpr ⟨q, hq, hpeer, he⟩
    · refine Bool.eq_false_iff.mpr fun hp => ?_
      obtain ⟨q, hq, hpeer, e, he, hentry⟩ := (evaluated_reported hpos hstk hrep).mp hp
      exact h q hq hpeer e he hentry
  · exact ⟨_, if_pos ⟨hdom, hlost, by simp [hat, htime]⟩, rfl, rfl, rfl⟩

end Sys2Proof.Machine
end

section
/-!
PROOFS. The module as a node of the ring: sides, forwarding, positions (R508, R511, R512, R514, R516-R518).
-/

namespace Sys2Proof.Machine

/-- A passing occurrence brings no cause to stay. -/
theorem occur_live_passing (s : State) (b : Blk) (src : Src) (obj : Nat) : (s.occur b src obj).flt[b].live = s.flt[b].live := by
  have hwarn : s.endWarn.flt[b].live = s.flt[b].live := by
    unfold State.endWarn
    split
    · rfl
    · simp
  have hmark : (s.markLive b src obj false).flt[b].live = s.flt[b].live := by
    unfold State.markLive
    extract_lets t x
    rw [setFlt_get]
    exact hwarn
  unfold State.occur
  split
  · rfl
  split
  · rfl
  extract_lets t
  split
  · exact hmark
  · exact (occurred_adds t b src obj).live.trans hmark

/-! ### Sides (R508, R514) -/

theorem queueOn_live (s : State) (q : Side) (f : Frame) : (s.queueOn q f).flt[bRING].live = s.flt[bRING].live := by
  by_cases h : s.ring.sides[q].own.length < 8
  · rw [queueOn_room f h]
    rfl
  · unfold State.queueOn
    extract_lets x
    rw [if_neg h]
    exact occur_live_passing _ bRING 5 0

/-- A side that comes Up: its cause ends, and without a position IDENT leaves it. -/
theorem ringSideUp_up {s : State} {q : Side} {n : Nat} (hdom : s.domOn 1 = true) (hst : s.ring.sides[q].st ≠ 2) (hn : 4 ≤ n) :
    ∃ t, exec (.ringSideUp q n) s = .next t ∧ t.ring.sides[q].st = 2 ∧ ((⟨1, q.val⟩ : Cause) ∉ t.flt[bRING].live) ∧
      (s.ring.pos = 0 → s.ring.sides[q].own.length < 8 →
        ∃ g : Frame, g.typ = 0x02 ∧ g.dst = 0 ∧ g.src = 0xFE ∧ t.ring.sides[q].own = s.ring.sides[q].own ++ [g]) := by
  obtain ⟨u, hu⟩ : ∃ u : State, u = ((s.setSide q { s.ring.sides[q] with st := 2 }).endCause bRING 1 q.val).endCause bRING 2 0 := ⟨_, rfl⟩
  have hring : u.ring = (s.setSide q { s.ring.sides[q] with st := 2 }).ring := by rw [hu]; rfl
  have hside : u.ring.sides[q] = { s.ring.sides[q] with st := 2 } := by
    rw [hring]
    exact vset_same s.ring.sides q _
  have hpos : u.ring.pos = s.ring.pos := by rw [hring]; rfl
  have hlive : (⟨1, q.val⟩ : Cause) ∉ u.flt[bRING].live := by
    rw [hu]
    exact endCause_not_mem (not_mem_endCause _ bRING 1 q.val) 2 0
  obtain ⟨w, hw⟩ : ∃ w : State, w = { u with ring := { u.ring with identAt := u.now } } := ⟨_, rfl⟩
  have hwr : w.ring.sides = u.ring.sides ∧ w.ring.pos = u.ring.pos ∧ w.flt = u.flt := by
    rw [hw]
    exact ⟨rfl, rfl, rfl⟩
  obtain ⟨hws, hwp, hwf⟩ := hwr
  have he : exec (.ringSideUp q n) s = .next (if u.ring.pos = 0 then w.usedSeq.queueOn q (w.frame 0 0x02 0 w.ident) else u) := by
    rw [hw, hu]
    exact if_pos ⟨hdom, hst, hn⟩
  by_cases hp : s.ring.pos = 0
  · rw [if_pos (hpos.trans hp)] at he
    obtain ⟨l, hl, hroom⟩ := queueOn_side w.usedSeq q (w.frame 0 0x02 0 w.ident)
    have hwq : w.usedSeq.ring.sides[q] = { s.ring.sides[q] with st := 2 } := (congrArg (·[q]) hws).trans hside
    rw [hwq] at hl hroom
    have hsrc : w.srcByte = 0xFE := if_pos (hwp.trans (hpos.trans hp))
    refine ⟨_, he, by rw [hl], ?_, fun _ hr => ⟨w.frame 0 0x02 0 w.ident, rfl, rfl, hsrc, by rw [hl]; exact hroom hr⟩⟩
    rw [queueOn_live, show w.usedSeq.flt = u.flt from hwf]
    exact hlive
  · rw [if_neg (hpos ▸ hp)] at he
    exact ⟨u, he, by rw [hside], hlive, fun h => absurd h hp⟩

/-- A side that goes Down is counted; source 1 names it, and source 2 follows where no side is Up. -/
theorem ringSideDown_down {s : State} {q : Side} {v us : Nat} (hdom : s.domOn 1 = true) (hst : s.ring.sides[q].st = 2)
    (hbad : 4 ≤ v ∨ 10 ≤ us) : ∃ u : State, u.ring.sides[q].st = 0 ∧ u.ring.sides[q].downs = min 255 (s.ring.sides[q].downs + 1) ∧
      exec (.ringSideDown q v us) s = .next (if u.ring.sides.toList.all (·.st != 2)
        then (u.occur bRING 1 q.val true).occur bRING 2 0 true else u.occur bRING 1 q.val true) := by
  obtain ⟨x, hx⟩ : ∃ x : SideRec, x = { s.ring.sides[q] with
    st := 0, downs := sat 255 (s.ring.sides[q].downs + 1), cv := sat 65535 (s.ring.sides[q].cv + v), fwd := none } := ⟨_, rfl⟩
  have hu : (s.setSide q x).ring.sides[q] = x := vset_same s.ring.sides q x
  refine ⟨s.setSide q x, by rw [hu, hx], by rw [hu, hx]; rfl, ?_⟩
  have he : exec (.ringSideDown q v us) s = .next (if ((s.setSide q x).occur bRING 1 q.val true).ring.sides.toList.all (·.st != 2)
      then ((s.setSide q x).occur bRING 1 q.val true).occur bRING 2 0 true else (s.setSide q x).occur bRING 1 q.val true) := by
    rw [hx]
    exact if_pos ⟨hdom, hst, hbad⟩
  rw [he, occur_ring]

/-! ### Forwarding (R511, R512) -/

/-- A conflict of positions touches no side, and leaves the position or clears it. -/
theorem conflict_keeps (s : State) (f : Frame) : (s.conflict f).ring.sides = s.ring.sides ∧ (s.conflict f).ring.hop = s.ring.hop ∧
    (s.conflict f).fuse = s.fuse ∧ ((s.conflict f).ring.pos = s.ring.pos ∨ (s.conflict f).ring.pos = 0 ∧ f.stag ≠ s.stag) := by
  have hfuse : (s.conflict f).fuse = s.fuse := but_fuse (fs := .ring :: reactions) (by simp [reactions]) (by decide)
  refine ⟨?_, ?_, hfuse, ?_⟩
  all_goals unfold State.conflict; split
  · rw [occur_ring]
    rfl
  · rfl
  · rw [occur_ring]
    rfl
  · rfl
  · next h =>
    rw [occur_ring]
    exact .inr ⟨rfl, h.2.2⟩
  · exact .inl rfl

/-- The node behind a valid frame of another: its sides stand, the frame is not its own, and no frame is addressed to it that was not
before. -/
theorem heardFrom_keeps {s : State} {q : Side} {f : Frame} (hown : s.ownFrame f = false) :
    let t := ((s.copyCame f (some q)).heard f none).conflict f
    t.ring.sides = s.ring.sides ∧ t.ring.hop = s.ring.hop ∧ t.ownFrame f = false ∧ (t.addressed f = true → s.addressed f = true) := by
  intro t
  obtain ⟨v, hv⟩ : ∃ v : State, v = (s.copyCame f (some q)).heard f none := ⟨_, rfl⟩
  have hring : RingRec.Hears s.ring v.ring := hv ▸ (copyCame_hears s f (some q)).trans rfl
  have hfuse : v.fuse = s.fuse := hv ▸ but_fuse (fs := .ring :: reactions) (by simp [reactions]) (by decide)
  obtain ⟨hsides, hhop, hpos⟩ : v.ring.sides = s.ring.sides ∧ v.ring.hop = s.ring.hop ∧ v.ring.pos = s.ring.pos := by
    unfold RingRec.Hears at hring
    rw [hring]
    exact ⟨rfl, rfl, rfl⟩
  obtain ⟨hs', hh', hf', hp'⟩ := conflict_keeps v f
  have ht : t = v.conflict f := hv ▸ rfl
  rw [← ht] at hs' hh' hf' hp'
  have hstag : t.stag = s.stag := congrArg (fun x : BitVec 48 => x.truncate 16) (congrArg (·.sn) (hf'.trans hfuse))
  have hserial : t.bySerial f = s.bySerial f := by
    unfold State.bySerial
    rw [hf', hfuse]
  refine ⟨hs'.trans hsides, hh'.trans hhop, ?_, ?_⟩
  · rcases hp' with hp | ⟨-, hne⟩
    · rw [← hown]
      unfold State.ownFrame State.srcByte
      rw [hstag, hp, hpos]
    · have hvs : v.stag = s.stag := congrArg (fun x : BitVec 48 => x.truncate 16) (congrArg (·.sn) hfuse)
      simp [State.ownFrame, hstag, hvs ▸ hne]
  · unfold State.addressed
    rw [hserial]
    rcases hp' with hp | ⟨h0, -⟩
    · rw [hp, hpos]
      exact id
    · rw [h0]
      simp only [bne_self_eq_false, Bool.false_and, Bool.false_or, Bool.or_eq_true]
      tauto

theorem otherSide {q o : Side} (h : o ≠ q) : (if q = 0 then 1 else 0 : Side) = o := by
  revert q o
  decide

section
variable {s : State} {q o : Side} {f : Frame} (hdom : s.domOn 1 = true) (hst : s.ring.sides[q].st = 2)
include hdom hst

/-- A valid frame on an Up side: forwarded by the node that has heard it. -/
theorem ringFrameForward_heard (ho : o ≠ q) (hown : s.ownFrame f = false) : ∃ t : State, t.ring.sides = s.ring.sides ∧
    t.ring.hop = s.ring.hop ∧ (t.addressed f = true → s.addressed f = true) ∧ exec (.ringFrameForward q f true) s =
      if t.addressed f = true ∧ f.dst ≠ 0xFF then .next t
      else if 64 ≤ f.hops.toNat ∧ t.addressed f = false then
        .next (State.occur { t with ring := { t.ring with hop := sat 255 (t.ring.hop + 1) } } bRING 6 0)
      else if t.ring.sides[o].st ≠ 2 then .next t
      else .next (t.setSide o { t.ring.sides[o] with fwd := some { f with hops := f.hops + 1 }, spoilt := false }) := by
  obtain ⟨hsides, hhop, hown', haddr⟩ := heardFrom_keeps (q := q) hown
  refine ⟨_, hsides, hhop, haddr, ?_⟩
  have hcond : ¬(s.domOn 1 = false ∨ s.ring.sides[q].st ≠ 2) := by simpa using ⟨hdom, hst⟩
  refine (if_neg hcond).trans ?_
  simp only [if_true, hown, hown', otherSide ho, Bool.false_eq_true, if_false, false_or, Bool.not_true]

/-- The module's own frame, come back round the ring, goes no further. -/
theorem ringFrameForward_own (hown : s.ownFrame f = true) : exec (.ringFrameForward q f true) s = .next s := by
  have hcond : ¬(s.domOn 1 = false ∨ s.ring.sides[q].st ≠ 2) := by simpa using ⟨hdom, hst⟩
  refine (if_neg hcond).trans ?_
  simp only [if_true, hown, true_or]

theorem ringFrameForward_leaves (ho : o ≠ q) (hown : s.ownFrame f = false) (haddr : ¬(s.addressed f = true ∧ f.dst ≠ 0xFF))
    (hhops : f.hops.toNat < 64) (hup : s.ring.sides[o].st = 2) : ∃ t, exec (.ringFrameForward q f true) s = .next t ∧
      t.ring.sides[o].fwd = some { f with hops := f.hops + 1 } ∧ t.ring.sides[o].spoilt = false := by
  obtain ⟨u, hsides, -, ha, he⟩ := ringFrameForward_heard hdom hst ho hown
  have hu : u.ring.sides[o].st = 2 := by rwa [hsides]
  rw [if_neg (fun h => haddr ⟨ha h.1, h.2⟩), if_neg (by omega), if_neg (not_not.mpr hu)] at he
  have hg := setSide_get u o o { u.ring.sides[o] with fwd := some { f with hops := f.hops + 1 }, spoilt := false }
  rw [if_pos rfl] at hg
  exact ⟨_, he, by rw [hg], by rw [hg]⟩

theorem ringFrameForward_spent (ho : o ≠ q) (hown : s.ownFrame f = false) (haddr : s.addressed f = false) (hhops : 64 ≤ f.hops.toNat) :
    ∃ u : State, exec (.ringFrameForward q f true) s = .next (u.occur bRING 6 0) ∧ u.ring.hop = min 255 (s.ring.hop + 1) ∧
      u.ring.sides = s.ring.sides := by
  obtain ⟨u, hsides, hhop, ha, he⟩ := ringFrameForward_heard hdom hst ho hown
  have hu : u.addressed f = false := Bool.eq_false_iff.mpr fun h => absurd (ha h) (ne_true_of_eq_false haddr)
  rw [if_neg (by simp [hu]), if_pos ⟨hhops, hu⟩] at he
  exact ⟨_, he, congrArg (fun n => min 255 (n + 1)) hhop, hsides⟩

end

/-! ### Positions (R516-R518) -/

/-- IDENT goes out of every side with room, and leaves the rest of each side as it is. -/
theorem sendIdent_sends (s : State) : ∃ g : Frame, g.typ = 0x02 ∧ s.sendIdent.ring.identAt = s.now ∧
    ∀ x : Side, ∃ l, s.sendIdent.ring.sides[x] = { s.ring.sides[x] with own := l } ∧
      (s.ring.sides[x].own.length < 8 → l = s.ring.sides[x].own ++ [g]) := by
  refine ⟨s.frame 0 0x02 0 s.ident, rfl, ?_, fun x => ?_⟩
  · unfold State.sendIdent
    rw [send_ring]
  · exact send_side { s with ring := { s.ring with identAt := s.now } } x _

/-- The first copy of a DISCOVER is answered; every copy leaves its hops with its side. -/
theorem discover_answers {s : State} {q : Side} {f : Frame} (hdom : s.domOn 1 = true) (hst : s.ring.sides[q].st = 2) (ht : f.typ = 0x01)
    (hd : f.dst = 0xFF) : ∃ t, exec (.discover q f) s = .next t ∧ t.ring.sides[q].hop = f.hops.toNat % 128 ∧
      (s.repeated f = false → (∀ x : Side, s.ring.sides[x].own.length < 8) →
        ∃ g : Frame, g.typ = 0x02 ∧ ∀ x : Side, t.ring.sides[x].own = s.ring.sides[x].own ++ [g]) := by
  obtain ⟨u, hu⟩ : ∃ u : State, u = s.setSide q { s.ring.sides[q] with hop := f.hops.toNat % 128 } := ⟨_, rfl⟩
  have hget (x : Side) : u.ring.sides[x] = if q = x then { s.ring.sides[q] with hop := f.hops.toNat % 128 } else s.ring.sides[x] :=
    hu ▸ setSide_get s q x _
  have he : exec (.discover q f) s = .next (if s.repeated f then u else (u.accepted f).sendIdent) := by
    rw [hu]
    exact if_pos ⟨hdom, hst, ht, hd⟩
  by_cases hrep : s.repeated f = true
  · rw [if_pos hrep] at he
    exact ⟨u, he, by rw [hget, if_pos rfl], fun h => absurd hrep (ne_true_of_eq_false h)⟩
  · rw [if_neg hrep] at he
    obtain ⟨g, hg, -, hsides⟩ := sendIdent_sends (u.accepted f)
    obtain ⟨hacc, -, -⟩ := accepted_ring u f
    refine ⟨_, he, ?_, fun _ hroom => ⟨g, hg, fun x => ?_⟩⟩
    · obtain ⟨l, hl, -⟩ := hsides q
      rw [hl, hacc, hget, if_pos rfl]
    · obtain ⟨l, hl, hown⟩ := hsides x
      have hx : u.ring.sides[x].own = s.ring.sides[x].own := by
        rw [hget]
        split
        · next h => rw [h]
        · rfl
      rw [hacc, hx] at hown
      rw [hl]
      exact hown (hroom x)

theorem identPeriodic_sends {s : State} (hup : s.ringUp = true) (hpos : s.ring.pos = 0) (hdue : s.ring.identAt + 1000000 ≤ s.now)
    (hroom : ∀ x : Side, s.ring.sides[x].own.length < 8) : ∃ t, exec .identPeriodic s = .next t ∧ t.ring.identAt = s.now ∧
      ∃ g : Frame, g.typ = 0x02 ∧ ∀ x : Side, t.ring.sides[x].own = s.ring.sides[x].own ++ [g] := by
  obtain ⟨g, hg, hat, hsides⟩ := sendIdent_sends s
  refine ⟨_, if_pos ⟨hup, hpos, hdue⟩, hat, g, hg, fun x => ?_⟩
  obtain ⟨l, hl, hown⟩ := hsides x
  rw [hl]
  exact hown (hroom x)

/-! ### Requests accepted (R513, R519) -/

/-- What a request accepted leaves of the ring. -/
theorem accept_ring (s : State) (f : Frame) : (s.accept f).ring.sides = s.ring.sides ∧ (s.accept f).ring.pos = s.ring.pos := by
  have hcounter (u : State) : (u.usedCounter f).ring.sides = u.ring.sides ∧ (u.usedCounter f).ring.pos = u.ring.pos := by
    unfold State.usedCounter
    split
    · split <;> exact ⟨rfl, rfl⟩
    · exact ⟨rfl, rfl⟩
  have hcontact : ((s.accepted f).contactBy f).ring = (s.accepted f).ring := but_ring (fs := .host :: reactions) (by simp [reactions]) (by decide)
  obtain ⟨hs, hp, -⟩ := accepted_ring s f
  obtain ⟨hs', hp'⟩ := hcounter ((s.accepted f).contactBy f)
  rw [hcontact] at hs' hp'
  unfold State.accept
  exact ⟨hs'.trans hs, hp'.trans hp⟩

/-- A request with its authentication, while the service runs. -/
theorem request_runs {s : State} {f : Frame} (g : State → State) (hauth : s.authOk f = true) (hrun : s.serviceRuns = true) :
    s.request f g = g s := by
  unfold State.request
  rw [if_neg (ne_false_of_eq_true hauth), if_neg (ne_false_of_eq_true hrun)]

theorem answer_own {s : State} {x : Side} (req f : Frame) (h : s.ring.sides[x].own.length < 8) :
    (s.answer req f).ring.sides[x].own = s.ring.sides[x].own ++ [f] := by
  have hsides : (s.answer req f).ring.sides = (s.send f).ring.sides := rfl
  rw [hsides]
  exact send_own f h

/-- ASSIGN sets or clears the position and is answered with status 0. -/
theorem assign_assigns {s : State} {f : Frame} (hhost : s.takesHost f 0x03 = true) (hserial : s.bySerial f = true) (hpos : assignedOf f ≤ 64)
    (hauth : s.authOk f = true) (hrun : s.serviceRuns = true) (hroom : ∀ x : Side, s.ring.sides[x].own.length < 8) :
    ∃ t, exec (.assign f) s = .next t ∧ t.ring.pos = assignedOf f ∧
      ∃ g : Frame, g.typ = 0x12 ∧ g.payload = [0, 0, 0, 0] ∧ ∀ x : Side, t.ring.sides[x].own = s.ring.sides[x].own ++ [g] := by
  obtain ⟨g, hg⟩ : ∃ g, g = State.answerFrame { s with ring := { s.ring with pos := assignedOf f } } f 0x12 (replyPayload 0 []) := ⟨_, rfl⟩
  obtain ⟨v, hv⟩ : ∃ v : State, v = if assignedOf f = 0 then (s.accept f).unplaced
    else { s.accept f with ring := { (s.accept f).ring with pos := assignedOf f } } := ⟨_, rfl⟩
  have hvr : v.ring.pos = assignedOf f ∧ v.ring.sides = s.ring.sides := by
    obtain ⟨hs, -⟩ := accept_ring s f
    rw [hv]
    split
    · next h0 => exact ⟨h0.symm, hs⟩
    · exact ⟨rfl, hs⟩
  obtain ⟨hvp, hvs⟩ := hvr
  have he : exec (.assign f) s = .next (v.answer f g) := by
    refine congrArg Host.Outcome.next ((if_neg ?_).trans ((request_runs _ hauth hrun).trans ?_))
    · rintro (h | h | h)
      · exact absurd hhost (ne_true_of_eq_false h)
      · exact absurd hserial (ne_true_of_eq_false h)
      · omega
    · rw [hv, hg]
  have hgt : g.typ = 0x12 ∧ g.payload = [0, 0, 0, 0] := by
    rw [hg]
    unfold State.answerFrame
    split <;> exact ⟨rfl, rfl⟩
  refine ⟨_, he, ?_, g, hgt.1, hgt.2, fun x => ?_⟩
  · exact (congrArg RingRec.pos (send_ring v g)).trans hvp
  · have hx : v.ring.sides[x].own.length < 8 := hvs ▸ hroom x
    rw [answer_own f g hx, hvs]

/-- Settles O47: the sides, the forwarding of frames, and the positions. -/
theorem ringNode : Obligations.RingNode := by
  refine fun s hdom => ⟨fun q n hst hn => ringSideUp_up hdom hst hn, fun q v us hst => ⟨ringSideDown_down hdom hst, fun f o ho =>
    ⟨ringFrameForward_leaves hdom hst ho, ringFrameForward_own hdom hst, ringFrameForward_spent hdom hst ho⟩,
    fun f => discover_answers hdom hst, fun hpos => identPeriodic_sends ?_ hpos, fun f l hl => ?_⟩,
    fun f => ⟨assign_assigns, fun hup hpos hsrc hstag => ?_⟩⟩
  · unfold State.ringUp
    rw [hdom, Bool.true_and, List.any_eq_true]
    exact ⟨s.ring.sides[q], by simp, by simpa using hst⟩
  · refine ⟨State.setSide { s with ring := { s.ring with tx := sat 65535 (s.ring.tx + 1) } } q { s.ring.sides[q] with own := l, fwd := none }, ?_,
      congrArg SideRec.own (vset_same s.ring.sides q _), rfl⟩
    simp only [exec, execRingOwnFrameSent, hl]
    exact if_pos ⟨hst, hdom⟩
  · refine ⟨s.unplaced, congrArg Host.Outcome.next ((if_pos hup).trans (if_pos ⟨hpos, hsrc, hstag⟩)), rfl⟩

end Sys2Proof.Machine
end

section
/-!
PROOFS. The requests of the host over the ring: replies and refusals, sessions and keys (R513, R519, R520, R524, R525).
-/

namespace Sys2Proof.Machine

/-! ### Answers (R513, R519) -/

theorem answerFrame_carries (s : State) (req : Frame) (typ : Byte) (l : List Byte) :
    (s.answerFrame req typ l).typ = typ ∧ (s.answerFrame req typ l).payload = l := by
  unfold State.answerFrame
  split <;> exact ⟨rfl, rfl⟩

theorem accepted_sides (s : State) (f : Frame) : (s.accepted f).ring.sides = s.ring.sides := (accepted_ring s f).1
theorem accept_sides (s : State) (f : Frame) : (s.accept f).ring.sides = s.ring.sides := (accept_ring s f).1
theorem readWords_sides (s : State) (a n : Nat) : (s.readWords a n).2.ring.sides = s.ring.sides :=
  congrArg RingRec.sides (but_ring (fs := [.sys, .profIO]) (by simp) (by decide))

/-- A request that meets a restarting control core is answered with status 1. -/
theorem request_restarting {s : State} {f : Frame} (g : State → State) (hauth : s.authOk f = true) (hrun : s.serviceRuns = false) : s.request f g = s.refuse f 1 := by
  unfold State.request
  rw [if_neg (ne_false_of_eq_true hauth), if_pos hrun]

/-- A READ taken is judged as a request. -/
theorem ringRead_request {s : State} {f : Frame} (hhost : s.takesHost f 0x10 = true) : exec (.ringRead f) s = .next (s.request f fun s =>
    if addrOk (addrOf f) (byteAt (bodyOf f) 4) = false then s.refuse f 2
    else ((s.accept f).readWords (addrOf f) (byteAt (bodyOf f) 4)).2.answer f
      (s.answerFrame f 0x12 (replyPayload 0 ((s.accept f).readWords (addrOf f) (byteAt (bodyOf f) 4)).1))) :=
  congrArg Host.Outcome.next (if_neg (ne_false_of_eq_true hhost))

theorem ringWrite_request {s : State} {f : Frame} (hhost : s.takesHost f 0x11 = true) : exec (.ringWrite f) s = .next (s.request f fun s =>
    if addrOk (addrOf f) (wordsOf f).length = false ∨ (bodyOf f).length % 4 ≠ 0 then s.refuse f 2
    else ((s.accept f).writeWords (s.trailerOk f) (addrOf f) (wordsOf f)).answer f (s.answerFrame f 0x12 (replyPayload 0 []))) :=
  congrArg Host.Outcome.next (if_neg (ne_false_of_eq_true hhost))

section
variable {s : State} {f : Frame} (hroom : ∀ x : Side, s.ring.sides[x].own.length < 8)
include hroom

/-- An answer sent behind steps that left the sides as they were waits on both. -/
theorem answer_replies {t : State} (ht : t.ring.sides = s.ring.sides) (req g : Frame) (x : Side) :
    (t.answer req g).ring.sides[x].own = s.ring.sides[x].own ++ [g] := by
  have hx : t.ring.sides[x].own.length < 8 := ht ▸ hroom x
  rw [answer_own req g hx, ht]

/-- A request that ends in a status of its own. -/
theorem refuse_replies (f : Frame) (n : Nat) : ∃ g : Frame, g.typ = 0x12 ∧ g.payload = [BitVec.ofNat 8 n, 0, 0, 0] ∧
    ∀ x : Side, (s.refuse f n).ring.sides[x].own = s.ring.sides[x].own ++ [g] := by
  obtain ⟨ht, hp⟩ := answerFrame_carries s f 0x12 (replyPayload n [])
  exact ⟨_, ht, hp, answer_replies hroom (accept_sides s f) f _⟩

/-- A request without its authentication is answered with status 3, and is source 3. -/
theorem request_unauthorized (g : State → State) (hauth : s.authOk f = false) : ∃ u : State, s.request f g = u.occur bRING 3 0 ∧
    ∃ r : Frame, r.typ = 0x12 ∧ r.payload = [3, 0, 0, 0] ∧ ∀ x : Side, u.ring.sides[x].own = s.ring.sides[x].own ++ [r] := by
  obtain ⟨v, hv⟩ : ∃ v : State, v = s.accepted f := ⟨_, rfl⟩
  have hs : v.ring.sides = s.ring.sides := hv ▸ accepted_sides s f
  have he : s.request f g = v.refuseAuth f := by
    rw [hv]
    exact if_pos hauth
  have hside : ({ v with ring := { v.ring with auth := sat 255 (v.ring.auth + 1) } } : State).ring.sides = s.ring.sides := hs
  exact ⟨_, he, v.frame 0 0x12 0 (replyPayload 3 []), rfl, rfl, answer_replies hroom hside f _⟩

/-! ### READ and WRITE (R519) -/

/-- A READ is answered with its words. -/
theorem ringRead_reads (hhost : s.takesHost f 0x10 = true) (hauth : s.authOk f = true) (hrun : s.serviceRuns = true)
    (hok : addrOk (addrOf f) (byteAt (bodyOf f) 4) = true) : ∃ t g, exec (.ringRead f) s = .next t ∧ g.typ = 0x12 ∧
      (∀ x : Side, t.ring.sides[x].own = s.ring.sides[x].own ++ [g]) ∧
      g.payload = replyPayload 0 ((s.accept f).readWords (addrOf f) (byteAt (bodyOf f) 4)).1 := by
  obtain ⟨ht, hp⟩ := answerFrame_carries s f 0x12 (replyPayload 0 ((s.accept f).readWords (addrOf f) (byteAt (bodyOf f) 4)).1)
  have he := ringRead_request hhost
  rw [request_runs _ hauth hrun, if_neg (ne_false_of_eq_true hok)] at he
  exact ⟨_, _, he, ht, answer_replies hroom ((readWords_sides _ _ _).trans (accept_sides s f)) f _, hp⟩

omit hroom in
/-- A WRITE is answered with status 0 behind its words. -/
theorem ringWrite_writes (hhost : s.takesHost f 0x11 = true) (hauth : s.authOk f = true) (hrun : s.serviceRuns = true) {u : State}
    (hok : addrOk (addrOf f) (wordsOf f).length = true) (hlen : (bodyOf f).length % 4 = 0)
    (hu : u = (s.accept f).writeWords (s.trailerOk f) (addrOf f) (wordsOf f)) : ∃ t g, exec (.ringWrite f) s = .next t ∧ t.rw = u.rw ∧
      g.payload = [0, 0, 0, 0] ∧ ∀ x : Side, u.ring.sides[x].own.length < 8 → t.ring.sides[x].own = u.ring.sides[x].own ++ [g] := by
  obtain ⟨-, hp⟩ := answerFrame_carries s f 0x12 (replyPayload 0 [])
  have he := ringWrite_request hhost
  rw [request_runs _ hauth hrun, if_neg (by simp [hok, hlen]), ← hu] at he
  exact ⟨_, _, he, but_rw (fs := .ring :: reactions) (by simp [reactions]) (by decide), hp, fun x hx => answer_own f _ hx⟩

end

/-! ### Requests that the framer answers (R513, R520) -/

theorem ringStatRequest_answers {s : State} {f : Frame} (hroom : ∀ x : Side, s.ring.sides[x].own.length < 8)
    (hhost : s.takesHost f 0x40 = true) (hauth : s.authOk f = true) (hpos : s.ring.pos ≠ 0) :
    ∃ t g, exec (.ringStatRequest f) s = .next t ∧ g.typ = 0x40 ∧ g.payload = (s.accept f).statPayload ∧
      ∀ x : Side, t.ring.sides[x].own = s.ring.sides[x].own ++ [g] := by
  obtain ⟨ht, hp⟩ := answerFrame_carries s f 0x40 (s.accept f).statPayload
  obtain ⟨hsides, hpos'⟩ := accept_ring s f
  have he : exec (.ringStatRequest f) s = .next ((s.accept f).answer f (s.answerFrame f 0x40 (s.accept f).statPayload)) :=
    congrArg Host.Outcome.next ((if_neg (ne_false_of_eq_true hhost)).trans ((if_neg (ne_false_of_eq_true hauth)).trans
      (if_neg (hpos'.symm ▸ hpos))))
  exact ⟨_, _, he, ht, hp, answer_replies hroom hsides f _⟩

/-- A host contact and a counter used leave the sides, the stored replies and the registers. -/
theorem contactBy_ring (s : State) (f : Frame) : (s.contactBy f).ring = s.ring :=
  but_ring (fs := .host :: reactions) (by simp [reactions]) (by decide)

theorem usedCounter_ring (s : State) (f : Frame) : (s.usedCounter f).ring = { s.ring with sess := (s.usedCounter f).ring.sess } := by
  unfold State.usedCounter
  split
  · split <;> rfl
  · rfl

/-- A request sent again is answered with the reply stored for it. -/
theorem ringRetransmission_repeats {s : State} {f g : Frame} {n : Nat × Nat} (hroom : ∀ x : Side, s.ring.sides[x].own.length < 8)
    (hup : s.ringUp = true) (hsrc : f.src = 0) (haddr : s.addressed f = true) (hpos : s.positioned f = true) (hrep : s.repeated f = true)
    (hflag : f.flags.getLsbD 1 = true) (htyp : f.typ = 0x10) (hreq : s.authRequired = false)
    (hfind : (s.ring.replies.find? fun q => q.1 == f.typ.toNat && q.2.1 == f.seq.toNat) = some (n.1, n.2, g)) :
    ∃ t, exec (.ringRetransmission f) s = .next t ∧ (∀ x : Side, t.ring.sides[x].own = s.ring.sides[x].own ++ [g]) ∧ t.rw = s.rw := by
  have hauth : s.authOk f = true := by
    unfold State.authOk
    rw [hreq]
    rfl
  obtain ⟨u, hu⟩ : ∃ u, u = (s.contactBy f).usedCounter f := ⟨_, rfl⟩
  have hring : u.ring = { s.ring with sess := u.ring.sess } := by
    rw [hu, usedCounter_ring, contactBy_ring]
  have hsides : u.ring.sides = s.ring.sides := by rw [hring]
  have hreplies : u.ring.replies = s.ring.replies := by rw [hring]
  have hrw : u.rw = s.rw := hu ▸ but_rw (fs := .host :: .ring :: reactions) (by simp [reactions]) (by decide)
  have he : exec (.ringRetransmission f) s = .next ((u.queueOn 0 g).queueOn 1 g) := by
    refine (if_pos ⟨hup, hsrc, haddr, hpos, hrep, hflag, .inl htyp, by simp [hreq]⟩).trans ((if_neg (ne_false_of_eq_true hauth)).trans ?_)
    dsimp only
    rw [← hu, hreplies, hfind]
  refine ⟨_, he, fun x => ?_, Eq.trans (but_rw (fs := .ring :: reactions) (by simp [reactions]) (by decide)) hrw⟩
  obtain ⟨l, hl, hown⟩ := queueOn_both u x g
  rw [hsides] at hl hown
  rw [hl]
  exact hown (hroom x)

/-! ### Sessions and keys (R524, R525) -/

/-- HELLO opens a session under a key of its own, and CHAL answers it. -/
theorem hello_opens {s : State} {f : Frame} {k : Vector Word 8} (nm : BitVec 128) (hroom : ∀ x : Side, s.ring.sides[x].own.length < 8)
    (hhost : s.takesHost f 0x30 = true) (hrun : s.serviceRuns = true) (hk : s.fuse.keys.getLast? = some k) (hpos : s.ring.pos ≠ 0) :
    ∃ t g, exec (.hello f nm) s = .next t ∧ g.typ = 0x31 ∧ (∀ x : Side, t.ring.sides[x].own = s.ring.sides[x].own ++ [g]) ∧
      t.ring.sess = some { key := Config.hmac k ((bodyOf f).take 16 ++ nonceBytes nm ++ snBytes s.fuse.sn), c := none } ∧
      g.payload = nonceBytes nm ++ nonceBytes (mac (Config.hmac k ((bodyOf f).take 16 ++ nonceBytes nm ++ snBytes s.fuse.sn)) [0x4D]) := by
  obtain ⟨u, hu⟩ : ∃ u, u = (s.accepted f).contactBy f := ⟨_, rfl⟩
  have hring : u.ring = (s.accepted f).ring := hu ▸ contactBy_ring _ f
  obtain ⟨hs, hp, -⟩ := accepted_ring s f
  have hsides : u.ring.sides = s.ring.sides := hring ▸ hs
  have hpos' : u.ring.pos ≠ 0 := by rwa [hring, hp]
  have hfuse : u.fuse = s.fuse := hu ▸ but_fuse (fs := .host :: .ring :: reactions) (by simp [reactions]) (by decide)
  obtain ⟨key, hkey⟩ : ∃ key, key = Config.hmac k ((bodyOf f).take 16 ++ nonceBytes nm ++ snBytes s.fuse.sn) := ⟨_, rfl⟩
  obtain ⟨v, hv⟩ : ∃ v : State, v = { u with ring := { u.ring with sess := some { key := key, c := none } } } := ⟨_, rfl⟩
  obtain ⟨g, hg⟩ : ∃ g, g = v.frame 0 0x31 0 (nonceBytes nm ++ nonceBytes (mac key [0x4D])) := ⟨_, rfl⟩
  have hvs : v.ring.sides = s.ring.sides := by rw [hv, ← hsides]
  have he : exec (.hello f nm) s = .next (v.send g) := by
    refine congrArg Host.Outcome.next ((if_neg (ne_false_of_eq_true hhost)).trans ((if_neg (ne_false_of_eq_true hrun)).trans ?_))
    rw [← hu, hg, hv, hkey, ← hfuse]
    unfold State.helloEffect
    rw [hfuse, hk]
    exact if_neg hpos'
  rw [← hkey]
  refine ⟨_, g, he, by rw [hg]; rfl, fun x => ?_, ?_, by rw [hg]; rfl⟩
  · rw [send_own g (hvs ▸ hroom x), hvs]
  · rw [send_ring, hv]

/-- A key programmed, a session ended, the counters cleared. -/
theorem ringCtl_acts {s : State} (r : Req) (authed : Bool) (hs : s.serves ringCtlAt) :
    (∃ t, exec (.ringKeyprog r authed) s = .next t ∧ t.fuse.keys = if s.fuse.keys.length < 4 ∧ (s.fuse.keys = [] ∨ authed = true ∧
      r = .host) then s.fuse.keys ++ [s.ring.key] else s.fuse.keys) ∧
    (∃ t, exec (.ringEndsess r) s = .next t ∧ t.ring.sess = none) ∧
    ∃ t, exec (.ringClrcnt r) s = .next t ∧ t.ring.rx = 0 ∧ t.ring.tx = 0 ∧ t.ring.crc = 0 ∧ t.ring.auth = 0 := by
  refine ⟨⟨_, congrArg Host.Outcome.next (viaService_serves s r _ _ hs), ?_⟩, ⟨_, congrArg Host.Outcome.next (viaService_serves s r _ _ hs), rfl⟩,
    _, congrArg Host.Outcome.next (viaService_serves s r _ _ hs), rfl, rfl, rfl, rfl⟩
  unfold State.keyprog
  simp only [Bool.and_eq_true, beq_iff_eq]
  split <;> rfl

/-- Settles O48: the requests, their refusals and replies, sessions and keys. -/
theorem ringRequests : Obligations.RingRequests := by
  intro s f hroom replies status
  refine ⟨fun hhost => ⟨fun hauth => ?_, fun hauth hrun => ?_, fun hauth hrun hok => ?_, ringRead_reads hroom hhost, fun us hus hauth hrun => ?_⟩,
    fun hhost hauth hrun => ⟨fun hbad => ?_, fun u => ringWrite_writes hhost hauth hrun⟩, ringStatRequest_answers hroom,
    fun g n => ringRetransmission_repeats hroom, fun hhost hknown hauth => ?_, fun k nm => hello_opens nm hroom, fun r authed => ringCtl_acts r authed⟩
  · obtain ⟨u, hu, hg⟩ := request_unauthorized hroom _ hauth
    exact ⟨u, (ringRead_request hhost).trans (congrArg Host.Outcome.next hu), hg⟩
  · exact ⟨_, (ringRead_request hhost).trans (congrArg Host.Outcome.next (request_restarting _ hauth hrun)), refuse_replies hroom f 1⟩
  · have he := ringRead_request hhost
    rw [request_runs _ hauth hrun, if_pos hok] at he
    exact ⟨_, he, refuse_replies hroom f 2⟩
  · exact ⟨_, congrArg Host.Outcome.next ((if_pos ⟨.inl hhost, hus⟩).trans (request_runs _ hauth hrun)), refuse_replies hroom f 4⟩
  · have he := ringWrite_request hhost
    rw [request_runs _ hauth hrun, if_pos hbad] at he
    exact ⟨_, he, refuse_replies hroom f 2⟩
  · refine ⟨_, congrArg Host.Outcome.next ((if_neg ?_).trans (if_neg (ne_false_of_eq_true hauth))), refuse_replies hroom f 5⟩
    simp [hhost, hknown]

end Sys2Proof.Machine
end

section
/-!
PROOFS. Writes through the register service, and the profile table (R230, R233, R485, R550-R555, R559, R561).
-/

namespace Sys2Proof.Machine

/-! ### The register service (R550-R555) -/

/-- A register written leaves every other one. -/
theorem putReg_reg_other (s : State) {a k : Nat} (v : Word) (h : k ≠ a) : (s.putReg a v).reg k = s.reg k :=
  sget_sput_other _ s.rw a k v h

/-- The cause of an access error, by the top byte of the address and its home domain. -/
theorem accessCause_cause {s : State} {a c : Nat} (h : s.accessCause a = some c) : (21 ≤ a / 0x10000 → c = 1) ∧
    (a / 0x10000 < 21 → s.domOn (homeDomain (a / 0x10000)) = false → c = 2) := by
  unfold State.accessCause at h
  extract_lets b at h
  refine ⟨fun hb => ?_, fun hb hoff => ?_⟩
  · rw [if_pos hb] at h
    exact (Option.some.inj h).symm
  · rw [if_neg (by omega), if_pos hoff] at h
    exact (Option.some.inj h).symm

section
variable {s : State} (r : Req) (hrun : s.serviceRuns = true)
include hrun

theorem registerWrite_narrow {a : BitVec 24} {n : Nat} (v : Word) (h : n ≠ 4 ∨ a.toNat % 4 ≠ 0) :
    exec (.registerWrite r a n v) s = .next (s.accessError 3 r a.toNat) :=
  (if_neg (ne_false_of_eq_true hrun)).trans (if_pos h)

theorem registerWrite_word {a : BitVec 24} (v : Word) (h : a.toNat % 4 = 0) :
    exec (.registerWrite r a 4 v) s = .next (s.writeWord r false a.toNat v).settle :=
  (if_neg (ne_false_of_eq_true hrun)).trans (if_neg (by simp [h]))

/-- A write that meets an access error changes its record alone. -/
theorem registerWrite_error {a : BitVec 24} {c : Nat} (v : Word) (h : a.toNat % 4 = 0) (hc : s.accessCause a.toNat = some c) :
    ∃ t, exec (.registerWrite r a 4 v) s = .next t ∧ t.sys.cause = c ∧ t.sys.req = r.code ∧ t.sys.addr = a.toNat ∧
      t.sys.count = min 65535 (s.sys.count + 1) ∧ t.rw = s.rw := by
  have he : s.writeWord r false a.toNat v = s.accessError c r a.toNat := by
    unfold State.writeWord
    rw [hc]
  have hsys : (s.accessError c r a.toNat).settle.sys = (s.accessError c r a.toNat).sys :=
    but_sys (fs := [.groups, .ctx, .chg]) (by simp) (by decide)
  refine ⟨_, registerWrite_word r hrun v h, ?_⟩
  rw [he, hsys, settle_rw]
  exact ⟨rfl, rfl, rfl, rfl, rfl⟩

/-- THR_BUDP, a plain register: it keeps what it takes of the word, and every other register stands. -/
theorem registerWrite_budp (v : Word) (hinv : s.Inv) (hs : s.serves thrBudpAt) :
    ∃ t q, exec (.registerWrite r (BitVec.ofNat 24 thrBudpAt) 4 v) s = .next t ∧ regSpecAt thrBudpAt = some q ∧
      t.reg thrBudpAt = q.accept v ∧ ∀ a : Nat, a ≠ thrBudpAt → t.reg a = s.reg a := by
  have hspec : regSpecAt thrBudpAt = some thrBudpSpec := by decide +kernel
  have ha : (BitVec.ofNat 24 thrBudpAt).toNat = thrBudpAt := by decide
  have hwrite : s.writeWord r false thrBudpAt v = s.putReg thrBudpAt (thrBudpSpec.accept v) := by
    unfold State.writeWord
    rw [hs.2]
    exact (if_neg (by decide +kernel)).trans (setReg_spec hspec s v)
  have he := registerWrite_word r hrun v (a := BitVec.ofNat 24 thrBudpAt) (by decide)
  rw [ha, hwrite] at he
  exact ⟨_, _, he, hspec, (settle_reg ..).trans (putReg_reg _ _ hinv.rw), fun a hne => (settle_reg ..).trans (putReg_reg_other s _ hne)⟩

end

/-! ### The profile table (R230, R233) -/

section
variable {s : State} (r : Req) {n : Fin 6144}

/-- A PROF_ELO read latches the high word of the entry as it reads back. -/
theorem profEloRead_latches (hs : s.serves (profEloAt n.val)) : ∃ t, exec (.profEloRead r n) s = .next t ∧
    ∃ hi : Word, t.profIO.hi = some (n.val, hi) ∧ ∀ i, i < 32 → hi.getLsbD i = (s.entries.entry n.val).getLsbD (32 + i) := by
  refine ⟨_, congrArg Host.Outcome.next (viaService_serves s r _ _ hs), _, rfl, fun i hi => ?_⟩
  have hbits : Entry.bits (s.entries.entry n.val) 63 32 = (s.entries.entry n.val).toNat >>> 32 := by
    have := (s.entries.entry n.val).isLt
    rw [Entry.bits, Nat.shiftRight_eq_div_pow]
    exact Nat.mod_eq_of_lt (by omega)
  rw [hbits, BitVec.getLsbD_ofNat, Nat.testBit_shiftRight]
  simp [hi, BitVec.getLsbD]

/-- The PROF_EHI write that pairs with the PROF_ELO write before it stores both words at the next iteration. -/
theorem profEhiWrite_pairs {lo : Word} (v : Word) (hinv : s.Inv) (hs : s.serves (profEhiAt n.val)) (hd : s.deferred = [])
    (hlo : s.profIO.lo = some (n.val, lo)) : ∃ t, exec (.profEhiWrite r n v) s = .next t ∧ t.profIO.lo = none ∧ t.prof = s.prof ∧
      t.iterate.entry n.val = BitVec.ofNat 64 (v.toNat * 2 ^ 32 + lo.toNat) ∧ ∀ k, k ≠ n.val → t.iterate.entry k = s.entry k := by
  obtain ⟨w, hw⟩ : ∃ w, w = BitVec.ofNat 64 (v.toNat * 2 ^ 32 + lo.toNat) := ⟨_, rfl⟩
  obtain ⟨t, ht⟩ : ∃ t : State, t = { s with deferred := [.entry n.val w], profIO := { s.profIO with lo := none } } := ⟨_, rfl⟩
  have he : exec (.profEhiWrite r n v) s = .next t := by
    refine congrArg Host.Outcome.next ((viaService_serves s r _ _ hs).trans ?_)
    simp only [State.writeEhi, hlo, hd, if_true, List.nil_append, ht, hw]
  have hprof : t.iterate.prof = sput (fun _ => 0) s.prof n.val w := by
    rw [iterate_one t (.entry n.val w) (by rw [ht]), ht]
    rfl
  refine ⟨t, he, by rw [ht], by rw [ht], ?_, fun k hk => ?_⟩
  · unfold State.entry
    rw [hprof, ← hw]
    exact sget_sput_same _ s.prof 0 n.val w hinv.prof
  · unfold State.entry
    rw [hprof]
    exact sget_sput_other _ s.prof n.val k w hk

/-- One without its pair is torn. -/
theorem profEhiWrite_torn (v : Word) (hs : s.serves (profEhiAt n.val)) (hlo : ∀ lo : Word, s.profIO.lo ≠ some (n.val, lo)) :
    ∃ t, exec (.profEhiWrite r n v) s = .next t ∧ t.prof = s.prof ∧ t.profIO.torn = min 65535 (s.profIO.torn + 1) := by
  refine ⟨{ s with profIO := { s.profIO with torn := sat 65535 (s.profIO.torn + 1) } }, ?_, rfl, rfl⟩
  refine congrArg Host.Outcome.next ((viaService_serves s r _ _ hs).trans ?_)
  unfold State.writeEhi
  split
  · next k w hk => exact if_neg fun h : k = n.val => hlo w (h ▸ hk)
  · rfl

theorem settle_profIO (s : State) : s.settle.profIO = s.profIO := but_profIO (fs := [.groups, .ctx, .chg]) (by simp) (by decide)
theorem iterationEnds_profIO (s : State) : s.iterationEnds.profIO = s.profIO := rfl

/-- A check waits for the next iteration, and then its code stands. -/
theorem profChkRequest_checks (ref : BitVec 13) (hs : s.serves profChkAt) (hd : s.deferred = []) :
    ∃ t, exec (.profChkRequest r ref) s = .next t ∧ ChangesOnly [.deferred] s t ∧ t.iterate.profIO.cdone = true ∧
      t.iterate.profIO.cres = s.profileCheck ref.toNat := by
  obtain ⟨v, hv⟩ : ∃ v : Word, v = BitVec.ofNat 32 ref.toNat := ⟨_, rfl⟩
  have hbits : v.bits 12 0 = ref.toNat := by
    have := ref.isLt
    rw [hv, Word.bits, BitVec.toNat_ofNat, Nat.shiftRight_zero]
    omega
  have hwrite : s.writeCarried profChkAt v = s.checkProfile ref.toNat := by
    rw [← hbits]
    exact dif_neg (by decide)
  have hio : (s.carry profChkAt v).iterate.profIO = (s.checkProfile ref.toNat).profIO := by
    rw [carry_iterate s _ v hd, hwrite, iterationEnds_profIO, settle_profIO]
  refine ⟨_, congrArg Host.Outcome.next (viaService_serves s r _ _ hs), rfl, ?_⟩
  rw [← hv, hio]
  exact ⟨rfl, rfl⟩

end

/-- Settles O51: the writes of the register service, and the profile table. -/
theorem registerAndProfileWrites : Obligations.RegisterAndProfileWrites := by
  refine ⟨fun s r hrun => ⟨fun v hs => ?_, fun a n v h => ⟨_, registerWrite_narrow r hrun v h, rfl, rfl, rfl, rfl, rfl⟩,
    fun a c v h hc => ⟨(accessCause_cause hc).1, (accessCause_cause hc).2, registerWrite_error r hrun v h hc⟩,
    fun v => registerWrite_budp r hrun v, _, rfl, fun hc => ?_⟩,
    fun s r n v hinv => ⟨fun hs => ⟨⟨_, congrArg Host.Outcome.next (viaService_serves s r _ _ hs), rfl, rfl⟩, profEloRead_latches r hs⟩,
      fun hs => ⟨fun lo => profEhiWrite_pairs r v hinv hs, profEhiWrite_torn r v hs⟩, profChkRequest_checks r⟩⟩
  · refine ⟨s.writeRtc v, congrArg Host.Outcome.next (viaService_serves s r _ _ hs), ?_, rfl⟩
    have := v.isLt
    simp only [State.rtc, State.writeRtc, Nat.sub_self, Nat.zero_div, Nat.add_zero]
    omega
  · rw [viaService_serves s r _ _ ⟨hrun, hc⟩]
    exact ⟨rfl, rfl, rfl⟩

end Sys2Proof.Machine
end

section
/-!
PROOFS. Start-up, the loss of power, and retained memory (R486, R494, R496-R501).
-/

namespace Sys2Proof.Machine

/-! ### What leaves the domains on -/

theorem on_of_but {fs : List Fld} {s t : State} (h : t.but fs = s.but fs) (hn : Fld.dom ∉ fs) : t.dom.on = s.dom.on :=
  congrArg DomRec.on (but_dom h hn)

theorem assertSafe_on (s : State) (d : Driver) : (s.assertSafe d).dom.on = s.dom.on := by
  have hstub (u : State) : u.enterStubble.dom.on = u.dom.on := by
    unfold State.enterStubble
    split
    · rw [zeroThresher_dom]
    · rfl
  have hrest (u : State) : ((u.unsettle u.culm.vmeas).stopAll.safeLoads.safePorts.safeActivation).dom = u.dom :=
    but_dom (fs := [.deferred, .img, .fab, .groups, .cells, .culm, .branches, .src, .bat, .fdr, .awn]) (by simp) (by decide)
  unfold State.assertSafe
  extract_lets first t
  split
  · rw [settle_dom, hstub, hrest]
  · rfl

theorem on_enduring (w : BitVec 12) : State.Enduring (fun s => s.dom.on = w) where
  but hb _ h := (on_of_but hb (by decide)).trans h
  safe d h := (assertSafe_on _ d).trans h

theorem occur_on (s : State) (b : Blk) (src : Src) (obj : Nat) (stays : Bool) : (s.occur b src obj stays).dom.on = s.dom.on :=
  Enduring.occur (on_enduring _) b src obj stays rfl
theorem occurHard_on (s : State) (b : Blk) (src : Src) (obj : Nat) (stays : Bool) : (s.occurHard b src obj stays).dom.on = s.dom.on :=
  Enduring.occurHard (on_enduring _) b src obj stays rfl
theorem retryOutcome_on (s : State) (b : Blk) (src : Src) (obj : Nat) (ok : Bool) : (s.retryOutcome b src obj ok).dom.on = s.dom.on :=
  Enduring.retryOutcome (on_enduring _) b src obj ok rfl

/-! ### The loader leaves the domains on (R407, R408) -/

theorem writeBoot_on (s : State) : s.writeBoot.dom.on = s.dom.on := on_of_but (fs := [.img]) (by simp) (by decide)
theorem setBank_on (s : State) (b : Side) (x : BankRec) : (s.setBank b x).dom.on = s.dom.on := rfl

theorem takeBank_on (s : State) (b : Side) : (s.takeBank b).dom.on = s.dom.on := by
  unfold State.takeBank
  split
  · next d _ =>
    have happly : ((s.identify b).applyImage d []).dom.on = s.dom.on :=
      Enduring.applyImage (on_enduring s.dom.on) d [] fun t _ hdom _ => congrArg DomRec.on hdom
    exact (on_of_but (fs := [.prof, .img]) (by simp) (by decide)).trans happly
  · rfl

theorem noBank_on (s : State) : s.noBank.dom.on = s.dom.on := (occur_on ..).trans (writeBoot_on _)

theorem takeOther_on (s : State) (b : Side) : (s.takeOther b).dom.on = s.dom.on := by
  unfold State.takeOther
  extract_lets x t code
  split
  · exact noBank_on t
  · split
    · exact takeBank_on t b
    · exact (noBank_on _).trans ((retryOutcome_on ..).trans (occur_on ..))

theorem readBank_on (s : State) (b : Side) (err : Bool) : (s.readBank b err).1.dom.on = s.dom.on := by
  unfold State.readBank
  split
  · exact (on_of_but (s := s.occur bNVS 1 b.val) (fs := [.nvs, .freeN]) (by simp) (by decide)).trans (occur_on ..)
  · rfl

theorem tryCandidate_on (s : State) (b : Side) (errs : Fin 3) : (s.tryCandidate b errs).dom.on = s.dom.on := by
  have hlost (u : State) (code : Nat) : ((u.invalidBank b code).takeOther (otherBank b)).dom.on = u.dom.on := takeOther_on _ _
  unfold State.tryCandidate
  have h₁ := readBank_on s b (errs != 0)
  generalize s.readBank b (errs != 0) = r at h₁ ⊢
  obtain ⟨u, code⟩ := r
  dsimp only at h₁ ⊢
  split
  · exact (takeBank_on u b).trans h₁
  · have ho := occur_on u bIMG 0 0 false
    split
    · have h₂ := readBank_on (u.occur bIMG 0 0) b (errs == 2)
      generalize (u.occur bIMG 0 0).readBank b (errs == 2) = r' at h₂ ⊢
      obtain ⟨v, code'⟩ := r'
      dsimp only at h₂ ⊢
      have hr := (retryOutcome_on v bIMG 0 0 (code' == 0)).trans (h₂.trans (ho.trans h₁))
      split
      · exact (takeBank_on _ b).trans hr
      · exact (hlost _ _).trans hr
    · exact (hlost _ _).trans (ho.trans h₁)

theorem loadBoth_on (s : State) : s.loadBoth.dom.on = s.dom.on := by
  unfold State.loadBoth
  extract_lets judge t ok b x u
  have hu : u.dom.on = s.dom.on := rfl
  split
  · exact (takeBank_on u b).trans hu
  · exact (noBank_on u).trans hu

theorem takeRecord_on (s : State) (r : BootRec) : (s.takeRecord r).dom.on = s.dom.on := by
  unfold State.takeRecord State.resolveWriting
  refine forEach_keeps (fun t => t.dom.on = s.dom.on) _ (fun t b h => ?_) _ rfl
  split
  · exact (occur_on ..).trans h
  · exact h

theorem loadRecord_on (s : State) (r : BootRec) (errs : Fin 3) : (s.loadRecord r errs).dom.on = s.dom.on := by
  unfold State.loadRecord
  extract_lets b x
  split
  · exact takeOther_on _ _
  · split
    · exact (takeOther_on _ _).trans (occur_on ..)
    · split
      · exact tryCandidate_on _ b errs
      · exact tryCandidate_on s b errs

/-- The loader leaves every domain as it finds it. -/
theorem loadImage_on (s : State) (cal : Bool × Bool) (errs : Fin 3) : (s.loadImage cal errs).dom.on = s.dom.on := by
  unfold State.loadImage
  extract_lets bad x t
  have ht : t.dom.on = s.dom.on := rfl
  clear_value t
  split
  · split
    · exact (occur_on ..).trans ht
    · exact (loadBoth_on t).trans ht
  · next r _ =>
    extract_lets u
    have hu : u.dom.on = s.dom.on := (takeRecord_on t r).trans ht
    split
    · exact (occur_on ..).trans ((writeBoot_on u).trans hu)
    · exact (loadRecord_on u r errs).trans hu

/-! ### Start-up switches its domains on (R486) -/

theorem restoreCopy_on (s : State) : s.restoreCopy.dom.on = s.dom.on := by
  unfold State.restoreCopy
  split
  · rfl
  · exact occur_on ..

theorem bootMemory_on (s : State) : s.bootMemory.dom.on = s.dom.on := by
  unfold State.bootMemory
  extract_lets x t r u v y
  have ht : t.dom.on = s.dom.on := by
    unfold t
    split
    · exact restoreCopy_on s
    · rfl
  have hu : u.dom.on = s.dom.on := ht
  have hv : v.dom.on = s.dom.on := by
    unfold v
    split
    · exact hu
    · exact (occur_on ..).trans hu
  split
  · exact (occur_on ..).trans hv
  · exact hv

theorem canRestart_on (s : State) : s.canRestart.dom.on = s.dom.on := by
  unfold State.canRestart
  extract_lets on c t
  have ht : t.dom.on = s.dom.on := rfl
  clear_value t
  split
  · exact (retryOutcome_on ..).trans ht
  · exact ht

theorem selfTest_on (failed : List Cell) (s : State) (c : Cell) : (s.selfTest failed c).dom.on = s.dom.on := by
  unfold State.selfTest
  extract_lets x
  split
  · split
    · exact occurHard_on ..
    · split <;> rfl
  · rfl

/-- A domain of the start-up switched on: it is on behind the step, and so is every domain that was. -/
theorem powerOn_on (s : State) {d k : Nat} (hd : ¬(4 ≤ d ∧ d ≤ 9)) (h : s.domOn k = true ∨ k = d ∧ d < 12) :
    (State.powerOn [] s d).domOn k = true := by
  unfold State.powerOn
  by_cases hon : s.domOn d = true
  · rw [if_pos hon]
    rcases h with h | ⟨rfl, -⟩
    · exact h
    · exact hon
  rw [if_neg hon, if_neg fun hc => hd ⟨hc.1, hc.2.1⟩]
  extract_lets x t u v
  have ht : t.dom.on = s.dom.on ||| domBit d := rfl
  have hu : u.dom.on = t.dom.on := forEach_keeps (fun w => w.dom.on = t.dom.on) _ (fun w c hw => (selfTest_on [] w c).trans hw) _ rfl
  have hv : v.dom.on = u.dom.on := by
    unfold v
    split
    · exact canRestart_on _
    · split
      · exact on_of_but (fs := [.culm, .awn]) (by simp) (by decide)
      · rfl
  have hall : v.settle.dom.on = s.dom.on ||| domBit d := by rw [settle_dom, hv, hu, ht]
  unfold State.domOn at h ⊢
  rw [hall, BitVec.getLsbD_or, Bool.or_eq_true]
  refine h.imp_right fun ⟨hk, hlt⟩ => ?_
  obtain rfl := hk
  rw [domBit, BitVec.getLsbD_ofNat, Nat.testBit_two_pow_self]
  simp [hlt]

theorem failSelfTest_on (s : State) (k : Sensor) : (s.failSelfTest k).dom.on = s.dom.on := by
  have hfail : (s.failSensor k 5 false).dom.on = s.dom.on := on_of_but (fs := [.deferred, .thm]) (by simp) (by decide)
  have hset (x : SensorRec) : (s.setSensor k x).dom.on = s.dom.on := rfl
  unfold State.failSelfTest
  split
  · exact (occur_on ..).trans (hset _)
  · exact (occurHard_on ..).trans hfail

/-- A start-up reaches Standby with D1, D2, D3, D10 and D11 on beside D0. -/
theorem startup_on {s : State} (cal : Bool × Bool) (errs : Fin 3) (failed : List Cell) (sensors : List Sensor) (hboot : s.dom.boot = true)
    (h0 : s.domOn 0 = true) : ∃ u : State, exec (.startup cal errs failed sensors) s = .next (u.reachStandby failed) ∧
      ∀ d ∈ [0, 1, 2, 3, 10, 11], u.domOn d = true := by
  refine ⟨_, if_pos hboot, fun d hd => ?_⟩
  have hon {t u : State} (h : u.dom.on = t.dom.on) (ht : t.domOn d = true) : u.domOn d = true := (congrArg (·.getLsbD d) h).trans ht
  have hpow (l : List Nat) (t : State) (hl : ∀ k ∈ l, ¬(4 ≤ k ∧ k ≤ 9) ∧ k < 12) (ht : t.domOn d = true ∨ d ∈ l) :
      (l.foldl (State.powerOn []) t).domOn d = true := by
    induction l generalizing t with
    | nil => exact ht.resolve_right List.not_mem_nil
    | cons k l ih =>
      obtain ⟨hk, hlt⟩ := hl k List.mem_cons_self
      refine ih _ (fun j hj => hl j (List.mem_cons_of_mem _ hj)) ?_
      rcases ht with ht | hmem
      · exact .inl (powerOn_on t hk (.inl ht))
      · exact (List.mem_cons.mp hmem).imp (fun he => powerOn_on t hk (.inr ⟨he, hlt⟩)) id
  have hstart : s.domOn d = true ∨ d ∈ [11, 1, 2, 10, 3] := by
    by_cases hd0 : d = 0
    · exact .inl (hd0 ▸ h0)
    · exact .inr (by simp only [List.mem_cons, List.not_mem_nil, or_false] at hd ⊢; tauto)
  have hbase : (s.bootMemory.bootFlows.bootThermal.bootEnergy).dom.on = s.dom.on :=
    (on_of_but (s := s.bootMemory) (fs := [.ret, .flow, .ctx, .thm, .energy]) (by simp) (by decide)).trans (bootMemory_on s)
  have htimer (t : State) : t.startHostTimer.dom.on = t.dom.on := on_of_but (fs := [.host]) (by simp) (by decide)
  have hlog (t : State) : t.bootLog.releaseCore.dom.on = t.dom.on :=
    on_of_but (fs := [.deferred, .flt, .log, .ret, .wdg]) (by simp) (by decide)
  refine hon (htimer _) (hon (loadImage_on _ cal errs) ?_)
  refine forEach_keeps (fun t => t.domOn d = true) _ (fun t k ht => hon (failSelfTest_on t k) ht) _ ?_
  refine hon (hlog _) (hpow _ _ (by decide) ?_)
  exact hstart.imp_left (hon hbase)

/-! ### The loss of power, and hold-up (R497-R500) -/

/-- A save written: the slot holds retained memory with the next save count, or is invalid. -/
theorem saveSlot_saves (s : State) (k : Side) (ok : Bool) : (s.saveSlot k ok).dom.savedAt = s.now ∧
    (s.saveSlot k ok).ret.powerFail = s.ret.powerFail ∧ (ok = false → (s.saveSlot k ok).slots[k] = none) ∧
    (ok = true → ∃ q, (s.saveSlot k ok).slots[k] = some q ∧ q.saveCount = s.ret.saveCount + 1 ∧ q.powerFail = s.ret.powerFail) := by
  have hk (x : Option Retained) : (vset s.slots k x)[k] = x := vset_same s.slots k x
  refine ⟨rfl, rfl, fun h => ?_, fun h => ?_⟩
  · subst h
    exact hk none
  · subst h
    exact ⟨_, hk _, rfl, rfl⟩

/-- A reset of the domains keeps the slots and the flag of the power fail. -/
theorem domainReset_retained (s : State) : s.domainReset.slots = s.slots ∧ s.domainReset.ret.powerFail = s.ret.powerFail := by
  have hs : s.finishProgram.slots = s.slots := but_slots (fs := [.freeN, .nv, .nvs]) (by simp) (by decide)
  have hr : s.finishProgram.ret = s.ret := but_ret (fs := [.freeN, .nv, .nvs]) (by simp) (by decide)
  rw [← hs, ← hr]
  exact ⟨rfl, rfl⟩

/-- The store cut off by the loss of power: the slots and retained memory stand. -/
theorem cutStore_retained (s : State) : s.cutBoot.cutStore.slots = s.slots ∧ s.cutBoot.cutStore.ret = s.ret :=
  ⟨but_slots (fs := [.freeN, .nv, .nvs, .img]) (by simp) (by decide), but_ret (fs := [.freeN, .nv, .nvs, .img]) (by simp) (by decide)⟩

/-- What a power fail makes of the state that the save has left: every domain off, the save as it stands. -/
theorem powerFail_fails {s : State} {mv heldUs : Nat} (ok : Bool) (hst : s.dom.st ≠ .unpowered) (hmv : mv < 16000) (hheld : 20 ≤ heldUs) :
    ∃ t, exec (.powerFail mv heldUs ok) s = .next t ∧ t.dom.st = .unpowered ∧ t.dom.on = 0 ∧
      t.dom.failAt = (if s.dom.st = .dormant then none else some s.now) ∧
      let save := !(s.dom.st == .inReset && (s.dom.boot || s.dom.cold)) && s.dom.st != .dormant
      let u := if save then State.saveSlot { s with ret := { s.ret with powerFail := true } } s.olderSlot ok else s
      t.slots = u.slots ∧ t.ret.powerFail = u.ret.powerFail := by
  refine ⟨_, if_pos ⟨hst, hmv, hheld⟩, rfl, rfl, rfl, ?_⟩
  intro save u
  obtain ⟨hs, hr⟩ := cutStore_retained u
  obtain ⟨hs', hr'⟩ := domainReset_retained { u.cutBoot.cutStore with nvs := { u.cutBoot.cutStore.nvs with ops := [] } }
  exact ⟨hs'.trans hs, hr'.trans (congrArg Retained.powerFail hr)⟩

theorem powerRestoredInHoldup_starts {s : State} {t₀ mv heldUs : Nat} (hfail : s.dom.failAt = some t₀) (hmv : 18000 < mv) (hheld : 1000 ≤ heldUs)
    (hloop : s.dom.resetLoop = false) : ∃ t, exec (.powerRestoredInHoldup mv heldUs) s = .next t ∧ t.dom.st = .inReset ∧ t.dom.boot = true ∧
      t.dom.wake = .restored := by
  obtain ⟨u, hu⟩ : ∃ u : State, exec (.powerRestoredInHoldup mv heldUs) s = .next (u.beginBoot s.dom.cold .restored 0) := by
    simp only [exec, execPowerRestoredInHoldup, hfail, hloop]
    exact ⟨_, if_pos ⟨hmv, hheld⟩⟩
  have hb := beginBoot_booting u s.dom.cold .restored 0
  exact ⟨_, hu, hb.st, hb.boot, hb.wake⟩

/-! ### Saves (R494, R496) -/

theorem retentionSave_saves {s : State} (hst : s.dom.st = .standby ∨ s.inRun = true ∨ s.dom.st = .stubble) (hretry : s.retrying bDOM 7 0 = false)
    (hdue : s.dom.savedAt + 1000000 ≤ s.now) : ∃ t, exec (.retentionSave true) s = .next t ∧ t.dom.savedAt = s.now ∧
      ∃ q, t.slots[s.olderSlot] = some q ∧ q.saveCount = s.ret.saveCount + 1 := by
  obtain ⟨hat, -, -, hslot⟩ := saveSlot_saves s s.olderSlot true
  obtain ⟨q, hq, hcount, -⟩ := hslot rfl
  obtain ⟨t, ht⟩ : ∃ t, t = s.saveSlot s.olderSlot true := ⟨_, rfl⟩
  rw [← ht] at hat hq
  have he : exec (.retentionSave true) s = .next (State.drew { t with dom := { t.dom with pwrW := t.free % 65536 } }) := by
    rw [ht]
    refine (if_pos ⟨hst, .inr hdue⟩).trans ?_
    simp only [hretry, Bool.false_eq_true, if_false, if_true]
  exact ⟨_, he, hat, q, hq, hcount⟩

/-- The energy of a port raised towards retained memory is a value put into its own slot. -/
theorem raise_saveEnergy (s : State) (p : Port) : s.raise 3 (.saveEnergy p) =
    s.putValue ⟨3, .saveEnergy p, 1, .energy (wattHours s.energy[p].1) (wattHours s.energy[p].2)⟩ := rfl

/-- A value put into another slot leaves one that waits. -/
theorem putValue_keeps {s : State} {q r : XSlot} (hq : q ∈ s.xslots) (h : (q.x == r.x && sameSlot q.item r.item) = false) :
    q ∈ (s.putValue r).xslots := by
  unfold State.putValue
  split
  · exact List.mem_map.mpr ⟨q, hq, if_neg (ne_true_of_eq_false h)⟩
  · exact List.mem_append_left _ hq

/-- The checkpoint of every port waits in its slot. -/
theorem energyCheckpoint_saves {s : State} (hdom : s.domOn 3 = true) : ∃ t, exec .energyCheckpoint s = .next t ∧
    ∀ p : Port, ∃ q ∈ t.xslots, q.x = 3 ∧ q.item = .saveEnergy p ∧ q.data = .energy (wattHours s.energy[p].1) (wattHours s.energy[p].2) := by
  refine ⟨_, congrArg Host.Outcome.next (if_pos hdom), fun p => ?_⟩
  obtain ⟨q, hq⟩ : ∃ q : XSlot, q = ⟨3, .saveEnergy p, 1, .energy (wattHours s.energy[p].1) (wattHours s.energy[p].2)⟩ := ⟨_, rfl⟩
  have henergy (t : State) (k : Port) : (t.raise 3 (.saveEnergy k)).energy = t.energy := by
    rw [raise_saveEnergy]
    exact but_energy (fs := [.xslots]) (by simp) (by decide)
  have hput (t : State) (ht : t.energy = s.energy) : q ∈ (t.raise 3 (.saveEnergy p)).xslots := by
    rw [raise_saveEnergy, ht, ← hq]
    exact mem_putValue t q
  have hkeep (t : State) (k : Port) (ht : t.energy = s.energy ∧ q ∈ t.xslots) :
      (t.raise 3 (.saveEnergy k)).energy = s.energy ∧ q ∈ (t.raise 3 (.saveEnergy k)).xslots := by
    obtain ⟨he, hmem⟩ := ht
    refine ⟨(henergy t k).trans he, ?_⟩
    by_cases hk : k = p
    · exact hk ▸ hput t he
    · rw [raise_saveEnergy]
      refine putValue_keeps hmem ?_
      rw [hq]
      simpa [sameSlot] using Ne.symm hk
  have hall := foldl_reaches (fun t => t.energy = s.energy ∧ q ∈ t.xslots) (fun t => t.energy = s.energy)
    (fun (t : State) (k : Port) => t.raise 3 (.saveEnergy k)) (fun t k ht => (henergy t k).trans ht) hkeep
    (fun t ht => ⟨(henergy t p).trans ht, hput t ht⟩) (List.mem_finRange p) (s := s) rfl
  exact ⟨q, hall.2, by rw [hq], by rw [hq], by rw [hq]⟩

/-- D0 stopped: the module is unpowered, and no power fail is remembered. -/
theorem holdupSpent_stops {s : State} {t₀ : Nat} (hfail : s.dom.failAt = some t₀) (hdue : t₀ + 20000 ≤ s.now) :
    ∃ t, exec .holdupSpent s = .next t ∧ t.dom.st = .unpowered ∧ t.dom.on = 0 ∧ t.dom.failAt = none := by
  have hcold : s.coldReset.dom.failAt = none := rfl
  obtain ⟨x, hx⟩ : ∃ x : DomRec, x = { s.coldReset.dom with
    st := .unpowered, on := 0, req := 0, supplyAt := none, holdReady := false, cold := true } := ⟨_, rfl⟩
  refine ⟨{ s.coldReset with dom := x }, ?_, by rw [hx], by rw [hx], by rw [hx]; exact hcold⟩
  simp only [exec, execHoldupSpent, hfail, hx]
  exact if_pos hdue

theorem holdupStoreReady_charges {s : State} (h : s.dom.supplyAt.isSome = true) :
    ∃ t, exec .holdupStoreReady s = .next t ∧ t.dom.holdReady = true := ⟨_, if_pos h, rfl⟩

theorem holdupNotReady_eq (s : State) (lost : Bool) : exec (.holdupNotReady lost) s = execHoldupNotReady lost s := rfl

/-- A store that is not ready 10 s after the supply started is source 2. -/
theorem holdupNotReady_late {s : State} {t₀ : Nat} (hready : s.dom.holdReady = false) (hat : s.dom.supplyAt = some t₀)
    (hdue : t₀ + 10000000 ≤ s.now) : exec (.holdupNotReady false) s = .next (s.occur bDOM 2 0 true) := by
  have hany : (s.dom.supplyAt.any fun t => decide (t + 10000000 ≤ s.now)) = true := by
    rw [hat, Option.any_some]
    exact decide_eq_true hdue
  rw [holdupNotReady_eq]
  simp only [execHoldupNotReady, hready, hany, Bool.false_eq_true, if_false, and_self, if_true]

/-- Readiness lost in Run is source 2. -/
theorem holdupNotReady_lost {s : State} (hready : s.dom.holdReady = true) (hrun : s.inRun = true) :
    ∃ u : State, exec (.holdupNotReady true) s = .next (u.occur bDOM 2 0 true) ∧ u.dom.holdReady = false :=
  ⟨_, if_pos ⟨hready, hrun⟩, rfl⟩

/-- Settles O9: start-up, the loss of power and its return, the hold-up store, and the saves. -/
theorem powerAndRetention : Obligations.PowerAndRetention := by
  refine ⟨fun s cal errs failed sensors => startup_on cal errs failed sensors, fun s mv heldUs ok hne hnd hboot hcold hmv hheld => ?_,
    fun s mv heldUs ok hst hboot hmv hheld => ?_, fun s t₀ mv heldUs => powerRestoredInHoldup_starts, fun s t₀ => holdupSpent_stops,
    fun s => holdupNotReady_lost, fun s t₀ => holdupNotReady_late,
    fun s => holdupStoreReady_charges, fun s => retentionSave_saves, fun s => energyCheckpoint_saves⟩
  · obtain ⟨t, he, hst, hon, hfail, hslots, hret⟩ := powerFail_fails ok hne hmv hheld
    have hsave : (!(s.dom.st == .inReset && (s.dom.boot || s.dom.cold)) && s.dom.st != .dormant) = true := by
      cases hr : s.dom.st <;> simp_all
    rw [if_pos hsave] at hslots hret
    obtain ⟨-, hpf, hbad, hgood⟩ := saveSlot_saves { s with ret := { s.ret with powerFail := true } } s.olderSlot ok
    refine ⟨t, he, hst, hon, by rw [hfail, if_neg hnd], hret.trans hpf, fun h => ?_, fun h => ?_⟩
    · rw [hslots]
      exact hbad h
    · rw [hslots]
      exact hgood h
  · obtain ⟨t, he, hst', -, -, hslots, -⟩ := powerFail_fails ok (by rw [hst]; decide) hmv hheld
    exact ⟨t, he, hst', hslots.trans (by simp [hst, hboot])⟩

end Sys2Proof.Machine
end
